-- ==== Sys2Proof/Word.lean ====
section
/-!
DEFINITION. The words of the Bolorn: bytes, 64-bit register words and 128-bit blocks, and their plainest arithmetic.
-/

namespace Sys2Proof

/-- One octet. -/
abbrev Byte := BitVec 8

/-- A 64-bit register word (R3). -/
abbrev Word := BitVec 64

/-- A 128-bit block (a B register of R86, a cipher block). -/
abbrev Block := BitVec 128

/-- The value of bits `lo` to `lo + w - 1` of a word. -/
def Word.bits (x : Word) (lo w : Nat) : Nat := (x.toNat / 2 ^ lo) % 2 ^ w

/-- The word with bits `lo` to `lo + w - 1` replaced by the low `w` bits of `v`. -/
def Word.setBits (x : Word) (lo w v : Nat) : Word :=
  let m : Word := (BitVec.ofNat 64 (2 ^ w - 1)) <<< lo
  (x &&& ~~~m) ||| ((BitVec.ofNat 64 (v % 2 ^ w)) <<< lo)

/-- One bit of a word as a Bool. -/
def Word.flag (x : Word) (i : Nat) : Bool := x.getLsbD i

/-- 1 for true and 0 for false. -/
def natOfBool (b : Bool) : Nat := if b then 1 else 0

/-- Add with saturation at the largest value of `w` bits. -/
def satAdd (w a b : Nat) : Nat := min (a + b) (2 ^ w - 1)

/-- Ceiling division. -/
def ceilDiv (a b : Nat) : Nat := (a + b - 1) / b

end Sys2Proof
end

