-- ==== Sys2Proof/Machine/KMap.lean ====
section
/-!
DEFINITION. Sparse tables: a list of (key, value) pairs in ONE canonical form, keys strictly rising and no entry equal to
what an unlisted key reads as, so that equal tables are equal data.
-/

namespace Sys2Proof.Machine

/-- A sparse table.  `dflt` in the operations below is what an unlisted key reads as. -/
abbrev KMap (α : Type) := List (Nat × α)

variable {α : Type}

/-- The value at a key. -/
def KMap.get (m : KMap α) (k : Nat) (dflt : α) : α :=
  match m with
  | [] => dflt
  | (k', v) :: r => if k' = k then v else KMap.get r k dflt

/-- The table without a key. -/
def KMap.erase (m : KMap α) (k : Nat) : KMap α :=
  match m with
  | [] => []
  | (k', v) :: r => if k' = k then KMap.erase r k else (k', v) :: KMap.erase r k

/-- The table with a key placed at its ordered position. -/
def KMap.insert (m : KMap α) (k : Nat) (v : α) : KMap α :=
  match m with
  | [] => [(k, v)]
  | (k', v') :: r =>
    if k' = k then (k, v) :: r else if k < k' then (k, v) :: (k', v') :: r else (k', v') :: KMap.insert r k v

/-- The table with `v` at key `k`, in canonical form. -/
def KMap.set [DecidableEq α] (m : KMap α) (k : Nat) (v dflt : α) : KMap α :=
  if v = dflt then KMap.erase m k else KMap.insert m k v

/-- Every key of the table lies above `b`, and the keys rise strictly. -/
def KMap.risesFrom (m : KMap α) (b : Nat) : Bool :=
  match m with
  | [] => true
  | (k, _) :: r => decide (b ≤ k) && KMap.risesFrom r (k + 1)

/-- The canonical form: keys strictly rising, no entry equal to what its key reads as when unlisted. -/
def KMap.wf [DecidableEq α] (m : KMap α) (dflt : Nat → α) : Bool :=
  KMap.risesFrom m 0 && m.all (fun e => decide (e.2 ≠ dflt e.1))

end Sys2Proof.Machine
end

