-- ==== Sys2Proof/Machine/DramTypes.lean ====
section
/-!
DEFINITION. The stacked memory (R437 to R468): lines as they lie in DRAM, and what the operands of its commands say.
-/

namespace Sys2Proof.Machine

/-- A line in DRAM (Table 13-4): its ciphertext, TAG and POISON. The ECC octets are not held (notes/assumptions/51.md). -/
structure DramLine where
  ct : List Byte
  tag : Nat
  poison : Bool
  deriving DecidableEq, Repr

/-- What a read of a line meets in the stack. -/
inductive LineRead where
  /-- a good line -/
  | ok
  /-- an error that ECC corrects -/
  | corrected
  /-- an error that ECC detects and cannot correct -/
  | uncorrectable
  /-- a line whose TAG does not match -/
  | tagFail
  /-- an uncorrectable internal error of the IME (R468) -/
  | internal
  deriving DecidableEq, Repr

/-- An object that lies in a pseudo-channel (Table 13-7). -/
inductive DramObj where
  /-- the record of a number of a let stream -/
  | letRecord (stream number : Nat)
  /-- a frame that a let stream holds for reordering -/
  | held (stream number : Nat)
  /-- a marrow chunk of a queue -/
  | chunk (queue index : Nat)
  deriving DecidableEq, Repr

/-- The stacks. An unlisted line is a good line of zeros under the key and epoch of its range, as start-up leaves it (R454). -/
structure DramState where
  /-- by line address, A[40:7] -/
  lines : KMap (Option DramLine) := []
  /-- the answer of the last line access: its octets, or an error -/
  answer : Option (List Byte) := none
  /-- ranges whose BOUND has passed the last line -/
  passed : List Nat := []
  /-- corrected errors within 24 h: 2^23 × pseudo-channel + row, and the instant (R465) -/
  corrected : List (Nat × Nat) := []
  /-- uncorrectable errors within 24 h: pseudo-channel and the instant (R466) -/
  uncorrectable : List (Nat × Nat) := []
  deriving DecidableEq, Repr

end Sys2Proof.Machine
end

