-- ==== Sys2Proof/Machine/Operand.lean ====
section
/-!
DEFINITION. The operands that commands carry: who writes a register, which lanes of a word a bus access touches, and
the functions that Table 1-7 gives a STATE.
-/

namespace Sys2Proof

/-- Who makes a register access: the host through PF0, or the management controller (R35, R625). -/
inductive Master where
  | host | mcu
  deriving DecidableEq, Repr

/-- The index of a command port in the port's registers: the host port, then the MCU port. -/
def Master.idx : Master → Nat
  | .host => 0
  | .mcu => 1

/-- The other port. -/
def Master.other : Master → Master
  | .host => .mcu
  | .mcu => .host

/-- The lanes of a 64-bit word that an access touches (R601 to R603). -/
inductive Lanes where
  | full | low | high
  deriving DecidableEq, Repr

/-- An access to the doorbell page of a ring (Table 19-3): a write of TAIL; a write of the word at 0x010, with the bit written to ERR;
or a read of the word at an offset. -/
inductive PageAccess where
  | tail (t : BitVec 17)
  | status (clrErr : Bool)
  | read (off : BitVec 12)
  deriving DecidableEq, Repr

/-- TARGET and INDEX as written to `TBL_CMD`. -/
structure TblName where
  target : BitVec 2
  index : BitVec 16
  deriving DecidableEq, Repr

/-- The next block of an engine's keystream-ahead on one of its cores; `parity`: the core's parity check fails (R97, R111). -/
structure PreBlock where
  g : Fin 192
  core : Fin 6
  parity : Bool
  deriving DecidableEq, Repr

/-- What a Kraow frame is mapped from: client 66b blocks, each with its tributary, sync header and data (R224), and the tributaries whose
mapper buffer stands above its upper threshold (true) or below its lower one (R220). -/
structure MapperIn where
  blocks : List (Fin 32 × BitVec 2 × BitVec 64)
  fills : List (Fin 32 × Bool)
  deriving DecidableEq, Repr

/-- The two sides of the device: client ports 0 to 31 and line ports 0 to 31. -/
inductive Side where
  | client | line
  deriving DecidableEq, Repr

/-- The functions that follow Table 1-8 through an EN field and a STATE field of one register (R31, R32).
Frame engines, SAs and power domains follow Table 1-8 too and have rows of their own. -/
inductive Fn where
  /-- pod p of region n (`FEN_POD_CTRL`) -/
  | pod (n : Fin 4) (p : Fin 6)
  /-- port 0 to 31 client, 32 to 63 line (`CPX_PORT_CTRL`, `LPX_PORT_CTRL`) -/
  | port (p : Fin 64)
  /-- tributary t of line port p (`KFR_TRIB`) -/
  | trib (p : Fin 32) (t : Fin 32)
  /-- protection group g (`FAB_PG_CFG`) -/
  | group (g : Fin 16)
  /-- let stream s (`LET_STREAM_CFG`) -/
  | stream (s : Fin 256)
  /-- the pair (`MTL_PAIR_CFG`) -/
  | pair
  /-- the key agent (`GLB_AGT_CTRL`) -/
  | agent
  /-- queue q (`QMG_QCFG`) -/
  | queue (q : Fin 4096)
  /-- re-key of range j of region n (`IME_RKEY_CTRL`) -/
  | rekey (n : Fin 4) (j : Fin 8)
  /-- ring r (`HIF_RING_CFG`) -/
  | ring (r : Fin 512)
  /-- the event ring (`EVT_RING_CFG`) -/
  | eventRing
  /-- the shadow compare of region n (`TBL_SHADOW_CTRL`) -/
  | shadow (n : Fin 4)
  /-- the leaked-buffer audit (`QMG_AUDIT_CTRL`) -/
  | audit
  /-- the background SRAM test of region n (`SRB_TEST_CFG`) -/
  | sramTest (n : Fin 4)
  deriving DecidableEq, Repr

/-- A number for each function: the model's own name of it in the list of functions in service. -/
def Fn.code : Fn → Nat
  | .pod n p => 6 * n + p
  | .port p => 100 + p
  | .trib p t => 200 + 32 * p + t
  | .group g => 1300 + g
  | .stream s => 1400 + s
  | .pair => 1700
  | .agent => 1701
  | .queue q => 2000 + q
  | .rekey n j => 6100 + 8 * n + j
  | .ring r => 6200 + r
  | .eventRing => 6800
  | .shadow n => 6810 + n
  | .audit => 6820
  | .sramTest n => 6830 + n

/-- A function that waits for a draw (R521). -/
inductive DrawUser where
  | stream (s : Fin 256)
  | rekey (n : Fin 4) (j : Fin 8)
  /-- the key agent's new SAK of a line port -/
  | agent (p : Fin 32)
  /-- device start-up: range keys, a new BSK, root generation -/
  | startup
  /-- the seed of a tamper loop -/
  | loop
  deriving DecidableEq, Repr

/-- What a DMA transfer of the host interface belongs to: a frame of a transmit ring with its descriptors, the buffer of a frame
on a receive ring (counted from its first), or another block's DMA through PF0. -/
inductive DmaXfer where
  | tx (r : Fin 256) (descs : List (List (BitVec 64)))
  | rx (r : Fin 256) (buf : Fin 64)
  | other
  deriving DecidableEq, Repr

/-- How a DMA transfer ends (Table 19-6). -/
inductive DmaEnd where
  | ok
  /-- the host completed a request other than successfully -/
  | hostErr
  /-- the source in the Bolorn is uncorrectable or poisoned -/
  | memErr
  deriving DecidableEq, Repr

/-- How a start-up step ends (Tables 21-3 and 21-4), with what only the silicon can tell. -/
inductive StepEnd where
  /-- step 1: the PLLs lock; the core regulator answers (R679) -/
  | supplies (pll avs : Bool)
  /-- step 2: the lockstep check and the ROM's hash agree -/
  | rom (ok : Bool)
  /-- step 3: the conditions present in `TMP_RAW`; a detector fails its injection (R594) -/
  | selfCheck (present : BitVec 16) (missed wipeOk : Bool)
  /-- step 4: the read-back of root A and of root B, in BLANK -/
  | roots (okA okB : Bool)
  /-- step 5: slots A and B read without flash error -/
  | image (readA readB : Bool)
  /-- step 6 -/
  | journal
  /-- step 7: rows (bank, row of the bank) that fail March C−, pseudo-channels (32 × stack + number) that fail training, lanes (16n + j)
  that fail the serial loop -/
  | memory (rows : List (Fin 52 × Nat)) (pcs : List (Fin 256)) (lanes : List (Fin 64))
  /-- step 8 -/
  | ports
  /-- step 9 -/
  | keys
  /-- step 10 -/
  | traffic
  deriving DecidableEq, Repr

/-- A request of the vendor command set (Table 20-3); `bad` is an unknown COMMAND or a wrong LEN. -/
inductive VendorReq where
  | getIdentity
  | getHealth
  | getAlarms
  | readEventLog (first : BitVec 64) (count : BitVec 8)
  | readAoLog
  | getPm (port bin : BitVec 8)
  | ackAlert (seq : BitVec 64)
  | take
  | release
  | setPower (target : BitVec 8)
  | deviceReset (confirm : BitVec 32)
  | powerCycle (confirm : BitVec 32)
  | selectSlot (slot : BitVec 8)
  | zeroise (confirm : BitVec 32)
  | releaseHold
  | bad (command : BitVec 8)
  deriving DecidableEq, Repr

/-- A page request group response (R616). -/
inductive PageResponse where
  | success | invalidRequest | responseFailure
  deriving DecidableEq, Repr

end Sys2Proof
end

