-- ==== Sys2Proof/Machine/PathTypes.lean ====
section
/-!
DEFINITION. How a frame that a port receives ends.
-/

namespace Sys2Proof.Machine

/-- The end of a received frame (Table 4-6). -/
inductive RxEnd where
  /-- whole, with a good FCS -/
  | good
  /-- FCS bad -/
  | badFcs
  /-- cut off by a PCS error -/
  | truncated
  deriving DecidableEq, Repr

/-- What SECDED finds in the words of an item that is moved (R398, R399): in its descriptor, in a row (0 to 31) of the queue's head or
tail, or in its frame data, in a row of one of the region's six frame-buffer banks. -/
inductive HeadErr where
  /-- nothing wrong -/
  | ok
  /-- a corrected error in the descriptor -/
  | descriptorFixed (row : Fin 32)
  /-- an uncorrectable error in the descriptor -/
  | descriptor
  /-- a corrected error in the frame data -/
  | dataFixed (bank : Fin 6) (row : Fin 65536)
  /-- an uncorrectable error in the frame data -/
  | data (bank : Fin 6) (row : Fin 65536)
  deriving DecidableEq, Repr

end Sys2Proof.Machine
end

