-- ==== Sys2Proof/Machine/PortTypes.lean ====
section
/-!
DEFINITION. What a port holds beside its registers.
-/

namespace Sys2Proof.Machine

/-- A port (0 to 31 client, 32 to 63 line), or a mate lane (64, 65). -/
structure PortSt where
  /-- classes that the partner has paused (R297), as a mask -/
  paused : Nat := 0
  /-- fallbacks in a row without reaching ACTIVE (R286) -/
  run : Nat := 0
  /-- lock has been lost in ACTIVE and HOLD_MS runs (R287) -/
  lockLost : Bool := false
  /-- huddle (R288 to R291): messages sent since HUDDLE was entered, those of them with ACK = 1, whether a message of the peer matches,
  whether one with ACK = 1 has matched, whether one has differed, and the content of the last valid one -/
  hudSeq : Nat := 0
  hudAcks : Nat := 0
  hudMatch : Bool := false
  hudAcked : Bool := false
  hudDiffers : Bool := false
  hudPeer : Option (List Byte) := none
  deriving DecidableEq, Repr

/-- The locks that a receiver can lose (R285, Table 7-1). -/
inductive LockKind where
  /-- bit lock, and with it block lock and lane alignment -/
  | bit
  /-- 66b block lock, and with it lane alignment -/
  | block
  /-- lane alignment -/
  | alignment
  deriving DecidableEq, Repr

end Sys2Proof.Machine
end

