-- ==== Sys2Proof/Machine/SrbTypes.lean ====
section
/-!
DEFINITION. What the SRAM banks hold beside their registers: spare rows used, corrected errors seen, the power transition under way
and the save buffers of the background test.
-/

namespace Sys2Proof.Machine

/-- The banks 0 to 51. Tiles: 64 × bank + tile. -/
structure SrbState where
  /-- spare rows used, by tile (R474) -/
  spareRows : KMap Nat := []
  /-- corrected errors within the last 24 h: row (1,024 × tile + row within it, by bank) and instant -/
  corrected : List (Nat × Nat × Nat) := []
  /-- the state that a bank is changing to (R475), by bank: value + 1 -/
  changing : KMap Nat := []
  /-- the region of its own that a bank's 4 KiB save buffer holds a copy of (R481), by bank: POS + 1; 0 where it holds zeros (R485) -/
  saved : KMap Nat := []
  deriving DecidableEq, Repr

/-- The error that a bank's SECDED meets on an access (R472, R473). -/
inductive MemEcc where
  /-- none -/
  | ok
  /-- a single-bit error in a row of the bank -/
  | corrected (row : Fin 65536)
  /-- an uncorrectable error in a row of the bank -/
  | uncorrectable (row : Fin 65536)
  deriving DecidableEq, Repr

end Sys2Proof.Machine
end

