-- ==== Sys2Proof/Machine/TblTypes.lean ====
section
/-!
DEFINITION. The tables of a region: classification, SC and SA entries (Tables 2-3 to 2-6), the per-SA statistics
records (R170), the command ports of the table unit (R59 to R63) and the shadow compare (R77 to R79).  An entry is in
its table exactly when its VALID bit is 1.
-/

namespace Sys2Proof.Machine

/-- A classification entry (Tables 2-3 and 2-4). `key` holds key byte k in bits 8k to 8k + 7. -/
structure ClsEntry where
  key : BitVec 256
  action : Nat
  sc : Nat
  cls : Nat
  letEn : Bool
  letStream : Nat
  volley : Bool
  mirror : Bool
  mirrorQ : Nat
  gen : Nat
  cookie : Word
  deriving DecidableEq, Repr

/-- An SC entry (Table 2-5), and whether the SC is held at PN exhaustion (R164). -/
structure ScEntry where
  en : Bool
  state : Nat
  rx : Bool
  kraow : Bool
  suite : Nat
  curAn : Nat
  nextAn : Nat
  autoSucc : Bool
  inPort : Nat
  clsBound : Bool
  inCls : Nat
  egPort : Nat
  clsRefs : Nat
  sci : Word
  window : Nat
  replayProtect : Bool
  validate : Nat
  confOff : Nat
  encrypt : Bool
  clearTags : Nat
  inclSci : Bool
  es : Bool
  scb : Bool
  trib : Nat
  holdLimit : Nat
  held : Bool
  deriving DecidableEq, Repr

/-- An SA entry (Table 2-6); whether it is under DELETE (R46), whether its soft limit has been reported since it became
ACTIVE (R161), and the direction of its SC at INSERT. -/
structure SaEntry where
  en : Bool
  state : Nat
  life : Nat
  early : Bool
  modeProg : Nat
  kcv : Nat
  pn : Nat
  ssci : Nat
  softLimit : Nat
  refs : Nat
  leaseEnd : Nat
  rx : Bool
  deleting : Bool
  softSeen : Bool
  deriving DecidableEq, Repr

/-- The statistics record of an SA (R170): its direction and its eight counters. -/
structure StatRec where
  rx : Bool := false
  c0 : Nat := 0
  c1 : Nat := 0
  c2 : Nat := 0
  c3 : Nat := 0
  c4 : Nat := 0
  c5 : Nat := 0
  c6 : Nat := 0
  c7 : Nat := 0
  deriving DecidableEq, Repr

/-- A table command as the pair's mirror carries it (R347). -/
structure TblMirror where
  region : Nat
  op : Nat
  target : Nat
  index : Nat
  words : List Word
  deriving DecidableEq, Repr

/-- What a command port of a table unit holds (R59 to R63). -/
inductive PortCmd where
  /-- no command -/
  | idle
  /-- written and not yet begun -/
  | waiting (op target index : Nat) (rsv : Bool)
  /-- executed; `TBL_CMD_END` reports it, with the words of the entry it returns -/
  | executed (result inOvf loc gen : Nat) (data : Option (List Word)) (mir : TblMirror)
  /-- a DELETE of an SA that waits for references and wipes -/
  | deleting (sa : Nat) (mir : TblMirror)
  deriving DecidableEq, Repr

/-- A shadow item that differed and waits for its confirming read (R78). -/
structure ShadowWait where
  item : Nat
  changed : Bool
  deriving DecidableEq, Repr

/-- The table unit of one region. -/
structure TblUnit where
  hostPort : PortCmd := .idle
  mcuPort : PortCmd := .idle
  /-- the master whose command was begun last, for the alternation of R59 -/
  lastMcu : Bool := false
  gen : Nat := 0
  shadowWaits : List ShadowWait := []
  deriving DecidableEq, Repr

/-- Every table of the device. Classification ways: 65,536n + 4 × bucket + way; overflow: 1,024n + index; SCs, SAs and
statistics by their own index. -/
structure TblState where
  cls : KMap (Option ClsEntry) := []
  ovf : KMap (Option ClsEntry) := []
  sc : KMap (Option ScEntry) := []
  sa : KMap (Option SaEntry) := []
  stat : KMap StatRec := []
  /-- the SAs inserted since the device reset, whose records count (R170) -/
  inserted : List Nat := []
  units : KMap TblUnit := []
  deriving DecidableEq, Repr

end Sys2Proof.Machine
end

