-- ==== Sys2Proof/Machine/SyntaxTypes.lean ====
section
/-!
DEFINITION. The operand types of commands that are more than a name or a number.
-/
end

