-- ==== Sys2Proof/Syntax.lean ====
section
/-!
DEFINITION. The commands of the Bolorn: one constructor for each row of the table of operations and events, with the
operands that the rule of the row names.
-/

namespace Sys2Proof

open Machine

/-- A command: a register access, a table or key command, an engine instruction, a frame or message received, a timer that
expires, a completion, or an event on a pin. -/
inductive Instr where
  /-- REGISTER_WRITE (R3). A write to a register that has no row of its own sets its fields according to their
      access codes. -/
  | registerWrite (m : Master) (off : BitVec 27) (lanes : Lanes) (data : Word)
  /-- RC_READ (R6). A read of an RC field returns its value and clears it, keeping any update made in the same
      cycle. -/
  | rcRead (m : Master) (off : BitVec 27) (lanes : Lanes)
  /-- UNMAPPED_ACCESS (R40). An access to a reserved or unassigned BAR0 offset reads 0 or is discarded, and is
      counted and recorded. -/
  | unmappedAccess (m : Master) (off : BitVec 27) (write : Bool)
  /-- UNSUPPORTED_ACCESS (R601). An access of the wrong width or alignment completes as Unsupported Request and
      changes no register. -/
  | unsupportedAccess (off : BitVec 27) (write : Bool)
  /-- FUNCTION_ENABLE (R32). A write of EN = 1 to a function moves its STATE under Table 1-8 and may begin its
      start-up. -/
  | functionEnable (f : Fn)
  /-- FUNCTION_DISABLE (R32). A write of EN = 0 to a function moves it to STOPPING and begins its shut-down. -/
  | functionDisable (f : Fn)
  /-- FUNCTION_STARTUP_DONE (R694). A function's start-up completes and the function enters service. -/
  | functionStartupDone (f : Fn) (fails : List (Fin 8 × Fin 6))
  /-- FUNCTION_SHUTDOWN_DONE (R32). A function's shut-down completes, taking it to OFF, or to ON through
      start-up when an enable is pending. -/
  | functionShutdownDone (f : Fn)
  /-- TBL_INSERT (R54). An INSERT command places a classification, SC or SA entry. -/
  | tblInsert (n : Fin 4) (m : Master) (target : BitVec 2) (index : BitVec 16) (rsv : Bool)
  /-- TBL_DELETE (R62). A DELETE command removes an entry; an SA DELETE waits for references and wipes. -/
  | tblDelete (n : Fin 4) (m : Master) (target : BitVec 2) (index : BitVec 16) (rsv : Bool)
  /-- TBL_MODIFY (R67). A MODIFY command replaces the RW fields of an entry, subject to the refusals of Table
      2-9. -/
  | tblModify (n : Fin 4) (m : Master) (target : BitVec 2) (index : BitVec 16) (rsv : Bool)
  /-- TBL_READ (R60). A READ command returns the entry at INDEX in the staging registers. -/
  | tblRead (n : Fin 4) (m : Master) (target : BitVec 2) (index : BitVec 16) (rsv : Bool)
  /-- TBL_SEARCH (R53). A SEARCH command looks up the staged key and returns the entry found and its location. -/
  | tblSearch (n : Fin 4) (m : Master) (name : TblName) (rsv : Bool)
  /-- TBL_CMD_END (R62). A table command ends; BUSY clears, RESULT becomes valid and DONE raises the
      table-command event. -/
  | tblCmdEnd (n : Fin 4) (m : Master)
  /-- SA_RETIRE_DONE (R46). A RETIRING SA reaches REFS = 0 with every wipe acknowledged and becomes RETIRED,
      INSTALLED or empty. -/
  | saRetireDone (sa : Fin 65536)
  /-- TBL_REF_STALL (R64). REFS of an SA under DELETE or disable is still not 0 after 10 ms, so the
      table-reference-stall event is raised. -/
  | tblRefStall (sa : Fin 65536)
  /-- TBL_SEED_WRITE (R68). A write to TBL_SEED.SEED takes effect only when the region holds no classification
      entry, and otherwise sets REJ. -/
  | tblSeedWrite (n : Fin 4) (seed : BitVec 32) (clr full : Bool)
  /-- SHADOW_ITEM_COMPARE (R77). The background compare reads the next 256-byte shadow item by DMA and compares
      it with the live table. -/
  | shadowItemCompare (n : Fin 4) (read : List Word)
  /-- SHADOW_CONFIRM (R78). A differing item is read again after CONFIRM ms and is logged as a mismatch, or
      skipped. -/
  | shadowConfirm (n : Fin 4) (read : List Word)
  /-- SHADOW_DMA_FAULT (R80). A shadow read fails, which sets DMA_FAULT, raises the shadow-fault event and stops
      the compare. -/
  | shadowDmaFault (n : Fin 4)
  /-- SHADOW_LOG_CLR (R79). A write of LOG_CLR = 1 empties the shadow-compare log. -/
  | shadowLogClr (n : Fin 4)
  /-- CLIENT_FRAME_RX (R14). A frame is received whole on a client port and is parsed, classified, metered and
      admitted. -/
  | clientFrameRx (port : Fin 32) (data : List Byte) (how : RxEnd) (cut : Bool)
  /-- LINE_FRAME_RX (R136). A frame is received whole on an Ethernet-mode line port and is checked in the order
      of Table 4-4. -/
  | lineFrameRx (port : Fin 32) (data : List Byte) (how : RxEnd) (cut : Bool)
  /-- SEQUENCER_DISPATCH (R107). The sequencer assigns a frame its PN and let number and dispatches it to an
      engine inbox once one has room. -/
  | sequencerDispatch (n : Fin 4) (q : Fin 16)
  /-- KSA_PRECHARGE (R111). An engine computes a pre-charge for a request on cores that no thread is using. -/
  | ksaPrecharge (b : PreBlock)
  /-- KSA_CTRL_WRITE (R115). A write of FEN_KSA_CTRL sets keystream-ahead parameters; EN = 0 wipes every slot of
      the region. -/
  | ksaCtrlWrite (n : Fin 4) (en : Bool) (ahead : BitVec 3) (maxlen : BitVec 8)
  /-- REORDER_RELEASE (R108). The reorder stage releases a work item once every earlier item of its port and
      class has been released or dropped. -/
  | reorderRelease (n : Fin 4) (q : Fin 16) (cls : Fin 8)
  /-- FABRIC_CREDIT_GRANT (R386). A destination region grants a credit once the destination queue can admit the
      waiting frame. -/
  | fabricCreditGrant (q : Fin 4096) (src : Fin 4)
  /-- FABRIC_TRANSFER (R371). The fabric moves a frame against a credit to its egress region, replicating it
      where required. -/
  | fabricTransfer (q : Fin 4096) (src : Fin 4) (err : HeadErr)
  /-- EGRESS_SELECT (R412). When a port can start a frame, its scheduler chooses the next eligible queue and
      starts that queue's head item. -/
  | egressSelect (port : Fin 64) (err : HeadErr) (late cut : Bool)
  /-- ADD (R87). 64-bit integer add. -/
  | addE (g : Fin 192) (t : Fin 4) (rd rs1 rs2 : Fin 32)
  /-- SUB (R87). 64-bit integer subtract. -/
  | subE (g : Fin 192) (t : Fin 4) (rd rs1 rs2 : Fin 32)
  /-- AND (R87). 64-bit bitwise AND. -/
  | andE (g : Fin 192) (t : Fin 4) (rd rs1 rs2 : Fin 32)
  /-- OR (R87). 64-bit bitwise OR. -/
  | orE (g : Fin 192) (t : Fin 4) (rd rs1 rs2 : Fin 32)
  /-- XOR (R87). 64-bit bitwise XOR. -/
  | xorE (g : Fin 192) (t : Fin 4) (rd rs1 rs2 : Fin 32)
  /-- SHL (R87). 64-bit shift left. -/
  | shl (g : Fin 192) (t : Fin 4) (rd rs1 rs2 : Fin 32)
  /-- SHR (R87). 64-bit logical shift right. -/
  | shr (g : Fin 192) (t : Fin 4) (rd rs1 rs2 : Fin 32)
  /-- SAR (R87). 64-bit arithmetic shift right. -/
  | sar (g : Fin 192) (t : Fin 4) (rd rs1 rs2 : Fin 32)
  /-- ROT (R87). 64-bit rotate. -/
  | rot (g : Fin 192) (t : Fin 4) (rd rs1 rs2 : Fin 32)
  /-- CMP (R87). 64-bit compare. -/
  | cmp (g : Fin 192) (t : Fin 4) (rd rs1 rs2 : Fin 32)
  /-- ADDI (R87). Add of a 16-bit immediate. -/
  | addi (g : Fin 192) (t : Fin 4) (rd rs1 : Fin 32) (imm : BitVec 16)
  /-- ANDI (R87). AND with a 16-bit immediate. -/
  | andi (g : Fin 192) (t : Fin 4) (rd rs1 : Fin 32) (imm : BitVec 16)
  /-- ORI (R87). OR with a 16-bit immediate. -/
  | ori (g : Fin 192) (t : Fin 4) (rd rs1 : Fin 32) (imm : BitVec 16)
  /-- XORI (R87). XOR with a 16-bit immediate. -/
  | xori (g : Fin 192) (t : Fin 4) (rd rs1 : Fin 32) (imm : BitVec 16)
  /-- LUI (R87). Load of an upper immediate. -/
  | lui (g : Fin 192) (t : Fin 4) (rd : Fin 32) (imm : BitVec 16)
  /-- MUL (R87). Low 64 bits of a product, with a latency of 3 cycles. -/
  | mul (g : Fin 192) (t : Fin 4) (rd rs1 rs2 : Fin 32)
  /-- LD (R91). Load of 8 to 64 bits from data memory within the thread's allowed areas. -/
  | ld (g : Fin 192) (t : Fin 4) (size : Fin 4) (rd rs1 : Fin 32) (imm : BitVec 16) (mem : MemEcc)
  /-- ST (R91). Store of 8 to 64 bits to the thread's private area. -/
  | st (g : Fin 192) (t : Fin 4) (size : Fin 4) (rd rs1 : Fin 32) (imm : BitVec 16) (mem : MemEcc)
  /-- LDC (R91). 64-bit load relative to the program counter, from the program's own code. -/
  | ldc (g : Fin 192) (t : Fin 4) (rd : Fin 32) (imm : BitVec 16)
  /-- BEQ (R87). Branch if equal. -/
  | beq (g : Fin 192) (t : Fin 4) (rd rs1 : Fin 32) (imm : BitVec 16)
  /-- BNE (R87). Branch if not equal. -/
  | bne (g : Fin 192) (t : Fin 4) (rd rs1 : Fin 32) (imm : BitVec 16)
  /-- BLT (R87). Branch if less than. -/
  | blt (g : Fin 192) (t : Fin 4) (rd rs1 : Fin 32) (imm : BitVec 16)
  /-- BGE (R87). Branch if greater than or equal. -/
  | bge (g : Fin 192) (t : Fin 4) (rd rs1 : Fin 32) (imm : BitVec 16)
  /-- JAL (R87). Call with link. -/
  | jal (g : Fin 192) (t : Fin 4) (off : BitVec 26)
  /-- JR (R87). Jump through a register, or return. -/
  | jr (g : Fin 192) (t : Fin 4) (rs1 : Fin 32)
  /-- FLD (R91). Load of 8 bytes from the frame window into an e register. -/
  | fld (g : Fin 192) (t : Fin 4) (rd rs1 : Fin 32) (imm : BitVec 16) (poison : Bool)
  /-- FST (R91). Store of 8 bytes from an e register to the frame window. -/
  | fst (g : Fin 192) (t : Fin 4) (rd rs1 : Fin 32) (imm : BitVec 16) (poison : Bool)
  /-- BLDF (R91). Load of 16 bytes from the frame window into a b register. -/
  | bldf (g : Fin 192) (t : Fin 4) (bd rs1 : Fin 32) (imm : BitVec 16) (poison : Bool)
  /-- BSTF (R91). Store of 16 bytes from a b register to the frame window. -/
  | bstf (g : Fin 192) (t : Fin 4) (bd rs1 : Fin 32) (imm : BitVec 16) (poison : Bool)
  /-- BXOR (R87). 128-bit block XOR. -/
  | bxor (g : Fin 192) (t : Fin 4) (bd bs1 bs2 : Fin 32)
  /-- BMOV (R87). 128-bit block move. -/
  | bmov (g : Fin 192) (t : Fin 4) (bd bs1 : Fin 32)
  /-- BREV (R87). Byte reverse of a block register. -/
  | brev (g : Fin 192) (t : Fin 4) (bd bs1 : Fin 32)
  /-- BINC32 (R87). Increment of block bits [31:0] modulo 2^32. -/
  | binc32 (g : Fin 192) (t : Fin 4) (bd bs1 : Fin 32)
  /-- BINS (R87). Move of a 64-bit half from an e register into a b register. -/
  | bins (g : Fin 192) (t : Fin 4) (bd rs1 : Fin 32) (high : Bool)
  /-- BEXT (R87). Move of a 64-bit half from a b register into an e register. -/
  | bext (g : Fin 192) (t : Fin 4) (rd bs1 : Fin 32) (high : Bool)
  /-- KLD (R92). Loads the key bound to the work item into the masked cores, counting a use where it applies. -/
  | kld (g : Fin 192) (t : Fin 4) (mask : BitVec 6)
  /-- KNONCE (R93). Forms J0 from the bound key's salt and the frame's numbers, writing only J0. -/
  | knonce (g : Fin 192) (t : Fin 4) (bd : Fin 32) (form : Fin 16)
  /-- CENC (R95). Raw AES encryption of one block on a core. -/
  | cenc (g : Fin 192) (t : Fin 4) (bd bs1 : Fin 32) (core : Fin 6) (parity : Bool)
  /-- CDEC (R95). Raw AES decryption of one block on a core. -/
  | cdec (g : Fin 192) (t : Fin 4) (bd bs1 : Fin 32) (core : Fin 6) (parity : Bool)
  /-- GFMUL (R90). GF(2^128) multiply. -/
  | gfmul (g : Fin 192) (t : Fin 4) (bd bs1 bs2 : Fin 32)
  /-- GFACC (R90). GF(2^128) accumulate and multiply. -/
  | gfacc (g : Fin 192) (t : Fin 4) (bd bs1 bs2 : Fin 32)
  /-- KSGET (R113). Reads block i of the thread's pre-charge slot, stalling until that block is ready. -/
  | ksget (g : Fin 192) (t : Fin 4) (bd : Fin 32) (i : Fin 128)
  /-- TAGCMP (R94). Compares a block with 16 frame bytes in constant time. -/
  | tagcmp (g : Fin 192) (t : Fin 4) (bs1 : Fin 32) (off : BitVec 16)
  /-- WAIT (R82). The thread takes the next work item from its inbox, stalling while the inbox is empty. -/
  | waitE (g : Fin 192) (t : Fin 4) (bad : Bool)
  /-- FEND (R122). Ends the work item with PASS or FAIL; FAIL overwrites the output with zeros. -/
  | fend (g : Fin 192) (t : Fin 4) (pass : Bool)
  /-- ERLS (R122). Early release of decrypted output up to an offset, for SAs with EARLY_RELEASE = 1. -/
  | erls (g : Fin 192) (t : Fin 4) (off : BitVec 16)
  /-- FEN_FENCE (R696). A write of FENCE to FEN_ENG disables the engine and starts its fence. -/
  | fenFence (n : Fin 4) (e : Fin 48) (restore : Bool)
  /-- FEN_RESTORE (R125). A write of RESTORE to an OFF engine clears its memory and runs the known-answer test
      on its cores. -/
  | fenRestore (n : Fin 4) (e : Fin 48)
  /-- ENGINE_FENCE_DONE (R124). A fence completes once the engine holds no work item and its wipes are done, and
      STATE reads OFF. -/
  | engineFenceDone (n : Fin 4) (e : Fin 48)
  /-- ENGINE_RESTORE_DONE (R125). A restore's known-answer test ends and the engine rejoins the rotation, or
      fails under R37. -/
  | engineRestoreDone (n : Fin 4) (e : Fin 48) (passed : BitVec 6)
  /-- ENGINE_WATCHDOG (R109). A thread holds a work item longer than LIMIT, so the engine is fenced with cause
      WATCHDOG. -/
  | engineWatchdog (n : Fin 4) (e : Fin 48) (t : Fin 4)
  /-- ENGINE_MEMORY_FENCE (R124). An uncorrectable error in engine data memory or the keystream-ahead buffer
      fences the engine with cause MEMORY. -/
  | engineMemoryFence (n : Fin 4) (e : Fin 48)
  /-- KAT_CORE_TEST (R126). The background test runs known-answer vectors on the next core of the region. -/
  | katCoreTest (n : Fin 4) (pass : Bool)
  /-- KAT_FORCED_TAKE (R127). A core not found free within PERIOD / 288 is taken for test at the end of its
      current block. -/
  | katForcedTake (n : Fin 4) (pass : Bool)
  /-- KEY_WIPE_ACK (R117). An engine zeroes the slots and core key registers of the key and acknowledges; the
      erase ends with the last acknowledgement. -/
  | keyWipeAck (g : Fin 192) (kh : Fin 69632)
  /-- FEN_MP_LOAD (R99). A LOAD command reads, checks and verifies a mode program and installs it in a set. -/
  | fenMpLoad (n : Fin 4) (set : Fin 2) (slot : Fin 64) (kh : BitVec 17) (image : Option (List Byte)) (pub : List Byte)
  /-- FEN_MP_UNLOAD (R101). An UNLOAD command removes a mode program from a set unless an SA names the slot. -/
  | fenMpUnload (n : Fin 4) (set : Fin 2) (slot : Fin 64)
  /-- FEN_MP_LOAD_UCODE (R101). A LOAD_UCODE command installs engine microcode into a set that no running pod
      uses. -/
  | fenMpLoadUcode (n : Fin 4) (set : Fin 2) (kh : BitVec 17) (image : Option (List Byte)) (pub : List Byte)
  /-- FEN_MP_CMD_END (R104). A mode-program command ends, setting RESULT and DONE and raising the mode-program
      event. -/
  | fenMpCmdEnd (n : Fin 4)
  /-- SAT_STAT_CMD (R169). A write to SAT_STAT_CMD snapshots the eight counters of an SA, and clears them when
      CLEAR = 1. -/
  | satStatCmd (n : Fin 4) (sa : Fin 65536) (clear : Bool)
  /-- SAT_STAT_END (R169). The statistics snapshot completes and BUSY clears. -/
  | satStatEnd (n : Fin 4)
  /-- DEUCE_WINDOW_EXPIRY (R174). WINDOW ms have passed since an SA entered DEUCE, so the SA goes to RETIRING. -/
  | deuceWindowExpiry (sa : Fin 65536)
  /-- DEUCE_IDLE_EXPIRY (R174). IDLE ms have passed without a frame accepted under the DEUCE SA, so the SA goes
      to RETIRING. -/
  | deuceIdleExpiry (sa : Fin 65536)
  /-- KRAOW_FRAME_TX (R203). The KFR builds, encrypts and sends the next Kraow frame with its overhead,
      tributaries and embedded channels. -/
  | kraowFrameTx (p : Fin 32) (i : MapperIn)
  /-- KRAOW_FRAME_RX (R150). A received Kraow frame is verified and accepted, or treated as failing, and its
      payload is demapped. -/
  | kraowFrameRx (p : Fin 32) (octets : List Byte)
  /-- TEST_CLEAR_WRITE (R241). A write of KFR_CFG.TEST_CLEAR switches test mode, and is ignored while any key-SC
      SA is live. -/
  | testClearWrite (p : Fin 32) (on : Bool)
  /-- TRIB_STARTUP_BEGIN (R243). An enabled tributary begins sending at the first multiframe boundary at least 4
      Kraow frames after the enable. -/
  | tribStartupBegin (p : Fin 32) (t : Fin 32)
  /-- MKPDU_RX (R190). An MKPDU received by EAPOL or the K-channel is processed by the key agent or passed to a
      PF1 ring. -/
  | mkpduRx (p : Fin 32) (octets : List Byte)
  /-- MKA_HELLO_TIMER (R190). The MKA hello time expires and the agent sends an MKPDU. -/
  | mkaHelloTimer (p : Fin 32)
  /-- MKA_LIFE_EXPIRY (R190). No MKPDU has arrived from a peer within the MKA life time, so the peer is declared
      lost. -/
  | mkaLifeExpiry (p : Fin 32)
  /-- AGENT_REKEY_TIMER (R194). REKEY_S seconds have passed since the last distribution, so the key server
      distributes a new SAK. -/
  | agentRekeyTimer (p : Fin 32)
  /-- AGENT_REKEY (R194). A write of GLB_AGT_CTRL.REKEY = 1 requests a new SAK on every port where the agent is
      key server. -/
  | agentRekey
  /-- AGENT_RETIRE_OLD_AN (R195). Once the old SAs have reached RETIRED after the deuce, the agent deletes them. -/
  | agentRetireOldAn (p : Fin 32)
  /-- NO_FRESH_SAK_TIMEOUT (R200). No fresh SAK arrives within the MKA life time after the peer becomes live, so
      no-fresh-SAK is raised. -/
  | noFreshSakTimeout (p : Fin 32)
  /-- AGT_PORT_WRITE (R198). A write to GLB_AGT_PORT is discarded while EN = 1, and its enable checks the SUITE,
      SCs and CAK. -/
  | agtPortWrite (p : Fin 32) (data : Word)
  /-- DEFECT_INTEGRATION_EXPIRY (R244). A defect's declaration or clearing time elapses, so the defect is
      declared or cleared. -/
  | defectIntegrationExpiry (p : Fin 32) (i : Fin 5)
  /-- PROTECTION_SWITCH (R262). A changed selection is applied: frames are aborted, queues drain to the new port
      and SEL is set. -/
  | protectionSwitch (g : Fin 16)
  /-- WTR_EXPIRY (R261). Wait-to-restore runs out and a revertive group selects W. -/
  | wtrExpiry (g : Fin 16)
  /-- PROTECTION_MISMATCH_TIMER (R264). Received SEL differs from the local selection for 50 ms, so MISMATCH is
      set and an event raised. -/
  | protectionMismatchTimer (g : Fin 16)
  /-- PG_CMD_NONE (R260). A write of CMD = none clears the group's command request. -/
  | pgCmdNone (g : Fin 16)
  /-- PG_CMD_LOCKOUT (R260). A write of CMD = LOCKOUT locks the group to W. -/
  | pgCmdLockout (g : Fin 16)
  /-- PG_CMD_FORCE_P (R260). A write of CMD = FORCE_P forces selection of P. -/
  | pgCmdForceP (g : Fin 16)
  /-- PG_CMD_MANUAL_W (R260). A write of CMD = MANUAL_W requests W at rank 6. -/
  | pgCmdManualW (g : Fin 16)
  /-- PG_CMD_MANUAL_P (R260). A write of CMD = MANUAL_P requests P at rank 6. -/
  | pgCmdManualP (g : Fin 16)
  /-- PM_SECOND_BOUNDARY (R265). At each second boundary the raw PM counters of every line port are copied to
      KFR_PM_SNAP and restarted. -/
  | pmSecondBoundary (fec : List (Fin 32 × BitVec 48 × BitVec 32))
  /-- LANE_SIGNAL_CHANGE (R272). A lane's signal detector reports signal or no signal after 1 µs at its level. -/
  | laneSignalChange (lane : Fin 66) (sig : Bool)
  /-- DETECT_SIGNAL_TIMER (R284). Every lane has reported signal for 1 ms, so bring-up moves from DETECT to
      TRAIN. -/
  | detectSignalTimer (p : Fin 66)
  /-- TRAIN_COMPLETE (R284). Link training completes on every lane, so bring-up moves to LOCK. -/
  | trainComplete (p : Fin 66)
  /-- TRAIN_TIMEOUT (R284). TRAIN_MS elapses, so the port falls back to DETECT. -/
  | trainTimeout (p : Fin 66)
  /-- LOCK_ACHIEVED (R284). Bit, block and alignment lock are achieved, so the port goes to HUDDLE or ACTIVE. -/
  | lockAchieved (p : Fin 66)
  /-- LOCK_TIMEOUT (R284). LOCK_MS elapses in LOCK, so the port falls back to DETECT. -/
  | lockTimeout (p : Fin 66)
  /-- LOCK_LOSS (R285). Lock is lost, which returns a port in LOCK to its bit-lock step or starts the HOLD_MS
      timer in ACTIVE. -/
  | lockLoss (p : Fin 66) (lane : Fin 8) (kind : LockKind)
  /-- HOLD_TIMEOUT (R284). Lock loss or Kraow OOF has lasted HOLD_MS in ACTIVE, so the port leaves ACTIVE for
      DETECT. -/
  | holdTimeout (p : Fin 66)
  /-- HUDDLE_MSG_TX (R288). A port in HUDDLE sends a huddle message every 1 ms. -/
  | huddleMsgTx (p : Fin 66)
  /-- HUDDLE_MSG_RX (R289). A huddle message is received and validated, and may move the port to ACTIVE or
      record a mismatch. -/
  | huddleMsgRx (p : Fin 66) (content : List Byte)
  /-- HUDDLE_TIMEOUT (R290). HUD_MS elapses in HUDDLE, so the port falls back to DETECT. -/
  | huddleTimeout (p : Fin 66)
  /-- LINK_FAULT_RX (R296). Local or remote fault starts or stops being received, which stops or resumes MAC
      transmission. -/
  | linkFaultRx (p : Fin 64) (on : Bool)
  /-- PFC_FRAME_RX (R297). A received PFC frame pauses or resumes the enabled priorities and is dropped. -/
  | pfcFrameRx (p : Fin 64) (enable : BitVec 8) (nonzero : BitVec 8)
  /-- PFC_REFRESH (R297). A pause still requested is refreshed at half its quanta. -/
  | pfcRefresh (p : Fin 64)
  /-- PFC_PAUSE_EXPIRY (R297). A received pause's quanta expire and the class may send again. -/
  | pfcPauseExpiry (p : Fin 64) (c : Fin 8)
  /-- PREEMPT_VERIFY_END (R298). The pre-emption verify exchange succeeds or fails, making pre-emption active or
      setting PE to FAILED. -/
  | preemptVerifyEnd (k : Fin 32) (ok : Bool)
  /-- LANE_RESTORE (R301). A write of RESTORE to a retired lane starts a 1 ms PRBS31Q near-end loop test. -/
  | laneRestore (lane : Fin 64)
  /-- LANE_RESTORE_DONE (R301). The lane restore test ends, and the lane returns to service when no bit error
      was found. -/
  | laneRestoreDone (lane : Fin 64) (ok : Bool)
  /-- PRBS_WRITE (R300). A write starting a PRBS generator or checker takes effect only while the lane's port is
      OFF. -/
  | prbsWrite (lane : Fin 64) (gen : BitVec 2) (chk : BitVec 2)
  /-- PORT_COMPLEX_FENCE (R275). An uncorrectable PCS, FEC or MAC logic error fences the port complex. -/
  | portComplexFence (side : Side) (n : Fin 4)
  /-- PMODE_WRITE (R277). A write of PMODE is discarded while any port of the complex is not OFF or the buffer
      pool would go negative. -/
  | pmodeWrite (side : Side) (n : Fin 4) (pmode : BitVec 4)
  /-- LET_REPLAY_SEND (R319). The sending half replays the next record in number order within its rate share. -/
  | letReplaySend (st : Fin 256)
  /-- LET_ACK_RX (R329). An ACK is accepted, which raises CUM, frees records and sets LINKED, or the ACK is
      rejected. -/
  | letAckRx (st : Fin 256) (sc : Option (Fin 16384)) (port : Fin 32) (inst : BitVec 32) (value : BitVec 64)
  /-- LET_NAK_RX (R320). An accepted NAK causes replay of the named numbers still held, or a HELLO. -/
  | letNakRx (st : Fin 256) (sc : Option (Fin 16384)) (port : Fin 32) (inst : BitVec 32) (value : BitVec 64) (ranges : List (BitVec 64 × BitVec 64))
  /-- LET_HELLO_RX (R330). A HELLO is applied to gaps and losses, or restarts the receiving half. -/
  | letHelloRx (st : Fin 256) (sc : Option (Fin 16384)) (port : Fin 32) (inst : BitVec 32) (first next : BitVec 64) (ranges : List (BitVec 64 × BitVec 64))
  /-- LET_ACK_TIMER (R328). ACK_US elapses and the receiving half sends an ACK on every usable control port. -/
  | letAckTimer (st : Fin 256)
  /-- LET_HELLO_TIMER (R328). HELLO_US elapses and the sending half sends a HELLO. -/
  | letHelloTimer (st : Fin 256)
  /-- LET_SKEW_EXPIRY (R324). A gap's skew wait ends and a NAK naming the missing numbers is sent. -/
  | letSkewExpiry (st : Fin 256) (number : BitVec 64)
  /-- LET_NAK_REPEAT (R324). SKEW_MS passes with a gap still missing numbers, so the NAK is repeated. -/
  | letNakRepeat (st : Fin 256)
  /-- LET_LOSS_EXPIRY (R325). LOSS_MS has passed since the first NAK of a number, so the number is declared
      lost. -/
  | letLossExpiry (st : Fin 256) (first last : BitVec 64)
  /-- LET_ACK_TIMEOUT (R318). No ACK has been accepted for ACK_TMO_MS in NORMAL with numbers outstanding, so the
      stream goes to REPLAYING. -/
  | letAckTimeout (st : Fin 256)
  /-- LET_RESUME (R334). A write of RESUME = 1 clears SUSPENDED unless the stream is full. -/
  | letResume (st : Fin 256)
  /-- LET_SHUTDOWN_DRAIN_END (R338). CUM reaches NEXT − 1 or LOSS_MS passes, so the stream frees its records and
      stops control messages. -/
  | letShutdownDrainEnd (st : Fin 256)
  /-- LET_SHUTDOWN_QUIET (R338). 250 ms after the stream's last transmission, its STATE reads OFF. -/
  | letShutdownQuiet (st : Fin 256)
  /-- PAIR_ROLE_TIMER (R343). The 500 ms mate-link wait, or the further 1 s, expires and the role is decided. -/
  | pairRoleTimer
  /-- ACTIVE_IN_CHANGE (R344). The filtered ACTIVE_IN level changes. -/
  | activeInChange (level : Bool)
  /-- DUAL_ACTIVE_DETECT (R344). ACTIVE_IN has read 1 for 10 µs on an active device, so one device yields to
      LIBERO_SYNCING. -/
  | dualActiveDetect
  /-- MATE_PRESENT_CHANGE (R364). The filtered MATE_PRESENT level changes, which may take an active to
      ACTIVE_ALONE. -/
  | matePresentChange (level : Bool)
  /-- HEARTBEAT_LOSS (R342). The MCU or FAB heartbeat has been absent 2 ms, so the MTL drives ACTIVE_OUT to
      0b00. -/
  | heartbeatLoss
  /-- RALLY_HEALTH_TX (R348). Every 1 ms each device sends a HEALTH message. -/
  | rallyHealthTx
  /-- RALLY_DELIVERY_TX (R348). Every 1 ms the active sends a DELIVERY message with RX_NEXT of each stream. -/
  | rallyDeliveryTx
  /-- RALLY_HEALTH_RX (R349). A valid HEALTH message is received and updates the pair state. -/
  | rallyHealthRx (octets : List Byte) (prefer : Bool) (ports : List (Fin 64 × BitVec 8 × BitVec 8 × BitVec 8))
  /-- RALLY_DELIVERY_RX (R357). A DELIVERY message sets the libero's delivered bound per stream. -/
  | rallyDeliveryRx (octets : List Byte)
  /-- RALLY_CHECKPOINT_RX (R353). The libero compares a received checkpoint with its own, and may put the stream
      out of step. -/
  | rallyCheckpointRx (octets : List Byte)
  /-- RALLY_LEASE_REQ_RX (R360). The libero acknowledges a lease request once prior MIRRORs are applied. -/
  | rallyLeaseReqRx (octets : List Byte)
  /-- RALLY_LEASE_ACK_RX (R359). The active raises LEASE_END on the matching LEASE_ACK, releasing waiting
      frames. -/
  | rallyLeaseAckRx (octets : List Byte)
  /-- RALLY_ANCHOR_RX (R355). The libero searches for the anchor frames and renumbers the stream when they
      match. -/
  | rallyAnchorRx (octets : List Byte)
  /-- RALLY_ANCHOR_REQ_RX (R355). The active answers ANCHOR_REQ with an ANCHOR. -/
  | rallyAnchorReqRx (octets : List Byte)
  /-- RALLY_MIRROR_RX (R346). The libero applies a mirrored KST write or table command. -/
  | rallyMirrorRx (octets : List Byte)
  /-- RALLY_ALERT_RX (R365). An ALERT from the active triggers a takeover by the libero. -/
  | rallyAlertRx (octets : List Byte)
  /-- RALLY_TAKEOVER_RX (R366). The active ends its frames, disables its transmitters, answers TAKEOVER_ACK and
      drops ACTIVE_OUT. -/
  | rallyTakeoverRx (octets : List Byte)
  /-- RALLY_TAKEOVER_ACK_RX (R366). The libero drives ACTIVE_OUT to 0b11, applies the lease skip and starts
      sending. -/
  | rallyTakeoverAckRx (octets : List Byte)
  /-- RALLY_MISSED (R351). 1 ms passes without a valid HEALTH, and three in a row are a rally loss. -/
  | rallyMissed
  /-- TAKEOVER_WINDOW_EXPIRY (R366). The 20 µs window ends without an ACK, and the libero becomes active. -/
  | takeoverWindowExpiry
  /-- CHECKPOINT_TIMEOUT (R354). The libero has not reached a checkpoint's number within 100 ms, so the stream
      goes out of step. -/
  | checkpointTimeout (st : Fin 256) (number : BitVec 64)
  /-- ANCHOR_RETRY (R355). After 4,096 further frames without an anchor match, the libero sends ANCHOR_REQ
      again. -/
  | anchorRetry (st : Fin 256)
  /-- MTL_YIELD (R365). A write of MTL_PAIR_CMD YIELD on the active requests a takeover by the libero. -/
  | mtlYield (force : Bool)
  /-- MTL_TAKE (R365). A write of MTL_PAIR_CMD TAKE on the libero starts a takeover, with FORCE where required. -/
  | mtlTake (force : Bool)
  /-- LIBERO_LANE_TEST (R352). Every 10 s a libero runs a 1 ms PRBS31Q loop on each unused lane. -/
  | liberoLaneTest (failed : List (Fin 64))
  /-- MARROW_SPILL (R392). The QMG packs the oldest tail items into a marrow chunk, writes it and frees their
      cells. -/
  | marrowSpill (q : Fin 4096)
  /-- MARROW_REFILL (R394). The QMG reads the oldest chunk back into the head as cells become free. -/
  | marrowRefill (q : Fin 4096) (bad : Bool)
  /-- FLUSH_COMPLETE (R402). A port-down flush completes, FLUSHING clears and held new items may be sent. -/
  | flushComplete (q : Fin 4096)
  /-- AUDIT_OBJECT_CHECK (R407). The leaked-buffer audit examines the next object and reclaims it when orphaned
      in two consecutive passes. -/
  | auditObjectCheck (n : Fin 4) (kind : Fin 3) (index : BitVec 23) (owner : BitVec 12) (stamp : BitVec 8) (orphaned last : Bool)
  /-- AUDIT_LOG_CLR (R408). A write of LOG_CLR = 1 empties the audit log. -/
  | auditLogClr
  /-- LAT_DEPTH_SAMPLE (R431). Every INTERVAL_US each sampled queue's depth is recorded and a delay sample
      armed. -/
  | latDepthSample
  /-- LAT_QUEUE_SNAPSHOT (R436). SCH_LAT_CMD OP = queue snapshot copies one queue's statistics, clearing them
      when CLEAR = 1. -/
  | latQueueSnapshot (q : Fin 4096) (clear : Bool)
  /-- LAT_HIST_SNAPSHOT (R436). SCH_LAT_CMD OP = histogram snapshot copies one group's histogram. -/
  | latHistSnapshot (g : Fin 64) (clear : Bool)
  /-- LAT_SNAPSHOT_END (R436). A latency snapshot copy completes and BUSY clears. -/
  | latSnapshotEnd
  /-- LAT_HCFG_WRITE (R435). A write of SCH_LAT_HCFG sets the group's bins and zeroes its histogram. -/
  | latHcfgWrite (g : Fin 64) (binNs : BitVec 16) (scale : Bool)
  /-- QSHAPE_WRITE (R419). A write of SCH_QSHAPE changes rate and burst, clips the credit, and zeroes statistics
      when LAT_EN rises. -/
  | qshapeWrite (q : Fin 4096) (rate : BitVec 21) (burst : BitVec 24) (latEn : Bool)
  /-- METER_WRITE (R426). A write to SCH_METER applies to later frames and refills both buckets. -/
  | meterWrite (m : Fin 512) (w : Fin 2) (data : BitVec 64)
  /-- IME_LINE_READ (R449). The IME reads a line, corrects it, checks POISON and TAG, and decrypts it or poisons
      it and returns an error. -/
  | imeLineRead (a : BitVec 41) (e e2 : Machine.LineRead) (lost : List Machine.DramObj)
  /-- IME_LINE_WRITE (R448). A full-line write is encrypted, tagged and written with POISON = 0. -/
  | imeLineWrite (a : BitVec 41) (data : List Byte)
  /-- IME_PARTIAL_WRITE (R450). A partial write is carried out as read, merge and write, or refused and
      poisoned. -/
  | imePartialWrite (a : BitVec 41) (data : List Byte) (e e2 : Machine.LineRead) (lost : List Machine.DramObj)
  /-- REKEY_LINE_MOVE (R458). The IME moves the line at BOUND to the new key and epoch and advances BOUND. -/
  | rekeyLineMove (n : Fin 4) (j : Fin 8) (e : Machine.LineRead) (lost : List Machine.DramObj)
  /-- PATROL_READ (R463). The patrol reads a line, checks ECC, and writes back a correction or poisons the line. -/
  | patrolRead (a : BitVec 41) (e : Machine.LineRead) (last : Bool) (lost : List Machine.DramObj)
  /-- DRAM_ROW_TEST (R464). The controller saves a row, runs March C− on it and restores it. -/
  | dramRowTest (st : Fin 8) (pc : Fin 32) (row : Fin 8388608) (fail last : Bool) (lost : List Machine.DramObj)
  /-- SRB_PREQ_WRITE (R476). A write of SRB_BANK.PREQ requests a bank power state, or is refused with REJ. -/
  | srbPreqWrite (b : Fin 52) (preq : BitVec 2) (clr : Bool)
  /-- SRB_POWER_TRANSITION_DONE (R475). A bank power transition completes and the bank may move on to the newly
      requested state. -/
  | srbPowerTransitionDone (b : Fin 52)
  /-- SRB_REGION_TEST (R480). Every GAP_MS each ON bank tests its next 4 KiB region transparently. -/
  | srbRegionTest (n : Fin 4) (fails : List (Nat × Nat))
  /-- KST_WRITE (R504). A KST WRITE command stores a key in a slot, subject to its checks. -/
  | kstWrite (m : Master) (part : BitVec 2) (kh : BitVec 17) (rsv : Bool)
  /-- KST_ERASE (R508). A KST ERASE command makes the slot unusable and sends the wipe requests. -/
  | kstErase (m : Master) (kh : BitVec 17) (rsv : Bool)
  /-- KST_INFO (R509). A KST INFO command returns the attributes, KCV, GEN and state of the key in force. -/
  | kstInfo (m : Master) (kh : BitVec 17) (rsv : Bool)
  /-- KST_CMD_END (R511). A KST command ends and sets RESULT and DONE, raising the key-command event. -/
  | kstCmdEnd (m : Master)
  /-- DRBG_RESEED (R519). The DRBG reseeds from the TRNG after 2^16 requests or one second. -/
  | drbgReseed
  /-- TRNG_HEALTH_FAIL (R520). A TRNG health test fails, stopping the DRBG; three failures set DRBG_FAIL. -/
  | trngHealthFail
  /-- DRBG_DRAW_TIMEOUT (R521). A refused draw is still refused after 100 ms, and the waiting function takes its
      fallback. -/
  | drbgDrawTimeout (who : DrawUser)
  /-- KEY_STORAGE_FAULT (R522). An uncorrectable error in a slot's secret disables the key and raises the
      key-fault event. -/
  | keyStorageFault (kh : Fin 69632)
  /-- LCM_CHALLENGE (R497). The CHALLENGE command draws a new 256-bit challenge. -/
  | lcmChallenge (m : Master)
  /-- LCM_TO_SERVICE (R493). The TO_SERVICE command moves the device from PERSONALISE to SERVICE. -/
  | lcmToService (m : Master) (confirm : BitVec 32) (otaOk wipeOk : Bool)
  /-- LCM_TO_RETURN (R496). The TO_RETURN command checks the return token and moves the device to RETURN. -/
  | lcmToReturn (m : Master) (confirm : BitVec 32) (token : Option (List Byte)) (otaOk wipeOk : Bool)
  /-- LCM_TO_END (R493). The TO_END command moves the device to END. -/
  | lcmToEnd (m : Master) (confirm : BitVec 32) (otaOk wipeOk : Bool)
  /-- LCM_FUSE_CKH (R498). The FUSE_CKH command programs a customer key hash in PERSONALISE. -/
  | lcmFuseCkh (m : Master) (hash : Option (List Byte)) (otaOk : Bool)
  /-- LCM_CMD_END (R525). An LCM command that makes no transition ends and raises the life-cycle event. -/
  | lcmCmdEnd
  /-- NVJ_IMG_ERASE (R532). The ERASE command erases the image slot not loaded. -/
  | nvjImgErase (slot : Fin 2)
  /-- NVJ_IMG_WRITE (R533). The WRITE command programs image pages read by DMA and reads them back. -/
  | nvjImgWrite (slot : Fin 2) (offset : BitVec 17) (pages : BitVec 16) (data : List Byte) (bad : List Nat)
  /-- NVJ_IMG_CHECK (R528). The CHECK command verifies the image in the slot without loading it. -/
  | nvjImgCheck (slot : Fin 2) (readOk : Bool)
  /-- NVJ_IMG_CMD_END (R532). An image command ends and raises the image-command event. -/
  | nvjImgCmdEnd
  /-- NVJ_COMPACT (R542). The COMPACT command starts a journal compaction. -/
  | nvjCompact
  /-- NVJ_APPEND_CONFIG (R546). The APPEND_CONFIG command journals register write records for the next start. -/
  | nvjAppendConfig (records : BitVec 8) (data : Option (List Byte))
  /-- NVJ_CONFIG_RESET (R546). The CONFIG_RESET command makes every earlier CONFIG entry dead. -/
  | nvjConfigReset
  /-- NVJ_FORMAT (R546). The FORMAT command erases both journal regions and clears CORRUPT and READ_ONLY. -/
  | nvjFormat (m : Master) (confirm : BitVec 32) (ok : Bool)
  /-- JOURNAL_ENTRY_PROGRAM (R536). The NVJ programs and reads back the body of a journal entry. -/
  | journalEntryProgram (ok : Bool)
  /-- JOURNAL_COMMIT_DONE (R536). An entry's COMMIT reads back exactly, and the entry is committed. -/
  | journalCommitDone (ok : Bool)
  /-- COMPACTION_SWITCH (R542). The new region's head COMMIT reads back and it becomes the active region. -/
  | compactionSwitch (bad : List Nat)
  /-- JOURNAL_PRE_ERASE (R527). The NVJ erases a sector of the inactive journal region in the background. -/
  | journalPreErase
  /-- EVENT_LOG_WRITE (R545). The MCU writes an event record to the flash event-log ring. -/
  | eventLogWrite
  /-- TIME_BASE_START (R550). A write of TMB_CTRL.EN = 1 starts the time base at 0 s. -/
  | timeBaseStart
  /-- TIMEREF_LOSS (R549). The time reference is lost or out of lock, and the time base enters holdover. -/
  | timerefLoss
  /-- TIMEREF_RELOCK (R549). TCLK relocks to its reference and holdover ends. -/
  | timerefRelock
  /-- STEP_NOW (R551). TMB_STEP_CMD NOW sets the time to TMB_STEP at once, or is refused. -/
  | stepNow (m : Master)
  /-- STEP_AT_PPS (R551). TMB_STEP_CMD AT_PPS arms a step for the next accepted PPS_IN edge. -/
  | stepAtPps (m : Master)
  /-- STEP_CANCEL (R551). TMB_STEP_CMD CANCEL ends a waiting AT_PPS step. -/
  | stepCancel (m : Master)
  /-- PPS_IN_EDGE (R569). A filtered PPS_IN rising edge is captured, or rejected by the window, and may apply an
      armed step. -/
  | ppsInEdge
  /-- TMB_RATE_WRITE (R554). A write of TMB_RATE changes the time rate from the next TCLK cycle. -/
  | tmbRateWrite (m : Master) (rate : BitVec 40)
  /-- TMB_SLEW_WRITE (R555). A write of TMB_SLEW starts or replaces a slew. -/
  | tmbSlewWrite (m : Master) (offset : BitVec 32) (ppb : BitVec 20)
  /-- SLEW_END (R555). TMB_SLEW_LEFT reaches 0 and the slew ends. -/
  | slewEnd
  /-- PPS_OUT_RISE (R570). PPS_OUT rises at a second boundary plus OUT_OFS. -/
  | ppsOutRise
  /-- PPS_OUT_FALL (R570). PPS_OUT falls after OUT_WIDTH µs. -/
  | ppsOutFall
  /-- TIME_TRANSFER_MSG_RX (R567). A T-channel message yields an OFFSET and DELAY result. -/
  | timeTransferMsgRx (port : Fin 32) (body : List Byte)
  /-- CLK_A_WINDOW (R573). A detector A window ends, and CLK_A is declared when its count is out of range. -/
  | clkAWindow (count : BitVec 14) (wipeOk : Bool)
  /-- CLK_B_GLITCH (R574). Detector B sees a short CCLK period or phase and declares CLK_B. -/
  | clkBGlitch (wipeOk : Bool)
  /-- BIC_MISMATCH (R578). A target finds a bus integrity code mismatch and declares BIC. -/
  | bicMismatch (wipeOk : Bool)
  /-- RAIL_OUT_OF_WINDOW (R575). A rail lies outside its window for 2 ns and its voltage source is declared. -/
  | railOutOfWindow (r : Fin 6) (mv : BitVec 12) (wipeOk : Bool)
  /-- TEMP_SAMPLE (R576). Every 1 ms both sensors are read, and temperature alarms are evaluated. -/
  | tempSample (t0 t1 : Int) (wipeOk : Bool)
  /-- TAMPER_LOOP_MISMATCH (R577). A tamper loop input differs from the driven bit in 2 consecutive samples, so
      LOOPn is declared. -/
  | tamperLoopMismatch (loop : Fin 2) (wipeOk : Bool)
  /-- MONITOR_FAULT (R579). A detector failure declares MONITOR. -/
  | monitorFault (wipeOk : Bool)
  /-- VBAT_OUT_OF_RANGE (R572). VBAT leaves 2.1 V to 3.8 V and the VBAT source is declared. -/
  | vbatOutOfRange (wipeOk : Bool)
  /-- TAMPER_RESET_RELEASE (R583). Every action of a RESET or ZEROISE is confirmed complete and the device reset
      is released. -/
  | tamperResetRelease
  /-- TMP_ZEROISE_WRITE (R588). A write of TMP_CTRL.ZEROISE = 1 requests a ZEROISE of source SOFTWARE. -/
  | tmpZeroiseWrite (m : Master) (wipeOk : Bool)
  /-- TMP_RESP_WRITE (R586). A write to TMP_RESP is discarded as a whole when it goes below the minimums or
      lowers a locked field. -/
  | tmpRespWrite (m : Master) (data : BitVec 64)
  /-- AOLOG_CLEAR (R588). A write of TMP_AOLOG_STATUS.CLR = 1 empties the always-on log. -/
  | aologClear (m : Master)
  /-- TAMPER_HOLD_END (R593). A CONDITION hold ends after 1 s without the condition, and start-up begins again. -/
  | tamperHoldEnd
  /-- AO_SAMPLING_WINDOW (R596). Every 256 ms in AO a 1 ms window samples the loops, temperature and VBAT. -/
  | aoSamplingWindow (loop0 loop1 : Bool) (t t' : Int) (vbatBad : Bool)
  /-- RING_DOORBELL (R606). The host writes a ring's TAIL, and a TAIL that would overfill the ring is discarded
      with ERR. -/
  | ringDoorbell (r : Fin 512) (access : PageAccess)
  /-- TX_FRAME_DMA_DONE (R609). A transmit frame's DMA read ends and the frame enters its egress queue, or is
      dropped. -/
  | txFrameDmaDone (r : Fin 256) (descs : List (List (BitVec 64))) (data : List Byte) (hostErr : Bool)
  /-- RX_FRAME_WRITE (R612). A received frame is written into posted buffers and its descriptors are written
      back. -/
  | rxFrameWrite (r : Fin 256) (buf : Fin 64) (how : DmaEnd)
  /-- ATS_TRANSLATION_COMPLETION (R614). A translation completes and the transfer proceeds, or a page request is
      sent and the ring stalls. -/
  | atsTranslationCompletion (fn : Fin 2) (page : BitVec 52) (granted pri : Bool) (x : DmaXfer)
  /-- ATS_INVALIDATION_REQUEST (R614). An Invalidation Request is answered after the affected transfers have
      ended or stopped. -/
  | atsInvalidationRequest (fn : Fin 2) (page : BitVec 52)
  /-- PAGE_REQUEST_RESPONSE (R616). A page request group response resumes the stalled ring or completes its
      frame with FAULT. -/
  | pageRequestResponse (fn : Fin 2) (r : Option (Fin 512)) (how : PageResponse)
  /-- PAGE_REQUEST_TIMEOUT (R616). No page response arrives within PRI_TMO_MS, so the frame completes with
      FAULT. -/
  | pageRequestTimeout (r : Option (Fin 512))
  /-- RING_COAL_TIMER (R621). COAL_US has elapsed since the first unreported completion, so the ring raises its
      completion event. -/
  | ringCoalTimer (r : Fin 512)
  /-- EVT_SRC_WRITE (R620). A write to EVT_SRC clears STATUS or changes MASK, and unmasking a pending source
      sends MSI-X. -/
  | evtSrcWrite (i : Fin 512) (clear mask ring log : Bool) (vector : BitVec 9)
  /-- PERST_ASSERT (R618). An accepted PERST_N assertion resets PCIe state, rings, the event ring and host
      ownership. -/
  | perstAssert
  /-- PCIE_HOT_RESET (R618). A hot reset has the effects of PERST_N. -/
  | pcieHotReset
  /-- PCIE_LINK_DOWN (R618). The PCIe link goes down, with the effects of PERST_N. -/
  | pcieLinkDown
  /-- FLR_PF0 (R618). A function-level reset of PF0 resets its configuration, MSI-X, DOE and event ring. -/
  | flrPf0
  /-- FLR_PF1 (R618). A function-level reset of PF1 resets every ring. -/
  | flrPf1
  /-- OWNER_TAKE (R623). GLB_OWNER OP = TAKE by the host claims ownership. -/
  | ownerTake
  /-- OWNER_RELEASE (R623). GLB_OWNER OP = RELEASE hands ownership to a pending side-band request or to none. -/
  | ownerRelease
  /-- OWNER_KEEP (R623). GLB_OWNER OP = KEEP refuses a pending side-band request. -/
  | ownerKeep
  /-- OWNER_FORCE_TIMEOUT (R623). FORCE_TMO_MS passes without a host answer, so ownership goes to the side-band
      with FORCED set. -/
  | ownerForceTimeout
  /-- MBOX_GO (R626). A write of GO = 1 passes a mailbox request to the MCU. -/
  | mboxGo (reqLen : BitVec 16)
  /-- MBOX_DONE (R626). The MCU writes the mailbox response and sets DONE. -/
  | mboxDone (req : VendorReq) (wipeOk : Bool)
  /-- SPDM_GET_VERSION (R627). The SPDM GET_VERSION request is answered. -/
  | spdmGetVersion (mctp : Bool) (req : List Byte)
  /-- SPDM_GET_CAPABILITIES (R627). The SPDM GET_CAPABILITIES request is answered. -/
  | spdmGetCapabilities (mctp : Bool) (req : List Byte)
  /-- SPDM_NEGOTIATE_ALGORITHMS (R627). The SPDM NEGOTIATE_ALGORITHMS request is answered. -/
  | spdmNegotiateAlgorithms (mctp : Bool) (req : List Byte)
  /-- SPDM_GET_DIGESTS (R627). The SPDM GET_DIGESTS request is answered. -/
  | spdmGetDigests (mctp : Bool) (req : List Byte)
  /-- SPDM_GET_CERTIFICATE (R627). The SPDM GET_CERTIFICATE request is answered. -/
  | spdmGetCertificate (mctp : Bool) (req : List Byte)
  /-- SPDM_CHALLENGE (R628). The SPDM CHALLENGE request is signed with the identity key. -/
  | spdmChallenge (mctp : Bool) (req : List Byte)
  /-- SPDM_GET_MEASUREMENTS (R627). The SPDM GET_MEASUREMENTS request returns the measurements of Table 19-13. -/
  | spdmGetMeasurements (mctp : Bool) (req : List Byte)
  /-- FRESET_PORT (R630). GLB_FRESET TYPE port shuts the port down and flushes its queues. -/
  | fresetPort (index : BitVec 16)
  /-- FRESET_SA (R630). GLB_FRESET TYPE SA disables the SA to RETIRED. -/
  | fresetSa (index : BitVec 16)
  /-- FRESET_QUEUE (R630). GLB_FRESET TYPE queue shuts the queue down. -/
  | fresetQueue (index : BitVec 16)
  /-- FRESET_RING (R630). GLB_FRESET TYPE ring shuts the ring down. -/
  | fresetRing (index : BitVec 16)
  /-- FRESET_POD (R630). GLB_FRESET TYPE pod disables the pod. -/
  | fresetPod (index : BitVec 16)
  /-- FRESET_TABLE_UNIT (R698). GLB_FRESET TYPE table unit ends unbegun commands with STATE and clears the
      staging registers. -/
  | fresetTableUnit (index : BitVec 16)
  /-- FRESET_TIMEOUT (R630). A function reset has not reached OFF in time, so TIMEOUT is set and event 152/0x4
      raised. -/
  | fresetTimeout
  /-- DEVICE_RESET (R629). GLB_RESET OP = DEVICE_RESET with the right confirmation resets the device. -/
  | deviceReset (confirm : BitVec 32)
  /-- POWER_CYCLE (R631). GLB_RESET OP = POWER_CYCLE drives PWR_CYCLE_N low for 200 ms. -/
  | powerCycle (confirm : BitVec 32)
  /-- POWER_CYCLE_PULSE_END (R631). The pulse ends; if the rails did not drop, a device reset occurs and PC_FAIL
      is set. -/
  | powerCyclePulseEnd (dropped : Bool)
  /-- SB_GET_IDENTITY (R635). The side-band GET_IDENTITY command returns the device identity. -/
  | sbGetIdentity
  /-- SB_GET_HEALTH (R635). The side-band GET_HEALTH command returns the health registers. -/
  | sbGetHealth
  /-- SB_GET_ALARMS (R635). The side-band GET_ALARMS command returns the alarm and defect registers. -/
  | sbGetAlarms
  /-- SB_READ_EVENT_LOG (R635). The side-band READ_EVENT_LOG command returns event records. -/
  | sbReadEventLog (first : BitVec 64) (count : BitVec 8)
  /-- SB_READ_AO_LOG (R635). The side-band READ_AO_LOG command returns the always-on log. -/
  | sbReadAoLog
  /-- SB_GET_PM (R635). The side-band GET_PM command returns a PM bin or snapshot. -/
  | sbGetPm (port bin : BitVec 8)
  /-- SB_ACK_ALERT (R641). The side-band ACK_ALERT command acknowledges event-log alerts up to a SEQ. -/
  | sbAckAlert (seq : BitVec 64)
  /-- SB_TAKE (R636). The side-band TAKE command requests ownership. -/
  | sbTake
  /-- SB_RELEASE (R636). The side-band RELEASE command releases ownership. -/
  | sbRelease
  /-- SB_SET_POWER_STANDBY (R645). The side-band SET_POWER 0x01 command takes the device to STANDBY. -/
  | sbSetPowerStandby
  /-- SB_SET_POWER_SERVICE (R643). The side-band SET_POWER 0x02 command asserts MAIN_EN. -/
  | sbSetPowerService
  /-- SB_DEVICE_RESET (R637). The side-band DEVICE_RESET command resets the device after the response is sent. -/
  | sbDeviceReset (confirm : BitVec 32)
  /-- SB_POWER_CYCLE (R637). The side-band POWER_CYCLE command starts a power cycle. -/
  | sbPowerCycle (confirm : BitVec 32)
  /-- SB_SELECT_SLOT (R637). The side-band SELECT_SLOT command writes NVJ_BOOT.PIN. -/
  | sbSelectSlot (slot : BitVec 8)
  /-- SB_ZEROISE (R638). The side-band ZEROISE command requests a ZEROISE of source SIDEBAND. -/
  | sbZeroise (confirm : BitVec 32) (wipeOk : Bool)
  /-- SB_RELEASE_HOLD (R639). The side-band RELEASE_HOLD command ends a RESTARTS hold, or is refused. -/
  | sbReleaseHold
  /-- MCTP_SET_ENDPOINT_ID (R633). The MCTP Set Endpoint ID control request is handled. -/
  | mctpSetEndpointId (eid : BitVec 8)
  /-- MCTP_GET_ENDPOINT_ID (R633). The MCTP Get Endpoint ID control request is handled. -/
  | mctpGetEndpointId
  /-- MCTP_GET_VERSION_SUPPORT (R633). The MCTP Get MCTP Version Support request is handled. -/
  | mctpGetVersionSupport (typ : BitVec 8)
  /-- MCTP_GET_MESSAGE_TYPE_SUPPORT (R633). The MCTP Get Message Type Support request is handled. -/
  | mctpGetMessageTypeSupport
  /-- MCTP_GET_VENDOR_MSG_SUPPORT (R633). The MCTP Get Vendor Defined Message Support request is handled. -/
  | mctpGetVendorMsgSupport (selector : BitVec 8)
  /-- PLDM_GETTID (R633). The PLDM GetTID command is answered. -/
  | pldmGettid
  /-- PLDM_GETPLDMVERSION (R633). The PLDM GetPLDMVersion command is answered. -/
  | pldmGetpldmversion (typ : BitVec 8)
  /-- PLDM_GETPLDMTYPES (R633). The PLDM GetPLDMTypes command is answered. -/
  | pldmGetpldmtypes
  /-- PLDM_GETPLDMCOMMANDS (R633). The PLDM GetPLDMCommands command is answered. -/
  | pldmGetpldmcommands (typ : BitVec 8)
  /-- PLDM_GETPDR (R634). The PLDM GetPDR command returns a sensor record. -/
  | pldmGetpdr (handle : BitVec 32)
  /-- PLDM_GETSENSORREADING (R634). The PLDM GetSensorReading command returns a sensor value. -/
  | pldmGetsensorreading (sensor : BitVec 16)
  /-- I3C_ENTDAA (R632). The ENTDAA CCC assigns a dynamic address and enters I3C mode. -/
  | i3cEntdaa (addr : BitVec 7)
  /-- I3C_SETDASA (R632). The SETDASA CCC assigns a dynamic address from the static address. -/
  | i3cSetdasa (static addr : BitVec 7)
  /-- I3C_SETAASA (R632). The SETAASA CCC adopts the static address as dynamic address. -/
  | i3cSetaasa
  /-- I3C_SETNEWDA (R632). The SETNEWDA CCC changes the dynamic address. -/
  | i3cSetnewda (addr : BitVec 7)
  /-- I3C_RSTDAA (R632). The RSTDAA CCC resets the dynamic address and returns to SMBus-compatible mode. -/
  | i3cRstdaa
  /-- I3C_GETPID (R632). The GETPID CCC is answered. -/
  | i3cGetpid
  /-- I3C_GETBCR (R632). The GETBCR CCC is answered. -/
  | i3cGetbcr
  /-- I3C_GETDCR (R632). The GETDCR CCC is answered. -/
  | i3cGetdcr
  /-- I3C_GETSTATUS (R632). The GETSTATUS CCC is answered. -/
  | i3cGetstatus
  /-- I3C_GETMWL (R632). The GETMWL CCC is answered. -/
  | i3cGetmwl
  /-- I3C_SETMWL (R632). The SETMWL CCC sets the maximum write length. -/
  | i3cSetmwl (len : BitVec 16)
  /-- I3C_GETMRL (R632). The GETMRL CCC is answered. -/
  | i3cGetmrl
  /-- I3C_SETMRL (R632). The SETMRL CCC sets the maximum read length. -/
  | i3cSetmrl (len : BitVec 16)
  /-- I3C_ENEC (R632). The ENEC CCC enables in-band interrupts. -/
  | i3cEnec (events : BitVec 8)
  /-- I3C_DISEC (R632). The DISEC CCC disables in-band interrupts. -/
  | i3cDisec (events : BitVec 8)
  /-- SB_BUS_TIMEOUT (R685). SB_SCL has been held low for 35 ms, so the SBM ends the message and resets its bus
      interface. -/
  | sbBusTimeout
  /-- VBAT_RISE (R643). VBAT rises above 2.2 V and the device enters AO. -/
  | vbatRise
  /-- VBAT_FALL (R643). VBAT falls below 2.1 V in AO and the device goes OFF. -/
  | vbatFall
  /-- VDD_AUX_RISE (R643). VDD_AUX enters its window and the device enters STANDBY. -/
  | vddAuxRise
  /-- PWR_AUTO_SAMPLE (R685). 10 ms after VDD_AUX enters its window, the straps are sampled and MAIN_EN may be
      asserted. -/
  | pwrAutoSample (auto : Bool) (sbAddr : BitVec 2)
  /-- VDD_AUX_LOSS (R643). VDD_AUX leaves its window and the device goes to AO or OFF. -/
  | vddAuxLoss
  /-- POWER_GOOD (R644). The main rails have been good for 1 ms, so the device enters SERVICE and start-up
      begins. -/
  | powerGood
  /-- POWER_GOOD_TIMEOUT (R643). No power-good arrives within 100 ms, so MAIN_EN is deasserted and POWER_FAIL is
      logged. -/
  | powerGoodTimeout
  /-- MAIN_RAIL_LOSS (R646). A main rail leaves its window without a command, so its response is carried out and
      the device enters STANDBY. -/
  | mainRailLoss (r : Fin 5) (mv : BitVec 12) (wipeOk : Bool)
  /-- PWR_CTRL_STANDBY (R645). PWR_CTRL OP = STANDBY shuts the ports down and takes the device from SERVICE to
      STANDBY. -/
  | pwrCtrlStandby (confirm : BitVec 32)
  /-- STARTUP_STEP_DONE (R648). A start-up step ends and the next step begins, up to traffic at step 10. -/
  | startupStepDone (how : StepEnd)
  /-- STARTUP_STEP_TIMEOUT (R649). Step 8 or 9 reaches its 3.0 s limit and start-up continues. -/
  | startupStepTimeout
  /-- RESET_N_ASSERT (R682). An accepted RESET_N assertion holds the device in reset. -/
  | resetNAssert
  /-- RESET_N_RELEASE (R648). RESET_N is released and start-up begins at step 1. -/
  | resetNRelease
  /-- PWR_DOM_WRITE (R657). A write of PWR_DOM.EN powers a domain up or down, or is refused with REJ. -/
  | pwrDomWrite (d : Fin 374) (en clrRej clrFail : Bool)
  /-- PWR_DOM_WAKE_DONE (R658). A waking domain reads ON and the waiting function's start-up may begin. -/
  | pwrDomWakeDone (d : Fin 374)
  /-- PWR_DOM_WAKE_FAIL (R659). A wake does not complete in four times its wake time, so the domain goes OFF
      with WAKE_FAIL. -/
  | pwrDomWakeFail (d : Fin 374)
  /-- PWR_DOM_OFF_DONE (R656). A domain's isolation and power-down complete and it reads OFF. -/
  | pwrDomOffDone (d : Fin 374)
  /-- POWER_ESTIMATE (R661). Every 1 ms the device power estimate is updated. -/
  | powerEstimate
  /-- PMC_SEL_WRITE (R665). A write of PMC_SEL selects a counter's event, or is refused with REJ. -/
  | pmcSelWrite (c : Fin 80) (data : BitVec 64)
  /-- PMC_CNT_WRITE (R671). A write of PMC_CNT presets a counter. -/
  | pmcCntWrite (c : Fin 80) (v : BitVec 48)
  /-- PMC_FREEZE (R669). A write of FREEZE stops or resumes all 80 counters together. -/
  | pmcFreeze (b : Bool)
  /-- PMC_SNAP (R670). A write of SNAP = 1 copies all counters into PMC_SNAP, clearing them with SNAP_CLR. -/
  | pmcSnap (clear : Bool)
  /-- PMC_SNAP_DONE (R670). The counter snapshot copy completes and SNAP_BUSY clears. -/
  | pmcSnapDone
  /-- PMC_COUNTER_WRAP (R668). A counter wraps, which sets its OVF bit, feeds a chained partner and may freeze
      the counters. -/
  | pmcCounterWrap (c : Fin 80) (d : BitVec 48)
  /-- TAP_BYPASS (R684). The TAP BYPASS instruction is executed. -/
  | tapBypass
  /-- TAP_IDCODE (R684). The TAP IDCODE instruction is executed. -/
  | tapIdcode
  /-- TAP_SAMPLE_PRELOAD (R684). The TAP SAMPLE/PRELOAD instruction is executed. -/
  | tapSamplePreload (cells : List Bool)
  /-- TAP_EXTEST (R684). The TAP EXTEST instruction is executed, only while RESET_N is asserted. -/
  | tapExtest
  /-- TAP_EXTEST_PULSE (R684). The TAP EXTEST_PULSE instruction is executed on the SerDes balls, only while
      RESET_N is asserted. -/
  | tapExtestPulse
  /-- TAP_EXTEST_TRAIN (R684). The TAP EXTEST_TRAIN instruction is executed on the SerDes balls, only while
      RESET_N is asserted. -/
  | tapExtestTrain
  /-- INPUT_PULSE_REJECTED (R685). A pulse on RESET_N, PERST_N, ACTIVE_IN, MATE_PRESENT or PPS_IN shorter than
      its filter is rejected, counted in GLB_PIN_GLITCH, and 16 such pulses within 1 ms set the input's UNSTABLE
      bit. -/
  | inputPulseRejected (i : Fin 7)
  deriving DecidableEq, Repr

end Sys2Proof
end

