-- ==== Sys2Proof/Decode.lean ====
section
/-!
DEFINITION. Words of the operation table. The table of the Bolorn's operations and events gives no row any bits: commands reach the
block through its buses, ports and pins, in forms of their own, so no word spells a command.
-/

namespace Sys2Proof

/-- The command that a word spells by the table's bits: none. -/
def decodeTableWord (_nbits _w : Nat) : Option Instr := none

end Sys2Proof
end

