-- ==== Sys2Proof/Config.lean ====
section
/-!
DEFINITION. What an implementation of the Bolorn fixes and the spec leaves open: the free values, each an uninterpreted
constant, so that no proof can see what it is.
-/

namespace Sys2Proof.Config

/-- A value that the spec leaves open, numbered by a counter of the state (notes/assumptions/3.md). -/
opaque freeWord : Nat → BitVec 64

/-- The MAC address of a port (0 to 31 client, 32 to 63 line), the first octet sent in bits [47:40]. -/
opaque portMac : Nat → BitVec 48

/-- The receive ring (0 to 255) that takes frames received on a port for a REASON of Table 19-5, where the spec names none. -/
opaque hostRing : Nat → Nat → Nat

/-- `TMB_PORT_FIXED.TX_FIXED` of a port mode, in 1/16 ns. -/
opaque txFixed : Nat → BitVec 16

/-- The cipher suite identifier of Kraow-GCM in a Distributed SAK parameter set, which the spec does not give. -/
opaque kraowSuite : BitVec 64

/-! ### The engine instructions (notes/assumptions/10.md) -/

/-- A 16-bit immediate of an instruction class is sign-extended (otherwise zero-extended): 0 integer, 1 logic, 2 memory. -/
opaque immSigned : Nat → Bool

/-- The value that LUI makes of its immediate. -/
opaque lui : BitVec 16 → BitVec 64

/-- The value that CMP makes of its two operands. -/
opaque cmp : BitVec 64 → BitVec 64 → BitVec 64

/-- A shift or rotate by 64 or more: operation, value and amount. -/
opaque shiftWide : Nat → BitVec 64 → BitVec 64 → BitVec 64

/-- ROT rotates to the left. -/
opaque rotLeft : Bool

/-- A load of fewer than 64 bits is sign-extended (otherwise zero-extended). -/
opaque loadSigned : Bool

/-- Multi-byte values in data memory, in the program's code and in the frame window have their least significant byte at the
lowest address (otherwise their most significant). -/
opaque littleData : Bool

/-- The same for the 16 bytes of BLDF, BSTF and TAGCMP. -/
opaque littleBlock : Bool

/-- A branch offset counts from the instruction after the branch (otherwise from the branch itself). -/
opaque branchFromNext : Bool

/-- The code address that LDC reads, from the program counter and its immediate. -/
opaque ldcAddr : BitVec 64 → BitVec 16 → BitVec 64

/-- TAGCMP sets e5[15] to 1 when the sixteen bytes agree (otherwise when they differ). -/
opaque tagcmpEqual : Bool

/-- BLT and BGE compare signed numbers (otherwise unsigned). -/
opaque branchSigned : Bool

/-! ### Management (notes/assumptions/70.md, notes/assumptions/71.md) -/

/-- The ordering code as GET_IDENTITY gives it (R1). -/
opaque orderingCode : BitVec 64

/-- The octets of a vendor response's data, from the COMMAND and the number of values it carries. -/
opaque vendorLen : Nat → Nat → Nat

/-- The endpoint type that Get Endpoint ID answers. -/
opaque mctpEndpointType : BitVec 8

/-- The versions that the endpoint answers for an MCTP message type, and for a PLDM type. -/
opaque mctpVersion : Nat → BitVec 32
opaque pldmVersion : Nat → BitVec 32

/-- The Oroas Vendor ID. -/
opaque vendorId : BitVec 16

/-- The terminus ID of PLDM. -/
opaque pldmTid : BitVec 8

/-- The record handle and the sensor ID of each sensor of R634: TEMP0, TEMP1, the rails of sources 3 to 8, and the power estimate. -/
opaque sensorRecord : Nat → BitVec 32
opaque sensorId : Nat → BitVec 16

/-- What GETPID, GETBCR and GETDCR answer. -/
opaque i3cPid : BitVec 48
opaque i3cBcr : BitVec 8
opaque i3cDcr : BitVec 8

/-- What the TAP's device identification register holds. -/
opaque tapIdcode : BitVec 32

/-- SPDM: CTExponent, DataTransferSize and MaxSPDMmsgSize. -/
opaque spdmCtExponent : BitVec 8
opaque spdmTransfer : BitVec 32
opaque spdmMaxMsg : BitVec 32

/-- The SHA-384 of the boot ROM. -/
opaque romHash : BitVec 384

/-- DMTFSpecMeasurementValueType of each measurement of Table 19-13. -/
opaque measType : Nat → BitVec 8

/-- The words of measurements 2 to 4 have their least significant byte first (otherwise their most significant). -/
opaque measLittle : Bool

/-- The last 8 octets of measurement 4, from LOCK and BSK_MODE. -/
opaque measLock : Nat → Nat → BitVec 64

end Sys2Proof.Config
end

