-- ==== Sys2Proof/Machine/AgtTypes.lean ====
section
/-!
DEFINITION. What the key agent holds for each line port (R190 to R200).
-/

namespace Sys2Proof.Machine

/-- The partner of a participant: its member identifier, message number, SCI and priority, and whether it is live. -/
structure AgtPeer where
  mi : Nat
  mn : Nat
  sci : Nat
  prio : Nat
  live : Bool
  deriving DecidableEq, Repr

/-- The MKA participant of a line port. -/
structure AgtPort where
  /-- the participant runs -/
  on : Bool := false
  /-- member identifier and number of the last MKPDU sent -/
  mi : Nat := 0
  mn : Nat := 0
  peer : Option AgtPeer := none
  /-- the latest key: its AN, the key server's member identifier and its key number -/
  key : Option (Nat × Nat × Nat) := none
  /-- the key before it, up to the deletion of its SAs -/
  oldKey : Option (Nat × Nat × Nat) := none
  /-- the last key number this participant has given as key server -/
  kn : Nat := 0
  /-- the SAK being distributed: AN, key number and the wrapped key -/
  dist : Option (Nat × Nat × List Byte) := none
  /-- the latest key may be used for transmit (R200) -/
  fresh : Bool := false
  /-- CUR_AN has been written to the latest key's AN -/
  moved : Bool := false
  /-- ANs whose SAs are to be deleted (R195) -/
  old : List Nat := []
  /-- the partner's live peer list has held this participant's member identifier (R200) -/
  listed : Bool := false
  /-- SAKs, by member identifier and key number, that were distributed or in use before that (R200) -/
  seen : List (Nat × Nat) := []
  deriving DecidableEq, Repr

end Sys2Proof.Machine
end

