-- ==== Sys2Proof/Machine/EvtTypes.lean ====
section
/-!
DEFINITION. The state of the event machinery (R619 to R622) and of the clocks that stamp its records.
-/

namespace Sys2Proof.Machine

/-- An event raised in the current CCLK cycle and not yet recorded: the model's own buffer for the order that R619
gives the records of one cycle. -/
structure Raised where
  source : Nat
  code : Nat
  inst : Nat := 0
  arg0 : Nat := 0
  arg1 : Nat := 0
  deriving DecidableEq, Repr

/-- An event record (Table 19-11). -/
structure EventRec where
  source : Nat
  tbValid : Bool
  code : Nat
  inst : Nat
  seq : Nat
  ns : Nat
  sec : Nat
  arg0 : Nat
  arg1 : Nat
  deriving DecidableEq, Repr

/-- What the register bus answered last: nothing yet, the data of a read, or Unsupported Request (R601). -/
inductive BusAnswer where
  | idle
  | data (v : BitVec 64)
  | unsupported (off : Nat) (write : Bool)
  deriving DecidableEq, Repr

/-- The event machinery: the cycle's raised events, the record counter, the event ring's records in host memory, the
records waiting for the event log, the MSI-X messages sent, the PCIe vector mask and the Pending Bit Array. -/
structure EvtState where
  raised : List Raised := []
  seq : Nat := 0
  ringRecs : List EventRec := []
  logQueue : List EventRec := []
  msixSent : List Nat := []
  vecMasked : List Nat := []
  pba : List Nat := []
  deriving DecidableEq, Repr

/-- The clocks: nanoseconds since the device reset (CCLK-derived), and the time base (R548): seconds, nanoseconds and
the fraction in units of 2^-48 ns. -/
structure ClkState where
  sinceReset : Nat := 0
  tbSec : Nat := 0
  tbNs : Nat := 0
  tbFrac : Nat := 0
  /-- slew still to be consumed (R555), in units of 2^-48 ns -/
  slew : Int := 0
  /-- the second whose window has accepted a PPS_IN edge (R569) -/
  ppsWindow : Option Nat := none
  /-- PPS_OUT, and the second of its last pulse (R570) -/
  ppsOut : Bool := false
  ppsSec : Option Nat := none
  /-- word 1 of `TMB_TIME` and of `TMB_PPS_IN`, latched by a read of word 0 (R550) -/
  timeLatch : Nat := 0
  ppsLatch : Nat := 0
  deriving DecidableEq, Repr

end Sys2Proof.Machine
end

