-- ==== Sys2Proof/Machine/FrameTypes.lean ====
section
/-!
DEFINITION. A frame on its way through the device: what its lookup captured (R70), the numbers the sequencer gave it
(R107), and the places that hold frames in order: the port sequencers, the hold queues (R164), the reorder stage (R108)
and the fabric lists (R372).
-/

namespace Sys2Proof.Machine

/-- Where a released frame goes. -/
inductive Dest where
  /-- the PORT_EGRESS queue of a port (0 to 31 client, 32 to 63 line) and class -/
  | egress (port cls : Nat)
  /-- a queue named by its number: a host ring's or a mirror queue (R374) -/
  | queue (q : Nat)
  /-- the MCU: an MCU control queue -/
  | mcu
  /-- nowhere -/
  | drop
  deriving DecidableEq, Repr

/-- The time-stamp operation of a frame (Table 17-1), with its field offset and the time it carries. -/
structure TsOp where
  op : Nat := 0
  off : Nat := 0
  time : Nat := 0
  deriving DecidableEq, Repr

/-- A frame, without its FCS, with everything captured for its passage. -/
structure Item where
  /-- ingress port: 0 to 31 client, 32 to 63 line; 64 a host transmit ring, 65 the device itself -/
  inPort : Nat := 0
  /-- traffic class -/
  cls : Nat := 0
  data : List Byte := []
  /-- the classification entry found at the lookup (R70) -/
  res : Option ClsEntry := none
  /-- the SC index and the SC fields captured at the lookup -/
  sc : Nat := 0
  scFields : Option ScEntry := none
  /-- the SA bound to the frame (R71), and the PN or FRAME_COUNT under it -/
  sa : Option Nat := none
  pn : Nat := 0
  /-- the frame carries a PN that an abandonment burns (R120) -/
  burns : Bool := false
  /-- let stream and number (R309), with the D and L bits of its volley tag (R316) -/
  stream : Option Nat := none
  number : Nat := 0
  dBit : Bool := false
  lBit : Bool := false
  /-- decided destination -/
  dest : Dest := .drop
  /-- cells held -/
  cells : Nat := 0
  /-- cells drawn from headroom (R383) -/
  hdrm : Bool := false
  /-- the frame's end is stomped (R159) -/
  stomp : Bool := false
  /-- the frame had not ended when its meter judged it (R425) -/
  early : Bool := false
  /-- received by an express MAC or entitled to the express path -/
  express : Bool := false
  /-- receive time stamp (R558): seconds and nanoseconds -/
  rxSec : Nat := 0
  rxNs : Nat := 0
  ts : TsOp := {}
  /-- of a frame from the host: its transmit ring, its number on the ring, and the cells charged to the ring's queue -/
  ring : Option (Nat × Nat × Nat) := none
  /-- REASON of a frame for the host (Table 19-5) -/
  reason : Nat := 0
  cookie : Word := 0
  /-- enqueue time stamp (R391) -/
  enq : Nat := 0
  /-- output octets released early (R154) -/
  released : Nat := 0
  /-- after its engine: E of its secure frame and its user-data octets (R171) -/
  enc : Option (Bool × Nat) := none
  /-- the first eight octets of the secure data of a frame whose RX SC is bound to a let stream (R143) -/
  vtag : Option (List Byte) := none
  /-- the let stream of the RX SC (R143) -/
  rxStream : Option Nat := none
  /-- the frame has waited for a lease, and WAITS has counted it (R359) -/
  waited : Bool := false
  /-- the frame's egress port was busy when the frame reached the head of its queue (R156) -/
  stored : Bool := false
  deriving DecidableEq, Repr

/-- How a reorder entry stands. -/
inductive RoState where
  /-- its engine has not ended it -/
  | outstanding
  /-- its engine has not ended it, and it is leaving by cut-through on a port (R156, R154) -/
  | leaving (port : Nat) (it : Item)
  /-- ended with PASS: the frame waits for its turn -/
  | done (it : Item)
  /-- dropped: it releases its number at once -/
  | dropped
  deriving DecidableEq, Repr

/-- An entry of the reorder stage: its reorder number and how it stands. -/
structure RoEntry where
  num : Nat
  st : RoState
  deriving DecidableEq, Repr

/-- A work item: a frame or an MCU job, with its reorder number. -/
structure WorkItem where
  it : Item
  /-- sequencer q of the region (0 to 15); 0 for a job -/
  q : Nat := 0
  num : Nat := 0
  /-- a job of the MCU: its key handle and its mode program slot -/
  job : Option (Nat × Nat) := none
  /-- the frame window -/
  window : List Byte := []
  ksaHit : Bool := false
  /-- the key use of the item has been counted (R513) -/
  used : Bool := false
  deriving DecidableEq, Repr

/-- What one port's sequencer holds: frames in arrival order, its rotation pointer P_q, the next reorder number of each class, and
the keystream-ahead requests it has placed (engine, SA, PN). -/
structure SeqPort where
  fifo : List Item := []
  /-- frames that the device makes, replays and let control messages, taken ahead of the arrivals (R319, R320, R327) -/
  dev : List Item := []
  ptr : Nat := 0
  nums : KMap Nat := []
  reqs : List (Nat × Nat × Nat) := []
  /-- work items to dispatch again after a fence (R10), in order -/
  redo : List WorkItem := []
  deriving DecidableEq, Repr

/-- A deficit round-robin: the deficits by class and the class being visited. -/
structure Sched where
  deficits : List Nat := [0, 0, 0, 0, 0, 0, 0, 0]
  visiting : Option Nat := none
  deriving DecidableEq, Repr

/-- The weighted round-robin of a destination region: the source region it serves and the cells moved for it in this round (R371). -/
structure Wrr where
  src : Nat := 0
  used : Nat := 0
  deriving DecidableEq, Repr

/-- The frame path between the ports and the queues. Sequencers: 16n + q. Hold queues: SC index. Reorder: 8 × (16n + q) +
class. Fabric lists: destination queue, the region of each waiting frame with it. -/
structure PathState where
  seqs : KMap SeqPort := []
  holds : KMap (List Item) := []
  reorder : KMap (List RoEntry) := []
  fabric : KMap (List (Nat × Item)) := []
  /-- credits granted and not yet used, by destination queue and source region (R371) -/
  credits : KMap Nat := []
  /-- the deficit round-robin of each region's crossbar (R370) -/
  drr : KMap Sched := []
  /-- the weighted round-robin of each destination region (R371) -/
  wrr : KMap Wrr := []
  /-- frames handed to the MCU, oldest first -/
  mcuIn : List Item := []
  /-- MKPDUs received while the key agent is ON, oldest first: line port and octets (R197) -/
  agentIn : List (Nat × List Byte) := []
  /-- frames sent on each port (0 to 31 client, 32 to 63 line), oldest first: octets with FCS -/
  sent : KMap (List (List Byte)) := []
  deriving DecidableEq, Repr

end Sys2Proof.Machine
end

