-- ==== Sys2Proof/Machine/FenTypes.lean ====
section
/-!
DEFINITION. The frame engines of a region (Table 3-1): threads, data memory, keystream-ahead slots, cipher cores, inboxes
and mode programs.
-/

namespace Sys2Proof.Machine

/-- A hardware thread: integer registers, block registers, program counter, work item, its core mask (KLD), the core whose parity
check failed on the block to issue again (R97), the slot its item hit (R113), named by port, SA and PN, and whether it stalls in
WAIT (R82). -/
structure Thread where
  e : KMap Word := []
  b : KMap Block := []
  pc : Nat := 0
  work : Option WorkItem := none
  mask : Nat := 0
  failed : Option Nat := none
  slot : Option (Nat × Nat × Nat) := none
  stalled : Bool := false
  deriving DecidableEq, Repr

/-- A cipher core: the key handle it holds with that key's octets (R96), and the times of its parity failures, in ns since the device
reset, the newest first (R98). -/
structure Core where
  kh : Option Nat := none
  key : List Byte := []
  perrs : List Nat := []
  deriving DecidableEq, Repr

/-- A keystream-ahead slot (R110, R113): its tag and its blocks (0: H, 1: E(J0), then keystream), and the core whose parity check
failed on the block to issue again (R97). -/
structure KsaSlot where
  port : Nat
  sa : Nat
  pn : Nat
  gen : Nat
  /-- keystream blocks to compute (R111) -/
  want : Nat
  blocks : List Block
  /-- the slot serves a work item (R114) -/
  serving : Bool
  failed : Option Nat := none
  deriving DecidableEq, Repr

/-- A frame engine. `slots` holds up to eight slots, oldest first. -/
structure Engine where
  threads : KMap Thread := []
  dmem : KMap Byte := []
  cores : KMap Core := []
  slots : List KsaSlot := []
  inboxN : List WorkItem := []
  inboxX : List WorkItem := []
  deriving DecidableEq, Repr

/-- An installed mode program (Table 3-8). -/
structure ModeProg where
  version : Nat
  customer : Bool
  form : Nat
  suites : Nat
  txEntry : Nat
  rxEntry : Nat
  jobEntry : Nat
  code : List Byte
  deriving DecidableEq, Repr

/-- The command on `FEN_MP_CMD` of a region. -/
structure MpCmd where
  result : Nat
  /-- key `128n + 64 × set + slot` of a program to install -/
  install : Option (Nat × ModeProg)
  remove : Option Nat
  /-- code set of microcode to install -/
  code : Option (Nat × ModeProg)
  /-- key handle whose use the verification counts (R513) -/
  use : Option Nat
  deriving DecidableEq, Repr

/-- A wipe of a key handle in progress (R117): the engines (48n + e) still to acknowledge, and what waits for it. -/
structure KeyWipe where
  kh : Nat
  waiting : List Nat
  deriving DecidableEq, Repr

/-- A block that is fenced (R9), engines apart. -/
inductive FBlock where
  /-- a port complex of a region -/
  | complex (line : Bool) (n : Nat)
  /-- a DRAM stack -/
  | stack (i : Nat)
  /-- an SRAM bank -/
  | bank (b : Nat)
  deriving DecidableEq, Repr

/-- Every frame engine of the device (48n + e), the installed programs (128n + 64 × set + slot), the microcode (2n + set),
the command of each region, the wipes in progress, the core that the known-answer test of each region tests next, the
fenced blocks and the chip alarm (R9). -/
structure FenState where
  engines : KMap Engine := []
  progs : KMap (Option ModeProg) := []
  ucode : KMap (Option ModeProg) := []
  mpCmd : KMap (Option MpCmd) := []
  /-- jobs of the MCU that wait for a normal inbox, by region, oldest first (R83) -/
  jobs : KMap (List WorkItem) := []
  wipes : List KeyWipe := []
  katPos : KMap Nat := []
  blocks : List FBlock := []
  chipAlarm : Bool := false
  deriving DecidableEq, Repr

end Sys2Proof.Machine
end

