-- ==== Sys2Proof/Machine/SbTypes.lean ====
section
/-!
DEFINITION. What the management protocols send and hold: the answers of the side-band and the mailbox (R626, R632 to R640), and an
SPDM conversation (R627, R628).
-/

namespace Sys2Proof.Machine

/-- An answer, by its content; the octets that carry it are the protocols' (notes/assumptions/70.md). -/
inductive SbAnswer where
  /-- a vendor command: COMMAND, RESULT and the words of its data (Tables 20-3 and 20-4) -/
  | vendor (command result : Nat) (data : List (BitVec 64))
  /-- MCTP control: command, completion code and data fields -/
  | mctp (command completion : Nat) (data : List Nat)
  /-- PLDM: type, command, completion code and data fields -/
  | pldm (type command completion : Nat) (data : List Nat)
  /-- the PDR of a sensor of R634 -/
  | pdr (sensor : Nat)
  /-- a reading of a sensor of R634, none while it is unavailable -/
  | reading (sensor : Nat) (value : Option Int)
  /-- a common command code of I3C that reads -/
  | ccc (code : Nat) (value : Nat)
  deriving DecidableEq, Repr

/-- An SPDM conversation: how far it has come (1 VERSION, 2 CAPABILITIES, 3 ALGORITHMS), the messages that the next signatures
cover, and the responses sent, newest last. -/
structure SpdmConn where
  stage : Nat := 0
  a : List (BitVec 8) := []
  b : List (BitVec 8) := []
  l : List (BitVec 8) := []
  out : List (List (BitVec 8)) := []
  deriving DecidableEq, Repr

end Sys2Proof.Machine
end

