-- ==== Sys2Proof/Machine/HifTypes.lean ====
section
/-!
DEFINITION. The rings of PF1 (R605 to R616) with their doorbell pages (Table 19-3), and what the host interface holds beside its
registers: function resets, the mailbox, PCIe, SPDM and ATS.
-/

namespace Sys2Proof.Machine

/-- A descriptor written back: its number in the ring, its four words and, for a receive ring, the octets of its buffer. -/
structure RingWb where
  idx : Nat
  words : List Word
  data : List Byte
  deriving DecidableEq, Repr

/-- A transmit frame whose descriptors have been fetched: its own number, the count of its first descriptor, the descriptors, and
its status and transmit time once it has ended. -/
structure TxFrame where
  id : Nat
  first : Nat
  descs : List (List Word)
  done : Option (Nat × Option Word) := none
  deriving DecidableEq, Repr

/-- A ring: its doorbell page, the count of the next descriptor to fetch, the transmit frames in ring order and the number of the
next one, the write-backs made, and the completions not yet reported (R621). -/
structure Ring where
  tail : Nat := 0
  head : Nat := 0
  stalled : Bool := false
  err : Bool := false
  fetched : Nat := 0
  nextId : Nat := 0
  txq : List TxFrame := []
  wbs : List RingWb := []
  unreported : Nat := 0
  /-- the transfer that waits for a page (R615): the descriptors of a transmit frame, or the buffer of a receive frame -/
  wait : Option (List (List Word) × Nat) := none
  /-- its page request has no response yet (R616) -/
  paging : Bool := false
  deriving DecidableEq, Repr

/-- The host interface. -/
structure HifState where
  rings : KMap Ring := []
  /-- mailbox responses written to host memory, newest last -/
  mboxOut : List SbAnswer := []
  /-- the translation cache: page and function, oldest first (Table 19-1) -/
  atc : List (Nat × Nat) := []
  /-- invalidations answered -/
  invDone : Nat := 0
  /-- the SPDM conversation over DOE -/
  doe : SpdmConn := {}
  deriving DecidableEq, Repr

end Sys2Proof.Machine
end

