-- ==== Sys2Proof/Machine/KrwTypes.lean ====
section
/-!
DEFINITION. What the Kraow framer of each line port holds beside its registers (R202 to R241), the integration of its defects
(R244 to R253), its performance counters (R265 to R269), its tributaries (R215 to R235) and the protection groups (R258 to R264).
-/

namespace Sys2Proof.Machine

/-- An embedded channel (R236 to R240): the bits waiting to be sent and the fraction of a bit owed (1/10,000 bit); on receive, the
consecutive ones seen and the bits of the message in progress, none outside a message. -/
structure Chan where
  bits : List Bool := []
  owed : Nat := 0
  ones : Nat := 0
  msg : Option (List Bool) := none
  deriving DecidableEq, Repr

/-- A second of performance data (Table 7-6): the nine counters, the defect mask with dRDI in bit 11, its start and TB_VALID. -/
structure PmSecond where
  counts : List Nat
  defs : Nat
  start : Nat
  tb : Bool
  /-- a step of the time base fell into it (R269) -/
  step : Bool
  deriving DecidableEq, Repr

/-- A bin (R268): its start, the seconds it covers, its sums and its ES, SES and UAS counts; `bad` as R269 states. -/
structure PmBin where
  start : Nat
  tb : Bool
  secs : Nat := 0
  sums : List Nat := [0, 0, 0, 0, 0, 0, 0, 0, 0]
  es : Nat := 0
  ses : Nat := 0
  uas : Nat := 0
  bad : Bool := false
  deriving DecidableEq, Repr

/-- The runs of consecutive Kraow frames that dAIS, dAUTH and dRDI count (R245, R253), and the seconds that dDEG counts. -/
structure KrwRuns where
  ais : Nat := 0
  noAis : Nat := 0
  failing : Nat := 0
  accepted : Nat := 0
  rdi : Nat := 0
  noRdi : Nat := 0
  deg : Nat := 0
  noDeg : Nat := 0
  deriving DecidableEq, Repr

/-- The B2 checks of a receiver (R187, R188): the B2 of the last multiframe that yielded one, the multiframes since its
announcement began, whether this multiframe has yielded one, and the runs of Table 5-3; `cause` is the mask
of the causes present in the last one. -/
structure KcmState where
  prev : Option (Nat × Nat × Nat) := none
  since : Nat := 0
  got : Bool := false
  cause : Nat := 0
  run : Nat := 0
  clean : Nat := 0
  deriving DecidableEq, Repr

/-- The Kraow framer of a line port. -/
structure KrwPort where
  /-- the AN requested by a MODIFY of CUR_AN and not yet announced or applied (R181) -/
  keyReq : Option Nat := none
  /-- the last four transmit and receive times of reference Kraow frames (R565): FRAME_COUNT and time in 2^-16 ns, newest first -/
  ttTx : List (Nat × Nat) := []
  ttRx : List (Nat × Nat) := []
  /-- the next FRAME_COUNT (R149) and the highest lease of it that has been acknowledged (R358) -/
  frameCount : Nat := 1
  lease : Nat := 0
  /-- parity of the Kraow frame sent last (B4), BIP-8 errors not yet reported as REI (R256) -/
  txBip : Nat := 0
  rei : Nat := 0
  kTx : Chan := {}
  tTx : Chan := {}
  aTx : Chan := {}
  /-- Kraow frames handed to the PCS, oldest first, each as its 1,024 blocks: sync header and octets (R203, R204) -/
  sent : List (List (BitVec 2 × List Byte)) := []
  /-- the next Kraow frame has waited for a lease, and WAITS has counted it (R359) -/
  waited : Bool := false
  /-- octets of received 66b blocks not yet consumed -/
  rxBuf : List Byte := []
  /-- blocks received out of frame, or without signal, lock or alignment, since the last position given to the demappers, and the frame
  number that the next such position counts as (R250) -/
  gap : Nat := 0
  gapFn : Nat := 0
  /-- consecutive bad markers (R210), and the Kraow frames since a good marker with FN = 0 -/
  badRun : Nat := 0
  sinceFn0 : Option Nat := none
  /-- parity of the Kraow frame received last, when the port has stayed in frame (R248) -/
  rxBip : Option Nat := none
  kRx : Chan := {}
  tRx : Chan := {}
  aRx : Chan := {}
  /-- lane alignment holds -/
  aligned : Bool := false
  runs : KrwRuns := {}
  kcm : KcmState := {}
  /-- multiframe boundaries until the deuce of the RX key SC ends (R185) -/
  deuceLeft : Option Nat := none
  /-- trace octets of the trace under way, none once it cannot be complete; the last complete trace and how often in a row (R246) -/
  trace : Option (List Byte) := none
  traceLast : List Byte := []
  traceRun : Nat := 0
  traceOk : Bool := false
  /-- defects declared before suppression, dPLM apart (Table 7-1), and the tributaries with dPLM declared -/
  raw : Nat := 0
  plm : Nat := 0
  rdi : Bool := false
  /-- SEL received in the last accepted Kraow frame -/
  selRx : Bool := false
  /-- performance counters of the current second, defects seen in it, its start (R265) -/
  pm : List Nat := [0, 0, 0, 0, 0, 0, 0, 0, 0]
  pmDefs : Nat := 0
  pmStart : Nat := 0
  pmTb : Bool := false
  /-- seconds not yet classified for availability, oldest first, and whether the port is unavailable (Table 7-7) -/
  pmWait : List PmSecond := []
  pmUnavail : Bool := false
  bins15 : List PmBin := []
  bins24 : List PmBin := []
  deriving DecidableEq, Repr

/-- A normal frame sent in several crates (R231, R233): TYPE and EXP of its crates, the octets sent and those still to send, and
whether it has turned out bad. -/
structure CrateRun where
  typ : Nat
  exp : Nat := 0
  sent : Nat := 0
  rest : List Byte
  bad : Bool := false
  deriving DecidableEq, Repr

/-- A tributary of a line port. -/
structure Trib where
  /-- start-up has begun sending (R243); Kraow frames until a multiframe boundary may begin it -/
  begun : Bool := false
  wait : Nat := 4
  /-- a shut-down has reached the multiframe boundary from which the words carry zeros (R243) -/
  ended : Bool := false
  /-- the next pointer word carries JUST = 0b11 (R222, R262) -/
  newPtr : Bool := true
  /-- justification of the current pointer period, and the one announced for the next -/
  just : Nat := 0
  nextJust : Nat := 0
  /-- octets of the current pointer period still to be sent, and those that the next period begins with -/
  period : List Byte := []
  carry : List Byte := []
  /-- the frame under way in several crates (R231, R233) -/
  cur : Option CrateRun := none
  /-- client 66b blocks waiting for a group: the sync bit and the octets (R224) -/
  blocks : List (Bool × List Byte) := []
  /-- a pointer word has been received (R222, R223); justification of the current receive period, and JUST and OFFSET received for the next -/
  rxOn : Bool := false
  rxJust : Nat := 0
  rxNext : Option (Nat × Nat) := none
  /-- octets at the head of the current receive period that are not taken: 2^20 while no OFFSET has been received to begin at; where in
  the period a group begins anew (R223) -/
  rxSkip : Nat := 1048576
  rxCut : Option Nat := none
  /-- OFFSET expected or adopted for the current receive period -/
  rxOff : Nat := 0
  /-- crate delineation: 0 HUNT, 1 PRESYNC, 2 SYNC (R235); octets not yet delineated, in HUNT those from OFFSET on -/
  delin : Nat := 0
  rxOct : List Byte := []
  /-- reassembly contexts of normal and express frames (R233): with volley tag, and the octets so far -/
  ctxN : Option (Bool × List Byte) := none
  ctxX : Option (Bool × List Byte) := none
  /-- octets of the group in progress (R224) -/
  group : List Byte := []
  /-- label last received and how often in a row (R247); whether a label has been accepted -/
  label : Nat := 0
  labelRun : Nat := 0
  labelOk : Bool := false
  deriving DecidableEq, Repr

/-- A protection group: the selection that its requests call for (P when true), whether wait-to-restore has run out, and the port from
which its block-transparent tributaries are taken (R263; P when true). -/
structure PgState where
  want : Bool := false
  wtrOver : Bool := false
  rxUse : Bool := false
  deriving DecidableEq, Repr

/-- The Kraow framers, by line port, their tributaries (32p + t) and the protection groups. -/
structure KrwState where
  ports : KMap KrwPort := []
  tribs : KMap Trib := []
  /-- what waits in the mapper of a tributary (32p + t), oldest first -/
  mapper : KMap (List Item) := []
  groups : KMap PgState := []
  /-- 66b blocks delivered to the block-transparent client ports, oldest first: sync bit and octets -/
  clientOut : KMap (List (Bool × List Byte)) := []
  /-- a time step has fallen into the current second of performance data (R269) -/
  stepped : Bool := false
  deriving DecidableEq, Repr

end Sys2Proof.Machine
end

