-- ==== Sys2Proof/Machine/KstTypes.lean ====
section
/-!
DEFINITION. The key store (R499 to R524), the one-time array (Table 15-1), the random bit generator (R519) and the life-cycle
machinery.
-/

namespace Sys2Proof.Machine

/-- A key as a slot holds it. -/
structure KeyRec where
  purpose : Nat
  dir : Nat
  len : Nat
  vol : Bool
  limitEn : Bool
  useLimit : Nat
  used : Nat
  /-- the committed checkpoint C (R517) -/
  checkpoint : Nat
  /-- 0 none, 1 LIMIT, 2 FAULT, 3 JOURNAL -/
  cause : Nat
  kcv : Nat
  key : List Byte
  salt : Nat
  deriving DecidableEq, Repr

/-- A change of a slot that waits for its journal entry (R509, R510): the key to take force or an erasure, and whether the host
port made it (R511). -/
structure SlotChange where
  key : Option KeyRec
  host : Bool
  deriving DecidableEq, Repr

/-- A slot: the key in force, its generation and the changes awaiting their commits, oldest first. -/
structure KeySlot where
  key : Option KeyRec := none
  gen : Nat := 0
  changes : List SlotChange := []
  deriving DecidableEq, Repr

/-- A key command as the pair's mirror carries it (R347). -/
structure KstMirror where
  op : Nat
  part : Nat
  kh : Nat
  attr : Word
  key : List Byte
  salt : Nat
  deriving DecidableEq, Repr

/-- What a KST command port holds (R501). -/
inductive KstPort where
  /-- no command -/
  | idle
  /-- written and not yet begun -/
  | waiting (op part kh : Nat) (rsv : Bool)
  /-- executed; `KST_CMD_END` reports it. `journalled` when a journal entry has yet to commit (R511) -/
  | executed (result kh : Nat) (journalled : Bool) (mir : Option KstMirror)
  /-- an ERASE waiting for its wipes (R508) -/
  | erasing (kh : Nat) (journalled : Bool) (mir : Option KstMirror)
  deriving DecidableEq, Repr

/-- A public key being written in parts (R505). -/
structure PartKey where
  kh : Nat
  next : Nat
  attr : Word
  bytes : List Byte
  deriving DecidableEq, Repr

/-- The key store, its ports and the random bit generator. -/
structure KstState where
  slots : KMap KeySlot := []
  hostPort : KstPort := .idle
  mcuPort : KstPort := .idle
  lastMcu : Bool := false
  hostPart : Option PartKey := none
  mcuPart : Option PartKey := none
  /-- the change of the port that awaits its commit (R511) -/
  hostWait : Option Nat := none
  mcuWait : Option Nat := none
  /-- the DRBG refuses draws (R520), its consecutive failures and the requests since its last reseed -/
  drbgStopped : Bool := false
  drbgFails : Nat := 0
  drbgReqs : Nat := 0
  /-- draws waiting for a reseed (R521), by the code of the function that waits -/
  drawWaits : List Nat := []
  deriving DecidableEq, Repr

/-- A root of the one-time array with its valid flag and whether its ECC corrects. -/
structure Root where
  bytes : List Byte := []
  valid : Bool := false
  eccOk : Bool := false
  deriving DecidableEq, Repr

/-- The one-time array (Table 15-1) with the fused core-voltage setpoint (R679), and the life-cycle machinery. -/
structure LcmState where
  rootA : Root := {}
  rootB : Root := {}
  /-- life-cycle bits, bit 0 PERSONALISE to bit 3 END -/
  lcBits : Nat := 0
  oroasHashes : List (List Byte) := []
  customerHashes : List (List Byte) := []
  setpoint : Nat := 800
  challenge : Option (List Byte) := none
  /-- result of the command in progress -/
  cmd : Option Nat := none
  /-- state root in force, derived at start-up (R491) -/
  stateRoot : Option (List Byte) := none
  deriving DecidableEq, Repr

end Sys2Proof.Machine
end

