-- ==== Sys2Proof/Machine/LetTypes.lean ====
section
/-!
DEFINITION. The let streams (R303): the sending half with its records (R317) and the receiving half with its reorder store
(R322) and its gaps (R324).
-/

namespace Sys2Proof.Machine

/-- A record of the let store (R317): its number, the frame and whether it can still be read. -/
structure LetRec where
  number : Nat
  it : Item
  /-- the instant of its last replay (R320), in ns since reset -/
  replayedAt : Option Nat := none
  deriving DecidableEq, Repr

/-- A gap of the receiving half (R324): the missing run, whether its skew wait has ended, and whether a NAK has named it. -/
structure LetGap where
  first : Nat
  last : Nat
  skewEnded : Bool := false
  naked : Bool := false
  deriving DecidableEq, Repr

/-- A let control message (Table 9-5). -/
structure LetMsg where
  subtype : Nat
  stream : Nat
  instId : Nat
  value : Nat
  aux : Nat
  ranges : List (Nat × Nat)
  deriving DecidableEq, Repr

/-- A let stream's working state beside its registers. -/
structure LetStream where
  records : List LetRec := []
  /-- numbers numbered and never retained or no longer held (L = 0) are those below NEXT without a record -/
  replayPoint : Nat := 0
  /-- retention is stopped by TAILDROP or SUSPEND until it may resume (R333, R334) -/
  stopped : Bool := false
  /-- numbers named by NAKs that await replay (R320) -/
  nakked : List Nat := []
  /-- INSTANCE recorded by the receiving half (R330) -/
  peer : Option Nat := none
  /-- frames held by the receiving half, by number, marked or beyond the bitmap -/
  held : KMap (Option Item) := []
  /-- second frames held of numbers beyond the bitmap (Table 9-4) -/
  extra : List (Nat × Item) := []
  /-- runs of numbers declared lost and not yet passed by RX_NEXT -/
  lost : List (Nat × Nat) := []
  gaps : List LetGap := []
  /-- NEXT of the last accepted HELLO -/
  helloNext : Nat := 0
  /-- frames delivered since the last ACK (R328) -/
  sinceAck : Nat := 0
  /-- shut-down step reached (R338) -/
  closeStep : Nat := 0
  deriving DecidableEq, Repr

/-- Every let stream, and the control messages sent, oldest first, with the line port of each. -/
structure LetState where
  streams : KMap LetStream := []
  sent : List (Nat × LetMsg) := []
  /-- octets of the frames held in each region's reorder partition -/
  reorderUsed : KMap Nat := []
  /-- by 32s + p, the instant, in ns since reset, until which what stream s has replayed on line port p takes its share of the port's
  rate (R319) -/
  replayBusy : KMap Nat := []
  deriving DecidableEq, Repr

end Sys2Proof.Machine
end

