-- ==== Sys2Proof/Machine/MtlTypes.lean ====
section
/-!
DEFINITION. What the pair's mate link holds beside its registers (R340 to R368).
-/

namespace Sys2Proof.Machine

/-- A lease asked for: an SA, or 65,536 plus a Kraow line port, and its number (R358, R359). -/
structure LeaseAsk where
  who : Nat
  lease : Nat
  deriving DecidableEq, Repr

/-- The checkpoints and anchors of a let stream (R353 to R356). -/
structure MtlStream where
  /-- the last 65,536 numbered frames, newest first -/
  hist : List (Nat × List Byte) := []
  /-- checkpoints received for numbers not yet reached: number and digest -/
  wants : List (Nat × Nat) := []
  anchored : Bool := false
  anchorAt : Nat := 0
  inStep : Bool := false
  /-- out of step (R354) -/
  oos : Bool := false
  /-- the number at which ANCHOR_REQ is sent again (R355) -/
  retryAt : Option Nat := none
  /-- the ANCHOR that an active owes: A -/
  anchorDue : Option Nat := none
  deriving DecidableEq, Repr

/-- The mate link. -/
structure MtlState where
  /-- the MCU or FAB heartbeat has been lost since the last device reset (R342) -/
  heartLost : Bool := false
  /-- frames of the rally messages sent, oldest first -/
  sent : List (List Byte) := []
  rseqTx : Nat := 0
  rseqRx : Nat := 0
  /-- LEASE_REQ messages without a matching LEASE_ACK yet -/
  asks : List LeaseAsk := []
  /-- RX_NEXT of each let stream in the last DELIVERY received (R356, R357) -/
  delivery : KMap Nat := []
  /-- consecutive missed rallies (R351) -/
  missed : Nat := 0
  /-- the role awaits the mate link: 1 for 500 ms, 2 for the further 1 s (Table 10-1) -/
  roleWait : Nat := 0
  /-- ROLE, FLAGS and unacknowledged leases of the last HEALTH, and PREFER of the other device, once known -/
  peerRole : Nat := 0
  peerFlags : Nat := 0
  peerUnacked : Nat := 0
  peerPrefer : Option Bool := none
  /-- ports that the active reports ACTIVE (R295) -/
  peerPorts : List Nat := []
  /-- a mirrored command has failed (R346) -/
  mirrorBad : Bool := false
  /-- the SA whose mirrored DELETE has not ended (R62) -/
  mirrorHeld : Option Nat := none
  /-- MIRROR (7) and LEASE_REQ (4) messages received behind that DELETE, oldest first (R346, R360) -/
  mirrorQ : List (Nat × List Byte) := []
  /-- the instant at which a background test last failed (R352), by bit of FLAGS -/
  fails : KMap (Option Nat) := []
  /-- the handshake window of a takeover is open (R366) -/
  window : Bool := false
  streams : KMap MtlStream := []
  deriving DecidableEq, Repr

end Sys2Proof.Machine
end

