-- ==== Sys2Proof/Machine/NvjTypes.lean ====
section
/-!
DEFINITION. The attached flash device (Table 16-1), the journal's requests and the entry being programmed, and the
command of each NVJ register.
-/

namespace Sys2Proof.Machine

/-- An entry to be appended: TYPE and plaintext payload (Table 16-10). -/
structure JReq where
  typ : Nat
  payload : List Byte
  deriving DecidableEq, Repr

/-- The entry between its first program and its COMMIT (R536): the request, the octets of offsets 0 to C - 1, its SEQ and
its place: working position and 256-byte boundary. -/
structure JProg where
  req : JReq
  bytes : List Byte
  seq : Nat
  pos : Nat
  boundary : Nat
  deriving DecidableEq, Repr

/-- A journal entry as it lies in the flash: KSTATE, whether its COMMIT is exact, TYPE, SEQ, ciphertext, tag, all its octets, and
where the next entry may begin. -/
structure JEntry where
  kstate : Nat
  committed : Bool
  typ : Nat
  seq : Nat
  head : List Byte
  body : List Byte
  tag : List Byte
  bytes : List Byte
  deriving DecidableEq, Repr

/-- The NVJ and its flash device. `flash` lists the octets that are not 0xFF. -/
structure NvjState where
  flash : KMap Byte := []
  /-- retired journal sectors (256r + physical sector) -/
  retired : List Nat := []
  /-- physical sector of each working position of the active region (Table 16-8) -/
  map : List Nat := []
  /-- active region, its GEN, and the next free place: working position and 256-byte boundary within the sector -/
  active : Nat := 0
  gen : Nat := 0
  pos : Nat := 0
  boundary : Nat := 1
  /-- the next entry sequence -/
  seq : Nat := 1
  /-- the journal key, once derived (R543) -/
  key : Option (List Byte) := none
  queue : List JReq := []
  prog : Option JProg := none
  /-- the COMMIT program of `prog` has begun (R537) -/
  committing : Bool := false
  /-- a tamper response has reached the NVJ (R537) -/
  stopped : Bool := false
  /-- the OP of the `NVJ_JCTRL` command in progress -/
  jcmd : Option Nat := none
  /-- the result of the image command in progress, and its PROGRESS -/
  img : Option (Nat × Nat) := none
  /-- the slot loaded at the last start (R532) -/
  loaded : Option Nat := none
  /-- a compaction runs (R542) -/
  compacting : Bool := false
  /-- sectors of the inactive region still to pre-erase -/
  preErase : List Nat := []
  /-- replay has begun: BSK_MODE is read-only (R543) -/
  replayed : Bool := false
  /-- the live CONFIG payloads found by replay, oldest first -/
  config : List (List Byte) := []
  /-- the live REPAIR payloads found by replay -/
  repairs : List (List Byte) := []
  /-- the start count of the last BOOT entry -/
  starts : Nat := 0
  /-- offset of the next event record within the event log (R545) -/
  logAt : Nat := 0
  deriving DecidableEq, Repr

end Sys2Proof.Machine
end

