-- ==== Sys2Proof/Machine/QueueTypes.lean ====
section
/-!
DEFINITION. Buffer accounts (R377), queues with head, marrow and tail (R391), schedulers, shapers, meters and latency
statistics (R414 to R436), and the leaked-buffer audit (R407).
-/

namespace Sys2Proof.Machine

/-- What a queue holds. -/
inductive QEntry where
  /-- a frame -/
  | frame (it : Item)
  /-- the descriptor of a let record: stream and number (R317) -/
  | letRec (stream number : Nat)
  deriving DecidableEq, Repr

/-- A marrow chunk: its items, oldest first (R393). -/
structure Chunk where
  index : Nat
  items : List QEntry
  poisoned : Bool := false
  deriving DecidableEq, Repr

/-- A queue: head, marrow and tail, oldest first; the items ahead of its flush mark (R401), if a flush runs. -/
structure Queue where
  head : List QEntry := []
  marrow : List Chunk := []
  tail : List QEntry := []
  flush : Option Nat := none
  /-- shut-down work of R389 still to complete -/
  closing : Bool := false
  /-- lines of the head and of the tail that are retired, 4 items each (R400) -/
  headLost : Nat := 0
  tailLost : Nat := 0
  deriving DecidableEq, Repr

/-- An ingress account (R377): cells in use and those of them drawn from headroom. -/
structure Account where
  cells : Nat := 0
  hdrm : Nat := 0
  /-- PFC pause requested (R384) -/
  paused : Bool := false
  deriving DecidableEq, Repr

/-- A meter's buckets in 1/256 byte (R425) and the instant of their last fill. -/
structure Meter where
  tc : Nat := 0
  tp : Nat := 0
  last : Nat := 0
  deriving DecidableEq, Repr

/-- A queue's shaper credit in 1/8000 byte (RATE in Mb/s over ns) and the instant of its last fill. -/
structure Shaper where
  credit : Int := 0
  last : Nat := 0
  deriving DecidableEq, Repr


/-- Latency statistics of a queue (R434). -/
structure LatStat where
  depthMin : Nat := 0
  depthMax : Nat := 0
  depthSum : Nat := 0
  depthN : Nat := 0
  delayMin : Nat := 0
  delayMax : Nat := 0
  delaySum : Nat := 0
  delayN : Nat := 0
  /-- an armed delay sample, with whether a time step has fallen since (R432, R433) -/
  armed : Option Bool := none
  deriving DecidableEq, Repr

/-- An object the audit knows to be in use without the model holding what refers to it: an orphan injected by a fault.
kind 0 cell, 1 chunk, 2 extent; its owner, its stamp and whether the last pass found it orphaned with that stamp. -/
structure Orphan where
  region : Nat
  kind : Nat
  index : Nat
  owner : Nat
  stamp : Nat
  seen : Bool
  deriving DecidableEq, Repr

/-- Buffers, queues and scheduling. Accounts and meters: 128n + 8k + c. Queues and shapers: q. Schedulers: port 0 to 63.
Histograms: 16 × group + bin. -/
structure QState where
  accounts : KMap Account := []
  queues : KMap Queue := []
  meters : KMap Meter := []
  shapers : KMap Shaper := []
  scheds : KMap Sched := []
  lat : KMap LatStat := []
  hist : KMap Nat := []
  /-- the audit's notes on objects found orphaned -/
  orphans : List Orphan := []
  /-- chunks taken out of the free list, by region -/
  chunksUsed : KMap Nat := []
  /-- buffer cells lost for good (Table 14-3), by region -/
  lostCells : KMap Nat := []
  /-- buffer cells charged to queues, by region -/
  queueCells : KMap Nat := []
  deriving DecidableEq, Repr

/-- The cells of region n that the accounts hold. -/
def QState.cellsUsed (q : QState) (n : Nat) : Nat :=
  ((q.accounts.filter fun a => a.1 / 128 == n).map fun a => a.2.cells).foldl (· + ·) 0

/-- `FAB_BUF_STATUS.FREE` of region n: the cells of the pool that nothing holds. -/
def QState.free (q : QState) (n : Nat) : Nat := 98304 - q.lostCells.get n 0 - q.cellsUsed n - q.queueCells.get n 0

end Sys2Proof.Machine
end

