-- ==== Sys2Proof/Machine/Regs.lean ====
section
/-!
DEFINITION. The register file of the Bolorn: every register that the chapters' register sections describe, with its
place in PF0 BAR0 (R38, R39), its index dimensions, its fields and their access codes (R3), and its reset value.

A register that the spec gives in several instances has ONE constructor here; `dims` lists, outermost first, the
stride and the first and last index of each dimension, and an instance is named by ONE flat index (mixed radix over
the dimensions, each taken from its first index), so that line port 8n + k is index 8n + k of a register with
dimensions n and k.  Reserved bits (RSV) belong to no field.
-/

namespace Sys2Proof.Machine

/-- The access codes of R3; `RSV` bits belong to no field. -/
inductive Access where
  | rw | ro | wo | w1c | w1s | rc
  deriving DecidableEq, Repr

/-- The registers of the Bolorn (one constructor per register heading of spec/). -/
inductive Reg where
  /-- 0x0000_0100 + 8 × n (n = region 0 to 3) (01_architecture.md, R12). -/
  | GLB_REGION_STATUS
  /-- 0x0000_0120 (01_architecture.md, R40). -/
  | GLB_UNMAPPED_CNT
  /-- 0x0000_0128 (01_architecture.md, R40). -/
  | GLB_UNMAPPED_ADDR
  /-- B + 0x000 + 8 × i (i = 0 to 7) (02_associations_and_tables.md, R698). -/
  | TBL_DATA
  /-- B + 0x040 (02_associations_and_tables.md, R698). -/
  | TBL_CMD
  /-- B + 0x048 (02_associations_and_tables.md, R698). -/
  | TBL_STATUS
  /-- B + 0x100 (02_associations_and_tables.md, R67). -/
  | TBL_SEED
  /-- B + 0x108 (02_associations_and_tables.md, R68). -/
  | TBL_OCCUPANCY
  /-- B + 0x200 + 8 × k (k = 0 to 15) (02_associations_and_tables.md, R68). -/
  | TBL_PORTCFG
  /-- B + 0x280 + 8 × k (k = 0 to 15) (02_associations_and_tables.md, R68). -/
  | TBL_MISS_CNT
  /-- B + 0x300 + 8 × i (i = 1 to 15) (02_associations_and_tables.md, R68). -/
  | TBL_ETCLASS
  /-- B + 0x110 (02_associations_and_tables.md, R81). -/
  | TBL_SHADOW_BASE
  /-- B + 0x118 (02_associations_and_tables.md, R81). -/
  | TBL_SHADOW_CTRL
  /-- B + 0x120 (02_associations_and_tables.md, R81). -/
  | TBL_SHADOW_STATUS
  /-- B + 0x128 (02_associations_and_tables.md, R81). -/
  | TBL_SHADOW_LOST
  /-- B + 0x400 + 16 × j (j = 0 to 63) (02_associations_and_tables.md, R81). -/
  | TBL_SHADOW_LOG
  /-- F + 0x000 + 8 × p (p = 0 to 5) (03_frame_engines.md, R83). -/
  | FEN_POD_CTRL
  /-- F + 0x400 (03_frame_engines.md, R103). -/
  | FEN_MP_ADDR
  /-- F + 0x408 (03_frame_engines.md, R103). -/
  | FEN_MP_CMD
  /-- F + 0x410 (03_frame_engines.md, R103). -/
  | FEN_MP_STATUS
  /-- F + 0x500 + 8 × s (s = 0 to 63) (03_frame_engines.md, R104). -/
  | FEN_MP_SLOT
  /-- F + 0x280 (03_frame_engines.md, R109). -/
  | FEN_WDOG
  /-- F + 0x300 (03_frame_engines.md, R118). -/
  | FEN_KSA_CTRL
  /-- F + 0x308 (03_frame_engines.md, R118). -/
  | FEN_KSA_CNT
  /-- F + 0x310 (03_frame_engines.md, R123). -/
  | FEN_FAULT
  /-- F + 0x100 + 8 × e (e = 0 to 47) (03_frame_engines.md, R123). -/
  | FEN_ENG
  /-- F + 0x288 (03_frame_engines.md, R127). -/
  | FEN_KAT_CTRL
  /-- F + 0x290 (03_frame_engines.md, R127). -/
  | FEN_KAT_STATUS
  /-- B + 0x1100 + 8 × k (k = 0 to 7, line port 8n + k) (04_protection_procedures.md, R143). -/
  | SAT_RXPORT_CFG
  /-- B + 0x1140 + 8 × k (k = 0 to 7) (04_protection_procedures.md, R143). -/
  | SAT_RXPORT_SCI
  /-- B + 0x1180 + 8 × k (k = 0 to 7) (04_protection_procedures.md, R143). -/
  | SAT_RXPORT_CNT
  /-- 0x0100_0000 × (n + 1) + 0xC0_1000 + 8 × k (k = 0 to 15) (04_protection_procedures.md, R158). -/
  | FAB_CT_CFG
  /-- B + 0x1010 (04_protection_procedures.md, R166). -/
  | SAT_PN_STATUS
  /-- B + 0x1000 (04_protection_procedures.md, R171). -/
  | SAT_STAT_CMD
  /-- B + 0x1008 (04_protection_procedures.md, R171). -/
  | SAT_STAT_STATUS
  /-- B + 0x1040 (04_protection_procedures.md, R171). -/
  | SAT_TXSTAT
  /-- B + 0x1080 (04_protection_procedures.md, R171). -/
  | SAT_RXSTAT
  /-- B + 0x1018 (05_key_change.md, R177). -/
  | SAT_DEUCE_CFG
  /-- 0x0100_0000 × (n + 1) + 0x10_4000 + 8 × k (k = 0 to 7, line port 8n + k) (05_key_change.md, R189). -/
  | KFR_KEYSW
  /-- 0x0000_0400 (05_key_change.md, R197). -/
  | GLB_AGT_CTRL
  /-- 0x0000_0500 + 8 × p (p = 0 to 31, line port p) (05_key_change.md, R197). -/
  | GLB_AGT_PORT
  /-- 0x0000_1000 + 32 × p (p = 0 to 31) (05_key_change.md, R198). -/
  | GLB_AGT_CKN
  /-- +0x2000 + 8 × k (k = 0 to 7) (06_kraow_frame.md, R242). -/
  | KFR_CFG
  /-- +0x2040 + 8 × k (k = 0 to 7) (06_kraow_frame.md, R242). -/
  | KFR_ALIGN
  /-- +0x2080 + 8 × k (k = 0 to 7) (06_kraow_frame.md, R242). -/
  | KFR_EC_STAT
  /-- +0x3000 + 256 × k + 8 × t (k = 0 to 7, t = 0 to 31) (06_kraow_frame.md, R242). -/
  | KFR_TRIB
  /-- +0x3800 + 256 × k + 8 × t (06_kraow_frame.md, R243). -/
  | KFR_TRIB_STAT
  /-- +0x5000 + 64 × k + 8 × w (w = 0 to 7) (06_kraow_frame.md, R243). -/
  | KFR_TTI_TX
  /-- 0x00C0_8000 + 8 × g (g = 0 to 15) (07_kraow_maintenance.md, R264). -/
  | FAB_PG_CFG
  /-- 0x00C0_8080 + 8 × g (g = 0 to 15) (07_kraow_maintenance.md, R264). -/
  | FAB_PG_STATUS
  /-- +0x2100 + 8 × k (k = 0 to 7) (07_kraow_maintenance.md, R264). -/
  | KFR_MON_CFG
  /-- +0x2140 + 8 × k (k = 0 to 7) (07_kraow_maintenance.md, R264). -/
  | KFR_DEFECT
  /-- +0x6000 + 64 × k + 8 × w (w = 0 to 7) (07_kraow_maintenance.md, R265). -/
  | KFR_PM_SNAP
  /-- +0x5200 + 64 × k + 8 × w (w = 0 to 7) (07_kraow_maintenance.md, R264). -/
  | KFR_TTI_EXP
  /-- +0x5400 + 64 × k + 8 × w (w = 0 to 7) (07_kraow_maintenance.md, R264). -/
  | KFR_TTI_RX
  /-- 0x00A0_0100 + 8 × m (m = 0, 1) (08_lanes_and_ports.md, R302). -/
  | MTL_LANE_STATUS
  /-- +0x0000 (08_lanes_and_ports.md, R302). -/
  | CPX_CFG
  /-- +0x0000 (08_lanes_and_ports.md, R302). -/
  | LPX_CFG
  /-- +0x0100 + 8 × k (k = first lane) (08_lanes_and_ports.md, R302). -/
  | CPX_PORT_CTRL
  /-- +0x0100 + 8 × k (k = first lane) (08_lanes_and_ports.md, R302). -/
  | LPX_PORT_CTRL
  /-- +0x0180 + 8 × k (08_lanes_and_ports.md, R302). -/
  | CPX_PORT_STATUS
  /-- +0x0180 + 8 × k (08_lanes_and_ports.md, R302). -/
  | LPX_PORT_STATUS
  /-- L + 0x000 (08_lanes_and_ports.md, R302). -/
  | LNS_BRING_CFG
  /-- L + 0x008 (08_lanes_and_ports.md, R302). -/
  | LNS_HUD_CFG
  /-- L + 0x100 + 8 × j (j = 0 to 15) (08_lanes_and_ports.md, R302). -/
  | LNS_LANE
  /-- L + 0x200 + 8 × j (08_lanes_and_ports.md, R302). -/
  | LNS_PRBS_ERR
  /-- L + 0x300 + 8 × j (08_lanes_and_ports.md, R302). -/
  | LNS_EYE
  /-- L + 0x400 + 16 × k (k = 0 to 7, line port 8n + k) (08_lanes_and_ports.md, R302). -/
  | LNS_HUD_PEER
  /-- 0x00B0_0000 (09_volley_and_let.md, R339). -/
  | LET_TIMING
  /-- 0x00B0_0100 + 8 × p (p = 0 to 31, line port p) (09_volley_and_let.md, R339). -/
  | LET_CTL_DA
  /-- 0x00B0_1000 + 8 × s (s = 0 to 255) (09_volley_and_let.md, R339). -/
  | LET_STREAM_CFG
  /-- 0x00B0_1800 + 8 × s (09_volley_and_let.md, R339). -/
  | LET_STREAM_SC
  /-- 0x00B0_2000 + 8 × s (09_volley_and_let.md, R339). -/
  | LET_STREAM_RXSC
  /-- 0x00B0_2800 + 8 × s (09_volley_and_let.md, R339). -/
  | LET_STREAM_AUX
  /-- 0x00B0_4000 + 32 × s (09_volley_and_let.md, R339). -/
  | LET_STREAM_STATUS
  /-- 0x00B0_8000 + 64 × s (09_volley_and_let.md, R339). -/
  | LET_CNT
  /-- 0x00A0_0000 (10_device_pairs.md, R368). -/
  | MTL_PAIR_CFG
  /-- 0x00A0_0008 (10_device_pairs.md, R368). -/
  | MTL_PAIR_CMD
  /-- 0x00A0_0010 (10_device_pairs.md, R368). -/
  | MTL_PAIR_STATUS
  /-- 0x00A0_0018 (10_device_pairs.md, R368). -/
  | MTL_PAIR_ID
  /-- 0x00A0_0020 (10_device_pairs.md, R368). -/
  | MTL_RALLY_CNT
  /-- 0x00A0_0028 (10_device_pairs.md, R368). -/
  | MTL_LEASE_CNT
  /-- 0x00A0_0030 (10_device_pairs.md, R368). -/
  | MTL_LIB_CNT
  /-- 0x00C0_0100 + 8 × d (d = destination region 0 to 3) (11_fabric_buffers_queues.md, R409). -/
  | FAB_WRR_CFG
  /-- G + 0x0000 (11_fabric_buffers_queues.md, R409). -/
  | FAB_DRR_CFG
  /-- G + 0x0100 (11_fabric_buffers_queues.md, R409). -/
  | FAB_BUF_STATUS
  /-- G + 0x0200 (11_fabric_buffers_queues.md, R409). -/
  | FAB_DROP_CNT
  /-- G + 0x2000 + 64 × k + 8 × c (k = 0 to 15, c = class) (11_fabric_buffers_queues.md, R409). -/
  | FAB_ING_CFG
  /-- G + 0x3000 + 8 × k (k = 0 to 15) (11_fabric_buffers_queues.md, R409). -/
  | FAB_ING_PORT
  /-- 0x00D0_0000 + 8 × q (q = 0 to 4,095) (11_fabric_buffers_queues.md, R409). -/
  | QMG_QCFG
  /-- 0x00D0_8000 + 16 × q (11_fabric_buffers_queues.md, R409). -/
  | QMG_QSTAT
  /-- 0x00D2_0000 + 8 × g (g = 0 to 63) (11_fabric_buffers_queues.md, R409). -/
  | QMG_ECC
  /-- 0x00D3_0000 (11_fabric_buffers_queues.md, R409). -/
  | QMG_AUDIT_CTRL
  /-- 0x00D3_0008 (11_fabric_buffers_queues.md, R409). -/
  | QMG_AUDIT_STATUS
  /-- 0x00D3_0100 + 8 × j (j = 0 to 15) (11_fabric_buffers_queues.md, R409). -/
  | QMG_AUDIT_LOG
  /-- 0x00E0_0000 + 8 × q (q = 0 to 4,095) (12_scheduling_and_policing.md, R436). -/
  | SCH_QSHAPE
  /-- 0x00E0_8000 + 8 × q (q = 0 to 4,095) (12_scheduling_and_policing.md, R436). -/
  | SCH_QCREDIT
  /-- 0x00E1_0000 + 8 × p (p = 0 to 63) (12_scheduling_and_policing.md, R436). -/
  | SCH_PORT_CFG
  /-- 0x00E1_0200 + 8 × p (p = 0 to 63) (12_scheduling_and_policing.md, R436). -/
  | SCH_PORT_QUANTUM
  /-- 0x00E2_0000 + 16 × m (m = 0 to 511) (12_scheduling_and_policing.md, R436). -/
  | SCH_METER
  /-- 0x00E3_0000 + 32 × m (m = 0 to 511) (12_scheduling_and_policing.md, R436). -/
  | SCH_METER_CNT
  /-- 0x00E4_0000 (12_scheduling_and_policing.md, R436). -/
  | SCH_LAT_CFG
  /-- 0x00E4_0100 + 8 × g (g = 0 to 63) (12_scheduling_and_policing.md, R436). -/
  | SCH_LAT_HCFG
  /-- 0x00E4_1000 (12_scheduling_and_policing.md, R436). -/
  | SCH_LAT_CMD
  /-- 0x00E4_1008 (12_scheduling_and_policing.md, R436). -/
  | SCH_LAT_STATUS
  /-- 0x00E4_1040 (12_scheduling_and_policing.md, R436). -/
  | SCH_LAT_SNAP
  /-- 0x00E4_1080 (12_scheduling_and_policing.md, R436). -/
  | SCH_LAT_HIST
  /-- D + 0x1000 × i + 0x000 (13_stacked_memory.md, R468). -/
  | DMC_PART
  /-- D + 0x1000 × i + 0x008 (13_stacked_memory.md, R468). -/
  | DMC_SCRUB_CFG
  /-- D + 0x1000 × i + 0x010 (13_stacked_memory.md, R468). -/
  | DMC_STACK_STATUS
  /-- D + 0x1000 × i + 0x100 + 8 × p (p = 0 to 31) (13_stacked_memory.md, R468). -/
  | DMC_PC
  /-- D + 0x2000 (13_stacked_memory.md, R468). -/
  | DMC_CAP
  /-- I + 0x000 + 8 × j (j = 0 to 7) (13_stacked_memory.md, R468). -/
  | IME_RKEY_CTRL
  /-- I + 0x040 + 8 × j (13_stacked_memory.md, R468). -/
  | IME_RANGE_EPOCH
  /-- I + 0x080 + 8 × j (13_stacked_memory.md, R468). -/
  | IME_RANGE_BOUND
  /-- I + 0x100 + 8 × i (13_stacked_memory.md, R468). -/
  | IME_STATUS
  /-- I + 0x110 + 8 × i (13_stacked_memory.md, R468). -/
  | IME_POISON_ADDR
  /-- S + 8 × b (b = 0 to 11) (14_sram_banks.md, R485). -/
  | SRB_BANK
  /-- S + 8 × b (b = 0 to 11) (14_sram_banks.md, R485). -/
  | SRB_CHIP_BANK
  /-- S + 0x200 + 64 × b + 8 × r (r = 0 to 7) (14_sram_banks.md, R485). -/
  | SRB_CONFLICT
  /-- S + 0x200 + 64 × b + 8 × r (r = 0 to 7) (14_sram_banks.md, R485). -/
  | SRB_CHIP_CONFLICT
  /-- S + 0x100 (14_sram_banks.md, R485). -/
  | SRB_TEST_CFG
  /-- S + 0x108 (14_sram_banks.md, R485). -/
  | SRB_TEST_STATUS
  /-- 0x0000_2300 (14_sram_banks.md, R485). -/
  | SRB_WIPE_STATUS
  /-- P + 0x000 + 8 × i (i = 0 to 3) (15_keys_and_life_cycle.md, R523). -/
  | KST_KEYDATA
  /-- P + 0x020 (15_keys_and_life_cycle.md, R523). -/
  | KST_SALT
  /-- P + 0x030 (15_keys_and_life_cycle.md, R523). -/
  | KST_ATTR
  /-- P + 0x040 (15_keys_and_life_cycle.md, R523). -/
  | KST_CMD
  /-- P + 0x048 (15_keys_and_life_cycle.md, R523). -/
  | KST_STATUS
  /-- P + 0x050 (15_keys_and_life_cycle.md, R524). -/
  | KST_INFO
  /-- 0x0050_1000 (15_keys_and_life_cycle.md, R524). -/
  | KST_CTRL
  /-- 0x0060_0000 (15_keys_and_life_cycle.md, R524). -/
  | LCM_STATE
  /-- 0x0060_0008 (15_keys_and_life_cycle.md, R524). -/
  | LCM_DEVICE_ID
  /-- 0x0060_0010 + 8 × i (i = 0 to 3) (15_keys_and_life_cycle.md, R524). -/
  | LCM_CHALLENGE
  /-- 0x0060_0030 (15_keys_and_life_cycle.md, R524). -/
  | LCM_TOKEN_ADDR
  /-- 0x0060_0038 (15_keys_and_life_cycle.md, R524). -/
  | LCM_CMD
  /-- 0x0060_0040 (15_keys_and_life_cycle.md, R524). -/
  | LCM_STATUS
  /-- 0x0070_0000 (16_nvm_and_journal.md, R545). -/
  | NVJ_BOOT
  /-- 0x0070_0010 (16_nvm_and_journal.md, R545). -/
  | NVJ_IMG_ADDR
  /-- 0x0070_0018 (16_nvm_and_journal.md, R545). -/
  | NVJ_IMG_CMD
  /-- 0x0070_0020 (16_nvm_and_journal.md, R545). -/
  | NVJ_IMG_STATUS
  /-- 0x0070_0030 (16_nvm_and_journal.md, R545). -/
  | NVJ_JCTRL
  /-- 0x0070_0038 (16_nvm_and_journal.md, R546). -/
  | NVJ_JSTATUS
  /-- 0x0070_0040 (16_nvm_and_journal.md, R546). -/
  | NVJ_REPLAY
  /-- 0x0080_0000 (17_time.md, R571). -/
  | TMB_CTRL
  /-- 0x0080_0008 (17_time.md, R571). -/
  | TMB_STATUS
  /-- 0x0080_0010 (17_time.md, R571). -/
  | TMB_TIME
  /-- 0x0080_0020 (17_time.md, R571). -/
  | TMB_RATE
  /-- 0x0080_0028 (17_time.md, R571). -/
  | TMB_STEP
  /-- 0x0080_0038 (17_time.md, R571). -/
  | TMB_STEP_CMD
  /-- 0x0080_0040 (17_time.md, R571). -/
  | TMB_SLEW
  /-- 0x0080_0048 (17_time.md, R571). -/
  | TMB_SLEW_LEFT
  /-- 0x0080_0050 (17_time.md, R571). -/
  | TMB_PPS_CFG
  /-- 0x0080_0058 (17_time.md, R571). -/
  | TMB_PPS_IN
  /-- 0x0080_0068 (17_time.md, R571). -/
  | TMB_CNT
  /-- 0x0080_0100 + 8 × p (p = 0 to 63) (17_time.md, R571). -/
  | TMB_PORT
  /-- 0x0080_0300 + 8 × p (p = 0 to 63) (17_time.md, R571). -/
  | TMB_PORT_FIXED
  /-- 0x0080_0600 + 32 × k (k = 0 to 31, line port k) (17_time.md, R571). -/
  | TMB_TT_RESULT
  /-- 0x0090_0000 (18_tamper_and_alarms.md, R599). -/
  | TMP_CTRL
  /-- 0x0090_0008 (18_tamper_and_alarms.md, R599). -/
  | TMP_RESP
  /-- 0x0090_0010 (18_tamper_and_alarms.md, R599). -/
  | TMP_STATUS
  /-- 0x0090_0018 (18_tamper_and_alarms.md, R599). -/
  | TMP_ALARM
  /-- 0x0090_0020 (18_tamper_and_alarms.md, R599). -/
  | TMP_RAW
  /-- 0x0090_0028 (18_tamper_and_alarms.md, R599). -/
  | TMP_TEMP
  /-- 0x0090_0030 (18_tamper_and_alarms.md, R599). -/
  | TMP_VOLT
  /-- 0x0090_0040 (18_tamper_and_alarms.md, R599). -/
  | TMP_AOLOG_STATUS
  /-- 0x0090_0048 (18_tamper_and_alarms.md, R599). -/
  | TMP_ACLK
  /-- 0x0090_0100 + 16 × j (j = 0 to 15) (18_tamper_and_alarms.md, R599). -/
  | TMP_AOLOG
  /-- 0x0000_0600 (19_host_interface.md, R631). -/
  | GLB_OWNER
  /-- 0x0000_0610 (19_host_interface.md, R631). -/
  | GLB_FRESET
  /-- 0x0000_0618 (19_host_interface.md, R631). -/
  | GLB_FRESET_STATUS
  /-- 0x0000_0620 (19_host_interface.md, R631). -/
  | GLB_RESET
  /-- 0x0040_0000 + 16 × r (r = 0 to 511) (19_host_interface.md, R631). -/
  | HIF_RING_BASE
  /-- 0x0040_0008 + 16 × r (19_host_interface.md, R631). -/
  | HIF_RING_CFG
  /-- 0x0040_4000 + 8 × r (19_host_interface.md, R631). -/
  | HIF_RING_STAT
  /-- 0x0040_8000 (19_host_interface.md, R631). -/
  | HIF_DMA_CFG
  /-- 0x0040_8008 (19_host_interface.md, R631). -/
  | HIF_DMA_STATUS
  /-- 0x0040_8100 (19_host_interface.md, R631). -/
  | HIF_MBOX_ADDR
  /-- 0x0040_8108 (19_host_interface.md, R631). -/
  | HIF_MBOX_CTRL
  /-- 0x0040_8200 + 8 × i (i = 0 to 11) (19_host_interface.md, R631). -/
  | HIF_IDKEY
  /-- 0x0010_0000 + 8 × i (i = 0 to 511) (19_host_interface.md, R631). -/
  | EVT_SRC
  /-- 0x0010_2000 (19_host_interface.md, R631). -/
  | EVT_RING_BASE
  /-- 0x0010_2008 (19_host_interface.md, R631). -/
  | EVT_RING_CFG
  /-- 0x0010_2010 (19_host_interface.md, R631). -/
  | EVT_RING_HEAD
  /-- 0x0010_2018 (19_host_interface.md, R631). -/
  | EVT_RING_STATUS
  /-- 0x0000_0700 (20_sideband.md, R641). -/
  | SBM_STATUS
  /-- 0x0000_0740 + 8 × w (w = 0 to 7) (20_sideband.md, R641). -/
  | SBM_ALERT_MASK
  /-- 0x0030_0000 (21_startup_and_power.md, R661). -/
  | PWR_STATE
  /-- 0x0030_0008 (21_startup_and_power.md, R661). -/
  | PWR_CTRL
  /-- 0x0030_0010 (21_startup_and_power.md, R661). -/
  | PWR_START_STATUS
  /-- 0x0030_0020 + 8 × (i - 1) (i = 1 to 10) (21_startup_and_power.md, R661). -/
  | PWR_STEP_END
  /-- 0x0030_0080 (21_startup_and_power.md, R661). -/
  | PWR_EST
  /-- 0x0030_1000 + 8 × d (d = 0 to 373) (21_startup_and_power.md, R661). -/
  | PWR_DOM
  /-- 0x0020_0000 (22_performance_counters.md, R673). -/
  | PMC_CTRL
  /-- 0x0020_0008 (22_performance_counters.md, R673). -/
  | PMC_STATUS
  /-- 0x0020_0010 + 8 × w (w = 0, 1) (22_performance_counters.md, R673). -/
  | PMC_USER_EN
  /-- 0x0020_0020 + 8 × w (w = 0, 1) (22_performance_counters.md, R673). -/
  | PMC_OVF
  /-- base + 8 × i (i = 0 to 15) (22_performance_counters.md, R673). -/
  | PMC_SEL
  /-- base + 8 × i (i = 0 to 15) (22_performance_counters.md, R673). -/
  | PMC_CHIP_SEL
  /-- base + 0x100 + 8 × i (i = 0 to 15) (22_performance_counters.md, R673). -/
  | PMC_CNT
  /-- base + 0x100 + 8 × i (i = 0 to 15) (22_performance_counters.md, R673). -/
  | PMC_CHIP_CNT
  /-- base + 0x200 + 8 × i (i = 0 to 15) (22_performance_counters.md, R673). -/
  | PMC_SNAP
  /-- base + 0x200 + 8 × i (i = 0 to 15) (22_performance_counters.md, R673). -/
  | PMC_CHIP_SNAP
  /-- 0x0000_0800 (23_electrical_and_package.md, R686). -/
  | GLB_PIN_STATUS
  /-- 0x0000_0808 (23_electrical_and_package.md, R686). -/
  | GLB_PIN_GLITCH
  /-- 0x0000_0818 (23_electrical_and_package.md, R686). -/
  | GLB_AVS
  /-- 0x0000_0810 (23_electrical_and_package.md, R692). -/
  | GLB_THERM
  deriving DecidableEq, Repr

/-- A field of a register: its 64-bit word within the register, its lowest bit, its width and its access code. -/
structure Field where
  reg : Reg
  word : Nat
  lo : Nat
  width : Nat
  acc : Access
  deriving DecidableEq, Repr

/-- One index dimension: the address stride, the first and the last index. -/
structure Dim where
  stride : Nat
  lo : Nat
  hi : Nat
  deriving DecidableEq, Repr

/-- Where a register lies: the BAR0 offset of index 0 (R38, R39, R662), its dimensions and its size in 64-bit words. -/
structure Place where
  base : Nat
  dims : List Dim
  words : Nat
  deriving DecidableEq, Repr

/-- The BAR0 place of each register. -/
def Reg.place : Reg → Place
  | .GLB_REGION_STATUS => ⟨0x00000100, [⟨0x8, 0, 3⟩], 1⟩
  | .GLB_UNMAPPED_CNT => ⟨0x00000120, [], 1⟩
  | .GLB_UNMAPPED_ADDR => ⟨0x00000128, [], 1⟩
  | .TBL_DATA => ⟨0x00F00000, [⟨0x10000, 0, 3⟩, ⟨0x800, 0, 1⟩, ⟨0x8, 0, 7⟩], 1⟩
  | .TBL_CMD => ⟨0x00F00040, [⟨0x10000, 0, 3⟩, ⟨0x800, 0, 1⟩], 1⟩
  | .TBL_STATUS => ⟨0x00F00048, [⟨0x10000, 0, 3⟩, ⟨0x800, 0, 1⟩], 1⟩
  | .TBL_SEED => ⟨0x00F00100, [⟨0x10000, 0, 3⟩], 1⟩
  | .TBL_OCCUPANCY => ⟨0x00F00108, [⟨0x10000, 0, 3⟩], 1⟩
  | .TBL_PORTCFG => ⟨0x00F00200, [⟨0x10000, 0, 3⟩, ⟨0x8, 0, 15⟩], 1⟩
  | .TBL_MISS_CNT => ⟨0x00F00280, [⟨0x10000, 0, 3⟩, ⟨0x8, 0, 15⟩], 1⟩
  | .TBL_ETCLASS => ⟨0x00F00300, [⟨0x10000, 0, 3⟩, ⟨0x8, 1, 15⟩], 1⟩
  | .TBL_SHADOW_BASE => ⟨0x00F00110, [⟨0x10000, 0, 3⟩], 1⟩
  | .TBL_SHADOW_CTRL => ⟨0x00F00118, [⟨0x10000, 0, 3⟩], 1⟩
  | .TBL_SHADOW_STATUS => ⟨0x00F00120, [⟨0x10000, 0, 3⟩], 1⟩
  | .TBL_SHADOW_LOST => ⟨0x00F00128, [⟨0x10000, 0, 3⟩], 1⟩
  | .TBL_SHADOW_LOG => ⟨0x00F00400, [⟨0x10000, 0, 3⟩, ⟨0x10, 0, 63⟩], 2⟩
  | .FEN_POD_CTRL => ⟨0x01400000, [⟨0x1000000, 0, 3⟩, ⟨0x8, 0, 5⟩], 1⟩
  | .FEN_MP_ADDR => ⟨0x01400400, [⟨0x1000000, 0, 3⟩], 1⟩
  | .FEN_MP_CMD => ⟨0x01400408, [⟨0x1000000, 0, 3⟩], 1⟩
  | .FEN_MP_STATUS => ⟨0x01400410, [⟨0x1000000, 0, 3⟩], 1⟩
  | .FEN_MP_SLOT => ⟨0x01400500, [⟨0x1000000, 0, 3⟩, ⟨0x8, 0, 63⟩], 1⟩
  | .FEN_WDOG => ⟨0x01400280, [⟨0x1000000, 0, 3⟩], 1⟩
  | .FEN_KSA_CTRL => ⟨0x01400300, [⟨0x1000000, 0, 3⟩], 1⟩
  | .FEN_KSA_CNT => ⟨0x01400308, [⟨0x1000000, 0, 3⟩], 1⟩
  | .FEN_FAULT => ⟨0x01400310, [⟨0x1000000, 0, 3⟩], 1⟩
  | .FEN_ENG => ⟨0x01400100, [⟨0x1000000, 0, 3⟩, ⟨0x8, 0, 47⟩], 1⟩
  | .FEN_KAT_CTRL => ⟨0x01400288, [⟨0x1000000, 0, 3⟩], 1⟩
  | .FEN_KAT_STATUS => ⟨0x01400290, [⟨0x1000000, 0, 3⟩], 1⟩
  | .SAT_RXPORT_CFG => ⟨0x00F01100, [⟨0x10000, 0, 3⟩, ⟨0x8, 0, 7⟩], 1⟩
  | .SAT_RXPORT_SCI => ⟨0x00F01140, [⟨0x10000, 0, 3⟩, ⟨0x8, 0, 7⟩], 1⟩
  | .SAT_RXPORT_CNT => ⟨0x00F01180, [⟨0x10000, 0, 3⟩, ⟨0x8, 0, 7⟩], 1⟩
  | .FAB_CT_CFG => ⟨0x01C01000, [⟨0x1000000, 0, 3⟩, ⟨0x8, 0, 15⟩], 1⟩
  | .SAT_PN_STATUS => ⟨0x00F01010, [⟨0x10000, 0, 3⟩], 1⟩
  | .SAT_STAT_CMD => ⟨0x00F01000, [⟨0x10000, 0, 3⟩], 1⟩
  | .SAT_STAT_STATUS => ⟨0x00F01008, [⟨0x10000, 0, 3⟩], 1⟩
  | .SAT_TXSTAT => ⟨0x00F01040, [⟨0x10000, 0, 3⟩], 8⟩
  | .SAT_RXSTAT => ⟨0x00F01080, [⟨0x10000, 0, 3⟩], 8⟩
  | .SAT_DEUCE_CFG => ⟨0x00F01018, [⟨0x10000, 0, 3⟩], 1⟩
  | .KFR_KEYSW => ⟨0x01104000, [⟨0x1000000, 0, 3⟩, ⟨0x8, 0, 7⟩], 1⟩
  | .GLB_AGT_CTRL => ⟨0x00000400, [], 1⟩
  | .GLB_AGT_PORT => ⟨0x00000500, [⟨0x8, 0, 31⟩], 1⟩
  | .GLB_AGT_CKN => ⟨0x00001000, [⟨0x20, 0, 31⟩], 4⟩
  | .KFR_CFG => ⟨0x01102000, [⟨0x1000000, 0, 3⟩, ⟨0x8, 0, 7⟩], 1⟩
  | .KFR_ALIGN => ⟨0x01102040, [⟨0x1000000, 0, 3⟩, ⟨0x8, 0, 7⟩], 1⟩
  | .KFR_EC_STAT => ⟨0x01102080, [⟨0x1000000, 0, 3⟩, ⟨0x8, 0, 7⟩], 1⟩
  | .KFR_TRIB => ⟨0x01103000, [⟨0x1000000, 0, 3⟩, ⟨0x100, 0, 7⟩, ⟨0x8, 0, 31⟩], 1⟩
  | .KFR_TRIB_STAT => ⟨0x01103800, [⟨0x1000000, 0, 3⟩, ⟨0x100, 0, 7⟩, ⟨0x8, 0, 31⟩], 1⟩
  | .KFR_TTI_TX => ⟨0x01105000, [⟨0x1000000, 0, 3⟩, ⟨0x40, 0, 7⟩, ⟨0x8, 0, 7⟩], 1⟩
  | .FAB_PG_CFG => ⟨0x00C08000, [⟨0x8, 0, 15⟩], 1⟩
  | .FAB_PG_STATUS => ⟨0x00C08080, [⟨0x8, 0, 15⟩], 1⟩
  | .KFR_MON_CFG => ⟨0x01102100, [⟨0x1000000, 0, 3⟩, ⟨0x8, 0, 7⟩], 1⟩
  | .KFR_DEFECT => ⟨0x01102140, [⟨0x1000000, 0, 3⟩, ⟨0x8, 0, 7⟩], 1⟩
  | .KFR_PM_SNAP => ⟨0x01106000, [⟨0x1000000, 0, 3⟩, ⟨0x40, 0, 7⟩], 8⟩
  | .KFR_TTI_EXP => ⟨0x01105200, [⟨0x1000000, 0, 3⟩, ⟨0x40, 0, 7⟩, ⟨0x8, 0, 7⟩], 1⟩
  | .KFR_TTI_RX => ⟨0x01105400, [⟨0x1000000, 0, 3⟩, ⟨0x40, 0, 7⟩, ⟨0x8, 0, 7⟩], 1⟩
  | .MTL_LANE_STATUS => ⟨0x00A00100, [⟨0x8, 0, 1⟩], 1⟩
  | .CPX_CFG => ⟨0x01000000, [⟨0x1000000, 0, 3⟩], 1⟩
  | .LPX_CFG => ⟨0x01100000, [⟨0x1000000, 0, 3⟩], 1⟩
  | .CPX_PORT_CTRL => ⟨0x01000100, [⟨0x1000000, 0, 3⟩, ⟨0x8, 0, 7⟩], 1⟩
  | .LPX_PORT_CTRL => ⟨0x01100100, [⟨0x1000000, 0, 3⟩, ⟨0x8, 0, 7⟩], 1⟩
  | .CPX_PORT_STATUS => ⟨0x01000180, [⟨0x1000000, 0, 3⟩, ⟨0x8, 0, 7⟩], 1⟩
  | .LPX_PORT_STATUS => ⟨0x01100180, [⟨0x1000000, 0, 3⟩, ⟨0x8, 0, 7⟩], 1⟩
  | .LNS_BRING_CFG => ⟨0x01200000, [⟨0x1000000, 0, 3⟩], 1⟩
  | .LNS_HUD_CFG => ⟨0x01200008, [⟨0x1000000, 0, 3⟩], 1⟩
  | .LNS_LANE => ⟨0x01200100, [⟨0x1000000, 0, 3⟩, ⟨0x8, 0, 15⟩], 1⟩
  | .LNS_PRBS_ERR => ⟨0x01200200, [⟨0x1000000, 0, 3⟩, ⟨0x8, 0, 15⟩], 1⟩
  | .LNS_EYE => ⟨0x01200300, [⟨0x1000000, 0, 3⟩, ⟨0x8, 0, 15⟩], 1⟩
  | .LNS_HUD_PEER => ⟨0x01200400, [⟨0x1000000, 0, 3⟩, ⟨0x10, 0, 7⟩], 2⟩
  | .LET_TIMING => ⟨0x00B00000, [], 1⟩
  | .LET_CTL_DA => ⟨0x00B00100, [⟨0x8, 0, 31⟩], 1⟩
  | .LET_STREAM_CFG => ⟨0x00B01000, [⟨0x8, 0, 255⟩], 1⟩
  | .LET_STREAM_SC => ⟨0x00B01800, [⟨0x8, 0, 255⟩], 1⟩
  | .LET_STREAM_RXSC => ⟨0x00B02000, [⟨0x8, 0, 255⟩], 1⟩
  | .LET_STREAM_AUX => ⟨0x00B02800, [⟨0x8, 0, 255⟩], 1⟩
  | .LET_STREAM_STATUS => ⟨0x00B04000, [⟨0x20, 0, 255⟩], 4⟩
  | .LET_CNT => ⟨0x00B08000, [⟨0x40, 0, 255⟩], 8⟩
  | .MTL_PAIR_CFG => ⟨0x00A00000, [], 1⟩
  | .MTL_PAIR_CMD => ⟨0x00A00008, [], 1⟩
  | .MTL_PAIR_STATUS => ⟨0x00A00010, [], 1⟩
  | .MTL_PAIR_ID => ⟨0x00A00018, [], 1⟩
  | .MTL_RALLY_CNT => ⟨0x00A00020, [], 1⟩
  | .MTL_LEASE_CNT => ⟨0x00A00028, [], 1⟩
  | .MTL_LIB_CNT => ⟨0x00A00030, [], 1⟩
  | .FAB_WRR_CFG => ⟨0x00C00100, [⟨0x8, 0, 3⟩], 1⟩
  | .FAB_DRR_CFG => ⟨0x01C00000, [⟨0x1000000, 0, 3⟩], 1⟩
  | .FAB_BUF_STATUS => ⟨0x01C00100, [⟨0x1000000, 0, 3⟩], 2⟩
  | .FAB_DROP_CNT => ⟨0x01C00200, [⟨0x1000000, 0, 3⟩], 3⟩
  | .FAB_ING_CFG => ⟨0x01C02000, [⟨0x1000000, 0, 3⟩, ⟨0x40, 0, 15⟩, ⟨0x8, 0, 7⟩], 1⟩
  | .FAB_ING_PORT => ⟨0x01C03000, [⟨0x1000000, 0, 3⟩, ⟨0x8, 0, 15⟩], 1⟩
  | .QMG_QCFG => ⟨0x00D00000, [⟨0x8, 0, 4095⟩], 1⟩
  | .QMG_QSTAT => ⟨0x00D08000, [⟨0x10, 0, 4095⟩], 2⟩
  | .QMG_ECC => ⟨0x00D20000, [⟨0x8, 0, 63⟩], 1⟩
  | .QMG_AUDIT_CTRL => ⟨0x00D30000, [], 1⟩
  | .QMG_AUDIT_STATUS => ⟨0x00D30008, [], 1⟩
  | .QMG_AUDIT_LOG => ⟨0x00D30100, [⟨0x8, 0, 15⟩], 1⟩
  | .SCH_QSHAPE => ⟨0x00E00000, [⟨0x8, 0, 4095⟩], 1⟩
  | .SCH_QCREDIT => ⟨0x00E08000, [⟨0x8, 0, 4095⟩], 1⟩
  | .SCH_PORT_CFG => ⟨0x00E10000, [⟨0x8, 0, 63⟩], 1⟩
  | .SCH_PORT_QUANTUM => ⟨0x00E10200, [⟨0x8, 0, 63⟩], 1⟩
  | .SCH_METER => ⟨0x00E20000, [⟨0x10, 0, 511⟩], 2⟩
  | .SCH_METER_CNT => ⟨0x00E30000, [⟨0x20, 0, 511⟩], 4⟩
  | .SCH_LAT_CFG => ⟨0x00E40000, [], 1⟩
  | .SCH_LAT_HCFG => ⟨0x00E40100, [⟨0x8, 0, 63⟩], 1⟩
  | .SCH_LAT_CMD => ⟨0x00E41000, [], 1⟩
  | .SCH_LAT_STATUS => ⟨0x00E41008, [], 1⟩
  | .SCH_LAT_SNAP => ⟨0x00E41040, [], 4⟩
  | .SCH_LAT_HIST => ⟨0x00E41080, [], 8⟩
  | .DMC_PART => ⟨0x01A00000, [⟨0x1000000, 0, 3⟩, ⟨0x1000, 0, 1⟩], 1⟩
  | .DMC_SCRUB_CFG => ⟨0x01A00008, [⟨0x1000000, 0, 3⟩, ⟨0x1000, 0, 1⟩], 1⟩
  | .DMC_STACK_STATUS => ⟨0x01A00010, [⟨0x1000000, 0, 3⟩, ⟨0x1000, 0, 1⟩], 1⟩
  | .DMC_PC => ⟨0x01A00100, [⟨0x1000000, 0, 3⟩, ⟨0x1000, 0, 1⟩, ⟨0x8, 0, 31⟩], 1⟩
  | .DMC_CAP => ⟨0x01A02000, [⟨0x1000000, 0, 3⟩], 1⟩
  | .IME_RKEY_CTRL => ⟨0x01B00000, [⟨0x1000000, 0, 3⟩, ⟨0x8, 0, 7⟩], 1⟩
  | .IME_RANGE_EPOCH => ⟨0x01B00040, [⟨0x1000000, 0, 3⟩, ⟨0x8, 0, 7⟩], 1⟩
  | .IME_RANGE_BOUND => ⟨0x01B00080, [⟨0x1000000, 0, 3⟩, ⟨0x8, 0, 7⟩], 1⟩
  | .IME_STATUS => ⟨0x01B00100, [⟨0x1000000, 0, 3⟩, ⟨0x8, 0, 1⟩], 1⟩
  | .IME_POISON_ADDR => ⟨0x01B00110, [⟨0x1000000, 0, 3⟩, ⟨0x8, 0, 1⟩], 1⟩
  | .SRB_BANK => ⟨0x01800000, [⟨0x1000000, 0, 3⟩, ⟨0x8, 0, 11⟩], 1⟩
  | .SRB_CHIP_BANK => ⟨0x00002000, [⟨0x8, 0, 3⟩], 1⟩
  | .SRB_CONFLICT => ⟨0x01800200, [⟨0x1000000, 0, 3⟩, ⟨0x40, 0, 11⟩, ⟨0x8, 0, 7⟩], 1⟩
  | .SRB_CHIP_CONFLICT => ⟨0x00002200, [⟨0x40, 0, 3⟩, ⟨0x8, 0, 7⟩], 1⟩
  | .SRB_TEST_CFG => ⟨0x01800100, [⟨0x1000000, 0, 3⟩], 1⟩
  | .SRB_TEST_STATUS => ⟨0x01800108, [⟨0x1000000, 0, 3⟩], 1⟩
  | .SRB_WIPE_STATUS => ⟨0x00002300, [], 1⟩
  | .KST_KEYDATA => ⟨0x00500000, [⟨0x800, 0, 1⟩, ⟨0x8, 0, 3⟩], 1⟩
  | .KST_SALT => ⟨0x00500020, [⟨0x800, 0, 1⟩], 2⟩
  | .KST_ATTR => ⟨0x00500030, [⟨0x800, 0, 1⟩], 1⟩
  | .KST_CMD => ⟨0x00500040, [⟨0x800, 0, 1⟩], 1⟩
  | .KST_STATUS => ⟨0x00500048, [⟨0x800, 0, 1⟩], 1⟩
  | .KST_INFO => ⟨0x00500050, [⟨0x800, 0, 1⟩], 2⟩
  | .KST_CTRL => ⟨0x00501000, [], 1⟩
  | .LCM_STATE => ⟨0x00600000, [], 1⟩
  | .LCM_DEVICE_ID => ⟨0x00600008, [], 1⟩
  | .LCM_CHALLENGE => ⟨0x00600010, [⟨0x8, 0, 3⟩], 1⟩
  | .LCM_TOKEN_ADDR => ⟨0x00600030, [], 1⟩
  | .LCM_CMD => ⟨0x00600038, [], 1⟩
  | .LCM_STATUS => ⟨0x00600040, [], 1⟩
  | .NVJ_BOOT => ⟨0x00700000, [], 1⟩
  | .NVJ_IMG_ADDR => ⟨0x00700010, [], 1⟩
  | .NVJ_IMG_CMD => ⟨0x00700018, [], 1⟩
  | .NVJ_IMG_STATUS => ⟨0x00700020, [], 1⟩
  | .NVJ_JCTRL => ⟨0x00700030, [], 1⟩
  | .NVJ_JSTATUS => ⟨0x00700038, [], 1⟩
  | .NVJ_REPLAY => ⟨0x00700040, [], 1⟩
  | .TMB_CTRL => ⟨0x00800000, [], 1⟩
  | .TMB_STATUS => ⟨0x00800008, [], 1⟩
  | .TMB_TIME => ⟨0x00800010, [], 2⟩
  | .TMB_RATE => ⟨0x00800020, [], 1⟩
  | .TMB_STEP => ⟨0x00800028, [], 2⟩
  | .TMB_STEP_CMD => ⟨0x00800038, [], 1⟩
  | .TMB_SLEW => ⟨0x00800040, [], 1⟩
  | .TMB_SLEW_LEFT => ⟨0x00800048, [], 1⟩
  | .TMB_PPS_CFG => ⟨0x00800050, [], 1⟩
  | .TMB_PPS_IN => ⟨0x00800058, [], 2⟩
  | .TMB_CNT => ⟨0x00800068, [], 1⟩
  | .TMB_PORT => ⟨0x00800100, [⟨0x8, 0, 63⟩], 1⟩
  | .TMB_PORT_FIXED => ⟨0x00800300, [⟨0x8, 0, 63⟩], 1⟩
  | .TMB_TT_RESULT => ⟨0x00800600, [⟨0x20, 0, 31⟩], 4⟩
  | .TMP_CTRL => ⟨0x00900000, [], 1⟩
  | .TMP_RESP => ⟨0x00900008, [], 1⟩
  | .TMP_STATUS => ⟨0x00900010, [], 1⟩
  | .TMP_ALARM => ⟨0x00900018, [], 1⟩
  | .TMP_RAW => ⟨0x00900020, [], 1⟩
  | .TMP_TEMP => ⟨0x00900028, [], 1⟩
  | .TMP_VOLT => ⟨0x00900030, [], 1⟩
  | .TMP_AOLOG_STATUS => ⟨0x00900040, [], 1⟩
  | .TMP_ACLK => ⟨0x00900048, [], 1⟩
  | .TMP_AOLOG => ⟨0x00900100, [⟨0x10, 0, 15⟩], 2⟩
  | .GLB_OWNER => ⟨0x00000600, [], 1⟩
  | .GLB_FRESET => ⟨0x00000610, [], 1⟩
  | .GLB_FRESET_STATUS => ⟨0x00000618, [], 1⟩
  | .GLB_RESET => ⟨0x00000620, [], 1⟩
  | .HIF_RING_BASE => ⟨0x00400000, [⟨0x10, 0, 511⟩], 1⟩
  | .HIF_RING_CFG => ⟨0x00400008, [⟨0x10, 0, 511⟩], 1⟩
  | .HIF_RING_STAT => ⟨0x00404000, [⟨0x8, 0, 511⟩], 1⟩
  | .HIF_DMA_CFG => ⟨0x00408000, [], 1⟩
  | .HIF_DMA_STATUS => ⟨0x00408008, [], 1⟩
  | .HIF_MBOX_ADDR => ⟨0x00408100, [], 1⟩
  | .HIF_MBOX_CTRL => ⟨0x00408108, [], 1⟩
  | .HIF_IDKEY => ⟨0x00408200, [⟨0x8, 0, 11⟩], 1⟩
  | .EVT_SRC => ⟨0x00100000, [⟨0x8, 0, 511⟩], 1⟩
  | .EVT_RING_BASE => ⟨0x00102000, [], 1⟩
  | .EVT_RING_CFG => ⟨0x00102008, [], 1⟩
  | .EVT_RING_HEAD => ⟨0x00102010, [], 1⟩
  | .EVT_RING_STATUS => ⟨0x00102018, [], 1⟩
  | .SBM_STATUS => ⟨0x00000700, [], 1⟩
  | .SBM_ALERT_MASK => ⟨0x00000740, [⟨0x8, 0, 7⟩], 1⟩
  | .PWR_STATE => ⟨0x00300000, [], 1⟩
  | .PWR_CTRL => ⟨0x00300008, [], 1⟩
  | .PWR_START_STATUS => ⟨0x00300010, [], 1⟩
  | .PWR_STEP_END => ⟨0x00300020, [⟨0x8, 1, 10⟩], 1⟩
  | .PWR_EST => ⟨0x00300080, [], 1⟩
  | .PWR_DOM => ⟨0x00301000, [⟨0x8, 0, 373⟩], 1⟩
  | .PMC_CTRL => ⟨0x00200000, [], 1⟩
  | .PMC_STATUS => ⟨0x00200008, [], 1⟩
  | .PMC_USER_EN => ⟨0x00200010, [⟨0x8, 0, 1⟩], 1⟩
  | .PMC_OVF => ⟨0x00200020, [⟨0x8, 0, 1⟩], 1⟩
  | .PMC_SEL => ⟨0x01C08000, [⟨0x1000000, 0, 3⟩, ⟨0x8, 0, 15⟩], 1⟩
  | .PMC_CHIP_SEL => ⟨0x00200100, [⟨0x8, 0, 15⟩], 1⟩
  | .PMC_CNT => ⟨0x01C08100, [⟨0x1000000, 0, 3⟩, ⟨0x8, 0, 15⟩], 1⟩
  | .PMC_CHIP_CNT => ⟨0x00200200, [⟨0x8, 0, 15⟩], 1⟩
  | .PMC_SNAP => ⟨0x01C08200, [⟨0x1000000, 0, 3⟩, ⟨0x8, 0, 15⟩], 1⟩
  | .PMC_CHIP_SNAP => ⟨0x00200300, [⟨0x8, 0, 15⟩], 1⟩
  | .GLB_PIN_STATUS => ⟨0x00000800, [], 1⟩
  | .GLB_PIN_GLITCH => ⟨0x00000808, [], 1⟩
  | .GLB_AVS => ⟨0x00000818, [], 1⟩
  | .GLB_THERM => ⟨0x00000810, [], 1⟩

/-- Every register. -/
def Reg.all0 : List Reg :=
  [.GLB_REGION_STATUS, .GLB_UNMAPPED_CNT, .GLB_UNMAPPED_ADDR, .TBL_DATA, .TBL_CMD, .TBL_STATUS,
   .TBL_SEED, .TBL_OCCUPANCY, .TBL_PORTCFG, .TBL_MISS_CNT, .TBL_ETCLASS, .TBL_SHADOW_BASE,
   .TBL_SHADOW_CTRL, .TBL_SHADOW_STATUS, .TBL_SHADOW_LOST, .TBL_SHADOW_LOG, .FEN_POD_CTRL, .FEN_MP_ADDR,
   .FEN_MP_CMD, .FEN_MP_STATUS, .FEN_MP_SLOT, .FEN_WDOG, .FEN_KSA_CTRL, .FEN_KSA_CNT,
   .FEN_FAULT, .FEN_ENG, .FEN_KAT_CTRL, .FEN_KAT_STATUS, .SAT_RXPORT_CFG, .SAT_RXPORT_SCI,
   .SAT_RXPORT_CNT, .FAB_CT_CFG, .SAT_PN_STATUS, .SAT_STAT_CMD, .SAT_STAT_STATUS, .SAT_TXSTAT,
   .SAT_RXSTAT, .SAT_DEUCE_CFG, .KFR_KEYSW, .GLB_AGT_CTRL]
def Reg.all1 : List Reg :=
  [.GLB_AGT_PORT, .GLB_AGT_CKN, .KFR_CFG, .KFR_ALIGN, .KFR_EC_STAT, .KFR_TRIB,
   .KFR_TRIB_STAT, .KFR_TTI_TX, .FAB_PG_CFG, .FAB_PG_STATUS, .KFR_MON_CFG, .KFR_DEFECT,
   .KFR_PM_SNAP, .KFR_TTI_EXP, .KFR_TTI_RX, .MTL_LANE_STATUS, .CPX_CFG, .LPX_CFG,
   .CPX_PORT_CTRL, .LPX_PORT_CTRL, .CPX_PORT_STATUS, .LPX_PORT_STATUS, .LNS_BRING_CFG, .LNS_HUD_CFG,
   .LNS_LANE, .LNS_PRBS_ERR, .LNS_EYE, .LNS_HUD_PEER, .LET_TIMING, .LET_CTL_DA,
   .LET_STREAM_CFG, .LET_STREAM_SC, .LET_STREAM_RXSC, .LET_STREAM_AUX, .LET_STREAM_STATUS, .LET_CNT,
   .MTL_PAIR_CFG, .MTL_PAIR_CMD, .MTL_PAIR_STATUS, .MTL_PAIR_ID]
def Reg.all2 : List Reg :=
  [.MTL_RALLY_CNT, .MTL_LEASE_CNT, .MTL_LIB_CNT, .FAB_WRR_CFG, .FAB_DRR_CFG, .FAB_BUF_STATUS,
   .FAB_DROP_CNT, .FAB_ING_CFG, .FAB_ING_PORT, .QMG_QCFG, .QMG_QSTAT, .QMG_ECC,
   .QMG_AUDIT_CTRL, .QMG_AUDIT_STATUS, .QMG_AUDIT_LOG, .SCH_QSHAPE, .SCH_QCREDIT, .SCH_PORT_CFG,
   .SCH_PORT_QUANTUM, .SCH_METER, .SCH_METER_CNT, .SCH_LAT_CFG, .SCH_LAT_HCFG, .SCH_LAT_CMD,
   .SCH_LAT_STATUS, .SCH_LAT_SNAP, .SCH_LAT_HIST, .DMC_PART, .DMC_SCRUB_CFG, .DMC_STACK_STATUS,
   .DMC_PC, .DMC_CAP, .IME_RKEY_CTRL, .IME_RANGE_EPOCH, .IME_RANGE_BOUND, .IME_STATUS,
   .IME_POISON_ADDR, .SRB_BANK, .SRB_CHIP_BANK, .SRB_CONFLICT]
def Reg.all3 : List Reg :=
  [.SRB_CHIP_CONFLICT, .SRB_TEST_CFG, .SRB_TEST_STATUS, .SRB_WIPE_STATUS, .KST_KEYDATA, .KST_SALT,
   .KST_ATTR, .KST_CMD, .KST_STATUS, .KST_INFO, .KST_CTRL, .LCM_STATE,
   .LCM_DEVICE_ID, .LCM_CHALLENGE, .LCM_TOKEN_ADDR, .LCM_CMD, .LCM_STATUS, .NVJ_BOOT,
   .NVJ_IMG_ADDR, .NVJ_IMG_CMD, .NVJ_IMG_STATUS, .NVJ_JCTRL, .NVJ_JSTATUS, .NVJ_REPLAY,
   .TMB_CTRL, .TMB_STATUS, .TMB_TIME, .TMB_RATE, .TMB_STEP, .TMB_STEP_CMD,
   .TMB_SLEW, .TMB_SLEW_LEFT, .TMB_PPS_CFG, .TMB_PPS_IN, .TMB_CNT, .TMB_PORT,
   .TMB_PORT_FIXED, .TMB_TT_RESULT, .TMP_CTRL, .TMP_RESP]
def Reg.all4 : List Reg :=
  [.TMP_STATUS, .TMP_ALARM, .TMP_RAW, .TMP_TEMP, .TMP_VOLT, .TMP_AOLOG_STATUS,
   .TMP_ACLK, .TMP_AOLOG, .GLB_OWNER, .GLB_FRESET, .GLB_FRESET_STATUS, .GLB_RESET,
   .HIF_RING_BASE, .HIF_RING_CFG, .HIF_RING_STAT, .HIF_DMA_CFG, .HIF_DMA_STATUS, .HIF_MBOX_ADDR,
   .HIF_MBOX_CTRL, .HIF_IDKEY, .EVT_SRC, .EVT_RING_BASE, .EVT_RING_CFG, .EVT_RING_HEAD,
   .EVT_RING_STATUS, .SBM_STATUS, .SBM_ALERT_MASK, .PWR_STATE, .PWR_CTRL, .PWR_START_STATUS,
   .PWR_STEP_END, .PWR_EST, .PWR_DOM, .PMC_CTRL, .PMC_STATUS, .PMC_USER_EN,
   .PMC_OVF, .PMC_SEL, .PMC_CHIP_SEL, .PMC_CNT]
def Reg.all5 : List Reg :=
  [.PMC_CHIP_CNT, .PMC_SNAP, .PMC_CHIP_SNAP, .GLB_PIN_STATUS, .GLB_PIN_GLITCH, .GLB_AVS,
   .GLB_THERM]

/-- Every register, in the order of the chapters. -/
def Reg.all : List Reg := Reg.all0 ++ Reg.all1 ++ Reg.all2 ++ Reg.all3 ++ Reg.all4 ++ Reg.all5

/-! ### The fields -/

def GLB_REGION_STATUS.LEVEL : Field := ⟨.GLB_REGION_STATUS, 0, 0, 2, .ro⟩
def GLB_REGION_STATUS.ENG_IN : Field := ⟨.GLB_REGION_STATUS, 0, 8, 6, .ro⟩
def GLB_REGION_STATUS.CORES_OUT : Field := ⟨.GLB_REGION_STATUS, 0, 16, 9, .ro⟩
def GLB_REGION_STATUS.BELOW_LOAD : Field := ⟨.GLB_REGION_STATUS, 0, 25, 1, .ro⟩
def GLB_REGION_STATUS.CHANGED : Field := ⟨.GLB_REGION_STATUS, 0, 26, 1, .w1c⟩
def GLB_REGION_STATUS.CAP_GBPS : Field := ⟨.GLB_REGION_STATUS, 0, 32, 13, .ro⟩
def GLB_REGION_STATUS.FRATE : Field := ⟨.GLB_REGION_STATUS, 0, 48, 10, .ro⟩
def GLB_UNMAPPED_CNT.COUNT : Field := ⟨.GLB_UNMAPPED_CNT, 0, 0, 32, .rc⟩
def GLB_UNMAPPED_ADDR.OFFSET : Field := ⟨.GLB_UNMAPPED_ADDR, 0, 0, 27, .ro⟩
def GLB_UNMAPPED_ADDR.WRITE : Field := ⟨.GLB_UNMAPPED_ADDR, 0, 27, 1, .ro⟩
def TBL_DATA.DATA : Field := ⟨.TBL_DATA, 0, 0, 64, .rw⟩
def TBL_CMD.OP : Field := ⟨.TBL_CMD, 0, 0, 4, .wo⟩
def TBL_CMD.TARGET : Field := ⟨.TBL_CMD, 0, 4, 2, .wo⟩
def TBL_CMD.INDEX : Field := ⟨.TBL_CMD, 0, 8, 16, .wo⟩
def TBL_STATUS.BUSY : Field := ⟨.TBL_STATUS, 0, 0, 1, .ro⟩
def TBL_STATUS.DONE : Field := ⟨.TBL_STATUS, 0, 1, 1, .w1c⟩
def TBL_STATUS.OVERRUN : Field := ⟨.TBL_STATUS, 0, 2, 1, .w1c⟩
def TBL_STATUS.RESULT : Field := ⟨.TBL_STATUS, 0, 8, 8, .ro⟩
def TBL_STATUS.IN_OVF : Field := ⟨.TBL_STATUS, 0, 16, 1, .ro⟩
def TBL_STATUS.LOC : Field := ⟨.TBL_STATUS, 0, 32, 16, .ro⟩
def TBL_STATUS.GEN : Field := ⟨.TBL_STATUS, 0, 48, 16, .ro⟩
def TBL_SEED.SEED : Field := ⟨.TBL_SEED, 0, 0, 32, .rw⟩
def TBL_SEED.REJ : Field := ⟨.TBL_SEED, 0, 32, 1, .w1c⟩
def TBL_OCCUPANCY.BUCKET_ENTRIES : Field := ⟨.TBL_OCCUPANCY, 0, 0, 17, .ro⟩
def TBL_OCCUPANCY.OVF_ENTRIES : Field := ⟨.TBL_OCCUPANCY, 0, 32, 11, .ro⟩
def TBL_OCCUPANCY.GEN : Field := ⟨.TBL_OCCUPANCY, 0, 48, 16, .ro⟩
def TBL_PORTCFG.USE_VID : Field := ⟨.TBL_PORTCFG, 0, 0, 1, .rw⟩
def TBL_PORTCFG.USE_PCP : Field := ⟨.TBL_PORTCFG, 0, 1, 1, .rw⟩
def TBL_PORTCFG.USE_ETC : Field := ⟨.TBL_PORTCFG, 0, 2, 1, .rw⟩
def TBL_PORTCFG.MISS_ACT : Field := ⟨.TBL_PORTCFG, 0, 4, 2, .rw⟩
def TBL_MISS_CNT.MISS : Field := ⟨.TBL_MISS_CNT, 0, 0, 32, .rc⟩
def TBL_MISS_CNT.SC_OFF : Field := ⟨.TBL_MISS_CNT, 0, 32, 32, .rc⟩
def TBL_ETCLASS.ETYPE : Field := ⟨.TBL_ETCLASS, 0, 0, 16, .rw⟩
def TBL_ETCLASS.VALID : Field := ⟨.TBL_ETCLASS, 0, 16, 1, .rw⟩
def TBL_SHADOW_BASE.ADDR : Field := ⟨.TBL_SHADOW_BASE, 0, 12, 52, .rw⟩
def TBL_SHADOW_CTRL.EN : Field := ⟨.TBL_SHADOW_CTRL, 0, 0, 1, .rw⟩
def TBL_SHADOW_CTRL.STATE : Field := ⟨.TBL_SHADOW_CTRL, 0, 2, 2, .ro⟩
def TBL_SHADOW_CTRL.RATE : Field := ⟨.TBL_SHADOW_CTRL, 0, 8, 8, .rw⟩
def TBL_SHADOW_CTRL.CONFIRM : Field := ⟨.TBL_SHADOW_CTRL, 0, 16, 8, .rw⟩
def TBL_SHADOW_STATUS.PASS : Field := ⟨.TBL_SHADOW_STATUS, 0, 0, 32, .ro⟩
def TBL_SHADOW_STATUS.POS : Field := ⟨.TBL_SHADOW_STATUS, 0, 32, 15, .ro⟩
def TBL_SHADOW_STATUS.LOG_COUNT : Field := ⟨.TBL_SHADOW_STATUS, 0, 48, 7, .ro⟩
def TBL_SHADOW_STATUS.MISMATCH : Field := ⟨.TBL_SHADOW_STATUS, 0, 55, 1, .w1c⟩
def TBL_SHADOW_STATUS.DMA_FAULT : Field := ⟨.TBL_SHADOW_STATUS, 0, 56, 1, .w1c⟩
def TBL_SHADOW_STATUS.LOG_CLR : Field := ⟨.TBL_SHADOW_STATUS, 0, 57, 1, .wo⟩
def TBL_SHADOW_STATUS.SKIPS : Field := ⟨.TBL_SHADOW_STATUS, 0, 58, 6, .rc⟩
def TBL_SHADOW_LOST.LOST : Field := ⟨.TBL_SHADOW_LOST, 0, 0, 32, .rc⟩
def TBL_SHADOW_LOG.TYPE : Field := ⟨.TBL_SHADOW_LOG, 0, 0, 2, .ro⟩
def TBL_SHADOW_LOG.ITEM : Field := ⟨.TBL_SHADOW_LOG, 0, 2, 14, .ro⟩
def TBL_SHADOW_LOG.ENTRY : Field := ⟨.TBL_SHADOW_LOG, 0, 16, 2, .ro⟩
def TBL_SHADOW_LOG.WORD : Field := ⟨.TBL_SHADOW_LOG, 0, 18, 3, .ro⟩
def TBL_SHADOW_LOG.PASS : Field := ⟨.TBL_SHADOW_LOG, 0, 32, 32, .ro⟩
def TBL_SHADOW_LOG.DIFF : Field := ⟨.TBL_SHADOW_LOG, 1, 0, 64, .ro⟩
def FEN_POD_CTRL.EN : Field := ⟨.FEN_POD_CTRL, 0, 0, 1, .rw⟩
def FEN_POD_CTRL.STATE : Field := ⟨.FEN_POD_CTRL, 0, 2, 2, .ro⟩
def FEN_POD_CTRL.CODE_SET : Field := ⟨.FEN_POD_CTRL, 0, 4, 1, .rw⟩
def FEN_POD_CTRL.SET_IN_USE : Field := ⟨.FEN_POD_CTRL, 0, 5, 1, .ro⟩
def FEN_POD_CTRL.ENG_MASK : Field := ⟨.FEN_POD_CTRL, 0, 8, 8, .ro⟩
def FEN_MP_ADDR.ADDR : Field := ⟨.FEN_MP_ADDR, 0, 12, 52, .rw⟩
def FEN_MP_CMD.OP : Field := ⟨.FEN_MP_CMD, 0, 0, 4, .wo⟩
def FEN_MP_CMD.SET : Field := ⟨.FEN_MP_CMD, 0, 4, 1, .wo⟩
def FEN_MP_CMD.SLOT : Field := ⟨.FEN_MP_CMD, 0, 8, 6, .wo⟩
def FEN_MP_CMD.KH : Field := ⟨.FEN_MP_CMD, 0, 32, 17, .wo⟩
def FEN_MP_STATUS.BUSY : Field := ⟨.FEN_MP_STATUS, 0, 0, 1, .ro⟩
def FEN_MP_STATUS.DONE : Field := ⟨.FEN_MP_STATUS, 0, 1, 1, .w1c⟩
def FEN_MP_STATUS.RESULT : Field := ⟨.FEN_MP_STATUS, 0, 8, 8, .ro⟩
def FEN_MP_SLOT.VALID0 : Field := ⟨.FEN_MP_SLOT, 0, 0, 1, .ro⟩
def FEN_MP_SLOT.VALID1 : Field := ⟨.FEN_MP_SLOT, 0, 1, 1, .ro⟩
def FEN_MP_SLOT.CUST0 : Field := ⟨.FEN_MP_SLOT, 0, 2, 1, .ro⟩
def FEN_MP_SLOT.CUST1 : Field := ⟨.FEN_MP_SLOT, 0, 3, 1, .ro⟩
def FEN_MP_SLOT.FORM0 : Field := ⟨.FEN_MP_SLOT, 0, 4, 2, .ro⟩
def FEN_MP_SLOT.FORM1 : Field := ⟨.FEN_MP_SLOT, 0, 6, 2, .ro⟩
def FEN_MP_SLOT.VERSION0 : Field := ⟨.FEN_MP_SLOT, 0, 32, 16, .ro⟩
def FEN_MP_SLOT.VERSION1 : Field := ⟨.FEN_MP_SLOT, 0, 48, 16, .ro⟩
def FEN_WDOG.LIMIT : Field := ⟨.FEN_WDOG, 0, 0, 16, .rw⟩
def FEN_KSA_CTRL.EN : Field := ⟨.FEN_KSA_CTRL, 0, 0, 1, .rw⟩
def FEN_KSA_CTRL.AHEAD : Field := ⟨.FEN_KSA_CTRL, 0, 1, 3, .rw⟩
def FEN_KSA_CTRL.MAXLEN : Field := ⟨.FEN_KSA_CTRL, 0, 4, 8, .rw⟩
def FEN_KSA_CNT.HIT : Field := ⟨.FEN_KSA_CNT, 0, 0, 32, .rc⟩
def FEN_KSA_CNT.WRONG : Field := ⟨.FEN_KSA_CNT, 0, 32, 32, .rc⟩
def FEN_FAULT.COUNT : Field := ⟨.FEN_FAULT, 0, 0, 32, .rc⟩
def FEN_FAULT.CAUSE : Field := ⟨.FEN_FAULT, 0, 32, 4, .ro⟩
def FEN_FAULT.ENGINE : Field := ⟨.FEN_FAULT, 0, 40, 6, .ro⟩
def FEN_FAULT.SLOT : Field := ⟨.FEN_FAULT, 0, 48, 6, .ro⟩
def FEN_ENG.STATE : Field := ⟨.FEN_ENG, 0, 0, 2, .ro⟩
def FEN_ENG.FENCE : Field := ⟨.FEN_ENG, 0, 2, 1, .wo⟩
def FEN_ENG.RESTORE : Field := ⟨.FEN_ENG, 0, 3, 1, .wo⟩
def FEN_ENG.CORES_IN : Field := ⟨.FEN_ENG, 0, 8, 6, .ro⟩
def FEN_ENG.CAUSE : Field := ⟨.FEN_ENG, 0, 16, 4, .ro⟩
def FEN_ENG.PERR : Field := ⟨.FEN_ENG, 0, 24, 8, .rc⟩
def FEN_KAT_CTRL.EN : Field := ⟨.FEN_KAT_CTRL, 0, 0, 1, .rw⟩
def FEN_KAT_CTRL.PERIOD : Field := ⟨.FEN_KAT_CTRL, 0, 16, 16, .rw⟩
def FEN_KAT_STATUS.PASSES : Field := ⟨.FEN_KAT_STATUS, 0, 0, 32, .ro⟩
def FEN_KAT_STATUS.CORE : Field := ⟨.FEN_KAT_STATUS, 0, 32, 9, .ro⟩
def FEN_KAT_STATUS.FAILS : Field := ⟨.FEN_KAT_STATUS, 0, 48, 8, .rc⟩
def SAT_RXPORT_CFG.UNTAGGED_ACT : Field := ⟨.SAT_RXPORT_CFG, 0, 0, 2, .rw⟩
def SAT_RXPORT_CFG.IMPLICIT_EN : Field := ⟨.SAT_RXPORT_CFG, 0, 2, 1, .rw⟩
def SAT_RXPORT_SCI.SCI : Field := ⟨.SAT_RXPORT_SCI, 0, 0, 64, .rw⟩
def SAT_RXPORT_CNT.BAD_TAG : Field := ⟨.SAT_RXPORT_CNT, 0, 0, 32, .rc⟩
def SAT_RXPORT_CNT.UNTAGGED : Field := ⟨.SAT_RXPORT_CNT, 0, 32, 32, .rc⟩
def FAB_CT_CFG.CLASS_EN : Field := ⟨.FAB_CT_CFG, 0, 0, 8, .rw⟩
def FAB_CT_CFG.IDLE_ONLY : Field := ⟨.FAB_CT_CFG, 0, 8, 1, .ro⟩
def SAT_PN_STATUS.SOFT_SA : Field := ⟨.SAT_PN_STATUS, 0, 0, 16, .ro⟩
def SAT_PN_STATUS.SOFT : Field := ⟨.SAT_PN_STATUS, 0, 16, 1, .w1c⟩
def SAT_PN_STATUS.EXH : Field := ⟨.SAT_PN_STATUS, 0, 17, 1, .w1c⟩
def SAT_PN_STATUS.SUCC : Field := ⟨.SAT_PN_STATUS, 0, 18, 1, .w1c⟩
def SAT_PN_STATUS.EXH_SA : Field := ⟨.SAT_PN_STATUS, 0, 32, 16, .ro⟩
def SAT_PN_STATUS.SUCC_SA : Field := ⟨.SAT_PN_STATUS, 0, 48, 16, .ro⟩
def SAT_STAT_CMD.SA : Field := ⟨.SAT_STAT_CMD, 0, 0, 16, .wo⟩
def SAT_STAT_CMD.CLEAR : Field := ⟨.SAT_STAT_CMD, 0, 16, 1, .wo⟩
def SAT_STAT_STATUS.BUSY : Field := ⟨.SAT_STAT_STATUS, 0, 0, 1, .ro⟩
def SAT_STAT_STATUS.DIR : Field := ⟨.SAT_STAT_STATUS, 0, 1, 1, .ro⟩
def SAT_STAT_STATUS.ERR : Field := ⟨.SAT_STAT_STATUS, 0, 2, 1, .w1c⟩
def SAT_STAT_STATUS.SA : Field := ⟨.SAT_STAT_STATUS, 0, 16, 16, .ro⟩
def SAT_TXSTAT.PROTECTED : Field := ⟨.SAT_TXSTAT, 0, 0, 64, .ro⟩
def SAT_TXSTAT.ENCRYPTED : Field := ⟨.SAT_TXSTAT, 1, 0, 64, .ro⟩
def SAT_TXSTAT.OCTETS_PROT : Field := ⟨.SAT_TXSTAT, 2, 0, 64, .ro⟩
def SAT_TXSTAT.OCTETS_ENC : Field := ⟨.SAT_TXSTAT, 3, 0, 64, .ro⟩
def SAT_TXSTAT.PN_SKIPPED : Field := ⟨.SAT_TXSTAT, 4, 0, 64, .ro⟩
def SAT_TXSTAT.STOMPED : Field := ⟨.SAT_TXSTAT, 5, 0, 64, .ro⟩
def SAT_TXSTAT.HELD_DROP : Field := ⟨.SAT_TXSTAT, 6, 0, 64, .ro⟩
def SAT_TXSTAT.TOO_LONG : Field := ⟨.SAT_TXSTAT, 7, 0, 64, .ro⟩
def SAT_RXSTAT.OK : Field := ⟨.SAT_RXSTAT, 0, 0, 64, .ro⟩
def SAT_RXSTAT.ICV_FAIL : Field := ⟨.SAT_RXSTAT, 1, 0, 64, .ro⟩
def SAT_RXSTAT.LATE : Field := ⟨.SAT_RXSTAT, 2, 0, 64, .ro⟩
def SAT_RXSTAT.DELAYED : Field := ⟨.SAT_RXSTAT, 3, 0, 64, .ro⟩
def SAT_RXSTAT.NOT_USING_SA : Field := ⟨.SAT_RXSTAT, 4, 0, 64, .ro⟩
def SAT_RXSTAT.OCTETS_VALID : Field := ⟨.SAT_RXSTAT, 5, 0, 64, .ro⟩
def SAT_RXSTAT.OCTETS_DEC : Field := ⟨.SAT_RXSTAT, 6, 0, 64, .ro⟩
def SAT_RXSTAT.EARLY_STOMP : Field := ⟨.SAT_RXSTAT, 7, 0, 64, .ro⟩
def SAT_DEUCE_CFG.WINDOW : Field := ⟨.SAT_DEUCE_CFG, 0, 0, 16, .rw⟩
def SAT_DEUCE_CFG.IDLE : Field := ⟨.SAT_DEUCE_CFG, 0, 16, 16, .rw⟩
def KFR_KEYSW.TX_CUR : Field := ⟨.KFR_KEYSW, 0, 0, 2, .ro⟩
def KFR_KEYSW.TX_NEXT : Field := ⟨.KFR_KEYSW, 0, 2, 2, .ro⟩
def KFR_KEYSW.TX_COUNT : Field := ⟨.KFR_KEYSW, 0, 4, 4, .ro⟩
def KFR_KEYSW.TX_PEND : Field := ⟨.KFR_KEYSW, 0, 8, 1, .ro⟩
def KFR_KEYSW.CANCELLED : Field := ⟨.KFR_KEYSW, 0, 9, 1, .w1c⟩
def KFR_KEYSW.SWITCHED : Field := ⟨.KFR_KEYSW, 0, 10, 1, .w1c⟩
def KFR_KEYSW.RX_CUR : Field := ⟨.KFR_KEYSW, 0, 16, 2, .ro⟩
def KFR_KEYSW.RX_NEXT : Field := ⟨.KFR_KEYSW, 0, 18, 2, .ro⟩
def KFR_KEYSW.RX_COUNT : Field := ⟨.KFR_KEYSW, 0, 20, 4, .ro⟩
def KFR_KEYSW.KCM : Field := ⟨.KFR_KEYSW, 0, 24, 1, .ro⟩
def KFR_KEYSW.KCM_CAUSE : Field := ⟨.KFR_KEYSW, 0, 25, 3, .ro⟩
def GLB_AGT_CTRL.EN : Field := ⟨.GLB_AGT_CTRL, 0, 0, 1, .rw⟩
def GLB_AGT_CTRL.REKEY : Field := ⟨.GLB_AGT_CTRL, 0, 1, 1, .wo⟩
def GLB_AGT_CTRL.STATE : Field := ⟨.GLB_AGT_CTRL, 0, 2, 2, .ro⟩
def GLB_AGT_CTRL.RING : Field := ⟨.GLB_AGT_CTRL, 0, 8, 8, .rw⟩
def GLB_AGT_CTRL.REKEY_S : Field := ⟨.GLB_AGT_CTRL, 0, 32, 16, .rw⟩
def GLB_AGT_PORT.EN : Field := ⟨.GLB_AGT_PORT, 0, 0, 1, .rw⟩
def GLB_AGT_PORT.LIVE : Field := ⟨.GLB_AGT_PORT, 0, 1, 1, .ro⟩
def GLB_AGT_PORT.ROLE : Field := ⟨.GLB_AGT_PORT, 0, 2, 2, .ro⟩
def GLB_AGT_PORT.KS_PRIORITY : Field := ⟨.GLB_AGT_PORT, 0, 4, 8, .rw⟩
def GLB_AGT_PORT.SUITE : Field := ⟨.GLB_AGT_PORT, 0, 12, 3, .rw⟩
def GLB_AGT_PORT.TX_SC : Field := ⟨.GLB_AGT_PORT, 0, 16, 14, .rw⟩
def GLB_AGT_PORT.RX_SC : Field := ⟨.GLB_AGT_PORT, 0, 32, 14, .rw⟩
def GLB_AGT_PORT.CAK_SLOT : Field := ⟨.GLB_AGT_PORT, 0, 46, 12, .rw⟩
def GLB_AGT_PORT.CKN_LEN : Field := ⟨.GLB_AGT_PORT, 0, 59, 5, .rw⟩
def GLB_AGT_CKN.CKN0 : Field := ⟨.GLB_AGT_CKN, 0, 0, 64, .rw⟩
def GLB_AGT_CKN.CKN1 : Field := ⟨.GLB_AGT_CKN, 1, 0, 64, .rw⟩
def GLB_AGT_CKN.CKN2 : Field := ⟨.GLB_AGT_CKN, 2, 0, 64, .rw⟩
def GLB_AGT_CKN.CKN3 : Field := ⟨.GLB_AGT_CKN, 3, 0, 64, .rw⟩
def KFR_CFG.RATE : Field := ⟨.KFR_CFG, 0, 0, 2, .ro⟩
def KFR_CFG.TEST_CLEAR : Field := ⟨.KFR_CFG, 0, 2, 1, .rw⟩
def KFR_CFG.FRAG_LEN : Field := ⟨.KFR_CFG, 0, 8, 8, .rw⟩
def KFR_ALIGN.FSTATE : Field := ⟨.KFR_ALIGN, 0, 0, 2, .ro⟩
def KFR_ALIGN.FN : Field := ⟨.KFR_ALIGN, 0, 2, 8, .ro⟩
def KFR_ALIGN.BAD : Field := ⟨.KFR_ALIGN, 0, 16, 16, .rc⟩
def KFR_ALIGN.FALSE_CAND : Field := ⟨.KFR_ALIGN, 0, 32, 16, .rc⟩
def KFR_ALIGN.OOF_CNT : Field := ⟨.KFR_ALIGN, 0, 48, 16, .rc⟩
def KFR_EC_STAT.K_BAD : Field := ⟨.KFR_EC_STAT, 0, 0, 16, .rc⟩
def KFR_EC_STAT.T_BAD : Field := ⟨.KFR_EC_STAT, 0, 16, 16, .rc⟩
def KFR_EC_STAT.A_BAD : Field := ⟨.KFR_EC_STAT, 0, 32, 16, .rc⟩
def KFR_EC_STAT.KEYLESS : Field := ⟨.KFR_EC_STAT, 0, 48, 16, .rc⟩
def KFR_TRIB.EN : Field := ⟨.KFR_TRIB, 0, 0, 1, .rw⟩
def KFR_TRIB.STATE : Field := ⟨.KFR_TRIB, 0, 2, 2, .ro⟩
def KFR_TRIB.TYPE : Field := ⟨.KFR_TRIB, 0, 4, 2, .rw⟩
def KFR_TRIB.EXP_PACK : Field := ⟨.KFR_TRIB, 0, 6, 1, .rw⟩
def KFR_TRIB.START : Field := ⟨.KFR_TRIB, 0, 8, 10, .rw⟩
def KFR_TRIB.ALLOT : Field := ⟨.KFR_TRIB, 0, 18, 10, .rw⟩
def KFR_TRIB.FIXED : Field := ⟨.KFR_TRIB, 0, 28, 2, .rw⟩
def KFR_TRIB.CLIENT_PORT : Field := ⟨.KFR_TRIB, 0, 32, 5, .rw⟩
def KFR_TRIB.LABEL_TX : Field := ⟨.KFR_TRIB, 0, 40, 8, .ro⟩
def KFR_TRIB.LABEL_RX : Field := ⟨.KFR_TRIB, 0, 48, 8, .ro⟩
def KFR_TRIB_STAT.INC_TX : Field := ⟨.KFR_TRIB_STAT, 0, 0, 16, .rc⟩
def KFR_TRIB_STAT.DEC_TX : Field := ⟨.KFR_TRIB_STAT, 0, 16, 16, .rc⟩
def KFR_TRIB_STAT.ERR_RX : Field := ⟨.KFR_TRIB_STAT, 0, 32, 16, .rc⟩
def KFR_TRIB_STAT.PTR_RX : Field := ⟨.KFR_TRIB_STAT, 0, 48, 16, .rc⟩
def KFR_TTI_TX.TTI : Field := ⟨.KFR_TTI_TX, 0, 0, 64, .rw⟩
def FAB_PG_CFG.EN : Field := ⟨.FAB_PG_CFG, 0, 0, 1, .rw⟩
def FAB_PG_CFG.STATE : Field := ⟨.FAB_PG_CFG, 0, 2, 2, .ro⟩
def FAB_PG_CFG.W_PORT : Field := ⟨.FAB_PG_CFG, 0, 4, 5, .rw⟩
def FAB_PG_CFG.P_PORT : Field := ⟨.FAB_PG_CFG, 0, 9, 5, .rw⟩
def FAB_PG_CFG.REVERT : Field := ⟨.FAB_PG_CFG, 0, 14, 1, .rw⟩
def FAB_PG_CFG.SD_EN : Field := ⟨.FAB_PG_CFG, 0, 15, 1, .rw⟩
def FAB_PG_CFG.WTR_MIN : Field := ⟨.FAB_PG_CFG, 0, 16, 4, .rw⟩
def FAB_PG_CFG.CMD : Field := ⟨.FAB_PG_CFG, 0, 20, 3, .rw⟩
def FAB_PG_STATUS.SEL : Field := ⟨.FAB_PG_STATUS, 0, 0, 1, .ro⟩
def FAB_PG_STATUS.UNUSE_W : Field := ⟨.FAB_PG_STATUS, 0, 1, 1, .ro⟩
def FAB_PG_STATUS.UNUSE_P : Field := ⟨.FAB_PG_STATUS, 0, 2, 1, .ro⟩
def FAB_PG_STATUS.DEG_W : Field := ⟨.FAB_PG_STATUS, 0, 3, 1, .ro⟩
def FAB_PG_STATUS.DEG_P : Field := ⟨.FAB_PG_STATUS, 0, 4, 1, .ro⟩
def FAB_PG_STATUS.WTR : Field := ⟨.FAB_PG_STATUS, 0, 5, 1, .ro⟩
def FAB_PG_STATUS.SWITCHED : Field := ⟨.FAB_PG_STATUS, 0, 6, 1, .w1c⟩
def FAB_PG_STATUS.MISMATCH : Field := ⟨.FAB_PG_STATUS, 0, 7, 1, .w1c⟩
def FAB_PG_STATUS.REQ : Field := ⟨.FAB_PG_STATUS, 0, 8, 4, .ro⟩
def FAB_PG_STATUS.WTR_LEFT : Field := ⟨.FAB_PG_STATUS, 0, 32, 16, .ro⟩
def FAB_PG_STATUS.SWITCHES : Field := ⟨.FAB_PG_STATUS, 0, 48, 16, .rc⟩
def KFR_MON_CFG.TIM_EN : Field := ⟨.KFR_MON_CFG, 0, 0, 1, .rw⟩
def KFR_MON_CFG.TIM_ACT : Field := ⟨.KFR_MON_CFG, 0, 1, 1, .rw⟩
def KFR_MON_CFG.AIS_FORCE : Field := ⟨.KFR_MON_CFG, 0, 2, 1, .rw⟩
def KFR_MON_CFG.TIM_LEN : Field := ⟨.KFR_MON_CFG, 0, 8, 7, .rw⟩
def KFR_MON_CFG.DEG_M : Field := ⟨.KFR_MON_CFG, 0, 16, 4, .rw⟩
def KFR_MON_CFG.DEG_THR : Field := ⟨.KFR_MON_CFG, 0, 24, 16, .rw⟩
def KFR_DEFECT.RAW : Field := ⟨.KFR_DEFECT, 0, 0, 11, .ro⟩
def KFR_DEFECT.RDI_RX : Field := ⟨.KFR_DEFECT, 0, 11, 1, .ro⟩
def KFR_DEFECT.SF : Field := ⟨.KFR_DEFECT, 0, 12, 1, .ro⟩
def KFR_DEFECT.SD : Field := ⟨.KFR_DEFECT, 0, 13, 1, .ro⟩
def KFR_DEFECT.CHANGED : Field := ⟨.KFR_DEFECT, 0, 14, 1, .w1c⟩
def KFR_DEFECT.DECL : Field := ⟨.KFR_DEFECT, 0, 16, 11, .ro⟩
def KFR_DEFECT.PLM : Field := ⟨.KFR_DEFECT, 0, 32, 32, .ro⟩
def KFR_PM_SNAP.BIP_NE : Field := ⟨.KFR_PM_SNAP, 0, 0, 32, .ro⟩
def KFR_PM_SNAP.BIP_FE : Field := ⟨.KFR_PM_SNAP, 0, 32, 32, .ro⟩
def KFR_PM_SNAP.FEC_CORR : Field := ⟨.KFR_PM_SNAP, 1, 0, 48, .ro⟩
def KFR_PM_SNAP.FEC_UNCORR : Field := ⟨.KFR_PM_SNAP, 2, 0, 32, .ro⟩
def KFR_PM_SNAP.AUTH_FAIL : Field := ⟨.KFR_PM_SNAP, 2, 32, 32, .ro⟩
def KFR_PM_SNAP.REPLAY : Field := ⟨.KFR_PM_SNAP, 3, 0, 32, .ro⟩
def KFR_PM_SNAP.STUFF_RX : Field := ⟨.KFR_PM_SNAP, 3, 32, 32, .ro⟩
def KFR_PM_SNAP.STUFF_TX : Field := ⟨.KFR_PM_SNAP, 4, 0, 32, .ro⟩
def KFR_PM_SNAP.ACCEPTED : Field := ⟨.KFR_PM_SNAP, 4, 32, 32, .ro⟩
def KFR_PM_SNAP.DEF_SEC : Field := ⟨.KFR_PM_SNAP, 5, 0, 11, .ro⟩
def KFR_PM_SNAP.RDI_SEC : Field := ⟨.KFR_PM_SNAP, 5, 11, 1, .ro⟩
def KFR_PM_SNAP.SECOND : Field := ⟨.KFR_PM_SNAP, 6, 0, 48, .ro⟩
def KFR_PM_SNAP.SEQ : Field := ⟨.KFR_PM_SNAP, 7, 0, 32, .ro⟩
def KFR_PM_SNAP.TB_VALID : Field := ⟨.KFR_PM_SNAP, 7, 32, 1, .ro⟩
def KFR_TTI_EXP.TTI : Field := ⟨.KFR_TTI_EXP, 0, 0, 64, .rw⟩
def KFR_TTI_RX.TTI : Field := ⟨.KFR_TTI_RX, 0, 0, 64, .ro⟩
def MTL_LANE_STATUS.BSTATE : Field := ⟨.MTL_LANE_STATUS, 0, 0, 3, .ro⟩
def MTL_LANE_STATUS.SIG : Field := ⟨.MTL_LANE_STATUS, 0, 3, 1, .ro⟩
def MTL_LANE_STATUS.FAIL_CAUSE : Field := ⟨.MTL_LANE_STATUS, 0, 4, 4, .ro⟩
def MTL_LANE_STATUS.FALLBACKS : Field := ⟨.MTL_LANE_STATUS, 0, 8, 16, .rc⟩
def CPX_CFG.PMODE : Field := ⟨.CPX_CFG, 0, 0, 4, .rw⟩
def CPX_CFG.FENCED : Field := ⟨.CPX_CFG, 0, 4, 1, .ro⟩
def LPX_CFG.PMODE : Field := ⟨.LPX_CFG, 0, 0, 4, .rw⟩
def LPX_CFG.FENCED : Field := ⟨.LPX_CFG, 0, 4, 1, .ro⟩
def CPX_PORT_CTRL.EN : Field := ⟨.CPX_PORT_CTRL, 0, 0, 1, .rw⟩
def CPX_PORT_CTRL.STATE : Field := ⟨.CPX_PORT_CTRL, 0, 2, 2, .ro⟩
def CPX_PORT_CTRL.KRAOW : Field := ⟨.CPX_PORT_CTRL, 0, 4, 1, .rw⟩
def CPX_PORT_CTRL.HUD_EN : Field := ⟨.CPX_PORT_CTRL, 0, 5, 1, .rw⟩
def CPX_PORT_CTRL.EXPRESS : Field := ⟨.CPX_PORT_CTRL, 0, 6, 1, .rw⟩
def CPX_PORT_CTRL.BT_USE : Field := ⟨.CPX_PORT_CTRL, 0, 7, 1, .rw⟩
def CPX_PORT_CTRL.PREEMPT_EN : Field := ⟨.CPX_PORT_CTRL, 0, 8, 1, .rw⟩
def CPX_PORT_CTRL.VERIFY_DIS : Field := ⟨.CPX_PORT_CTRL, 0, 9, 1, .rw⟩
def CPX_PORT_CTRL.ADD_FRAG : Field := ⟨.CPX_PORT_CTRL, 0, 10, 2, .rw⟩
def CPX_PORT_CTRL.LOOP : Field := ⟨.CPX_PORT_CTRL, 0, 12, 2, .rw⟩
def CPX_PORT_CTRL.TX_SQUELCH : Field := ⟨.CPX_PORT_CTRL, 0, 14, 1, .rw⟩
def CPX_PORT_CTRL.PFC_TX : Field := ⟨.CPX_PORT_CTRL, 0, 16, 8, .rw⟩
def CPX_PORT_CTRL.PFC_RX : Field := ⟨.CPX_PORT_CTRL, 0, 24, 8, .rw⟩
def CPX_PORT_CTRL.MAX_FRAME : Field := ⟨.CPX_PORT_CTRL, 0, 32, 15, .rw⟩
def LPX_PORT_CTRL.EN : Field := ⟨.LPX_PORT_CTRL, 0, 0, 1, .rw⟩
def LPX_PORT_CTRL.STATE : Field := ⟨.LPX_PORT_CTRL, 0, 2, 2, .ro⟩
def LPX_PORT_CTRL.KRAOW : Field := ⟨.LPX_PORT_CTRL, 0, 4, 1, .rw⟩
def LPX_PORT_CTRL.HUD_EN : Field := ⟨.LPX_PORT_CTRL, 0, 5, 1, .rw⟩
def LPX_PORT_CTRL.EXPRESS : Field := ⟨.LPX_PORT_CTRL, 0, 6, 1, .rw⟩
def LPX_PORT_CTRL.BT_USE : Field := ⟨.LPX_PORT_CTRL, 0, 7, 1, .rw⟩
def LPX_PORT_CTRL.PREEMPT_EN : Field := ⟨.LPX_PORT_CTRL, 0, 8, 1, .rw⟩
def LPX_PORT_CTRL.VERIFY_DIS : Field := ⟨.LPX_PORT_CTRL, 0, 9, 1, .rw⟩
def LPX_PORT_CTRL.ADD_FRAG : Field := ⟨.LPX_PORT_CTRL, 0, 10, 2, .rw⟩
def LPX_PORT_CTRL.LOOP : Field := ⟨.LPX_PORT_CTRL, 0, 12, 2, .rw⟩
def LPX_PORT_CTRL.TX_SQUELCH : Field := ⟨.LPX_PORT_CTRL, 0, 14, 1, .rw⟩
def LPX_PORT_CTRL.PFC_TX : Field := ⟨.LPX_PORT_CTRL, 0, 16, 8, .rw⟩
def LPX_PORT_CTRL.PFC_RX : Field := ⟨.LPX_PORT_CTRL, 0, 24, 8, .rw⟩
def LPX_PORT_CTRL.MAX_FRAME : Field := ⟨.LPX_PORT_CTRL, 0, 32, 15, .rw⟩
def CPX_PORT_STATUS.BSTATE : Field := ⟨.CPX_PORT_STATUS, 0, 0, 3, .ro⟩
def CPX_PORT_STATUS.LF_RF : Field := ⟨.CPX_PORT_STATUS, 0, 3, 1, .ro⟩
def CPX_PORT_STATUS.FAIL_CAUSE : Field := ⟨.CPX_PORT_STATUS, 0, 4, 4, .ro⟩
def CPX_PORT_STATUS.PE : Field := ⟨.CPX_PORT_STATUS, 0, 8, 2, .ro⟩
def CPX_PORT_STATUS.FALLBACKS : Field := ⟨.CPX_PORT_STATUS, 0, 16, 16, .rc⟩
def CPX_PORT_STATUS.RUNT : Field := ⟨.CPX_PORT_STATUS, 0, 32, 8, .rc⟩
def CPX_PORT_STATUS.OVERSIZE : Field := ⟨.CPX_PORT_STATUS, 0, 40, 8, .rc⟩
def CPX_PORT_STATUS.CTL_DROP : Field := ⟨.CPX_PORT_STATUS, 0, 48, 16, .rc⟩
def LPX_PORT_STATUS.BSTATE : Field := ⟨.LPX_PORT_STATUS, 0, 0, 3, .ro⟩
def LPX_PORT_STATUS.LF_RF : Field := ⟨.LPX_PORT_STATUS, 0, 3, 1, .ro⟩
def LPX_PORT_STATUS.FAIL_CAUSE : Field := ⟨.LPX_PORT_STATUS, 0, 4, 4, .ro⟩
def LPX_PORT_STATUS.PE : Field := ⟨.LPX_PORT_STATUS, 0, 8, 2, .ro⟩
def LPX_PORT_STATUS.FALLBACKS : Field := ⟨.LPX_PORT_STATUS, 0, 16, 16, .rc⟩
def LPX_PORT_STATUS.RUNT : Field := ⟨.LPX_PORT_STATUS, 0, 32, 8, .rc⟩
def LPX_PORT_STATUS.OVERSIZE : Field := ⟨.LPX_PORT_STATUS, 0, 40, 8, .rc⟩
def LPX_PORT_STATUS.CTL_DROP : Field := ⟨.LPX_PORT_STATUS, 0, 48, 16, .rc⟩
def LNS_BRING_CFG.TRAIN_MS : Field := ⟨.LNS_BRING_CFG, 0, 0, 16, .rw⟩
def LNS_BRING_CFG.LOCK_MS : Field := ⟨.LNS_BRING_CFG, 0, 16, 16, .rw⟩
def LNS_BRING_CFG.HOLD_MS : Field := ⟨.LNS_BRING_CFG, 0, 32, 8, .rw⟩
def LNS_BRING_CFG.FAIL_EVT : Field := ⟨.LNS_BRING_CFG, 0, 48, 4, .rw⟩
def LNS_HUD_CFG.HUD_DA : Field := ⟨.LNS_HUD_CFG, 0, 0, 48, .rw⟩
def LNS_HUD_CFG.HUD_MS : Field := ⟨.LNS_HUD_CFG, 0, 48, 16, .rw⟩
def LNS_LANE.SIG : Field := ⟨.LNS_LANE, 0, 0, 1, .ro⟩
def LNS_LANE.BIT_LOCK : Field := ⟨.LNS_LANE, 0, 1, 1, .ro⟩
def LNS_LANE.BLOCK_LOCK : Field := ⟨.LNS_LANE, 0, 2, 1, .ro⟩
def LNS_LANE.RETIRED : Field := ⟨.LNS_LANE, 0, 3, 1, .ro⟩
def LNS_LANE.RESTORE : Field := ⟨.LNS_LANE, 0, 4, 1, .wo⟩
def LNS_LANE.PRBS_GEN : Field := ⟨.LNS_LANE, 0, 8, 2, .rw⟩
def LNS_LANE.PRBS_CHK : Field := ⟨.LNS_LANE, 0, 10, 2, .rw⟩
def LNS_LANE.PRBS_LOCK : Field := ⟨.LNS_LANE, 0, 12, 1, .ro⟩
def LNS_PRBS_ERR.ERRORS : Field := ⟨.LNS_PRBS_ERR, 0, 0, 48, .rc⟩
def LNS_EYE.EH_UPPER : Field := ⟨.LNS_EYE, 0, 0, 8, .ro⟩
def LNS_EYE.EH_MID : Field := ⟨.LNS_EYE, 0, 8, 8, .ro⟩
def LNS_EYE.EH_LOWER : Field := ⟨.LNS_EYE, 0, 16, 8, .ro⟩
def LNS_EYE.EW : Field := ⟨.LNS_EYE, 0, 24, 7, .ro⟩
def LNS_EYE.SNR : Field := ⟨.LNS_EYE, 0, 32, 10, .ro⟩
def LNS_HUD_PEER.MODE : Field := ⟨.LNS_HUD_PEER, 0, 0, 8, .ro⟩
def LNS_HUD_PEER.RATE : Field := ⟨.LNS_HUD_PEER, 0, 8, 8, .ro⟩
def LNS_HUD_PEER.CAPS : Field := ⟨.LNS_HUD_PEER, 0, 16, 8, .ro⟩
def LNS_HUD_PEER.MAX_FRAME : Field := ⟨.LNS_HUD_PEER, 0, 24, 16, .ro⟩
def LNS_HUD_PEER.PORT : Field := ⟨.LNS_HUD_PEER, 0, 40, 8, .ro⟩
def LNS_HUD_PEER.PAIR_ID : Field := ⟨.LNS_HUD_PEER, 1, 0, 64, .ro⟩
def LET_TIMING.ACK_US : Field := ⟨.LET_TIMING, 0, 0, 16, .rw⟩
def LET_TIMING.ACK_FRAMES : Field := ⟨.LET_TIMING, 0, 16, 16, .rw⟩
def LET_TIMING.HELLO_US : Field := ⟨.LET_TIMING, 0, 32, 16, .rw⟩
def LET_TIMING.ACK_TMO_MS : Field := ⟨.LET_TIMING, 0, 48, 16, .rw⟩
def LET_CTL_DA.DA : Field := ⟨.LET_CTL_DA, 0, 0, 48, .rw⟩
def LET_STREAM_CFG.EN : Field := ⟨.LET_STREAM_CFG, 0, 0, 1, .rw⟩
def LET_STREAM_CFG.STATE : Field := ⟨.LET_STREAM_CFG, 0, 2, 2, .ro⟩
def LET_STREAM_CFG.VOLLEY : Field := ⟨.LET_STREAM_CFG, 0, 4, 1, .rw⟩
def LET_STREAM_CFG.RETAIN : Field := ⟨.LET_STREAM_CFG, 0, 5, 1, .rw⟩
def LET_STREAM_CFG.POLICY : Field := ⟨.LET_STREAM_CFG, 0, 6, 2, .rw⟩
def LET_STREAM_CFG.CLIENT_PORT : Field := ⟨.LET_STREAM_CFG, 0, 8, 5, .rw⟩
def LET_STREAM_CFG.CLASS : Field := ⟨.LET_STREAM_CFG, 0, 13, 3, .rw⟩
def LET_STREAM_CFG.PORT_W : Field := ⟨.LET_STREAM_CFG, 0, 16, 5, .rw⟩
def LET_STREAM_CFG.PORT_P : Field := ⟨.LET_STREAM_CFG, 0, 21, 5, .rw⟩
def LET_STREAM_CFG.WINDOW : Field := ⟨.LET_STREAM_CFG, 0, 32, 20, .rw⟩
def LET_STREAM_CFG.REPLAY_PCT : Field := ⟨.LET_STREAM_CFG, 0, 52, 7, .rw⟩
def LET_STREAM_SC.SC_W : Field := ⟨.LET_STREAM_SC, 0, 0, 14, .rw⟩
def LET_STREAM_SC.SC_P : Field := ⟨.LET_STREAM_SC, 0, 16, 14, .rw⟩
def LET_STREAM_SC.RPL_W : Field := ⟨.LET_STREAM_SC, 0, 32, 14, .rw⟩
def LET_STREAM_SC.RPL_P : Field := ⟨.LET_STREAM_SC, 0, 48, 14, .rw⟩
def LET_STREAM_RXSC.RX_W : Field := ⟨.LET_STREAM_RXSC, 0, 0, 14, .rw⟩
def LET_STREAM_RXSC.RX_P : Field := ⟨.LET_STREAM_RXSC, 0, 16, 14, .rw⟩
def LET_STREAM_RXSC.RX_RPL_W : Field := ⟨.LET_STREAM_RXSC, 0, 32, 14, .rw⟩
def LET_STREAM_RXSC.RX_RPL_P : Field := ⟨.LET_STREAM_RXSC, 0, 48, 14, .rw⟩
def LET_STREAM_AUX.QUEUE : Field := ⟨.LET_STREAM_AUX, 0, 0, 12, .rw⟩
def LET_STREAM_AUX.SKEW_MS : Field := ⟨.LET_STREAM_AUX, 0, 12, 8, .rw⟩
def LET_STREAM_AUX.LOSS_MS : Field := ⟨.LET_STREAM_AUX, 0, 20, 16, .rw⟩
def LET_STREAM_STATUS.NEXT : Field := ⟨.LET_STREAM_STATUS, 0, 0, 64, .ro⟩
def LET_STREAM_STATUS.CUM : Field := ⟨.LET_STREAM_STATUS, 1, 0, 64, .ro⟩
def LET_STREAM_STATUS.RX_NEXT : Field := ⟨.LET_STREAM_STATUS, 2, 0, 64, .ro⟩
def LET_STREAM_STATUS.RETAINED : Field := ⟨.LET_STREAM_STATUS, 3, 0, 20, .ro⟩
def LET_STREAM_STATUS.MODE : Field := ⟨.LET_STREAM_STATUS, 3, 20, 2, .ro⟩
def LET_STREAM_STATUS.FULL : Field := ⟨.LET_STREAM_STATUS, 3, 22, 1, .ro⟩
def LET_STREAM_STATUS.LOSSY : Field := ⟨.LET_STREAM_STATUS, 3, 23, 1, .w1c⟩
def LET_STREAM_STATUS.SUSPENDED : Field := ⟨.LET_STREAM_STATUS, 3, 24, 1, .ro⟩
def LET_STREAM_STATUS.RESUME : Field := ⟨.LET_STREAM_STATUS, 3, 25, 1, .wo⟩
def LET_STREAM_STATUS.WAITING : Field := ⟨.LET_STREAM_STATUS, 3, 26, 1, .ro⟩
def LET_STREAM_STATUS.LINKED : Field := ⟨.LET_STREAM_STATUS, 3, 27, 1, .ro⟩
def LET_STREAM_STATUS.INSTANCE : Field := ⟨.LET_STREAM_STATUS, 3, 32, 32, .ro⟩
def LET_CNT.RETAINED_FR : Field := ⟨.LET_CNT, 0, 0, 64, .rc⟩
def LET_CNT.REPLAYED : Field := ⟨.LET_CNT, 1, 0, 64, .rc⟩
def LET_CNT.DELIVERED : Field := ⟨.LET_CNT, 2, 0, 64, .rc⟩
def LET_CNT.DUP : Field := ⟨.LET_CNT, 3, 0, 64, .rc⟩
def LET_CNT.LOSS : Field := ⟨.LET_CNT, 4, 0, 64, .rc⟩
def LET_CNT.NAK_TX : Field := ⟨.LET_CNT, 5, 0, 64, .rc⟩
def LET_CNT.REJECTED : Field := ⟨.LET_CNT, 6, 0, 64, .rc⟩
def LET_CNT.SINGLE : Field := ⟨.LET_CNT, 7, 0, 64, .rc⟩
def MTL_PAIR_CFG.EN : Field := ⟨.MTL_PAIR_CFG, 0, 0, 1, .rw⟩
def MTL_PAIR_CFG.STATE : Field := ⟨.MTL_PAIR_CFG, 0, 2, 2, .ro⟩
def MTL_PAIR_CFG.PREFER : Field := ⟨.MTL_PAIR_CFG, 0, 4, 1, .rw⟩
def MTL_PAIR_CFG.PTK_SLOT : Field := ⟨.MTL_PAIR_CFG, 0, 8, 12, .rw⟩
def MTL_PAIR_CFG.LIB_KAT_MS : Field := ⟨.MTL_PAIR_CFG, 0, 32, 16, .rw⟩
def MTL_PAIR_CMD.OP : Field := ⟨.MTL_PAIR_CMD, 0, 0, 2, .wo⟩
def MTL_PAIR_CMD.FORCE : Field := ⟨.MTL_PAIR_CMD, 0, 2, 1, .wo⟩
def MTL_PAIR_STATUS.ROLE : Field := ⟨.MTL_PAIR_STATUS, 0, 0, 3, .ro⟩
def MTL_PAIR_STATUS.STALE : Field := ⟨.MTL_PAIR_STATUS, 0, 3, 1, .ro⟩
def MTL_PAIR_STATUS.ACTIVE_IN : Field := ⟨.MTL_PAIR_STATUS, 0, 4, 1, .ro⟩
def MTL_PAIR_STATUS.MATE_PRESENT : Field := ⟨.MTL_PAIR_STATUS, 0, 5, 1, .ro⟩
def MTL_PAIR_STATUS.ACTIVE_OUT : Field := ⟨.MTL_PAIR_STATUS, 0, 6, 2, .ro⟩
def MTL_PAIR_STATUS.CHANGED : Field := ⟨.MTL_PAIR_STATUS, 0, 8, 1, .w1c⟩
def MTL_PAIR_STATUS.UNREADY : Field := ⟨.MTL_PAIR_STATUS, 0, 9, 1, .w1c⟩
def MTL_PAIR_STATUS.OOS : Field := ⟨.MTL_PAIR_STATUS, 0, 16, 16, .ro⟩
def MTL_PAIR_STATUS.TAKEOVERS : Field := ⟨.MTL_PAIR_STATUS, 0, 32, 16, .rc⟩
def MTL_PAIR_ID.PAIR_ID : Field := ⟨.MTL_PAIR_ID, 0, 0, 64, .rw⟩
def MTL_RALLY_CNT.MISSED : Field := ⟨.MTL_RALLY_CNT, 0, 0, 32, .rc⟩
def MTL_RALLY_CNT.BAD : Field := ⟨.MTL_RALLY_CNT, 0, 32, 32, .rc⟩
def MTL_LEASE_CNT.WAITS : Field := ⟨.MTL_LEASE_CNT, 0, 0, 32, .rc⟩
def MTL_LEASE_CNT.SKIPS : Field := ⟨.MTL_LEASE_CNT, 0, 32, 32, .rc⟩
def MTL_LIB_CNT.TX_DROP : Field := ⟨.MTL_LIB_CNT, 0, 0, 48, .rc⟩
def MTL_LIB_CNT.ANCHOR_MISS : Field := ⟨.MTL_LIB_CNT, 0, 48, 16, .rc⟩
def FAB_WRR_CFG.WEIGHT : Field := ⟨.FAB_WRR_CFG, 0, 0, 32, .rw⟩
def FAB_DRR_CFG.QUANTUM : Field := ⟨.FAB_DRR_CFG, 0, 0, 64, .rw⟩
def FAB_BUF_STATUS.FREE : Field := ⟨.FAB_BUF_STATUS, 0, 0, 17, .ro⟩
def FAB_BUF_STATUS.POOL_FREE : Field := ⟨.FAB_BUF_STATUS, 0, 17, 17, .ro⟩
def FAB_BUF_STATUS.GUAR : Field := ⟨.FAB_BUF_STATUS, 0, 34, 17, .ro⟩
def FAB_BUF_STATUS.HDRM_RSV : Field := ⟨.FAB_BUF_STATUS, 1, 0, 17, .ro⟩
def FAB_BUF_STATUS.COMPL_RSV : Field := ⟨.FAB_BUF_STATUS, 1, 17, 13, .ro⟩
def FAB_BUF_STATUS.REJ : Field := ⟨.FAB_BUF_STATUS, 1, 30, 1, .w1c⟩
def FAB_BUF_STATUS.CHUNKS_FREE : Field := ⟨.FAB_BUF_STATUS, 1, 32, 20, .ro⟩
def FAB_DROP_CNT.ING : Field := ⟨.FAB_DROP_CNT, 0, 0, 32, .rc⟩
def FAB_DROP_CNT.HDRM : Field := ⟨.FAB_DROP_CNT, 0, 32, 32, .rc⟩
def FAB_DROP_CNT.EGRESS : Field := ⟨.FAB_DROP_CNT, 1, 0, 32, .rc⟩
def FAB_DROP_CNT.PORT_DOWN : Field := ⟨.FAB_DROP_CNT, 1, 32, 32, .rc⟩
def FAB_DROP_CNT.NO_QUEUE : Field := ⟨.FAB_DROP_CNT, 2, 0, 32, .rc⟩
def FAB_DROP_CNT.MIRROR : Field := ⟨.FAB_DROP_CNT, 2, 32, 32, .rc⟩
def FAB_ING_CFG.MIN : Field := ⟨.FAB_ING_CFG, 0, 0, 15, .rw⟩
def FAB_ING_CFG.MAX : Field := ⟨.FAB_ING_CFG, 0, 15, 15, .rw⟩
def FAB_ING_CFG.XOFF : Field := ⟨.FAB_ING_CFG, 0, 30, 15, .rw⟩
def FAB_ING_CFG.HDRM : Field := ⟨.FAB_ING_CFG, 0, 45, 15, .rw⟩
def FAB_ING_CFG.HYST : Field := ⟨.FAB_ING_CFG, 0, 60, 4, .rw⟩
def FAB_ING_PORT.PORT_MAX : Field := ⟨.FAB_ING_PORT, 0, 0, 17, .rw⟩
def QMG_QCFG.EN : Field := ⟨.QMG_QCFG, 0, 0, 1, .rw⟩
def QMG_QCFG.STATE : Field := ⟨.QMG_QCFG, 0, 2, 2, .ro⟩
def QMG_QCFG.ROLE : Field := ⟨.QMG_QCFG, 0, 4, 3, .rw⟩
def QMG_QCFG.SPILL_EN : Field := ⟨.QMG_QCFG, 0, 7, 1, .rw⟩
def QMG_QCFG.OWNER : Field := ⟨.QMG_QCFG, 0, 8, 10, .rw⟩
def QMG_QCFG.CLASS : Field := ⟨.QMG_QCFG, 0, 18, 3, .rw⟩
def QMG_QCFG.LOSSLESS : Field := ⟨.QMG_QCFG, 0, 21, 1, .rw⟩
def QMG_QCFG.MIN : Field := ⟨.QMG_QCFG, 0, 22, 10, .rw⟩
def QMG_QCFG.QMAX : Field := ⟨.QMG_QCFG, 0, 32, 16, .rw⟩
def QMG_QCFG.SPILL_CELLS : Field := ⟨.QMG_QCFG, 0, 48, 8, .rw⟩
def QMG_QSTAT.CELLS : Field := ⟨.QMG_QSTAT, 0, 0, 17, .ro⟩
def QMG_QSTAT.HEAD : Field := ⟨.QMG_QSTAT, 0, 17, 8, .ro⟩
def QMG_QSTAT.TAIL : Field := ⟨.QMG_QSTAT, 0, 25, 8, .ro⟩
def QMG_QSTAT.CHUNKS : Field := ⟨.QMG_QSTAT, 0, 33, 20, .ro⟩
def QMG_QSTAT.FLUSHING : Field := ⟨.QMG_QSTAT, 0, 53, 1, .ro⟩
def QMG_QSTAT.DROPS : Field := ⟨.QMG_QSTAT, 1, 0, 32, .rc⟩
def QMG_QSTAT.FLUSHED : Field := ⟨.QMG_QSTAT, 1, 32, 32, .rc⟩
def QMG_ECC.CORR : Field := ⟨.QMG_ECC, 0, 0, 32, .rc⟩
def QMG_ECC.UNCORR : Field := ⟨.QMG_ECC, 0, 32, 16, .rc⟩
def QMG_ECC.RETIRED : Field := ⟨.QMG_ECC, 0, 48, 8, .ro⟩
def QMG_AUDIT_CTRL.EN : Field := ⟨.QMG_AUDIT_CTRL, 0, 0, 1, .rw⟩
def QMG_AUDIT_CTRL.STATE : Field := ⟨.QMG_AUDIT_CTRL, 0, 2, 2, .ro⟩
def QMG_AUDIT_CTRL.RATE : Field := ⟨.QMG_AUDIT_CTRL, 0, 8, 8, .rw⟩
def QMG_AUDIT_STATUS.PASS : Field := ⟨.QMG_AUDIT_STATUS, 0, 0, 32, .ro⟩
def QMG_AUDIT_STATUS.RECLAIMED : Field := ⟨.QMG_AUDIT_STATUS, 0, 32, 16, .rc⟩
def QMG_AUDIT_STATUS.LOG_COUNT : Field := ⟨.QMG_AUDIT_STATUS, 0, 48, 5, .ro⟩
def QMG_AUDIT_STATUS.ORPHAN : Field := ⟨.QMG_AUDIT_STATUS, 0, 53, 1, .w1c⟩
def QMG_AUDIT_STATUS.LOG_CLR : Field := ⟨.QMG_AUDIT_STATUS, 0, 54, 1, .wo⟩
def QMG_AUDIT_LOG.REGION : Field := ⟨.QMG_AUDIT_LOG, 0, 0, 2, .ro⟩
def QMG_AUDIT_LOG.KIND : Field := ⟨.QMG_AUDIT_LOG, 0, 2, 2, .ro⟩
def QMG_AUDIT_LOG.INDEX : Field := ⟨.QMG_AUDIT_LOG, 0, 4, 23, .ro⟩
def QMG_AUDIT_LOG.OWNER : Field := ⟨.QMG_AUDIT_LOG, 0, 32, 12, .ro⟩
def QMG_AUDIT_LOG.PASS : Field := ⟨.QMG_AUDIT_LOG, 0, 44, 20, .ro⟩
def SCH_QSHAPE.RATE : Field := ⟨.SCH_QSHAPE, 0, 0, 21, .rw⟩
def SCH_QSHAPE.BURST : Field := ⟨.SCH_QSHAPE, 0, 24, 24, .rw⟩
def SCH_QSHAPE.LAT_EN : Field := ⟨.SCH_QSHAPE, 0, 48, 1, .rw⟩
def SCH_QCREDIT.CREDIT : Field := ⟨.SCH_QCREDIT, 0, 0, 32, .ro⟩
def SCH_PORT_CFG.OVH : Field := ⟨.SCH_PORT_CFG, 0, 0, 8, .rw⟩
def SCH_PORT_QUANTUM.Q : Field := ⟨.SCH_PORT_QUANTUM, 0, 0, 64, .rw⟩
def SCH_METER.EN : Field := ⟨.SCH_METER, 0, 0, 1, .rw⟩
def SCH_METER.MODE : Field := ⟨.SCH_METER, 0, 1, 1, .rw⟩
def SCH_METER.AWARE : Field := ⟨.SCH_METER, 0, 2, 1, .rw⟩
def SCH_METER.ADD_IFG : Field := ⟨.SCH_METER, 0, 3, 1, .rw⟩
def SCH_METER.ACT_G : Field := ⟨.SCH_METER, 0, 4, 2, .rw⟩
def SCH_METER.ACT_Y : Field := ⟨.SCH_METER, 0, 6, 2, .rw⟩
def SCH_METER.ACT_R : Field := ⟨.SCH_METER, 0, 8, 2, .rw⟩
def SCH_METER.CIR : Field := ⟨.SCH_METER, 0, 11, 21, .rw⟩
def SCH_METER.PIR : Field := ⟨.SCH_METER, 0, 32, 21, .rw⟩
def SCH_METER.CBS : Field := ⟨.SCH_METER, 1, 0, 24, .rw⟩
def SCH_METER.EBS_PBS : Field := ⟨.SCH_METER, 1, 24, 24, .rw⟩
def SCH_METER_CNT.GREEN : Field := ⟨.SCH_METER_CNT, 0, 0, 64, .rc⟩
def SCH_METER_CNT.YELLOW : Field := ⟨.SCH_METER_CNT, 1, 0, 64, .rc⟩
def SCH_METER_CNT.RED : Field := ⟨.SCH_METER_CNT, 2, 0, 64, .rc⟩
def SCH_METER_CNT.DROPPED : Field := ⟨.SCH_METER_CNT, 3, 0, 64, .rc⟩
def SCH_LAT_CFG.INTERVAL_US : Field := ⟨.SCH_LAT_CFG, 0, 0, 16, .rw⟩
def SCH_LAT_CFG.EN : Field := ⟨.SCH_LAT_CFG, 0, 16, 1, .rw⟩
def SCH_LAT_HCFG.BIN_NS : Field := ⟨.SCH_LAT_HCFG, 0, 0, 16, .rw⟩
def SCH_LAT_HCFG.SCALE : Field := ⟨.SCH_LAT_HCFG, 0, 16, 1, .rw⟩
def SCH_LAT_CMD.INDEX : Field := ⟨.SCH_LAT_CMD, 0, 0, 12, .wo⟩
def SCH_LAT_CMD.OP : Field := ⟨.SCH_LAT_CMD, 0, 12, 2, .wo⟩
def SCH_LAT_CMD.CLEAR : Field := ⟨.SCH_LAT_CMD, 0, 14, 1, .wo⟩
def SCH_LAT_STATUS.BUSY : Field := ⟨.SCH_LAT_STATUS, 0, 0, 1, .ro⟩
def SCH_LAT_STATUS.KIND : Field := ⟨.SCH_LAT_STATUS, 0, 1, 1, .ro⟩
def SCH_LAT_STATUS.INDEX : Field := ⟨.SCH_LAT_STATUS, 0, 16, 12, .ro⟩
def SCH_LAT_STATUS.STEP_DISC : Field := ⟨.SCH_LAT_STATUS, 0, 32, 32, .rc⟩
def SCH_LAT_SNAP.DEPTH_MIN : Field := ⟨.SCH_LAT_SNAP, 0, 0, 32, .ro⟩
def SCH_LAT_SNAP.DEPTH_MAX : Field := ⟨.SCH_LAT_SNAP, 0, 32, 32, .ro⟩
def SCH_LAT_SNAP.DEPTH_MEAN : Field := ⟨.SCH_LAT_SNAP, 1, 0, 32, .ro⟩
def SCH_LAT_SNAP.DEPTH_N : Field := ⟨.SCH_LAT_SNAP, 1, 32, 32, .ro⟩
def SCH_LAT_SNAP.DELAY_MIN : Field := ⟨.SCH_LAT_SNAP, 2, 0, 32, .ro⟩
def SCH_LAT_SNAP.DELAY_MAX : Field := ⟨.SCH_LAT_SNAP, 2, 32, 32, .ro⟩
def SCH_LAT_SNAP.DELAY_MEAN : Field := ⟨.SCH_LAT_SNAP, 3, 0, 32, .ro⟩
def SCH_LAT_SNAP.DELAY_N : Field := ⟨.SCH_LAT_SNAP, 3, 32, 32, .ro⟩
def SCH_LAT_HIST.BIN0 : Field := ⟨.SCH_LAT_HIST, 0, 0, 32, .ro⟩
def SCH_LAT_HIST.BIN2 : Field := ⟨.SCH_LAT_HIST, 1, 0, 32, .ro⟩
def SCH_LAT_HIST.BIN4 : Field := ⟨.SCH_LAT_HIST, 2, 0, 32, .ro⟩
def SCH_LAT_HIST.BIN6 : Field := ⟨.SCH_LAT_HIST, 3, 0, 32, .ro⟩
def SCH_LAT_HIST.BIN8 : Field := ⟨.SCH_LAT_HIST, 4, 0, 32, .ro⟩
def SCH_LAT_HIST.BIN10 : Field := ⟨.SCH_LAT_HIST, 5, 0, 32, .ro⟩
def SCH_LAT_HIST.BIN12 : Field := ⟨.SCH_LAT_HIST, 6, 0, 32, .ro⟩
def SCH_LAT_HIST.BIN14 : Field := ⟨.SCH_LAT_HIST, 7, 0, 32, .ro⟩
def SCH_LAT_HIST.BIN1 : Field := ⟨.SCH_LAT_HIST, 0, 32, 32, .ro⟩
def SCH_LAT_HIST.BIN3 : Field := ⟨.SCH_LAT_HIST, 1, 32, 32, .ro⟩
def SCH_LAT_HIST.BIN5 : Field := ⟨.SCH_LAT_HIST, 2, 32, 32, .ro⟩
def SCH_LAT_HIST.BIN7 : Field := ⟨.SCH_LAT_HIST, 3, 32, 32, .ro⟩
def SCH_LAT_HIST.BIN9 : Field := ⟨.SCH_LAT_HIST, 4, 32, 32, .ro⟩
def SCH_LAT_HIST.BIN11 : Field := ⟨.SCH_LAT_HIST, 5, 32, 32, .ro⟩
def SCH_LAT_HIST.BIN13 : Field := ⟨.SCH_LAT_HIST, 6, 32, 32, .ro⟩
def SCH_LAT_HIST.BIN15 : Field := ⟨.SCH_LAT_HIST, 7, 32, 32, .ro⟩
def DMC_PART.STATE_U : Field := ⟨.DMC_PART, 0, 0, 8, .ro⟩
def DMC_PART.MARROW_U : Field := ⟨.DMC_PART, 0, 8, 8, .ro⟩
def DMC_PART.REORDER_U : Field := ⟨.DMC_PART, 0, 16, 8, .ro⟩
def DMC_PART.LET_U : Field := ⟨.DMC_PART, 0, 24, 8, .ro⟩
def DMC_SCRUB_CFG.PATROL_EN : Field := ⟨.DMC_SCRUB_CFG, 0, 0, 1, .rw⟩
def DMC_SCRUB_CFG.TEST_EN : Field := ⟨.DMC_SCRUB_CFG, 0, 1, 1, .rw⟩
def DMC_SCRUB_CFG.SCRUB_H : Field := ⟨.DMC_SCRUB_CFG, 0, 8, 8, .rw⟩
def DMC_SCRUB_CFG.TEST_H : Field := ⟨.DMC_SCRUB_CFG, 0, 16, 16, .rw⟩
def DMC_STACK_STATUS.PC_IN : Field := ⟨.DMC_STACK_STATUS, 0, 0, 6, .ro⟩
def DMC_STACK_STATUS.FENCED : Field := ⟨.DMC_STACK_STATUS, 0, 6, 1, .ro⟩
def DMC_STACK_STATUS.CHANGED : Field := ⟨.DMC_STACK_STATUS, 0, 7, 1, .w1c⟩
def DMC_STACK_STATUS.SCRUB_PASS : Field := ⟨.DMC_STACK_STATUS, 0, 16, 16, .ro⟩
def DMC_STACK_STATUS.TEST_PASS : Field := ⟨.DMC_STACK_STATUS, 0, 32, 16, .ro⟩
def DMC_PC.RETIRED : Field := ⟨.DMC_PC, 0, 0, 1, .ro⟩
def DMC_PC.CORR : Field := ⟨.DMC_PC, 0, 8, 24, .rc⟩
def DMC_PC.UNCORR : Field := ⟨.DMC_PC, 0, 32, 8, .rc⟩
def DMC_PC.SPPR : Field := ⟨.DMC_PC, 0, 40, 8, .ro⟩
def DMC_PC.SPARES : Field := ⟨.DMC_PC, 0, 48, 8, .ro⟩
def DMC_PC.CAUSE : Field := ⟨.DMC_PC, 0, 56, 4, .ro⟩
def DMC_CAP.LET_MIB : Field := ⟨.DMC_CAP, 0, 0, 20, .ro⟩
def DMC_CAP.REORDER_MIB : Field := ⟨.DMC_CAP, 0, 20, 20, .ro⟩
def DMC_CAP.MARROW_CHUNKS : Field := ⟨.DMC_CAP, 0, 40, 20, .ro⟩
def IME_RKEY_CTRL.EN : Field := ⟨.IME_RKEY_CTRL, 0, 0, 1, .rw⟩
def IME_RKEY_CTRL.STATE : Field := ⟨.IME_RKEY_CTRL, 0, 2, 2, .ro⟩
def IME_RKEY_CTRL.SPLIT : Field := ⟨.IME_RKEY_CTRL, 0, 4, 1, .ro⟩
def IME_RKEY_CTRL.DONE : Field := ⟨.IME_RKEY_CTRL, 0, 5, 1, .w1c⟩
def IME_RKEY_CTRL.RATE : Field := ⟨.IME_RKEY_CTRL, 0, 8, 8, .rw⟩
def IME_RKEY_CTRL.KEYSEL : Field := ⟨.IME_RKEY_CTRL, 0, 16, 1, .ro⟩
def IME_RANGE_EPOCH.EPOCH : Field := ⟨.IME_RANGE_EPOCH, 0, 0, 64, .ro⟩
def IME_RANGE_BOUND.BOUND : Field := ⟨.IME_RANGE_BOUND, 0, 0, 41, .ro⟩
def IME_RANGE_BOUND.PCT : Field := ⟨.IME_RANGE_BOUND, 0, 48, 7, .ro⟩
def IME_STATUS.POISONED : Field := ⟨.IME_STATUS, 0, 0, 32, .rc⟩
def IME_STATUS.TAG_FAIL : Field := ⟨.IME_STATUS, 0, 32, 16, .rc⟩
def IME_STATUS.PARTIAL_REF : Field := ⟨.IME_STATUS, 0, 48, 16, .rc⟩
def IME_POISON_ADDR.ADDR : Field := ⟨.IME_POISON_ADDR, 0, 0, 41, .ro⟩
def IME_POISON_ADDR.CAUSE : Field := ⟨.IME_POISON_ADDR, 0, 41, 3, .ro⟩
def SRB_BANK.MASTER : Field := ⟨.SRB_BANK, 0, 0, 4, .ro⟩
def SRB_BANK.PSTATE : Field := ⟨.SRB_BANK, 0, 4, 2, .ro⟩
def SRB_BANK.PREQ : Field := ⟨.SRB_BANK, 0, 6, 2, .rw⟩
def SRB_BANK.FENCED : Field := ⟨.SRB_BANK, 0, 8, 1, .ro⟩
def SRB_BANK.REJ : Field := ⟨.SRB_BANK, 0, 9, 1, .w1c⟩
def SRB_BANK.TILES_IN : Field := ⟨.SRB_BANK, 0, 16, 7, .ro⟩
def SRB_BANK.SPARE_TILES : Field := ⟨.SRB_BANK, 0, 24, 2, .ro⟩
def SRB_BANK.CORR : Field := ⟨.SRB_BANK, 0, 32, 16, .rc⟩
def SRB_BANK.UNCORR : Field := ⟨.SRB_BANK, 0, 48, 8, .rc⟩
def SRB_CHIP_BANK.MASTER : Field := ⟨.SRB_CHIP_BANK, 0, 0, 4, .ro⟩
def SRB_CHIP_BANK.PSTATE : Field := ⟨.SRB_CHIP_BANK, 0, 4, 2, .ro⟩
def SRB_CHIP_BANK.PREQ : Field := ⟨.SRB_CHIP_BANK, 0, 6, 2, .rw⟩
def SRB_CHIP_BANK.FENCED : Field := ⟨.SRB_CHIP_BANK, 0, 8, 1, .ro⟩
def SRB_CHIP_BANK.REJ : Field := ⟨.SRB_CHIP_BANK, 0, 9, 1, .w1c⟩
def SRB_CHIP_BANK.TILES_IN : Field := ⟨.SRB_CHIP_BANK, 0, 16, 7, .ro⟩
def SRB_CHIP_BANK.SPARE_TILES : Field := ⟨.SRB_CHIP_BANK, 0, 24, 2, .ro⟩
def SRB_CHIP_BANK.CORR : Field := ⟨.SRB_CHIP_BANK, 0, 32, 16, .rc⟩
def SRB_CHIP_BANK.UNCORR : Field := ⟨.SRB_CHIP_BANK, 0, 48, 8, .rc⟩
def SRB_CONFLICT.CYCLES : Field := ⟨.SRB_CONFLICT, 0, 0, 48, .rc⟩
def SRB_CHIP_CONFLICT.CYCLES : Field := ⟨.SRB_CHIP_CONFLICT, 0, 0, 48, .rc⟩
def SRB_TEST_CFG.EN : Field := ⟨.SRB_TEST_CFG, 0, 0, 1, .rw⟩
def SRB_TEST_CFG.STATE : Field := ⟨.SRB_TEST_CFG, 0, 2, 2, .ro⟩
def SRB_TEST_CFG.GAP_MS : Field := ⟨.SRB_TEST_CFG, 0, 8, 16, .rw⟩
def SRB_TEST_STATUS.PASSES : Field := ⟨.SRB_TEST_STATUS, 0, 0, 32, .ro⟩
def SRB_TEST_STATUS.POS : Field := ⟨.SRB_TEST_STATUS, 0, 32, 10, .ro⟩
def SRB_TEST_STATUS.REPAIRS : Field := ⟨.SRB_TEST_STATUS, 0, 48, 8, .rc⟩
def SRB_TEST_STATUS.FAILS : Field := ⟨.SRB_TEST_STATUS, 0, 56, 8, .rc⟩
def SRB_WIPE_STATUS.WIPES : Field := ⟨.SRB_WIPE_STATUS, 0, 0, 16, .ro⟩
def SRB_WIPE_STATUS.CAUSE : Field := ⟨.SRB_WIPE_STATUS, 0, 16, 4, .ro⟩
def SRB_WIPE_STATUS.VERIFY_FAIL : Field := ⟨.SRB_WIPE_STATUS, 0, 20, 1, .w1c⟩
def KST_KEYDATA.DATA : Field := ⟨.KST_KEYDATA, 0, 0, 64, .wo⟩
def KST_SALT.SALT_LO : Field := ⟨.KST_SALT, 0, 0, 64, .wo⟩
def KST_SALT.SALT_HI : Field := ⟨.KST_SALT, 1, 0, 32, .wo⟩
def KST_ATTR.PURPOSE : Field := ⟨.KST_ATTR, 0, 0, 3, .rw⟩
def KST_ATTR.DIR : Field := ⟨.KST_ATTR, 0, 3, 2, .rw⟩
def KST_ATTR.LEN : Field := ⟨.KST_ATTR, 0, 5, 2, .rw⟩
def KST_ATTR.VOLATILE : Field := ⟨.KST_ATTR, 0, 7, 1, .rw⟩
def KST_ATTR.LIMIT_EN : Field := ⟨.KST_ATTR, 0, 8, 1, .rw⟩
def KST_ATTR.USE_LIMIT : Field := ⟨.KST_ATTR, 0, 16, 48, .rw⟩
def KST_CMD.OP : Field := ⟨.KST_CMD, 0, 0, 4, .wo⟩
def KST_CMD.PART : Field := ⟨.KST_CMD, 0, 4, 2, .wo⟩
def KST_CMD.KH : Field := ⟨.KST_CMD, 0, 8, 17, .wo⟩
def KST_STATUS.BUSY : Field := ⟨.KST_STATUS, 0, 0, 1, .ro⟩
def KST_STATUS.DONE : Field := ⟨.KST_STATUS, 0, 1, 1, .w1c⟩
def KST_STATUS.OVERRUN : Field := ⟨.KST_STATUS, 0, 2, 1, .w1c⟩
def KST_STATUS.COMMITTED : Field := ⟨.KST_STATUS, 0, 3, 1, .ro⟩
def KST_STATUS.RESULT : Field := ⟨.KST_STATUS, 0, 8, 8, .ro⟩
def KST_STATUS.KH : Field := ⟨.KST_STATUS, 0, 32, 17, .ro⟩
def KST_INFO.FULL : Field := ⟨.KST_INFO, 0, 0, 1, .ro⟩
def KST_INFO.USABLE : Field := ⟨.KST_INFO, 0, 1, 1, .ro⟩
def KST_INFO.PURPOSE : Field := ⟨.KST_INFO, 0, 2, 3, .ro⟩
def KST_INFO.DIR : Field := ⟨.KST_INFO, 0, 5, 2, .ro⟩
def KST_INFO.LEN : Field := ⟨.KST_INFO, 0, 7, 2, .ro⟩
def KST_INFO.VOLATILE : Field := ⟨.KST_INFO, 0, 9, 1, .ro⟩
def KST_INFO.LIMIT_EN : Field := ⟨.KST_INFO, 0, 10, 1, .ro⟩
def KST_INFO.COMMITTED : Field := ⟨.KST_INFO, 0, 11, 1, .ro⟩
def KST_INFO.CAUSE : Field := ⟨.KST_INFO, 0, 12, 2, .ro⟩
def KST_INFO.KCV : Field := ⟨.KST_INFO, 0, 16, 24, .ro⟩
def KST_INFO.GEN : Field := ⟨.KST_INFO, 0, 40, 24, .ro⟩
def KST_INFO.REMAIN : Field := ⟨.KST_INFO, 1, 0, 48, .ro⟩
def KST_CTRL.PF0_KEYWR : Field := ⟨.KST_CTRL, 0, 0, 1, .rw⟩
def KST_CTRL.DRBG_FAIL : Field := ⟨.KST_CTRL, 0, 1, 1, .ro⟩
def LCM_STATE.STATE : Field := ⟨.LCM_STATE, 0, 0, 3, .ro⟩
def LCM_STATE.ROOT_B : Field := ⟨.LCM_STATE, 0, 3, 1, .ro⟩
def LCM_STATE.ROOT_FAIL : Field := ⟨.LCM_STATE, 0, 4, 1, .ro⟩
def LCM_STATE.CKH_USED : Field := ⟨.LCM_STATE, 0, 8, 3, .ro⟩
def LCM_DEVICE_ID.DEVICE_ID : Field := ⟨.LCM_DEVICE_ID, 0, 0, 64, .ro⟩
def LCM_CHALLENGE.NONCE : Field := ⟨.LCM_CHALLENGE, 0, 0, 64, .ro⟩
def LCM_TOKEN_ADDR.ADDR : Field := ⟨.LCM_TOKEN_ADDR, 0, 8, 56, .rw⟩
def LCM_CMD.OP : Field := ⟨.LCM_CMD, 0, 0, 4, .wo⟩
def LCM_CMD.CONFIRM : Field := ⟨.LCM_CMD, 0, 8, 32, .wo⟩
def LCM_STATUS.BUSY : Field := ⟨.LCM_STATUS, 0, 0, 1, .ro⟩
def LCM_STATUS.DONE : Field := ⟨.LCM_STATUS, 0, 1, 1, .w1c⟩
def LCM_STATUS.RESULT : Field := ⟨.LCM_STATUS, 0, 8, 8, .ro⟩
def NVJ_BOOT.PIN : Field := ⟨.NVJ_BOOT, 0, 0, 2, .rw⟩
def NVJ_BOOT.LOADED : Field := ⟨.NVJ_BOOT, 0, 2, 1, .ro⟩
def NVJ_BOOT.FALLBACK : Field := ⟨.NVJ_BOOT, 0, 3, 1, .ro⟩
def NVJ_BOOT.BAD_A : Field := ⟨.NVJ_BOOT, 0, 4, 1, .ro⟩
def NVJ_BOOT.BAD_B : Field := ⟨.NVJ_BOOT, 0, 5, 1, .ro⟩
def NVJ_BOOT.RES_A : Field := ⟨.NVJ_BOOT, 0, 8, 8, .ro⟩
def NVJ_BOOT.RES_B : Field := ⟨.NVJ_BOOT, 0, 16, 8, .ro⟩
def NVJ_BOOT.SEQ : Field := ⟨.NVJ_BOOT, 0, 32, 32, .ro⟩
def NVJ_IMG_ADDR.ADDR : Field := ⟨.NVJ_IMG_ADDR, 0, 8, 56, .rw⟩
def NVJ_IMG_CMD.OP : Field := ⟨.NVJ_IMG_CMD, 0, 0, 4, .wo⟩
def NVJ_IMG_CMD.SLOT : Field := ⟨.NVJ_IMG_CMD, 0, 4, 1, .wo⟩
def NVJ_IMG_CMD.OFFSET : Field := ⟨.NVJ_IMG_CMD, 0, 8, 17, .wo⟩
def NVJ_IMG_CMD.PAGES : Field := ⟨.NVJ_IMG_CMD, 0, 32, 16, .wo⟩
def NVJ_IMG_STATUS.BUSY : Field := ⟨.NVJ_IMG_STATUS, 0, 0, 1, .ro⟩
def NVJ_IMG_STATUS.DONE : Field := ⟨.NVJ_IMG_STATUS, 0, 1, 1, .w1c⟩
def NVJ_IMG_STATUS.RESULT : Field := ⟨.NVJ_IMG_STATUS, 0, 8, 8, .ro⟩
def NVJ_IMG_STATUS.PROGRESS : Field := ⟨.NVJ_IMG_STATUS, 0, 32, 16, .ro⟩
def NVJ_JCTRL.BSK_MODE : Field := ⟨.NVJ_JCTRL, 0, 0, 1, .rw⟩
def NVJ_JCTRL.OP : Field := ⟨.NVJ_JCTRL, 0, 4, 4, .wo⟩
def NVJ_JCTRL.RECORDS : Field := ⟨.NVJ_JCTRL, 0, 8, 8, .wo⟩
def NVJ_JCTRL.CONFIRM : Field := ⟨.NVJ_JCTRL, 0, 32, 32, .wo⟩
def NVJ_JSTATUS.ACTIVE : Field := ⟨.NVJ_JSTATUS, 0, 0, 1, .ro⟩
def NVJ_JSTATUS.BUSY : Field := ⟨.NVJ_JSTATUS, 0, 1, 1, .ro⟩
def NVJ_JSTATUS.COMPACTING : Field := ⟨.NVJ_JSTATUS, 0, 2, 1, .ro⟩
def NVJ_JSTATUS.READ_ONLY : Field := ⟨.NVJ_JSTATUS, 0, 3, 1, .ro⟩
def NVJ_JSTATUS.CORRUPT : Field := ⟨.NVJ_JSTATUS, 0, 4, 1, .ro⟩
def NVJ_JSTATUS.DONE : Field := ⟨.NVJ_JSTATUS, 0, 5, 1, .w1c⟩
def NVJ_JSTATUS.RESULT : Field := ⟨.NVJ_JSTATUS, 0, 8, 8, .ro⟩
def NVJ_JSTATUS.FILL : Field := ⟨.NVJ_JSTATUS, 0, 16, 7, .ro⟩
def NVJ_JSTATUS.SPARES0 : Field := ⟨.NVJ_JSTATUS, 0, 24, 6, .ro⟩
def NVJ_JSTATUS.SPARES1 : Field := ⟨.NVJ_JSTATUS, 0, 32, 6, .ro⟩
def NVJ_JSTATUS.MAX_ERASE : Field := ⟨.NVJ_JSTATUS, 0, 40, 17, .ro⟩
def NVJ_REPLAY.APPLIED : Field := ⟨.NVJ_REPLAY, 0, 0, 24, .ro⟩
def NVJ_REPLAY.IGNORED : Field := ⟨.NVJ_REPLAY, 0, 24, 16, .ro⟩
def NVJ_REPLAY.AUTH_FAIL : Field := ⟨.NVJ_REPLAY, 0, 40, 16, .ro⟩
def NVJ_REPLAY.FOREIGN : Field := ⟨.NVJ_REPLAY, 0, 56, 8, .ro⟩
def TMB_CTRL.EN : Field := ⟨.TMB_CTRL, 0, 0, 1, .w1s⟩
def TMB_CTRL.SRC : Field := ⟨.TMB_CTRL, 0, 1, 2, .rw⟩
def TMB_CTRL.REC_PORT : Field := ⟨.TMB_CTRL, 0, 8, 5, .rw⟩
def TMB_STATUS.RUNNING : Field := ⟨.TMB_STATUS, 0, 0, 1, .ro⟩
def TMB_STATUS.STEP_USED : Field := ⟨.TMB_STATUS, 0, 1, 1, .ro⟩
def TMB_STATUS.STEP_WAIT : Field := ⟨.TMB_STATUS, 0, 2, 1, .ro⟩
def TMB_STATUS.HOLDOVER : Field := ⟨.TMB_STATUS, 0, 3, 1, .ro⟩
def TMB_STATUS.SLEWING : Field := ⟨.TMB_STATUS, 0, 4, 1, .ro⟩
def TMB_STATUS.OWNED : Field := ⟨.TMB_STATUS, 0, 5, 1, .ro⟩
def TMB_STATUS.STEP_REJ : Field := ⟨.TMB_STATUS, 0, 6, 1, .w1c⟩
def TMB_STATUS.STEPPED : Field := ⟨.TMB_STATUS, 0, 7, 1, .w1c⟩
def TMB_TIME.FRAC : Field := ⟨.TMB_TIME, 0, 0, 16, .ro⟩
def TMB_TIME.NS : Field := ⟨.TMB_TIME, 0, 16, 32, .ro⟩
def TMB_TIME.SEC : Field := ⟨.TMB_TIME, 1, 0, 48, .ro⟩
def TMB_RATE.RATE : Field := ⟨.TMB_RATE, 0, 0, 40, .rw⟩
def TMB_STEP.NS : Field := ⟨.TMB_STEP, 0, 0, 30, .rw⟩
def TMB_STEP.SEC : Field := ⟨.TMB_STEP, 1, 0, 48, .rw⟩
def TMB_STEP_CMD.OP : Field := ⟨.TMB_STEP_CMD, 0, 0, 2, .wo⟩
def TMB_SLEW.OFFSET : Field := ⟨.TMB_SLEW, 0, 0, 32, .rw⟩
def TMB_SLEW.SLEW_PPB : Field := ⟨.TMB_SLEW, 0, 32, 20, .rw⟩
def TMB_SLEW_LEFT.LEFT : Field := ⟨.TMB_SLEW_LEFT, 0, 0, 32, .ro⟩
def TMB_PPS_CFG.WIN_EN : Field := ⟨.TMB_PPS_CFG, 0, 0, 1, .rw⟩
def TMB_PPS_CFG.OUT_EN : Field := ⟨.TMB_PPS_CFG, 0, 1, 1, .rw⟩
def TMB_PPS_CFG.OUT_WIDTH : Field := ⟨.TMB_PPS_CFG, 0, 8, 24, .rw⟩
def TMB_PPS_CFG.OUT_OFS : Field := ⟨.TMB_PPS_CFG, 0, 32, 32, .rw⟩
def TMB_PPS_IN.FRAC : Field := ⟨.TMB_PPS_IN, 0, 0, 16, .ro⟩
def TMB_PPS_IN.NS : Field := ⟨.TMB_PPS_IN, 0, 16, 32, .ro⟩
def TMB_PPS_IN.SEC : Field := ⟨.TMB_PPS_IN, 1, 0, 48, .ro⟩
def TMB_CNT.PPS_ACCEPTED : Field := ⟨.TMB_CNT, 0, 0, 32, .rc⟩
def TMB_CNT.PPS_REJECTED : Field := ⟨.TMB_CNT, 0, 32, 16, .rc⟩
def TMB_CNT.LATE : Field := ⟨.TMB_CNT, 0, 48, 8, .rc⟩
def TMB_CNT.STEP_REFUSED : Field := ⟨.TMB_CNT, 0, 56, 8, .rc⟩
def TMB_PORT.RX_TS : Field := ⟨.TMB_PORT, 0, 0, 1, .rw⟩
def TMB_PORT.TS_EN : Field := ⟨.TMB_PORT, 0, 1, 1, .rw⟩
def TMB_PORT.TT_ROLE : Field := ⟨.TMB_PORT, 0, 2, 2, .rw⟩
def TMB_PORT.TT_SHIFT : Field := ⟨.TMB_PORT, 0, 8, 8, .rw⟩
def TMB_PORT.LEAD_NS : Field := ⟨.TMB_PORT, 0, 16, 16, .rw⟩
def TMB_PORT.TX_OFS : Field := ⟨.TMB_PORT, 0, 32, 16, .rw⟩
def TMB_PORT.RX_OFS : Field := ⟨.TMB_PORT, 0, 48, 16, .rw⟩
def TMB_PORT_FIXED.TX_FIXED : Field := ⟨.TMB_PORT_FIXED, 0, 0, 16, .ro⟩
def TMB_TT_RESULT.OFFSET : Field := ⟨.TMB_TT_RESULT, 0, 0, 64, .ro⟩
def TMB_TT_RESULT.DELAY : Field := ⟨.TMB_TT_RESULT, 1, 0, 64, .ro⟩
def TMB_TT_RESULT.SAMPLES : Field := ⟨.TMB_TT_RESULT, 2, 0, 32, .ro⟩
def TMB_TT_RESULT.VALID : Field := ⟨.TMB_TT_RESULT, 2, 32, 1, .ro⟩
def TMB_TT_RESULT.FC : Field := ⟨.TMB_TT_RESULT, 3, 0, 64, .ro⟩
def TMP_CTRL.LOCK : Field := ⟨.TMP_CTRL, 0, 0, 1, .w1s⟩
def TMP_CTRL.ZEROISE : Field := ⟨.TMP_CTRL, 0, 1, 1, .w1s⟩
def TMP_CTRL.TEMP_HIGH : Field := ⟨.TMP_CTRL, 0, 8, 8, .rw⟩
def TMP_CTRL.TEMP_LOW : Field := ⟨.TMP_CTRL, 0, 16, 8, .rw⟩
def TMP_RESP.RESP0 : Field := ⟨.TMP_RESP, 0, 0, 2, .rw⟩
def TMP_RESP.RESP1 : Field := ⟨.TMP_RESP, 0, 2, 2, .ro⟩
def TMP_RESP.RESP2 : Field := ⟨.TMP_RESP, 0, 4, 2, .ro⟩
def TMP_RESP.RESP3 : Field := ⟨.TMP_RESP, 0, 6, 2, .rw⟩
def TMP_RESP.RESP4 : Field := ⟨.TMP_RESP, 0, 8, 2, .rw⟩
def TMP_RESP.RESP5 : Field := ⟨.TMP_RESP, 0, 10, 2, .rw⟩
def TMP_RESP.RESP6 : Field := ⟨.TMP_RESP, 0, 12, 2, .rw⟩
def TMP_RESP.RESP7 : Field := ⟨.TMP_RESP, 0, 14, 2, .rw⟩
def TMP_RESP.RESP8 : Field := ⟨.TMP_RESP, 0, 16, 2, .rw⟩
def TMP_RESP.RESP9 : Field := ⟨.TMP_RESP, 0, 18, 2, .rw⟩
def TMP_RESP.RESP10 : Field := ⟨.TMP_RESP, 0, 20, 2, .rw⟩
def TMP_RESP.RESP11 : Field := ⟨.TMP_RESP, 0, 22, 2, .rw⟩
def TMP_RESP.RESP12 : Field := ⟨.TMP_RESP, 0, 24, 2, .rw⟩
def TMP_RESP.RESP13 : Field := ⟨.TMP_RESP, 0, 26, 2, .rw⟩
def TMP_RESP.RESP14 : Field := ⟨.TMP_RESP, 0, 28, 2, .rw⟩
def TMP_RESP.RESP15 : Field := ⟨.TMP_RESP, 0, 30, 2, .rw⟩
def TMP_STATUS.FIRST : Field := ⟨.TMP_STATUS, 0, 0, 5, .ro⟩
def TMP_STATUS.LAST_RESP : Field := ⟨.TMP_STATUS, 0, 5, 2, .ro⟩
def TMP_STATUS.TAMPER_RECORDED : Field := ⟨.TMP_STATUS, 0, 7, 1, .w1c⟩
def TMP_STATUS.REJ : Field := ⟨.TMP_STATUS, 0, 8, 1, .w1c⟩
def TMP_STATUS.HOLD : Field := ⟨.TMP_STATUS, 0, 9, 1, .ro⟩
def TMP_STATUS.HOLD_CAUSE : Field := ⟨.TMP_STATUS, 0, 10, 2, .ro⟩
def TMP_STATUS.TAMPER_STARTS : Field := ⟨.TMP_STATUS, 0, 16, 4, .ro⟩
def TMP_STATUS.STARTS : Field := ⟨.TMP_STATUS, 0, 32, 32, .ro⟩
def TMP_ALARM.SRC : Field := ⟨.TMP_ALARM, 0, 0, 16, .w1c⟩
def TMP_ALARM.SOFTWARE : Field := ⟨.TMP_ALARM, 0, 16, 1, .w1c⟩
def TMP_ALARM.SIDEBAND : Field := ⟨.TMP_ALARM, 0, 17, 1, .w1c⟩
def TMP_RAW.COND : Field := ⟨.TMP_RAW, 0, 0, 16, .ro⟩
def TMP_TEMP.TEMP0 : Field := ⟨.TMP_TEMP, 0, 0, 8, .ro⟩
def TMP_TEMP.TEMP1 : Field := ⟨.TMP_TEMP, 0, 8, 8, .ro⟩
def TMP_VOLT.RAIL0 : Field := ⟨.TMP_VOLT, 0, 0, 10, .ro⟩
def TMP_VOLT.RAIL1 : Field := ⟨.TMP_VOLT, 0, 10, 10, .ro⟩
def TMP_VOLT.RAIL2 : Field := ⟨.TMP_VOLT, 0, 20, 10, .ro⟩
def TMP_VOLT.RAIL3 : Field := ⟨.TMP_VOLT, 0, 30, 10, .ro⟩
def TMP_VOLT.RAIL4 : Field := ⟨.TMP_VOLT, 0, 40, 10, .ro⟩
def TMP_VOLT.RAIL5 : Field := ⟨.TMP_VOLT, 0, 50, 10, .ro⟩
def TMP_AOLOG_STATUS.COUNT : Field := ⟨.TMP_AOLOG_STATUS, 0, 0, 5, .ro⟩
def TMP_AOLOG_STATUS.CLR : Field := ⟨.TMP_AOLOG_STATUS, 0, 5, 1, .wo⟩
def TMP_AOLOG_STATUS.TOTAL : Field := ⟨.TMP_AOLOG_STATUS, 0, 16, 16, .ro⟩
def TMP_ACLK.COUNT : Field := ⟨.TMP_ACLK, 0, 0, 48, .ro⟩
def TMP_AOLOG.SOURCE : Field := ⟨.TMP_AOLOG, 0, 0, 5, .ro⟩
def TMP_AOLOG.RESPONSE : Field := ⟨.TMP_AOLOG, 0, 5, 2, .ro⟩
def TMP_AOLOG.PSTATE : Field := ⟨.TMP_AOLOG, 0, 7, 2, .ro⟩
def TMP_AOLOG.LC : Field := ⟨.TMP_AOLOG, 0, 9, 3, .ro⟩
def TMP_AOLOG.BSK_ERASED : Field := ⟨.TMP_AOLOG, 0, 12, 1, .ro⟩
def TMP_AOLOG.ACLK : Field := ⟨.TMP_AOLOG, 0, 16, 48, .ro⟩
def TMP_AOLOG.STARTS : Field := ⟨.TMP_AOLOG, 1, 0, 32, .ro⟩
def GLB_OWNER.OWNER : Field := ⟨.GLB_OWNER, 0, 0, 2, .ro⟩
def GLB_OWNER.REQ : Field := ⟨.GLB_OWNER, 0, 2, 1, .ro⟩
def GLB_OWNER.FORCED : Field := ⟨.GLB_OWNER, 0, 3, 1, .w1c⟩
def GLB_OWNER.OP : Field := ⟨.GLB_OWNER, 0, 4, 2, .wo⟩
def GLB_OWNER.FORCE_TMO_MS : Field := ⟨.GLB_OWNER, 0, 16, 16, .rw⟩
def GLB_OWNER.DISCARDS : Field := ⟨.GLB_OWNER, 0, 32, 16, .rc⟩
def GLB_FRESET.TYPE : Field := ⟨.GLB_FRESET, 0, 0, 4, .wo⟩
def GLB_FRESET.INDEX : Field := ⟨.GLB_FRESET, 0, 8, 16, .wo⟩
def GLB_FRESET_STATUS.BUSY : Field := ⟨.GLB_FRESET_STATUS, 0, 0, 1, .ro⟩
def GLB_FRESET_STATUS.DONE : Field := ⟨.GLB_FRESET_STATUS, 0, 1, 1, .w1c⟩
def GLB_FRESET_STATUS.TIMEOUT : Field := ⟨.GLB_FRESET_STATUS, 0, 2, 1, .w1c⟩
def GLB_FRESET_STATUS.TYPE : Field := ⟨.GLB_FRESET_STATUS, 0, 4, 4, .ro⟩
def GLB_FRESET_STATUS.INDEX : Field := ⟨.GLB_FRESET_STATUS, 0, 8, 16, .ro⟩
def GLB_RESET.OP : Field := ⟨.GLB_RESET, 0, 0, 2, .wo⟩
def GLB_RESET.PC_FAIL : Field := ⟨.GLB_RESET, 0, 2, 1, .w1c⟩
def GLB_RESET.CONFIRM : Field := ⟨.GLB_RESET, 0, 32, 32, .wo⟩
def HIF_RING_BASE.ADDR : Field := ⟨.HIF_RING_BASE, 0, 12, 52, .rw⟩
def HIF_RING_CFG.EN : Field := ⟨.HIF_RING_CFG, 0, 0, 1, .rw⟩
def HIF_RING_CFG.STATE : Field := ⟨.HIF_RING_CFG, 0, 2, 2, .ro⟩
def HIF_RING_CFG.SIZE : Field := ⟨.HIF_RING_CFG, 0, 4, 5, .rw⟩
def HIF_RING_CFG.BUF : Field := ⟨.HIF_RING_CFG, 0, 9, 7, .rw⟩
def HIF_RING_CFG.QUEUE : Field := ⟨.HIF_RING_CFG, 0, 16, 12, .rw⟩
def HIF_RING_CFG.COAL_N : Field := ⟨.HIF_RING_CFG, 0, 32, 16, .rw⟩
def HIF_RING_CFG.COAL_US : Field := ⟨.HIF_RING_CFG, 0, 48, 16, .rw⟩
def HIF_RING_STAT.FRAMES : Field := ⟨.HIF_RING_STAT, 0, 0, 32, .rc⟩
def HIF_RING_STAT.ERRORS : Field := ⟨.HIF_RING_STAT, 0, 32, 16, .rc⟩
def HIF_RING_STAT.STALLS : Field := ⟨.HIF_RING_STAT, 0, 48, 16, .rc⟩
def HIF_DMA_CFG.PRI_TMO_MS : Field := ⟨.HIF_DMA_CFG, 0, 0, 16, .rw⟩
def HIF_DMA_STATUS.PRI_OFF0 : Field := ⟨.HIF_DMA_STATUS, 0, 0, 1, .ro⟩
def HIF_DMA_STATUS.PRI_OFF1 : Field := ⟨.HIF_DMA_STATUS, 0, 1, 1, .ro⟩
def HIF_DMA_STATUS.PRI_REQ : Field := ⟨.HIF_DMA_STATUS, 0, 16, 16, .rc⟩
def HIF_DMA_STATUS.PRI_FAIL : Field := ⟨.HIF_DMA_STATUS, 0, 32, 16, .rc⟩
def HIF_DMA_STATUS.HOST_ERR : Field := ⟨.HIF_DMA_STATUS, 0, 48, 16, .rc⟩
def HIF_MBOX_ADDR.ADDR : Field := ⟨.HIF_MBOX_ADDR, 0, 13, 51, .rw⟩
def HIF_MBOX_CTRL.GO : Field := ⟨.HIF_MBOX_CTRL, 0, 0, 1, .wo⟩
def HIF_MBOX_CTRL.BUSY : Field := ⟨.HIF_MBOX_CTRL, 0, 1, 1, .ro⟩
def HIF_MBOX_CTRL.DONE : Field := ⟨.HIF_MBOX_CTRL, 0, 2, 1, .w1c⟩
def HIF_MBOX_CTRL.RESULT : Field := ⟨.HIF_MBOX_CTRL, 0, 8, 8, .ro⟩
def HIF_MBOX_CTRL.REQ_LEN : Field := ⟨.HIF_MBOX_CTRL, 0, 16, 16, .rw⟩
def HIF_MBOX_CTRL.RSP_LEN : Field := ⟨.HIF_MBOX_CTRL, 0, 32, 16, .ro⟩
def HIF_IDKEY.KEY : Field := ⟨.HIF_IDKEY, 0, 0, 64, .ro⟩
def EVT_SRC.STATUS : Field := ⟨.EVT_SRC, 0, 0, 1, .w1c⟩
def EVT_SRC.MASK : Field := ⟨.EVT_SRC, 0, 1, 1, .rw⟩
def EVT_SRC.RING : Field := ⟨.EVT_SRC, 0, 2, 1, .rw⟩
def EVT_SRC.LOG : Field := ⟨.EVT_SRC, 0, 3, 1, .rw⟩
def EVT_SRC.VECTOR : Field := ⟨.EVT_SRC, 0, 8, 9, .rw⟩
def EVT_SRC.COUNT : Field := ⟨.EVT_SRC, 0, 32, 32, .rc⟩
def EVT_RING_BASE.ADDR : Field := ⟨.EVT_RING_BASE, 0, 12, 52, .rw⟩
def EVT_RING_CFG.EN : Field := ⟨.EVT_RING_CFG, 0, 0, 1, .rw⟩
def EVT_RING_CFG.STATE : Field := ⟨.EVT_RING_CFG, 0, 2, 2, .ro⟩
def EVT_RING_CFG.SIZE : Field := ⟨.EVT_RING_CFG, 0, 4, 5, .rw⟩
def EVT_RING_HEAD.HEAD : Field := ⟨.EVT_RING_HEAD, 0, 0, 17, .rw⟩
def EVT_RING_STATUS.TAIL : Field := ⟨.EVT_RING_STATUS, 0, 0, 17, .ro⟩
def EVT_RING_STATUS.OVERFLOW : Field := ⟨.EVT_RING_STATUS, 0, 17, 1, .w1c⟩
def EVT_RING_STATUS.LOST : Field := ⟨.EVT_RING_STATUS, 0, 32, 32, .rc⟩
def SBM_STATUS.MODE : Field := ⟨.SBM_STATUS, 0, 0, 2, .ro⟩
def SBM_STATUS.STATIC_ADDR : Field := ⟨.SBM_STATUS, 0, 2, 7, .ro⟩
def SBM_STATUS.DYN_ADDR : Field := ⟨.SBM_STATUS, 0, 9, 7, .ro⟩
def SBM_STATUS.ALERT : Field := ⟨.SBM_STATUS, 0, 16, 1, .ro⟩
def SBM_STATUS.COMMANDS : Field := ⟨.SBM_STATUS, 0, 32, 16, .rc⟩
def SBM_STATUS.ERRORS : Field := ⟨.SBM_STATUS, 0, 48, 16, .rc⟩
def SBM_ALERT_MASK.SRC : Field := ⟨.SBM_ALERT_MASK, 0, 0, 64, .rw⟩
def PWR_STATE.STATE : Field := ⟨.PWR_STATE, 0, 0, 2, .ro⟩
def PWR_STATE.MAIN_EN : Field := ⟨.PWR_STATE, 0, 2, 1, .ro⟩
def PWR_STATE.PG : Field := ⟨.PWR_STATE, 0, 3, 1, .ro⟩
def PWR_STATE.AUTO_ON : Field := ⟨.PWR_STATE, 0, 4, 1, .ro⟩
def PWR_STATE.TRANSIT : Field := ⟨.PWR_STATE, 0, 5, 1, .ro⟩
def PWR_CTRL.OP : Field := ⟨.PWR_CTRL, 0, 0, 2, .wo⟩
def PWR_CTRL.CONFIRM : Field := ⟨.PWR_CTRL, 0, 32, 32, .wo⟩
def PWR_START_STATUS.STEP : Field := ⟨.PWR_START_STATUS, 0, 0, 4, .ro⟩
def PWR_START_STATUS.STOPPED : Field := ⟨.PWR_START_STATUS, 0, 4, 1, .ro⟩
def PWR_START_STATUS.TRAFFIC : Field := ⟨.PWR_START_STATUS, 0, 5, 1, .ro⟩
def PWR_START_STATUS.CAUSE : Field := ⟨.PWR_START_STATUS, 0, 8, 8, .ro⟩
def PWR_START_STATUS.ELAPSED_MS : Field := ⟨.PWR_START_STATUS, 0, 32, 32, .ro⟩
def PWR_STEP_END.MS : Field := ⟨.PWR_STEP_END, 0, 0, 32, .ro⟩
def PWR_EST.POWER : Field := ⟨.PWR_EST, 0, 0, 16, .ro⟩
def PWR_EST.PEAK : Field := ⟨.PWR_EST, 0, 16, 16, .rc⟩
def PWR_DOM.EN : Field := ⟨.PWR_DOM, 0, 0, 1, .rw⟩
def PWR_DOM.STATE : Field := ⟨.PWR_DOM, 0, 2, 2, .ro⟩
def PWR_DOM.REJ : Field := ⟨.PWR_DOM, 0, 4, 1, .w1c⟩
def PWR_DOM.WAKE_FAIL : Field := ⟨.PWR_DOM, 0, 5, 1, .w1c⟩
def PWR_DOM.KIND : Field := ⟨.PWR_DOM, 0, 8, 8, .ro⟩
def PWR_DOM.WAKE_US : Field := ⟨.PWR_DOM, 0, 16, 16, .ro⟩
def PMC_CTRL.FREEZE : Field := ⟨.PMC_CTRL, 0, 0, 1, .rw⟩
def PMC_CTRL.FRZ_OVF : Field := ⟨.PMC_CTRL, 0, 1, 1, .rw⟩
def PMC_CTRL.SNAP : Field := ⟨.PMC_CTRL, 0, 2, 1, .wo⟩
def PMC_CTRL.SNAP_CLR : Field := ⟨.PMC_CTRL, 0, 3, 1, .wo⟩
def PMC_STATUS.SNAP_BUSY : Field := ⟨.PMC_STATUS, 0, 0, 1, .ro⟩
def PMC_STATUS.REJ : Field := ⟨.PMC_STATUS, 0, 1, 1, .w1c⟩
def PMC_STATUS.SNAP_SEQ : Field := ⟨.PMC_STATUS, 0, 32, 32, .ro⟩
def PMC_USER_EN.EN : Field := ⟨.PMC_USER_EN, 0, 0, 64, .rw⟩
def PMC_OVF.OVF : Field := ⟨.PMC_OVF, 0, 0, 64, .w1c⟩
def PMC_SEL.EN : Field := ⟨.PMC_SEL, 0, 0, 1, .rw⟩
def PMC_SEL.CHAIN : Field := ⟨.PMC_SEL, 0, 1, 1, .rw⟩
def PMC_SEL.MODE : Field := ⟨.PMC_SEL, 0, 2, 1, .rw⟩
def PMC_SEL.CMP : Field := ⟨.PMC_SEL, 0, 3, 1, .rw⟩
def PMC_SEL.EVENT : Field := ⟨.PMC_SEL, 0, 8, 8, .rw⟩
def PMC_SEL.INST : Field := ⟨.PMC_SEL, 0, 16, 12, .rw⟩
def PMC_SEL.THRESH : Field := ⟨.PMC_SEL, 0, 32, 24, .rw⟩
def PMC_CHIP_SEL.EN : Field := ⟨.PMC_CHIP_SEL, 0, 0, 1, .rw⟩
def PMC_CHIP_SEL.CHAIN : Field := ⟨.PMC_CHIP_SEL, 0, 1, 1, .rw⟩
def PMC_CHIP_SEL.MODE : Field := ⟨.PMC_CHIP_SEL, 0, 2, 1, .rw⟩
def PMC_CHIP_SEL.CMP : Field := ⟨.PMC_CHIP_SEL, 0, 3, 1, .rw⟩
def PMC_CHIP_SEL.EVENT : Field := ⟨.PMC_CHIP_SEL, 0, 8, 8, .rw⟩
def PMC_CHIP_SEL.INST : Field := ⟨.PMC_CHIP_SEL, 0, 16, 12, .rw⟩
def PMC_CHIP_SEL.THRESH : Field := ⟨.PMC_CHIP_SEL, 0, 32, 24, .rw⟩
def PMC_CNT.COUNT : Field := ⟨.PMC_CNT, 0, 0, 48, .rw⟩
def PMC_CHIP_CNT.COUNT : Field := ⟨.PMC_CHIP_CNT, 0, 0, 48, .rw⟩
def PMC_SNAP.COUNT : Field := ⟨.PMC_SNAP, 0, 0, 48, .ro⟩
def PMC_CHIP_SNAP.COUNT : Field := ⟨.PMC_CHIP_SNAP, 0, 0, 48, .ro⟩
def GLB_PIN_STATUS.RESET_N : Field := ⟨.GLB_PIN_STATUS, 0, 0, 1, .ro⟩
def GLB_PIN_STATUS.PERST_N : Field := ⟨.GLB_PIN_STATUS, 0, 1, 1, .ro⟩
def GLB_PIN_STATUS.ACTIVE_IN : Field := ⟨.GLB_PIN_STATUS, 0, 2, 1, .ro⟩
def GLB_PIN_STATUS.MATE_PRESENT : Field := ⟨.GLB_PIN_STATUS, 0, 3, 1, .ro⟩
def GLB_PIN_STATUS.PPS_IN : Field := ⟨.GLB_PIN_STATUS, 0, 4, 1, .ro⟩
def GLB_PIN_STATUS.UNST_ACTIVE_IN : Field := ⟨.GLB_PIN_STATUS, 0, 8, 1, .w1c⟩
def GLB_PIN_STATUS.UNST_MATE : Field := ⟨.GLB_PIN_STATUS, 0, 9, 1, .w1c⟩
def GLB_PIN_STATUS.UNST_PPS : Field := ⟨.GLB_PIN_STATUS, 0, 10, 1, .w1c⟩
def GLB_PIN_STATUS.PWR_AUTO : Field := ⟨.GLB_PIN_STATUS, 0, 16, 1, .ro⟩
def GLB_PIN_STATUS.SB_ADDR : Field := ⟨.GLB_PIN_STATUS, 0, 17, 2, .ro⟩
def GLB_PIN_GLITCH.RESET_N : Field := ⟨.GLB_PIN_GLITCH, 0, 0, 8, .rc⟩
def GLB_PIN_GLITCH.PERST_N : Field := ⟨.GLB_PIN_GLITCH, 0, 8, 8, .rc⟩
def GLB_PIN_GLITCH.ACTIVE_IN : Field := ⟨.GLB_PIN_GLITCH, 0, 16, 8, .rc⟩
def GLB_PIN_GLITCH.MATE_PRESENT : Field := ⟨.GLB_PIN_GLITCH, 0, 24, 8, .rc⟩
def GLB_PIN_GLITCH.PPS_IN : Field := ⟨.GLB_PIN_GLITCH, 0, 32, 8, .rc⟩
def GLB_PIN_GLITCH.LOOP0 : Field := ⟨.GLB_PIN_GLITCH, 0, 40, 8, .rc⟩
def GLB_PIN_GLITCH.LOOP1 : Field := ⟨.GLB_PIN_GLITCH, 0, 48, 8, .rc⟩
def GLB_AVS.SETPOINT : Field := ⟨.GLB_AVS, 0, 0, 10, .ro⟩
def GLB_AVS.APPLIED : Field := ⟨.GLB_AVS, 0, 10, 10, .ro⟩
def GLB_AVS.FAIL : Field := ⟨.GLB_AVS, 0, 20, 1, .ro⟩
def GLB_THERM.STAGE : Field := ⟨.GLB_THERM, 0, 0, 2, .ro⟩
def GLB_THERM.CHANGED : Field := ⟨.GLB_THERM, 0, 2, 1, .w1c⟩
def GLB_THERM.PEAK_C : Field := ⟨.GLB_THERM, 0, 8, 8, .ro⟩
def GLB_THERM.SEC_85 : Field := ⟨.GLB_THERM, 0, 16, 28, .ro⟩
def GLB_THERM.SEC_105 : Field := ⟨.GLB_THERM, 0, 44, 20, .ro⟩

/-- The fields of a register; a bit in none of them is reserved (RSV). -/
def Reg.fields : Reg → List Field
  | .GLB_REGION_STATUS => [GLB_REGION_STATUS.LEVEL, GLB_REGION_STATUS.ENG_IN, GLB_REGION_STATUS.CORES_OUT, GLB_REGION_STATUS.BELOW_LOAD, GLB_REGION_STATUS.CHANGED,
      GLB_REGION_STATUS.CAP_GBPS, GLB_REGION_STATUS.FRATE]
  | .GLB_UNMAPPED_CNT => [GLB_UNMAPPED_CNT.COUNT]
  | .GLB_UNMAPPED_ADDR => [GLB_UNMAPPED_ADDR.OFFSET, GLB_UNMAPPED_ADDR.WRITE]
  | .TBL_DATA => [TBL_DATA.DATA]
  | .TBL_CMD => [TBL_CMD.OP, TBL_CMD.TARGET, TBL_CMD.INDEX]
  | .TBL_STATUS => [TBL_STATUS.BUSY, TBL_STATUS.DONE, TBL_STATUS.OVERRUN, TBL_STATUS.RESULT, TBL_STATUS.IN_OVF,
      TBL_STATUS.LOC, TBL_STATUS.GEN]
  | .TBL_SEED => [TBL_SEED.SEED, TBL_SEED.REJ]
  | .TBL_OCCUPANCY => [TBL_OCCUPANCY.BUCKET_ENTRIES, TBL_OCCUPANCY.OVF_ENTRIES, TBL_OCCUPANCY.GEN]
  | .TBL_PORTCFG => [TBL_PORTCFG.USE_VID, TBL_PORTCFG.USE_PCP, TBL_PORTCFG.USE_ETC, TBL_PORTCFG.MISS_ACT]
  | .TBL_MISS_CNT => [TBL_MISS_CNT.MISS, TBL_MISS_CNT.SC_OFF]
  | .TBL_ETCLASS => [TBL_ETCLASS.ETYPE, TBL_ETCLASS.VALID]
  | .TBL_SHADOW_BASE => [TBL_SHADOW_BASE.ADDR]
  | .TBL_SHADOW_CTRL => [TBL_SHADOW_CTRL.EN, TBL_SHADOW_CTRL.STATE, TBL_SHADOW_CTRL.RATE, TBL_SHADOW_CTRL.CONFIRM]
  | .TBL_SHADOW_STATUS => [TBL_SHADOW_STATUS.PASS, TBL_SHADOW_STATUS.POS, TBL_SHADOW_STATUS.LOG_COUNT, TBL_SHADOW_STATUS.MISMATCH, TBL_SHADOW_STATUS.DMA_FAULT,
      TBL_SHADOW_STATUS.LOG_CLR, TBL_SHADOW_STATUS.SKIPS]
  | .TBL_SHADOW_LOST => [TBL_SHADOW_LOST.LOST]
  | .TBL_SHADOW_LOG => [TBL_SHADOW_LOG.TYPE, TBL_SHADOW_LOG.ITEM, TBL_SHADOW_LOG.ENTRY, TBL_SHADOW_LOG.WORD, TBL_SHADOW_LOG.PASS,
      TBL_SHADOW_LOG.DIFF]
  | .FEN_POD_CTRL => [FEN_POD_CTRL.EN, FEN_POD_CTRL.STATE, FEN_POD_CTRL.CODE_SET, FEN_POD_CTRL.SET_IN_USE, FEN_POD_CTRL.ENG_MASK]
  | .FEN_MP_ADDR => [FEN_MP_ADDR.ADDR]
  | .FEN_MP_CMD => [FEN_MP_CMD.OP, FEN_MP_CMD.SET, FEN_MP_CMD.SLOT, FEN_MP_CMD.KH]
  | .FEN_MP_STATUS => [FEN_MP_STATUS.BUSY, FEN_MP_STATUS.DONE, FEN_MP_STATUS.RESULT]
  | .FEN_MP_SLOT => [FEN_MP_SLOT.VALID0, FEN_MP_SLOT.VALID1, FEN_MP_SLOT.CUST0, FEN_MP_SLOT.CUST1, FEN_MP_SLOT.FORM0,
      FEN_MP_SLOT.FORM1, FEN_MP_SLOT.VERSION0, FEN_MP_SLOT.VERSION1]
  | .FEN_WDOG => [FEN_WDOG.LIMIT]
  | .FEN_KSA_CTRL => [FEN_KSA_CTRL.EN, FEN_KSA_CTRL.AHEAD, FEN_KSA_CTRL.MAXLEN]
  | .FEN_KSA_CNT => [FEN_KSA_CNT.HIT, FEN_KSA_CNT.WRONG]
  | .FEN_FAULT => [FEN_FAULT.COUNT, FEN_FAULT.CAUSE, FEN_FAULT.ENGINE, FEN_FAULT.SLOT]
  | .FEN_ENG => [FEN_ENG.STATE, FEN_ENG.FENCE, FEN_ENG.RESTORE, FEN_ENG.CORES_IN, FEN_ENG.CAUSE,
      FEN_ENG.PERR]
  | .FEN_KAT_CTRL => [FEN_KAT_CTRL.EN, FEN_KAT_CTRL.PERIOD]
  | .FEN_KAT_STATUS => [FEN_KAT_STATUS.PASSES, FEN_KAT_STATUS.CORE, FEN_KAT_STATUS.FAILS]
  | .SAT_RXPORT_CFG => [SAT_RXPORT_CFG.UNTAGGED_ACT, SAT_RXPORT_CFG.IMPLICIT_EN]
  | .SAT_RXPORT_SCI => [SAT_RXPORT_SCI.SCI]
  | .SAT_RXPORT_CNT => [SAT_RXPORT_CNT.BAD_TAG, SAT_RXPORT_CNT.UNTAGGED]
  | .FAB_CT_CFG => [FAB_CT_CFG.CLASS_EN, FAB_CT_CFG.IDLE_ONLY]
  | .SAT_PN_STATUS => [SAT_PN_STATUS.SOFT_SA, SAT_PN_STATUS.SOFT, SAT_PN_STATUS.EXH, SAT_PN_STATUS.SUCC, SAT_PN_STATUS.EXH_SA,
      SAT_PN_STATUS.SUCC_SA]
  | .SAT_STAT_CMD => [SAT_STAT_CMD.SA, SAT_STAT_CMD.CLEAR]
  | .SAT_STAT_STATUS => [SAT_STAT_STATUS.BUSY, SAT_STAT_STATUS.DIR, SAT_STAT_STATUS.ERR, SAT_STAT_STATUS.SA]
  | .SAT_TXSTAT => [SAT_TXSTAT.PROTECTED, SAT_TXSTAT.ENCRYPTED, SAT_TXSTAT.OCTETS_PROT, SAT_TXSTAT.OCTETS_ENC, SAT_TXSTAT.PN_SKIPPED,
      SAT_TXSTAT.STOMPED, SAT_TXSTAT.HELD_DROP, SAT_TXSTAT.TOO_LONG]
  | .SAT_RXSTAT => [SAT_RXSTAT.OK, SAT_RXSTAT.ICV_FAIL, SAT_RXSTAT.LATE, SAT_RXSTAT.DELAYED, SAT_RXSTAT.NOT_USING_SA,
      SAT_RXSTAT.OCTETS_VALID, SAT_RXSTAT.OCTETS_DEC, SAT_RXSTAT.EARLY_STOMP]
  | .SAT_DEUCE_CFG => [SAT_DEUCE_CFG.WINDOW, SAT_DEUCE_CFG.IDLE]
  | .KFR_KEYSW => [KFR_KEYSW.TX_CUR, KFR_KEYSW.TX_NEXT, KFR_KEYSW.TX_COUNT, KFR_KEYSW.TX_PEND, KFR_KEYSW.CANCELLED,
      KFR_KEYSW.SWITCHED, KFR_KEYSW.RX_CUR, KFR_KEYSW.RX_NEXT, KFR_KEYSW.RX_COUNT, KFR_KEYSW.KCM,
      KFR_KEYSW.KCM_CAUSE]
  | .GLB_AGT_CTRL => [GLB_AGT_CTRL.EN, GLB_AGT_CTRL.REKEY, GLB_AGT_CTRL.STATE, GLB_AGT_CTRL.RING, GLB_AGT_CTRL.REKEY_S]
  | .GLB_AGT_PORT => [GLB_AGT_PORT.EN, GLB_AGT_PORT.LIVE, GLB_AGT_PORT.ROLE, GLB_AGT_PORT.KS_PRIORITY, GLB_AGT_PORT.SUITE,
      GLB_AGT_PORT.TX_SC, GLB_AGT_PORT.RX_SC, GLB_AGT_PORT.CAK_SLOT, GLB_AGT_PORT.CKN_LEN]
  | .GLB_AGT_CKN => [GLB_AGT_CKN.CKN0, GLB_AGT_CKN.CKN1, GLB_AGT_CKN.CKN2, GLB_AGT_CKN.CKN3]
  | .KFR_CFG => [KFR_CFG.RATE, KFR_CFG.TEST_CLEAR, KFR_CFG.FRAG_LEN]
  | .KFR_ALIGN => [KFR_ALIGN.FSTATE, KFR_ALIGN.FN, KFR_ALIGN.BAD, KFR_ALIGN.FALSE_CAND, KFR_ALIGN.OOF_CNT]
  | .KFR_EC_STAT => [KFR_EC_STAT.K_BAD, KFR_EC_STAT.T_BAD, KFR_EC_STAT.A_BAD, KFR_EC_STAT.KEYLESS]
  | .KFR_TRIB => [KFR_TRIB.EN, KFR_TRIB.STATE, KFR_TRIB.TYPE, KFR_TRIB.EXP_PACK, KFR_TRIB.START,
      KFR_TRIB.ALLOT, KFR_TRIB.FIXED, KFR_TRIB.CLIENT_PORT, KFR_TRIB.LABEL_TX, KFR_TRIB.LABEL_RX]
  | .KFR_TRIB_STAT => [KFR_TRIB_STAT.INC_TX, KFR_TRIB_STAT.DEC_TX, KFR_TRIB_STAT.ERR_RX, KFR_TRIB_STAT.PTR_RX]
  | .KFR_TTI_TX => [KFR_TTI_TX.TTI]
  | .FAB_PG_CFG => [FAB_PG_CFG.EN, FAB_PG_CFG.STATE, FAB_PG_CFG.W_PORT, FAB_PG_CFG.P_PORT, FAB_PG_CFG.REVERT,
      FAB_PG_CFG.SD_EN, FAB_PG_CFG.WTR_MIN, FAB_PG_CFG.CMD]
  | .FAB_PG_STATUS => [FAB_PG_STATUS.SEL, FAB_PG_STATUS.UNUSE_W, FAB_PG_STATUS.UNUSE_P, FAB_PG_STATUS.DEG_W, FAB_PG_STATUS.DEG_P,
      FAB_PG_STATUS.WTR, FAB_PG_STATUS.SWITCHED, FAB_PG_STATUS.MISMATCH, FAB_PG_STATUS.REQ, FAB_PG_STATUS.WTR_LEFT,
      FAB_PG_STATUS.SWITCHES]
  | .KFR_MON_CFG => [KFR_MON_CFG.TIM_EN, KFR_MON_CFG.TIM_ACT, KFR_MON_CFG.AIS_FORCE, KFR_MON_CFG.TIM_LEN, KFR_MON_CFG.DEG_M,
      KFR_MON_CFG.DEG_THR]
  | .KFR_DEFECT => [KFR_DEFECT.RAW, KFR_DEFECT.RDI_RX, KFR_DEFECT.SF, KFR_DEFECT.SD, KFR_DEFECT.CHANGED,
      KFR_DEFECT.DECL, KFR_DEFECT.PLM]
  | .KFR_PM_SNAP => [KFR_PM_SNAP.BIP_NE, KFR_PM_SNAP.BIP_FE, KFR_PM_SNAP.FEC_CORR, KFR_PM_SNAP.FEC_UNCORR, KFR_PM_SNAP.AUTH_FAIL,
      KFR_PM_SNAP.REPLAY, KFR_PM_SNAP.STUFF_RX, KFR_PM_SNAP.STUFF_TX, KFR_PM_SNAP.ACCEPTED, KFR_PM_SNAP.DEF_SEC,
      KFR_PM_SNAP.RDI_SEC, KFR_PM_SNAP.SECOND, KFR_PM_SNAP.SEQ, KFR_PM_SNAP.TB_VALID]
  | .KFR_TTI_EXP => [KFR_TTI_EXP.TTI]
  | .KFR_TTI_RX => [KFR_TTI_RX.TTI]
  | .MTL_LANE_STATUS => [MTL_LANE_STATUS.BSTATE, MTL_LANE_STATUS.SIG, MTL_LANE_STATUS.FAIL_CAUSE, MTL_LANE_STATUS.FALLBACKS]
  | .CPX_CFG => [CPX_CFG.PMODE, CPX_CFG.FENCED]
  | .LPX_CFG => [LPX_CFG.PMODE, LPX_CFG.FENCED]
  | .CPX_PORT_CTRL => [CPX_PORT_CTRL.EN, CPX_PORT_CTRL.STATE, CPX_PORT_CTRL.KRAOW, CPX_PORT_CTRL.HUD_EN, CPX_PORT_CTRL.EXPRESS,
      CPX_PORT_CTRL.BT_USE, CPX_PORT_CTRL.PREEMPT_EN, CPX_PORT_CTRL.VERIFY_DIS, CPX_PORT_CTRL.ADD_FRAG, CPX_PORT_CTRL.LOOP,
      CPX_PORT_CTRL.TX_SQUELCH, CPX_PORT_CTRL.PFC_TX, CPX_PORT_CTRL.PFC_RX, CPX_PORT_CTRL.MAX_FRAME]
  | .LPX_PORT_CTRL => [LPX_PORT_CTRL.EN, LPX_PORT_CTRL.STATE, LPX_PORT_CTRL.KRAOW, LPX_PORT_CTRL.HUD_EN, LPX_PORT_CTRL.EXPRESS,
      LPX_PORT_CTRL.BT_USE, LPX_PORT_CTRL.PREEMPT_EN, LPX_PORT_CTRL.VERIFY_DIS, LPX_PORT_CTRL.ADD_FRAG, LPX_PORT_CTRL.LOOP,
      LPX_PORT_CTRL.TX_SQUELCH, LPX_PORT_CTRL.PFC_TX, LPX_PORT_CTRL.PFC_RX, LPX_PORT_CTRL.MAX_FRAME]
  | .CPX_PORT_STATUS => [CPX_PORT_STATUS.BSTATE, CPX_PORT_STATUS.LF_RF, CPX_PORT_STATUS.FAIL_CAUSE, CPX_PORT_STATUS.PE, CPX_PORT_STATUS.FALLBACKS,
      CPX_PORT_STATUS.RUNT, CPX_PORT_STATUS.OVERSIZE, CPX_PORT_STATUS.CTL_DROP]
  | .LPX_PORT_STATUS => [LPX_PORT_STATUS.BSTATE, LPX_PORT_STATUS.LF_RF, LPX_PORT_STATUS.FAIL_CAUSE, LPX_PORT_STATUS.PE, LPX_PORT_STATUS.FALLBACKS,
      LPX_PORT_STATUS.RUNT, LPX_PORT_STATUS.OVERSIZE, LPX_PORT_STATUS.CTL_DROP]
  | .LNS_BRING_CFG => [LNS_BRING_CFG.TRAIN_MS, LNS_BRING_CFG.LOCK_MS, LNS_BRING_CFG.HOLD_MS, LNS_BRING_CFG.FAIL_EVT]
  | .LNS_HUD_CFG => [LNS_HUD_CFG.HUD_DA, LNS_HUD_CFG.HUD_MS]
  | .LNS_LANE => [LNS_LANE.SIG, LNS_LANE.BIT_LOCK, LNS_LANE.BLOCK_LOCK, LNS_LANE.RETIRED, LNS_LANE.RESTORE,
      LNS_LANE.PRBS_GEN, LNS_LANE.PRBS_CHK, LNS_LANE.PRBS_LOCK]
  | .LNS_PRBS_ERR => [LNS_PRBS_ERR.ERRORS]
  | .LNS_EYE => [LNS_EYE.EH_UPPER, LNS_EYE.EH_MID, LNS_EYE.EH_LOWER, LNS_EYE.EW, LNS_EYE.SNR]
  | .LNS_HUD_PEER => [LNS_HUD_PEER.MODE, LNS_HUD_PEER.RATE, LNS_HUD_PEER.CAPS, LNS_HUD_PEER.MAX_FRAME, LNS_HUD_PEER.PORT,
      LNS_HUD_PEER.PAIR_ID]
  | .LET_TIMING => [LET_TIMING.ACK_US, LET_TIMING.ACK_FRAMES, LET_TIMING.HELLO_US, LET_TIMING.ACK_TMO_MS]
  | .LET_CTL_DA => [LET_CTL_DA.DA]
  | .LET_STREAM_CFG => [LET_STREAM_CFG.EN, LET_STREAM_CFG.STATE, LET_STREAM_CFG.VOLLEY, LET_STREAM_CFG.RETAIN, LET_STREAM_CFG.POLICY,
      LET_STREAM_CFG.CLIENT_PORT, LET_STREAM_CFG.CLASS, LET_STREAM_CFG.PORT_W, LET_STREAM_CFG.PORT_P, LET_STREAM_CFG.WINDOW,
      LET_STREAM_CFG.REPLAY_PCT]
  | .LET_STREAM_SC => [LET_STREAM_SC.SC_W, LET_STREAM_SC.SC_P, LET_STREAM_SC.RPL_W, LET_STREAM_SC.RPL_P]
  | .LET_STREAM_RXSC => [LET_STREAM_RXSC.RX_W, LET_STREAM_RXSC.RX_P, LET_STREAM_RXSC.RX_RPL_W, LET_STREAM_RXSC.RX_RPL_P]
  | .LET_STREAM_AUX => [LET_STREAM_AUX.QUEUE, LET_STREAM_AUX.SKEW_MS, LET_STREAM_AUX.LOSS_MS]
  | .LET_STREAM_STATUS => [LET_STREAM_STATUS.NEXT, LET_STREAM_STATUS.CUM, LET_STREAM_STATUS.RX_NEXT, LET_STREAM_STATUS.RETAINED, LET_STREAM_STATUS.MODE,
      LET_STREAM_STATUS.FULL, LET_STREAM_STATUS.LOSSY, LET_STREAM_STATUS.SUSPENDED, LET_STREAM_STATUS.RESUME, LET_STREAM_STATUS.WAITING,
      LET_STREAM_STATUS.LINKED, LET_STREAM_STATUS.INSTANCE]
  | .LET_CNT => [LET_CNT.RETAINED_FR, LET_CNT.REPLAYED, LET_CNT.DELIVERED, LET_CNT.DUP, LET_CNT.LOSS,
      LET_CNT.NAK_TX, LET_CNT.REJECTED, LET_CNT.SINGLE]
  | .MTL_PAIR_CFG => [MTL_PAIR_CFG.EN, MTL_PAIR_CFG.STATE, MTL_PAIR_CFG.PREFER, MTL_PAIR_CFG.PTK_SLOT, MTL_PAIR_CFG.LIB_KAT_MS]
  | .MTL_PAIR_CMD => [MTL_PAIR_CMD.OP, MTL_PAIR_CMD.FORCE]
  | .MTL_PAIR_STATUS => [MTL_PAIR_STATUS.ROLE, MTL_PAIR_STATUS.STALE, MTL_PAIR_STATUS.ACTIVE_IN, MTL_PAIR_STATUS.MATE_PRESENT, MTL_PAIR_STATUS.ACTIVE_OUT,
      MTL_PAIR_STATUS.CHANGED, MTL_PAIR_STATUS.UNREADY, MTL_PAIR_STATUS.OOS, MTL_PAIR_STATUS.TAKEOVERS]
  | .MTL_PAIR_ID => [MTL_PAIR_ID.PAIR_ID]
  | .MTL_RALLY_CNT => [MTL_RALLY_CNT.MISSED, MTL_RALLY_CNT.BAD]
  | .MTL_LEASE_CNT => [MTL_LEASE_CNT.WAITS, MTL_LEASE_CNT.SKIPS]
  | .MTL_LIB_CNT => [MTL_LIB_CNT.TX_DROP, MTL_LIB_CNT.ANCHOR_MISS]
  | .FAB_WRR_CFG => [FAB_WRR_CFG.WEIGHT]
  | .FAB_DRR_CFG => [FAB_DRR_CFG.QUANTUM]
  | .FAB_BUF_STATUS => [FAB_BUF_STATUS.FREE, FAB_BUF_STATUS.POOL_FREE, FAB_BUF_STATUS.GUAR, FAB_BUF_STATUS.HDRM_RSV, FAB_BUF_STATUS.COMPL_RSV,
      FAB_BUF_STATUS.REJ, FAB_BUF_STATUS.CHUNKS_FREE]
  | .FAB_DROP_CNT => [FAB_DROP_CNT.ING, FAB_DROP_CNT.HDRM, FAB_DROP_CNT.EGRESS, FAB_DROP_CNT.PORT_DOWN, FAB_DROP_CNT.NO_QUEUE,
      FAB_DROP_CNT.MIRROR]
  | .FAB_ING_CFG => [FAB_ING_CFG.MIN, FAB_ING_CFG.MAX, FAB_ING_CFG.XOFF, FAB_ING_CFG.HDRM, FAB_ING_CFG.HYST]
  | .FAB_ING_PORT => [FAB_ING_PORT.PORT_MAX]
  | .QMG_QCFG => [QMG_QCFG.EN, QMG_QCFG.STATE, QMG_QCFG.ROLE, QMG_QCFG.SPILL_EN, QMG_QCFG.OWNER,
      QMG_QCFG.CLASS, QMG_QCFG.LOSSLESS, QMG_QCFG.MIN, QMG_QCFG.QMAX, QMG_QCFG.SPILL_CELLS]
  | .QMG_QSTAT => [QMG_QSTAT.CELLS, QMG_QSTAT.HEAD, QMG_QSTAT.TAIL, QMG_QSTAT.CHUNKS, QMG_QSTAT.FLUSHING,
      QMG_QSTAT.DROPS, QMG_QSTAT.FLUSHED]
  | .QMG_ECC => [QMG_ECC.CORR, QMG_ECC.UNCORR, QMG_ECC.RETIRED]
  | .QMG_AUDIT_CTRL => [QMG_AUDIT_CTRL.EN, QMG_AUDIT_CTRL.STATE, QMG_AUDIT_CTRL.RATE]
  | .QMG_AUDIT_STATUS => [QMG_AUDIT_STATUS.PASS, QMG_AUDIT_STATUS.RECLAIMED, QMG_AUDIT_STATUS.LOG_COUNT, QMG_AUDIT_STATUS.ORPHAN, QMG_AUDIT_STATUS.LOG_CLR]
  | .QMG_AUDIT_LOG => [QMG_AUDIT_LOG.REGION, QMG_AUDIT_LOG.KIND, QMG_AUDIT_LOG.INDEX, QMG_AUDIT_LOG.OWNER, QMG_AUDIT_LOG.PASS]
  | .SCH_QSHAPE => [SCH_QSHAPE.RATE, SCH_QSHAPE.BURST, SCH_QSHAPE.LAT_EN]
  | .SCH_QCREDIT => [SCH_QCREDIT.CREDIT]
  | .SCH_PORT_CFG => [SCH_PORT_CFG.OVH]
  | .SCH_PORT_QUANTUM => [SCH_PORT_QUANTUM.Q]
  | .SCH_METER => [SCH_METER.EN, SCH_METER.MODE, SCH_METER.AWARE, SCH_METER.ADD_IFG, SCH_METER.ACT_G,
      SCH_METER.ACT_Y, SCH_METER.ACT_R, SCH_METER.CIR, SCH_METER.PIR, SCH_METER.CBS,
      SCH_METER.EBS_PBS]
  | .SCH_METER_CNT => [SCH_METER_CNT.GREEN, SCH_METER_CNT.YELLOW, SCH_METER_CNT.RED, SCH_METER_CNT.DROPPED]
  | .SCH_LAT_CFG => [SCH_LAT_CFG.INTERVAL_US, SCH_LAT_CFG.EN]
  | .SCH_LAT_HCFG => [SCH_LAT_HCFG.BIN_NS, SCH_LAT_HCFG.SCALE]
  | .SCH_LAT_CMD => [SCH_LAT_CMD.INDEX, SCH_LAT_CMD.OP, SCH_LAT_CMD.CLEAR]
  | .SCH_LAT_STATUS => [SCH_LAT_STATUS.BUSY, SCH_LAT_STATUS.KIND, SCH_LAT_STATUS.INDEX, SCH_LAT_STATUS.STEP_DISC]
  | .SCH_LAT_SNAP => [SCH_LAT_SNAP.DEPTH_MIN, SCH_LAT_SNAP.DEPTH_MAX, SCH_LAT_SNAP.DEPTH_MEAN, SCH_LAT_SNAP.DEPTH_N, SCH_LAT_SNAP.DELAY_MIN,
      SCH_LAT_SNAP.DELAY_MAX, SCH_LAT_SNAP.DELAY_MEAN, SCH_LAT_SNAP.DELAY_N]
  | .SCH_LAT_HIST => [SCH_LAT_HIST.BIN0, SCH_LAT_HIST.BIN2, SCH_LAT_HIST.BIN4, SCH_LAT_HIST.BIN6, SCH_LAT_HIST.BIN8,
      SCH_LAT_HIST.BIN10, SCH_LAT_HIST.BIN12, SCH_LAT_HIST.BIN14, SCH_LAT_HIST.BIN1, SCH_LAT_HIST.BIN3,
      SCH_LAT_HIST.BIN5, SCH_LAT_HIST.BIN7, SCH_LAT_HIST.BIN9, SCH_LAT_HIST.BIN11, SCH_LAT_HIST.BIN13,
      SCH_LAT_HIST.BIN15]
  | .DMC_PART => [DMC_PART.STATE_U, DMC_PART.MARROW_U, DMC_PART.REORDER_U, DMC_PART.LET_U]
  | .DMC_SCRUB_CFG => [DMC_SCRUB_CFG.PATROL_EN, DMC_SCRUB_CFG.TEST_EN, DMC_SCRUB_CFG.SCRUB_H, DMC_SCRUB_CFG.TEST_H]
  | .DMC_STACK_STATUS => [DMC_STACK_STATUS.PC_IN, DMC_STACK_STATUS.FENCED, DMC_STACK_STATUS.CHANGED, DMC_STACK_STATUS.SCRUB_PASS, DMC_STACK_STATUS.TEST_PASS]
  | .DMC_PC => [DMC_PC.RETIRED, DMC_PC.CORR, DMC_PC.UNCORR, DMC_PC.SPPR, DMC_PC.SPARES,
      DMC_PC.CAUSE]
  | .DMC_CAP => [DMC_CAP.LET_MIB, DMC_CAP.REORDER_MIB, DMC_CAP.MARROW_CHUNKS]
  | .IME_RKEY_CTRL => [IME_RKEY_CTRL.EN, IME_RKEY_CTRL.STATE, IME_RKEY_CTRL.SPLIT, IME_RKEY_CTRL.DONE, IME_RKEY_CTRL.RATE,
      IME_RKEY_CTRL.KEYSEL]
  | .IME_RANGE_EPOCH => [IME_RANGE_EPOCH.EPOCH]
  | .IME_RANGE_BOUND => [IME_RANGE_BOUND.BOUND, IME_RANGE_BOUND.PCT]
  | .IME_STATUS => [IME_STATUS.POISONED, IME_STATUS.TAG_FAIL, IME_STATUS.PARTIAL_REF]
  | .IME_POISON_ADDR => [IME_POISON_ADDR.ADDR, IME_POISON_ADDR.CAUSE]
  | .SRB_BANK => [SRB_BANK.MASTER, SRB_BANK.PSTATE, SRB_BANK.PREQ, SRB_BANK.FENCED, SRB_BANK.REJ,
      SRB_BANK.TILES_IN, SRB_BANK.SPARE_TILES, SRB_BANK.CORR, SRB_BANK.UNCORR]
  | .SRB_CHIP_BANK => [SRB_CHIP_BANK.MASTER, SRB_CHIP_BANK.PSTATE, SRB_CHIP_BANK.PREQ, SRB_CHIP_BANK.FENCED, SRB_CHIP_BANK.REJ,
      SRB_CHIP_BANK.TILES_IN, SRB_CHIP_BANK.SPARE_TILES, SRB_CHIP_BANK.CORR, SRB_CHIP_BANK.UNCORR]
  | .SRB_CONFLICT => [SRB_CONFLICT.CYCLES]
  | .SRB_CHIP_CONFLICT => [SRB_CHIP_CONFLICT.CYCLES]
  | .SRB_TEST_CFG => [SRB_TEST_CFG.EN, SRB_TEST_CFG.STATE, SRB_TEST_CFG.GAP_MS]
  | .SRB_TEST_STATUS => [SRB_TEST_STATUS.PASSES, SRB_TEST_STATUS.POS, SRB_TEST_STATUS.REPAIRS, SRB_TEST_STATUS.FAILS]
  | .SRB_WIPE_STATUS => [SRB_WIPE_STATUS.WIPES, SRB_WIPE_STATUS.CAUSE, SRB_WIPE_STATUS.VERIFY_FAIL]
  | .KST_KEYDATA => [KST_KEYDATA.DATA]
  | .KST_SALT => [KST_SALT.SALT_LO, KST_SALT.SALT_HI]
  | .KST_ATTR => [KST_ATTR.PURPOSE, KST_ATTR.DIR, KST_ATTR.LEN, KST_ATTR.VOLATILE, KST_ATTR.LIMIT_EN,
      KST_ATTR.USE_LIMIT]
  | .KST_CMD => [KST_CMD.OP, KST_CMD.PART, KST_CMD.KH]
  | .KST_STATUS => [KST_STATUS.BUSY, KST_STATUS.DONE, KST_STATUS.OVERRUN, KST_STATUS.COMMITTED, KST_STATUS.RESULT,
      KST_STATUS.KH]
  | .KST_INFO => [KST_INFO.FULL, KST_INFO.USABLE, KST_INFO.PURPOSE, KST_INFO.DIR, KST_INFO.LEN,
      KST_INFO.VOLATILE, KST_INFO.LIMIT_EN, KST_INFO.COMMITTED, KST_INFO.CAUSE, KST_INFO.KCV,
      KST_INFO.GEN, KST_INFO.REMAIN]
  | .KST_CTRL => [KST_CTRL.PF0_KEYWR, KST_CTRL.DRBG_FAIL]
  | .LCM_STATE => [LCM_STATE.STATE, LCM_STATE.ROOT_B, LCM_STATE.ROOT_FAIL, LCM_STATE.CKH_USED]
  | .LCM_DEVICE_ID => [LCM_DEVICE_ID.DEVICE_ID]
  | .LCM_CHALLENGE => [LCM_CHALLENGE.NONCE]
  | .LCM_TOKEN_ADDR => [LCM_TOKEN_ADDR.ADDR]
  | .LCM_CMD => [LCM_CMD.OP, LCM_CMD.CONFIRM]
  | .LCM_STATUS => [LCM_STATUS.BUSY, LCM_STATUS.DONE, LCM_STATUS.RESULT]
  | .NVJ_BOOT => [NVJ_BOOT.PIN, NVJ_BOOT.LOADED, NVJ_BOOT.FALLBACK, NVJ_BOOT.BAD_A, NVJ_BOOT.BAD_B,
      NVJ_BOOT.RES_A, NVJ_BOOT.RES_B, NVJ_BOOT.SEQ]
  | .NVJ_IMG_ADDR => [NVJ_IMG_ADDR.ADDR]
  | .NVJ_IMG_CMD => [NVJ_IMG_CMD.OP, NVJ_IMG_CMD.SLOT, NVJ_IMG_CMD.OFFSET, NVJ_IMG_CMD.PAGES]
  | .NVJ_IMG_STATUS => [NVJ_IMG_STATUS.BUSY, NVJ_IMG_STATUS.DONE, NVJ_IMG_STATUS.RESULT, NVJ_IMG_STATUS.PROGRESS]
  | .NVJ_JCTRL => [NVJ_JCTRL.BSK_MODE, NVJ_JCTRL.OP, NVJ_JCTRL.RECORDS, NVJ_JCTRL.CONFIRM]
  | .NVJ_JSTATUS => [NVJ_JSTATUS.ACTIVE, NVJ_JSTATUS.BUSY, NVJ_JSTATUS.COMPACTING, NVJ_JSTATUS.READ_ONLY, NVJ_JSTATUS.CORRUPT,
      NVJ_JSTATUS.DONE, NVJ_JSTATUS.RESULT, NVJ_JSTATUS.FILL, NVJ_JSTATUS.SPARES0, NVJ_JSTATUS.SPARES1,
      NVJ_JSTATUS.MAX_ERASE]
  | .NVJ_REPLAY => [NVJ_REPLAY.APPLIED, NVJ_REPLAY.IGNORED, NVJ_REPLAY.AUTH_FAIL, NVJ_REPLAY.FOREIGN]
  | .TMB_CTRL => [TMB_CTRL.EN, TMB_CTRL.SRC, TMB_CTRL.REC_PORT]
  | .TMB_STATUS => [TMB_STATUS.RUNNING, TMB_STATUS.STEP_USED, TMB_STATUS.STEP_WAIT, TMB_STATUS.HOLDOVER, TMB_STATUS.SLEWING,
      TMB_STATUS.OWNED, TMB_STATUS.STEP_REJ, TMB_STATUS.STEPPED]
  | .TMB_TIME => [TMB_TIME.FRAC, TMB_TIME.NS, TMB_TIME.SEC]
  | .TMB_RATE => [TMB_RATE.RATE]
  | .TMB_STEP => [TMB_STEP.NS, TMB_STEP.SEC]
  | .TMB_STEP_CMD => [TMB_STEP_CMD.OP]
  | .TMB_SLEW => [TMB_SLEW.OFFSET, TMB_SLEW.SLEW_PPB]
  | .TMB_SLEW_LEFT => [TMB_SLEW_LEFT.LEFT]
  | .TMB_PPS_CFG => [TMB_PPS_CFG.WIN_EN, TMB_PPS_CFG.OUT_EN, TMB_PPS_CFG.OUT_WIDTH, TMB_PPS_CFG.OUT_OFS]
  | .TMB_PPS_IN => [TMB_PPS_IN.FRAC, TMB_PPS_IN.NS, TMB_PPS_IN.SEC]
  | .TMB_CNT => [TMB_CNT.PPS_ACCEPTED, TMB_CNT.PPS_REJECTED, TMB_CNT.LATE, TMB_CNT.STEP_REFUSED]
  | .TMB_PORT => [TMB_PORT.RX_TS, TMB_PORT.TS_EN, TMB_PORT.TT_ROLE, TMB_PORT.TT_SHIFT, TMB_PORT.LEAD_NS,
      TMB_PORT.TX_OFS, TMB_PORT.RX_OFS]
  | .TMB_PORT_FIXED => [TMB_PORT_FIXED.TX_FIXED]
  | .TMB_TT_RESULT => [TMB_TT_RESULT.OFFSET, TMB_TT_RESULT.DELAY, TMB_TT_RESULT.SAMPLES, TMB_TT_RESULT.VALID, TMB_TT_RESULT.FC]
  | .TMP_CTRL => [TMP_CTRL.LOCK, TMP_CTRL.ZEROISE, TMP_CTRL.TEMP_HIGH, TMP_CTRL.TEMP_LOW]
  | .TMP_RESP => [TMP_RESP.RESP0, TMP_RESP.RESP1, TMP_RESP.RESP2, TMP_RESP.RESP3, TMP_RESP.RESP4,
      TMP_RESP.RESP5, TMP_RESP.RESP6, TMP_RESP.RESP7, TMP_RESP.RESP8, TMP_RESP.RESP9,
      TMP_RESP.RESP10, TMP_RESP.RESP11, TMP_RESP.RESP12, TMP_RESP.RESP13, TMP_RESP.RESP14,
      TMP_RESP.RESP15]
  | .TMP_STATUS => [TMP_STATUS.FIRST, TMP_STATUS.LAST_RESP, TMP_STATUS.TAMPER_RECORDED, TMP_STATUS.REJ, TMP_STATUS.HOLD,
      TMP_STATUS.HOLD_CAUSE, TMP_STATUS.TAMPER_STARTS, TMP_STATUS.STARTS]
  | .TMP_ALARM => [TMP_ALARM.SRC, TMP_ALARM.SOFTWARE, TMP_ALARM.SIDEBAND]
  | .TMP_RAW => [TMP_RAW.COND]
  | .TMP_TEMP => [TMP_TEMP.TEMP0, TMP_TEMP.TEMP1]
  | .TMP_VOLT => [TMP_VOLT.RAIL0, TMP_VOLT.RAIL1, TMP_VOLT.RAIL2, TMP_VOLT.RAIL3, TMP_VOLT.RAIL4,
      TMP_VOLT.RAIL5]
  | .TMP_AOLOG_STATUS => [TMP_AOLOG_STATUS.COUNT, TMP_AOLOG_STATUS.CLR, TMP_AOLOG_STATUS.TOTAL]
  | .TMP_ACLK => [TMP_ACLK.COUNT]
  | .TMP_AOLOG => [TMP_AOLOG.SOURCE, TMP_AOLOG.RESPONSE, TMP_AOLOG.PSTATE, TMP_AOLOG.LC, TMP_AOLOG.BSK_ERASED,
      TMP_AOLOG.ACLK, TMP_AOLOG.STARTS]
  | .GLB_OWNER => [GLB_OWNER.OWNER, GLB_OWNER.REQ, GLB_OWNER.FORCED, GLB_OWNER.OP, GLB_OWNER.FORCE_TMO_MS,
      GLB_OWNER.DISCARDS]
  | .GLB_FRESET => [GLB_FRESET.TYPE, GLB_FRESET.INDEX]
  | .GLB_FRESET_STATUS => [GLB_FRESET_STATUS.BUSY, GLB_FRESET_STATUS.DONE, GLB_FRESET_STATUS.TIMEOUT, GLB_FRESET_STATUS.TYPE, GLB_FRESET_STATUS.INDEX]
  | .GLB_RESET => [GLB_RESET.OP, GLB_RESET.PC_FAIL, GLB_RESET.CONFIRM]
  | .HIF_RING_BASE => [HIF_RING_BASE.ADDR]
  | .HIF_RING_CFG => [HIF_RING_CFG.EN, HIF_RING_CFG.STATE, HIF_RING_CFG.SIZE, HIF_RING_CFG.BUF, HIF_RING_CFG.QUEUE,
      HIF_RING_CFG.COAL_N, HIF_RING_CFG.COAL_US]
  | .HIF_RING_STAT => [HIF_RING_STAT.FRAMES, HIF_RING_STAT.ERRORS, HIF_RING_STAT.STALLS]
  | .HIF_DMA_CFG => [HIF_DMA_CFG.PRI_TMO_MS]
  | .HIF_DMA_STATUS => [HIF_DMA_STATUS.PRI_OFF0, HIF_DMA_STATUS.PRI_OFF1, HIF_DMA_STATUS.PRI_REQ, HIF_DMA_STATUS.PRI_FAIL, HIF_DMA_STATUS.HOST_ERR]
  | .HIF_MBOX_ADDR => [HIF_MBOX_ADDR.ADDR]
  | .HIF_MBOX_CTRL => [HIF_MBOX_CTRL.GO, HIF_MBOX_CTRL.BUSY, HIF_MBOX_CTRL.DONE, HIF_MBOX_CTRL.RESULT, HIF_MBOX_CTRL.REQ_LEN,
      HIF_MBOX_CTRL.RSP_LEN]
  | .HIF_IDKEY => [HIF_IDKEY.KEY]
  | .EVT_SRC => [EVT_SRC.STATUS, EVT_SRC.MASK, EVT_SRC.RING, EVT_SRC.LOG, EVT_SRC.VECTOR,
      EVT_SRC.COUNT]
  | .EVT_RING_BASE => [EVT_RING_BASE.ADDR]
  | .EVT_RING_CFG => [EVT_RING_CFG.EN, EVT_RING_CFG.STATE, EVT_RING_CFG.SIZE]
  | .EVT_RING_HEAD => [EVT_RING_HEAD.HEAD]
  | .EVT_RING_STATUS => [EVT_RING_STATUS.TAIL, EVT_RING_STATUS.OVERFLOW, EVT_RING_STATUS.LOST]
  | .SBM_STATUS => [SBM_STATUS.MODE, SBM_STATUS.STATIC_ADDR, SBM_STATUS.DYN_ADDR, SBM_STATUS.ALERT, SBM_STATUS.COMMANDS,
      SBM_STATUS.ERRORS]
  | .SBM_ALERT_MASK => [SBM_ALERT_MASK.SRC]
  | .PWR_STATE => [PWR_STATE.STATE, PWR_STATE.MAIN_EN, PWR_STATE.PG, PWR_STATE.AUTO_ON, PWR_STATE.TRANSIT]
  | .PWR_CTRL => [PWR_CTRL.OP, PWR_CTRL.CONFIRM]
  | .PWR_START_STATUS => [PWR_START_STATUS.STEP, PWR_START_STATUS.STOPPED, PWR_START_STATUS.TRAFFIC, PWR_START_STATUS.CAUSE, PWR_START_STATUS.ELAPSED_MS]
  | .PWR_STEP_END => [PWR_STEP_END.MS]
  | .PWR_EST => [PWR_EST.POWER, PWR_EST.PEAK]
  | .PWR_DOM => [PWR_DOM.EN, PWR_DOM.STATE, PWR_DOM.REJ, PWR_DOM.WAKE_FAIL, PWR_DOM.KIND,
      PWR_DOM.WAKE_US]
  | .PMC_CTRL => [PMC_CTRL.FREEZE, PMC_CTRL.FRZ_OVF, PMC_CTRL.SNAP, PMC_CTRL.SNAP_CLR]
  | .PMC_STATUS => [PMC_STATUS.SNAP_BUSY, PMC_STATUS.REJ, PMC_STATUS.SNAP_SEQ]
  | .PMC_USER_EN => [PMC_USER_EN.EN]
  | .PMC_OVF => [PMC_OVF.OVF]
  | .PMC_SEL => [PMC_SEL.EN, PMC_SEL.CHAIN, PMC_SEL.MODE, PMC_SEL.CMP, PMC_SEL.EVENT,
      PMC_SEL.INST, PMC_SEL.THRESH]
  | .PMC_CHIP_SEL => [PMC_CHIP_SEL.EN, PMC_CHIP_SEL.CHAIN, PMC_CHIP_SEL.MODE, PMC_CHIP_SEL.CMP, PMC_CHIP_SEL.EVENT,
      PMC_CHIP_SEL.INST, PMC_CHIP_SEL.THRESH]
  | .PMC_CNT => [PMC_CNT.COUNT]
  | .PMC_CHIP_CNT => [PMC_CHIP_CNT.COUNT]
  | .PMC_SNAP => [PMC_SNAP.COUNT]
  | .PMC_CHIP_SNAP => [PMC_CHIP_SNAP.COUNT]
  | .GLB_PIN_STATUS => [GLB_PIN_STATUS.RESET_N, GLB_PIN_STATUS.PERST_N, GLB_PIN_STATUS.ACTIVE_IN, GLB_PIN_STATUS.MATE_PRESENT, GLB_PIN_STATUS.PPS_IN,
      GLB_PIN_STATUS.UNST_ACTIVE_IN, GLB_PIN_STATUS.UNST_MATE, GLB_PIN_STATUS.UNST_PPS, GLB_PIN_STATUS.PWR_AUTO, GLB_PIN_STATUS.SB_ADDR]
  | .GLB_PIN_GLITCH => [GLB_PIN_GLITCH.RESET_N, GLB_PIN_GLITCH.PERST_N, GLB_PIN_GLITCH.ACTIVE_IN, GLB_PIN_GLITCH.MATE_PRESENT, GLB_PIN_GLITCH.PPS_IN,
      GLB_PIN_GLITCH.LOOP0, GLB_PIN_GLITCH.LOOP1]
  | .GLB_AVS => [GLB_AVS.SETPOINT, GLB_AVS.APPLIED, GLB_AVS.FAIL]
  | .GLB_THERM => [GLB_THERM.STAGE, GLB_THERM.CHANGED, GLB_THERM.PEAK_C, GLB_THERM.SEC_85, GLB_THERM.SEC_105]

/-! ### Reset values -/

/-- The default MASTER of local bank b of a region (Table 14-1). -/
def srbDefaultMaster (b : Nat) : Nat :=
  if b < 6 then 1 else if b = 6 then 2 else if b = 7 then 3 else if b < 10 then 4 else if b = 10 then 5 else 6

/-- The KIND of power domain d (Table 21-6). -/
def pwrDomKind (d : Nat) : Nat :=
  if d < 192 then 1 else if d < 216 then 2 else if d < 268 then 3 else if d < 334 then 4 else if d < 342 then 5
  else if d < 350 then 6 else if d < 358 then 7 else if d < 362 then 8 else 9

/-- WAKE_US of power domain d (Table 21-6; 0 for KIND 0x6 and 0x7, 5 for KIND 0x3, as the field's row says). -/
def pwrDomWake (d : Nat) : Nat :=
  match pwrDomKind d with
  | 1 => 10 | 2 => 20 | 3 => 5 | 4 => 50 | 5 => 100 | 6 => 0 | 7 => 0 | _ => 20

/-- The reset value of word `w` of instance `i` of a register.  A register that its heading says is kept in the AUX
or always-on domain, set at start-up or taken from the one-time array has here its value at the first power-on
(DESIGN CHOICE, notes/assumptions/2.md).  `GLB_AVS.SETPOINT`, whose reset is the fuse, reads 0 before step 1 of start-up, which loads it
(DESIGN CHOICE, notes/assumptions/63.md). -/
def Reg.resetWord (r : Reg) (i w : Nat) : BitVec 64 :=
  match r with
  | .GLB_REGION_STATUS => 0x2000000#64
  | .GLB_UNMAPPED_CNT => 0x0#64
  | .GLB_UNMAPPED_ADDR => 0x0#64
  | .TBL_DATA => 0x0#64
  | .TBL_CMD => 0x0#64
  | .TBL_STATUS => 0x0#64
  | .TBL_SEED => 0xFFFFFFFF#64
  | .TBL_OCCUPANCY => 0x0#64
  | .TBL_PORTCFG => 0x7#64
  | .TBL_MISS_CNT => 0x0#64
  | .TBL_ETCLASS => 0x0#64
  | .TBL_SHADOW_BASE => 0x0#64
  | .TBL_SHADOW_CTRL => 0x15200#64
  | .TBL_SHADOW_STATUS => 0x0#64
  | .TBL_SHADOW_LOST => 0x0#64
  | .TBL_SHADOW_LOG => 0#64
  | .FEN_POD_CTRL => 0x0#64
  | .FEN_MP_ADDR => 0x0#64
  | .FEN_MP_CMD => 0x0#64
  | .FEN_MP_STATUS => 0x0#64
  | .FEN_MP_SLOT => 0x0#64
  | .FEN_WDOG => 0x14#64
  | .FEN_KSA_CTRL => 0x7E7#64
  | .FEN_KSA_CNT => 0x0#64
  | .FEN_FAULT => 0x0#64
  | .FEN_ENG => 0x3F00#64
  | .FEN_KAT_CTRL => 0x3E80001#64
  | .FEN_KAT_STATUS => 0x0#64
  | .SAT_RXPORT_CFG => 0x0#64
  | .SAT_RXPORT_SCI => 0x0#64
  | .SAT_RXPORT_CNT => 0x0#64
  | .FAB_CT_CFG => 0x0#64
  | .SAT_PN_STATUS => 0x0#64
  | .SAT_STAT_CMD => 0x0#64
  | .SAT_STAT_STATUS => 0x0#64
  | .SAT_TXSTAT => 0#64
  | .SAT_RXSTAT => 0#64
  | .SAT_DEUCE_CFG => 0x6407D0#64
  | .KFR_KEYSW => 0x0#64
  | .GLB_AGT_CTRL => 0x0#64
  | .GLB_AGT_PORT => 0x100#64
  | .GLB_AGT_CKN => 0#64
  | .KFR_CFG => 0x400#64
  | .KFR_ALIGN => 0x0#64
  | .KFR_EC_STAT => 0x0#64
  | .KFR_TRIB => 0x0#64
  | .KFR_TRIB_STAT => 0x0#64
  | .KFR_TTI_TX => 0x0#64
  | .FAB_PG_CFG => 0x54000#64
  | .FAB_PG_STATUS => 0x0#64
  | .KFR_MON_CFG => 0xA00034001#64
  | .KFR_DEFECT => 0x0#64
  | .KFR_PM_SNAP => 0#64
  | .KFR_TTI_EXP => 0x0#64
  | .KFR_TTI_RX => 0x0#64
  | .MTL_LANE_STATUS => 0x0#64
  | .CPX_CFG => 0x2#64
  | .LPX_CFG => 0x2#64
  | .CPX_PORT_CTRL => 0x3EA800000000#64
  | .LPX_PORT_CTRL => 0x3EA800000000#64
  | .CPX_PORT_STATUS => 0x0#64
  | .LPX_PORT_STATUS => 0x0#64
  | .LNS_BRING_CFG => 0x3001401F40BB8#64
  | .LNS_HUD_CFG => 0x1F40180C2000003#64
  | .LNS_LANE => 0x0#64
  | .LNS_PRBS_ERR => 0x0#64
  | .LNS_EYE => 0x0#64
  | .LNS_HUD_PEER => 0#64
  | .LET_TIMING => 0x1403E810000040#64
  | .LET_CTL_DA => 0x0#64
  | .LET_STREAM_CFG => 0x190000000000000#64
  | .LET_STREAM_SC => 0x0#64
  | .LET_STREAM_RXSC => 0x0#64
  | .LET_STREAM_AUX => 0x3E80A000#64
  | .LET_STREAM_STATUS => 0#64
  | .LET_CNT => 0#64
  | .MTL_PAIR_CFG => 0x6400000000#64
  | .MTL_PAIR_CMD => 0x0#64
  | .MTL_PAIR_STATUS => 0x0#64
  | .MTL_PAIR_ID => 0x0#64
  | .MTL_RALLY_CNT => 0x0#64
  | .MTL_LEASE_CNT => 0x0#64
  | .MTL_LIB_CNT => 0x0#64
  | .FAB_WRR_CFG => 0x1010101#64
  | .FAB_DRR_CFG => 0x404040404040404#64
  | .FAB_BUF_STATUS => if w = 0 then 0x1002E8018000#64 else 0xC000010000000#64
  | .FAB_DROP_CNT => 0#64
  | .FAB_ING_CFG => 0x300000800C000004#64
  | .FAB_ING_PORT => 0xC000#64
  | .QMG_QCFG => if i % 1024 < 96 then 0x35#64 else if i % 1024 < 104 then 0x55#64 else 0#64
  | .QMG_QSTAT => 0#64
  | .QMG_ECC => 0x0#64
  | .QMG_AUDIT_CTRL => 0x1005#64
  | .QMG_AUDIT_STATUS => 0x0#64
  | .QMG_AUDIT_LOG => 0x0#64
  | .SCH_QSHAPE => 0x0#64
  | .SCH_QCREDIT => 0x0#64
  | .SCH_PORT_CFG => 0x14#64
  | .SCH_PORT_QUANTUM => 0x1818181818181818#64
  | .SCH_METER => 0#64
  | .SCH_METER_CNT => 0#64
  | .SCH_LAT_CFG => 0x10064#64
  | .SCH_LAT_HCFG => 0x10064#64
  | .SCH_LAT_CMD => 0x0#64
  | .SCH_LAT_STATUS => 0x0#64
  | .SCH_LAT_SNAP => 0#64
  | .SCH_LAT_HIST => 0#64
  | .DMC_PART => 0x18040301#64
  | .DMC_SCRUB_CFG => 0xA81803#64
  | .DMC_STACK_STATUS => 0x20#64
  | .DMC_PC => 0x0#64
  | .DMC_CAP => 0xC00001000060000#64
  | .IME_RKEY_CTRL => 0x400#64
  | .IME_RANGE_EPOCH => 0x1#64
  | .IME_RANGE_BOUND => 0x0#64
  | .IME_STATUS => 0x0#64
  | .IME_POISON_ADDR => 0x0#64
  | .SRB_BANK => BitVec.ofNat 64 (0x02400000 + srbDefaultMaster (i % 12))
  | .SRB_CHIP_BANK => BitVec.ofNat 64 (0x02400000 + (if i < 2 then 7 else 8))
  | .SRB_CONFLICT => 0x0#64
  | .SRB_CHIP_CONFLICT => 0x0#64
  | .SRB_TEST_CFG => 0x3205#64
  | .SRB_TEST_STATUS => 0x0#64
  | .SRB_WIPE_STATUS => 0x0#64
  | .KST_KEYDATA => 0x0#64
  | .KST_SALT => 0#64
  | .KST_ATTR => 0x0#64
  | .KST_CMD => 0x0#64
  | .KST_STATUS => 0x8#64
  | .KST_INFO => 0#64
  | .KST_CTRL => 0x0#64
  | .LCM_STATE => 0#64
  | .LCM_DEVICE_ID => 0x0#64
  | .LCM_CHALLENGE => 0x0#64
  | .LCM_TOKEN_ADDR => 0x0#64
  | .LCM_CMD => 0x0#64
  | .LCM_STATUS => 0x0#64
  | .NVJ_BOOT => 0#64
  | .NVJ_IMG_ADDR => 0x0#64
  | .NVJ_IMG_CMD => 0x0#64
  | .NVJ_IMG_STATUS => 0x0#64
  | .NVJ_JCTRL => 0x0#64
  | .NVJ_JSTATUS => 0#64
  | .NVJ_REPLAY => 0#64
  | .TMB_CTRL => 0x0#64
  | .TMB_STATUS => 0x0#64
  | .TMB_TIME => 0#64
  | .TMB_RATE => 0x0#64
  | .TMB_STEP => 0#64
  | .TMB_STEP_CMD => 0x0#64
  | .TMB_SLEW => 0x0#64
  | .TMB_SLEW_LEFT => 0x0#64
  | .TMB_PPS_CFG => 0x186A001#64
  | .TMB_PPS_IN => 0#64
  | .TMB_CNT => 0x0#64
  | .TMB_PORT => 0x1401400#64
  | .TMB_PORT_FIXED => 0#64
  | .TMB_TT_RESULT => 0#64
  | .TMP_CTRL => 0xD37300#64
  | .TMP_RESP => 0x6F7AAABF#64
  | .TMP_STATUS => 0#64
  | .TMP_ALARM => 0#64
  | .TMP_RAW => 0x0#64
  | .TMP_TEMP => 0x0#64
  | .TMP_VOLT => 0x0#64
  | .TMP_AOLOG_STATUS => 0#64
  | .TMP_ACLK => 0#64
  | .TMP_AOLOG => 0#64
  | .GLB_OWNER => 0x7D00000#64
  | .GLB_FRESET => 0x0#64
  | .GLB_FRESET_STATUS => 0x0#64
  | .GLB_RESET => 0x0#64
  | .HIF_RING_BASE => 0x0#64
  | .HIF_RING_CFG => 0x100002060#64
  | .HIF_RING_STAT => 0x0#64
  | .HIF_DMA_CFG => 0x64#64
  | .HIF_DMA_STATUS => 0x0#64
  | .HIF_MBOX_ADDR => 0x0#64
  | .HIF_MBOX_CTRL => 0x0#64
  | .HIF_IDKEY => 0x0#64
  | .EVT_SRC => BitVec.ofNat 64 ((if i < 160 then 0x0E else 0x06) + i * 256)
  | .EVT_RING_BASE => 0x0#64
  | .EVT_RING_CFG => 0xA0#64
  | .EVT_RING_HEAD => 0x0#64
  | .EVT_RING_STATUS => 0x0#64
  | .SBM_STATUS => 0x0#64
  | .SBM_ALERT_MASK => if i = 2 then 0x01FF0000#64 else 0#64
  | .PWR_STATE => 2#64
  | .PWR_CTRL => 0x0#64
  | .PWR_START_STATUS => 1#64
  | .PWR_STEP_END => 0x0#64
  | .PWR_EST => 0x0#64
  | .PWR_DOM => BitVec.ofNat 64 (pwrDomWake i * 65536 + pwrDomKind i * 256 + 5)
  | .PMC_CTRL => 0x0#64
  | .PMC_STATUS => 0x0#64
  | .PMC_USER_EN => 0x0#64
  | .PMC_OVF => 0x0#64
  | .PMC_SEL => 0x0#64
  | .PMC_CHIP_SEL => 0x0#64
  | .PMC_CNT => 0x0#64
  | .PMC_CHIP_CNT => 0x0#64
  | .PMC_SNAP => 0x0#64
  | .PMC_CHIP_SNAP => 0x0#64
  | .GLB_PIN_STATUS => 0#64
  | .GLB_PIN_GLITCH => 0#64
  | .GLB_AVS => BitVec.ofNat 64 (800 * 1024)
  | .GLB_THERM => 0x0#64

end Sys2Proof.Machine
end

