-- ==== Sys2Proof/Machine/TmpTypes.lean ====
section
/-!
DEFINITION. What the tamper block and the always-on domain (R572 to R599), the power states (R642 to R661), the side-band
(R632 to R641) and the TAP (R684) hold beside their registers.
-/

namespace Sys2Proof.Machine

/-- TMP and the always-on domain. -/
structure TmpState where
  /-- the backup secret key of the always-on domain (R544) -/
  bsk : Option (List Byte) := none
  /-- records appended to the always-on log since its last clear -/
  aoNext : Nat := 0
  /-- nanoseconds that ACLK has counted since the always-on domain was first powered -/
  aclkNs : Nat := 0
  /-- the always-on domain's own copy of `TMP_RESP` (R595) -/
  aoResp : BitVec 64 := 0x6F7AAABF
  /-- the response in progress (R582): 0 none, 2 RESET, 3 ZEROISE -/
  resp : Nat := 0
  /-- the transmitters of every port are at electrical idle (Table 18-3) -/
  squelched : Bool := false
  /-- consecutive samples that meet a condition of R576: TEMP_HI and TEMP_LO of each sensor, TEMP_DIFF -/
  hi0 : Nat := 0
  hi1 : Nat := 0
  lo0 : Nat := 0
  lo1 : Nat := 0
  diff : Nat := 0
  /-- consecutive samples at or above the threshold of stage 1 and 2, and at least 2 °C below it (R692) -/
  up1 : Nat := 0
  up2 : Nat := 0
  down1 : Nat := 0
  down2 : Nat := 0
  /-- samples of the current second above 85 °C, and at or above 105 °C -/
  ms85 : Nat := 0
  ms105 : Nat := 0
  /-- the registers whose sequences drive TAMPER_LOOP0_OUT and TAMPER_LOOP1_OUT (R577) -/
  loop0 : BitVec 16 := 1
  loop1 : BitVec 16 := 1
  deriving DecidableEq, Repr

/-- The device power state (Table 21-1) and start-up. -/
structure PwrState where
  /-- 0 OFF, 1 AO, 2 STANDBY, 3 SERVICE -/
  power : Nat := 2
  /-- VBAT is present -/
  vbat : Bool := false
  /-- RESET_N is asserted (R682) -/
  resetHeld : Bool := false
  /-- a main rail has been lost without a command (R646) -/
  railLost : Bool := false
  /-- the instant at which step 1 began, in ns since reset -/
  startAt : Nat := 0
  /-- PF0 serves only the registers of R652 -/
  recovery : Bool := false
  /-- the instant at which the commanded transition to STANDBY in progress began (R645) -/
  transitAt : Nat := 0
  /-- PWR_CYCLE_N is low (R631) -/
  cycling : Bool := false
  /-- power domains whose wake has not completed: STATE reads ON (R31), and they are not powered yet (R656) -/
  waking : List Nat := []
  /-- instants of the last rejected pulses (at most 16), by input: 2 ACTIVE_IN, 3 MATE_PRESENT, 4 PPS_IN (R686) -/
  pulses : KMap (List Nat) := []
  deriving DecidableEq, Repr

/-- The side-band: the last answers sent, newest last, and what its protocols hold. -/
structure SbState where
  answers : List SbAnswer := []
  /-- the MCTP endpoint ID, once set -/
  eid : Nat := 0
  /-- maximum write and read lengths of I3C, and in-band interrupts enabled -/
  mwl : Nat := 69
  mrl : Nat := 69
  ibi : Bool := false
  /-- in-band interrupts raised -/
  ibis : Nat := 0
  /-- SEQ of the last ACK_ALERT -/
  ackSeq : Option Nat := none
  /-- the SPDM conversation over MCTP -/
  spdm : SpdmConn := {}
  deriving DecidableEq, Repr

/-- The TAP: its instruction, the boundary cells preloaded and the cells it drives (R684). -/
structure TapState where
  instr : Nat := 0
  boundary : List Bool := []
  driven : Option (List Bool) := none
  /-- bits captured by the last data-register scan -/
  captured : List Bool := []
  deriving DecidableEq, Repr

end Sys2Proof.Machine
end

