-- ==== Sys2Proof/Machine/State.lean ====
section
/-!
DEFINITION. The state of the Bolorn as plain data, the reasons a step can stop, and the state after reset.
-/

namespace Sys2Proof.Machine

/-- The state of the Bolorn.  `regs` is the register file; every other field holds what the chapter of its type says. -/
structure State where
  regs : KMap Word := []
  evt : EvtState := {}
  clk : ClkState := {}
  tbl : TblState := {}
  path : PathState := {}
  fen : FenState := {}
  q : QState := {}
  lets : LetState := {}
  kst : KstState := {}
  lcm : LcmState := {}
  nvj : NvjState := {}
  krw : KrwState := {}
  srb : SrbState := {}
  dram : DramState := {}
  tmp : TmpState := {}
  pwr : PwrState := {}
  sb : SbState := {}
  tap : TapState := {}
  mtl : MtlState := {}
  hif : HifState := {}
  /-- the key agent's participants, by line port -/
  agt : KMap AgtPort := []
  /-- ports 0 to 31 client, 32 to 63 line -/
  ports : KMap PortSt := []
  /-- retired lanes (16n + j) whose RESTORE test runs (R301) -/
  laneTests : List Nat := []
  /-- functions whose start-up has completed, by `Fn.code` (R694) -/
  service : List Nat := []
  /-- the model's own counter of free values drawn (notes/assumptions/3.md) -/
  free : Nat := 0
  /-- the answer of the last access to the register bus -/
  bus : BusAnswer := .idle
  pending : List Instr := []
  deriving DecidableEq, Repr

/-- Why the machine stops with a fault. -/
inductive Fault where
  /-- not raised: the Bolorn answers every command it can receive with a next state (safe) -/
  | none
  deriving DecidableEq, Repr

/-- Why a command has no meaning. -/
inductive Refusal where
  /-- the command has no meaning in the model yet (safe) -/
  | notModelled (mnemonic : String)
  deriving DecidableEq, Repr

/-- The machine right after reset: every register at its reset value, every table, queue and store empty. -/
def State.reset : State := {}

end Sys2Proof.Machine
end

