-- ==== Sys2Proof/Machine/Ops.lean ====
section
/-!
DEFINITION. The named operations that every command's meaning is built from: reading and writing registers and their
fields, raising events (R619 to R622), counting for the performance counters (R663 to R668), the function state
machine of Table 1-8 (R31 to R37), and ending a command.
-/

namespace Sys2Proof.Machine

/-! ### Registers -/

/-- The key of word `w` of instance `i` of a register in the register file. -/
def regKey (r : Reg) (i w : Nat) : Nat := (r.ctorIdx * 8192 + i) * 8 + w

/-- The value an unlisted key of the register file reads as: the reset value of that register word (R7). -/
def regDefault (k : Nat) : Word :=
  match Reg.all[k / 65536]? with
  | some r => r.resetWord (k / 8 % 8192) (k % 8)
  | none => 0

/-- A 64-bit word of a register. -/
def State.word (s : State) (r : Reg) (i w : Nat) : Word := s.regs.get (regKey r i w) (regDefault (regKey r i w))

/-- A register word replaced. -/
def State.setWord (s : State) (r : Reg) (i w : Nat) (v : Word) : State :=
  { s with regs := s.regs.set (regKey r i w) v (regDefault (regKey r i w)) }

/-- The value of a field of instance `i` of its register. -/
def State.get (s : State) (f : Field) (i : Nat := 0) : Nat := (s.word f.reg i f.word).bits f.lo f.width

/-- A field of instance `i` replaced. -/
def State.set (s : State) (f : Field) (i : Nat) (v : Nat) : State :=
  s.setWord f.reg i f.word ((s.word f.reg i f.word).setBits f.lo f.width v)

/-- A one-bit field as a Bool. -/
def State.flag (s : State) (f : Field) (i : Nat := 0) : Bool := s.get f i == 1

/-- A counter field raised by `d`, saturating at its largest value. -/
def State.inc (s : State) (f : Field) (i : Nat) (d : Nat := 1) : State := s.set f i (satAdd f.width (s.get f i) d)

/-- A counter field raised by `d` modulo its width. -/
def State.incWrap (s : State) (f : Field) (i : Nat) (d : Nat := 1) : State := s.set f i (s.get f i + d)

/-- Every word of a register instance returned to its reset value (R7). -/
def State.resetReg (s : State) (r : Reg) (i : Nat) : State :=
  (List.range r.place.words).foldl (fun s w => s.setWord r i w (r.resetWord i w)) s

/-- The number of instances of a register. -/
def Reg.count (r : Reg) : Nat := r.place.dims.foldl (fun n d => n * (d.hi + 1 - d.lo)) 1

/-! ### Small helpers -/

/-- An update made only when a condition holds. -/
def State.when (s : State) (c : Bool) (f : State → State) : State := if c then f s else s

/-- An update for each number below `n`, in rising order. -/
def State.forN (s : State) (n : Nat) (f : Nat → State → State) : State :=
  (List.range n).foldl (fun s i => f i s) s

/-- An update for each element of a list, in order. -/
def State.forL {α : Type} (s : State) (l : List α) (f : α → State → State) : State :=
  l.foldl (fun s a => f a s) s

/-- The next free value (notes/assumptions/3.md), and the state whose counter has moved past it. -/
def State.draw (s : State) : Word × State := (Config.freeWord s.free, { s with free := s.free + 1 })

/-- `n` octets that are free values. -/
def State.drawOctets : Nat → State → List Byte × State
  | 0, s => ([], s)
  | n + 1, s =>
    let (v, s1) := s.draw
    let (l, s2) := s1.drawOctets n
    (BitVec.ofNat 8 v.toNat :: l, s2)

/-- R692: background functions are paused, from thermal stage 1. -/
def State.thermPaused (s : State) : Bool := 1 ≤ s.get GLB_THERM.STAGE

/-! ### Performance counters (R663 to R668) -/

/-- Counter c of Table 22-1's two levels: a field of `PMC_SEL` or of the chip counters' `PMC_CHIP_SEL`. -/
def State.pmcSel (s : State) (region chip : Field) (c : Nat) : Nat :=
  if c < 64 then s.get region c else s.get chip (c - 64)

/-- The live value of counter c. -/
def State.pmcCount (s : State) (c : Nat) : Nat := s.pmcSel PMC_CNT.COUNT PMC_CHIP_CNT.COUNT c

/-- The live value of counter c replaced. -/
def State.pmcPut (s : State) (c v : Nat) : State :=
  if c < 64 then s.set PMC_CNT.COUNT c v else s.set PMC_CHIP_CNT.COUNT (c - 64) v

/-- R656: a power domain is powered: it reads ON and its wake has completed. -/
def State.domOn (s : State) (d : Nat) : Bool := s.get PWR_DOM.STATE d == 1 && !s.pwr.waking.contains d

/-- R673: region counters count while domain 358 + n is ON, chip counters while domain 372 is ON; R669: none counts
while FREEZE is set, which needs domain 372. -/
def State.pmcRuns (s : State) (c : Nat) : Bool :=
  !(s.flag PMC_CTRL.FREEZE && s.domOn 372) && s.domOn (if c < 64 then 358 + c / 16 else 372)
    && s.pmcSel PMC_SEL.EN PMC_CHIP_SEL.EN c == 1

/-- R667: counter c is the odd member of a chained pair. -/
def State.pmcChained (s : State) (c : Nat) : Bool :=
  c % 2 == 1 && s.pmcSel PMC_SEL.CHAIN PMC_CHIP_SEL.CHAIN c == 1

/-- R668: the OVF bit of counter c is set, and FREEZE with it when FRZ_OVF is 1, while domain 372 is ON (R673). -/
def State.pmcOverflow (s : State) (c : Nat) : State :=
  if !s.domOn 372 then s else
  let s1 := s.set PMC_OVF.OVF (c / 64) (s.get PMC_OVF.OVF (c / 64) ||| 2 ^ (c % 64))
  if s1.flag PMC_CTRL.FRZ_OVF then s1.set PMC_CTRL.FREEZE 0 1 else s1

/-- R667, R668: counter c has wrapped. An even counter whose odd partner is chained and enabled feeds that partner,
which may wrap in its turn; any other wrap sets OVF. -/
def State.pmcWrap (s : State) (c : Nat) : State :=
  if c % 2 == 0 && s.pmcChained (c + 1) && s.pmcSel PMC_SEL.EN PMC_CHIP_SEL.EN (c + 1) == 1 then
    let v := s.pmcCount (c + 1) + 1
    let s1 := s.pmcPut (c + 1) v
    if v < 2 ^ 48 then s1 else s1.pmcOverflow (c + 1)
  else s.pmcOverflow c

/-- R663: counter c adds an increment, modulo 2^48. -/
def State.pmcAdd (s : State) (c d : Nat) : State :=
  let v := s.pmcCount c + d
  let s1 := s.pmcPut c v
  if v < 2 ^ 48 then s1 else s1.pmcWrap c

/-- The counted events of Table 22-1 that have an INST: those of a port, and FAB_FRAMES. -/
def pmcHasInst (event : Nat) : Bool := (1 ≤ event && event ≤ 3) || event == 0x10

/-- An event of Table 22-1 has occurred `d` times at a level (regions 0 to 3; 4 is the chip): every counter of the level
that runs, is not chained and selects it adds the increment. -/
def State.pmcEvent (s : State) (level event inst d : Nat) : State :=
  s.forN 16 fun i s =>
    let c := 16 * level + i
    if s.pmcRuns c && !s.pmcChained c && s.pmcSel PMC_SEL.EVENT PMC_CHIP_SEL.EVENT c == event
        && (!pmcHasInst event || s.pmcSel PMC_SEL.INST PMC_CHIP_SEL.INST c == inst) then s.pmcAdd c d else s

/-- Octets moved by a DMA of the HIF are counted (Table 22-1, DMA_OCTETS). -/
def State.dmaOctets (n : Nat) (s : State) : State := s.pmcEvent 4 0x15 0 n

/-- One generate request of the DRBG (Table 22-1, DRBG), for `n` octets. -/
def State.drbg (n : Nat) (s : State) : List Byte × State :=
  let x := s.drawOctets n
  (x.1, x.2.pmcEvent 4 0x12 0 1)

/-! ### Events (R619 to R622) -/

/-- An event is raised; its record is written when the command ends. -/
def State.raise (s : State) (source code : Nat) (inst : Nat := 0) (arg0 : Nat := 0) (arg1 : Nat := 0) : State :=
  { s with evt := { s.evt with raised := s.evt.raised ++ [⟨source, code, inst, arg0, arg1⟩] } }

/-- The order of the records of one cycle (R619): ascending source, then CODE, then INST. -/
def Raised.le (a b : Raised) : Bool :=
  if a.source != b.source then a.source < b.source
  else if a.code != b.code then a.code < b.code else a.inst ≤ b.inst

/-- One raised event placed in its position. -/
def insertRaised (e : Raised) : List Raised → List Raised
  | [] => [e]
  | x :: r => if Raised.le x e then x :: insertRaised e r else e :: x :: r

/-- The raised events of a cycle in the order of R619. -/
def sortRaised : List Raised → List Raised
  | [] => []
  | e :: r => insertRaised e (sortRaised r)

/-- The seconds and nanoseconds that stamp an event: the time base when it runs, else the time since the device reset. -/
def State.stamp (s : State) : Nat × Nat :=
  if s.flag TMB_STATUS.RUNNING then (s.clk.tbSec, s.clk.tbNs)
  else (s.clk.sinceReset / 1000000000, s.clk.sinceReset % 1000000000)

/-- The record of an event (Table 19-11). -/
def State.record (s : State) (e : Raised) : EventRec :=
  let t := s.stamp
  { source := e.source, tbValid := s.flag TMB_STATUS.RUNNING, code := e.code, inst := e.inst % 65536
    seq := s.evt.seq, ns := t.2, sec := t.1 % 2 ^ 32, arg0 := e.arg0 % 2 ^ 64, arg1 := e.arg1 % 2 ^ 64 }

/-- R620: the MSI-X message of a source's entry is sent, or becomes pending behind the PCIe vector mask. -/
def State.sendMsix (s : State) (i : Nat) : State :=
  let v := s.get EVT_SRC.VECTOR i
  if v ∈ s.evt.vecMasked then
    { s with evt := { s.evt with pba := if v ∈ s.evt.pba then s.evt.pba else s.evt.pba ++ [v] } }
  else { s with evt := { s.evt with msixSent := s.evt.msixSent ++ [v] } }

/-- Records in the event ring that the host has not yet consumed. -/
def State.ringUnread (s : State) : Nat := (s.get EVT_RING_STATUS.TAIL + 2 ^ 17 - s.get EVT_RING_HEAD.HEAD) % 2 ^ 17

/-- R619, R622: a record goes to the event ring when the ring is ON; a full ring counts it in LOST and sets OVERFLOW. -/
def State.ringAppend (s : State) (r : EventRec) : State :=
  if s.get EVT_RING_CFG.STATE == 1 then
    if s.ringUnread < 2 ^ s.get EVT_RING_CFG.SIZE then
      let s1 := { s with evt := { s.evt with ringRecs := s.evt.ringRecs ++ [r] } }
      (s1.incWrap EVT_RING_STATUS.TAIL 0).dmaOctets 32
    else (s.inc EVT_RING_STATUS.LOST 0).set EVT_RING_STATUS.OVERFLOW 0 1
  else s

/-- R620: an event of a source: COUNT rises, and STATUS, which sends MSI-X when it rises unmasked. -/
def State.evtNote (i : Nat) (s : State) : State :=
  let s1 := (s.inc EVT_SRC.COUNT i).pmcEvent 4 0x14 0 1
  if s1.get EVT_SRC.STATUS i == 0 then
    (s1.set EVT_SRC.STATUS i 1).when (s1.get EVT_SRC.MASK i == 0) fun s => s.sendMsix i
  else s1

/-- A record waits to be written to the event log (R545). -/
def State.logAppend (s : State) (r : EventRec) : State := { s with evt := { s.evt with logQueue := s.evt.logQueue ++ [r] } }

/-- R619, R620: one event is noted by its source, and its record goes to the event ring (RING = 1) and towards the event log
(LOG = 1). -/
def State.writeEvent (s : State) (e : Raised) : State :=
  let s1 := s.evtNote e.source
  let s2 := s1.when (s1.flag EVT_SRC.RING e.source) fun t => t.ringAppend (s.record e)
  let s3 := s2.when (s2.flag EVT_SRC.LOG e.source) fun t => t.logAppend (s.record e)
  { s3 with evt := { s3.evt with seq := (s3.evt.seq + 1) % 2 ^ 32 } }

/-- The events of the cycle are recorded, in the order of R619, and the cycle's list is emptied. -/
def State.flushEvents (s : State) : State :=
  let es := sortRaised s.evt.raised
  let s1 := s.forL es (fun e s => s.writeEvent e)
  { s1 with evt := { s1.evt with raised := [] } }

/-- R630: the function that the last `GLB_FRESET` named, by TYPE and INDEX, has reached OFF. -/
def State.fresetOff (typ index : Nat) (s : State) : State :=
  if s.flag GLB_FRESET_STATUS.BUSY && s.get GLB_FRESET_STATUS.TYPE == typ && s.get GLB_FRESET_STATUS.INDEX == index then
    (s.set GLB_FRESET_STATUS.BUSY 0 0).set GLB_FRESET_STATUS.DONE 0 1
  else s

/-- The end of every command: the cycle's events are recorded and the next state is answered. -/
def finish (s : State) : Host.Outcome State Fault Refusal := .next s.flushEvents

end Sys2Proof.Machine
end

