-- ==== Sys2Proof/Machine/Domain.lean ====
section
/-!
DEFINITION. Waking the power domains (R656 to R660). A domain reads ON from its enable on and is powered once its wake has completed
(notes/assumptions/40.md).
-/

namespace Sys2Proof.Machine

/-- KIND of a domain (Table 21-6). -/
def State.domKind (s : State) (d : Nat) : Nat := s.get PWR_DOM.KIND d

/-- The wake of a domain begins. -/
def State.wakeBegin (d : Nat) (s : State) : State := { s with pwr := { s.pwr with waking := s.pwr.waking.filter (· != d) ++ [d] } }

/-- The wake of a domain is over, or given up. -/
def State.wakeOver (d : Nat) (s : State) : State := { s with pwr := { s.pwr with waking := s.pwr.waking.filter (· != d) } }

/-- R656, Table 1-8: an enable of a domain: from OFF it reads ON and wakes; EN of a bank's domain is RO. -/
def State.domEnable (d : Nat) (s : State) : State :=
  if s.domKind d == 3 then s
  else
    let s1 := s.set PWR_DOM.EN d 1
    match s.get PWR_DOM.STATE d with
    | 0 => (s1.set PWR_DOM.STATE d 1).wakeBegin d
    | 2 => s1.set PWR_DOM.STATE d 3
    | _ => s1

/-- R658: the domains of a function that are not all ON are enabled. -/
def State.domWake (ds : List Nat) (s : State) : State :=
  s.forL ds fun d s => s.when (!s.domOn d) fun s => s.domEnable d

end Sys2Proof.Machine
end

