-- ==== Sys2Proof/Machine/Pmc.lean ====
section
/-!
DEFINITION. The performance counters' commands (R663 to R673): selecting, presetting, freezing and copying the 80 counters.
-/

namespace Sys2Proof.Machine

/-- Table 22-1: the number of instances of an event at a level; `none` where the level does not list the event, `some 0` where
the event has no INST. -/
def pmcInstances (chip : Bool) (event : Nat) : Option Nat :=
  match chip, event with
  | _, 0x00 => some 0
  | false, 0x01 => some 16
  | false, 0x02 => some 16
  | false, 0x03 => some 16
  | false, 0x41 => some 1024
  | false, 0x42 => some 1024
  | false, 0x43 => some 48
  | false, 0x44 => some 16
  | false, 0x46 => some 2
  | false, e => if (4 ≤ e && e ≤ 0xA) || e == 0x40 || e == 0x45 then some 0 else none
  | true, 0x10 => some 4
  | true, e => if (0x11 ≤ e && e ≤ 0x15) || (0x50 ≤ e && e ≤ 0x52) then some 0 else none

/-- The fields of a selection: CHAIN, MODE, CMP, EVENT, INST and THRESH. -/
def pmcFields (w : Word) : List Nat :=
  [w.bits 1 1, w.bits 2 1, w.bits 3 1, w.bits 8 8, w.bits 16 12, w.bits 32 24]

/-- R665: the cases in which a write of a selection is discarded. -/
def pmcRefused (chip : Bool) (old new : Word) : Bool :=
  let event := new.bits 8 8
  let inst := new.bits 16 12
  (match pmcInstances chip event with
    | none => true
    | some 0 => false
    | some k => k ≤ inst)
    || (new.flag 2 && event < 0x40) || (old.flag 0 && pmcFields old != pmcFields new)

/-- The selection register of counter c and its instance. -/
def pmcReg (c : Nat) : Reg × Nat := if c < 64 then (.PMC_SEL, c) else (.PMC_CHIP_SEL, c - 64)

/-- The power domain whose logic counter c needs (R673). -/
def pmcDomain (c : Nat) : Nat := if c < 64 then 358 + c / 16 else 372

/-- R665, R658: a write of a selection register. -/
def State.pmcSelect (c : Nat) (data : Word) (s : State) : State :=
  let r := pmcReg c
  let old := s.word r.1 r.2 0
  if pmcRefused (64 ≤ c) old data then s.set PMC_STATUS.REJ 0 1
  else
    let new := pmcFields data
    let w := ((((((0 : Word).setBits 0 1 (data.bits 0 1)).setBits 1 1 (new.getD 0 0)).setBits 2 1 (new.getD 1 0)).setBits 3 1
      (new.getD 2 0)).setBits 8 8 (new.getD 3 0)).setBits 16 12 (new.getD 4 0)
    (s.setWord r.1 r.2 0 (w.setBits 32 24 (new.getD 5 0))).when (data.flag 0) fun s => s.domWake [pmcDomain c]

/-- PMC_SEL_WRITE (R665). -/
def execPmcSelWrite (c : Fin 80) (data : BitVec 64) (s : State) : Host.Outcome State Fault Refusal :=
  finish (s.pmcSelect c data)

/-- PMC_CNT_WRITE (R671): a value is written to a counter. -/
def execPmcCntWrite (c : Fin 80) (v : BitVec 48) (s : State) : Host.Outcome State Fault Refusal :=
  finish (s.pmcPut c v.toNat)

/-- PMC_FREEZE (R669). -/
def execPmcFreeze (b : Bool) (s : State) : Host.Outcome State Fault Refusal :=
  finish (s.set PMC_CTRL.FREEZE 0 (natOfBool b))

/-- R670: the copy of counter c, and its clear. -/
def State.pmcCopy (c : Nat) (clear : Bool) (s : State) : State :=
  let v := s.pmcCount c
  (if c < 64 then s.set PMC_SNAP.COUNT c v else s.set PMC_CHIP_SNAP.COUNT (c - 64) v).when clear fun s => s.pmcPut c 0

/-- R670, R673: a write of SNAP = 1. -/
def State.pmcSnap (clear : Bool) (s : State) : State :=
  if s.flag PMC_STATUS.SNAP_BUSY || !s.domOn 372 then s
  else ((s.forN 80 fun c s => s.pmcCopy c clear).set PMC_STATUS.SNAP_BUSY 0 1).incWrap PMC_STATUS.SNAP_SEQ 0

/-- PMC_SNAP (R670). -/
def execPmcSnap (clear : Bool) (s : State) : Host.Outcome State Fault Refusal := finish (s.pmcSnap clear)

/-- PMC_SNAP_DONE (R670): the copy completes. -/
def execPmcSnapDone (s : State) : Host.Outcome State Fault Refusal := finish (s.set PMC_STATUS.SNAP_BUSY 0 0)

/-- PMC_COUNTER_WRAP (R663, R667, R668): an increment reaches a counter that counts, and takes it past 2^48 - 1. -/
def execPmcCounterWrap (c : Fin 80) (d : BitVec 48) (s : State) : Host.Outcome State Fault Refusal :=
  finish (s.when (s.pmcRuns c && !s.pmcChained c && 2 ^ 48 ≤ s.pmcCount c + d.toNat) fun s => s.pmcAdd c d.toNat)

/-! ### What the clock counts (R663, R664) -/

/-- The work items outstanding at the reorder stage of a port of a region: 0 to 7 client, 8 to 15 line. -/
def State.reorderHeld (s : State) (n q : Nat) : Nat :=
  ((List.range 8).map fun c => (s.path.reorder.get (8 * (16 * n + q) + c) []).length).foldl (· + ·) 0

/-- The occupancy of an event of Table 22-1 at a level (regions 0 to 3; 4 is the chip). -/
def State.pmcOccupancy (s : State) (n event inst : Nat) : Nat :=
  match event with
  | 0x40 => s.q.cellsUsed n + s.q.queueCells.get n 0
  | 0x41 => s.get QMG_QSTAT.CELLS (1024 * n + inst)
  | 0x42 =>
    let x := s.q.queues.get (1024 * n + inst) {}
    let es := x.head ++ (x.marrow.map (·.items)).flatten ++ x.tail
    ((es.map fun e => match e with
      | .frame it => it.data.length + 4
      | .letRec .. => 16).foldl (· + ·) 0 + 63) / 64
  | 0x43 =>
    let e := s.fen.engines.get (48 * n + inst) {}
    e.inboxN.length + e.inboxX.length
  | 0x44 => s.reorderHeld n inst
  | 0x45 => ((s.path.fabric.map fun l => (l.2.filter fun x => x.1 == n).length)).foldl (· + ·) 0
  | 0x50 => s.nvj.queue.length
  | 0x51 => s.ringUnread
  | 0x52 => (s.hif.rings.filter fun r => r.2.paging).length
  | _ => 0

/-- The increment of a counter over `k` CCLK cycles in which nothing else happens. -/
def State.pmcIdle (s : State) (c k : Nat) : Nat :=
  let event := s.pmcSel PMC_SEL.EVENT PMC_CHIP_SEL.EVENT c
  if event == 0 then k
  else if event < 0x40 then 0
  else
    let o := s.pmcOccupancy (c / 16) event (s.pmcSel PMC_SEL.INST PMC_CHIP_SEL.INST c)
    if s.pmcSel PMC_SEL.MODE PMC_CHIP_SEL.MODE c == 0 then o * k
    else
      let th := s.pmcSel PMC_SEL.THRESH PMC_CHIP_SEL.THRESH c
      let holds := if s.pmcSel PMC_SEL.CMP PMC_CHIP_SEL.CMP c == 0 then th < o else o ≤ th
      if holds then k else 0

/-- The increment of a counter over `k` CCLK cycles, and the state once it is known. The threads that STALL counts, 0 to 192 in each
cycle, are a free value: the cycles that a thread waits are not modelled (notes/assumptions/3.md). -/
def State.pmcGain (s : State) (c k : Nat) : Nat × State :=
  if c < 64 && s.get PMC_SEL.EVENT c == 8 then
    let x := s.draw
    (x.1.toNat % (192 * k + 1), x.2)
  else (s.pmcIdle c k, s)

/-- Every counter adds what `k` CCLK cycles give it. -/
def State.pmcTick (k : Nat) (s : State) : State :=
  s.forN 80 fun c s =>
    if s.pmcRuns c && !s.pmcChained c then
      let x := s.pmcGain c k
      if 0 < x.1 then x.2.pmcAdd c x.1 else x.2
    else s

end Sys2Proof.Machine
end

