-- ==== Sys2Proof/Machine/Crypto.lean ====
section
/-!
DEFINITION. The cryptographic and checking functions that the chapters name: raw AES (R95), GF(2^128) (Table 3-5, GCM bit
order), AES-GCM (R130, R148), AES-CMAC (R506), the key-derivation function of R490, SHA-384, and the CRCs (R52, R159,
R210).  Their definitions are those of the standards the spec names (FIPS 197, SP 800-38D, SP 800-38B, SP 800-108,
FIPS 180-4): PRESUMED, notes/assumptions/4.md.  Octet 0 of a block is its bits [127:120].
-/

namespace Sys2Proof.Machine

/-! ### Octets and blocks -/

/-- The octets of a block, octet 0 first. -/
def blockBytes (b : Block) : List Byte := (List.range 16).map fun i => BitVec.ofNat 8 (b.toNat >>> (120 - 8 * i))

/-- The number that octets spell, the first the most significant. -/
def beNat (l : List Byte) : Nat := l.foldl (fun n b => n * 256 + b.toNat) 0

/-- The block of at most 16 octets, padded behind with zeros. -/
def blockOf (l : List Byte) : Block := BitVec.ofNat 128 (beNat (l ++ List.replicate (16 - l.length) 0))

/-- `n` octets of a number, the most significant first. -/
def beBytes (n v : Nat) : List Byte := (List.range n).map fun i => BitVec.ofNat 8 (v >>> (8 * (n - 1 - i)))

/-- `n` octets of a number, the least significant first. -/
def leBytes (n v : Nat) : List Byte := (List.range n).map fun i => BitVec.ofNat 8 (v >>> (8 * i))

/-- The number that octets spell, the first the least significant. -/
def leNat (l : List Byte) : Nat := l.foldr (fun b n => n * 256 + b.toNat) 0

/-- A list cut into pieces of 16 octets (`fuel` bounds the pieces). -/
def chunks16 : Nat → List Byte → List (List Byte)
  | 0, _ => []
  | _, [] => []
  | f + 1, l => l.take 16 :: chunks16 f (l.drop 16)

/-- The blocks of a string of octets, the last padded with zeros. -/
def blocksOf (l : List Byte) : List Block := (chunks16 (l.length / 16 + 1) l).map blockOf

/-! ### AES (FIPS 197) -/

/-- The S-box: entry i in bits 8i to 8i + 7. -/
def aesSbox : Nat := 0x16BB54B00F2D99416842E6BF0D89A18CDF2855CEE9871E9B948ED9691198F8E19E1DC186B95735610EF6034866B53E708A8BBD4B1F74DDE8C6B4A61C2E2578BA08AE7A65EAF4566CA94ED58D6D37C8E779E4959162ACD3C25C2406490A3A32E0DB0B5EDE14B8EE4688902A22DC4F816073195D643D7EA7C41744975FEC130CCDD2F3FF1021DAB6BCF5389D928F40A351A89F3C507F02F94585334D43FBAAEFD0CF584C4A39BECB6A5BB1FC20ED00D153842FE329B3D63B52A05A6E1B1A2C830975B227EBE28012079A059618C323C7041531D871F1E5A534CCF73F362693FDB7C072A49CAFA2D4ADF04759FA7DC982CA76ABD7FE2B670130C56F6BF27B777C63

/-- The inverse S-box. -/
def aesInvSbox : Nat := 0x7D0C2155631469E126D677BA7E042B17619953833CBBEBC8B0F52AAE4D3BE0A0EF9CC9939F7AE52D0D4AB519A97F51605FEC8027591012B131C7078833A8DD1FF45ACD78FEC0DB9A2079D2C64B3E56FC1BBE18AA0E62B76F89C5291D711AF1476EDF751CE837F9E28535ADE72274AC9673E6B4F0CECFF297EADC674F4111913A6B8A130103BDAFC1020F3FCA8F1E2CD00645B3B80558E4F70AD3BC8C00ABD890849D8DA75746155EDAB9EDFD5048706C92B6655DCC5CA4D41698688664F6F87225D18B6D49A25B76B224D92866A12E084EC3FA420B954CEE3D23C2A632947B54CBE9DEC444438E3487FF2F9B8239E37CFBD7F3819EA340BF38A53630D56A0952

/-- A table octet. -/
def tableByte (t : Nat) (x : Byte) : Byte := BitVec.ofNat 8 (t >>> (8 * x.toNat))

/-- Multiplication by x in GF(2^8). -/
def xtime (x : Byte) : Byte := if x.msb then (x <<< 1) ^^^ 0x1B#8 else x <<< 1

/-- Product of an octet and a small constant in GF(2^8). -/
def gf8 (c : Nat) (x : Byte) : Byte :=
  let x2 := xtime x
  let x4 := xtime x2
  let x8 := xtime x4
  (if c.testBit 0 then x else 0) ^^^ (if c.testBit 1 then x2 else 0) ^^^ (if c.testBit 2 then x4 else 0)
    ^^^ (if c.testBit 3 then x8 else 0)

/-- Octetwise XOR. -/
def xorBytes (a b : List Byte) : List Byte := List.zipWith (· ^^^ ·) a b

/-- One column mixed by a row of coefficients. -/
def mixColumn (c : List Nat) (l : List Byte) : List Byte :=
  (List.range 4).map fun r => (List.range 4).foldl (fun acc k => acc ^^^ gf8 (c.getD ((k + 4 - r) % 4) 0) (l.getD k 0)) 0

/-- Every column of the state mixed. -/
def mixColumns (c : List Nat) (s : List Byte) : List Byte :=
  ((List.range 4).map fun j => mixColumn c ((s.drop (4 * j)).take 4)).flatten

/-- ShiftRows by `d` times the row number (1 forward, 3 inverse). -/
def shiftRows (d : Nat) (s : List Byte) : List Byte :=
  (List.range 16).map fun i => s.getD ((i + 4 * (d * (i % 4))) % 16) 0

/-- The next four octets of the key schedule. -/
def keyWord (nk i : Nat) (w : List (List Byte)) (rcon : Byte) : List Byte :=
  let t := w.getD (i - 1) []
  let t1 := if i % nk = 0 then
      match (t.drop 1 ++ t.take 1).map (tableByte aesSbox) with
      | a :: r => (a ^^^ rcon) :: r
      | [] => []
    else if nk = 8 ∧ i % 8 = 4 then t.map (tableByte aesSbox) else t
  xorBytes (w.getD (i - nk) []) t1

/-- The key schedule grown to `n` more words. -/
def expandFrom (nk : Nat) : Nat → Nat → Byte → List (List Byte) → List (List Byte)
  | 0, _, _, w => w
  | n + 1, i, rc, w => expandFrom nk n (i + 1) (if i % nk = 0 then xtime rc else rc) (w ++ [keyWord nk i w rc])

/-- The round keys of a key of 16 or 32 octets, 16 octets each. -/
def aesRoundKeys (key : List Byte) : List (List Byte) :=
  let nk := key.length / 4
  let w0 := (List.range nk).map fun i => (key.drop (4 * i)).take 4
  let w := expandFrom nk (4 * (nk + 7) - nk) nk 1#8 w0
  (List.range (nk + 7)).map fun r => ((w.drop (4 * r)).take 4).flatten

/-- The raw AES encryption of one block. -/
def aesEncrypt (key : List Byte) (b : Block) : Block :=
  match aesRoundKeys key with
  | [] => b
  | k0 :: ks =>
    let s0 := xorBytes (blockBytes b) k0
    let mid := ks.dropLast.foldl
      (fun s k => xorBytes (mixColumns [2, 3, 1, 1] (shiftRows 1 (s.map (tableByte aesSbox)))) k) s0
    blockOf (xorBytes (shiftRows 1 (mid.map (tableByte aesSbox))) (ks.getLastD []))

/-- The raw AES decryption of one block. -/
def aesDecrypt (key : List Byte) (b : Block) : Block :=
  match (aesRoundKeys key).reverse with
  | [] => b
  | k0 :: ks =>
    let s0 := xorBytes (blockBytes b) k0
    let mid := ks.dropLast.foldl
      (fun s k => mixColumns [14, 11, 13, 9] (xorBytes ((shiftRows 3 s).map (tableByte aesInvSbox)) k)) s0
    blockOf (xorBytes ((shiftRows 3 mid).map (tableByte aesInvSbox)) (ks.getLastD []))

/-! ### GF(2^128) and GCM (SP 800-38D) -/

/-- The reduction constant of GCM. -/
def gcmR : Block := 0xE1#128 <<< 120

/-- The product over the `n` lowest-numbered bits left of `x`. -/
def gfMulFrom : Nat → Block → Block → Block → Block
  | 0, _, _, z => z
  | n + 1, x, v, z =>
    gfMulFrom n (x <<< 1) (if v.getLsbD 0 then (v >>> 1) ^^^ gcmR else v >>> 1) (if x.msb then z ^^^ v else z)

/-- The product of two blocks in GF(2^128), GCM bit order (Table 3-5, GFMUL). -/
def gfMul (x y : Block) : Block := gfMulFrom 128 x y 0

/-- GHASH over blocks. -/
def ghash (h : Block) (l : List Block) : Block := l.foldl (fun y x => gfMul (y ^^^ x) h) 0

/-- BINC32: bits [31:0] incremented modulo 2^32. -/
def binc32 (b : Block) : Block := BitVec.ofNat 128 (b.toNat / 2 ^ 32 * 2 ^ 32 + (b.toNat + 1) % 2 ^ 32)

/-- The keystream of counter mode from a counter block on, one XORed block after another. -/
def gctrFrom (key : List Byte) : List (List Byte) → Block → List Byte
  | [], _ => []
  | c :: r, ctr => xorBytes c (blockBytes (aesEncrypt key ctr)) ++ gctrFrom key r (binc32 ctr)

/-- Counter-mode encryption of a string of octets. -/
def gctr (key : List Byte) (icb : Block) (l : List Byte) : List Byte :=
  gctrFrom key (chunks16 (l.length / 16 + 1) l) icb

/-- J0 of a 96-bit IV. -/
def gcmJ0 (iv : Nat) : Block := BitVec.ofNat 128 (iv * 2 ^ 32 + 1)

/-- The GCM tag of associated data and ciphertext. -/
def gcmTag (key : List Byte) (iv : Nat) (aad ct : List Byte) : Block :=
  let h := aesEncrypt key 0
  let lens := BitVec.ofNat 128 (8 * aad.length * 2 ^ 64 + 8 * ct.length)
  ghash h (blocksOf aad ++ blocksOf ct ++ [lens]) ^^^ aesEncrypt key (gcmJ0 iv)

/-- GCM encryption: ciphertext and tag. -/
def gcmEncrypt (key : List Byte) (iv : Nat) (aad pt : List Byte) : List Byte × Block :=
  let ct := gctr key (binc32 (gcmJ0 iv)) pt
  (ct, gcmTag key iv aad ct)

/-- GCM decryption: plaintext, and whether the tag agrees. -/
def gcmDecrypt (key : List Byte) (iv : Nat) (aad ct : List Byte) (tag : Block) : List Byte × Bool :=
  (gctr key (binc32 (gcmJ0 iv)) ct, gcmTag key iv aad ct == tag)

/-! ### Key wrap (RFC 3394) -/

/-- RFC 3394: one of the 6n steps of the wrap: the register A and the n semiblocks. -/
def wrapStep (kek : List Byte) (n : Nat) (x : Nat × List Nat) (t : Nat) : Nat × List Nat :=
  let i := t % n
  let b := (aesEncrypt kek (BitVec.ofNat 128 (x.1 * 2 ^ 64 + x.2.getD i 0))).toNat
  (Nat.xor (b / 2 ^ 64) (t + 1), x.2.set i (b % 2 ^ 64))

/-- RFC 3394: a step undone. -/
def unwrapStep (kek : List Byte) (n : Nat) (x : Nat × List Nat) (t : Nat) : Nat × List Nat :=
  let i := t % n
  let b := (aesDecrypt kek (BitVec.ofNat 128 (Nat.xor x.1 (t + 1) * 2 ^ 64 + x.2.getD i 0))).toNat
  (b / 2 ^ 64, x.2.set i (b % 2 ^ 64))

/-- The semiblocks of a string of octets. -/
def semiblocks (l : List Byte) : List Nat := (List.range (l.length / 8)).map fun i => beNat ((l.drop (8 * i)).take 8)

/-- RFC 3394: a key wrapped. -/
def keyWrap (kek key : List Byte) : List Byte :=
  let r := semiblocks key
  let x := (List.range (6 * r.length)).foldl (wrapStep kek r.length) (0xA6A6A6A6A6A6A6A6, r)
  beBytes 8 x.1 ++ (x.2.map (beBytes 8)).flatten

/-- RFC 3394: a key unwrapped, none where its check fails. -/
def keyUnwrap (kek l : List Byte) : Option (List Byte) :=
  match semiblocks l with
  | [] => none
  | a :: r =>
    let x := (List.range (6 * r.length)).reverse.foldl (unwrapStep kek r.length) (a, r)
    if x.1 == 0xA6A6A6A6A6A6A6A6 && !r.isEmpty then some (x.2.map (beBytes 8)).flatten else none

/-! ### AES-CMAC (SP 800-38B) and the KDF of R490 -/

/-- A subkey doubled. -/
def cmacDouble (b : Block) : Block := if b.msb then (b <<< 1) ^^^ 0x87#128 else b <<< 1

/-- AES-CMAC of a string of octets. -/
def cmac (key msg : List Byte) : Block :=
  let k1 := cmacDouble (aesEncrypt key 0)
  let n := msg.length
  let cs := chunks16 (n / 16 + 1) msg
  let last := cs.getLastD []
  let m := if n ≠ 0 ∧ n % 16 = 0 then blockOf last ^^^ k1
    else blockOf (last ++ [0x80#8]) ^^^ cmacDouble k1
  aesEncrypt key ((cs.dropLast.foldl (fun y c => aesEncrypt key (y ^^^ blockOf c)) 0) ^^^ m)

/-- The SP 800-108 counter-mode KDF of R490 with AES-256-CMAC: `bits` bits from a parent, a label and a context. -/
def kdf (parent label context : List Byte) (bits : Nat) : List Byte :=
  (((List.range ((bits + 127) / 128)).map fun i =>
    blockBytes (cmac parent (beBytes 4 (i + 1) ++ label ++ [0#8] ++ context ++ beBytes 4 bits))).flatten).take (bits / 8)

/-- The octets of an ASCII label. -/
def ascii (s : String) : List Byte := s.toList.map fun c => BitVec.ofNat 8 c.toNat

/-! ### SHA-384 (FIPS 180-4) -/

def shaK0 : List Word :=
  [0x428A2F98D728AE22#64, 0x7137449123EF65CD#64, 0xB5C0FBCFEC4D3B2F#64, 0xE9B5DBA58189DBBC#64,
   0x3956C25BF348B538#64, 0x59F111F1B605D019#64, 0x923F82A4AF194F9B#64, 0xAB1C5ED5DA6D8118#64,
   0xD807AA98A3030242#64, 0x12835B0145706FBE#64, 0x243185BE4EE4B28C#64, 0x550C7DC3D5FFB4E2#64,
   0x72BE5D74F27B896F#64, 0x80DEB1FE3B1696B1#64, 0x9BDC06A725C71235#64, 0xC19BF174CF692694#64,
   0xE49B69C19EF14AD2#64, 0xEFBE4786384F25E3#64, 0x0FC19DC68B8CD5B5#64, 0x240CA1CC77AC9C65#64]
def shaK1 : List Word :=
  [0x2DE92C6F592B0275#64, 0x4A7484AA6EA6E483#64, 0x5CB0A9DCBD41FBD4#64, 0x76F988DA831153B5#64,
   0x983E5152EE66DFAB#64, 0xA831C66D2DB43210#64, 0xB00327C898FB213F#64, 0xBF597FC7BEEF0EE4#64,
   0xC6E00BF33DA88FC2#64, 0xD5A79147930AA725#64, 0x06CA6351E003826F#64, 0x142929670A0E6E70#64,
   0x27B70A8546D22FFC#64, 0x2E1B21385C26C926#64, 0x4D2C6DFC5AC42AED#64, 0x53380D139D95B3DF#64,
   0x650A73548BAF63DE#64, 0x766A0ABB3C77B2A8#64, 0x81C2C92E47EDAEE6#64, 0x92722C851482353B#64]
def shaK2 : List Word :=
  [0xA2BFE8A14CF10364#64, 0xA81A664BBC423001#64, 0xC24B8B70D0F89791#64, 0xC76C51A30654BE30#64,
   0xD192E819D6EF5218#64, 0xD69906245565A910#64, 0xF40E35855771202A#64, 0x106AA07032BBD1B8#64,
   0x19A4C116B8D2D0C8#64, 0x1E376C085141AB53#64, 0x2748774CDF8EEB99#64, 0x34B0BCB5E19B48A8#64,
   0x391C0CB3C5C95A63#64, 0x4ED8AA4AE3418ACB#64, 0x5B9CCA4F7763E373#64, 0x682E6FF3D6B2B8A3#64,
   0x748F82EE5DEFB2FC#64, 0x78A5636F43172F60#64, 0x84C87814A1F0AB72#64, 0x8CC702081A6439EC#64]
def shaK3 : List Word :=
  [0x90BEFFFA23631E28#64, 0xA4506CEBDE82BDE9#64, 0xBEF9A3F7B2C67915#64, 0xC67178F2E372532B#64,
   0xCA273ECEEA26619C#64, 0xD186B8C721C0C207#64, 0xEADA7DD6CDE0EB1E#64, 0xF57D4F7FEE6ED178#64,
   0x06F067AA72176FBA#64, 0x0A637DC5A2C898A6#64, 0x113F9804BEF90DAE#64, 0x1B710B35131C471B#64,
   0x28DB77F523047D84#64, 0x32CAAB7B40C72493#64, 0x3C9EBE0A15C9BEBC#64, 0x431D67C49C100D4C#64,
   0x4CC5D4BECB3E42B6#64, 0x597F299CFC657E2A#64, 0x5FCB6FAB3AD6FAEC#64, 0x6C44198C4A475817#64]
/-- The 80 round constants of SHA-384. -/
def shaK : List Word := shaK0 ++ shaK1 ++ shaK2 ++ shaK3

/-- The initial value of SHA-384. -/
def shaInit : List Word := [0xCBBB9D5DC1059ED8#64, 0x629A292A367CD507#64, 0x9159015A3070DD17#64, 0x152FECD8F70E5939#64, 0x67332667FFC00B31#64, 0x8EB44A8768581511#64, 0xDB0C2E0D64F98FA7#64, 0x47B5481DBEFA4FA4#64]

/-- Rotate right. -/
def rotr (x : Word) (n : Nat) : Word := (x >>> n) ||| (x <<< (64 - n))

/-- The message schedule grown by `n` words (held newest first). -/
def shaSchedule : Nat → List Word → List Word
  | 0, w => w
  | n + 1, w =>
    let a := w.getD 1 0
    let b := w.getD 14 0
    let s1 := rotr a 19 ^^^ rotr a 61 ^^^ (a >>> 6)
    let s0 := rotr b 1 ^^^ rotr b 8 ^^^ (b >>> 7)
    shaSchedule n ((s1 + w.getD 6 0 + s0 + w.getD 15 0) :: w)

/-- One round. -/
def shaRound (v : List Word) (kw : Word) : List Word :=
  match v with
  | [a, b, c, d, e, f, g, h] =>
    let t1 := h + (rotr e 14 ^^^ rotr e 18 ^^^ rotr e 41) + ((e &&& f) ^^^ (~~~e &&& g)) + kw
    let t2 := (rotr a 28 ^^^ rotr a 34 ^^^ rotr a 39) + ((a &&& b) ^^^ (a &&& c) ^^^ (b &&& c))
    [t1 + t2, a, b, c, d + t1, e, f, g]
  | _ => v

/-- One 128-octet block hashed. -/
def shaBlock (h : List Word) (m : List Byte) : List Word :=
  let w0 := (List.range 16).map fun i => BitVec.ofNat 64 (beNat ((m.drop (8 * i)).take 8))
  let w := (shaSchedule 64 w0.reverse).reverse
  List.zipWith (· + ·) h ((List.zipWith (· + ·) shaK w).foldl shaRound h)

/-- The padded message, block by block (`fuel` bounds the blocks). -/
def shaBlocks : Nat → List Word → List Byte → List Word
  | 0, h, _ => h
  | _, h, [] => h
  | f + 1, h, l => shaBlocks f (shaBlock h (l.take 128)) (l.drop 128)

/-- SHA-384 of a string of octets, 48 octets. -/
def sha384 (msg : List Byte) : List Byte :=
  let n := msg.length
  let z := (128 + 111 - n % 128) % 128
  let l := msg ++ [0x80#8] ++ List.replicate z 0#8 ++ beBytes 16 (8 * n)
  (((shaBlocks (l.length / 128 + 1) shaInit l).take 6).map fun w => beBytes 8 w.toNat).flatten

/-! ### CRCs -/

/-- `n` steps of a bit-reflected CRC of 32 bits with reversed polynomial `p`. -/
def crcBits (p : Nat) : Nat → Nat → Nat
  | 0, c => c
  | n + 1, c => crcBits p n (if c % 2 = 1 then Nat.xor (c / 2) p else c / 2)

/-- A bit-reflected 32-bit CRC over octets, before its final XOR. -/
def crcReflected (p init : Nat) (l : List Byte) : Nat :=
  l.foldl (fun c b => crcBits p 8 (Nat.xor c b.toNat)) init

/-- CRC-32C (R52): polynomial 0x1EDC_6F41 bit-reflected, the given initial value, final XOR 0xFFFF_FFFF. -/
def crc32c (init : Nat) (l : List Byte) : Nat := Nat.xor (crcReflected 0x82F63B78 init l) 0xFFFFFFFF

/-- The Ethernet FCS (CRC-32) of the octets of a frame. -/
def crc32 (l : List Byte) : Nat := Nat.xor (crcReflected 0xEDB88320 0xFFFFFFFF l) 0xFFFFFFFF

/-- `n` steps of a most-significant-bit-first CRC of width `w` with polynomial `p`. -/
def crcMsbBits (w p : Nat) : Nat → Nat → Nat
  | 0, c => c
  | n + 1, c => crcMsbBits w p n (if c / 2 ^ (w - 1) % 2 = 1 then Nat.xor (c * 2 % 2 ^ w) p else c * 2 % 2 ^ w)

/-- A most-significant-bit-first CRC of width `w` over octets. -/
def crcMsb (w p init : Nat) (l : List Byte) : Nat :=
  l.foldl (fun c b => crcMsbBits w p 8 (Nat.xor c (b.toNat * 2 ^ (w - 8)))) init

end Sys2Proof.Machine
end

