-- ==== Sys2Proof/Machine/Frames.lean ====
section
/-!
DEFINITION. Ethernet frames and secure frames (Tables 4-1 and 4-2): parsing tags and the SecTAG, the SCI octets, the volley
tag (Table 9-1), the nonce forms (Table 3-7), protection and verification of a frame, and the FCS with its stomp (R159).
Frames are held without their FCS.
-/

namespace Sys2Proof.Machine

/-- The octet at a position, 0 beyond the end. -/
def octet (l : List Byte) (i : Nat) : Nat := (l.getD i 0).toNat

/-- A big-endian number of `n` octets at a position. -/
def beAt (l : List Byte) (i n : Nat) : Nat := beNat (((l.drop i).take n) ++ List.replicate (n - (l.drop i).length) 0)

/-- The 16-bit type field at a position. -/
def typeAt (l : List Byte) (i : Nat) : Nat := beAt l i 2

/-- A VLAN tag's TPID (R131, R132). -/
def isVlan (t : Nat) : Bool := t == 0x8100 || t == 0x88A8

/-- The number of leading VLAN tags from a position, at most `n`. -/
def vlanTags (l : List Byte) : Nat → Nat → Nat
  | 0, _ => 0
  | n + 1, i => if isVlan (typeAt l i) && i + 4 ≤ l.length then vlanTags l n (i + 4) + 1 else 0

/-- TAGGED, VID and PCP of the outermost VLAN tag (R50). -/
def outerTag (l : List Byte) : Bool × Nat × Nat :=
  if isVlan (typeAt l 12) then (true, beAt l 14 2 % 4096, beAt l 14 2 / 8192) else (false, 0, 0)

/-- The EtherType that follows the tags, of which the parse skips eight at most (DESIGN CHOICE, log 63: the spec gives no limit). -/
def frameEtherType (l : List Byte) : Nat := typeAt l (12 + 4 * vlanTags l 8 12)

/-- R159: the four octets of the FCS of a frame as sent, least significant octet first; a stomp complements them. -/
def fcsBytes (l : List Byte) (stomp : Bool) : List Byte :=
  let c := crc32 l
  leBytes 4 (if stomp then Nat.xor c 0xFFFFFFFF else c)

/-- SCI octets 1 to 8 of a word that holds octet m in bits [8m - 1 : 8m - 8]. -/
def sciOctets (w : Word) : List Byte := leBytes 8 w.toNat

/-- The word that holds SCI octets 1 to 8. -/
def sciWord (l : List Byte) : Word := BitVec.ofNat 64 (leNat (l.take 8))

/-! ### The volley tag (Table 9-1) -/

/-- The eight octets of a volley tag. -/
def volleyTag (stream number : Nat) (d l : Bool) : List Byte :=
  [BitVec.ofNat 8 (16 + natOfBool d * 8 + natOfBool l * 4), BitVec.ofNat 8 stream, 0, 0] ++ beBytes 4 (number % 2 ^ 32)

/-- A volley tag read: stream, number bits [31:0], D and L; none when VERSION or a reserved bit is wrong. -/
def parseVolley (l : List Byte) : Option (Nat × Nat × Bool × Bool) :=
  let b := octet l 0
  if b / 16 == 1 && b % 4 == 0 && beAt l 2 2 == 0 && 8 ≤ l.length then
    some (octet l 1, beAt l 4 4, b / 8 % 2 == 1, b / 4 % 2 == 1)
  else none

/-! ### The nonce (Table 3-7) -/

/-- The 96-bit IV of a form: SCI, SSCI, PN or FRAME_COUNT, and SALT. -/
def ivOf (form : Nat) (sci : Word) (ssci pn salt : Nat) : Nat :=
  match form with
  | 1 => beNat (sciOctets sci) * 2 ^ 32 + pn % 2 ^ 32
  | 2 => Nat.xor (ssci % 2 ^ 32 * 2 ^ 64 + pn % 2 ^ 64) salt
  | _ => Nat.xor salt (pn % 2 ^ 64)

/-- The nonce form of a suite: 1 for the 32-bit suites, 2 for the XPN suites, 3 for Kraow-GCM. -/
def formOf (suite : Nat) : Nat := if suite < 2 then 1 else if suite < 4 then 2 else 3

/-! ### The SecTAG (Table 4-2) -/

/-- The SecTAG of a frame and where it lies. -/
structure SecTag where
  /-- clear tags ahead of it -/
  tags : Nat
  es : Bool
  sc : Bool
  scb : Bool
  e : Bool
  c : Bool
  v : Bool
  an : Nat
  sl : Nat
  rsv : Nat
  pn : Nat
  sci : Word
  /-- offset of the secure data -/
  off : Nat
  deriving DecidableEq, Repr

/-- The SecTAG of a frame: EtherType 0x88E5 after at most two clear tags. -/
def parseSecTag (l : List Byte) : Option SecTag :=
  let t := vlanTags l 2 12
  let p := 12 + 4 * t
  if typeAt l p == 0x88E5 then
    let b := octet l (p + 2)
    let sc := b / 32 % 2 == 1
    some { tags := t, v := b / 128 == 1, es := b / 64 % 2 == 1, sc := sc, scb := b / 16 % 2 == 1
           e := b / 8 % 2 == 1, c := b / 4 % 2 == 1, an := b % 4, sl := octet l (p + 3) % 64
           rsv := octet l (p + 3) / 64, pn := beAt l (p + 4) 4
           sci := if sc then sciWord (l.drop (p + 8)) else 0, off := p + (if sc then 16 else 8) }
  else none

/-- Check 2 of Table 4-4: the SecTAG is well formed, SL is consistent and the ICV is present. -/
def SecTag.wellFormed (t : SecTag) (len : Nat) : Bool :=
  !t.v && !(t.es && t.sc) && t.c == t.e && t.rsv == 0 && t.off + 16 ≤ len
    && (if t.sl == 0 then true else t.sl == len - t.off - 16)

/-- The confidentiality offset in octets (Table 2-5). -/
def confBytes (c : Nat) : Nat := match c with
  | 0 => 0
  | 1 => 30
  | _ => 50

/-- A secure frame built from a client frame (Tables 4-1 and 4-2). `vt` holds the volley tag, where present; `bad`
complements the ICV (Table 4-6). -/
def buildSecure (sc : ScEntry) (an ssci pn salt : Nat) (key frame vt : List Byte) (bad : Bool) : List Byte :=
  let kept := min (vlanTags frame 2 12) sc.clearTags
  let head := frame.take 12
  let tags := (frame.drop 12).take (4 * kept)
  let data := vt ++ frame.drop (12 + 4 * kept)
  let tci := natOfBool sc.es * 64 + natOfBool sc.inclSci * 32 + natOfBool sc.scb * 16 + natOfBool sc.encrypt * 12 + an
  let sl := if data.length < 48 then data.length else 0
  let sect := [0x88#8, 0xE5#8, BitVec.ofNat 8 tci, BitVec.ofNat 8 sl] ++ beBytes 4 (pn % 2 ^ 32)
    ++ (if sc.inclSci then sciOctets sc.sci else [])
  let co := if sc.encrypt then confBytes sc.confOff else data.length
  let clear := data.take co
  let (ct, tag) := gcmEncrypt key (ivOf (formOf sc.suite) sc.sci ssci pn salt) (head ++ sect ++ clear) (data.drop co)
  head ++ tags ++ sect ++ clear ++ ct ++ blockBytes (if bad then ~~~tag else tag)

/-- The length of the secure frame of a client frame, FCS included (step 2 of Table 4-3). -/
def secureLength (sc : ScEntry) (frame : List Byte) (vt : Bool) : Nat :=
  frame.length + (if sc.inclSci then 16 else 8) + (if vt then 8 else 0) + 16 + 4

/-- The secure data of a received frame decrypted, and whether its ICV passes (check 8 of Table 4-4). -/
def openSecure (sc : ScEntry) (t : SecTag) (sci : Word) (ssci pn salt : Nat) (key frame : List Byte) : List Byte × Bool :=
  let n := frame.length - 16
  let body := (frame.take n).drop t.off
  let co := if t.e then confBytes sc.confOff else body.length
  let aad := frame.take 12 ++ (frame.take t.off).drop (12 + 4 * t.tags) ++ body.take co
  let (pt, ok) := gcmDecrypt key (ivOf (formOf sc.suite) sci ssci pn salt) aad (body.drop co) (blockOf (frame.drop n))
  (body.take co ++ pt, ok)

/-- R143: the frame delivered: DA, SA, the clear tags as received and the user data. -/
def deliverFrame (t : SecTag) (frame user : List Byte) : List Byte := frame.take (12 + 4 * t.tags) ++ user

/-- R369: buffer cells of a frame of `n` stored octets. -/
def cellsOf (n : Nat) : Nat := n / 256 + (if n % 256 == 0 then 0 else 1)

end Sys2Proof.Machine
end

