-- ==== Sys2Proof/Machine/Keys.lean ====
section
/-!
DEFINITION. The slots of the key store (R499 to R523): reading, installing, erasing and using a key, the wipe requests of
R117 and the journal's requests.
-/

namespace Sys2Proof.Machine

/-! ### Life-cycle state, roles and the journal -/

/-- `LCM_STATE.STATE` (Table 15-3). -/
def State.lcState (s : State) : Nat := s.get LCM_STATE.STATE

/-- The device is in END, or behaves so because no root qualifies (R488). -/
def State.lcEnded (s : State) : Bool := s.lcState == 4 || s.flag LCM_STATE.ROOT_FAIL

/-- The device is libero: `MTL_PAIR_STATUS.ROLE` is one of the LIBERO values (Table 10-2). -/
def State.isLibero (s : State) : Bool := 4 ≤ s.get MTL_PAIR_STATUS.ROLE

/-- The device is the active of a pair. -/
def State.isActivePaired (s : State) : Bool := s.get MTL_PAIR_STATUS.ROLE == 1

/-- R539: the journal is read-only. -/
def State.journalReadOnly (s : State) : Bool := s.flag NVJ_JSTATUS.READ_ONLY

/-- An entry handed to the NVJ for appending (R536); nothing is appended to a read-only journal (R539). -/
def State.journal (typ : Nat) (payload : List Byte) (s : State) : State :=
  if s.journalReadOnly then s else { s with nvj := { s.nvj with queue := s.nvj.queue ++ [⟨typ, payload⟩] } }

/-- The DRBG refuses draws (R520). -/
def State.drbgRefuses (s : State) : Bool := s.kst.drbgStopped || s.flag KST_CTRL.DRBG_FAIL

/-! ### Slots -/

/-- The slot of a key handle. -/
def State.slot (s : State) (kh : Nat) : KeySlot := s.kst.slots.get kh {}

/-- A slot replaced. -/
def State.putSlot (kh : Nat) (sl : KeySlot) (s : State) : State :=
  { s with kst := { s.kst with slots := s.kst.slots.set kh sl {} } }

/-- The key in force in a slot. -/
def State.key? (s : State) (kh : Nat) : Option KeyRec := (s.slot kh).key

/-- The key in force, when it may be used (R509, R514, R517, R522). -/
def State.usableKey? (s : State) (kh : Nat) : Option KeyRec := (s.key? kh).filter fun k => k.cause == 0

/-- R506: the KCV of a key; LEN 0b10 is a P-384 public key. -/
def kcvOf (len : Nat) (key : List Byte) : Nat :=
  if len == 2 then beNat ((sha384 key).take 3) else (cmac key []).toNat / 2 ^ 104

/-- R507, R509: a key takes force in its slot. -/
def State.keyInstall (kh : Nat) (k : KeyRec) (s : State) : State :=
  let sl := s.slot kh
  s.putSlot kh { sl with key := some k, gen := (sl.gen + 1) % 2 ^ 24 }

/-- R507, R508: the key of a slot becomes unusable; an empty slot stays as it is. -/
def State.keyErase (kh : Nat) (s : State) : State :=
  let sl := s.slot kh
  if sl.key.isSome then s.putSlot kh { sl with key := none, gen := (sl.gen + 1) % 2 ^ 24 } else s

/-- R514, R517, R522: a key is disabled with a cause and keeps its slot and its GEN. -/
def State.keyDisable (kh cause : Nat) (s : State) : State :=
  match s.key? kh with
  | some k => s.putSlot kh { s.slot kh with key := some { k with cause := cause } }
  | none => s

/-- A key record that the Bolorn itself writes, without a use limit. -/
def KeyRec.mk0 (purpose dir len : Nat) (vol : Bool) (key : List Byte) (salt : Nat) : KeyRec :=
  { purpose := purpose, dir := dir, len := len, vol := vol, limitEn := false, useLimit := 0, used := 0, checkpoint := 0
    cause := 0, kcv := kcvOf len key, key := key, salt := salt }

/-- The value of `KST_ATTR` that a key was written with. -/
def KeyRec.attrWord (k : KeyRec) : Word :=
  BitVec.ofNat 64 (k.purpose + k.dir * 8 + k.len * 32 + natOfBool k.vol * 128 + natOfBool k.limitEn * 256
    + k.useLimit * 65536)

/-- The payload of a KEY entry (Table 16-10). -/
def KeyRec.payload (kh : Nat) (k : KeyRec) : List Byte :=
  beBytes 4 kh ++ beBytes 8 k.attrWord.toNat ++ beBytes 3 k.kcv ++ [0]
    ++ (k.key ++ List.replicate (96 - k.key.length) 0) ++ beBytes 8 k.checkpoint

/-! ### Uses (R513 to R517) -/

/-- What KST answers to one use of a key. -/
inductive UseResult where
  | ok | refused | waits
  deriving DecidableEq, Repr

/-- A checkpoint of a key handle waits for its commit. -/
def State.ckptPending (s : State) (kh : Nat) : Bool :=
  (s.nvj.queue ++ (s.nvj.prog.toList.map (·.req))).any fun r => r.typ == 3 && r.payload.take 4 == beBytes 4 kh

/-- R517: a checkpoint of min(USED + 1,024, USE_LIMIT) is appended. -/
def State.appendCkpt (kh : Nat) (k : KeyRec) (s : State) : State :=
  s.journal 3 (beBytes 4 kh ++ beBytes 8 (min (k.used + 1024) k.useLimit))

/-- R514, R517: one counted use of a key that has a limit. -/
def State.keyCount (kh : Nat) (k : KeyRec) (s : State) : State :=
  let k1 := { k with used := k.used + 1 }
  let s1 := s.putSlot kh { s.slot kh with key := some k1 }
  let s2 := s1.when (k1.used == k1.useLimit) fun s => (s.keyDisable kh 1).raise 144 2 0 kh
  s2.when (!k.vol && k1.used + 256 == k1.checkpoint) fun s => s.appendCkpt kh k1

/-- R513 to R517: one use of the key of a slot. -/
def State.keyUse (kh : Nat) (s : State) : UseResult × State :=
  match s.usableKey? kh with
  | none => (.refused, s)
  | some k =>
    if !k.limitEn then (.ok, s)
    else if !k.vol && k.checkpoint ≤ k.used then
      if s.journalReadOnly then (.refused, s.keyDisable kh 3)
      else (.waits, s.when (!s.ckptPending kh) fun s => s.appendCkpt kh k)
    else (.ok, s.keyCount kh k)

/-! ### Wipe requests (R117) -/

/-- The engines a wipe request addresses: the region's for a traffic handle, all of them for a long-term handle. -/
def wipeTargets (kh : Nat) : List Nat :=
  if kh < 65536 then (List.range 48).map fun e => 48 * (kh / 16384) + e else List.range 192

/-- A fenced or powered-off engine counts as acknowledged. -/
def State.engineOff (s : State) (e : Nat) : Bool := s.get FEN_ENG.STATE e == 0

/-- R117: the wipe requests of a key handle are sent. -/
def State.startWipe (kh : Nat) (s : State) : State :=
  let ws := (wipeTargets kh).filter fun e => !s.engineOff e
  let rest := s.fen.wipes.filter fun w => w.kh != kh
  { s with fen := { s.fen with wipes := if ws.isEmpty then rest else rest ++ [⟨kh, ws⟩] } }

/-- A wipe of the key handle still waits for acknowledgements. -/
def State.wiping (s : State) (kh : Nat) : Bool := s.fen.wipes.any fun w => w.kh == kh

end Sys2Proof.Machine
end

