-- ==== Sys2Proof/Machine/TblEntry.lean ====
section
/-!
DEFINITION. The entry layouts of Tables 2-3 to 2-6: entries read from staged words and written back as words, the
classification key (R50, R51), its hash (R52) and the lookups (R53).
-/

namespace Sys2Proof.Machine

/-- A field of a staged word. -/
def wbits (d : List Word) (i lo w : Nat) : Nat := (d.getD i 0).bits lo w

/-- A one-bit field of a staged word. -/
def wflag (d : List Word) (i lo : Nat) : Bool := (d.getD i 0).flag lo

/-- A word put together from (position, value) pairs. -/
def mkWord (l : List (Nat × Nat)) : Word := BitVec.ofNat 64 (l.foldl (fun n p => n + p.2 * 2 ^ p.1) 0)

/-! ### Classification entries (Tables 2-3 and 2-4) -/

/-- Byte k of a classification key. -/
def keyByte (key : BitVec 256) (k : Nat) : Nat := (key.toNat / 2 ^ (8 * k)) % 256

/-- KTYPE of a key. -/
def keyType (key : BitVec 256) : Nat := keyByte key 0

/-- The port of a key. -/
def keyPort (key : BitVec 256) : Nat := keyByte key 1

/-- The staged key, byte k in bits [8k + 7 : 8k]. -/
def keyOf (d : List Word) : BitVec 256 :=
  BitVec.ofNat 256 ((d.getD 0 0).toNat + (d.getD 1 0).toNat * 2 ^ 64 + (d.getD 2 0).toNat * 2 ^ 128
    + (d.getD 3 0).toNat * 2 ^ 192)

/-- A key built from its first ten bytes; every other byte is 0 (R50). -/
def keyBytes (l : List Nat) : BitVec 256 := BitVec.ofNat 256 (l.reverse.foldl (fun n b => n * 256 + b % 256) 0)

/-- A TX key (Table 2-3). -/
def txKey (port : Nat) (tagged : Bool) (vid pcp etc : Nat) : BitVec 256 :=
  keyBytes [1, port, natOfBool tagged * 128 + vid / 256 % 16, vid % 256, pcp % 8, etc % 16]

/-- An RX key in Ethernet mode: SCI octet m in bits [8m - 1 : 8m - 8] of the SCI word. -/
def rxEthKey (port : Nat) (sci : Word) : BitVec 256 := keyBytes ([2, port] ++ (List.range 8).map fun m => sci.bits (8 * m) 8)

/-- An RX key in Kraow mode. -/
def rxKraowKey (port trib : Nat) : BitVec 256 := keyBytes [3, port, trib]

/-- R51: a TX key with the fields that `TBL_PORTCFG` excludes set to 0. -/
def State.maskedTxKey (s : State) (port : Nat) (tagged : Bool) (vid pcp etc : Nat) : BitVec 256 :=
  let k := 16 * (port / 8) + port % 8
  let uv := s.flag TBL_PORTCFG.USE_VID k
  txKey port (uv && tagged) (if uv then vid else 0) (if s.flag TBL_PORTCFG.USE_PCP k then pcp else 0)
    (if s.flag TBL_PORTCFG.USE_ETC k then etc else 0)

/-- The bytes of a key that Table 2-3 does not assign, or a field beyond its range, are not 0; or an excluded field is
not 0 (R51). -/
def State.keyBad (s : State) (key : BitVec 256) : Bool :=
  let b := keyByte key
  31 < b 1 ||
  match b 0 with
  | 1 =>
    let k := 16 * (b 1 / 8) + b 1 % 8
    b 2 / 16 % 8 != 0 || 8 ≤ b 4 || 16 ≤ b 5 || key.toNat / 2 ^ 48 != 0
      || (!s.flag TBL_PORTCFG.USE_VID k && (b 2 != 0 || b 3 != 0))
      || (!s.flag TBL_PORTCFG.USE_PCP k && b 4 != 0) || (!s.flag TBL_PORTCFG.USE_ETC k && b 5 != 0)
  | 2 => key.toNat / 2 ^ 80 != 0
  | 3 => 31 < b 2 || key.toNat / 2 ^ 24 != 0
  | _ => true

/-- The result words staged for a classification entry, with RO fields left at 0. -/
def ClsEntry.ofWords (d : List Word) : ClsEntry :=
  { key := keyOf d, action := wbits d 4 1 3, sc := wbits d 4 4 14, cls := wbits d 4 18 3, letEn := wflag d 4 21
    letStream := wbits d 4 22 8, volley := wflag d 4 30, mirror := wflag d 4 31, mirrorQ := wbits d 4 32 12, gen := 0
    cookie := d.getD 5 0 }

/-- RSV bits of the staged result words. -/
def clsRsv (d : List Word) : Bool := wbits d 4 44 4 != 0 || d.getD 6 0 != 0 || d.getD 7 0 != 0

/-- The words that READ and SEARCH return for a classification entry. -/
def ClsEntry.words (e : ClsEntry) : List Word :=
  [BitVec.ofNat 64 e.key.toNat, BitVec.ofNat 64 (e.key.toNat / 2 ^ 64), BitVec.ofNat 64 (e.key.toNat / 2 ^ 128),
   BitVec.ofNat 64 (e.key.toNat / 2 ^ 192),
   mkWord [(0, 1), (1, e.action), (4, e.sc), (18, e.cls), (21, natOfBool e.letEn), (22, e.letStream),
     (30, natOfBool e.volley), (31, natOfBool e.mirror), (32, e.mirrorQ), (48, e.gen)],
   e.cookie, 0, 0]

/-! ### SC entries (Table 2-5) -/

/-- The RW fields staged for an SC entry; the RO fields are those of an entry just inserted. CUR_AN is RW on a TX SC
only. -/
def ScEntry.ofWords (d : List Word) : ScEntry :=
  { en := wflag d 0 1, state := wbits d 0 1 1, rx := wflag d 0 4, kraow := wflag d 0 5, suite := wbits d 0 6 3
    curAn := if wflag d 0 4 then 0 else wbits d 0 9 2, nextAn := wbits d 0 11 2, autoSucc := wflag d 0 13
    inPort := wbits d 0 14 5, clsBound := wflag d 0 19, inCls := wbits d 0 20 3, egPort := wbits d 0 23 5, clsRefs := 0
    sci := d.getD 1 0, window := wbits d 2 0 31, replayProtect := wflag d 2 31, validate := wbits d 2 32 2
    confOff := wbits d 2 34 2, encrypt := wflag d 2 36, clearTags := wbits d 2 37 2, inclSci := wflag d 2 39
    es := wflag d 2 40, scb := wflag d 2 41, trib := wbits d 2 42 5, holdLimit := wbits d 3 0 16, held := false }

/-- A staged SC entry with a non-zero RSV bit or a value out of range. -/
def scBad (d : List Word) : Bool :=
  wbits d 0 28 4 != 0 || wbits d 0 49 15 != 0 || wbits d 2 47 17 != 0 || wbits d 3 16 48 != 0
    || (d.drop 4).any (· != 0) || 4 < wbits d 0 6 3 || 2 ^ 30 < wbits d 2 0 31 || wbits d 2 32 2 == 3
    || wbits d 2 34 2 == 3 || wbits d 2 37 2 == 3

/-- The words that READ returns for an SC entry. -/
def ScEntry.words (e : ScEntry) : List Word :=
  [mkWord [(0, 1), (1, natOfBool e.en), (2, e.state), (4, natOfBool e.rx), (5, natOfBool e.kraow), (6, e.suite),
     (9, e.curAn), (11, e.nextAn), (13, natOfBool e.autoSucc), (14, e.inPort), (19, natOfBool e.clsBound), (20, e.inCls),
     (23, e.egPort), (32, e.clsRefs)],
   e.sci,
   mkWord [(0, e.window), (31, natOfBool e.replayProtect), (32, e.validate), (34, e.confOff), (36, natOfBool e.encrypt),
     (37, e.clearTags), (39, natOfBool e.inclSci), (40, natOfBool e.es), (41, natOfBool e.scb), (42, e.trib)],
   mkWord [(0, e.holdLimit)], 0, 0, 0, 0]

/-! ### SA entries (Table 2-6) -/

/-- The RW fields staged for an SA entry. -/
structure SaStaged where
  en : Bool
  early : Bool
  modeProg : Nat
  pn : Nat
  ssci : Nat
  softLimit : Nat
  deriving DecidableEq, Repr

/-- The RW fields in staged words. -/
def SaStaged.ofWords (d : List Word) : SaStaged :=
  { en := wflag d 0 1, early := wflag d 0 7, modeProg := wbits d 0 8 6, pn := (d.getD 1 0).toNat, ssci := wbits d 2 0 32
    softLimit := wbits d 2 32 32 }

/-- RSV bits of a staged SA entry. -/
def saRsv (d : List Word) : Bool :=
  wbits d 0 14 2 != 0 || wbits d 0 40 24 != 0 || wbits d 3 32 32 != 0 || (d.drop 5).any (· != 0)

/-- The words that READ returns for an SA entry. -/
def SaEntry.words (e : SaEntry) : List Word :=
  [mkWord [(0, 1), (1, natOfBool e.en), (2, e.state), (4, e.life), (7, natOfBool e.early), (8, e.modeProg), (16, e.kcv)],
   BitVec.ofNat 64 e.pn, mkWord [(0, e.ssci), (32, e.softLimit)], mkWord [(0, e.refs)], BitVec.ofNat 64 e.leaseEnd, 0, 0, 0]

/-! ### Reading and writing entries -/

/-- An SC entry in use. -/
def State.sc? (s : State) (i : Nat) : Option ScEntry := s.tbl.sc.get i none

/-- An SC entry replaced. -/
def State.putSc (i : Nat) (e : Option ScEntry) (s : State) : State :=
  { s with tbl := { s.tbl with sc := s.tbl.sc.set i e none } }

/-- An SA entry in use. -/
def State.sa? (s : State) (i : Nat) : Option SaEntry := s.tbl.sa.get i none

/-- An SA entry replaced. -/
def State.putSa (i : Nat) (e : Option SaEntry) (s : State) : State :=
  { s with tbl := { s.tbl with sa := s.tbl.sa.set i e none } }

/-- An SC entry in use changed. -/
def State.onSc (i : Nat) (f : ScEntry → ScEntry) (s : State) : State :=
  match s.sc? i with
  | some e => s.putSc i (some (f e))
  | none => s

/-- An SA entry in use changed. -/
def State.onSa (i : Nat) (f : SaEntry → SaEntry) (s : State) : State :=
  match s.sa? i with
  | some e => s.putSa i (some (f e))
  | none => s

/-- The table unit of a region. -/
def State.unit (s : State) (n : Nat) : TblUnit := s.tbl.units.get n {}

/-- The table unit of a region replaced. -/
def State.putUnit (n : Nat) (u : TblUnit) (s : State) : State :=
  { s with tbl := { s.tbl with units := s.tbl.units.set n u {} } }

/-- The SC of an SA (R42). -/
def scOfSa (sa : Nat) : Nat := sa / 4

/-- The suites with a 32-bit PN. -/
def suite32 (suite : Nat) : Bool := suite < 2

/-! ### Lookup (R52, R53) -/

/-- R52: the bucket of a key. -/
def State.bucket (s : State) (n : Nat) (key : BitVec 256) : Nat :=
  crc32c (s.get TBL_SEED.SEED n) ((List.range 32).map fun k => BitVec.ofNat 8 (keyByte key k)) % 16384

/-- Where a classification entry lies: in the overflow store or in a bucket, with its location. -/
structure ClsLoc where
  ovf : Bool
  loc : Nat
  deriving DecidableEq, Repr

/-- The entry at a location of region n. -/
def State.clsAt (s : State) (n : Nat) (l : ClsLoc) : Option ClsEntry :=
  if l.ovf then s.tbl.ovf.get (1024 * n + l.loc) none else s.tbl.cls.get (65536 * n + l.loc) none

/-- The entry at a location of region n replaced, and `TBL_OCCUPANCY` with it. -/
def State.putCls (n : Nat) (l : ClsLoc) (e : Option ClsEntry) (s : State) : State :=
  let was := (s.clsAt n l).isSome
  if l.ovf then
    let s1 := { s with tbl := { s.tbl with ovf := s.tbl.ovf.set (1024 * n + l.loc) e none } }
    s1.set TBL_OCCUPANCY.OVF_ENTRIES n (s.get TBL_OCCUPANCY.OVF_ENTRIES n + natOfBool e.isSome - natOfBool was)
  else
    let s1 := { s with tbl := { s.tbl with cls := s.tbl.cls.set (65536 * n + l.loc) e none } }
    s1.set TBL_OCCUPANCY.BUCKET_ENTRIES n (s.get TBL_OCCUPANCY.BUCKET_ENTRIES n + natOfBool e.isSome - natOfBool was)

/-- R53: the location of a key: one of the four ways of its bucket, or an overflow entry. -/
def State.clsFind (s : State) (n : Nat) (key : BitVec 256) : Option ClsLoc :=
  let b := s.bucket n key
  match (List.range 4).find? (fun w => (s.clsAt n ⟨false, 4 * b + w⟩).any fun e => e.key == key) with
  | some w => some ⟨false, 4 * b + w⟩
  | none =>
    (s.tbl.ovf.find? fun x => x.1 / 1024 == n && x.2.any fun e => e.key == key).map fun x => ⟨true, x.1 % 1024⟩

/-- R54: where INSERT places a key: the lowest free way, else the lowest free overflow entry. -/
def State.clsFree (s : State) (n : Nat) (key : BitVec 256) : Option ClsLoc :=
  let b := s.bucket n key
  match (List.range 4).find? (fun w => (s.clsAt n ⟨false, 4 * b + w⟩).isNone) with
  | some w => some ⟨false, 4 * b + w⟩
  | none => ((List.range 1024).find? fun i => (s.clsAt n ⟨true, i⟩).isNone).map fun i => ⟨true, i⟩

/-- The entry a lookup finds. -/
def State.lookup (s : State) (n : Nat) (key : BitVec 256) : Option ClsEntry :=
  (s.clsFind n key).bind fun l => s.clsAt n l

/-- R69: the EtherType class. -/
def State.etClass (s : State) (n etype : Nat) : Nat :=
  match (List.range 15).find? fun i => s.flag TBL_ETCLASS.VALID (15 * n + i) && s.get TBL_ETCLASS.ETYPE (15 * n + i) == etype with
  | some i => i + 1
  | none => 0

end Sys2Proof.Machine
end

