-- ==== Sys2Proof/Machine/Sa.lean ====
section
/-!
DEFINITION. The life of an SA (R45 to R49, R699): retirement, activation, the deuce (R173 to R176), the SC that follows its
SAs (R74), PN leases of a device that grants its own (R358, R361), and the references of R72.
-/

namespace Sys2Proof.Machine

/-- LIFE INSTALLED, ACTIVE or DEUCE: frames may be bound (R73). -/
def SaEntry.live (a : SaEntry) : Bool := a.life < 3

/-- The region of an SA or of its SC. -/
def saRegion (sa : Nat) : Nat := sa / 16384

/-- The line port is ACTIVE (BSTATE 0b101) and not disabled (R280). -/
def State.linePortActive (s : State) (p : Nat) : Bool := s.get LPX_PORT_STATUS.BSTATE p == 5 && s.get LPX_PORT_CTRL.STATE p == 1

/-- R74: the SAs of an SC hold no reference. -/
def State.scIdle (s : State) (sc : Nat) : Bool :=
  (List.range 4).all fun an => match s.sa? (4 * sc + an) with
    | some a => a.refs == 0
    | none => true

/-- R74, R32: the shut-down of an SC completes once REFS of all its SAs is 0. -/
def State.scSettle (sc : Nat) (s : State) : State :=
  match s.sc? sc with
  | some e => if 2 ≤ e.state && s.scIdle sc then s.putSc sc (some { e with state := e.state - 2 }) else s
  | none => s

/-- A reference of an SA taken (R72). -/
def State.saRef (sa : Nat) (s : State) : State := s.onSa sa fun a => { a with refs := a.refs + 1 }

/-- A reference of an SA given back (R72); an SC that shuts down may reach OFF (R74). -/
def State.saUnref (sa : Nat) (s : State) : State :=
  (s.onSa sa fun a => { a with refs := a.refs - 1 }).scSettle (scOfSa sa)

/-- R46, R699: an SA goes to RETIRING, with EN cleared and the wipe request of R117 sent; a deuce that ends so raises the
deuce-end event (R176). -/
def State.saRetire (sa : Nat) (s : State) : State :=
  match s.sa? sa with
  | some a =>
    if a.live then
      let s1 := (s.putSa sa (some { a with en := false, state := 2, life := 3 })).startWipe sa
      s1.when (a.life == 2) fun s => s.raise (114 + 8 * saRegion sa) 3 sa
    else s
  | none => s

/-- The SA of an SC in a given LIFE. -/
def State.saInLife (s : State) (sc life : Nat) : Option Nat :=
  ((List.range 4).map (4 * sc + ·)).find? fun sa => (s.sa? sa).any fun a => a.life == life

/-- R46: a TX SA becomes ACTIVE, and the previous ACTIVE SA of its SC goes to RETIRING. -/
def State.saActivateTx (sa : Nat) (s : State) : State :=
  let s1 := match s.saInLife (scOfSa sa) 1 with
    | some old => if old == sa then s else s.saRetire old
    | none => s
  s1.onSa sa fun a => if a.life == 0 then { a with life := 1, softSeen := false } else a

/-- R46, R47, R173: an RX SA becomes ACTIVE at its first valid frame; the previous ACTIVE SA goes to DEUCE and a previous
DEUCE SA to RETIRING. CUR_AN of an RX SC reads the AN of the ACTIVE SA. -/
def State.saActivateRx (sa : Nat) (s : State) : State :=
  match s.sa? sa with
  | some a =>
    if a.life == 0 then
      let sc := scOfSa sa
      let s1 := match s.saInLife sc 2 with
        | some d => s.saRetire d
        | none => s
      let s2 := match s1.saInLife sc 1 with
        | some old => s1.onSa old fun o => { o with life := 2 }
        | none => s1
      (s2.onSa sa fun a => { a with life := 1, softSeen := false }).onSc sc fun e => { e with curAn := sa % 4 }
    else s
  | none => s

/-- R174, R175: the deuce of an SA ends by a timer. -/
def State.deuceEnd (sa : Nat) (s : State) : State :=
  match s.sa? sa with
  | some a => if a.life == 2 then s.saRetire sa else s
  | none => s

/-- LEASE_END of the two leases that a device granting its own leases holds from a PN on (R361). -/
def leaseAlone (pn : Nat) : Nat := (pn / 2 ^ 20 + 2) * 2 ^ 20 - 1

/-- LEASE_END after INSERT, or after a MODIFY of PN: in a pair the initial lease alone (R361). -/
def State.leaseInit (s : State) (rx : Bool) (pn : Nat) : Nat :=
  if rx then 0 else if s.isActivePaired || s.isLibero then (pn / 2 ^ 20 + 1) * 2 ^ 20 - 1
  else min (leaseAlone pn) (2 ^ 64 - 1)

/-- R57, R516: the key in an SA's slot meets the checks of an enable. -/
def State.saKeyOk (s : State) (sa : Nat) (sc : ScEntry) : Bool :=
  match s.key? sa with
  | some k =>
    k.purpose == 0 && (if sc.rx then 2 ≤ k.dir else k.dir % 2 == 1)
      && k.len == (if sc.suite == 0 || sc.suite == 2 then 0 else 1) && !(k.limitEn && sc.suite == 4)
  | none => false

/-- The KCV of the key in an SA's slot. -/
def State.saKcv (s : State) (sa : Nat) : Nat := (s.key? sa).elim 0 (·.kcv)


/-- The Ethernet-mode RX SC of an SA. -/
def State.deuceApplies (s : State) (sa : Nat) : Bool := (s.sc? (scOfSa sa)).any fun e => e.rx && !e.kraow

/-- DEUCE_WINDOW_EXPIRY (R174): WINDOW ms have passed since the SA entered DEUCE. -/
def execDeuceWindowExpiry (sa : Fin 65536) (s : State) : Host.Outcome State Fault Refusal :=
  finish (if s.deuceApplies sa then s.deuceEnd sa else s)

/-- DEUCE_IDLE_EXPIRY (R174): IDLE ms have passed without a frame accepted under the DEUCE SA; an IDLE of 0 turns the early
end off. -/
def execDeuceIdleExpiry (sa : Fin 65536) (s : State) : Host.Outcome State Fault Refusal :=
  finish (if s.deuceApplies sa && s.get SAT_DEUCE_CFG.IDLE (saRegion sa) != 0 then s.deuceEnd sa else s)

/-- TBL_REF_STALL (R64): REFS of an SA under DELETE or disable is not 0 after 10 ms. -/
def execTblRefStall (sa : Fin 65536) (s : State) : Host.Outcome State Fault Refusal :=
  finish (if (s.sa? sa).any fun a => a.life == 3 && a.refs != 0 then s.raise (113 + 8 * saRegion sa) 2 sa else s)

end Sys2Proof.Machine
end

