-- ==== Sys2Proof/Machine/Stats.lean ====
section
/-!
DEFINITION. The per-SA statistics (R169 to R171) and the PN that a frame burns (R119, R167).
-/

namespace Sys2Proof.Machine

/-- Counter i of a record. -/
def StatRec.ctr (r : StatRec) (i : Nat) : Nat :=
  match i with
  | 0 => r.c0
  | 1 => r.c1
  | 2 => r.c2
  | 3 => r.c3
  | 4 => r.c4
  | 5 => r.c5
  | 6 => r.c6
  | _ => r.c7

/-- Counter i of a record raised, modulo 2^64. -/
def StatRec.add (r : StatRec) (i d : Nat) : StatRec :=
  match i with
  | 0 => { r with c0 := (r.c0 + d) % 2 ^ 64 }
  | 1 => { r with c1 := (r.c1 + d) % 2 ^ 64 }
  | 2 => { r with c2 := (r.c2 + d) % 2 ^ 64 }
  | 3 => { r with c3 := (r.c3 + d) % 2 ^ 64 }
  | 4 => { r with c4 := (r.c4 + d) % 2 ^ 64 }
  | 5 => { r with c5 := (r.c5 + d) % 2 ^ 64 }
  | 6 => { r with c6 := (r.c6 + d) % 2 ^ 64 }
  | _ => { r with c7 := (r.c7 + d) % 2 ^ 64 }

/-- A counter of an SA's record raised; a record whose SA was not inserted since the device reset stays at zero (R170).
TX records: 0 PROTECTED, 1 ENCRYPTED, 2 OCTETS_PROT, 3 OCTETS_ENC, 4 PN_SKIPPED, 5 STOMPED, 6 HELD_DROP, 7 TOO_LONG.
RX records: 0 OK, 1 ICV_FAIL, 2 LATE, 3 DELAYED, 4 NOT_USING_SA, 5 OCTETS_VALID, 6 OCTETS_DEC, 7 EARLY_STOMP. -/
def State.stat (sa i : Nat) (d : Nat) (s : State) : State :=
  if sa ∈ s.tbl.inserted then
    { s with tbl := { s.tbl with stat := s.tbl.stat.set sa ((s.tbl.stat.get sa {}).add i d) {} } }
  else s

/-- R119, R167: a burned PN is counted in PN_SKIPPED of the SA that assigned it. -/
def State.burn (it : Item) (s : State) : State :=
  match it.sa with
  | some sa => if it.burns then s.stat sa 4 1 else s
  | none => s

/-- The counters of a record into `SAT_TXSTAT` or `SAT_RXSTAT` of region n, the other register zeroed (R169). -/
def State.statCopy (n sa : Nat) (s : State) : State :=
  let r := s.tbl.stat.get sa {}
  let s1 := (s.resetReg .SAT_TXSTAT n).resetReg .SAT_RXSTAT n
  let s2 := s1.forN 8 fun i s => s.setWord (if r.rx then .SAT_RXSTAT else .SAT_TXSTAT) n i (BitVec.ofNat 64 (r.ctr i))
  (s2.set SAT_STAT_STATUS.DIR n (natOfBool r.rx)).set SAT_STAT_STATUS.SA n sa

/-- R169: the snapshot of an SA's counters, as of this cycle. -/
def State.statCmd (n sa : Nat) (clear : Bool) (s : State) : State :=
  if s.flag SAT_STAT_STATUS.BUSY n then s
  else if saRegion sa != n then s.set SAT_STAT_STATUS.ERR n 1
  else
    let s1 := (s.statCopy n sa).set SAT_STAT_STATUS.BUSY n 1
    let r := s.tbl.stat.get sa {}
    if clear then { s1 with tbl := { s1.tbl with stat := s1.tbl.stat.set sa { rx := r.rx } {} } } else s1

/-- SAT_STAT_CMD (R169). -/
def execSatStatCmd (n : Fin 4) (sa : Fin 65536) (clear : Bool) (s : State) : Host.Outcome State Fault Refusal :=
  finish (s.statCmd n sa clear)

/-- SAT_STAT_END (R169): the copy completes. -/
def execSatStatEnd (n : Fin 4) (s : State) : Host.Outcome State Fault Refusal :=
  finish (s.set SAT_STAT_STATUS.BUSY n 0)

end Sys2Proof.Machine
end

