-- ==== Sys2Proof/Machine/PathOps.lean ====
section
/-!
DEFINITION. The places that hold frames: sequencers, the reorder stage (R108) and the frames sent; what a frame becomes when
its engine ends it (Table 4-1, R143), and the frames that are ended by a stomp (R159, R160).
-/

namespace Sys2Proof.Machine

/-! ### Sequencers and the reorder stage -/

/-- The sequencer q of region n: 0 to 7 client ports, 8 to 15 line ports. -/
def State.seq (s : State) (k : Nat) : SeqPort := s.path.seqs.get k {}

/-- Sequencer `16n + q` changed. -/
def State.onSeq (k : Nat) (f : SeqPort → SeqPort) (s : State) : State :=
  { s with path := { s.path with seqs := s.path.seqs.set k (f (s.seq k)) {} } }

/-- The sequencer of a port: 0 to 31 client, 32 to 63 line. -/
def seqOf (port : Nat) : Nat := if port < 32 then 16 * (port / 8) + port % 8 else 16 * ((port - 32) / 8) + 8 + port % 8

/-- The region of a port. -/
def portRegion (port : Nat) : Nat := port % 32 / 8

/-- The row of a port in its region's tables of sixteen rows. -/
def portRow (port : Nat) : Nat := seqOf port

/-- The reorder queue of a sequencer and class (R108). -/
def State.ro (s : State) (k cls : Nat) : List RoEntry := s.path.reorder.get (8 * k + cls) []

/-- A reorder queue replaced. -/
def State.putRo (k cls : Nat) (l : List RoEntry) (s : State) : State :=
  { s with path := { s.path with reorder := s.path.reorder.set (8 * k + cls) l [] } }

/-- The entry of a reorder number replaced. -/
def State.roSet (k cls num : Nat) (st : RoState) (s : State) : State :=
  s.putRo k cls ((s.ro k cls).map fun e => if e.num == num then { e with st := st } else e)

/-- How the entry of a reorder number stands. -/
def State.roGet (s : State) (k cls num : Nat) : Option RoState :=
  ((s.ro k cls).find? fun e => e.num == num).map (·.st)

/-- A new reorder number of a port and class, with its first standing (R108). -/
def State.roAdd (k cls : Nat) (st : RoState) (s : State) : Nat × State :=
  let num := (s.seq k).nums.get cls 0
  (num, (s.onSeq k fun x => { x with nums := x.nums.set cls (num + 1) 0 }).putRo k cls (s.ro k cls ++ [⟨num, st⟩]))

/-! ### Deficit round-robin (R370, R412, R414, R416) -/

/-- The class visited after a class. -/
def nextClass (top c : Nat) : Nat := if c == 0 || top < c then top else c - 1

/-- A visit to a class begins (R414, step 1): `len` is the length of what it can send now, `holds` whether it holds anything. -/
def Sched.arrive (x : Sched) (quantum : Nat → Nat) (len : Nat → Option Nat) (holds : Nat → Bool) (c : Nat) : Sched :=
  let d := x.deficits.getD c 0
  { visiting := some c
    deficits := x.deficits.set c (if (len c).isSome then d + quantum c else if holds c then d else 0) }

/-- The round-robin from the visit under way, from class `top` down: the class to send from and the scheduler after it. -/
def drrPick (quantum : Nat → Nat) (len : Nat → Option Nat) (holds : Nat → Bool) (top : Nat) : Nat → Sched → Option (Nat × Sched)
  | 0, _ => none
  | k + 1, x =>
    match x.visiting with
    | none => drrPick quantum len holds top k (x.arrive quantum len holds top)
    | some c =>
      let d := x.deficits.getD c 0
      match len c with
      | some n =>
        if n ≤ d then some (c, { x with deficits := x.deficits.set c (d - n) })
        else drrPick quantum len holds top k (x.arrive quantum len holds (nextClass top c))
      | none =>
        let x1 := if holds c then x else { x with deficits := x.deficits.set c 0 }
        drrPick quantum len holds top k (x1.arrive quantum len holds (nextClass top c))

/-! ### Sending -/

/-- Octets sent on a port, the newest last. -/
def State.send (port : Nat) (bytes : List Byte) (s : State) : State :=
  { s with path := { s.path with sent := s.path.sent.set port (s.path.sent.get port [] ++ [bytes]) [] } }

/-- A frame sent with its FCS, stomped or not (R159), and counted in TX_FRAMES (Table 22-1). -/
def State.sendFrame (port : Nat) (frame : List Byte) (stomp : Bool) (s : State) : State :=
  (s.send port (frame ++ fcsBytes frame stomp)).when (port < 64) fun s => s.pmcEvent (portRegion port) 3 (portRow port % 16) 1

/-! ### What an engine makes of a frame -/

/-- The let stream of an entry. -/
def ClsEntry.stream (e : ClsEntry) : Option Nat := if e.letEn then some e.letStream else none

/-- The key octets and the salt of an SA's slot. -/
def State.saKeySalt (s : State) (sa : Nat) : List Byte × Nat := (s.key? sa).elim ([], 0) fun k => (k.key, k.salt)

/-- The volley tag of an item, where the secure frame carries one (Table 4-1). -/
def Item.volley (it : Item) : List Byte :=
  match it.stream with
  | some st => volleyTag st it.number it.dBit it.lBit
  | none => []

/-- R130, R134 step 5: the secure frame of a TX item; `bad` complements the ICV (Table 4-6). -/
def State.protect (s : State) (it : Item) (bad : Bool) : List Byte :=
  match it.scFields, it.sa with
  | some sc, some sa =>
    let (key, salt) := s.saKeySalt sa
    buildSecure sc (sa % 4) ((s.sa? sa).elim 0 (·.ssci)) it.pn salt key it.data it.volley bad
  | _, _ => it.data

/-- R171: the user-data octets of a TX frame. -/
def Item.userOctets (it : Item) : Nat :=
  match it.scFields with
  | some sc => it.data.length - 12 - 4 * min (vlanTags it.data 2 12) sc.clearTags
  | none => it.data.length

/-- R160: a TX frame that is leaving by cut-through is ended: ICV complemented, FCS stomped, STOMPED counted and its PN
burned. `keep` octets of it had been sent when it is cut short. -/
def State.stompTx (port : Nat) (it : Item) (keep : Option Nat) (s : State) : State :=
  let full := s.protect it true
  let bytes := match keep with
    | some k => full.take (k % (full.length - 15)) ++ full.drop (full.length - 16)
    | none => full
  let s1 := s.sendFrame port bytes true
  match it.sa with
  | some sa => (s1.stat sa 5 1).burn it
  | none => s1

/-- R155: an early-released RX frame whose ICV failed: zeros for what was not released, and a stomped FCS. -/
def State.stompRx (port : Nat) (it : Item) (s : State) : State :=
  let bytes := it.data.take it.released ++ List.replicate (it.data.length - it.released) 0
  let s1 := s.sendFrame port bytes true
  match it.sa with
  | some sa => s1.stat sa 7 1
  | none => s1

end Sys2Proof.Machine
end

