-- ==== Sys2Proof/Machine/Ring.lean ====
section
/-!
DEFINITION. Ring completions (R607, R611, R613, R621): descriptors are written back in ring order and completion events are raised.
-/

namespace Sys2Proof.Machine

/-- A ring. -/
def State.ring (s : State) (r : Nat) : Ring := s.hif.rings.get r {}

/-- A ring changed. -/
def State.onRing (r : Nat) (f : Ring → Ring) (s : State) : State :=
  { s with hif := { s.hif with rings := s.hif.rings.set r (f (s.ring r)) {} } }

/-- A free-running count of a doorbell page (R606). -/
def ringCount (n : Nat) : Nat := n % 131072

/-- Descriptors that the ring holds for the Bolorn. -/
def Ring.posted (x : Ring) : Nat := ringCount (x.tail + 131072 - x.fetched)

/-- The event source of a ring (Table 19-10). -/
def ringSource (r : Nat) : Nat := 256 + r % 256

/-- R621: `n` descriptors have been written back; completions are counted, and reported once COAL_N are due. -/
def State.ringReport (r n : Nat) (ok : Bool) (s : State) : State :=
  let x := s.ring r
  let un := x.unreported + n
  let s1 := (s.dmaOctets (32 * n)).when (!ok) fun s => s.raise (ringSource r) 3 r n
  if s.get HIF_RING_CFG.COAL_N r ≤ un then
    (s1.onRing r fun x => { x with unreported := 0 }).raise (ringSource r) (if r < 256 then 1 else 2) r un
  else s1.onRing r fun x => { x with unreported := un }

/-- A frame of a ring that has ended is counted in `HIF_RING_STAT`. -/
def State.ringCountFrame (r : Nat) (ok : Bool) (s : State) : State :=
  s.inc (if ok then HIF_RING_STAT.FRAMES else HIF_RING_STAT.ERRORS) r

/-- Words of a transmit descriptor as written back (Table 19-4). -/
def txBack (d : List Word) (status : Nat) (time : Option Word) : List Word :=
  [d.getD 0 0, d.getD 1 0, time.getD (d.getD 2 0), ((d.getD 3 0).setBits 16 8 status).setBits 32 1 1]

/-- R607: the transmit frames at the front of a ring that have ended are written back. -/
def State.ringSettle : Nat → Nat → State → State
  | 0, _, s => s
  | k + 1, r, s =>
    match (s.ring r).txq with
    | [] => s
    | f :: rest =>
      match f.done with
      | none => s
      | some (status, time) =>
        let n := f.descs.length
        let wbs := (List.range n).map fun i =>
          ({ idx := ringCount (f.first + i), words := txBack (f.descs.getD i []) status (if i == 0 then time else none), data := [] } : RingWb)
        let s1 := s.onRing r fun x => { x with txq := rest, head := ringCount (f.first + n), wbs := x.wbs ++ wbs }
        ((s1.ringCountFrame r (status == 0)).ringReport r n (status == 0)).ringSettle k r

/-- A transmit frame ends with a STATUS (Table 19-6), and a time for a TWO_STEP frame. -/
def State.ringComplete (r id status : Nat) (time : Option Word) (s : State) : State :=
  let mark := fun (f : TxFrame) => if f.id == id && f.done.isNone then { f with done := some (status, time) } else f
  let s1 := s.onRing r fun x => { x with txq := x.txq.map mark }
  s1.ringSettle (s1.ring r).txq.length r

/-- The completion of the frame of an item, where it came from a ring. -/
def State.itemComplete (it : Item) (status : Nat) (time : Option Word) (s : State) : State :=
  match it.ring with
  | some (r, id, _) => s.ringComplete r id status time
  | none => s


end Sys2Proof.Machine
end

