-- ==== Sys2Proof/Machine/Buffers.lean ====
section
/-!
DEFINITION. Ports that exist (Table 8-2), the buffer cells of a region and their accounts (R369, R377 to R384), the PFC frames
that pause a partner (R297), and the ingress meters (R421 to R428).
-/

namespace Sys2Proof.Machine

/-! ### Ports -/

/-- Table 8-2: lanes per port of a port mode. -/
def modeLanes (pmode : Nat) : Nat :=
  match pmode with
  | 0 => 8
  | 1 => 4
  | 2 => 2
  | 3 => 1
  | 4 => 1
  | 5 => 8
  | 6 => 4
  | 7 => 2
  | 8 => 2
  | _ => 1

/-- Table 8-2: the port rate of a port mode, in Gb/s. -/
def modeRate (pmode : Nat) : Nat :=
  match pmode with
  | 0 => 1600
  | 1 => 800
  | 2 => 400
  | 3 => 200
  | 4 => 100
  | 5 => 800
  | 6 => 400
  | 7 => 200
  | _ => 100

/-- PMODE of the complex of a port (0 to 31 client, 32 to 63 line). -/
def State.portMode (s : State) (p : Nat) : Nat := if p < 32 then s.get CPX_CFG.PMODE (p / 8) else s.get LPX_CFG.PMODE (p / 8 - 4)

/-- R276: the port exists. -/
def State.portExists (s : State) (p : Nat) : Bool := p % 8 % modeLanes (s.portMode p) == 0

/-- The port rate, in Gb/s. -/
def State.portRate (s : State) (p : Nat) : Nat := modeRate (s.portMode p)

/-- A field of a port's control register. -/
def State.portCtl (s : State) (c l : Field) (p : Nat) : Nat := if p < 32 then s.get c p else s.get l (p - 32)

/-- BSTATE of a port. -/
def State.bstate (s : State) (p : Nat) : Nat := s.portCtl CPX_PORT_STATUS.BSTATE LPX_PORT_STATUS.BSTATE p

/-- STATE of a port. -/
def State.portState (s : State) (p : Nat) : Nat := s.portCtl CPX_PORT_CTRL.STATE LPX_PORT_CTRL.STATE p

/-- A port is up (R280): ACTIVE and not disabled. -/
def State.portUp (s : State) (p : Nat) : Bool := s.bstate p == 5 && s.portState p == 1

/-- A port has EXPRESS = 1. -/
def State.portExpress (s : State) (p : Nat) : Bool := s.portCtl CPX_PORT_CTRL.EXPRESS LPX_PORT_CTRL.EXPRESS p == 1

/-- A port's PFC_TX bit of a class. -/
def State.pfcTx (s : State) (p c : Nat) : Bool := (s.portCtl CPX_PORT_CTRL.PFC_TX LPX_PORT_CTRL.PFC_TX p).testBit c

/-- A line port runs in Kraow mode. -/
def State.isKraow (s : State) (p : Nat) : Bool := 32 ≤ p && s.flag LPX_PORT_CTRL.KRAOW (p - 32)

/-- The port of a row of a region's tables of sixteen rows. -/
def rowPort (n k : Nat) : Nat := if k < 8 then 8 * n + k else 32 + 8 * n + (k - 8)

/-! ### PFC frames -/

/-- A PFC frame of a port for the classes of a mask, with one quanta value (R297). -/
def pfcFrame (p mask quanta : Nat) : List Byte :=
  let f := beBytes 6 0x0180C2000001 ++ beBytes 6 (Config.portMac p).toNat ++ beBytes 2 0x8808 ++ beBytes 2 0x0101
    ++ beBytes 2 mask ++ ((List.range 8).map fun c => beBytes 2 (if mask.testBit c then quanta else 0)).flatten
  f ++ List.replicate (60 - f.length) 0

/-! ### Accounts (R377 to R384) -/

/-- The account of a row and class of a region: 128n + 8k + c. -/
def State.account (s : State) (a : Nat) : Account := s.q.accounts.get a {}

/-- An account replaced. -/
def State.putAccount (a : Nat) (x : Account) (s : State) : State :=
  { s with q := { s.q with accounts := s.q.accounts.set a x {} } }

/-- The account of a port and class. -/
def accountOf (port cls : Nat) : Nat := 8 * portRow port + cls

/-- The classes of a port whose pause is requested. -/
def State.pausedMask (s : State) (p : Nat) : Nat :=
  (List.range 8).foldl (fun m c => if (s.account (accountOf p c)).paused && s.pfcTx p c then m + 2 ^ c else m) 0

/-- The MAC of a port sends now (Table 8-6, R294): the port is up, receives no fault, and the device is not libero. -/
def State.macSends (s : State) (p : Nat) : Bool :=
  s.portUp p && !s.isLibero && (s.isKraow p || s.portCtl CPX_PORT_STATUS.LF_RF LPX_PORT_STATUS.LF_RF p == 0)

/-- A PFC frame leaves on a port, where its MAC sends. -/
def State.sendPfc (p mask quanta : Nat) (s : State) : State :=
  if s.macSends p && !s.isKraow p && mask != 0 then s.sendFrame p (pfcFrame p mask quanta) false else s

/-- Cells of an account field, in cells (four times the field's value). -/
def State.ingCells (s : State) (f : Field) (a : Nat) : Nat := 4 * s.get f a

/-- R384: a pause is requested or withdrawn as U stands against XOFF. -/
def State.pauseCheck (a : Nat) (s : State) : State :=
  let n := a / 128
  let p := rowPort n (a / 8 % 16)
  let c := a % 8
  let x := s.account a
  let xoff := s.ingCells FAB_ING_CFG.XOFF a
  if !s.pfcTx p c then s
  else if !x.paused && xoff ≤ x.cells then
    let s1 := s.putAccount a { x with paused := true }
    s1.sendPfc p (s1.pausedMask p) 0xFFFF
  else if x.paused && x.cells + 16 * (s.get FAB_ING_CFG.HYST a + 1) ≤ xoff then
    (s.putAccount a { x with paused := false }).sendPfc p (2 ^ c) 0
  else s

/-- R297, R384: a write of PFC_TX (`old` before it): a class whose bit is cleared withdraws its pause with quanta 0, and one whose bit
is set is judged against XOFF (DESIGN CHOICE, log 63). -/
def State.pfcTxWritten (p old : Nat) (s : State) : State :=
  s.forN 8 fun c s =>
    let a := accountOf p c
    if old.testBit c && !s.pfcTx p c && (s.account a).paused then
      (s.putAccount a { s.account a with paused := false }).sendPfc p (2 ^ c) 0
    else if !old.testBit c then s.pauseCheck a else s

/-- The ports of a region that exist. -/
def State.regionPorts (s : State) (n : Nat) : List Nat :=
  ((List.range 16).map (rowPort n)).filter fun p => s.portExists p

/-- The queues of a region that hold cells and are not OFF (R379). -/
def State.cellQueues (s : State) (n : Nat) : List Nat :=
  ((List.range 1024).map (1024 * n + ·)).filter fun q =>
    let r := s.get QMG_QCFG.ROLE q
    s.get QMG_QCFG.STATE q != 0 && (r == 1 || r == 2 || r == 5)

/-- The accounts of a region's existing ports. -/
def State.regionAccounts (s : State) (n : Nat) : List Nat :=
  ((s.regionPorts n).map fun p => (List.range 8).map fun c => accountOf p c).flatten

/-- A sum over a list. -/
def sumOf {α : Type} (l : List α) (f : α → Nat) : Nat := l.foldl (fun n a => n + f a) 0

/-- The guaranteed part of a region (R379). -/
def State.guaranteed (s : State) (n : Nat) : Nat :=
  sumOf (s.regionAccounts n) (s.ingCells FAB_ING_CFG.MIN) + sumOf (s.cellQueues n) fun q => 4 * s.get QMG_QCFG.MIN q

/-- The headroom of a region (R379). -/
def State.headroom (s : State) (n : Nat) : Nat :=
  sumOf (s.regionAccounts n) fun a => if s.pfcTx (rowPort n (a / 8 % 16)) (a % 8) then s.ingCells FAB_ING_CFG.HDRM a else 0

/-- The completion reserve of a region (R379). -/
def State.complReserve (s : State) (n : Nat) : Nat := 256 * (s.regionPorts n).length

/-- The size of the shared pool of a region (R379), negative when the reservations exceed the cells. -/
def State.poolSize (s : State) (n : Nat) : Int :=
  98304 - (s.q.lostCells.get n 0 : Int) - s.guaranteed n - s.headroom n - s.complReserve n

/-- The cells charged to a queue. -/
def State.queueCellsOf (s : State) (q : Nat) : Nat := s.get QMG_QSTAT.CELLS q

/-- Cells of the shared pool in use: what accounts and queues hold beyond their MIN and their headroom. -/
def State.poolUsed (s : State) (n : Nat) : Nat :=
  sumOf (s.regionAccounts n) (fun a => (s.account a).cells - (s.account a).hdrm - s.ingCells FAB_ING_CFG.MIN a)
    + sumOf (s.cellQueues n) fun q => s.queueCellsOf q - 4 * s.get QMG_QCFG.MIN q

/-- Free cells of the shared pool. -/
def State.poolFree (s : State) (n : Nat) : Nat := (s.poolSize n - s.poolUsed n).toNat

/-- `FAB_BUF_STATUS` of a region recomputed. -/
def State.bufShow (n : Nat) (s : State) : State :=
  let s1 := ((s.set FAB_BUF_STATUS.FREE n (s.q.free n)).set FAB_BUF_STATUS.POOL_FREE n (s.poolFree n)).set
    FAB_BUF_STATUS.GUAR n (s.guaranteed n)
  (s1.set FAB_BUF_STATUS.HDRM_RSV n (s.headroom n)).set FAB_BUF_STATUS.COMPL_RSV n (s.complReserve n)

/-- Cells charged to an ingress account. -/
def State.chargeIngress (a cells : Nat) (hdrm : Bool) (s : State) : State :=
  let x := s.account a
  ((s.putAccount a { x with cells := x.cells + cells, hdrm := if hdrm then x.hdrm + cells else x.hdrm }).pauseCheck a).bufShow
    (a / 128)

/-- R377: the cells of a frame from a transmit ring are charged to the queue of its ring, or taken off it. -/
def State.chargeRing (it : Item) (add : Bool) (s : State) : State :=
  match it.ring with
  | none => s
  | some (r, _, cells) =>
    let q := s.get HIF_RING_CFG.QUEUE r
    let n := q / 1024
    let f := fun (x : Nat) => if add then x + cells else x - cells
    ({ s.set QMG_QSTAT.CELLS q (f (s.get QMG_QSTAT.CELLS q)) with
      q := { s.q with queueCells := s.q.queueCells.set n (f (s.q.queueCells.get n 0)) 0 } }).bufShow n

/-- The cells of an item leave its ingress account, or the queue of its ring (R377). -/
def State.freeIngress (it : Item) (s : State) : State :=
  if it.inPort == 64 then s.chargeRing it false
  else if it.inPort < 64 && it.cells != 0 then
    let a := accountOf it.inPort it.cls
    let x := s.account a
    ((s.putAccount a { x with cells := x.cells - it.cells, hdrm := if it.hdrm then x.hdrm - it.cells else x.hdrm }).pauseCheck
      a).bufShow (a / 128)
  else s

/-! ### Meters (R421 to R428) -/

/-- The colours of a meter. -/
inductive Colour where
  | green | yellow | red
  deriving DecidableEq, Repr

/-- A bucket filled at a rate in Mb/s over ns, in 1/256 byte: 1 Mb/s is 0.032 units per ns. -/
def fillBucket (v rate ns size : Nat) : Nat := min (v + rate * ns * 32 / 1000) (256 * size)

/-- R423, R424: the marking of a frame of `len` octets by a meter's buckets after refill. -/
def meterMark (trtcm : Bool) (yellowIn : Bool) (tc tp len : Nat) : Colour × Nat × Nat :=
  let l := 256 * len
  if trtcm then
    if tp < l then (.red, tc, tp)
    else if yellowIn || tc < l then (.yellow, tc, tp - l)
    else (.green, tc - l, tp - l)
  else if !yellowIn && l ≤ tc then (.green, tc - l, tp)
  else if l ≤ tp then (.yellow, tc, tp - l)
  else (.red, tc, tp)

/-- The buckets of a meter refilled up to now (R423, R425): in srTCM mode what the committed bucket cannot take goes to the
excess bucket. -/
def State.meterFill (s : State) (m : Nat) : Nat × Nat :=
  let x := s.q.meters.get m {}
  let ns := s.clk.sinceReset - x.last
  let cir := s.get SCH_METER.CIR m
  let cbs := s.get SCH_METER.CBS m
  let ebs := s.get SCH_METER.EBS_PBS m
  let tc := fillBucket x.tc cir ns cbs
  if s.flag SCH_METER.MODE m then (tc, fillBucket x.tp (max cir (s.get SCH_METER.PIR m)) ns ebs)
  else (tc, min (x.tp + (x.tc + cir * ns * 32 / 1000 - tc)) (256 * ebs))

/-- R425: what a bucket that was charged for 16,000 octets gets back at the frame's end. -/
def meterReturn (was now len size : Nat) : Nat := if now < was then min (now + 256 * (16000 - len)) (256 * size) else now

/-- R421, R423, R425: the judgement of a frame by its meter: the action of its colour (0 PASS, 1 MIN_ONLY, 2 DROP). -/
def State.meterJudge (m len : Nat) (early dei : Bool) (s : State) : Nat × State :=
  if !s.flag SCH_METER.EN m then (0, s)
  else
    let (tc, tp) := s.meterFill m
    let (col, tc', tp') := meterMark (s.flag SCH_METER.MODE m) (s.flag SCH_METER.AWARE m && dei) tc tp
      ((if early then 16000 else len) + if s.flag SCH_METER.ADD_IFG m then 20 else 0)
    let back := fun (was now : Nat) (f : Field) => if early then meterReturn was now len (s.get f m) else now
    let x : Meter := { tc := back tc tc' SCH_METER.CBS, tp := back tp tp' SCH_METER.EBS_PBS, last := s.clk.sinceReset }
    let s1 := { s with q := { s.q with meters := s.q.meters.set m x {} } }
    match col with
    | .green => (s.get SCH_METER.ACT_G m, s1.inc SCH_METER_CNT.GREEN m)
    | .yellow => (s.get SCH_METER.ACT_Y m, s1.inc SCH_METER_CNT.YELLOW m)
    | .red => (s.get SCH_METER.ACT_R m, s1.inc SCH_METER_CNT.RED m)

/-! ### Admission at ingress (R381 to R383) -/

/-- How a frame is admitted at ingress. -/
inductive Admit where
  /-- to its account -/
  | yes
  /-- from the headroom of its account -/
  | headroom
  | no
  deriving DecidableEq, Repr

/-- The conditions of R381. -/
def State.ingressRoom (s : State) (p cls : Nat) : Bool :=
  let a := accountOf p cls
  let u := (s.account a).cells
  let mn := s.ingCells FAB_ING_CFG.MIN a
  let used := sumOf (List.range 8) fun c => (s.account (accountOf p c)).cells
  u < mn || (u < mn + s.ingCells FAB_ING_CFG.MAX a && used < s.get FAB_ING_PORT.PORT_MAX (portRow p)
    && 0 < s.poolFree (portRegion p))

/-- R381, R383, Table 12-2: the admission of a frame, after its meter's action; drops are counted. -/
def State.admitIngress (p cls act : Nat) (s : State) : Admit × State :=
  let a := accountOf p cls
  let n := portRegion p
  let u := (s.account a).cells
  if act == 2 || (act == 1 && s.ingCells FAB_ING_CFG.MIN a ≤ u) then
    (.no, (s.inc SCH_METER_CNT.DROPPED a).pmcEvent n 9 0 1)
  else if s.ingressRoom p cls then (.yes, s)
  else if s.pfcTx p cls then
    if (s.account a).hdrm < s.ingCells FAB_ING_CFG.HDRM a then (.headroom, s)
    else (.no, ((s.inc FAB_DROP_CNT.HDRM n).raise (116 + 8 * n) 1 (p % 32)).pmcEvent n 9 0 1)
  else (.no, (s.inc FAB_DROP_CNT.ING n).pmcEvent n 9 0 1)

end Sys2Proof.Machine
end

