-- ==== Sys2Proof/Machine/Rally.lean ====
section
/-!
DEFINITION. Sending rally messages (R348 to R350), lease requests (R359), and the checkpoints and anchors of let streams (R353 to
R356, R363).
-/

namespace Sys2Proof.Machine

/-! ### Messages -/

/-- The mate link is ACTIVE. -/
def State.mateActive (s : State) : Bool := s.get MTL_LANE_STATUS.BSTATE 0 == 5 || s.get MTL_LANE_STATUS.BSTATE 1 == 5

/-- R350: a key derived from the pair transfer key. -/
def State.rallyKey (s : State) (label : String) : List Byte :=
  kdf ((s.usableKey? (65536 + s.get MTL_PAIR_CFG.PTK_SLOT)).elim [] (·.key)) (ascii label) [] 256

/-- The octets of a rally message (Table 10-2). -/
def State.rallyMessage (s : State) (typ : Nat) (body : List Byte) : List Byte :=
  let m := [0xA1#8, BitVec.ofNat 8 typ] ++ beBytes 2 body.length ++ beBytes 4 s.mtl.rseqTx ++ beBytes 8 (s.get MTL_PAIR_ID.PAIR_ID) ++ body
  m ++ blockBytes (cmac (s.rallyKey "RALLY-MAC") m)

/-- R348: the octets ahead of a rally message in its frame: DA and SA zero, EtherType 0x88B5. -/
def rallyHead : List Byte := List.replicate 12 0 ++ [0x88, 0xB5]

/-- R348: the frame that carries a rally message over the mate link, with its FCS. -/
def rallyFrame (m : List Byte) : List Byte := rallyHead ++ m ++ fcsBytes (rallyHead ++ m) false

/-- R349: the message that a frame carries, where its FCS is correct and it is a rally frame. -/
def rallyUnframe (l : List Byte) : Option (List Byte) :=
  let n := l.length - 4
  if l.take 14 == rallyHead && l.drop n == fcsBytes (l.take n) false then some ((l.take n).drop 14) else none

/-- R348: a rally message is sent while the mate link is ACTIVE. -/
def State.rallySend (typ : Nat) (body : List Byte) (s : State) : State :=
  if s.mateActive && s.get MTL_PAIR_CFG.STATE != 0 then
    let s1 := { s with mtl := { s.mtl with rseqTx := s.mtl.rseqTx + 1 } }
    { s1 with mtl := { s1.mtl with sent := s1.mtl.sent ++ [rallyFrame (s1.rallyMessage typ body)] } }
  else s

/-- The body of LEASE_REQ and LEASE_ACK. -/
def leaseBody (who lease : Nat) : List Byte :=
  (if who < 65536 then beBytes 2 0 ++ beBytes 2 who else beBytes 2 1 ++ beBytes 2 (who - 65536)) ++ [0, 0, 0, 0] ++ beBytes 8 lease

/-- R359: a lease is asked for. -/
def State.leaseAsk (who lease : Nat) (s : State) : State :=
  if s.mtl.asks.any (fun a => a.who == who && a.lease == lease) then s
  else ({ s with mtl := { s.mtl with asks := s.mtl.asks ++ [LeaseAsk.mk who lease] } }).rallySend 4 (leaseBody who lease)

/-- R365: an active alerts its libero. -/
def State.pairAlert (cause : Nat) (s : State) : State :=
  if s.isActivePaired then s.rallySend 8 [BitVec.ofNat 8 cause] else s

/-- R352: a background test of a kind (its bit of FLAGS) has failed. On an active it is the self-test failure of an ALERT (Table 10-3,
cause 0x03; DEDUCED, log 63). -/
def State.pairFail (bit : Nat) (s : State) : State :=
  if s.isLibero then { s with mtl := { s.mtl with fails := s.mtl.fails.set bit (some s.clk.sinceReset) none } } else s.pairAlert 3

/-! ### Roles -/

/-- The other device's DEVICE_ID, from its last huddle message on a mate lane. -/
def State.peerDevice (s : State) : Nat :=
  let id := fun (p : Nat) => (s.ports.get p {}).hudPeer.map fun m => beAt m 24 8
  ((id 64).orElse fun _ => id 65).getD 0

/-- The role changes: CHANGED, the pair-state event (R364) and ACTIVE_OUT (R341), which stays 0b00 once a heartbeat has been lost
(R342). -/
def State.roleSet (r : Nat) (s : State) : State :=
  let s1 := s.set MTL_PAIR_STATUS.ACTIVE_OUT 0 (if (r == 1 || r == 2) && !s.mtl.heartLost then 3 else 0)
  if s.get MTL_PAIR_STATUS.ROLE == r then s1
  else ((s1.set MTL_PAIR_STATUS.ROLE 0 r).set MTL_PAIR_STATUS.CHANGED 0 1).raise 149 5 0 s.peerDevice

/-- The pair's view of a let stream. -/
def State.mtlS (s : State) (st : Nat) : MtlStream := s.mtl.streams.get st {}

/-- The pair's view of a let stream changed. -/
def State.onMtl (st : Nat) (f : MtlStream → MtlStream) (s : State) : State :=
  { s with mtl := { s.mtl with streams := s.mtl.streams.set st (f (s.mtlS st)) {} } }

/-- The enabled streams. -/
def State.pairStreams (s : State) : List Nat := (List.range 256).filter fun st => s.get LET_STREAM_CFG.STATE st == 1

/-- R356: a stream is ready for takeover. -/
def State.streamReady (s : State) (st : Nat) : Bool :=
  let x := s.mtlS st
  x.anchored && x.inStep && x.anchorAt ≤ s.get LET_STREAM_STATUS.CUM st + 1

/-- A port (0 to 31 client, 32 to 63 line) is ACTIVE here. -/
def State.portActiveHere (s : State) (p : Nat) : Bool :=
  if p < 32 then s.get CPX_PORT_STATUS.BSTATE p == 5 else s.get LPX_PORT_STATUS.BSTATE (p - 32) == 5

/-- Table 10-4: the conditions of LIBERO_READY. -/
def State.liberoReady (s : State) : Bool :=
  s.pairStreams.all s.streamReady && !s.mtl.mirrorBad && s.mtl.mirrorHeld.isNone && s.mtl.peerUnacked == 0
    && s.mtl.peerPorts.all s.portActiveHere && !s.flag MTL_PAIR_STATUS.STALE
    && (List.range 4).all fun n => !s.flag GLB_REGION_STATUS.BELOW_LOAD n

/-- R363, Table 10-4: the state of a libero is judged again. -/
def State.pairEval (s : State) : State :=
  if !s.isLibero then s
  else
    let s1 := s.set MTL_PAIR_STATUS.OOS 0 (s.pairStreams.countP fun st => !s.streamReady st)
    let r := s.get MTL_PAIR_STATUS.ROLE
    if s.pairStreams.any fun st => (s.mtlS st).oos then s1.roleSet 6
    else if r == 6 && !(s.pairStreams.all fun st => (s.mtlS st).anchored) then s1
    else (s1.when (r == 6) fun s => s.roleSet 4).roleSet (if s.liberoReady then 5 else 4)

/-! ### Checkpoints (R353, R354) -/

/-- R353: FCRC of a frame. -/
def fcrc (l : List Byte) : Nat := crc32c 0xFFFFFFFF l

/-- R353: the digest of the checkpoint at a number, where its frames are held. -/
def MtlStream.digest (x : MtlStream) (n : Nat) : Option Nat :=
  let l := (x.hist.filter fun h => h.1 ≤ n && n < h.1 + 4096).reverse
  if l.length == 4096 then
    some (crc32c 0xFFFFFFFF (l.map (·.2)).flatten + (l.foldl (fun k h => k + h.2.length) 0) % 2 ^ 32 * 2 ^ 32)
  else none

/-- R354: a stream is out of step. -/
def State.streamOut (st : Nat) (s : State) : State :=
  let s1 := s.onMtl st fun x => { x with anchored := false, inStep := false, oos := true, wants := [] }
  ((s1.rallySend 11 [BitVec.ofNat 8 st]).raise 149 3 st).pairEval

/-- R353, R354, R356: a checkpoint of the active against the device's own. -/
def State.checkCompare (st n digest : Nat) (s : State) : State :=
  let x := s.mtlS st
  let s1 := s.onMtl st fun x => { x with wants := x.wants.filter fun w => w.1 != n }
  match x.digest n with
  | none => s1
  | some d =>
    if d != digest then s1.streamOut st
    else (s1.when (x.anchored && x.anchorAt < n) fun s => s.onMtl st fun x => { x with inStep := true }).pairEval

/-- The body of a CHECKPOINT. -/
def checkBody (st n d : Nat) : List Byte := [BitVec.ofNat 8 st, 0, 0, 0, 0, 0, 0, 0] ++ beBytes 8 n ++ beBytes 8 d

/-- The body of an ANCHOR, from the eight frames that begin at A. -/
def State.anchorBody (s : State) (st a : Nat) : List Byte :=
  let h := (s.mtlS st).hist
  [BitVec.ofNat 8 st, 0, 0, 0] ++ beBytes 4 (s.get LET_STREAM_STATUS.INSTANCE st) ++ beBytes 8 a
    ++ ((List.range 8).map fun i => beBytes 4 ((h.find? fun x => x.1 == a + i).elim 0 fun x => fcrc x.2)).flatten

/-- R353 to R355: a frame of a stream has been numbered on a device of a pair. -/
def State.pairNumbered (st k : Nat) (data : List Byte) (s : State) : State :=
  if s.get MTL_PAIR_STATUS.ROLE == 0 then s
  else
    let s1 := s.onMtl st fun x => { x with hist := ((k, data) :: x.hist).take 65536 }
    if s.isLibero then match (s1.mtlS st).wants.find? fun w => w.1 == k with
      | some w => s1.checkCompare st k w.2
      | none => s1
    else
      let s2 := match (s1.mtlS st).digest k with
        | some d => if k % 4096 == 0 then s1.rallySend 3 (checkBody st k d) else s1
        | none => s1
      match (s2.mtlS st).anchorDue with
      | some a => if k == a + 7 then (s2.rallySend 6 (s2.anchorBody st a)).onMtl st fun x => { x with anchorDue := none } else s2
      | none => s2

end Sys2Proof.Machine
end

