-- ==== Sys2Proof/Machine/RegMap.lean ====
section
/-!
DEFINITION. Which register lies at an offset of PF0 BAR0 (R38 to R40), which of its bits a write can change (R3), and
which writes of the host PF0 takes (R40, R625, R652).
-/

namespace Sys2Proof.Machine

/-- The flat instance and the 64-bit word at a distance from a register's first instance, along its remaining dimensions. -/
def placeIdx : List Dim → Nat → Nat → Nat → Option (Nat × Nat)
  | [], words, i, d => if d < 8 * words then some (i, d / 8) else none
  | x :: r, words, i, d =>
    let n := x.hi + 1 - x.lo
    if d / x.stride < n then placeIdx r words (i * n + d / x.stride) (d % x.stride) else none

/-- The instance and word of a register at a BAR0 offset, if it lies there. -/
def Reg.find (r : Reg) (off : Nat) : Option (Nat × Nat) :=
  if r.place.base ≤ off then placeIdx r.place.dims r.place.words 0 (off - r.place.base) else none

/-- The register, instance and word at a BAR0 offset. -/
def regAt (off : Nat) : Option (Reg × Nat × Nat) :=
  Reg.all.findSome? fun r => (r.find off).map fun x => (r, x.1, x.2)

/-- A write can change a field of this access code (R3). -/
def Access.writable : Access → Bool
  | .rw => true
  | .wo => true
  | .w1c => true
  | .w1s => true
  | .ro => false
  | .rc => false

/-- Some field of a register word is writable. -/
def Reg.writable (r : Reg) (w : Nat) : Bool := r.fields.any fun f => f.word == w && f.acc.writable

/-- The registers of the KST ports, the LCM and the NVJ, which no configuration record may write (R529). -/
def Reg.recordRefused (r : Reg) : Bool :=
  [Reg.KST_KEYDATA, .KST_SALT, .KST_ATTR, .KST_CMD, .KST_STATUS, .KST_INFO, .LCM_STATE, .LCM_DEVICE_ID, .LCM_CHALLENGE,
    .LCM_TOKEN_ADDR, .LCM_CMD, .LCM_STATUS, .NVJ_BOOT, .NVJ_IMG_ADDR, .NVJ_IMG_CMD, .NVJ_IMG_STATUS, .NVJ_JCTRL, .NVJ_JSTATUS,
    .NVJ_REPLAY].contains r

/-- R529: a register write record may write the word at an offset; `policy` for the records of the POLICY section, which alone
may write `KST_CTRL`, and from which the MCU sets `NVJ_JCTRL.BSK_MODE` (R543, DEDUCED, notes/assumptions/50.md). -/
def recordTarget (policy : Bool) (off : Nat) : Bool :=
  match regAt off with
  | some (r, _, w) => off % 8 == 0 && r.writable w && (policy && r == .NVJ_JCTRL || !r.recordRefused && (policy || r != .KST_CTRL))
  | none => false

/-- The distance of a flat instance from a register's first instance, along its dimensions. -/
def placeOff : List Dim → Nat → Nat
  | [], _ => 0
  | x :: r, i =>
    let n := r.foldl (fun n d => n * (d.hi + 1 - d.lo)) 1
    x.stride * (i / n) + placeOff r (i % n)

/-- The BAR0 offset of a register's instance. -/
def Reg.offset (r : Reg) (i : Nat) : Nat := r.place.base + placeOff r.place.dims i

/-! ### Writes of the host (R40, R625, R652) -/

/-- An access to a reserved or unassigned offset (R40). -/
def State.unmapped (off : Nat) (write : Bool) (s : State) : State :=
  ((s.inc GLB_UNMAPPED_CNT.COUNT 0).set GLB_UNMAPPED_ADDR.OFFSET 0 off).set GLB_UNMAPPED_ADDR.WRITE 0 (natOfBool write)

/-- R652: what PF0 serves in recovery. -/
def recoveryServes (r : Reg) : Bool :=
  [Reg.GLB_RESET, .GLB_OWNER, .NVJ_BOOT, .NVJ_IMG_ADDR, .NVJ_IMG_CMD, .NVJ_IMG_STATUS, .LCM_STATE, .LCM_DEVICE_ID, .PWR_STATE, .PWR_CTRL,
   .PWR_START_STATUS, .PWR_STEP_END, .PWR_EST, .PWR_DOM].contains r

/-- R625: the registers that the host may write while the side-band holds ownership. -/
def ownerFree (r : Reg) : Bool :=
  [Reg.GLB_OWNER, .EVT_SRC, .EVT_RING_BASE, .EVT_RING_CFG, .EVT_RING_HEAD, .EVT_RING_STATUS, .HIF_RING_CFG, .HIF_RING_BASE, .HIF_MBOX_ADDR,
   .HIF_MBOX_CTRL].contains r

/-- PF0 takes the host's write of a register: it is served, and the side-band does not hold ownership. The MCU acts regardless. -/
def State.mayWrite (s : State) (m : Master) (r : Reg) : Bool :=
  m == .mcu || (!(s.pwr.recovery && !recoveryServes r) && !(s.get GLB_OWNER.OWNER == 2 && !ownerFree r))

/-- The host's write of a register that PF0 does not take: unassigned in recovery, otherwise discarded and counted. -/
def State.turnAway (r : Reg) (i : Nat) (s : State) : State :=
  if s.pwr.recovery && !recoveryServes r then s.unmapped (r.offset i) true else s.inc GLB_OWNER.DISCARDS 0

/-- A command that a master starts by a write of a register. -/
def State.byWrite (m : Master) (r : Reg) (i : Nat) (f : State → State) (s : State) : State :=
  if s.mayWrite m r then f s else s.turnAway r i

end Sys2Proof.Machine
end

