-- ==== Sys2Proof/Machine/Kst.lean ====
section
/-!
DEFINITION. The KST commands (R501 to R512, R524): WRITE, ERASE and INFO on either port, their end, and the faults of the
key store and of the random bit generator.
-/

namespace Sys2Proof.Machine

/-- The lowest code whose condition holds (R65, R524); the list ascends. -/
def firstCode (l : List (Bool × Nat)) : Nat :=
  match l with
  | [] => 0
  | (b, c) :: r => if b then c else firstCode r

/-! ### Ports -/

/-- What a KST port holds. -/
def State.kstPort (s : State) (m : Master) : KstPort :=
  match m with
  | .host => s.kst.hostPort
  | .mcu => s.kst.mcuPort

/-- What a KST port holds, replaced. -/
def State.setKstPort (m : Master) (p : KstPort) (s : State) : State :=
  match m with
  | .host => { s with kst := { s.kst with hostPort := p } }
  | .mcu => { s with kst := { s.kst with mcuPort := p } }

/-- The public key being written in parts on a port (R505). -/
def State.kstPart (s : State) (m : Master) : Option PartKey :=
  match m with
  | .host => s.kst.hostPart
  | .mcu => s.kst.mcuPart

/-- The public key being written in parts on a port, replaced. -/
def State.setKstPart (m : Master) (p : Option PartKey) (s : State) : State :=
  match m with
  | .host => { s with kst := { s.kst with hostPart := p } }
  | .mcu => { s with kst := { s.kst with mcuPart := p } }

/-- The handle whose journal entry a port awaits (R511). -/
def State.kstWait (s : State) (m : Master) : Option Nat :=
  match m with
  | .host => s.kst.hostWait
  | .mcu => s.kst.mcuWait

/-- The handle whose journal entry a port awaits, replaced. -/
def State.setKstWait (m : Master) (w : Option Nat) (s : State) : State :=
  match m with
  | .host => { s with kst := { s.kst with hostWait := w } }
  | .mcu => { s with kst := { s.kst with mcuWait := w } }

/-! ### Staged data -/

/-- The 32 octets staged in `KST_KEYDATA0` to `KST_KEYDATA3` of a port. -/
def State.kstData (s : State) (m : Master) : List Byte :=
  ((List.range 4).map fun i => beBytes 8 (s.get KST_KEYDATA.DATA (4 * m.idx + i))).flatten

/-- The 96-bit salt staged on a port. -/
def State.kstSalt (s : State) (m : Master) : Nat :=
  s.get KST_SALT.SALT_HI m.idx * 2 ^ 64 + s.get KST_SALT.SALT_LO m.idx

/-- The attributes a WRITE is checked and stored with. -/
structure KeyAttr where
  purpose : Nat
  dir : Nat
  len : Nat
  vol : Bool
  limitEn : Bool
  useLimit : Nat
  deriving DecidableEq, Repr

/-- The attributes in a value of `KST_ATTR`. -/
def KeyAttr.ofWord (w : Word) : KeyAttr :=
  { purpose := w.bits 0 3, dir := w.bits 3 2, len := w.bits 5 2, vol := w.flag 7, limitEn := w.flag 8
    useLimit := w.bits 16 48 }

/-- Table 15-8 and the field rules of `KST_ATTR`; R199: a traffic key is VOLATILE; R500 ties the purpose to the kind of
slot, except for purpose IME, which fails with PRIV whatever the slot (R502). -/
def KeyAttr.bad (a : KeyAttr) (kh : Nat) : Bool :=
  (a.limitEn && a.useLimit == 0) || (a.dir == 0 && a.purpose != 3) ||
  match a.purpose with
  | 0 => 2 ≤ a.len || !a.vol || 65536 ≤ kh
  | 1 => 2 ≤ a.len || kh < 65536
  | 2 => 2 ≤ a.len || kh < 65536
  | 3 => a.len != 2 || kh < 65536
  | 4 => a.len != 1
  | _ => true

/-! ### Refusals -/

/-- R502: the privileges of WRITE and ERASE. -/
def State.kstPriv (s : State) (m : Master) (kh : Nat) : Bool :=
  (m == Master.host && (!s.flag KST_CTRL.PF0_KEYWR || s.isLibero))
    || (69504 ≤ kh && kh < 69568) || (69568 ≤ kh && s.flag GLB_AGT_CTRL.EN)

/-- R504, R508: a traffic slot whose SA is VALID with LIFE other than RETIRED. -/
def State.kstSaInUse (s : State) (kh : Nat) : Bool :=
  kh < 65536 && match s.tbl.sa.get kh none with
    | some a => a.life != 4
    | none => false

/-- R504: the slot is named by an enabled port of the key agent or by the pair. -/
def State.kstNamed (s : State) (kh : Nat) : Bool :=
  65536 ≤ kh && ((List.range 32).any (fun p => s.flag GLB_AGT_PORT.EN p && s.get GLB_AGT_PORT.CAK_SLOT p + 65536 == kh)
    || (s.get MTL_PAIR_CFG.STATE != 0 && s.get MTL_PAIR_CFG.PTK_SLOT + 65536 == kh))

/-- Table 15-3: a WRITE that the life-cycle state forbids. -/
def State.kstLcForbids (s : State) (kh : Nat) (vol : Bool) : Bool :=
  s.lcEnded || (65536 ≤ kh && (s.lcState == 0 || (s.lcState == 3 && !vol)))

/-- Part 1 or 2 continues the public key begun on the port (R505). -/
def State.kstContinues (s : State) (m : Master) (part kh : Nat) : Bool :=
  match s.kstPart m with
  | some p => p.kh == kh && p.next == part
  | none => false

/-- The attributes of a WRITE: part 0 carries them (R505). -/
def State.kstAttr (s : State) (m : Master) (part kh : Nat) : KeyAttr :=
  match s.kstPart m with
  | some p => if part != 0 && s.kstContinues m part kh then .ofWord p.attr else .ofWord (s.word .KST_ATTR m.idx 0)
  | none => .ofWord (s.word .KST_ATTR m.idx 0)

/-- The octets of the key once this WRITE has been applied. -/
def State.kstBytes (s : State) (m : Master) (part : Nat) (a : KeyAttr) : List Byte :=
  if a.len == 0 then (s.kstData m).take 16
  else if part == 0 then s.kstData m
  else ((s.kstPart m).elim [] (·.bytes)) ++ s.kstData m

/-- R524: the result of a WRITE. -/
def State.kstWriteResult (s : State) (m : Master) (part kh : Nat) (rsv : Bool) : Nat :=
  let a := s.kstAttr m part kh
  let bytes := s.kstBytes m part a
  firstCode
    [(rsv || 69632 ≤ kh || a.bad kh, 1),
     (s.kstPriv m kh || a.purpose == 4, 2),
     (s.kstLcForbids kh a.vol, 3),
     (s.kstSaInUse kh || s.kstNamed kh, 5),
     (s.lcState == 2 && a.purpose == 3 && part == 2 && !s.lcm.customerHashes.contains (sha384 bytes), 6),
     (part != 0 && !s.kstContinues m part kh, 7),
     (!a.vol && s.journalReadOnly, 8)]

/-- R524: the result of an ERASE. -/
def State.kstEraseResult (s : State) (m : Master) (kh : Nat) (rsv : Bool) : Nat :=
  let k := s.key? kh
  firstCode
    [(rsv || 69632 ≤ kh, 1), (s.kstPriv m kh, 2), (s.lcEnded, 3), (k.isNone, 4), (s.kstSaInUse kh, 5),
     (k.any (fun k => !k.vol) && s.journalReadOnly, 8)]

/-- R524: the result of an INFO, which every port may ask for at all times (R502). -/
def State.kstInfoResult (s : State) (kh : Nat) (rsv : Bool) : Nat :=
  firstCode [(rsv || 69632 ≤ kh, 1), (s.lcEnded, 3)]

/-! ### Effects -/

/-- The key record a completed WRITE stores; the checkpoint of R517 rides in the key's own entry. -/
def KeyAttr.record (a : KeyAttr) (bytes : List Byte) (salt : Nat) : KeyRec :=
  { purpose := a.purpose, dir := a.dir, len := a.len, vol := a.vol, limitEn := a.limitEn, useLimit := a.useLimit
    used := 0, checkpoint := if a.limitEn then min 1024 a.useLimit else 0, cause := 0, kcv := kcvOf a.len bytes
    key := bytes, salt := if a.purpose == 0 then salt else 0 }

/-- R505, R509: the effect of a WRITE whose result is OK, and whether it awaits a commit. -/
def State.kstWriteOk (m : Master) (part kh : Nat) (s : State) : Bool × State :=
  let a := s.kstAttr m part kh
  let bytes := s.kstBytes m part a
  if a.len == 2 && part != 2 then
    (false, s.setKstPart m (some ⟨kh, part + 1, if part == 0 then s.word .KST_ATTR m.idx 0
      else (s.kstPart m).elim 0 (·.attr), bytes⟩))
  else
    let k := a.record bytes (s.kstSalt m)
    let s1 := s.setKstPart m none
    if a.vol then (false, s1.keyInstall kh k)
    else (true, (s1.putSlot kh { s1.slot kh with changes := (s1.slot kh).changes ++ [⟨some k, m == Master.host⟩] }).journal 1 (k.payload kh))

/-- R508, R510: the effect of an ERASE whose result is OK, and whether it awaits a commit. -/
def State.kstEraseOk (m : Master) (kh : Nat) (s : State) : Bool × State :=
  let nv := (s.key? kh).any fun k => !k.vol
  let s1 := (s.keyErase kh).startWipe kh
  if nv then
    (true, (s1.putSlot kh { s1.slot kh with changes := (s1.slot kh).changes ++ [⟨none, m == Master.host⟩] }).journal 2 (beBytes 4 kh))
  else (false, s1)

/-- `KST_INFO` of a port shows a slot. -/
def State.kstShow (m : Master) (kh : Nat) (s : State) : State :=
  let i := m.idx
  let sl := s.slot kh
  let s0 := s.resetReg .KST_INFO i
  match sl.key with
  | none => s0
  | some k =>
    let s1 := (s0.set KST_INFO.FULL i 1).set KST_INFO.USABLE i (natOfBool (k.cause == 0))
    let s2 := ((s1.set KST_INFO.PURPOSE i k.purpose).set KST_INFO.DIR i k.dir).set KST_INFO.LEN i k.len
    let s3 := (s2.set KST_INFO.VOLATILE i (natOfBool k.vol)).set KST_INFO.LIMIT_EN i (natOfBool k.limitEn)
    let s4 := (s3.set KST_INFO.COMMITTED i (natOfBool sl.changes.isEmpty)).set KST_INFO.CAUSE i k.cause
    let s5 := (s4.set KST_INFO.KCV i k.kcv).set KST_INFO.GEN i sl.gen
    s5.set KST_INFO.REMAIN i (if k.limitEn then k.useLimit - k.used else 0)

/-- What the pair's mirror carries of a command (R347). -/
def State.kstMirror (s : State) (m : Master) (op part kh : Nat) : KstMirror :=
  ⟨op, part, kh, s.word .KST_ATTR m.idx 0, s.kstData m, s.kstSalt m⟩

/-- A KST command executes in one CCLK cycle (R503). -/
def State.kstRun (m : Master) (op part kh : Nat) (rsv : Bool) (s : State) : State :=
  let s0 := { s with kst := { s.kst with lastMcu := m == Master.mcu } }
  match op with
  | 1 =>
    let r := s.kstWriteResult m part kh rsv
    if r == 0 then
      let x := s0.kstWriteOk m part kh
      x.2.setKstPort m (.executed 0 kh x.1 (some (s.kstMirror m op part kh)))
    else (s0.setKstPart m none).setKstPort m (.executed r kh false none)
  | 2 =>
    let r := s.kstEraseResult m kh rsv
    if r == 0 then
      let x := s0.kstEraseOk m kh
      x.2.setKstPort m (.erasing kh x.1 (some (s.kstMirror m op part kh)))
    else s0.setKstPort m (.executed r kh false none)
  | _ =>
    let r := if op == 3 then s.kstInfoResult kh rsv else 1
    (s0.when (r == 0) fun s => s.kstShow m kh).setKstPort m (.executed r kh false none)

/-! ### Starting and ending commands -/

/-- The port's command holds the KST: it has executed and has not ended. -/
def KstPort.holds : KstPort → Bool
  | .executed .. => true
  | .erasing .. => true
  | _ => false

/-- A command waiting on a port may start: the KST is free, and a WRITE or ERASE does not await a commit (R511). -/
def State.kstReady (s : State) (m : Master) : Bool :=
  match s.kstPort m with
  | .waiting op _ _ _ => !(s.kstPort m.other).holds && (op == 3 || (s.kstWait m).isNone)
  | _ => false

/-- A waiting command that may start executes. -/
def State.kstTry (m : Master) (s : State) : State :=
  if s.kstReady m then
    match s.kstPort m with
    | .waiting op part kh rsv => s.kstRun m op part kh rsv
    | _ => s
  else s

/-- R501: the KST takes the next command, alternating between the ports when both are waiting. -/
def State.kstNext (s : State) : State :=
  if s.kst.lastMcu then (s.kstTry .host).kstTry .mcu else (s.kstTry .mcu).kstTry .host

/-- A write of `KST_CMD` (R501): OVERRUN while BUSY. -/
def State.kstCommand (m : Master) (op part kh : Nat) (rsv : Bool) (s : State) : State :=
  if s.flag KST_STATUS.BUSY m.idx then s.set KST_STATUS.OVERRUN m.idx 1
  else ((s.set KST_STATUS.BUSY m.idx 1).setKstPort m (.waiting op part kh rsv)).kstTry m

/-- The staging registers of a port are zeroed when its command ends. -/
def State.kstZero (m : Master) (s : State) : State :=
  (s.forN 4 fun i s => s.set KST_KEYDATA.DATA (4 * m.idx + i) 0).resetReg .KST_SALT m.idx

/-- The body of the MIRROR of a key command: KIND, OP, PART, key handle, attributes and salt, and the key octets wrapped. -/
def State.kstMirrorBody (s : State) (x : KstMirror) : List Byte :=
  let key := x.key ++ List.replicate (32 - x.key.length) 0
  [1#8, 0, 0, 0, 0, 0, 0, 0] ++ beBytes 2 x.op ++ beBytes 2 x.part ++ beBytes 4 x.kh ++ beBytes 8 x.attr.toNat ++ beBytes 16 x.salt
    ++ keyWrap (s.rallyKey "RALLY-WRAP") key

/-- R347: a command that ended OK is sent to the other device of the pair. -/
def State.kstMirrorOut (mir : Option KstMirror) (s : State) : State :=
  match mir with
  | some x => if s.isActivePaired then s.rallySend 7 (s.kstMirrorBody x) else s
  | none => s

/-- R511, R524: a command ends: BUSY clears, RESULT, KH and COMMITTED are valid and DONE raises the key-command event. -/
def State.kstEnd (m : Master) (result kh : Nat) (journalled : Bool) (mir : Option KstMirror) (s : State) : State :=
  let i := m.idx
  let s1 := ((s.set KST_STATUS.BUSY i 0).set KST_STATUS.RESULT i result).set KST_STATUS.KH i kh
  let s2 := (s1.set KST_STATUS.COMMITTED i (natOfBool (!journalled && (s.kstWait m).isNone))).set KST_STATUS.DONE i 1
  let s3 := if journalled then s2.setKstWait m (some kh) else s2
  let s4 := ((s3.setKstPort m .idle).kstZero m).raise 144 1 0 kh
  (s4.kstMirrorOut mir).kstNext

/-! ### Meanings -/

/-- KST_WRITE (R504). -/
def execKstWrite (m : Master) (part : BitVec 2) (kh : BitVec 17) (rsv : Bool) (s : State) :
    Host.Outcome State Fault Refusal :=
  finish (s.byWrite m .KST_CMD m.idx fun s => s.kstCommand m 1 part.toNat kh.toNat rsv)

/-- KST_ERASE (R508). -/
def execKstErase (m : Master) (kh : BitVec 17) (rsv : Bool) (s : State) : Host.Outcome State Fault Refusal :=
  finish (s.byWrite m .KST_CMD m.idx fun s => s.kstCommand m 2 0 kh.toNat rsv)

/-- KST_INFO (R502, R509, R510). -/
def execKstInfo (m : Master) (kh : BitVec 17) (rsv : Bool) (s : State) : Host.Outcome State Fault Refusal :=
  finish (s.byWrite m .KST_CMD m.idx fun s => s.kstCommand m 3 0 kh.toNat rsv)

/-- KST_CMD_END (R524): the command executed on a port ends; an ERASE ends only when every wipe is acknowledged (R508). -/
def execKstCmdEnd (m : Master) (s : State) : Host.Outcome State Fault Refusal :=
  finish (match s.kstPort m with
    | .executed r kh j mir => s.kstEnd m r kh j mir
    | .erasing kh j mir => if s.wiping kh then s else s.kstEnd m 0 kh j mir
    | _ => s)

/-- TRNG_HEALTH_FAIL (R520): the generator stops; after three consecutive failures DRBG_FAIL holds until reset. -/
def execTrngHealthFail (s : State) : Host.Outcome State Fault Refusal :=
  let n := s.kst.drbgFails + 1
  let s1 := { s with kst := { s.kst with drbgStopped := true, drbgFails := n } }
  finish ((s1.when (3 ≤ n) fun s => s.set KST_CTRL.DRBG_FAIL 0 1).raise 144 4)

/-- KEY_STORAGE_FAULT (R522): an uncorrectable error in a slot's secret material disables its key. -/
def execKeyStorageFault (kh : Fin 69632) (s : State) : Host.Outcome State Fault Refusal :=
  finish (if (s.key? kh).isSome then (s.keyDisable kh 2).raise 144 3 0 kh else s)

end Sys2Proof.Machine
end

