-- ==== Sys2Proof/Machine/Tables.lean ====
section
/-!
DEFINITION. The commands of the table units (R54 to R68, R133, R145, R183, R307, R375): INSERT, DELETE, MODIFY, READ and
SEARCH on either port, their end, the seed, and the shadow compare (R75 to R80).
-/

namespace Sys2Proof.Machine

/-! ### The pair -/

/-- The body of the MIRROR of a table command: KIND, region, OP, TARGET and INDEX, and the staged words. -/
def TblMirror.body (x : TblMirror) : List Byte :=
  [2#8, 0, 0, 0, 0, 0, 0, 0] ++ beBytes 2 x.region ++ beBytes 2 x.op ++ beBytes 2 x.target ++ beBytes 2 x.index
    ++ ((x.words.map fun w => beBytes 8 w.toNat)).flatten

/-! ### The Kraow framer of a line port -/

/-- What the Kraow framer of a line port holds. -/
def State.krwPort (s : State) (p : Nat) : KrwPort := s.krw.ports.get p {}

/-- What the Kraow framer of a line port holds, changed. -/
def State.onKrw (p : Nat) (f : KrwPort → KrwPort) (s : State) : State :=
  { s with krw := { s.krw with ports := s.krw.ports.set p (f (s.krwPort p)) {} } }

/-! ### Refusals of classification entries -/

/-- R375: MIRROR_Q is a PORT_EGRESS queue of a client port, or the queue of a receive ring. -/
def State.mirrorOk (s : State) (q : Nat) : Bool :=
  let role := s.get QMG_QCFG.ROLE q
  let owner := s.get QMG_QCFG.OWNER q
  (role == 1 && owner % 64 < 32) || (role == 2 && 256 ≤ owner && owner < 512)

/-- R133, R307, R375 and Table 2-4: a staged result that fails with BAD_FIELD. -/
def State.clsResultBad (s : State) (e : ClsEntry) (rsv : Bool) : Bool :=
  let tx := keyType e.key == 1
  let weak := (s.sc? e.sc).any fun c => !c.encrypt || c.confOff != 0
  rsv || 4 < e.action || (tx && e.volley && !e.letEn) || (tx && e.letEn && e.action != 0)
    || (!tx && (e.letEn || e.letStream != 0 || e.volley)) || (tx && (e.letEn || e.volley) && weak)
    || (e.mirror && !s.mirrorOk e.mirrorQ)

/-- R307: a TX entry of a let stream agrees with the stream. -/
def State.letAgrees (s : State) (e : ClsEntry) : Bool :=
  let st := e.letStream
  keyPort e.key == s.get LET_STREAM_CFG.CLIENT_PORT st && e.cls == s.get LET_STREAM_CFG.CLASS st
    && e.sc == s.get LET_STREAM_SC.SC_W st && natOfBool e.volley == s.get LET_STREAM_CFG.VOLLEY st

/-- R56: an entry with ACTION = PROTECT agrees with the SC it names. -/
def bindingOk (e : ClsEntry) (c : ScEntry) : Bool :=
  match keyType e.key with
  | 1 => !c.rx && keyPort e.key == c.inPort && (!c.clsBound || e.cls == c.inCls)
  | 2 => c.rx && !c.kraow && keyPort e.key == c.inPort
      && (List.range 8).all (fun m => keyByte e.key (2 + m) == c.sci.bits (8 * m) 8)
  | _ => c.rx && c.kraow && keyPort e.key == c.inPort && keyByte e.key 2 == c.trib

/-- R56, R307: a staged entry that fails with BINDING. -/
def State.clsUnbound (s : State) (e : ClsEntry) : Bool :=
  (e.action == 0 && (s.sc? e.sc).any fun c => !bindingOk e c)
    || (keyType e.key == 1 && e.letEn && !s.letAgrees e)

/-- A key or, with ACTION = PROTECT, an SC outside region n. -/
def clsForeign (n : Nat) (e : ClsEntry) (withSc : Bool) : Bool :=
  keyPort e.key / 8 != n || (withSc && e.action == 0 && e.sc / 4096 != n)

/-- ACTION = PROTECT names an SC that is not VALID. -/
def State.clsNoSc (s : State) (e : ClsEntry) : Bool := e.action == 0 && (s.sc? e.sc).isNone

/-! ### Results -/

/-- What a table command answers: RESULT, IN_OVF, LOC, GEN, the words it returns and whether it changed an entry. -/
structure TblResult where
  code : Nat
  inOvf : Nat := 0
  loc : Nat := 0
  gen : Nat := 0
  data : Option (List Word) := none
  deriving DecidableEq, Repr

/-- A result other than OK. -/
def tblFail (s : State) (code : Nat) : TblResult × State := ({ code := code }, s)

/-- R66: a change of region n takes the next generation. -/
def State.nextGen (n : Nat) (s : State) : Nat × State :=
  let g := (s.get TBL_OCCUPANCY.GEN n + 1) % 65536
  (g, s.set TBL_OCCUPANCY.GEN n g)

/-- CLS_REFS of the SC that an entry names, raised or lowered (Table 2-5). -/
def State.clsRefAdd (e : ClsEntry) (s : State) : State :=
  if e.action == 0 then s.onSc e.sc fun c => { c with clsRefs := c.clsRefs + 1 } else s

/-- CLS_REFS of the SC that an entry names, lowered. -/
def State.clsRefSub (e : ClsEntry) (s : State) : State :=
  if e.action == 0 then s.onSc e.sc fun c => { c with clsRefs := c.clsRefs - 1 } else s

/-- The result that names a classification entry. -/
def clsOk (l : ClsLoc) (gen : Nat) (data : Option (List Word)) : TblResult :=
  { code := 0, inOvf := natOfBool l.ovf, loc := l.loc, gen := gen, data := data }

/-! ### Classification commands -/

/-- R54, R56: INSERT of a classification entry. -/
def State.clsInsert (n : Nat) (d : List Word) (s : State) : TblResult × State :=
  let e := ClsEntry.ofWords d
  let code := firstCode
    [(s.keyBad e.key || s.clsResultBad e (clsRsv d), 1), (clsForeign n e true, 2), (s.clsNoSc e, 3),
     ((s.clsFind n e.key).isSome, 4), ((s.clsFree n e.key).isNone, 5), (s.clsUnbound e, 6)]
  match code, s.clsFree n e.key with
  | 0, some l =>
    let (g, s1) := s.nextGen n
    (clsOk l g none, (s1.putCls n l (some { e with gen := g })).clsRefAdd e)
  | c, _ => tblFail s c

/-- R55: DELETE of a classification entry by its key; no overflow entry moves. -/
def State.clsDelete (n : Nat) (d : List Word) (s : State) : TblResult × State :=
  let e := ClsEntry.ofWords d
  let code := firstCode [(s.keyBad e.key, 1), (clsForeign n e false, 2), ((s.clsFind n e.key).isNone, 3)]
  match code, s.clsFind n e.key with
  | 0, some l =>
    let (g, s1) := s.nextGen n
    let s2 := match s.clsAt n l with
      | some old => s1.clsRefSub old
      | none => s1
    (clsOk l g none, s2.putCls n l none)
  | c, _ => tblFail s c

/-- R56, R60, R699: MODIFY of a classification entry: the result words replaced, the key kept. -/
def State.clsModify (n : Nat) (d : List Word) (s : State) : TblResult × State :=
  let e := ClsEntry.ofWords d
  let code := firstCode
    [(s.keyBad e.key || s.clsResultBad e (clsRsv d), 1), (clsForeign n e true, 2),
     ((s.clsFind n e.key).isNone || s.clsNoSc e, 3), (s.clsUnbound e, 6)]
  match code, s.clsFind n e.key with
  | 0, some l =>
    match s.clsAt n l with
    | some old =>
      if { old with gen := 0 } == e then (clsOk l old.gen none, s)
      else
        let (g, s1) := s.nextGen n
        (clsOk l g none, ((s1.clsRefSub old).clsRefAdd e).putCls n l (some { e with gen := g }))
    | none => tblFail s 3
  | c, _ => tblFail s c

/-- READ of a location of the classification table or of the overflow store. -/
def State.clsRead (n : Nat) (l : ClsLoc) (s : State) : TblResult × State :=
  if l.ovf && 1024 ≤ l.loc then tblFail s 1
  else match s.clsAt n l with
    | some e => (clsOk l e.gen (some e.words), s)
    | none => tblFail s 3

/-- SEARCH by the staged key. -/
def State.clsSearch (n : Nat) (d : List Word) (s : State) : TblResult × State :=
  let e := ClsEntry.ofWords d
  let code := firstCode [(s.keyBad e.key, 1), (clsForeign n e false, 2), ((s.clsFind n e.key).isNone, 3)]
  match code, s.clsFind n e.key with
  | 0, some l => s.clsRead n l
  | c, _ => tblFail s c

/-! ### SC commands -/

/-- R145: a second key SC of a line port in one direction. -/
def State.keyScClash (s : State) (i : Nat) (e : ScEntry) : Bool :=
  e.kraow && e.trib == 0 && s.tbl.sc.any fun x => x.1 != i && x.2.any fun c =>
    c.kraow && c.trib == 0 && c.rx == e.rx && (if e.rx then c.inPort == e.inPort else c.egPort == e.egPort)

/-- CLS_REFS is not 0, or an SA of the SC is VALID (Table 2-9). -/
def State.scInUse (s : State) (i : Nat) (e : ScEntry) : Bool :=
  e.clsRefs != 0 || (List.range 4).any fun an => (s.sa? (4 * i + an)).isSome

/-- R133: the SC serves entries with LET_EN or VOLLEY, or a stream that is not OFF names it. -/
def State.scServesLet (s : State) (i : Nat) : Bool :=
  let hit := fun (x : Nat × Option ClsEntry) => x.2.any fun e => e.sc == i && (e.letEn || e.volley)
  s.tbl.cls.any hit || s.tbl.ovf.any hit || (List.range 256).any fun st =>
    s.get LET_STREAM_CFG.STATE st != 0 && (s.get LET_STREAM_SC.SC_W st == i || s.get LET_STREAM_SC.SC_P st == i
      || s.get LET_STREAM_SC.RPL_W st == i || s.get LET_STREAM_SC.RPL_P st == i)

/-- The key SC of a TX line port in Kraow mode (R145). -/
def ScEntry.keySc (e : ScEntry) : Bool := e.kraow && !e.rx && e.trib == 0

/-- R41: INSERT of an SC. -/
def State.scInsert (n i : Nat) (d : List Word) (s : State) : TblResult × State :=
  let e := ScEntry.ofWords d
  let code := firstCode
    [(scBad d || 16384 ≤ i, 1), (i / 4096 != n || e.inPort / 8 != n, 2),
     ((s.sc? i).isSome || s.keyScClash i e, 4)]
  if code == 0 then
    let (g, s1) := s.nextGen n
    ({ code := 0, loc := i, gen := g }, s1.putSc i (some e))
  else tblFail s code

/-- R67: DELETE of an SC. -/
def State.scDelete (n i : Nat) (s : State) : TblResult × State :=
  let code := firstCode
    [(16384 ≤ i, 1), (i / 4096 != n, 2), ((s.sc? i).isNone, 3), ((s.sc? i).any fun e => s.scInUse i e, 7)]
  if code == 0 then
    let (g, s1) := s.nextGen n
    ({ code := 0, loc := i, gen := g }, s1.putSc i none)
  else tblFail s code

/-- The fields that Table 2-9 locks while an SC is in use. -/
def ScEntry.locked (e : ScEntry) : Bool × Bool × Nat × Nat × Bool × Nat × Word × Nat :=
  (e.rx, e.kraow, e.suite, e.inPort, e.clsBound, e.inCls, e.sci, e.trib)

/-- R183: the line port counts down to a new key. -/
def State.keySwitchPending (s : State) (e : ScEntry) : Bool := e.keySc && s.flag KFR_KEYSW.TX_PEND e.egPort

/-- Table 2-9: a write of CUR_AN that is refused with STATE, and R183. -/
def State.curAnRefused (s : State) (i : Nat) (old new : ScEntry) : Bool :=
  !new.rx && !old.rx && new.curAn != old.curAn
    && (s.keySwitchPending old || !(s.sa? (4 * i + new.curAn)).any fun a => a.life ≤ 1)

/-- R32, R74: EN of an SC written. -/
def scEnable (old : ScEntry) (en : Bool) : Nat :=
  if en == old.en then old.state
  else if en then (if old.state == 0 then 1 else if old.state == 2 then 3 else old.state)
  else (if old.state == 1 || old.state == 3 then 2 else old.state)

/-- R181, R182, R166: CUR_AN of a TX SC written: at once, or by the Kraow key switch while the line port is ACTIVE. -/
def State.curAnWrite (i an : Nat) (e : ScEntry) (s : State) : State :=
  if e.keySc && s.linePortActive e.egPort then
    (s.onKrw e.egPort fun k => { k with keyReq := some an }).set KFR_KEYSW.TX_PEND e.egPort 1
  else (s.onSc i fun c => { c with curAn := an, held := false }).saActivateTx (4 * i + an)

/-- R166: AUTO_SUCC set while the SC is held releases it when the SA of NEXT_AN is INSTALLED. -/
def State.autoSuccWrite (i : Nat) (s : State) : State :=
  match s.sc? i with
  | some c =>
    if c.held && c.autoSucc && (s.sa? (4 * i + c.nextAn)).any (fun a => a.life == 0) then
      (s.putSc i (some { c with curAn := c.nextAn, autoSucc := false, held := false })).saActivateTx (4 * i + c.nextAn)
    else s
  | none => s

/-- R60, R67, R699: MODIFY of an SC: every RW field whose staged value differs is written. -/
def State.scModify (n i : Nat) (d : List Word) (s : State) : TblResult × State :=
  let new := ScEntry.ofWords d
  match s.sc? i with
  | none => tblFail s (firstCode [(scBad d || 16384 ≤ i, 1), (i / 4096 != n || new.inPort / 8 != n, 2), (true, 3)])
  | some old =>
    let code := firstCode
      [(scBad d || 16384 ≤ i, 1), (i / 4096 != n || new.inPort / 8 != n, 2), (s.keyScClash i new, 4),
       (new.locked != old.locked && s.scInUse i old
         || ((!new.encrypt && old.encrypt || new.confOff != 0 && new.confOff != old.confOff) && s.scServesLet i), 7),
       (s.curAnRefused i old new, 10)]
    if code != 0 then tblFail s code
    else
      let e := { new with state := scEnable old new.en, curAn := old.curAn, clsRefs := old.clsRefs, held := old.held }
      let anew := !new.rx && new.curAn != old.curAn
      if e == old && !anew then ({ code := 0, loc := i }, s)
      else
        let (g, s1) := s.nextGen n
        let s2 := (s1.putSc i (some e)).when anew fun s => s.curAnWrite i new.curAn e
        ({ code := 0, loc := i, gen := g }, (s2.when (new.autoSucc && !old.autoSucc) fun s => s.autoSuccWrite i).scSettle i)

/-- READ of an SC. -/
def State.scRead (n i : Nat) (s : State) : TblResult × State :=
  match s.sc? i with
  | some e => if i / 4096 != n then tblFail s 2 else ({ code := 0, loc := i, data := some e.words }, s)
  | none => tblFail s (firstCode [(16384 ≤ i, 1), (i / 4096 != n, 2), (true, 3)])

/-! ### SA commands -/

/-- Tables 2-6 and 2-9: a PN that an SA may not take. -/
def pnBad (sc : ScEntry) (pn : Nat) : Bool := (!sc.rx && pn == 0) || (suite32 sc.suite && 2 ^ 32 ≤ pn)

/-- R183: a disable or delete of the SA that the Kraow line port needs. -/
def State.keySaLocked (s : State) (sa : Nat) : Bool :=
  match s.sc? (scOfSa sa) with
  | some c =>
    c.keySc && ((s.linePortActive c.egPort && c.curAn == sa % 4)
      || (s.flag KFR_KEYSW.TX_PEND c.egPort && (c.curAn == sa % 4
        || (s.krwPort c.egPort).keyReq == some (sa % 4))))
  | none => false

/-- R241: an SA of a key SC of a line port under TEST_CLEAR. -/
def State.keySaTest (s : State) (sa : Nat) : Bool :=
  (s.sc? (scOfSa sa)).any fun c => c.kraow && c.trib == 0 && s.flag KFR_CFG.TEST_CLEAR (if c.rx then c.inPort else c.egPort)

/-- INSERT of an SA (R46, R57, R170, R241, R361). -/
def State.saInsert (n i : Nat) (d : List Word) (s : State) : TblResult × State :=
  let x := SaStaged.ofWords d
  let sc := s.sc? (scOfSa i)
  let code := firstCode
    [(saRsv d || sc.any fun c => pnBad c x.pn, 1), (i / 16384 != n, 2), (sc.isNone, 3), ((s.sa? i).isSome, 4),
     (x.en && sc.any fun c => !s.saKeyOk i c, 8), (x.en && s.keySaTest i, 10)]
  match code, sc with
  | 0, some c =>
    let (g, s1) := s.nextGen n
    let a : SaEntry :=
      { en := x.en, state := natOfBool x.en, life := if x.en then 0 else 4, early := x.early, modeProg := x.modeProg
        kcv := if x.en then s.saKcv i else 0, pn := x.pn, ssci := x.ssci, softLimit := x.softLimit, refs := 0
        leaseEnd := s.leaseInit c.rx x.pn, rx := c.rx, deleting := false, softSeen := false }
    let s2 := s1.putSa i (some a)
    ({ code := 0, loc := i, gen := g },
      { s2 with tbl := { s2.tbl with stat := s2.tbl.stat.set i { rx := c.rx } {}
                                     inserted := if i ∈ s2.tbl.inserted then s2.tbl.inserted else s2.tbl.inserted ++ [i] } })
  | c, _ => tblFail s c

/-- R46, R48, R699: EN of an SA written. -/
def State.saEnWrite (i : Nat) (en : Bool) (s : State) : State :=
  match s.sa? i with
  | some a =>
    if en == a.en then s
    else if en then
      if a.life == 4 then s.putSa i (some { a with en := true, state := 1, life := 0, kcv := s.saKcv i })
      else s.putSa i (some { a with en := true, state := 3 })
    else if a.live then s.saRetire i
    else s.putSa i (some { a with en := false, state := 2 })
  | none => s

/-- MODIFY of an SA (R57, R63, R67, R241, R699). -/
def State.saModify (n i : Nat) (d : List Word) (s : State) : TblResult × State :=
  let x := SaStaged.ofWords d
  match s.sa? i, s.sc? (scOfSa i) with
  | some a, some c =>
    let code := firstCode
      [(saRsv d || (x.pn != a.pn && pnBad c x.pn), 1), (i / 16384 != n, 2), (x.en && !a.en && !s.saKeyOk i c, 8),
       (x.pn < a.pn, 9),
       (((x.modeProg != a.modeProg || x.ssci != a.ssci) && a.life != 4) || (!x.en && a.live && s.keySaLocked i)
         || (x.en && !a.en && s.keySaTest i), 10)]
    if code != 0 then tblFail s code
    else
      let b := { a with early := x.early, modeProg := x.modeProg, ssci := x.ssci, softLimit := x.softLimit, pn := x.pn
                        leaseEnd := if x.pn == a.pn then a.leaseEnd else max a.leaseEnd (s.leaseInit c.rx x.pn) }
      if b == a && x.en == a.en then ({ code := 0, loc := i }, s)
      else
        let (g, s1) := s.nextGen n
        ({ code := 0, loc := i, gen := g }, (s1.putSa i (some b)).saEnWrite i x.en)
  | _, sc => tblFail s (firstCode [(saRsv d || sc.any fun c => pnBad c x.pn, 1), (i / 16384 != n, 2), (true, 3)])

/-- READ of an SA. -/
def State.saRead (n i : Nat) (s : State) : TblResult × State :=
  match s.sa? i with
  | some a => if i / 16384 != n then tblFail s 2 else ({ code := 0, loc := i, data := some a.words }, s)
  | none => tblFail s (firstCode [(i / 16384 != n, 2), (true, 3)])

/-- DELETE of an SA begins (Table 2-2): it goes to RETIRING under DELETE, and its wipe request is sent. -/
def State.saDeleteStart (i : Nat) (s : State) : State :=
  let s1 := s.saRetire i
  match s1.sa? i with
  | some a =>
    (s1.putSa i (some { a with en := false, state := 2, life := 3, deleting := true })).when (a.life == 4) fun s =>
      s.startWipe i
  | none => s1

/-- The result of a DELETE of an SA. -/
def State.saDeleteCode (s : State) (n i : Nat) : Nat :=
  firstCode [(i / 16384 != n, 2), ((s.sa? i).isNone, 3), (s.keySaLocked i, 10)]

/-! ### One command -/

/-- R63: a command that names an SA under DELETE. -/
def State.namesDeleted (s : State) (target index : Nat) : Bool :=
  target == 2 && (s.sa? index).any fun a => a.deleting

/-- R54 to R67: a command other than a DELETE of an SA that begins, in one CCLK cycle (R60). OP 1 INSERT, 2 DELETE, 3 MODIFY, 4 READ,
5 SEARCH; TARGET 0 classification, 1 SC, 2 SA, 3 overflow store. -/
def State.tblApply (n op target index : Nat) (rsv : Bool) (d : List Word) (s : State) : TblResult × State :=
  if s.namesDeleted target index then tblFail s 10
  else if rsv then tblFail s 1
  else match op, target with
    | 1, 0 => s.clsInsert n d
    | 2, 0 => s.clsDelete n d
    | 3, 0 => s.clsModify n d
    | 4, 0 => s.clsRead n ⟨false, index⟩
    | 5, 0 => s.clsSearch n d
    | 4, 3 => s.clsRead n ⟨true, index⟩
    | 1, 1 => s.scInsert n index d
    | 2, 1 => s.scDelete n index
    | 3, 1 => s.scModify n index d
    | 4, 1 => s.scRead n index
    | 1, 2 => s.saInsert n index d
    | 3, 2 => s.saModify n index d
    | 4, 2 => s.saRead n index
    | _, _ => tblFail s 1

/-! ### Ports -/

/-- What a port of the table unit of a region holds. -/
def State.tblPort (s : State) (n : Nat) (m : Master) : PortCmd :=
  match m with
  | .host => (s.unit n).hostPort
  | .mcu => (s.unit n).mcuPort

/-- What a port of the table unit of a region holds, replaced. -/
def State.setTblPort (n : Nat) (m : Master) (p : PortCmd) (s : State) : State :=
  match m with
  | .host => s.putUnit n { s.unit n with hostPort := p }
  | .mcu => s.putUnit n { s.unit n with mcuPort := p }

/-- The index of a port's `TBL_CMD` and `TBL_STATUS`. -/
def tblIdx (n : Nat) (m : Master) : Nat := 2 * n + m.idx

/-- The eight staged words of a port. -/
def State.tblData (s : State) (n : Nat) (m : Master) : List Word :=
  (List.range 8).map fun i => s.word .TBL_DATA (8 * tblIdx n m + i) 0

/-- The words of an entry returned to a port. -/
def State.tblReturn (n : Nat) (m : Master) (d : List Word) (s : State) : State :=
  s.forN 8 fun i s => s.setWord .TBL_DATA (8 * tblIdx n m + i) 0 (d.getD i 0)

/-! ### What a command changes under the shadow compare (R78) -/

/-- TYPE and the item index within its type (Table 2-10). -/
def shadowType (item : Nat) : Nat × Nat :=
  if item < 16384 then (0, item) else if item < 16640 then (1, item - 16384)
  else if item < 17664 then (2, item - 16640) else (3, item - 17664)

/-- The live words of entry j of an item of region n; zeros where no entry is in use. -/
def State.shadowLive (s : State) (n item j : Nat) : List Word :=
  let (t, i) := shadowType item
  let none8 : List Word := List.replicate 8 0
  match t with
  | 0 => (s.clsAt n ⟨false, 4 * i + j⟩).elim none8 (·.words)
  | 1 => (s.clsAt n ⟨true, 4 * i + j⟩).elim none8 (·.words)
  | 2 => (s.sc? (4096 * n + 4 * i + j)).elim none8 (·.words)
  | _ => (s.sa? (16384 * n + 4 * i + j)).elim none8 (·.words)

/-- R78: the items that wait for their confirming read and of which a command has changed an entry; `old` is the state before it. -/
def State.shadowSettle (n : Nat) (old s : State) : State :=
  let u := s.unit n
  let hit := fun (w : ShadowWait) => (List.range 4).any fun j => s.shadowLive n w.item j != old.shadowLive n w.item j
  if u.shadowWaits.any hit then
    s.putUnit n { u with shadowWaits := u.shadowWaits.map fun w => if hit w then { w with changed := true } else w }
  else s

/-- R54 to R67: a command in one CCLK cycle (R60), a DELETE of an SA included, which only begins (`waits`); an item of the shadow
compare that it changed is skipped (R78). -/
def State.tblDo (n op target index : Nat) (rsv : Bool) (d : List Word) (s : State) : TblResult × Bool × State :=
  if op == 2 && target == 2 && !rsv && !s.namesDeleted target index then
    let c := s.saDeleteCode n index
    if c == 0 then ({ code := 0, loc := index }, true, (s.saDeleteStart index).shadowSettle n s) else ({ code := c }, false, s)
  else
    let x := s.tblApply n op target index rsv d
    (x.1, false, x.2.shadowSettle n s)

/-- The unit of a region takes the commands of a port: it executes the one that waits (R59). -/
def State.tblRun (n : Nat) (m : Master) (op target index : Nat) (rsv : Bool) (s : State) : State :=
  let s0 := s.putUnit n { s.unit n with lastMcu := m == Master.mcu }
  let d := s.tblData n m
  let mir : TblMirror := ⟨n, op, target, index, d⟩
  if m == Master.host && s.isLibero then s0.setTblPort n m (.executed 10 0 0 0 none mir)
  else
    let (r, waits, s1) := s0.tblDo n op target index rsv d
    s1.setTblPort n m (if waits then .deleting index mir else .executed r.code r.inOvf r.loc r.gen r.data mir)

/-- A command that has executed and not ended holds the unit; a waiting DELETE of an SA does not (R63). -/
def PortCmd.holds : PortCmd → Bool
  | .executed .. => true
  | _ => false

/-- A waiting command executes when the unit is free. -/
def State.tblTry (n : Nat) (m : Master) (s : State) : State :=
  if (s.tblPort n m.other).holds then s
  else match s.tblPort n m with
    | .waiting op target index rsv => s.tblRun n m op target index rsv
    | _ => s

/-- R59: the unit takes the next command, alternating between its ports when both are waiting. -/
def State.tblNext (n : Nat) (s : State) : State :=
  if (s.unit n).lastMcu then (s.tblTry n .host).tblTry n .mcu else (s.tblTry n .mcu).tblTry n .host

/-- A write of `TBL_CMD` (R59 to R61): OVERRUN while BUSY. -/
def State.tblCommand (n : Nat) (m : Master) (op target index : Nat) (rsv : Bool) (s : State) : State :=
  let i := tblIdx n m
  if s.flag TBL_STATUS.BUSY i then s.set TBL_STATUS.OVERRUN i 1
  else ((s.set TBL_STATUS.BUSY i 1).setTblPort n m (.waiting op target index rsv)).tblTry n m

/-- R347: a table command that ended OK is sent to the other device of the pair. -/
def State.tblMirrorOut (x : TblMirror) (s : State) : State :=
  if s.isActivePaired then s.rallySend 7 x.body else s

/-- A command on a port has not ended, a waiting DELETE of an SA apart. -/
def PortCmd.busy : PortCmd → Bool
  | .waiting .. => true
  | .executed .. => true
  | _ => false

/-- R698: the function reset of a table unit is complete when no command but a waiting DELETE remains. -/
def State.fresetUnit (n : Nat) (s : State) : State :=
  if (s.unit n).hostPort.busy || (s.unit n).mcuPort.busy then s else s.fresetOff 6 n

/-- R62, R65: a command ends: BUSY clears, RESULT, IN_OVF, LOC and GEN are valid, the entry it returns is in the staging registers,
and DONE raises the table-command event. -/
def State.tblEnd (n : Nat) (m : Master) (code inOvf loc gen : Nat) (data : Option (List Word)) (mir : TblMirror) (s : State) : State :=
  let i := tblIdx n m
  let s0 := data.elim s fun w => s.tblReturn n m w
  let s1 := ((s0.set TBL_STATUS.BUSY i 0).set TBL_STATUS.DONE i 1).set TBL_STATUS.RESULT i code
  let s2 := ((s1.set TBL_STATUS.IN_OVF i inOvf).set TBL_STATUS.LOC i loc).set TBL_STATUS.GEN i gen
  let s3 := (s2.setTblPort n m .idle).raise (113 + 8 * n) 1
  ((s3.when (code == 0) fun s => s.tblMirrorOut mir).tblNext n).fresetUnit n

/-- R62: a port whose DELETE waited for an SA has its result. -/
def State.tblDeleted (n : Nat) (m : Master) (sa gen : Nat) (s : State) : State :=
  match s.tblPort n m with
  | .deleting x mir => if x == sa then s.setTblPort n m (.executed 0 0 sa gen none mir) else s
  | _ => s

/-- A port waits for the DELETE of an SA. -/
def PortCmd.deletes (sa : Nat) : PortCmd → Bool
  | .deleting x _ => x == sa
  | _ => false

/-- R49, R62, R66, R78: a DELETE of an SA reaches empty: the entry and its key are cleared, the command takes the next generation
and its port has the result; a DELETE of no port is the key agent's, which is mirrored (R347), or a mirrored one. -/
def State.saGone (sa : Nat) (s : State) : State :=
  let n := saRegion sa
  let (g, s1) := (((s.putSa sa none).keyErase sa).scSettle (scOfSa sa)).nextGen n
  let s2 := (s1.shadowSettle n s).when (!((s.tblPort n .host).deletes sa || (s.tblPort n .mcu).deletes sa)) fun s =>
    s.tblMirrorOut ⟨n, 2, 2, sa, List.replicate 8 0⟩
  ((s2.tblDeleted n .host sa g).tblDeleted n .mcu sa g).fresetOff 2 sa

/-- R46: the retirement of an SA completes once REFS is 0 and every wipe is acknowledged: to empty with its key erased
(under DELETE, R49), to INSTALLED (STATE PENDING), or to RETIRED. -/
def State.saRetireDone (sa : Nat) (s : State) : State :=
  match s.sa? sa with
  | some a =>
    if a.life == 3 && a.refs == 0 && !s.wiping sa then
      if a.deleting then s.saGone sa
      else if a.state == 3 then s.putSa sa (some { a with life := 0, state := 1, kcv := s.saKcv sa })
      else (s.putSa sa (some { a with life := 4, state := 0 })).fresetOff 2 sa
    else s
  | none => s

/-! ### Meanings -/


/-- TBL_INSERT (R54). -/
def execTblInsert (n : Fin 4) (m : Master) (target : BitVec 2) (index : BitVec 16) (rsv : Bool) (s : State) :
    Host.Outcome State Fault Refusal :=
  finish (s.byWrite m .TBL_CMD (tblIdx n m) fun s => s.tblCommand n m 1 target.toNat index.toNat rsv)

/-- TBL_DELETE (R55, R62). -/
def execTblDelete (n : Fin 4) (m : Master) (target : BitVec 2) (index : BitVec 16) (rsv : Bool) (s : State) :
    Host.Outcome State Fault Refusal :=
  finish (s.byWrite m .TBL_CMD (tblIdx n m) fun s => s.tblCommand n m 2 target.toNat index.toNat rsv)

/-- TBL_MODIFY (R67). -/
def execTblModify (n : Fin 4) (m : Master) (target : BitVec 2) (index : BitVec 16) (rsv : Bool) (s : State) :
    Host.Outcome State Fault Refusal :=
  finish (s.byWrite m .TBL_CMD (tblIdx n m) fun s => s.tblCommand n m 3 target.toNat index.toNat rsv)

/-- TBL_READ (R59, R63). -/
def execTblRead (n : Fin 4) (m : Master) (target : BitVec 2) (index : BitVec 16) (rsv : Bool) (s : State) :
    Host.Outcome State Fault Refusal :=
  finish (s.byWrite m .TBL_CMD (tblIdx n m) fun s => s.tblCommand n m 4 target.toNat index.toNat rsv)

/-- TBL_SEARCH (R53). -/
def execTblSearch (n : Fin 4) (m : Master) (name : TblName) (rsv : Bool) (s : State) : Host.Outcome State Fault Refusal :=
  finish (s.byWrite m .TBL_CMD (tblIdx n m) fun s => s.tblCommand n m 5 name.target.toNat name.index.toNat rsv)

/-- TBL_CMD_END (R62): a command that has executed ends; a DELETE that waits for its SA does not. -/
def execTblCmdEnd (n : Fin 4) (m : Master) (s : State) : Host.Outcome State Fault Refusal :=
  finish (match s.tblPort n m with
    | .executed c o l g data mir => s.tblEnd n m c o l g data mir
    | _ => s)

/-- R68: `full` is false for a 32-bit write of the upper half, which reaches REJ alone; `clr` is the value written to REJ. -/
def State.seedWrite (n seed : Nat) (clr full : Bool) (s : State) : State :=
  let s1 := s.when clr fun s => s.set TBL_SEED.REJ n 0
  let empty := s.get TBL_OCCUPANCY.BUCKET_ENTRIES n == 0 && s.get TBL_OCCUPANCY.OVF_ENTRIES n == 0
  if !full then s1 else if empty then s1.set TBL_SEED.SEED n seed
  else if seed == s.get TBL_SEED.SEED n then s1 else s1.set TBL_SEED.REJ n 1

/-- TBL_SEED_WRITE (R68). -/
def execTblSeedWrite (n : Fin 4) (seed : BitVec 32) (clr full : Bool) (s : State) : Host.Outcome State Fault Refusal :=
  finish (s.seedWrite n seed.toNat clr full)

/-! ### The shadow compare (R75 to R80) -/

/-- The bits of word w of an entry that the compare excludes (R75). `free`: the way is free in both images. -/
def shadowMask (typ w : Nat) (free : Bool) : Word :=
  match typ, w with
  | 0, 4 => 0xFFFF000000000000#64 ||| (if free then 1 else 0)
  | 1, 4 => 0xFFFF000000000000#64 ||| (if free then 1 else 0)
  | 2, 0 => 0x0001FFFF0000060C#64
  | 3, 0 => 0x000000000000007C#64
  | 3, 1 => 0xFFFFFFFFFFFFFFFF#64
  | 3, 3 => 0x00000000FFFFFFFF#64
  | 3, 4 => 0xFFFFFFFFFFFFFFFF#64
  | _, _ => 0

/-- The first difference of an item: entry, word and the masked difference (R75, R79). `read` holds the 32 words read. -/
def State.shadowDiff (s : State) (n item : Nat) (read : List Word) : Option (Nat × Nat × Word) :=
  let t := (shadowType item).1
  (List.range 32).findSome? fun x =>
    let j := x / 8
    let w := x % 8
    let live := s.shadowLive n item j
    let free := (live.getD 4 0).bits 0 1 == 0 && (read.getD (8 * j + 4) 0).bits 0 1 == 0
    let df := ((live.getD w 0) ^^^ (read.getD x 0)) &&& ~~~(shadowMask t w free)
    if df == 0 then none else some (j, w, df)

/-- The position moves to the next item; the end of the last item ends the pass (R77, R81). -/
def State.shadowAdvance (n : Nat) (s : State) : State :=
  let p := s.get TBL_SHADOW_STATUS.POS n
  if p + 1 < 21760 then s.set TBL_SHADOW_STATUS.POS n (p + 1)
  else (s.set TBL_SHADOW_STATUS.POS n 0).incWrap TBL_SHADOW_STATUS.PASS n

/-- R78, R79: a confirmed mismatch: a record while the log has room, MISMATCH and the shadow-mismatch event. With a full log only LOST
counts it: no event is raised and MISMATCH is left (DESIGN CHOICE, log 63). -/
def State.shadowLog (n item : Nat) (x : Nat × Nat × Word) (s : State) : State :=
  let c := s.get TBL_SHADOW_STATUS.LOG_COUNT n
  let (t, i) := shadowType item
  if c < 64 then
    let r := 64 * n + c
    let s1 := ((s.set TBL_SHADOW_LOG.TYPE r t).set TBL_SHADOW_LOG.ITEM r i).set TBL_SHADOW_LOG.ENTRY r x.1
    let s2 := (s1.set TBL_SHADOW_LOG.WORD r x.2.1).set TBL_SHADOW_LOG.PASS r (s.get TBL_SHADOW_STATUS.PASS n)
    let s3 := (s2.set TBL_SHADOW_LOG.DIFF r x.2.2.toNat).set TBL_SHADOW_STATUS.LOG_COUNT n (c + 1)
    (s3.set TBL_SHADOW_STATUS.MISMATCH n 1).raise (113 + 8 * n) 3
  else s.inc TBL_SHADOW_LOST.LOST n

/-- SHADOW_ITEM_COMPARE (R77): the item in progress has been read and is compared with the live table; one that differs
waits for its confirming read. -/
def execShadowItemCompare (n : Fin 4) (read : List Word) (s : State) : Host.Outcome State Fault Refusal :=
  finish (if s.get TBL_SHADOW_CTRL.STATE n == 1 && !s.thermPaused then
      let item := s.get TBL_SHADOW_STATUS.POS n
      let u := s.unit n
      let s1 := if (s.shadowDiff n item read).isSome then
          s.putUnit n { u with shadowWaits := u.shadowWaits ++ [⟨item, false⟩] } else s
      (s1.shadowAdvance n).dmaOctets 256
    else s)

/-- SHADOW_CONFIRM (R78): the second read of the item that has waited longest. -/
def execShadowConfirm (n : Fin 4) (read : List Word) (s : State) : Host.Outcome State Fault Refusal :=
  let u := s.unit n
  finish (match u.shadowWaits with
    | [] => s
    | w :: r =>
      let s1 := (s.putUnit n { u with shadowWaits := r }).dmaOctets 256
      if w.changed then s1.inc TBL_SHADOW_STATUS.SKIPS n
      else match s.shadowDiff n w.item read with
        | some x => s1.shadowLog n w.item x
        | none => s1)

/-- R80: a shadow read fails: the compare goes to OFF, from STOPPING and PENDING too, with EN 0 and a pending enable dropped (DESIGN
CHOICE, log 63). -/
def State.shadowFault (n : Nat) (s : State) : State :=
  let s1 := (s.set TBL_SHADOW_STATUS.DMA_FAULT n 1).raise (113 + 8 * n) 4
  let s2 := (s1.set TBL_SHADOW_CTRL.STATE n 0).set TBL_SHADOW_CTRL.EN n 0
  s2.putUnit n { s2.unit n with shadowWaits := [] }

/-- SHADOW_DMA_FAULT (R80): the compare goes to OFF. -/
def execShadowDmaFault (n : Fin 4) (s : State) : Host.Outcome State Fault Refusal :=
  finish (if s.get TBL_SHADOW_CTRL.STATE n == 0 then s else s.shadowFault n)

/-- R79: LOG_CLR empties the log. -/
def State.shadowLogClr (n : Nat) (s : State) : State :=
  (s.set TBL_SHADOW_STATUS.LOG_COUNT n 0).forN 64 fun j s => s.resetReg .TBL_SHADOW_LOG (64 * n + j)

/-- SHADOW_LOG_CLR (R79). -/
def execShadowLogClr (n : Fin 4) (s : State) : Host.Outcome State Fault Refusal := finish (s.shadowLogClr n)

/-- R698, Table 19-9: a command written to a port and not yet begun ends with STATE; the staging registers, OVERRUN and the location
fields are cleared. A command that has executed keeps the words it returns and shows them with its result. -/
def State.tblPortReset (n : Nat) (m : Master) (s : State) : State :=
  let i := tblIdx n m
  let s1 := ((s.forN 8 fun k s => s.resetReg .TBL_DATA (8 * i + k)).set TBL_STATUS.OVERRUN i 0)
  let s2 := ((s1.set TBL_STATUS.IN_OVF i 0).set TBL_STATUS.LOC i 0).set TBL_STATUS.GEN i 0
  match s.tblPort n m with
  | .waiting .. =>
    (((((s2.set TBL_STATUS.BUSY i 0).set TBL_STATUS.DONE i 1).set TBL_STATUS.RESULT i 10).setTblPort n m .idle).raise (113 + 8 * n) 1)
  | _ => s2

/-- R698: the function reset of a table unit. -/
def State.tblReset (n : Nat) (s : State) : State := ((s.tblPortReset n .host).tblPortReset n .mcu).fresetUnit n

end Sys2Proof.Machine
end

