-- ==== Sys2Proof/Machine/Engine.lean ====
section
/-!
DEFINITION. The frame engines of a region: the dispatch rotation and its epochs (R105, R106), the keystream-ahead slots
(R110 to R117), fences and restores (R10, R11, R124, R125, R696), core retirement and the known-answer test (R98, R126),
the zeroisation of engine state (R128) and `GLB_REGION_STATUS` (R13).
-/

namespace Sys2Proof.Machine

/-! ### Engines and threads -/

/-- Engine g = 48n + e. -/
def State.eng (s : State) (g : Nat) : Engine := s.fen.engines.get g {}

/-- An engine changed. -/
def State.onEng (g : Nat) (f : Engine → Engine) (s : State) : State :=
  { s with fen := { s.fen with engines := s.fen.engines.set g (f (s.eng g)) {} } }

/-- Thread t of an engine. -/
def State.thr (s : State) (g t : Nat) : Thread := (s.eng g).threads.get t {}

/-- A thread changed. -/
def State.onThr (g t : Nat) (f : Thread → Thread) (s : State) : State :=
  s.onEng g fun e => { e with threads := e.threads.set t (f (e.threads.get t {})) {} }

/-- Cipher core c of an engine is in service. -/
def State.coreIn (s : State) (g c : Nat) : Bool := (s.get FEN_ENG.CORES_IN g).testBit c

/-- The number of bits of a mask that are set. -/
def bitCount (w x : Nat) : Nat := ((List.range w).filter fun i => x.testBit i).length

/-! ### Zeroisation (R128) -/

/-- A core with its key register cleared; what it has counted stays. -/
def Core.cleared (k : Core) : Core := { k with kh := none, key := [] }

/-- The key registers of the cores that `p` picks cleared. -/
def Engine.clearCores (e : Engine) (p : Nat → Core → Bool) : Engine :=
  { e with cores := (List.range 6).foldl (fun m c => if p c (m.get c {}) then m.set c (m.get c {}).cleared {} else m) e.cores }

/-- The key register of a core cleared. -/
def State.clearCore (g c : Nat) (s : State) : State := s.onEng g fun e => e.clearCores fun i _ => i == c

/-- Every core key register, the keystream-ahead buffer and the block registers of an engine cleared. -/
def State.clearKeys (g : Nat) (s : State) : State :=
  s.onEng g fun e => { e.clearCores (fun _ _ => true) with
    slots := [], threads := e.threads.map fun t => (t.1, { t.2 with b := [], slot := none, failed := none }) }

/-- An engine's keys, keystream, block registers and data memory cleared (a fence, a pod disable). -/
def State.clearEngine (g : Nat) (s : State) : State := (s.clearKeys g).onEng g fun e => { e with dmem := [] }

/-- R117: an engine zeroes the slots tagged with a key handle and the core registers that hold it. -/
def State.wipeEngine (g kh : Nat) (s : State) : State :=
  s.onEng g fun e => { e.clearCores (fun _ k => k.kh == some kh) with slots := e.slots.filter fun x => x.sa != kh }

/-! ### The dispatch rotation (R105, R106) -/

/-- The region's in-service engines in ascending order: the list L of R105. -/
def State.rotation (s : State) (n : Nat) : List Nat :=
  (List.range 48).filter fun e => (s.get FEN_POD_CTRL.ENG_MASK (6 * n + e / 8)).testBit (e % 8)

/-- An engine enters or leaves the rotation. -/
def State.setRotation (n e : Nat) (b : Bool) (s : State) : State :=
  let m := s.get FEN_POD_CTRL.ENG_MASK (6 * n + e / 8)
  if m.testBit (e % 8) == b then s
  else s.set FEN_POD_CTRL.ENG_MASK (6 * n + e / 8) (if b then m + 2 ^ (e % 8) else m - 2 ^ (e % 8))

/-- R115: an engine discards the slots of a kind and counts those that served nothing in WRONG. -/
def State.dropSlots (n g : Nat) (p : KsaSlot → Bool) (s : State) : State :=
  let bad := (s.eng g).slots.filter p
  let d := (bad.filter fun x => !x.serving).length
  ((s.onEng g fun e => { e with slots := e.slots.filter fun x => !p x }).inc FEN_KSA_CNT.WRONG n d).when (d != 0) fun s =>
    s.pmcEvent n 6 0 d

/-- The first thread of an engine that stalls in WAIT on the normal inbox goes on with its WAIT (R82). -/
def State.threadWake (g : Nat) (s : State) : State :=
  match [0, 1, 2].find? fun t => (s.thr g t).stalled && (s.thr g t).work.isNone with
  | some t => s.onThr g t fun x => { x with stalled := false }
  | none => s

/-- R83: the jobs of the MCU that wait in a region go to normal inboxes, in order, each to the first engine in rotation that has room
(DESIGN CHOICE, log 25). -/
def State.placeJobs (n : Nat) : Nat → State → State
  | 0, s => s
  | k + 1, s =>
    match s.fen.jobs.get n [], (s.rotation n).find? fun e => (s.eng (48 * n + e)).inboxN.length < 8 with
    | w :: r, some e =>
      let g := 48 * n + e
      let s1 := { s with fen := { s.fen with jobs := s.fen.jobs.set n r [] } }
      ((s1.onEng g fun x => { x with inboxN := x.inboxN ++ [w] }).threadWake g).placeJobs n k
    | _, _ => s

/-- The waiting jobs of a region are placed as far as there is room. -/
def State.drainJobs (n : Nat) (s : State) : State := s.placeJobs n (s.fen.jobs.get n []).length

/-- R83: a job joins those that wait in a region. -/
def State.pushJob (n : Nat) (w : WorkItem) (s : State) : State :=
  { s with fen := { s.fen with jobs := s.fen.jobs.set n (s.fen.jobs.get n [] ++ [w]) [] } }.drainJobs n

/-- R83: the MCU gives a job to the engines of region n: a key handle, a mode program slot and its data. -/
def State.addJob (n kh slot : Nat) (data : List Byte) (s : State) : State :=
  s.pushJob n { it := { inPort := 65, data := data }, job := some (kh, slot) }

/-- R105, R106, R115: a rotation epoch: every pointer restarts and every pre-charge of the region is discarded. -/
def State.epoch (n : Nat) (s : State) : State :=
  let len := (s.rotation n).length
  let s1 := s.forN 16 fun q s => s.onSeq (16 * n + q) fun x =>
    { x with ptr := if len == 0 then 0 else 3 * q % len, reqs := [] }
  (s1.forN 48 fun e s => s.dropSlots n (48 * n + e) fun _ => true).drainJobs n

/-- R129: a tamper response reaches FEN: every work item in progress ends without output, and no cell of it goes to egress. -/
def State.haltItems (s : State) : State :=
  let halt := fun (e : Engine) => { e with
    threads := e.threads.map fun t => (t.1, { t.2 with work := none, slot := none, failed := none, stalled := true }), inboxN := [], inboxX := [] }
  let drop := fun (r : RoEntry) => match r.st with
    | .done _ => r
    | _ => { r with st := .dropped }
  { s with fen := { s.fen with engines := (s.fen.engines.map fun x => (x.1, halt x.2)).filter fun x => x.2 != {}, jobs := [] }
           path := { s.path with reorder := s.path.reorder.map fun x => (x.1, x.2.map drop) } }

/-! ### `GLB_REGION_STATUS` (R13) -/

/-- An engine is fenced: STATE not ON, for any cause other than POD. One whose restore runs (STATE ON and not yet in rotation) no
longer counts as fenced, and one of whose cores none passed the pod's start-up (CAUSE NO_CORES) does (DESIGN CHOICE, log 63). -/
def State.engFenced (s : State) (g : Nat) : Bool :=
  let c := s.get FEN_ENG.CAUSE g
  c != 0 && c != 5 && s.get FEN_ENG.STATE g != 1

/-- The region a fenced block lies in; chip-level blocks lie in none. -/
def FBlock.region : FBlock → Nat
  | .complex _ n => n
  | .stack i => i / 2
  | .bank b => b / 12

/-- LEVEL of a region: FAILED when a port complex, an engine or table bank, both stacks or all engines are fenced (R9, R468,
Table 14-3). The fence of one of the region's two port complexes is enough (DESIGN CHOICE, log 63). -/
def State.regionLevel (s : State) (n : Nat) : Nat :=
  let bs := s.fen.blocks.filter fun b => b.region == n
  let fenced := (List.range 48).filter fun e => s.engFenced (48 * n + e)
  if fenced.length == 48 || bs.any (fun b => match b with | .stack _ => false | _ => true)
      || (.stack (2 * n) ∈ bs && .stack (2 * n + 1) ∈ bs) then 2
  else if fenced.isEmpty && bs.isEmpty then 0 else 1

/-- Cipher cores of the engines in rotation that are in service. -/
def State.coresIn (s : State) (n : Nat) : Nat :=
  ((s.rotation n).map fun e => bitCount 6 (s.get FEN_ENG.CORES_IN (48 * n + e))).foldl (· + ·) 0

/-- CORES_OUT of a region: a fenced engine counts with all its cores; engines whose pod is not ON are not counted. -/
def State.coresOut (s : State) (n : Nat) : Nat :=
  ((List.range 48).map fun e =>
    let g := 48 * n + e
    if s.get FEN_POD_CTRL.STATE (6 * n + e / 8) != 1 then 0
    else if s.engFenced g then 6 else 6 - bitCount 6 (s.get FEN_ENG.CORES_IN g)).foldl (· + ·) 0

/-- R9: the chip alarm; an active of a pair alerts its libero (Table 10-2). -/
def State.raiseAlarm (s : State) : State :=
  if s.fen.chipAlarm then s else { s with fen := { s.fen with chipAlarm := true } }.pairAlert 1

/-- R13: the region status is recomputed; a change of LEVEL, ENG_IN or CORES_OUT sets CHANGED and raises the
region-capacity event. A FAILED region raises the chip alarm (R9). -/
def State.regionUpdate (n : Nat) (s : State) : State :=
  let level := s.regionLevel n
  let engs := (s.rotation n).length
  let out := s.coresOut n
  let cap := s.coresIn n * 1463 / 100
  let changed := level != s.get GLB_REGION_STATUS.LEVEL n || engs != s.get GLB_REGION_STATUS.ENG_IN n
    || out != s.get GLB_REGION_STATUS.CORES_OUT n
  let s1 := ((s.set GLB_REGION_STATUS.LEVEL n level).set GLB_REGION_STATUS.ENG_IN n engs).set
    GLB_REGION_STATUS.CORES_OUT n out
  let s2 := (s1.set GLB_REGION_STATUS.CAP_GBPS n cap).set GLB_REGION_STATUS.FRATE n (10 * engs)
  let s3 := s2.set GLB_REGION_STATUS.BELOW_LOAD n (natOfBool (cap < 3200 || 10 * engs < 476))
  let s4 := s3.when changed fun s => (s.set GLB_REGION_STATUS.CHANGED n 1).raise (112 + 8 * n) 1
  if level == 2 && s.get GLB_REGION_STATUS.LEVEL n != 2 then (s4.pairAlert 2).raiseAlarm else s4

/-- R9: a block is fenced; a fence of a chip-level block raises the chip alarm. -/
def State.fenceBlock (b : FBlock) (s : State) : State :=
  let s1 := if b ∈ s.fen.blocks then s else { s with fen := { s.fen with blocks := s.fen.blocks ++ [b] } }
  if b.region < 4 then s1.regionUpdate b.region else s1.raiseAlarm

/-! ### Fences and restores -/

/-- The sequencer of a work item of region n. -/
def WorkItem.seqKey (w : WorkItem) (n : Nat) : Nat := 16 * n + w.q


/-- R10, R11, R160: what becomes of a work item when its engine is fenced: stomped when it is leaving by cut-through,
unless its port has gone down and ended it already, else dispatched again with the numbers it holds. Table 4-6 has no row for an
early-released RX frame: it ends with zeros and a stomped FCS and counts in EARLY_STOMP (DESIGN CHOICE, log 63). -/
def State.fenceItem (n : Nat) (w : WorkItem) (s : State) : State :=
  if w.job.isSome then s.pushJob n w
  else match s.roGet (w.seqKey n) w.it.cls w.num with
  | some (.leaving port it) =>
    let s1 := if it.dest == .drop then s else if port < 32 then s.stompRx port it else s.stompTx port it none
    let s2 := (s1.roSet (w.seqKey n) w.it.cls w.num .dropped).freeIngress w.it
    match w.it.sa with
    | some sa => s2.saUnref sa
    | none => s2
  | _ => s.onSeq (w.seqKey n) fun x => { x with redo := x.redo ++ [{ w with ksaHit := false }] }

/-- The work items that an engine holds: in its threads, its express inbox and its normal inbox. -/
def Engine.items (e : Engine) : List WorkItem :=
  (e.threads.filterMap fun t => t.2.work) ++ e.inboxX ++ e.inboxN

/-- R10: an engine leaves the rotation before the next dispatch, and its work is dispatched again. -/
def State.takeOut (n e : Nat) (s : State) : State :=
  let g := 48 * n + e
  let ws := (s.eng g).items
  let s1 := (s.setRotation n e false).onEng g fun x =>
    { x with threads := x.threads.map fun t => (t.1, { t.2 with work := none, slot := none, failed := none, stalled := true })
             inboxN := [], inboxX := [] }
  s1.forL ws fun w s => s.fenceItem n w

/-- R124: an engine is fenced with a cause; every fence but one of cause POD raises the engine-fence event. -/
def State.fenceEngine (n e cause : Nat) (s : State) : State :=
  let g := 48 * n + e
  if s.get FEN_ENG.STATE g == 1 then
    let s1 := ((s.set FEN_ENG.STATE g 2).set FEN_ENG.CAUSE g cause).takeOut n e
    let s2 := s1.when (cause != 5) fun s => s.raise (112 + 8 * n) 2 e
    s2.when (s.rotation n != s2.rotation n) fun s => s.epoch n
  else s

/-- R96, R98: a core is taken out of service with its key register cleared; an engine left without a core is fenced. -/
def State.retireCore (n e c : Nat) (s : State) : State :=
  let g := 48 * n + e
  if s.coreIn g c then
    let s1 := (s.set FEN_ENG.CORES_IN g (s.get FEN_ENG.CORES_IN g - 2 ^ c)).clearCore g c
    let s2 := if s1.get FEN_ENG.CORES_IN g == 0 then s1.fenceEngine n e 3 else s1
    s2.regionUpdate n
  else s

/-- The pod of an engine is ON and its start-up has completed. -/
def State.podServes (s : State) (n e : Nat) : Bool :=
  s.get FEN_POD_CTRL.STATE (6 * n + e / 8) == 1 && (6 * n + e / 8) ∈ s.service

/-- Table 21-7: the power domains of an engine: its pod's shared part and its own. -/
def engineDomains (n e : Nat) : List Nat := [192 + 6 * n + e / 8, 48 * n + e]

/-- R125, R658: the restore of an OFF engine starts. -/
def State.restoreStart (n e : Nat) (s : State) : State :=
  if s.podServes n e then
    (((s.set FEN_ENG.STATE (48 * n + e) 1).clearEngine (48 * n + e)).onEng (48 * n + e) fun x => { x with cores := [] }).domWake
      (engineDomains n e)
  else s

/-- R125, R696: a RESTORE, which is ignored unless the engine's pod serves. -/
def State.restoreEngine (n e : Nat) (s : State) : State :=
  let g := 48 * n + e
  match s.get FEN_ENG.STATE g with
  | 0 => s.restoreStart n e
  | 2 => if s.podServes n e then s.set FEN_ENG.STATE g 3 else s
  | _ => s

/-- An engine's start-up (R125) is under way: its STATE is ON and it is not in rotation. -/
def State.restoring (s : State) (n e : Nat) : Bool :=
  s.get FEN_ENG.STATE (48 * n + e) == 1 && !(s.get FEN_POD_CTRL.ENG_MASK (6 * n + e / 8)).testBit (e % 8)

/-- R124, R696: FENCE = 1, with RESTORE = 1 in the same write when `restore` is set. -/
def State.fenFence (n e : Nat) (restore : Bool) (s : State) : State :=
  let s1 := match s.get FEN_ENG.STATE (48 * n + e) with
    | 1 => s.fenceEngine n e 1
    | 3 => if restore then s else s.set FEN_ENG.STATE (48 * n + e) 2
    | _ => s
  (s1.when restore fun s => s.restoreEngine n e).regionUpdate n

/-- FEN_FENCE (R124, R696). -/
def execFenFence (n : Fin 4) (e : Fin 48) (restore : Bool) (s : State) : Host.Outcome State Fault Refusal := finish (s.fenFence n e restore)

/-- FEN_RESTORE (R125, R696). -/
def execFenRestore (n : Fin 4) (e : Fin 48) (s : State) : Host.Outcome State Fault Refusal :=
  finish (s.restoreEngine n e)

/-- ENGINE_FENCE_DONE (R124, R128): the fence completes; a pending restore then starts, or is discarded (R696). -/
def execEngineFenceDone (n : Fin 4) (e : Fin 48) (s : State) : Host.Outcome State Fault Refusal :=
  let g := 48 * n.val + e
  let st := s.get FEN_ENG.STATE g
  finish (if 2 ≤ st && (s.eng g).items.isEmpty && s.get FEN_ENG.CAUSE g != 5 then
      let s1 := { s.clearEngine g with fen := { (s.clearEngine g).fen with wipes := ackWipes g s.fen.wipes } }
      let s2 := s1.set FEN_ENG.STATE g 0
      ((s2.when (st == 3) fun s => s.restoreStart n e).regionUpdate n)
    else s)
where
  /-- A fenced engine counts as acknowledged (R117). -/
  ackWipes (g : Nat) (l : List KeyWipe) : List KeyWipe :=
    (l.map fun w => { w with waiting := w.waiting.filter (· != g) }).filter fun w => !w.waiting.isEmpty

/-- ENGINE_RESTORE_DONE (R125): the cores of `passed` passed the known-answer test; with none, the start-up fails (R37). -/
def execEngineRestoreDone (n : Fin 4) (e : Fin 48) (passed : BitVec 6) (s : State) : Host.Outcome State Fault Refusal :=
  let g := 48 * n.val + e
  finish (if s.restoring n e && (engineDomains n e).all s.domOn then
      let s1 := s.set FEN_ENG.CORES_IN g passed.toNat
      if passed == 0 then ((s1.set FEN_ENG.STATE g 0).raise (119 + 8 * n.val) 15 e).regionUpdate n
      else ((s1.setRotation n e true).epoch n).regionUpdate n
    else s)

/-- ENGINE_WATCHDOG (R109): a thread has held one work item longer than LIMIT. -/
def execEngineWatchdog (n : Fin 4) (e : Fin 48) (t : Fin 4) (s : State) : Host.Outcome State Fault Refusal :=
  finish (if (s.thr (48 * n + e) t).work.isSome then (s.fenceEngine n e 2).regionUpdate n else s)

/-- ENGINE_MEMORY_FENCE (R124): an uncorrectable error in data memory or in the keystream-ahead buffer. -/
def execEngineMemoryFence (n : Fin 4) (e : Fin 48) (s : State) : Host.Outcome State Fault Refusal :=
  finish ((s.fenceEngine n e 4).regionUpdate n)

/-! ### The known-answer test (R126, R127) -/

/-- R126: the test of the next core of a region, with its outcome; the core's key register is cleared (R128). A failure
takes the core out of service (R98). -/
def State.katTest (n : Nat) (pass : Bool) (s : State) : State :=
  let x := s.fen.katPos.get n 0
  let e := x / 6
  let g := 48 * n + e
  let s1 := { s with fen := { s.fen with katPos := s.fen.katPos.set n ((x + 1) % 288) 0 } }
  let s2 := if x + 1 == 288 then s1.incWrap FEN_KAT_STATUS.PASSES n else s1
  if s.get FEN_POD_CTRL.STATE (6 * n + e / 8) == 1 && s.coreIn g (x % 6) then
    let s3 := s2.clearCore g (x % 6)
    if pass then s3
    else ((((s3.inc FEN_KAT_STATUS.FAILS n).set FEN_KAT_STATUS.CORE n x).raise (112 + 8 * n) 3 e).retireCore n e (x % 6)).pairFail 2
  else s2

/-- KAT_CORE_TEST (R126). -/
def execKatCoreTest (n : Fin 4) (pass : Bool) (s : State) : Host.Outcome State Fault Refusal :=
  finish (if s.flag FEN_KAT_CTRL.EN n && !s.thermPaused then s.katTest n pass else s)

/-- KAT_FORCED_TAKE (R127): the test takes the core at the end of its current block; the core is then tested like any
other. -/
def execKatForcedTake (n : Fin 4) (pass : Bool) (s : State) : Host.Outcome State Fault Refusal :=
  finish (if s.flag FEN_KAT_CTRL.EN n && !s.thermPaused then s.katTest n pass else s)

/-! ### Wipes -/

/-- KEY_WIPE_ACK (R117): an engine has zeroed what it holds of a key handle and acknowledges. -/
def execKeyWipeAck (g : Fin 192) (kh : Fin 69632) (s : State) : Host.Outcome State Fault Refusal :=
  let s1 := s.wipeEngine g kh
  let ws := (s.fen.wipes.map fun w => if w.kh == kh.val then { w with waiting := w.waiting.filter (· != g.val) } else w)
  finish (if s.fen.wipes.any fun w => w.kh == kh.val && g.val ∈ w.waiting then
      { s1 with fen := { s1.fen with wipes := ws.filter fun w => !w.waiting.isEmpty } }
    else s)

/-! ### Keystream ahead -/

/-- The keystream block i of a slot (R110): H, E(J0) and E of J0 incremented. -/
def keystreamBlock (key : List Byte) (j0 : Block) (i : Nat) : Block :=
  match i with
  | 0 => aesEncrypt key 0
  | _ => aesEncrypt key ((List.range (i - 1)).foldl (fun b _ => binc32 b) j0)

/-- R115, R692: every keystream-ahead slot and request of a region is wiped. -/
def State.ksaWipe (n : Nat) (s : State) : State :=
  (s.forN 48 fun e s => s.dropSlots n (48 * n + e) fun _ => true).forN 16 fun q s => s.onSeq (16 * n + q) fun x => { x with reqs := [] }

/-- Keystream ahead runs in a region (R115, R692). -/
def State.ksaOn (s : State) (n : Nat) : Bool := s.flag FEN_KSA_CTRL.EN n && s.get GLB_THERM.STAGE < 2

/-- Block i of a slot (R110), under the key in force in the slot of its SA. -/
def State.slotBlock (s : State) (x : KsaSlot) (i : Nat) : Option Block :=
  match s.key? x.sa, s.sa? x.sa, s.sc? (scOfSa x.sa) with
  | some k, some a, some c => some (keystreamBlock k.key (gcmJ0 (ivOf (formOf c.suite) c.sci a.ssci x.pn k.salt)) i)
  | _, _, _ => none

/-- A key loaded into a core (R96). -/
def State.loadCore (g c kh : Nat) (s : State) : State :=
  s.onEng g fun e =>
    { e with cores := e.cores.set c { e.cores.get c {} with kh := some kh, key := (s.key? kh).elim [] (·.key) } {} }

/-- R98: a core's parity failures of one period: those of the PERIOD that ends now (DESIGN CHOICE, log 63). -/
def State.parityRun (s : State) (n : Nat) (k : Core) : List Nat :=
  k.perrs.filter fun t => s.clk.sinceReset < t + max 10 (s.get FEN_KAT_CTRL.PERIOD n) * 1000000

/-- R97: a core's parity check fails: the block is discarded and counted; the sixteenth failure of a period retires the core
(R98). -/
def State.coreParity (g c : Nat) (s : State) : State :=
  let k := (s.eng g).cores.get c {}
  let run := s.clk.sinceReset :: s.parityRun (g / 48) k
  let s1 := (s.inc FEN_ENG.PERR g).onEng g fun e => { e with cores := e.cores.set c { k with perrs := run } {} }
  if run.length < 16 then s1 else (s1.raise (112 + 8 * (g / 48)) 3 (g % 48)).retireCore (g / 48) (g % 48) c

/-- R97: a core takes a block whose parity check failed on core `failed`: another core in service, or the same one when the engine has
no other in service (DESIGN CHOICE, log 63). -/
def State.reissues (s : State) (g core failed : Nat) : Bool :=
  s.coreIn g core && (core != failed || !(List.range 6).any fun c => c != failed && s.coreIn g c)

/-- R97, R111, R112: a core in service computes the next block of the oldest incomplete request of an engine that serves no work item;
`parity`: the core's parity check fails, and the block is issued again on another core. -/
def State.precharge (g core : Nat) (parity : Bool) (s : State) : State :=
  match (s.eng g).slots.find? fun x => !x.serving && x.blocks.length < x.want + 2 with
  | none => s
  | some x =>
    if !(x.failed.elim (s.coreIn g core) fun f => s.reissues g core f) then s
    else
      let put := fun (y : KsaSlot) (s : State) => s.onEng g fun e => { e with slots := e.slots.map fun z => if z == x then y else z }
      if parity then (put { x with failed := some core } s).coreParity g core
      else match s.slotBlock x x.blocks.length with
        | some b => put { x with blocks := x.blocks ++ [b], failed := none } (s.loadCore g core x.sa)
        | none => s

/-- KSA_PRECHARGE (R97, R111): an engine computes the next block of its oldest incomplete request on a core. -/
def execKsaPrecharge (b : PreBlock) (s : State) : Host.Outcome State Fault Refusal :=
  finish (s.precharge b.g b.core b.parity)

/-- R115: a write of `FEN_KSA_CTRL`: EN = 0 wipes every slot of the region. -/
def State.ksaCtrl (n : Nat) (en : Bool) (ahead maxlen : Nat) (s : State) : State :=
  let s1 := ((s.set FEN_KSA_CTRL.EN n (natOfBool en)).set FEN_KSA_CTRL.AHEAD n ahead).set FEN_KSA_CTRL.MAXLEN n maxlen
  if en then s1 else s1.ksaWipe n

/-- KSA_CTRL_WRITE (R115). -/
def execKsaCtrlWrite (n : Fin 4) (en : Bool) (ahead : BitVec 3) (maxlen : BitVec 8) (s : State) :
    Host.Outcome State Fault Refusal := finish (s.ksaCtrl n en ahead.toNat maxlen.toNat)

end Sys2Proof.Machine
end

