-- ==== Sys2Proof/Machine/LetWindow.lean ====
section
/-!
DEFINITION. What a queue holds and whether it has room (R385, R391, R395), and what of a let stream follows from its ports and its queue
(R303 to R339): the ports it uses (R313, R700), the window (R312, R331 to R334) and the sending mode (R318).
-/

namespace Sys2Proof.Machine

/-! ### Contents -/

/-- A queue. -/
def State.queue (s : State) (q : Nat) : Queue := s.q.queues.get q {}

/-- The region of a queue (R387). -/
def queueRegion (q : Nat) : Nat := q / 1024

/-- Cells that an entry holds outside the marrow. -/
def QEntry.cells : QEntry → Nat
  | .frame it => it.cells
  | .letRec .. => 0

/-- Octets that an entry counts against QMAX: a frame with its FCS (R385), a let descriptor 16. -/
def QEntry.bytes : QEntry → Nat
  | .frame it => it.data.length + 4
  | .letRec .. => 16

/-- Every entry of a queue, oldest first. -/
def Queue.entries (x : Queue) : List QEntry := x.head ++ (x.marrow.map (·.items)).flatten ++ x.tail

/-- The octets of a queue, marrow included. -/
def Queue.bytes (x : Queue) : Nat := sumOf x.entries QEntry.bytes

/-- The cells of a queue. -/
def Queue.cells (x : Queue) : Nat := sumOf (x.head ++ x.tail) QEntry.cells

/-- R391, R400: the items that the head and the tail of a queue hold. -/
def Queue.headCap (x : Queue) : Nat := 128 - 4 * x.headLost

/-- The items that the tail holds. -/
def Queue.tailCap (x : Queue) : Nat := 128 - 4 * x.tailLost

/-- R392: while the marrow is empty and the head has room, items move from the tail to the head. -/
def Queue.settle (x : Queue) : Queue :=
  if x.marrow.isEmpty then
    let k := x.headCap - x.head.length
    { x with head := x.head ++ x.tail.take k, tail := x.tail.drop k }
  else x

/-- A role that may spill (Table 11-3). -/
def State.maySpill (s : State) (q : Nat) : Bool :=
  let r := s.get QMG_QCFG.ROLE q
  r == 4 || ((r == 1 || r == 2) && s.flag QMG_QCFG.SPILL_EN q)

/-- The marrow partition of a queue's region has a free chunk. -/
def State.chunkFree (s : State) (q : Nat) : Bool :=
  s.q.chunksUsed.get (queueRegion q) 0 < s.get DMC_CAP.MARROW_CHUNKS (queueRegion q)

/-- R385, R395: the queue has room for an entry. -/
def State.queueRoom (s : State) (q : Nat) (e : QEntry) : Bool :=
  let x := s.queue q
  let qmax := s.get QMG_QCFG.QMAX q
  (qmax == 0 || x.bytes + e.bytes ≤ 65536 * qmax)
    && (x.tail.length < x.tailCap || (s.maySpill q && s.chunkFree q))
    && (e.cells == 0 || x.cells < 4 * s.get QMG_QCFG.MIN q || 0 < s.poolFree (queueRegion q))

/-! ### Let records (R317) -/

/-- A let stream's working state. -/
def State.letS (s : State) (st : Nat) : LetStream := s.lets.streams.get st {}

/-- A let stream's working state changed. -/
def State.onLet (st : Nat) (f : LetStream → LetStream) (s : State) : State :=
  { s with lets := { s.lets with streams := s.lets.streams.set st (f (s.letS st)) {} } }

/-- Octets of a let record (R317). -/
def LetRec.bytes (r : LetRec) : Nat := 16 + (r.it.data.length + 7) / 8 * 8

/-- RETAINED of a stream recomputed: record octets held, in MiB rounded up. -/
def State.letRetained (st : Nat) (s : State) : State :=
  s.set LET_STREAM_STATUS.RETAINED st (ceilDiv (sumOf (s.letS st).records LetRec.bytes) 1048576)

/-! ### Ports (R313, R700) -/

/-- A field of `LET_STREAM_CFG`. -/
def State.letCfg (s : State) (f : Field) (st : Nat) : Nat := s.get f st

/-- PORT_W and PORT_P of a stream, as line ports. -/
def State.letW (s : State) (st : Nat) : Nat := s.get LET_STREAM_CFG.PORT_W st

/-- PORT_P of a stream. -/
def State.letP (s : State) (st : Nat) : Nat := s.get LET_STREAM_CFG.PORT_P st

/-- The stream's ports run in Kraow mode. -/
def State.letKraow (s : State) (st : Nat) : Bool := s.isKraow (32 + s.letW st)

/-- R259: a line port of a group is unusable: not ACTIVE, SF declared or dRDI declared. -/
def State.krwUnusable (s : State) (p : Nat) : Bool :=
  !s.linePortActive p || s.flag KFR_DEFECT.SF p || s.flag KFR_DEFECT.RDI_RX p

/-- R313: a line port is usable for streams. -/
def State.letUsable (s : State) (p : Nat) : Bool :=
  if s.isKraow (32 + p) then !s.krwUnusable p else s.linePortActive p && !s.flag LPX_PORT_STATUS.LF_RF p

/-- The protection group, not OFF, whose ports are W and P. -/
def State.groupOf (s : State) (w p : Nat) : Option Nat :=
  (List.range 16).find? fun g => s.get FAB_PG_CFG.STATE g != 0 && s.get FAB_PG_CFG.W_PORT g == w && s.get FAB_PG_CFG.P_PORT g == p

/-- The data ports of a stream (Table 9-7). -/
def State.letDataPorts (s : State) (st : Nat) : List Nat :=
  if s.flag LET_STREAM_CFG.VOLLEY st then [s.letW st, s.letP st]
  else if s.letKraow st then [s.letW st, s.letP st] else [s.letW st]

/-- The control ports of a stream (R700). -/
def State.letCtlPorts (s : State) (st : Nat) : List Nat :=
  if s.letW st == s.letP st then [s.letW st] else [s.letW st, s.letP st]

/-- A data port of the stream is usable. -/
def State.letAnyUsable (s : State) (st : Nat) : Bool := (s.letDataPorts st).any s.letUsable

/-- The ports on which a new frame or a replay of the stream leaves (R314, R315, R319): each usable port of a volley; the port
that the group selects; or PORT_W. -/
def State.letSendPorts (s : State) (st : Nat) : List Nat :=
  if s.flag LET_STREAM_CFG.VOLLEY st then ([s.letW st, s.letP st]).filter s.letUsable
  else if s.letKraow st then
    [if (s.groupOf (s.letW st) (s.letP st)).any fun g => s.flag FAB_PG_STATUS.SEL g then s.letP st else s.letW st]
  else [s.letW st]

/-- The TX SC under which a new frame leaves on a port. -/
def State.letTxSc (s : State) (st port : Nat) : Nat :=
  if port == s.letW st then s.get LET_STREAM_SC.SC_W st else s.get LET_STREAM_SC.SC_P st

/-- The TX SC under which a replay or a control message leaves on a port (R319, R327). -/
def State.letRplSc (s : State) (st port : Nat) : Nat :=
  if s.letKraow st then s.letTxSc st port
  else if port == s.letW st then s.get LET_STREAM_SC.RPL_W st else s.get LET_STREAM_SC.RPL_P st

/-- The fields of `LET_STREAM_RXSC` that a stream uses, each with the line port it names (Table 9-7). -/
def State.letRxUsed (s : State) (st : Nat) : List (Field × Nat) :=
  let rw := (LET_STREAM_RXSC.RX_W, s.letW st)
  let rp := (LET_STREAM_RXSC.RX_P, s.letP st)
  let qw := (LET_STREAM_RXSC.RX_RPL_W, s.letW st)
  let qp := (LET_STREAM_RXSC.RX_RPL_P, s.letP st)
  if s.letKraow st then [rw, rp]
  else if s.flag LET_STREAM_CFG.VOLLEY st then [rw, rp, qw, qp]
  else if s.letW st == s.letP st then [rw, qw] else [rw, qw, qp]

/-- The RX SCs that a stream uses. -/
def State.letRxScs (s : State) (st : Nat) : List Nat := (s.letRxUsed st).map fun x => s.get x.1 st

/-- R143: the stream to which an RX SC is bound: one that uses it and is not OFF, or else one that is OFF with an `LET_STREAM_RXSC`
other than its reset value that names it (DESIGN CHOICE, log 63). -/
def State.letOfRxSc (s : State) (sc : Nat) : Option Nat :=
  ((List.range 256).find? fun st => s.get LET_STREAM_CFG.STATE st != 0 && sc ∈ s.letRxScs st).or
    ((List.range 256).find? fun st => s.word .LET_STREAM_RXSC st 0 != 0 && sc ∈ s.letRxScs st)

/-- The stream takes part in the protocol: its start-up has completed (R694), and it is ON or shutting down short of step 3 of R338. -/
def State.letServes (s : State) (st : Nat) : Bool :=
  st < 256 && s.get LET_STREAM_CFG.STATE st != 0 && s.service.contains (1400 + st) && (s.letS st).closeStep < 3

/-! ### Window (R331 to R334) -/

/-- The queue of a stream. -/
def State.letQueue (s : State) (st : Nat) : Nat := s.get LET_STREAM_AUX.QUEUE st

/-- Record octets held by a stream. -/
def State.letBytes (s : State) (st : Nat) : Nat := sumOf (s.letS st).records LetRec.bytes

/-- R312: the numbers in flight reach 2^29. -/
def State.letFar (s : State) (st : Nat) : Bool :=
  2 ^ 29 ≤ s.get LET_STREAM_STATUS.NEXT st - 1 - s.get LET_STREAM_STATUS.CUM st

/-- QUEUE cannot admit another descriptor. -/
def State.letQueueFull (s : State) (st : Nat) : Bool :=
  !(s.get QMG_QCFG.STATE (s.letQueue st) == 1 && s.queueRoom (s.letQueue st) (.letRec st 0))

/-- R312, R331: a stream is full: for the numbers in flight, and with RETAIN = 1 for its window or its queue. -/
def State.letIsFull (s : State) (st : Nat) : Bool :=
  s.letFar st || (s.flag LET_STREAM_CFG.RETAIN st
    && (s.get LET_STREAM_CFG.WINDOW st * 1048576 ≤ s.letBytes st || s.letQueueFull st))

/-- FULL and what follows from it: the let-window event on becoming full (R331), SUSPENDED (R334), and the resumption of
TAILDROP's retention (R333). -/
def State.letWindow (st : Nat) (s : State) : State :=
  let full := s.letIsFull st
  let was := s.flag LET_STREAM_STATUS.FULL st
  let pol := s.get LET_STREAM_CFG.POLICY st
  let s1 := s.set LET_STREAM_STATUS.FULL st (natOfBool full)
  let s2 := s1.when (full && !was) fun s => s.raise (80 + st / 8) 1 st
  let s3 := s2.when (full && pol == 2) fun s => s.set LET_STREAM_STATUS.SUSPENDED st 1
  let s4 := s3.when (full && pol != 0) fun s => s.onLet st fun x => { x with stopped := true }
  let low := s4.letBytes st * 4 ≤ 3 * s4.get LET_STREAM_CFG.WINDOW st * 1048576
  s4.when (pol == 1 && low && !s4.letFar st && !s4.letQueueFull st) fun s => s.onLet st fun x => { x with stopped := false }

/-- The window of a stream that is not OFF, judged again. -/
def State.letWindowOf (st : Nat) (s : State) : State := if s.get LET_STREAM_CFG.STATE st == 0 then s else s.letWindow st

/-- R331: the room of every stream of a region is judged again. -/
def State.letRegionShow (n : Nat) (s : State) : State :=
  s.forN 256 fun st s => if s.letQueue st / 1024 == n then s.letWindowOf st else s

/-- R331: the streams whose room follows from queue q are judged again: the stream that owns it, and where the marrow of its region
has run out of free chunks or has one again (`free`: it had one) every stream of the region. -/
def State.letQueueShow (q : Nat) (free : Bool) (s : State) : State :=
  if s.chunkFree q != free then s.letRegionShow (queueRegion q)
  else if s.get QMG_QCFG.ROLE q == 4 && s.letQueue (s.get QMG_QCFG.OWNER q % 256) == q then s.letWindowOf (s.get QMG_QCFG.OWNER q % 256)
  else s

/-- New frames of a stream are retained now (R317, R333, R334). -/
def State.letRetains (s : State) (st : Nat) : Bool :=
  s.flag LET_STREAM_CFG.RETAIN st && !s.letIsFull st && !s.flag LET_STREAM_STATUS.SUSPENDED st
    && !((s.letS st).stopped && s.get LET_STREAM_CFG.POLICY st == 1)

/-- R320: a record that a NAK has named waits to be replayed, ahead of every frame of its stream not yet dispatched. -/
def State.letNakDue (s : State) (st : Nat) : Bool :=
  s.get LET_STREAM_STATUS.MODE st == 0 && s.letServes st && (s.letS st).nakked.any fun k =>
    s.get LET_STREAM_STATUS.CUM st < k && (s.letS st).records.any (·.number == k)

/-- R427, R165: a stream whose frames wait rather than being dropped: RETAIN = 1 in BACKPRESSURE policy. -/
def State.letNeverDrops (s : State) (st : Nat) : Bool := s.flag LET_STREAM_CFG.RETAIN st && s.get LET_STREAM_CFG.POLICY st == 0

/-- R165: the hold queue of a held SC holds HOLD_LIMIT frames. -/
def State.holdFull (s : State) (sc : Nat) : Bool := (s.sc? sc).any fun c => c.held && c.holdLimit ≤ (s.path.holds.get sc []).length

/-- R165: the hold queue of an SC of the stream is full, and the stream never drops. -/
def State.letHoldFull (s : State) (st : Nat) : Bool :=
  s.letNeverDrops st && ((s.letDataPorts st).any fun p => s.holdFull (s.letTxSc st p))

/-- R165, R320, R332: the class of a client port is held at its sequencer. -/
def State.letBlocks (s : State) (port cls : Nat) : Bool :=
  (List.range 256).any fun st =>
    s.get LET_STREAM_CFG.STATE st != 0 && s.get LET_STREAM_CFG.CLIENT_PORT st == port && s.get LET_STREAM_CFG.CLASS st == cls
      && ((s.get LET_STREAM_CFG.POLICY st == 0 && s.letIsFull st) || s.letNakDue st || s.letHoldFull st)

/-! ### Sending mode (R318) -/

/-- R318, Table 9-3: replay is complete: every number below NEXT has been sent, lies at or below CUM, or has no record. -/
def State.letReplayDone (s : State) (st : Nat) : Bool :=
  !((s.letS st).records.any fun r => (s.letS st).replayPoint ≤ r.number && s.get LET_STREAM_STATUS.CUM st < r.number)

/-- A stream enters REPLAYING from CUM + 1; what NAKs have named is replayed with the rest. -/
def State.letReplayFrom (st : Nat) (s : State) : State :=
  (s.onLet st fun x => { x with replayPoint := s.get LET_STREAM_STATUS.CUM st + 1, nakked := [] }).set LET_STREAM_STATUS.MODE st 2

/-- LET_PORT_USABILITY (R318): the transitions of Table 9-3 that need no timer. -/
def State.letMode (st : Nat) (s : State) : State :=
  if s.get LET_STREAM_CFG.STATE st == 0 then s
  else
    let up := s.letAnyUsable st && !s.isLibero
    match s.get LET_STREAM_STATUS.MODE st with
    | 1 =>
      if up && s.flag LET_STREAM_STATUS.LINKED st then
        if s.flag LET_STREAM_CFG.RETAIN st then
          let s1 := s.letReplayFrom st
          if s1.letReplayDone st then s1.set LET_STREAM_STATUS.MODE st 0 else s1
        else s.set LET_STREAM_STATUS.MODE st 0
      else s
    | 2 => if !up then s.set LET_STREAM_STATUS.MODE st 1
      else if s.letReplayDone st then s.set LET_STREAM_STATUS.MODE st 0 else s
    | _ => if !up then s.set LET_STREAM_STATUS.MODE st 1 else s

/-- The mode of every stream that uses a line port is judged again. -/
def State.letPortChange (p : Nat) (s : State) : State :=
  s.forN 256 fun st s =>
    if s.get LET_STREAM_CFG.STATE st != 0 && (s.letW st == p || s.letP st == p) then s.letMode st else s

end Sys2Proof.Machine
end

