-- ==== Sys2Proof/Machine/Queue.lean ====
section
/-!
DEFINITION. Queues: their contents with head, marrow and tail (R391 to R397), admission at egress (R385, R386, R388, R403), the
discards of a flush (R401) and of a shut-down (R389), and the time that stamps items (R432).
-/

namespace Sys2Proof.Machine

/-! ### Contents -/

/-- A queue replaced, with what `QMG_QSTAT` and `FAB_BUF_STATUS` show of it. -/
def State.putQueue (q : Nat) (x : Queue) (s : State) : State :=
  let n := queueRegion q
  let was := (s.queue q).cells
  let used := s.q.chunksUsed.get n 0 + x.marrow.length - (s.queue q).marrow.length
  let s1 := { s with q := { s.q with queues := s.q.queues.set q x {}
                                     queueCells := s.q.queueCells.set n (s.q.queueCells.get n 0 + x.cells - was) 0
                                     chunksUsed := s.q.chunksUsed.set n used 0 } }
  let s2 := ((s1.set QMG_QSTAT.CELLS q x.cells).set QMG_QSTAT.HEAD q x.head.length).set QMG_QSTAT.TAIL q x.tail.length
  let s3 := (s2.set QMG_QSTAT.CHUNKS q x.marrow.length).set QMG_QSTAT.FLUSHING q (natOfBool x.flush.isSome)
  ((s3.set FAB_BUF_STATUS.CHUNKS_FREE n (s.get DMC_CAP.MARROW_CHUNKS n - used)).bufShow n).letQueueShow q (s.chunkFree q)

/-- The nanosecond count that stamps items (R432): the time base, or the count since reset when it does not run. -/
def State.nowNs (s : State) : Nat :=
  if s.flag TMB_STATUS.RUNNING then s.clk.tbSec * 1000000000 + s.clk.tbNs else s.clk.sinceReset

/-- An entry placed at the tail. -/
def State.pushQueue (q : Nat) (e : QEntry) (s : State) : State :=
  let x := s.queue q
  s.putQueue q ({ x with tail := x.tail ++ [e] }).settle

/-! ### Spilling (R392, R393) -/

/-- Octets that an item takes in a chunk (R393). -/
def QEntry.chunkBytes : QEntry → Nat
  | .frame it => 16 + (it.data.length + 31) / 32 * 32
  | .letRec .. => 16

/-- The oldest items of a list that fit into a chunk with `room` octets left. -/
def packChunk (room : Nat) : List QEntry → List QEntry
  | [] => []
  | e :: r => if e.chunkBytes ≤ room then e :: packChunk (room - e.chunkBytes) r else []

/-- A spilled item holds no cells. -/
def QEntry.spilled : QEntry → QEntry
  | .frame it => .frame { it with cells := 0 }
  | e => e

/-- R392: the oldest items of the tail go to a new chunk. -/
def State.spill (q : Nat) (s : State) : State :=
  let x := s.queue q
  let items := packChunk (65536 - 64) x.tail
  if items.isEmpty then s
  else
    let c : Chunk := { index := (x.marrow.map (·.index + 1)).foldl max 0, items := items.map QEntry.spilled }
    ((s.putQueue q { x with marrow := x.marrow ++ [c], tail := x.tail.drop items.length }).pmcEvent (queueRegion q) 0xA 0 1)

/-- R392: the conditions of a spill. -/
def State.spillDue (s : State) (q : Nat) : Bool :=
  let x := s.queue q
  s.maySpill q && s.chunkFree q &&
    (x.tailCap ≤ x.tail.length || 4 * max 1 (s.get QMG_QCFG.SPILL_CELLS q) < sumOf x.tail QEntry.cells)

/-! ### Admission (R385, R395) -/

/-- An admitted entry enters the queue; a full tail spills first. -/
def State.enqueue (q : Nat) (e : QEntry) (s : State) : State :=
  (s.when ((s.queue q).tailCap ≤ (s.queue q).tail.length && s.spillDue q) fun s => s.spill q).pushQueue q e

/-- The PORT_EGRESS queue of a port and class that is not OFF (R388). -/
def State.egressQueue (s : State) (p cls : Nat) : Option Nat :=
  (List.range 4096).find? fun q =>
    s.get QMG_QCFG.ROLE q == 1 && s.get QMG_QCFG.STATE q != 0 && s.get QMG_QCFG.OWNER q % 64 == p
      && s.get QMG_QCFG.CLASS q == cls

/-- The queue of a host ring that is not OFF. -/
def State.ringQueue (s : State) (r : Nat) : Option Nat :=
  (List.range 4096).find? fun q =>
    s.get QMG_QCFG.ROLE q == 2 && s.get QMG_QCFG.STATE q != 0 && s.get QMG_QCFG.OWNER q == r

/-- The egress port of a PORT_EGRESS queue. -/
def State.queuePort (s : State) (q : Nat) : Option Nat :=
  if s.get QMG_QCFG.ROLE q == 1 then some (s.get QMG_QCFG.OWNER q % 64) else none

/-- R262: while a protection group selects P, the queues of its W drain into P (notes/assumptions/30.md). -/
def State.servePort (s : State) (p : Nat) : Nat :=
  if p < 32 then p
  else match (List.range 16).find? fun g =>
      s.get FAB_PG_CFG.STATE g == 1 && 32 + s.get FAB_PG_CFG.W_PORT g == p && s.flag FAB_PG_STATUS.SEL g with
    | some g => 32 + s.get FAB_PG_CFG.P_PORT g
    | none => p

/-- The port into which a PORT_EGRESS queue drains is down. -/
def State.queueDown (s : State) (q : Nat) : Bool := (s.queuePort q).any fun p => !s.portUp (s.servePort p)

/-- R386: an item for the queue waits for room rather than being dropped: the queue is LOSSLESS, or the item belongs to a let
stream in BACKPRESSURE policy. -/
def State.waitsForRoom (s : State) (q : Nat) (it : Item) : Bool :=
  s.flag QMG_QCFG.LOSSLESS q || it.stream.any fun st => s.get LET_STREAM_CFG.POLICY st == 0

/-- A protected frame dropped on its way burns its PN; a frame of a ring whose time-stamp operation waits for it to leave
completes with FAULT (R560, R562). -/
def State.dropFrame (it : Item) (s : State) : State :=
  (s.burn it).when (it.ts.op != 0) fun s => s.itemComplete it 1 none

/-- A frame refused at egress admission burns its PN, and a frame of a ring completes with DROPPED (R611). -/
def State.refuseFrame (it : Item) (s : State) : State := (s.burn it).itemComplete it 6 none

/-- R385: the role and the owner of a queue match a frame. -/
def State.queueFits (s : State) (q : Nat) (it : Item) : Bool :=
  match it.dest with
  | .egress p c => s.get QMG_QCFG.ROLE q == 1 && s.get QMG_QCFG.OWNER q % 64 == p && s.get QMG_QCFG.CLASS q == c
  | .queue _ => s.get QMG_QCFG.ROLE q == 2
  | _ => true

/-- R385: a queue could take a frame, room apart: it is ON and matches the frame. -/
def State.queueServes (s : State) (q : Nat) (it : Item) : Bool := s.get QMG_QCFG.STATE q == 1 && s.queueFits q it

/-- R385, R386, R388, R389, R403: a frame arrives at the egress admission of a queue with its cells already off its ingress
account: it is enqueued, or dropped and counted. -/
def State.arrive (q : Nat) (it0 : Item) (s : State) : State :=
  let n := queueRegion q
  let it := { it0 with cells := cellsOf (it0.data.length + 4), hdrm := false, enq := s.nowNs }
  match s.get QMG_QCFG.STATE q with
  | 0 => (s.inc FAB_DROP_CNT.NO_QUEUE n).refuseFrame it
  | 1 =>
    if !s.queueFits q it then (s.inc FAB_DROP_CNT.NO_QUEUE n).refuseFrame it
    else if s.queueDown q then (s.inc FAB_DROP_CNT.PORT_DOWN n).refuseFrame it
    else if s.queueRoom q (.frame it) then (s.enqueue q (.frame it)).when (it.ts.op == 0) fun s => s.itemComplete it 0 none
    else (s.inc FAB_DROP_CNT.EGRESS n).refuseFrame it
  | _ => (s.inc QMG_QSTAT.DROPS q).refuseFrame it

/-- R375, R376: a mirror copy to a queue: enqueued when the queue serves and has room, else counted in MIRROR. -/
def State.mirror (q : Nat) (it0 : Item) (s : State) : State :=
  let it := { it0 with cells := cellsOf (it0.data.length + 4), hdrm := false, enq := s.nowNs, sa := none, burns := false
                       stream := none }
  let role := s.get QMG_QCFG.ROLE q
  let owner := s.get QMG_QCFG.OWNER q
  let ok := (role == 1 && owner % 64 < 32 && s.portUp owner) || (role == 2 && 256 ≤ owner && owner < 512)
  if ok && s.get QMG_QCFG.STATE q == 1 && s.queueRoom q (.frame it) then s.enqueue q (.frame it)
  else s.inc FAB_DROP_CNT.MIRROR (queueRegion q)

/-! ### Let records (R335) -/

/-- R335, R397: a record can no longer be read: its number is no longer held, and LOSSY is set. -/
def State.letLose (st number : Nat) (s : State) : State :=
  ((((s.onLet st fun x => { x with records := x.records.filter fun r => r.number != number }).letRetained st).set
    LET_STREAM_STATUS.LOSSY st 1).letMode st).letWindowOf st

/-! ### Discards -/

/-- What the loss of an entry does beside the counting: a protected frame burns its PN, a let descriptor loses its record. -/
def State.loseEntry (e : QEntry) (s : State) : State :=
  match e with
  | .frame it => s.dropFrame it
  | .letRec st number => s.letLose st number

/-- Every entry of a queue is discarded and counted in a field of `QMG_QSTAT`. -/
def State.discardAll (q : Nat) (cnt : Field) (s : State) : State :=
  let x := s.queue q
  let s1 := (s.putQueue q { x with head := [], marrow := [], tail := [] }).inc cnt q x.entries.length
  s1.forL x.entries fun e s => s.loseEntry e

/-- R401: the flush of a queue starts: every item ahead of the mark is discarded; FLUSHING reads 1 until it completes. -/
def State.flushQueue (q : Nat) (s : State) : State :=
  let s1 := s.discardAll q QMG_QSTAT.FLUSHED
  s1.putQueue q { s1.queue q with flush := some 0 }

/-- R401: the egress queues that drain into a port are flushed. -/
def State.flushPort (p : Nat) (s : State) : State :=
  s.forN 4096 fun q s =>
    if s.get QMG_QCFG.ROLE q == 1 && s.servePort (s.get QMG_QCFG.OWNER q % 64) == p && s.get QMG_QCFG.STATE q != 0 then s.flushQueue q
    else s

/-! ### Meanings -/

/-- MARROW_SPILL (R392): a queue spills to a new chunk. -/
def execMarrowSpill (q : Fin 4096) (s : State) : Host.Outcome State Fault Refusal :=
  finish (if s.spillDue q then s.spill q else s)

/-- R394: items of the oldest chunk that the head and the cells can take. -/
def State.refillStep (q : Nat) (s : State) : State :=
  let x := s.queue q
  match x.marrow with
  | [] => s
  | c :: r =>
    match c.items with
    | [] => s.putQueue q ({ x with marrow := r }).settle
    | e :: es =>
      let e1 := match e with
        | .frame it => QEntry.frame { it with cells := cellsOf (it.data.length + 4) }
        | e => e
      let room := e1.cells == 0 || x.cells < 4 * s.get QMG_QCFG.MIN q || 0 < s.poolFree (queueRegion q)
      if x.head.length < x.headCap && room then
        let rest := if es.isEmpty then r else { c with items := es } :: r
        s.putQueue q ({ x with head := x.head ++ [e1], marrow := rest }).settle
      else s

/-- MARROW_REFILL (R394, R397): the oldest chunk of a queue whose head holds fewer than 32 items is read into the head; `bad`:
the chunk read is poisoned or uncorrectable, and its items are discarded. -/
def execMarrowRefill (q : Fin 4096) (bad : Bool) (s : State) : Host.Outcome State Fault Refusal :=
  let x := s.queue q
  finish (if 32 ≤ x.head.length then s
    else match x.marrow with
      | [] => s
      | c :: r =>
        if bad || c.poisoned then
          let s1 := (s.putQueue q ({ x with marrow := r }).settle).inc QMG_QSTAT.DROPS q c.items.length
          s1.forL c.items fun e s => s.loseEntry e
        else s.forN c.items.length fun _ s => s.refillStep q)

/-- FLUSH_COMPLETE (R402, R404): the flush of a queue completes. -/
def execFlushComplete (q : Fin 4096) (s : State) : Host.Outcome State Fault Refusal :=
  finish (if (s.queue q).flush.isSome then s.putQueue q { s.queue q with flush := none } else s)

end Sys2Proof.Machine
end

