-- ==== Sys2Proof/Machine/Srb.lean ====
section
/-!
DEFINITION. The SRAM banks (R469 to R485): error handling and repair, power states, the background test and the wipe of the
secure part.
-/

namespace Sys2Proof.Machine

/-! ### Bank registers: 0 to 47 in the regions, 48 to 51 at chip level -/

/-- A field of a bank. -/
def State.bankGet (s : State) (region chip : Field) (b : Nat) : Nat :=
  if b < 48 then s.get region b else s.get chip (b - 48)

/-- A field of a bank replaced. -/
def State.bankSet (region chip : Field) (b v : Nat) (s : State) : State :=
  if b < 48 then s.set region b v else s.set chip (b - 48) v

/-- A counter of a bank raised. -/
def State.bankInc (region chip : Field) (b : Nat) (s : State) : State :=
  if b < 48 then s.inc region b else s.inc chip (b - 48)

/-- The master of a bank (Table 14-1). -/
def State.bankMaster (s : State) (b : Nat) : Nat := s.bankGet SRB_BANK.MASTER SRB_CHIP_BANK.MASTER b

/-- PSTATE of a bank: 0 ON, 1 RETENTION, 2 OFF, 3 changing. -/
def State.bankState (s : State) (b : Nat) : Nat := s.bankGet SRB_BANK.PSTATE SRB_CHIP_BANK.PSTATE b

/-- The region whose registers report a bank: chip banks take region 0 (R480). -/
def bankRegion (b : Nat) : Nat := if b < 48 then b / 12 else 0

/-- The banks of a region that serve a master. -/
def State.banksOf (s : State) (n master : Nat) : List Nat :=
  ((List.range 12).map (12 * n + ·)).filter fun b => s.bankMaster b == master

/-! ### Errors and repair (R473, R474, Table 14-3) -/

/-- R400: a line of the queue bank of a region is retired: the head or tail that holds it keeps 4 fewer items. The rows of the bank hold,
64 for each queue in order, its head and its tail (DESIGN CHOICE, log 12). -/
def State.retireLine (n row : Nat) (s : State) : State :=
  let q := 1024 * n + row / 64
  let x := s.q.queues.get q {}
  let y := if row % 64 < 32 then { x with headLost := x.headLost + 1 } else { x with tailLost := x.tailLost + 1 }
  ({ s with q := { s.q with queues := s.q.queues.set q y {} } }).inc QMG_ECC.RETIRED (q / 64)

/-- Table 14-3, last column: no spare row or tile remains for a row. -/
def State.bankExhausted (b row : Nat) (s : State) : State :=
  match s.bankMaster b with
  | 1 => { s with q := { s.q with lostCells := s.q.lostCells.set (b / 12) (s.q.lostCells.get (b / 12) 0 + 1) 0 } }.bufShow (b / 12)
  | 5 => s.retireLine (b / 12) row
  | 6 => s
  | _ => (s.bankSet SRB_BANK.FENCED SRB_CHIP_BANK.FENCED b 1).fenceBlock (.bank b)

/-- A spare row of the tile or a spare tile of the bank is left. -/
def State.spareLeft (s : State) (b tile : Nat) : Bool :=
  s.srb.spareRows.get (64 * b + tile) 0 < 8 || s.bankGet SRB_BANK.SPARE_TILES SRB_CHIP_BANK.SPARE_TILES b != 0

/-- R474: a failing row (1,024 × tile + row within it) is repaired with a spare row, or its tile with a spare tile, whose spare rows are
all free. -/
def State.repairRow (b row : Nat) (s : State) : State :=
  let k := 64 * b + row / 1024
  let used := s.srb.spareRows.get k 0
  let sp := s.bankGet SRB_BANK.SPARE_TILES SRB_CHIP_BANK.SPARE_TILES b
  if used < 8 then { s with srb := { s.srb with spareRows := s.srb.spareRows.set k (used + 1) 0 } }
  else if sp == 0 then s.bankExhausted b row
  else
    let s1 := s.bankSet SRB_BANK.SPARE_TILES SRB_CHIP_BANK.SPARE_TILES b (sp - 1)
    { s1 with srb := { s1.srb with spareRows := s1.srb.spareRows.erase k } }

/-- R473, R474: a corrected error; the third of a row within 24 h makes the row failing. -/
def State.bankCorrected (b row : Nat) (s : State) : State :=
  let now := s.clk.sinceReset
  let recent := s.srb.corrected.filter fun c => now < c.2.2 + 86400000000000
  let hits := (recent.filter fun c => c.1 == b && c.2.1 == row).length
  let s1 := s.bankInc SRB_BANK.CORR SRB_CHIP_BANK.CORR b
  if 2 ≤ hits then
    ({ s1 with srb := { s1.srb with corrected := recent.filter fun c => !(c.1 == b && c.2.1 == row) } }).repairRow b row
  else { s1 with srb := { s1.srb with corrected := recent ++ [(b, row, now)] } }

/-- R473, R474: an uncorrectable error: counted, the row repaired and the bank-error event raised. -/
def State.bankUncorrectable (b row : Nat) (s : State) : State :=
  ((s.bankInc SRB_BANK.UNCORR SRB_CHIP_BANK.UNCORR b).raise (118 + 8 * bankRegion b) 1 b).repairRow b row

/-- R473: a corrected error in the queue bank of a queue, in a row of its head or tail, counted for its group too (R398). -/
def State.queueFixed (q row : Nat) (s : State) : State :=
  (s.forL (s.banksOf (q / 1024) 5) fun b s => s.bankCorrected b (64 * (q % 1024) + row)).inc QMG_ECC.CORR (q / 64)

/-- R399, R473: an uncorrectable error in a descriptor of a queue. -/
def State.queueBad (q : Nat) (s : State) : State :=
  ((s.forL (s.banksOf (q / 1024) 5) fun b s => s.bankUncorrectable b (64 * (q % 1024))).inc QMG_ECC.UNCORR (q / 64)).inc QMG_QSTAT.DROPS q

/-- The frame-buffer bank of a queue's region with a place among the six. -/
def State.frameBank (s : State) (q bank : Nat) : List Nat := ((s.banksOf (q / 1024) 1).drop bank).take 1

/-- R398, R473: a corrected error in the frame data of an item of a queue. -/
def State.frameFixed (q bank row : Nat) (s : State) : State :=
  (s.forL (s.frameBank q bank) fun b s => s.bankCorrected b row).inc QMG_ECC.CORR (q / 64)

/-- R399, R473: an uncorrectable error in the frame data of an item of a queue. -/
def State.frameBad (q bank row : Nat) (s : State) : State := s.forL (s.frameBank q bank) fun b s => s.bankUncorrectable b row

/-- R398: the corrected error that the move of an item of a queue meets. -/
def State.headFixed (q : Nat) (err : HeadErr) (s : State) : State :=
  match err with
  | .descriptorFixed r => s.queueFixed q r
  | .dataFixed b r => s.frameFixed q b r
  | _ => s

/-- The error that an access to a bank meets. -/
def State.bankEcc (b : Nat) (e : MemEcc) (s : State) : State :=
  match e with
  | .ok => s
  | .corrected row => s.bankCorrected b row
  | .uncorrectable row => s.bankUncorrectable b row

/-- R656, Table 21-6: the power domain of a bank follows its power state and its request; EN is RO. -/
def State.bankDom (b : Nat) (s : State) : State :=
  let off := s.bankGet SRB_BANK.PREQ SRB_CHIP_BANK.PREQ b == 2
  let st := match s.bankState b with
    | 2 => 0
    | 3 => if off then 2 else if s.srb.changing.get b 0 == 3 then 3 else 1
    | _ => 1
  (s.set PWR_DOM.EN (216 + b) (natOfBool (!off))).set PWR_DOM.STATE (216 + b) st

/-- R478: an access reaches a bank: RETENTION wakes it, OFF returns an error. -/
def State.bankAccess (b : Nat) (s : State) : State :=
  match s.bankState b with
  | 1 =>
    let s1 := (s.bankSet SRB_BANK.PREQ SRB_CHIP_BANK.PREQ b 0).bankSet SRB_BANK.PSTATE SRB_CHIP_BANK.PSTATE b 3
    ({ s1 with srb := { s1.srb with changing := s1.srb.changing.set b 1 0 } }).bankDom b
  | 2 => s.bankInc SRB_BANK.UNCORR SRB_CHIP_BANK.UNCORR b
  | _ => s

/-! ### Power states (R475 to R479) -/

/-- Every port of a region has STATE OFF. -/
def State.portsOff (s : State) (n : Nat) : Bool :=
  (List.range 8).all fun k => s.get CPX_PORT_CTRL.STATE (8 * n + k) == 0 && s.get LPX_PORT_CTRL.STATE (8 * n + k) == 0

/-- Every pod of a region has STATE OFF. -/
def State.podsOff (s : State) (n : Nat) : Bool := (List.range 6).all fun p => s.get FEN_POD_CTRL.STATE (6 * n + p) == 0

/-- No let stream with CLIENT_PORT in a region has STATE other than OFF. -/
def State.streamsOff (s : State) (n : Nat) : Bool :=
  (List.range 256).all fun st => s.get LET_STREAM_CFG.STATE st == 0 || s.get LET_STREAM_CFG.CLIENT_PORT st / 8 != n

/-- R476, Table 14-4: a bank may be requested into RETENTION (1) or OFF (2). -/
def State.preqAllowed (s : State) (b preq : Nat) : Bool :=
  let n := b / 12
  b < 48 && match s.bankMaster b with
    | 1 => s.portsOff n && s.q.free n == 98304
    | 2 => preq == 1 && s.podsOff n
    | 3 => preq == 1 && s.podsOff n
    | 4 => preq == 1 && s.portsOff n
    | 6 => s.streamsOff n
    | _ => false

/-- R477: every bank of a region that serves one of these masters is ON. -/
def State.banksOn (s : State) (n : Nat) (masters : List Nat) : Bool :=
  masters.all fun m => (s.banksOf n m).all fun b => s.bankState b == 0

/-- R475, R479: a bank starts to change to the state that PREQ names, when no transition is under way. -/
def State.bankGo (b : Nat) (s : State) : State :=
  let p := s.bankGet SRB_BANK.PREQ SRB_CHIP_BANK.PREQ b
  if s.bankState b == 3 || s.bankState b == p then s
  else
    let s1 := (s.bankSet SRB_BANK.PSTATE SRB_CHIP_BANK.PSTATE b 3).when (s.bankState b == 2) fun s => s.wakeBegin (216 + b)
    { s1 with srb := { s1.srb with changing := s1.srb.changing.set b (p + 1) 0 } }

/-- R475, R476, R479: a write of PREQ; `clr` writes 1 to REJ, and a PREQ of 0b11 leaves the field unchanged. -/
def State.preqWrite (b preq : Nat) (clr : Bool) (s : State) : State :=
  let s1 := s.when clr fun s => s.bankSet SRB_BANK.REJ SRB_CHIP_BANK.REJ b 0
  if preq == 3 then s1
    else if preq != 0 && !s.preqAllowed b preq then s1.bankSet SRB_BANK.REJ SRB_CHIP_BANK.REJ b 1
    else ((s1.bankSet SRB_BANK.PREQ SRB_CHIP_BANK.PREQ b preq).bankGo b).bankDom b

/-- SRB_PREQ_WRITE (R475, R476, R479). -/
def execSrbPreqWrite (b : Fin 52) (preq : BitVec 2) (clr : Bool) (s : State) : Host.Outcome State Fault Refusal :=
  finish (s.preqWrite b preq.toNat clr)

/-- SRB_POWER_TRANSITION_DONE (R475, R479): the bank reaches the state it was changing to, and then goes on to the state
that PREQ names. -/
def execSrbPowerTransitionDone (b : Fin 52) (s : State) : Host.Outcome State Fault Refusal :=
  finish (match s.srb.changing.get b 0 with
    | 0 => s
    | v + 1 =>
      let s1 := (s.bankSet SRB_BANK.PSTATE SRB_CHIP_BANK.PSTATE b v).wakeOver (216 + b)
      (({ s1 with srb := { s1.srb with changing := s1.srb.changing.erase b } }).bankGo b).bankDom b)

/-! ### The background test (R480 to R482) -/

/-- The banks that a region's test covers: its own, and for region 0 the chip banks too. -/
def testBanks (n : Nat) : List Nat := (List.range 12).map (12 * n + ·) ++ (if n == 0 then [48, 49, 50, 51] else [])

/-- R482: a row of the region under test fails March C−: counted, and repaired where a spare is left. -/
def State.testFail (n b row : Nat) (s : State) : State :=
  let pos := s.get SRB_TEST_STATUS.POS n
  if b ∈ testBanks n && s.bankState b == 0 && row < 64 then
    let s1 := (s.inc SRB_TEST_STATUS.FAILS n).when (s.spareLeft b (pos / 16)) fun s => s.inc SRB_TEST_STATUS.REPAIRS n
    (s1.repairRow b (64 * pos + row)).pairFail 3
  else s

/-- R481, R485: a bank has tested region `pos`: its save buffer keeps the copy of that region that was restored, or zeros in a KST bank. -/
def State.saveBuffer (b pos : Nat) (s : State) : State :=
  { s with srb := { s.srb with saved := s.srb.saved.set b (if s.bankMaster b == 7 then 0 else pos + 1) 0 } }

/-- SRB_REGION_TEST (R480 to R482, R485): each ON bank of the region tests region POS; `fails` lists bank and row (0 to 63 of the
4 KiB region) of each failing row. -/
def execSrbRegionTest (n : Fin 4) (fails : List (Nat × Nat)) (s : State) : Host.Outcome State Fault Refusal :=
  finish (if s.get SRB_TEST_CFG.STATE n == 1 && !s.thermPaused then
      let pos := s.get SRB_TEST_STATUS.POS n
      let s0 := s.forL ((testBanks n).filter fun b => s.bankState b == 0) fun b s => s.saveBuffer b pos
      let s1 := s0.forL fails fun f s => s.testFail n f.1 f.2
      if pos + 1 < 1024 then s1.set SRB_TEST_STATUS.POS n (pos + 1)
      else (s1.set SRB_TEST_STATUS.POS n 0).incWrap SRB_TEST_STATUS.PASSES n
    else s)

/-! ### The secure part (R483, R484) -/

/-- R483, R484: the secure part is zeroed and read back; `cause` 1 ZEROISE, 2 life-cycle transition. A row that does not
read back as zero raises the wipe-failure event and is a fault of the KST block. -/
def State.secureWipe (cause : Nat) (ok : Bool) (s : State) : State :=
  let s1 := (s.inc SRB_WIPE_STATUS.WIPES 0).set SRB_WIPE_STATUS.CAUSE 0 cause
  if ok then s1
  else ((s1.set SRB_WIPE_STATUS.VERIFY_FAIL 0 1).raise 144 5).fenceBlock (.bank 48)

end Sys2Proof.Machine
end

