-- ==== Sys2Proof/Machine/ItemEnd.lean ====
section
/-!
DEFINITION. How a work item begins and ends on an engine: the load of Table 3-2 (R82, R103, R113), the end of an item with PASS
or FAIL (R122, R114, checks 8 of Table 4-4, R154, R155, R160) and the program fault (R123).
-/

namespace Sys2Proof.Machine

/-! ### Registers of a thread -/

/-- An integer register; e0 reads 0 (Table 3-1). -/
def State.ereg (s : State) (g t r : Nat) : Word := if r == 0 then 0 else (s.thr g t).e.get r 0

/-- An integer register written; e0 ignores writes. -/
def State.setEreg (g t r : Nat) (v : Word) (s : State) : State :=
  if r == 0 then s else s.onThr g t fun x => { x with e := x.e.set r v 0 }

/-- A block register. -/
def State.breg (s : State) (g t r : Nat) : Block := (s.thr g t).b.get r 0

/-- A block register written. -/
def State.setBreg (g t r : Nat) (v : Block) (s : State) : State := s.onThr g t fun x => { x with b := x.b.set r v 0 }

/-! ### The mode program of an item -/

/-- The mode program slot that an item's SA names; of a job, the one for its kind: 2 for AES-CMAC, 3 for key wrap (DEDUCED, log 25). -/
def State.itemSlot (s : State) (w : WorkItem) : Nat := match w.job with
  | some (_, slot) => slot
  | none => (w.it.sa.bind s.sa?).elim 0 (·.modeProg)

/-- The code set that an engine runs. -/
def State.engineSet (s : State) (g : Nat) : Nat := s.get FEN_POD_CTRL.SET_IN_USE (g / 8)

/-- The mode program of a slot in the set that engine g runs. -/
def State.progOf (s : State) (g slot : Nat) : Option ModeProg :=
  s.fen.progs.get (128 * (g / 48) + 64 * s.engineSet g + slot) none

/-- The mode program of a thread's work item. -/
def State.thrProg (s : State) (g t : Nat) : Option ModeProg := (s.thr g t).work.bind fun w => s.progOf g (s.itemSlot w)

/-- The key handle bound to a work item (R92). -/
def WorkItem.key (w : WorkItem) : Option Nat := match w.job with
  | some (kh, _) => some kh
  | none => w.it.sa

/-- The SCI of a frame: of its SC on transmit, of its classification key on receive. -/
def Item.sciOf (it : Item) : Word :=
  match it.res with
  | some e => if keyType e.key == 2 then BitVec.ofNat 64 (e.key.toNat / 2 ^ 16) else it.scFields.elim 0 (·.sci)
  | none => it.scFields.elim 0 (·.sci)

/-- An item received from the line. -/
def Item.isRx (it : Item) : Bool := it.scFields.any (·.rx)

/-- J0 of a work item in a form of Table 3-7. -/
def State.itemJ0 (s : State) (w : WorkItem) (form : Nat) : Block :=
  let salt := (w.key.bind s.key?).elim 0 (·.salt)
  gcmJ0 (ivOf form w.it.sciOf ((w.it.sa.bind s.sa?).elim 0 (·.ssci)) w.it.pn salt)

/-! ### The end of an item -/

/-- R72: the reference of an item's SA is given back. -/
def State.itemUnref (it : Item) (s : State) : State :=
  match it.sa with
  | some sa => s.saUnref sa
  | none => s

/-- A statistics counter of an item's SA. -/
def State.itemStat (it : Item) (i d : Nat) (s : State) : State :=
  match it.sa with
  | some sa => s.stat sa i d
  | none => s

/-- What an RX item becomes when its engine has decrypted it: the frame delivered (R143), with the volley tag taken off where
the SC is bound to a let stream, and whether the ICV passes. A let control message (R327) carries no volley tag: its eight octets count
as user data (R171). -/
def State.openItem (s : State) (it : Item) : Option (Item × Bool) :=
  match it.scFields, parseSecTag it.data, it.sa with
  | some sc, some t, some sa =>
    let (key, salt) := s.saKeySalt sa
    let (body, ok) := openSecure sc t it.sciOf ((s.sa? sa).elim 0 (·.ssci)) it.pn salt key it.data
    let user := if it.rxStream.isSome then body.drop 8 else body
    some ({ it with data := deliverFrame t it.data user
                    enc := some (t.e, if it.rxStream.isSome && beAt body 0 2 == 0x88B5 then body.length else user.length)
                    vtag := if it.rxStream.isSome then some (body.take 8) else none }, ok)
  | _, _, _ => none

/-- What a TX item becomes when its engine has protected it (Table 4-3, step 5). -/
def State.sealItem (s : State) (it : Item) : Item :=
  match it.scFields, it.sa with
  | some sc, some _ => { it with data := s.protect it it.stomp, enc := some (sc.encrypt, it.userOctets) }
  | _, _ => it

/-- R171: a TX frame whose last octet has been sent. -/
def State.countSent (it : Item) (s : State) : State :=
  match it.sa, it.enc with
  | some sa, some (e, n) => if e then (s.stat sa 1 1).stat sa 3 n else (s.stat sa 0 1).stat sa 2 n
  | _, _ => s

/-- R171: an RX frame accepted. -/
def State.countAccepted (it : Item) (s : State) : State :=
  match it.sa, it.enc with
  | some sa, some (e, n) => (s.stat sa 0 1).stat sa (if e then 6 else 5) n
  | _, _ => s

/-- R141, R142, R46: an RX frame that has passed its checks: DELAYED where its PN lies below LA, then LA, LIFE and the counters. -/
def State.acceptRx (it : Item) (s : State) : State :=
  match it.scFields, it.sa with
  | some c, some sa =>
    let s1 := s.when (it.pn < (s.sa? sa).elim 0 (·.pn)) fun s => s.stat sa 3 1
    ((s1.onSa sa fun a => { a with pn := max a.pn (it.pn + 1 - c.window) }).saActivateRx sa).countAccepted it
  | _, _ => s

/-- R374: the mirror copy of a frame. -/
def State.mirrorCopy (it : Item) (s : State) : State :=
  match it.res with
  | some e => if e.mirror then s.mirror e.mirrorQ { it with reason := 5, cookie := e.cookie } else s
  | none => s

/-- An item dropped by its engine: its number is released (R108), its cells are freed, its reference is given back, and a frame
of a ring completes with MEM_ERR (Table 19-6). -/
def State.engineDrop (n : Nat) (w : WorkItem) (s : State) : State :=
  (((s.roSet (16 * n + w.q) w.it.cls w.num .dropped).freeIngress w.it).itemUnref w.it).itemComplete w.it 3 none

/-- R156: the items of region n that wait at the head of the reorder stage for a port on which a frame leaves have found it busy. -/
def State.markStored (n port : Nat) (s : State) : State :=
  let waits := fun (w : WorkItem) => w.job.isNone && w.it.dest == .egress port w.it.cls
    && match s.ro (16 * n + w.q) w.it.cls with
      | e :: _ => e.num == w.num
      | [] => false
  let mark := fun (w : WorkItem) => if waits w then { w with it := { w.it with stored := true } } else w
  { s with fen := { s.fen with engines := s.fen.engines.map fun x => if x.1 / 48 == n then (x.1, { x.2 with
      threads := x.2.threads.map fun t => (t.1, { t.2 with work := t.2.work.map mark })
      inboxN := x.2.inboxN.map mark, inboxX := x.2.inboxX.map mark }) else x } }

/-- R122, R155, R160: an item that is leaving on a port by cut-through ends; one whose port has gone down has ended already. -/
def State.endLeaving (n : Nat) (w : WorkItem) (port : Nat) (it : Item) (pass : Bool) (s : State) : State :=
  let s1 := if it.dest == .drop then s
    else if it.isRx then
      if !pass then (s.itemStat it 1 1).stompRx port it
      else if it.stomp then s.stompRx port it
      else ((s.sendFrame port it.data false).acceptRx it).mirrorCopy it
    else if it.stomp || !pass then s.stompTx port it none
    else
      let x := s.sealItem it
      (s.sendFrame port x.data false).countSent x
  (s1.forN 4 fun m s => s.markStored m port).engineDrop n w

/-- R122: FEND of an item: PASS hands it to the reorder stage; FAIL overwrites it with zeros and drops it. An RX item whose ICV
fails has status FAIL whatever the program says (DEDUCED, notes/assumptions/11.md). FEND FAIL of a TX item without a program fault is
in no row of Table 3-11: a frame not yet leaving is dropped and its PN is not burned; one that is leaving is stomped, which burns it
(DESIGN CHOICE, log 63). -/
def State.endItem (n : Nat) (w : WorkItem) (pass : Bool) (s : State) : State :=
  let it := w.it
  if w.job.isSome then s
  else match s.roGet (16 * n + w.q) it.cls w.num with
  | some (.leaving port x) => s.endLeaving n w port x (pass && (!it.isRx || (s.openItem it).any (·.2)))
  | _ =>
    if it.isRx then
      match s.openItem it with
      | some (x, ok) =>
        if it.stomp then
          let zeros := x.data.take it.released ++ List.replicate (x.data.length - it.released) 0
          ((s.roSet (16 * n + w.q) it.cls w.num (.done { x with data := zeros })).when (!ok) fun s => s.itemStat it 1 1).itemUnref it
        else if !ok then (s.itemStat it 1 1).engineDrop n w
        else if pass then (s.roSet (16 * n + w.q) it.cls w.num (.done x)).itemUnref it
        else (s.itemStat it 1 1).engineDrop n w
      | none => (s.itemStat it 1 1).engineDrop n w
    else if pass then (s.roSet (16 * n + w.q) it.cls w.num (.done (s.sealItem it))).itemUnref it
    else s.engineDrop n w

/-- R114: the slot that served a thread's item is overwritten with zeros, and the thread holds no item. -/
def State.threadDone (g t : Nat) (s : State) : State :=
  let x := s.thr g t
  (s.onEng g fun e => { e with slots := match x.slot with
      | some (p, sa, pn) => e.slots.filter fun y => !(y.port == p && y.sa == sa && y.pn == pn)
      | none => e.slots }).onThr g t fun x => { x with work := none, slot := none, failed := none }

/-- R123: a program fault of engine g under a mode program slot is recorded. -/
def State.recordFault (g slot cause : Nat) (s : State) : State :=
  let n := g / 48
  ((((s.inc FEN_FAULT.COUNT n).set FEN_FAULT.CAUSE n cause).set FEN_FAULT.ENGINE n (g % 48)).set FEN_FAULT.SLOT n slot).raise
    (115 + 8 * n) 2 (g % 48)

/-- R123: a program fault of thread t of engine g: recorded, and the work item ends with FAIL; a TX item burns its PN. -/
def State.progFault (g t cause : Nat) (s : State) : State :=
  let n := g / 48
  let s1 := s.recordFault g ((s.thr g t).work.elim 0 fun w => s.itemSlot w) cause
  match (s.thr g t).work with
  | none => s1
  | some w =>
    let s2 := s1.threadDone g t
    let leaving := match s2.roGet (16 * n + w.q) w.it.cls w.num with
      | some (.leaving ..) => true
      | _ => false
    (s2.when (!w.it.isRx && !leaving) fun s => s.burn w.it).endItem n w false

/-! ### The beginning of an item (WAIT) -/

/-- The flags of e5 (Table 3-2). -/
def State.itemFlags (s : State) (w : WorkItem) : Nat :=
  natOfBool w.it.isRx + 2 * natOfBool w.ksaHit + 4 * natOfBool w.it.express
    + 16 * natOfBool ((w.it.sa.bind s.sa?).any (·.early)) + 32 * w.it.scFields.elim 0 (·.suite) + 256 * natOfBool w.job.isSome

/-- The offset of the first octet of secure data (Table 3-2). -/
def Item.secureOff (it : Item) : Nat :=
  if it.isRx then (parseSecTag it.data).elim 0 (·.off)
  else 12 + 4 * min (vlanTags it.data 2 12) (it.scFields.elim 0 (·.clearTags)) + (if it.scFields.any (·.inclSci) then 16 else 8)

/-- The octets of secure data of a frame that its engine has not ended (Table 4-1): on receive without the ICV, on transmit with the
volley tag; the payload of a Kraow frame (R148). -/
def Item.secureLen (it : Item) : Nat :=
  if it.scFields.any (·.kraow) then it.data.length
  else if it.isRx then it.data.length - it.secureOff - 16
  else it.data.length + it.volley.length - 12 - 4 * min (vlanTags it.data 2 12) (it.scFields.elim 0 (·.clearTags))

/-- R113, R115: whether the item hits a keystream-ahead slot of its engine; a slot of its port that it does not hit is
discarded. -/
def State.slotHit (g t : Nat) (w : WorkItem) (s : State) : Bool × State :=
  let n := g / 48
  match w.it.sa with
  | none => (false, s)
  | some sa =>
    let hit := fun (y : KsaSlot) => y.port == w.q && y.sa == sa && y.pn == w.it.pn && y.gen == (s.slot sa).gen && !y.serving
    if (s.eng g).slots.any hit then
      let s1 := (s.onEng g fun e => { e with slots := e.slots.map fun y => if hit y then { y with serving := true } else y
        }).onThr g t fun x => { x with slot := some (w.q, sa, w.it.pn) }
      (true, ((s1.inc FEN_KSA_CNT.HIT n).pmcEvent n 5 0 1).dropSlots n g fun y => y.port == w.q && !y.serving)
    else (false, s.dropSlots n g fun y => y.port == w.q && !y.serving)

/-- R103: the item's slot is valid in the engine's set and takes its suite, or a job's has a job entry. -/
def State.progServes (s : State) (g : Nat) (w : WorkItem) : Bool :=
  (s.progOf g (s.itemSlot w)).any fun p =>
    if w.job.isSome then p.jobEntry != 0xFFFFFFFF else p.suites.testBit (w.it.scFields.elim 0 (·.suite))

/-- The form that KNONCE takes for an item under a program: slot 0's form 1 becomes form 2 for XPN suites (Table 3-9). -/
def itemForm (p : ModeProg) (w : WorkItem) : Nat :=
  let suite := w.it.scFields.elim 0 (·.suite)
  if p.form == 1 && 2 ≤ suite && suite < 4 then 2 else p.form

/-- Table 3-2: a thread begins a work item; an item that R103 turns away is a program fault. -/
def State.beginItem (g t : Nat) (w0 : WorkItem) (s : State) : State :=
  let (hit, s0) := s.slotHit g t w0
  let w := { w0 with ksaHit := hit, window := w0.it.data }
  let (e1, s1) := s0.draw
  let (sp, s2) := s1.draw
  let s3 := s2.onThr g t fun x => { x with work := some w, stalled := false, mask := 0 }
  let regs : List (Nat × Word) :=
    [(1, e1), (2, BitVec.ofNat 64 w.it.data.length), (3, BitVec.ofNat 64 (w.key.getD 0)), (4, BitVec.ofNat 64 w.it.pn),
     (5, BitVec.ofNat 64 (s.itemFlags w)), (6, BitVec.ofNat 64 w.it.secureOff),
     (7, BitVec.ofNat 64 (w.it.scFields.elim 0 fun c => confBytes c.confOff)),
     (29, BitVec.ofNat 64 (0x2000 * t + sp.toNat % 0x2000))]
  let s4 := s3.forL regs fun r s => s.setEreg g t r.1 r.2
  if !s4.progServes g w then s4.progFault g t 5
  else match s4.progOf g (s4.itemSlot w) with
    | none => s4
    | some p =>
      let s5 := s4.onThr g t fun x => { x with pc := if w.job.isSome then p.jobEntry else if w.it.isRx then p.rxEntry else p.txEntry }
      if p.form == 0 then s5 else s5.setBreg g t 0 (s5.itemJ0 w (itemForm p w))

/-- R82: a thread takes the next item from its inbox, or stalls when the inbox is empty. -/
def State.takeItem (g t : Nat) (s : State) : State :=
  match if t == 3 then (s.eng g).inboxX else (s.eng g).inboxN with
  | [] => s.onThr g t fun x => { x with stalled := true }
  | w :: r => (s.onEng g fun e => if t == 3 then { e with inboxX := r } else { e with inboxN := r }).beginItem g t w


/-- R82: an item that arrives in an inbox is taken by a thread that waits for it. -/
def State.wakeThread (g : Nat) (express : Bool) (s : State) : State :=
  match ((if express then [3] else [0, 1, 2]).find? fun t => (s.thr g t).stalled && (s.thr g t).work.isNone) with
  | some t => s.takeItem g t
  | none => s

/-- R399: the descriptor at the front of an inbox is uncorrectable: the item is discarded and counted. -/
def State.inboxLoss (g t : Nat) (s : State) : State :=
  let n := g / 48
  let q := 1024 * n + 2 * (g % 48) + natOfBool (t == 3)
  match if t == 3 then (s.eng g).inboxX else (s.eng g).inboxN with
  | [] => s
  | w :: r =>
    let s1 := s.onEng g fun e => if t == 3 then { e with inboxX := r } else { e with inboxN := r }
    ((s1.queueBad q).when (!w.it.isRx) fun s => s.burn w.it).engineDrop n w

end Sys2Proof.Machine
end

