-- ==== Sys2Proof/Machine/KrwChan.lean ====
section
/-!
DEFINITION. The embedded channels (R236 to R240): slots, justification bits and the HDLC framing of messages.
-/

namespace Sys2Proof.Machine

/-! ### Bits -/

/-- The bits of an octet, least significant first. -/
def byteBits (b : Byte) : List Bool := (List.range 8).map fun i => b.toNat.testBit i

/-- The number whose bits, least significant first, are given. -/
def bitsNat : List Bool → Nat
  | [] => 0
  | b :: r => natOfBool b + 2 * bitsNat r

/-- Octets from bits, least significant first; bits short of an octet are left out. -/
def bitsBytes (l : List Bool) : List Byte :=
  (List.range (l.length / 8)).map fun i => BitVec.ofNat 8 (bitsNat ((l.drop (8 * i)).take 8))

/-- The `n` lowest bits of a number, most significant first. -/
def msbBits (n v : Nat) : List Bool := (List.range n).map fun i => v.testBit (n - 1 - i)

/-- The number whose bits, most significant first, are given. -/
def msbNat (l : List Bool) : Nat := l.foldl (fun n b => 2 * n + natOfBool b) 0

/-! ### HDLC (R239) -/

/-- A zero inserted after every five consecutive ones. -/
def stuffBits : Nat → List Bool → List Bool
  | _, [] => []
  | n, true :: r => if n == 4 then true :: false :: stuffBits 0 r else true :: stuffBits (n + 1) r
  | _, false :: r => false :: stuffBits 0 r

/-- The flag 0x7E. -/
def flagBits : List Bool := byteBits 0x7E#8

/-- A message as the bits of its channel: a flag, the stuffed content with its FCS, octets least significant bit first. -/
def hdlcBits (content : List Byte) : List Bool :=
  flagBits ++ stuffBits 0 ((content ++ leBytes 4 (crc32 content)).map byteBits).flatten ++ flagBits

/-- A bit received: the channel, and the content with its FCS of a message that has ended. -/
def Chan.take (c : Chan) (b : Bool) : Chan × Option (List Bool) :=
  match c.msg with
  | none => if b then ({ c with ones := c.ones + 1 }, none)
    else ({ c with ones := 0, msg := if c.ones == 6 then some [] else none }, none)
  | some m =>
    if b then
      if 6 ≤ c.ones then ({ c with ones := c.ones + 1, msg := none }, none)
      else ({ c with ones := c.ones + 1, msg := some (m ++ [true]) }, none)
    else if c.ones == 5 then ({ c with ones := 0 }, none)
    else if c.ones == 6 then
      let body := m.take (m.length - 7)
      ({ c with ones := 0, msg := some [] }, if body.isEmpty then none else some body)
    else ({ c with ones := 0, msg := some (m ++ [false]) }, none)

/-- Bits received in order: the channel and the messages that have ended. -/
def Chan.takeAll (c : Chan) : List Bool → Chan × List (List Bool)
  | [] => (c, [])
  | b :: r =>
    let (c1, m) := c.take b
    let (c2, ms) := c1.takeAll r
    (c2, m.toList ++ ms)

/-- R239, R240: the content of a message, where its FCS, its whole octets and its length are good and it has the channel's type. -/
def hdlcContent (typ : Nat) (bits : List Bool) : Option (List Byte) :=
  let l := bitsBytes bits
  let content := l.take (l.length - 4)
  if bits.length % 8 == 0 && 8 ≤ l.length && content.length ≤ 2048 && leNat (l.drop content.length) == crc32 content
      && typeAt content 0 == typ then some (content.drop 2) else none

/-! ### Slots (Tables 6-15 and 6-16) -/

/-- N of the K, T and A slots at `KFR_CFG.RATE`. -/
def slotBits (rate : Nat) : Nat × Nat × Nat :=
  match rate with
  | 0 => (8, 1, 32)
  | 1 => (4, 0, 16)
  | _ => (2, 0, 8)

/-- Bits per Kraow frame of the K, T and A channels, in 1/10,000 bit. -/
def chanRate (rate : Nat) : Nat × Nat × Nat :=
  match rate with
  | 0 => (81920, 16384, 327680)
  | 1 => (40960, 8192, 163840)
  | _ => (20480, 4096, 81920)

/-- The bits of a channel with flags added until there are `n`. -/
def fillFlags (n : Nat) (l : List Bool) : List Bool := l ++ (List.replicate (n / 8 + 1) flagBits).flatten

/-- R237: the slot of a Kraow frame, most significant bit first, and the channel after it. -/
def Chan.slot (c : Chan) (n rate : Nat) : List Bool × Chan :=
  let owed := c.owed + rate
  let k := owed / 10000
  let s := n < k
  let src := if c.bits.length < k then fillFlags (k - c.bits.length) c.bits else c.bits
  let bits := src.take k
  let slot := if s then [true, true, true] ++ bits else [false, false, false, false] ++ bits
  (slot, { c with bits := src.drop k, owed := owed % 10000 })

/-- R237: the channel bits of a slot received. -/
def slotData (slot : List Bool) : List Bool :=
  let jc := ((slot.take 3).filter id).length
  if 2 ≤ jc then slot.drop 3 else slot.drop 4

/-! ### Sending a message -/

/-- R239: a message of a type is queued on a channel. -/
def Chan.push (c : Chan) (typ : Nat) (body : List Byte) : Chan := { c with bits := c.bits ++ hdlcBits (beBytes 2 typ ++ body) }

/-- A let control message leaves on the A-channel of a Kraow line port (Table 6-17). -/
def State.sendA (p : Nat) (body : List Byte) (s : State) : State := s.onKrw p fun k => { k with aTx := k.aTx.push 0x88B5 body }

/-- A time-transfer message leaves on the T-channel. -/
def State.sendT (p : Nat) (body : List Byte) (s : State) : State := s.onKrw p fun k => { k with tTx := k.tTx.push 0x88F7 body }

/-- An MKPDU leaves on the K-channel. -/
def State.sendK (p : Nat) (body : List Byte) (s : State) : State := s.onKrw p fun k => { k with kTx := k.kTx.push 0x888E body }

/-! ### Crates (R229 to R232) -/

/-- A crate: TYPE, FLAGS and data, with header and padding (Table 6-12). -/
def crate (typ flags : Nat) (data : List Byte) : List Byte :=
  let h := beBytes 3 (data.length * 1024 + typ * 256 + flags)
  h ++ [BitVec.ofNat 8 (crcMsb 8 7 0 h)] ++ data ++ List.replicate ((4 - data.length % 4) % 4) 0

/-- R232: an ABORT crate of a context. -/
def abortCrate (exp : Nat) : List Byte := crate 3 (exp + 1) [0, 0, 0, 0]

/-- R231: the next crate of a frame sent in crates of `n` octets, and what is left of it: all but the last carry `n` octets, and a frame
that has turned out bad ends with an ABORT crate in place of the octets short of a whole crate. -/
def CrateRun.next (n : Nat) (c : CrateRun) : List Byte × Option CrateRun :=
  if c.rest.length ≤ n && !c.bad then (crate c.typ c.exp c.rest, none)
  else if c.bad && c.rest.length < n && c.sent != 0 then (abortCrate c.exp, none)
  else
    let l := c.rest.take n
    (crate c.typ (128 + c.exp) (l ++ List.replicate (n - l.length) 0), some { c with sent := c.sent + n, rest := c.rest.drop n })

/-- The crates of a frame from here to its end; the first argument bounds their number. -/
def CrateRun.all : Nat → Nat → CrateRun → List Byte
  | 0, _, _ => []
  | f + 1, n, c => match c.next n with
    | (l, some d) => l ++ d.all f n
    | (l, none) => l

/-- A tributary, 32p + t. -/
def State.tribSt (s : State) (k : Nat) : Trib := s.krw.tribs.get k {}

/-- A tributary changed. -/
def State.onTrib (k : Nat) (f : Trib → Trib) (s : State) : State :=
  { s with krw := { s.krw with tribs := s.krw.tribs.set k (f (s.tribSt k)) {} } }

/-- A protection group. -/
def State.pg (s : State) (g : Nat) : PgState := s.krw.groups.get g {}

/-- A protection group changed. -/
def State.onPg (g : Nat) (f : PgState → PgState) (s : State) : State :=
  { s with krw := { s.krw with groups := s.krw.groups.set g (f (s.pg g)) {} } }

end Sys2Proof.Machine
end

