-- ==== Sys2Proof/Machine/LetOps.lean ====
section
/-!
DEFINITION. Shared operations of the let streams (R303 to R339): the ports they use (R313, R700), the window (R331), retention
(R317, R333, R334), the sending mode (R318) and the control messages (R326 to R328).
-/

namespace Sys2Proof.Machine

/-- R317: a record of a frame under its number, with its descriptor in QUEUE. -/
def State.letRetain (st number : Nat) (it : Item) (s : State) : State :=
  let s1 := s.onLet st fun x => { x with records := x.records ++ [{ number := number, it := it }] }
  (((s1.letRetained st).enqueue (s.letQueue st) (.letRec st number)).incWrap LET_CNT.RETAINED_FR st).letWindow st

/-! ### Control messages (R326 to R328) -/

/-- The body of a control message (Table 9-5). -/
def LetMsg.body (m : LetMsg) : List Byte :=
  beBytes 1 m.subtype ++ beBytes 1 m.stream ++ beBytes 1 m.ranges.length ++ [0] ++ beBytes 4 m.instId ++ beBytes 8 m.value
    ++ beBytes 8 m.aux ++ (m.ranges.map fun r => beBytes 8 r.1 ++ beBytes 8 r.2).flatten

/-- A body read (R326); none when it is discarded. -/
def LetMsg.parse (l : List Byte) : Option LetMsg :=
  let n := octet l 2
  let sub := octet l 0
  if 24 ≤ l.length && l.length == 24 + 16 * n && octet l 3 == 0
      && ((sub == 1 && n == 0) || (sub == 2 && 1 ≤ n && n ≤ 16) || (sub == 3 && n ≤ 16))
      && (sub == 3 || beAt l 16 8 == 0) then
    some { subtype := sub, stream := octet l 1, instId := beAt l 4 4, value := beAt l 8 8, aux := beAt l 16 8
           ranges := (List.range n).map fun r => (beAt l (24 + 16 * r) 8, beAt l (32 + 16 * r) 8) }
  else none

/-- The lowest number that the sending half holds, or NEXT when none. -/
def State.letFirst (s : State) (st : Nat) : Nat :=
  match (s.letS st).records with
  | [] => s.get LET_STREAM_STATUS.NEXT st
  | r :: _ => r.number

/-- Runs of missing numbers between the held numbers of an ascending list, from `from_` up to `upto` (exclusive). -/
def missingRuns (from_ upto : Nat) : List Nat → List (Nat × Nat)
  | [] => if from_ < upto then [(from_, upto - 1)] else []
  | h :: r => (if from_ < h then [(from_, h - 1)] else []) ++ missingRuns (max from_ (h + 1)) upto r

/-- A HELLO of the sending half (Table 9-5): its ranges name what it does not hold above FIRST. -/
def State.letHello (s : State) (st : Nat) : LetMsg :=
  let next := s.get LET_STREAM_STATUS.NEXT st
  let first := s.letFirst st
  { subtype := 3, stream := st, instId := s.get LET_STREAM_STATUS.INSTANCE st, value := first, aux := next
    ranges := (missingRuns first next ((s.letS st).records.map (·.number))).take 16 }

/-- An ACK of the receiving half. -/
def State.letAck (s : State) (st : Nat) : LetMsg :=
  { subtype := 1, stream := st, instId := (s.letS st).peer.getD 0, value := s.get LET_STREAM_STATUS.RX_NEXT st - 1, aux := 0
    ranges := [] }

end Sys2Proof.Machine
end

