-- ==== Sys2Proof/Machine/Sequencer.lean ====
section
/-!
DEFINITION. The sequencers (R105 to R116, R697): binding a frame to its SA and assigning its PN (R71, R107, R134, R135, R161 to
R166, R359, R361), its let number and retention (R309, R314 to R317, R333), and the dispatch to an engine with the
keystream-ahead requests that follow.
-/

namespace Sys2Proof.Machine

/-! ### The PN (R134 step 3, R135, R161 to R166, R359, R361, R515) -/

/-- The PN at which an SA is exhausted (R162). -/
def pnLimit (suite : Nat) : Nat := if suite32 suite then 2 ^ 32 else 2 ^ 64 - 1

/-- An SA to which frames of a suite may be bound now: enabled, live, not exhausted and with a key that may be used. -/
def State.saBinds (s : State) (sa suite : Nat) : Bool :=
  (s.sa? sa).any (fun a => a.live && !a.deleting && a.pn < pnLimit suite) && (s.usableKey? sa).isSome

/-- R163: the SA of NEXT_AN takes over from an exhausted SA. -/
def State.autoSucceed (sc : Nat) (c : ScEntry) (s : State) : State :=
  let n := sc / 4096
  let new := 4 * sc + c.nextAn
  let s1 := (s.putSc sc (some { c with curAn := c.nextAn, autoSucc := false, held := false })).saActivateTx new
  (s1.set SAT_PN_STATUS.SUCC n 1).set SAT_PN_STATUS.SUCC_SA n new

/-- What the sequencer finds for the next frame of a TX SC. -/
inductive Bind where
  /-- an SA to bind, after an auto-succeed where one was due -/
  | sa (sa : Nat)
  /-- the SC is held (R164) -/
  | held
  /-- the SA's lease has no room (R359) -/
  | lease
  /-- the SC is gone -/
  | gone
  deriving DecidableEq, Repr

/-- R162, R515: an SA is exhausted: its PNs are used up, or its key is disabled. -/
def State.saExhausted (s : State) (sa suite : Nat) : Bool :=
  (s.sa? sa).any fun a => a.live && (pnLimit suite ≤ a.pn || ((s.key? sa).isSome && (s.usableKey? sa).isNone))

/-- R164: the SC is held: PN_EXHAUSTED is raised once when its SA is exhausted. -/
def State.holdSc (sc : Nat) (c : ScEntry) (s : State) : State :=
  let n := sc / 4096
  let sa := 4 * sc + c.curAn
  if !c.held && s.saExhausted sa c.suite then
    (((s.putSc sc (some { c with held := true })).set SAT_PN_STATUS.EXH n 1).set SAT_PN_STATUS.EXH_SA n sa).raise (114 + 8 * n) 2 sa
  else s

/-- R71, R163, R164, R359: the SA to which the next frame of a TX SC is bound. -/
def State.bindTx (sc : Nat) (s : State) : Bind × State :=
  match s.sc? sc with
  | none => (.gone, s)
  | some c =>
    let cur := 4 * sc + c.curAn
    let pick : Option (Nat × State) :=
      if s.saBinds cur c.suite then some (cur, s)
      else if s.saExhausted cur c.suite && c.autoSucc && (s.sa? (4 * sc + c.nextAn)).any (·.life == 0)
          && s.saBinds (4 * sc + c.nextAn) c.suite then
        some (4 * sc + c.nextAn, s.autoSucceed sc c)
      else none
    match pick with
    | none => (.held, s.holdSc sc c)
    | some (sa, s1) => if (s1.sa? sa).any fun a => a.pn ≤ a.leaseEnd then (.sa sa, s1) else (.lease, s1)

/-- R359: a frame that waits for a lease counts in WAITS, once. -/
def State.leaseWait (it : Item) (s : State) : State := if it.waited then s else s.inc MTL_LEASE_CNT.WAITS 0

/-- R359, R361: the next lease of an SA, asked for or granted, when it assigns the PN at the midpoint of its current lease. -/
def State.leaseMidpoint (sa pn : Nat) (s : State) : State :=
  if pn % 2 ^ 20 != 2 ^ 19 then s
  else if s.isActivePaired then
    s.leaseAsk sa (pn / 2 ^ 20 + 1)
  else s.onSa sa fun a => { a with leaseEnd := max a.leaseEnd ((pn / 2 ^ 20 + 3) * 2 ^ 20 - 1) }

/-- R161: the soft limit is crossed, once while the SA is ACTIVE. -/
def State.softLimit (sa pn : Nat) (c : ScEntry) (s : State) : State :=
  match s.sa? sa with
  | some a =>
    let n := saRegion sa
    let lim := if a.softLimit == 0 then 0xC0000000 else a.softLimit
    if suite32 c.suite && lim ≤ pn && !a.softSeen then
      (((s.putSa sa (some { a with softSeen := true })).set SAT_PN_STATUS.SOFT n 1).set SAT_PN_STATUS.SOFT_SA n sa).raise
        (114 + 8 * n) 1 sa
    else s
  | none => s

/-- R71, R72, R107, R135: a frame of a TX SC is bound to an SA and takes its PN. An INSTALLED SA that CUR_AN names already becomes ACTIVE,
"the SA of the SC's CUR_AN" (Table 2-1), with its first frame (DEDUCED, log 63). -/
def State.takePn (sa : Nat) (it : Item) (s : State) : Item × State :=
  let pn := (s.sa? sa).elim 0 (·.pn)
  let s1 := s.when ((s.sa? sa).any (·.life == 0)) fun s => s.saActivateTx sa
  let s2 := (s1.onSa sa fun a => { a with pn := pn + 1 }).saRef sa
  let s3 := (it.scFields.elim s2 fun c => s2.softLimit sa pn c).leaseMidpoint sa pn
  ({ it with sa := some sa, pn := pn, burns := true }, s3)

/-! ### Dispatch (R83, R105 to R107, R697) -/

/-- An item goes to the express path (R83). -/
def State.isExpress (s : State) (it : Item) : Bool := it.cls == 7 && it.inPort < 64 && s.portExpress it.inPort

/-- The engine that the next frame of a sequencer goes to (R105). -/
def State.nextEngine (s : State) (n q : Nat) : Option Nat := (s.rotation n)[(s.seq (16 * n + q)).ptr]?

/-- R697: the inbox that the next frame needs has a free item. -/
def State.inboxRoom (s : State) (n e : Nat) (express : Bool) : Bool :=
  let g := s.eng (48 * n + e)
  if express then g.inboxX.length < 4 else g.inboxN.length < 8

/-- The mode program of an item declares a keystream-ahead form. -/
def State.ksaForm (s : State) (n e : Nat) (w : WorkItem) : Bool :=
  (s.progOf (48 * n + e) (s.itemSlot w)).any fun p => p.form != 0

/-- R116: a request for an SA and PN may be placed. -/
def State.ksaAllowed (s : State) (sa pn : Nat) (c : ScEntry) : Bool :=
  (s.sa? sa).any fun a => a.state == 1 && (c.rx || pn ≤ a.leaseEnd) && !(suite32 c.suite && 2 ^ 32 ≤ pn)

/-- R111: a request reaches an engine; a full engine evicts its oldest slot. -/
def State.ksaPlace (n e q sa pn want : Nat) (s : State) : State :=
  let g := 48 * n + e
  let slot : KsaSlot := { port := q, sa := sa, pn := pn, gen := (s.slot sa).gen, want := want, blocks := [], serving := false }
  let s1 := if 8 ≤ (s.eng g).slots.length then
      match (s.eng g).slots.find? fun y => !y.serving with
      | some old => s.dropSlots n g fun y => y == old
      | none => s
    else s
  if (s1.eng g).slots.length < 8 then s1.onEng g fun x => { x with slots := x.slots ++ [slot] } else s1

/-- R110: the requests that follow the dispatch of a frame; `ptr` is the pointer of the next frame. -/
def State.ksaRequests (n q ptr : Nat) (w : WorkItem) (s : State) : State :=
  match w.it.sa, w.it.scFields with
  | some sa, some c =>
    let l := s.rotation n
    let len := l.length
    let k := min (s.get FEN_KSA_CTRL.AHEAD n + 1) len
    let want := min (min (max 1 (s.get FEN_KSA_CTRL.MAXLEN n)) 126) (ceilDiv w.it.secureLen 16)
    let mine : List (Nat × Nat × Nat) := (List.range k).filterMap fun i =>
      (l[(ptr + i) % len]?).bind fun e =>
        if s.ksaAllowed sa (w.it.pn + i + 1) c && s.ksaForm n e w then some (e, sa, w.it.pn + i + 1) else none
    let window := (List.range k).filterMap fun i => l[(ptr + i) % len]?
    let old := (s.seq (16 * n + q)).reqs
    let cancel := old.filter fun r => window.contains r.1 && !mine.contains r
    let s1 := s.forL cancel fun r s => s.dropSlots n (48 * n + r.1) fun y =>
      y.port == q && y.sa == r.2.1 && y.pn == r.2.2 && !y.serving
    let placed := fun (r : Nat × Nat × Nat) =>
      (s1.eng (48 * n + r.1)).slots.any fun y => y.port == q && y.sa == r.2.1 && y.pn == r.2.2 && !y.serving
    let s2 := s1.forL (mine.filter fun r => !placed r) fun r s => s.ksaPlace n r.1 q r.2.1 r.2.2 want
    s2.onSeq (16 * n + q) fun x => { x with reqs := mine ++ (old.filter fun r => !window.contains r.1) }
  | _, _ => s

/-- R105, R107: a work item goes to engine L[P_q]; the caller has found room in its inbox. -/
def State.sendWork (n q e : Nat) (w : WorkItem) (s : State) : State :=
  let g := 48 * n + e
  let x := s.isExpress w.it
  let ptr := ((s.seq (16 * n + q)).ptr + 1) % max 1 (s.rotation n).length
  let s1 := (s.onEng g fun y => if x then { y with inboxX := y.inboxX ++ [w] } else { y with inboxN := y.inboxN ++ [w] })
  let s2 := ((s1.onSeq (16 * n + q) fun y => { y with ptr := ptr, reqs := y.reqs.filter fun r => r.1 != e }).pmcEvent n 4 0 1)
  let s3 := s2.when (s2.ksaOn n) fun s => s.ksaRequests n q ptr w
  s3.wakeThread g x

/-- A new work item: it takes its reorder number and goes to its engine. -/
def State.dispatchNew (n q e : Nat) (it : Item) (s : State) : State :=
  let it1 := { it with express := s.isExpress it }
  let (num, s1) := s.roAdd (16 * n + q) it.cls .outstanding
  s1.sendWork n q e { it := it1, q := q, num := num }

/-- The engine that can take the next work item of a sequencer now (R697). -/
def State.readyEngine (s : State) (n q : Nat) (express : Bool) : Option Nat :=
  (s.nextEngine n q).filter fun e => s.inboxRoom n e express

/-- A frame that needs no engine takes its reorder number as released (BYPASS, host, Kraow tributaries). -/
def State.passBy (n q : Nat) (it : Item) (s : State) : State := (s.roAdd (16 * n + q) it.cls (.done it)).2

/-! ### Frames that the device makes: replays and let control messages -/

/-- A frame of the device under a TX SC that is ON waits at the sequencer of a client port, ahead of the arrivals (R319, R320, R327). -/
def State.deviceFrame (client sc cls : Nat) (it0 : Item) (s : State) : State :=
  match s.sc? sc with
  | some c =>
    if c.state != 1 then s
    else
      let it : Item := { it0 with inPort := 65, cls := cls, sc := sc, scFields := some c, dest := .egress (32 + c.egPort) cls }
      s.onSeq (seqOf client) fun x => { x with dev := x.dev ++ [it] }
  | none => s

/-- R328: a control message leaves on every usable control port. -/
def State.letSend (m : LetMsg) (s : State) : State :=
  let st := m.stream
  if s.isLibero then s
  else s.forL ((s.letCtlPorts st).filter s.letUsable) fun p s =>
    let s1 := { s with lets := { s.lets with sent := s.lets.sent ++ [(p, m)] } }
    let s2 := s1.when (m.subtype == 2) fun s => s.incWrap LET_CNT.NAK_TX st
    if s.letKraow st then s2.sendA p m.body
    else
      let f := beBytes 6 (s.get LET_CTL_DA.DA p) ++ beBytes 6 (Config.portMac (32 + p)).toNat ++ [0x88#8, 0xB5#8] ++ m.body
      s2.deviceFrame (s.get LET_STREAM_CFG.CLIENT_PORT st) (s.letRplSc st p) (s.get LET_STREAM_CFG.CLASS st) { data := f }

/-! ### Let frames (R309, R314 to R317, R333, R334) -/

/-- A copy of a let frame for a port: its SC and its destination. -/
def State.letCopy (s : State) (st port sc : Nat) (it : Item) : Item :=
  let c := s.sc? sc
  { it with sc := sc, scFields := if sc == it.sc then it.scFields else c, stream := some st
            dest := .egress (32 + port) it.cls }

/-- The hold queue of an SC. -/
def State.hold (s : State) (sc : Nat) : List Item := s.path.holds.get sc []

/-- The hold queue of an SC replaced. -/
def State.putHold (sc : Nat) (l : List Item) (s : State) : State :=
  { s with path := { s.path with holds := s.path.holds.set sc l [] } }

/-- A let frame that has no number yet. -/
def Item.unnumbered (it : Item) : Bool := (it.res.bind (·.stream)).isSome && it.stream.isNone

/-- R164, R165: a frame joins the hold queue of an SC, a numbered copy of a let frame ahead of the frames of its stream that have no
number yet; where the queue holds HOLD_LIMIT frames it is dropped instead, but no frame of a stream that never drops. -/
def State.joinHold (sc : Nat) (it : Item) (s : State) : State :=
  match s.sc? sc with
  | none => (s.freeIngress it).itemComplete it 6 none
  | some c =>
    let l := s.hold sc
    if l.length < c.holdLimit || (it.res.bind (·.stream)).any s.letNeverDrops then
      if it.stream.isSome then s.putHold sc (l.takeWhile (!·.unnumbered) ++ [it] ++ l.dropWhile (!·.unnumbered))
      else s.putHold sc (l ++ [it])
    else ((s.stat (4 * sc + c.curAn) 6 1).freeIngress it).itemComplete it 6 none

/-- What the sequencer finds for a copy of a let frame under an SC: a copy waits behind those that the SC's hold queue already has. -/
def State.copyBind (s : State) (sc : Nat) : Bind := if (s.hold sc).any (·.stream.isSome) then .held else (s.bindTx sc).1

/-- Copies of a let frame are dispatched, each under its own SC with a PN of its own; a copy whose SC is held joins its hold queue
(R164). The last copy carries the frame's cells (R374). -/
def State.letDispatch (n q st : Nat) (it : Item) (copies : List (Nat × Nat)) (s : State) : State :=
  s.forL copies fun pc s =>
    let x := s.letCopy st pc.1 pc.2 { it with cells := if copies.getLast? == some pc then it.cells else 0 }
    if s.letKraow st then s.passBy n q x
    else if s.copyBind pc.2 == .held then (s.bindTx pc.2).2.joinHold pc.2 x
    else match s.readyEngine n q (s.isExpress x), s.bindTx pc.2 with
      | some e, (.sa sa, s1) =>
        let (x1, s2) := s1.takePn sa x
        s2.dispatchNew n q e x1
      | _, _ => s.freeIngress x

/-- The next number of a stream. -/
def State.letNumber (st : Nat) (s : State) : Nat × State :=
  let k := s.get LET_STREAM_STATUS.NEXT st
  (k, s.set LET_STREAM_STATUS.NEXT st (k + 1))

/-- A let frame that is neither sent nor retained is dropped and counted in REJECTED. -/
def State.letReject (st : Nat) (s : State) : State := s.incWrap LET_CNT.REJECTED st

/-- R309 to R318: a frame of a let stream at the sequencer takes its number; `copies` are the ports and SCs on which it leaves in NORMAL
mode. One that is neither sent nor retained is dropped. -/
def State.letTake (n q st : Nat) (it : Item) (copies : List (Nat × Nat)) (s : State) : State :=
  let keep := s.letRetains st
  let normal := s.get LET_STREAM_STATUS.MODE st == 0 && !s.isLibero
  let (k, s1) := s.letNumber st
  let x := { it with stream := some st, number := k, lBit := keep, dBit := normal && copies.length == 2 }
  let s2 := s1.pairNumbered st k it.data
  let s3 := if keep then s2.letRetain st k x
    else s2.when (s.flag LET_STREAM_CFG.RETAIN st) fun s => s.set LET_STREAM_STATUS.LOSSY st 1
  if normal && !copies.isEmpty then s3.letDispatch n q st x copies
  else (s3.when (!normal && !keep) fun s => s.letReject st).freeIngress it

end Sys2Proof.Machine
end

