-- ==== Sys2Proof/Machine/Fabric.lean ====
section
/-!
DEFINITION. The fabric (R370 to R373, R386): the list of each destination queue, the arbitration of the crossbars and of the central
fabric, the credits, and the transfer of a frame to its egress admission.
-/

namespace Sys2Proof.Machine

/-- The region a frame comes from (R14): that of its ingress port, of its SC, or of the queue of its ring. -/
def State.srcRegion (s : State) (it : Item) : Nat :=
  if it.inPort < 64 then portRegion it.inPort
  else match it.ring with
    | some (r, _, _) => if it.sa.isSome then it.sc / 4096 else queueRegion (s.get HIF_RING_CFG.QUEUE r)
    | none => it.sc / 4096

/-- The fabric list of a queue. -/
def State.fabricList (s : State) (q : Nat) : List (Nat × Item) := s.path.fabric.get q []

/-- The fabric list of a queue replaced. -/
def State.putFabric (q : Nat) (l : List (Nat × Item)) (s : State) : State :=
  { s with path := { s.path with fabric := s.path.fabric.set q l [] } }

/-- A frame that reaches no queue (R388). -/
def State.noQueue (n : Nat) (it : Item) (s : State) : State :=
  ((s.inc FAB_DROP_CNT.NO_QUEUE n).refuseFrame it).freeIngress it

/-- R372: a released frame goes to the fabric list of its destination queue, to the MCU, or nowhere. -/
def State.route (it : Item) (s : State) : State :=
  let join := fun q => s.putFabric q (s.fabricList q ++ [(s.srcRegion it, it)])
  match it.dest with
  | .drop => s.freeIngress it
  | .mcu => let s1 := s.freeIngress it
    { s1 with path := { s1.path with mcuIn := s1.path.mcuIn ++ [{ it with cells := 0 }] } }
  | .egress p c => match s.egressQueue p c with
    | some q => join q
    | none => s.noQueue (portRegion p) it
  | .queue q => if s.get QMG_QCFG.STATE q == 0 || !s.queueFits q it then s.noQueue (queueRegion q) it else join q

/-- The first frame of a source region in the list of a queue, and the list without it. -/
def takeFrom (src : Nat) : List (Nat × Item) → Option (Item × List (Nat × Item))
  | [] => none
  | x :: r => if x.1 == src then some (x.2, r) else (takeFrom src r).map fun y => (y.1, x :: y.2)

/-- R386: a frame would be taken by its queue now: it need not wait for room, its queue does not serve, or there is room. -/
def State.taken (s : State) (q : Nat) (it : Item) : Bool :=
  !s.waitsForRoom q it || !s.queueServes q it || s.queueDown q
    || s.queueRoom q (.frame { it with cells := cellsOf (it.data.length + 4) })

/-- The credits of a queue for a source region. -/
def State.credits (s : State) (q src : Nat) : Nat := s.path.credits.get (4 * q + src) 0

/-- The credits of a queue for a source region replaced. -/
def State.putCredits (q src c : Nat) (s : State) : State :=
  { s with path := { s.path with credits := s.path.credits.set (4 * q + src) c 0 } }

/-! ### Arbitration (R370, R371, R386) -/

/-- The first frame of each source region for each destination queue: queue, source region and frame. -/
def State.fabricHeads (s : State) : List (Nat × Nat × Item) :=
  s.path.fabric.flatMap fun x => (List.range 4).filterMap fun src => (takeFrom src x.2).map fun y => (x.1, src, y.1)

/-- A frame of a source region may be granted a credit now. -/
def State.grantable (s : State) (q src : Nat) (it : Item) : Bool := src != queueRegion q && s.credits q src == 0 && s.taken q it

/-- A frame of a source region can move now: there is room for it, and a credit when the regions differ. -/
def State.movable (s : State) (q src : Nat) (it : Item) : Bool := s.taken q it && (src == queueRegion q || s.credits q src != 0)

/-- R386: a frame waits in its own region for room in a queue for which another region's frame waits. -/
def State.ownWaits (s : State) (q src : Nat) (it : Item) : Bool :=
  src == queueRegion q && s.waitsForRoom q it && (s.fabricList q).any (·.1 != src)

/-- The source regions that compete for a destination region. -/
def State.wrrSources (s : State) (d : Nat) : List Nat :=
  (List.range 4).filter fun src => s.fabricHeads.any fun h =>
    h.2.1 == src && queueRegion h.1 == d && (s.grantable h.1 src h.2.2 || (s.ownWaits h.1 src h.2.2 && s.taken h.1 h.2.2))

/-- The weight of a source region at a destination region, in cells per round. -/
def State.wrrWeight (s : State) (d src : Nat) : Nat := max 1 (s.get FAB_WRR_CFG.WEIGHT d / 2 ^ (8 * src) % 256)

/-- The weighted round-robin of a destination region, at the source region whose turn it is. -/
def State.wrrTurn (s : State) (d : Nat) : Wrr :=
  let w := s.path.wrr.get d {}
  let l := s.wrrSources d
  if l.contains w.src && w.used < s.wrrWeight d w.src then w
  else match ([1, 2, 3, 4].map fun k => (w.src + k) % 4).find? l.contains with
    | some src => { src := src, used := 0 }
    | none => w

/-- A source region has been served at a destination region: its turn goes on with the frame's cells counted. -/
def State.wrrServe (d : Nat) (it : Item) (s : State) : State :=
  let w := s.wrrTurn d
  { s with path := { s.path with wrr := s.path.wrr.set d { w with used := w.used + cellsOf (it.data.length + 4) } {} } }

/-- A frame is served next among those that compete for its destination region: an express frame at once, another when no express frame
can be granted and it is its region's turn. -/
def State.wrrNext (s : State) (q src : Nat) (it : Item) : Bool :=
  s.isExpress it || (!(s.fabricHeads.any fun h => queueRegion h.1 == queueRegion q && s.isExpress h.2.2 && s.grantable h.1 h.2.1 h.2.2)
    && (s.wrrTurn (queueRegion q)).src == src)

/-- The quantum of a class in a region's crossbar, in bytes. -/
def State.crossQuantum (s : State) (n c : Nat) : Nat := 256 * max 1 (s.get FAB_DRR_CFG.QUANTUM n / 2 ^ (8 * c) % 256)

/-- R370: the round-robin of a region's crossbar after it has served a frame; none when an express frame or another class comes first.
Within a class the frames of its lists come in any order. -/
def State.crossbar (s : State) (src : Nat) (it : Item) : Option Sched :=
  let x := s.path.drr.get src {}
  let heads := s.fabricHeads.filter fun h => h.2.1 == src && s.movable h.1 src h.2.2
  if s.isExpress it then some x
  else if heads.any fun h => s.isExpress h.2.2 then none
  else
    let len := fun c => if c == it.cls then some (it.data.length + 4) else (heads.find? fun h => h.2.2.cls == c).map fun h => h.2.2.data.length + 4
    match drrPick (s.crossQuantum src) len (fun c => (len c).isSome) 7 2400 x with
    | some (c, y) => if c == it.cls then some y else none
    | none => none

/-- The round-robin of a region's crossbar replaced. -/
def State.putCrossbar (src : Nat) (x : Sched) (s : State) : State := { s with path := { s.path with drr := s.path.drr.set src x {} } }

/-- FABRIC_CREDIT_GRANT (R371, R386): the destination region of a queue grants a credit to a source region with a frame in the
queue's list, when the frame is served next. -/
def execFabricCreditGrant (q : Fin 4096) (src : Fin 4) (s : State) : Host.Outcome State Fault Refusal :=
  finish (match takeFrom src (s.fabricList q) with
    | some (it, _) =>
      if s.grantable q src it && s.wrrNext q src it then
        (s.when (!s.isExpress it) fun s => s.wrrServe (queueRegion q) it).putCredits q src 1
      else s
    | none => s)

/-- R398, R399: the frame reaches its egress admission, or the move finds its data uncorrectable and drops it; the tail's line that
takes the descriptor may be corrected. -/
def State.arriveWith (q : Nat) (it : Item) (err : HeadErr) (s : State) : State :=
  match err with
  | .data b r => (s.frameBad q b r).refuseFrame it
  | .descriptor => ((s.queueBad q).refuseFrame it)
  | _ => (s.headFixed q err).arrive q it

/-- A frame leaves the list of its queue: against a credit when the regions differ, and in its turn where other regions wait for the
same room. -/
def State.fabricMove (q src : Nat) (it : Item) (rest : List (Nat × Item)) (x : Sched) (s : State) : State :=
  let s1 := s.putCrossbar src x
  let s2 := if src == queueRegion q then s1.when (s.ownWaits q src it && !s.isExpress it) fun s => s.wrrServe (queueRegion q) it
    else (s1.putCredits q src (s.credits q src - 1)).pmcEvent 4 0x10 src 1
  (s2.putFabric q rest).freeIngress it

/-- FABRIC_TRANSFER (R370 to R373, R385, R386, R398, R399): the first frame of a source region in a queue's list moves to its egress
admission, when the crossbar of its region serves it next. -/
def execFabricTransfer (q : Fin 4096) (src : Fin 4) (err : HeadErr) (s : State) : Host.Outcome State Fault Refusal :=
  finish (match takeFrom src (s.fabricList q) with
    | some (it, rest) =>
      if !s.movable q src it || (s.ownWaits q src it && !s.wrrNext q src it) then s
      else match s.crossbar src it with
        | some x => (s.fabricMove q src it rest x).arriveWith q it err
        | none => s
    | none => s)

end Sys2Proof.Machine
end

