-- ==== Sys2Proof/Machine/LetRx.lean ====
section
/-!
DEFINITION. The receiving half of a let stream (R311, R321 to R325, R330, R337, R357) and what the sending half does with the
control messages it receives (R320, R329, R701).
-/

namespace Sys2Proof.Machine

/-! ### Messages of the receiving half -/

/-- R328: an ACK, once an INSTANCE is recorded. -/
def State.letSendAck (st : Nat) (s : State) : State :=
  if (s.letS st).peer.isSome then (s.onLet st fun x => { x with sinceAck := 0 }).letSend (s.letAck st) else s

/-- R324: a NAK that names the lowest-numbered gaps whose skew wait has ended. -/
def State.letSendNak (st : Nat) (s : State) : State :=
  let named := ((s.letS st).gaps.filter (·.skewEnded)).take 16
  if named.isEmpty || (s.letS st).peer.isNone then s
  else
    let s1 := s.onLet st fun x => { x with gaps := x.gaps.map fun g => if named.any (·.first == g.first) then { g with naked := true } else g }
    s1.letSend { s.letAck st with subtype := 2, ranges := named.map fun g => (g.first, g.last) }

/-! ### Gaps (R324) -/

/-- A run of numbers without another run. -/
def cutRun (r cut : Nat × Nat) : List (Nat × Nat) :=
  if r.2 < cut.1 || cut.2 < r.1 then [r]
  else (if r.1 < cut.1 then [(r.1, cut.1 - 1)] else []) ++ (if cut.2 < r.2 then [(cut.2 + 1, r.2)] else [])

/-- The missing runs of a receiving half. -/
def State.letMissing (s : State) (st : Nat) : List (Nat × Nat) :=
  let x := s.letS st
  let base := s.get LET_STREAM_STATUS.RX_NEXT st
  let top := x.held.foldl (fun m h => max m h.1) x.helloNext
  x.lost.foldl (fun l cut => (l.map fun r => cutRun r cut).flatten) (missingRuns base top (x.held.map (·.1)))

/-- The gaps recomputed; a run keeps the standing of the gap it comes from. WAITING follows. -/
def State.letGaps (st : Nat) (s : State) : State :=
  let old := (s.letS st).gaps
  let new := (s.letMissing st).map fun r => match old.find? fun g => g.first ≤ r.2 && r.1 ≤ g.last with
    | some g => { g with first := r.1, last := r.2 }
    | none => ({ first := r.1, last := r.2 } : LetGap)
  (s.onLet st fun x => { x with gaps := new }).set LET_STREAM_STATUS.WAITING st (natOfBool !new.isEmpty)

/-! ### The reorder partition -/

/-- The region of a stream (R304). -/
def State.letRegion (s : State) (st : Nat) : Nat := s.get LET_STREAM_CFG.CLIENT_PORT st / 8

/-- A frame taken into the reorder partition, or out of it. -/
def State.reorderAdd (n : Nat) (d : Int) (s : State) : State :=
  let u := ((s.lets.reorderUsed.get n 0 : Int) + d).toNat
  { s with lets := { s.lets with reorderUsed := s.lets.reorderUsed.set n u 0 } }

/-- The reorder partition of a region has room for a frame. -/
def State.reorderRoom (s : State) (n len : Nat) : Bool := s.lets.reorderUsed.get n 0 + len ≤ s.get DMC_CAP.REORDER_MIB n * 1048576

/-! ### Delivery (R323, R357) -/

/-- R357: a libero delivers only below the RX_NEXT that the active has reported. -/
def State.letMayDeliver (s : State) (st p : Nat) : Bool := !s.isLibero || p < s.mtl.delivery.get st 0

/-- R323: a frame is delivered to the client port. -/
def State.letDeliver (st : Nat) (it : Item) (s : State) : State :=
  let s1 := (s.incWrap LET_CNT.DELIVERED st).onLet st fun x => { x with sinceAck := x.sinceAck + 1 }
  if s.isLibero then s1.freeIngress it
  else s1.route { it with dest := .egress (s.get LET_STREAM_CFG.CLIENT_PORT st) it.cls }

/-- Table 9-4: the second frames of numbers that the bitmap has reached are discarded. -/
def State.letMark (st : Nat) (s : State) : State :=
  let lim := s.get LET_STREAM_STATUS.RX_NEXT st + 65536
  let gone := (s.letS st).extra.filter fun e => e.1 < lim
  let s1 := s.onLet st fun x => { x with extra := x.extra.filter fun e => lim ≤ e.1 }
  s1.forL gone fun e s => (s.reorderAdd (s.letRegion st) (-(e.2.data.length : Int))).incWrap LET_CNT.DUP st

/-- One step of R323. -/
def State.letAdvance (st : Nat) (s : State) : State :=
  let rx := s.get LET_STREAM_STATUS.RX_NEXT st
  let x := s.letS st
  match x.lost.find? fun r => r.1 ≤ rx && rx ≤ r.2 with
  | some r =>
    (s.onLet st fun x => { x with lost := x.lost.filter fun y => y != r }).set LET_STREAM_STATUS.RX_NEXT st (r.2 + 1)
  | none =>
    match x.held.get rx none with
    | some it =>
      if s.letMayDeliver st rx then
        let s1 := (s.onLet st fun x => { x with held := x.held.erase rx }).reorderAdd (s.letRegion st) (-(it.data.length : Int))
        (s1.letDeliver st it).set LET_STREAM_STATUS.RX_NEXT st (rx + 1)
      else s
    | none => s

/-- R323: every frame that can be delivered is delivered and every lost number skipped; then the gaps follow, and an ACK is sent
when ACK_FRAMES frames have been delivered (R328). -/
def State.letAdvanceAll (st : Nat) (s : State) : State :=
  let n := (s.letS st).held.length + (s.letS st).lost.length
  let s1 := ((s.forN n fun _ s => s.letAdvance st).letMark st).letGaps st
  s1.when (max 1 (s1.get LET_TIMING.ACK_FRAMES) ≤ (s1.letS st).sinceAck) fun s => s.letSendAck st

/-! ### Frames (R311, R321, R322) -/

/-- R311: the number of a SEQ, where one lies in range. -/
def letNumberOf (rxNext seq : Nat) : Option Int :=
  let base : Int := rxNext - 2 ^ 30
  let p := base + ((seq : Int) - base) % 2 ^ 32
  if p < base + 2 ^ 31 then some p else none

/-- A frame for a receiving half is discarded and counted. -/
def State.letDiscard (st : Nat) (cnt : Field) (it : Item) (s : State) : State := (s.incWrap cnt st).freeIngress it

/-- A frame with D = 0 that is marked, held or delivered. -/
def State.letSingle (st : Nat) (d : Bool) (s : State) : State := s.when (!d) fun s => s.incWrap LET_CNT.SINGLE st

/-- Table 9-4: a frame of number P at the receiving half. -/
def State.letTakeIn (st p : Nat) (d : Bool) (it : Item) (s : State) : State :=
  let rx := s.get LET_STREAM_STATUS.RX_NEXT st
  let n := s.letRegion st
  let x := s.letS st
  let mine := { it with dest := .drop }
  if p < rx || x.lost.any (fun r => r.1 ≤ p && p ≤ r.2) then s.letDiscard st LET_CNT.DUP mine
  else if p == rx && s.letMayDeliver st p then
    (((s.letSingle st d).letDeliver st it).set LET_STREAM_STATUS.RX_NEXT st (rx + 1)).letAdvanceAll st
  else if p < rx + 65536 && (x.held.get p none).isSome then s.letDiscard st LET_CNT.DUP mine
  else if !s.reorderRoom n it.data.length then s.letDiscard st LET_CNT.REJECTED mine
  else
    let kept := { it with cells := 0 }
    let s1 := (s.freeIngress it).reorderAdd n it.data.length
    if (x.held.get p none).isSome then s1.onLet st fun x => { x with extra := x.extra ++ [(p, kept)] }
    else ((s1.letSingle st d).onLet st fun x => { x with held := x.held.insert p (some kept) }).letGaps st

/-- R321, R322, R336: a frame with a volley tag, received under an RX SC. -/
def State.letFrameRx (sc : Nat) (vtag : List Byte) (it : Item) (s : State) : State :=
  match parseVolley vtag with
  | some (st, seq, d, _) =>
    if !(s.letServes st && sc ∈ s.letRxScs st) then s.letDiscard st LET_CNT.REJECTED it
    else if (s.letS st).peer.isNone then s.letDiscard st LET_CNT.REJECTED it
    else match letNumberOf (s.get LET_STREAM_STATUS.RX_NEXT st) seq with
      | some (.ofNat p) => s.letTakeIn st p d it
      | some (.negSucc _) => s.letDiscard st LET_CNT.DUP it
      | none => s.letDiscard st LET_CNT.REJECTED it
  | none => s.letDiscard (octet vtag 1) LET_CNT.REJECTED it

/-! ### Losses (R325) -/

/-- The part of a run inside another. -/
def meetRun (r c : Nat × Nat) : Option (Nat × Nat) := if max r.1 c.1 ≤ min r.2 c.2 then some (max r.1 c.1, min r.2 c.2) else none

/-- A run joined to rising runs that do not touch. -/
def addRun (r : Nat × Nat) : List (Nat × Nat) → List (Nat × Nat)
  | [] => [r]
  | x :: l =>
    if r.2 + 1 < x.1 then r :: x :: l
    else if x.2 + 1 < r.1 then x :: addRun r l
    else addRun (min r.1 x.1, max r.2 x.2) l

/-- Runs in any order as rising runs; runs that touch are one run. -/
def joinRuns (l : List (Nat × Nat)) : List (Nat × Nat) := l.foldr addRun []

/-- R325: runs of missing numbers are declared lost. -/
def State.letLost (st : Nat) (runs : List (Nat × Nat)) (s : State) : State :=
  let s1 := s.forL runs fun r s =>
    (((s.incWrap LET_CNT.LOSS st (r.2 + 1 - r.1)).raise (80 + st / 8) 2 st r.1 r.2).onLet st fun x =>
      { x with lost := x.lost ++ [r] })
  s1.letAdvanceAll st

/-- The missing numbers of gaps of a kind that lie in given runs. -/
def State.letNamed (s : State) (st : Nat) (p : LetGap → Bool) (runs : List (Nat × Nat)) : List (Nat × Nat) :=
  ((s.letS st).gaps.filter p).foldr (fun g l => joinRuns (runs.filterMap fun c => meetRun (g.first, g.last) c) ++ l) []

/-! ### HELLO (R330, R337) -/

/-- R337: the receiving half restarts under an INSTANCE. -/
def State.letRestart (st inst first : Nat) (s : State) : State :=
  let x := s.letS st
  let had := x.peer.isSome
  let n := x.held.length + x.extra.length
  let bytes := sumOf x.held (fun h => h.2.elim 0 (·.data.length)) + sumOf x.extra fun e => e.2.data.length
  let s1 := (s.incWrap LET_CNT.REJECTED st n).reorderAdd (s.letRegion st) (-(bytes : Int))
  let s2 := s1.onLet st fun x => { x with peer := some inst, held := [], extra := [], lost := [], gaps := [], helloNext := 0, sinceAck := 0 }
  let s3 := ((s2.set LET_STREAM_STATUS.RX_NEXT st first).set LET_STREAM_STATUS.WAITING st 0).letSendAck st
  s3.when had fun s => s.raise (80 + st / 8) 3 st

/-- R324, R325, R330: an accepted HELLO is applied. -/
def State.letHelloApply (m : LetMsg) (s : State) : State :=
  let st := m.stream
  let s1 := (s.onLet st fun x => { x with helloNext := m.aux }).letGaps st
  let below := if m.value == 0 then [] else [(0, m.value - 1)]
  s1.letLost st (s1.letNamed st (·.skewEnded) (below ++ m.ranges))

/-- R330: a HELLO. -/
def State.letHelloRx (m : LetMsg) (s : State) : State :=
  let st := m.stream
  if (s.letS st).peer == some m.instId then s.letHelloApply m else (s.letRestart st m.instId m.value).letHelloApply m

/-! ### ACK and NAK (R320, R329) -/

/-- The let descriptors at or below CUM leave a queue. -/
def State.letFreeQueue (st cum : Nat) (s : State) : State :=
  let q := s.letQueue st
  let keep : QEntry → Bool := fun e => match e with
    | .letRec st' k => st' != st || cum < k
    | .frame _ => true
  let x := s.queue q
  let marrow := (x.marrow.map fun c => { c with items := c.items.filter keep }).filter fun c => !c.items.isEmpty
  s.putQueue q ({ x with head := x.head.filter keep, marrow := marrow, tail := x.tail.filter keep }).settle

/-- R329: CUM rises, the records it covers are freed, and the stream is linked; the mode and the window follow. -/
def State.letAckApply (st value : Nat) (s : State) : State :=
  let cum := max (s.get LET_STREAM_STATUS.CUM st) value
  let s1 := (s.set LET_STREAM_STATUS.CUM st cum).set LET_STREAM_STATUS.LINKED st 1
  let s2 := (s1.onLet st fun x => { x with records := x.records.filter fun r => cum < r.number }).letFreeQueue st cum
  ((s2.letRetained st).letMode st).letWindow st

/-- R329: an ACK or a NAK is accepted. -/
def State.letAckOk (s : State) (m : LetMsg) : Bool :=
  m.instId == s.get LET_STREAM_STATUS.INSTANCE m.stream && m.value < s.get LET_STREAM_STATUS.NEXT m.stream

/-- R320: ACK_TMO_MS has passed since a record was replayed. -/
def State.letReplayable (s : State) (r : LetRec) : Bool :=
  r.replayedAt.all fun t => t + 1000000 * max 1 (s.get LET_TIMING.ACK_TMO_MS) ≤ s.clk.sinceReset

/-- R320: an accepted NAK. -/
def State.letNakApply (m : LetMsg) (s : State) : State :=
  let st := m.stream
  let s1 := s.letAckApply st m.value
  let inRuns := fun (k : Nat) => m.ranges.any fun r => r.1 ≤ k && k ≤ r.2
  let recs := (s1.letS st).records
  let hits := recs.filter fun r => inRuns r.number
  let s2 := if s1.get LET_STREAM_STATUS.MODE st == 0 then
      s1.onLet st fun x => { x with nakked := x.nakked ++
        ((hits.filter fun r => s1.letReplayable r).map (·.number)).filter fun k => !(x.nakked.contains k) }
    else s1
  let all := m.ranges.all fun r => (recs.filter fun k => r.1 ≤ k.number && k.number ≤ r.2).length == r.2 + 1 - r.1
  s2.when (!all) fun s => s.letSend (s.letHello st)

/-- R701: a control message reaches a stream that uses the SC it came under, or the A-channel of the port it came on. -/
def State.letViaOk (s : State) (st : Nat) (sc : Option Nat) (port : Nat) : Bool :=
  s.letServes st && match sc with
    | some c => c ∈ s.letRxScs st
    | none => s.letKraow st && port ∈ s.letCtlPorts st

/-- R701, R329: a control message is discarded. -/
def State.letMsgReject (st : Nat) (s : State) : State := s.incWrap LET_CNT.REJECTED st

/-- R329, R330, R701: a control message received under an RX SC, or on the A-channel of a port. -/
def State.letControl (sc : Option Nat) (port : Nat) (m : LetMsg) (s : State) : State :=
  if !s.letViaOk m.stream sc port then s.letMsgReject m.stream
  else match m.subtype with
    | 3 => s.letHelloRx m
    | 2 => if s.letAckOk m then s.letNakApply m else s.letMsgReject m.stream
    | _ => if s.letAckOk m then s.letAckApply m.stream m.value else s.letMsgReject m.stream

/-- R326, R701: the body of a control message as received. -/
def State.letBody (sc : Option Nat) (port : Nat) (body : List Byte) (s : State) : State :=
  match LetMsg.parse body with
  | some m => s.letControl sc port m
  | none => s.letMsgReject (octet body 1)

/-! ### Meanings -/

/-- LET_ACK_RX (R329, R701). -/
def execLetAckRx (st : Fin 256) (sc : Option (Fin 16384)) (port : Fin 32) (inst : BitVec 32) (value : BitVec 64) (s : State) :
    Host.Outcome State Fault Refusal :=
  finish (s.letControl (sc.map (·.val)) port
    { subtype := 1, stream := st, instId := inst.toNat, value := value.toNat, aux := 0, ranges := [] })

/-- LET_NAK_RX (R320, R326, R329, R701): a NAK names 1 to 16 ranges. -/
def execLetNakRx (st : Fin 256) (sc : Option (Fin 16384)) (port : Fin 32) (inst : BitVec 32) (value : BitVec 64)
    (ranges : List (BitVec 64 × BitVec 64)) (s : State) : Host.Outcome State Fault Refusal :=
  finish (if ranges.isEmpty || 16 < ranges.length then s.letMsgReject st
    else s.letControl (sc.map (·.val)) port
      { subtype := 2, stream := st, instId := inst.toNat, value := value.toNat, aux := 0
        ranges := ranges.map fun r => (r.1.toNat, r.2.toNat) })

/-- LET_HELLO_RX (R326, R330, R337, R701): a HELLO names at most 16 ranges. -/
def execLetHelloRx (st : Fin 256) (sc : Option (Fin 16384)) (port : Fin 32) (inst : BitVec 32) (first next : BitVec 64)
    (ranges : List (BitVec 64 × BitVec 64)) (s : State) : Host.Outcome State Fault Refusal :=
  finish (if 16 < ranges.length then s.letMsgReject st
    else s.letControl (sc.map (·.val)) port
      { subtype := 3, stream := st, instId := inst.toNat, value := first.toNat, aux := next.toNat
        ranges := ranges.map fun r => (r.1.toNat, r.2.toNat) })

/-- LET_ACK_TIMER (R328): ACK_US has passed. -/
def execLetAckTimer (st : Fin 256) (s : State) : Host.Outcome State Fault Refusal :=
  finish (if s.letServes st then s.letSendAck st else s)

/-- LET_HELLO_TIMER (R328): HELLO_US has passed. -/
def execLetHelloTimer (st : Fin 256) (s : State) : Host.Outcome State Fault Refusal :=
  finish (if s.letServes st then s.letSend (s.letHello st) else s)

/-- LET_SKEW_EXPIRY (R324): the skew wait of the gap that holds a number ends, and a NAK is sent. -/
def execLetSkewExpiry (st : Fin 256) (number : BitVec 64) (s : State) : Host.Outcome State Fault Refusal :=
  let k := number.toNat
  finish (if s.letServes st && (s.letS st).gaps.any (fun g => g.first ≤ k && k ≤ g.last && !g.skewEnded) then
    (s.onLet st fun x => { x with gaps := x.gaps.map fun g => if g.first ≤ k && k ≤ g.last then { g with skewEnded := true } else g
      }).letSendNak st
  else s)

/-- LET_NAK_REPEAT (R324): SKEW_MS has passed since the last NAK. -/
def execLetNakRepeat (st : Fin 256) (s : State) : Host.Outcome State Fault Refusal :=
  finish (if s.letServes st then s.letSendNak st else s)

/-- LET_LOSS_EXPIRY (R325): LOSS_MS has passed since the first NAK that named the numbers of a run. -/
def execLetLossExpiry (st : Fin 256) (first last : BitVec 64) (s : State) : Host.Outcome State Fault Refusal :=
  finish (if s.letServes st then s.letLost st (s.letNamed st (·.naked) [(first.toNat, last.toNat)]) else s)

/-- LET_ACK_TIMEOUT (R318, Table 9-3). -/
def execLetAckTimeout (st : Fin 256) (s : State) : Host.Outcome State Fault Refusal :=
  finish (if s.letServes st && s.get LET_STREAM_STATUS.MODE st == 0 && s.flag LET_STREAM_CFG.RETAIN st
      && s.get LET_STREAM_STATUS.CUM st < s.get LET_STREAM_STATUS.NEXT st - 1 && s.letAnyUsable st then
    (s.letReplayFrom st).letMode st
  else s)

/-- R334: RESUME clears SUSPENDED unless the stream is full. -/
def State.letResume (st : Nat) (s : State) : State :=
  if s.letIsFull st then s
  else (s.set LET_STREAM_STATUS.SUSPENDED st 0).onLet st fun x => { x with stopped := false }

/-- LET_RESUME (R334). -/
def execLetResume (st : Fin 256) (s : State) : Host.Outcome State Fault Refusal := finish (s.letResume st)

/-- The port and SC of each copy of a replay (R319). -/
def State.letReplayPorts (s : State) (st : Nat) : List (Nat × Nat) :=
  ((s.letSendPorts st).filter s.letUsable).filterMap fun p =>
    let sc := s.letRplSc st p
    if (s.sc? sc).any (·.state == 1) then some (p, sc) else none

/-- R319: the wire length of a replay: in Ethernet mode the frame with its SecTAG, volley tag, ICV and FCS and 20 bytes more, in Kraow mode
its crate with header and padding. -/
def replayBytes (c : ScEntry) (data : List Byte) : Nat :=
  if c.kraow then 4 + (data.length + 8 + 3) / 4 * 4 else secureLength c data true + 20

/-- R319: what the stream has replayed on a port has taken its share of the port's rate. -/
def State.replayDue (s : State) (st port : Nat) : Bool := s.lets.replayBusy.get (32 * st + port) 0 ≤ s.clk.sinceReset

/-- R319: the replays of a stream on each of its ports can go on: the last has left the sequencer, and REPLAY_PCT allows another. The
rate is held without a burst (DESIGN CHOICE, log 63). -/
def State.letReplayReady (s : State) (st : Nat) : Bool :=
  !((s.seq (seqOf (s.get LET_STREAM_CFG.CLIENT_PORT st))).dev.any fun it => it.stream == some st)
    && (s.letReplayPorts st).all fun p => s.replayDue st p.1 && !s.holdFull p.2

/-- The bytes of a replay on a port take their time at REPLAY_PCT per cent of the port's rate. -/
def State.replaySpend (st port bytes : Nat) (s : State) : State :=
  let pct := min 100 (max 1 (s.get LET_STREAM_CFG.REPLAY_PCT st))
  let t := max s.clk.sinceReset (s.lets.replayBusy.get (32 * st + port) 0) + ceilDiv (800 * bytes) (s.portRate (32 + port) * pct)
  { s with lets := { s.lets with replayBusy := s.lets.replayBusy.set (32 * st + port) t 0 } }

/-- R319, R320: a record is sent again, on each of the ports. -/
def State.letReplay (st : Nat) (r : LetRec) (ports : List (Nat × Nat)) (s : State) : State :=
  let it := { r.it with stream := some st, number := r.number, lBit := true, dBit := ports.length == 2, cells := 0, hdrm := false, sa := none }
  let s1 := s.onLet st fun x => { x with records := x.records.map fun z =>
    if z.number == r.number then { z with replayedAt := some s.clk.sinceReset } else z }
  s1.forL ports fun pc s =>
    ((s.deviceFrame (s.get LET_STREAM_CFG.CLIENT_PORT st) pc.2 (s.get LET_STREAM_CFG.CLASS st) it).replaySpend st pc.1
      ((s.sc? pc.2).elim 0 fun c => replayBytes c it.data)).incWrap LET_CNT.REPLAYED st

/-- LET_REPLAY_SEND (R318 to R320): the next record is replayed: in NORMAL mode the first that a NAK named, in REPLAYING mode the
next at or above the replay point. A record that cannot be sent now waits. -/
def execLetReplaySend (st : Fin 256) (s : State) : Host.Outcome State Fault Refusal :=
  let x := s.letS st
  let cum := s.get LET_STREAM_STATUS.CUM st
  let ports := s.letReplayPorts st
  finish (if !s.letServes st || s.isLibero || ports.isEmpty || !s.letReplayReady st then s
    else match s.get LET_STREAM_STATUS.MODE st with
      | 0 => match x.nakked with
        | [] => s
        | k :: r =>
          let s1 := s.onLet st fun x => { x with nakked := r }
          match x.records.find? fun y => y.number == k && cum < k with
          | some y => s1.letReplay st y ports
          | none => s1
      | 2 => match x.records.find? fun y => x.replayPoint ≤ y.number && cum < y.number with
        | some y => ((s.onLet st fun x => { x with replayPoint := y.number + 1 }).letReplay st y ports).letMode st
        | none => s.letMode st
      | _ => s)

/-- R338 step 3: every record and every held frame of a stream is freed and control messages stop. -/
def State.letDrained (st : Nat) (s : State) : State :=
  let x := s.letS st
  let bytes := sumOf x.held (fun h => h.2.elim 0 (·.data.length)) + sumOf x.extra fun e => e.2.data.length
  let s1 := (s.reorderAdd (s.letRegion st) (-(bytes : Int))).letFreeQueue st (2 ^ 64)
  let s2 := s1.onLet st fun x => { x with records := [], held := [], extra := [], lost := [], gaps := [], nakked := [], closeStep := 3 }
  ((s2.letRetained st).set LET_STREAM_STATUS.WAITING st 0).letWindowOf st

/-- LET_SHUTDOWN_DRAIN_END (R338). -/
def execLetShutdownDrainEnd (st : Fin 256) (s : State) : Host.Outcome State Fault Refusal :=
  finish (if 2 ≤ s.get LET_STREAM_CFG.STATE st && (s.letS st).closeStep < 3 then s.letDrained st else s)

end Sys2Proof.Machine
end

