-- ==== Sys2Proof/Machine/Defects.lean ====
section
/-!
DEFINITION. Kraow defects (R244 to R253) and their consequent actions (R254), the protection groups (R258 to R264) and the performance
monitoring of the line ports (R265 to R269).
-/

namespace Sys2Proof.Machine

/-! ### Defects (Table 7-1) -/

/-- The lanes of a port, by their index in the lane registers of its region (R270, R276). -/
def State.portLanes (s : State) (p : Nat) : List Nat :=
  let base := 16 * portRegion p + (if p < 32 then 0 else 8) + p % 8
  (List.range (modeLanes (s.portMode p))).map (base + ·)

/-- The highest defect declared: its index, 11 when there is none (R251). -/
def topDefect (raw plm : Nat) : Nat :=
  ((List.range 11).find? fun i => if i == 8 then plm != 0 else raw.testBit i).getD 11

/-- R254: the defects whose actions are AIS replacement of every tributary, RDI, REI forced to 0, and SF. -/
def State.majorDefect (s : State) (p : Nat) : Bool :=
  let d := s.get KFR_DEFECT.DECL p
  d % 128 != 0 || (d.testBit 7 && s.flag KFR_MON_CFG.TIM_ACT p)

/-! ### Protection groups -/


/-- The line ports of a group. -/
def State.pgW (s : State) (g : Nat) : Nat := s.get FAB_PG_CFG.W_PORT g

/-- The protect port of a group. -/
def State.pgP (s : State) (g : Nat) : Nat := s.get FAB_PG_CFG.P_PORT g

/-- A line port carries the non-volley traffic of its tributaries: the selected port of a group, or a port in no enabled group. -/
def State.selected (s : State) (p : Nat) : Bool :=
  (List.range 16).all fun g => s.get FAB_PG_CFG.STATE g != 1
    || (s.pgW g != p || !s.flag FAB_PG_STATUS.SEL g) && (s.pgP g != p || s.flag FAB_PG_STATUS.SEL g)

/-- R232, R262: the frame under way in a tributary ends with an ABORT crate, behind the crate being sent. -/
def State.abortCrates (k : Nat) (s : State) : State :=
  match (s.tribSt k).cur with
  | some c => s.onTrib k fun x => { x with carry := x.carry ++ abortCrate c.exp, cur := none }
  | none => s

/-- The rank of Table 7-4 in force, wait-to-restore and ranks below it left out: 0 when there is none. -/
def State.pgRank (s : State) (g : Nat) : Nat :=
  let cmd := s.get FAB_PG_CFG.CMD g
  if cmd == 1 then 1
  else if s.flag FAB_PG_STATUS.UNUSE_P g then 2
  else if cmd == 2 then 3
  else if s.flag FAB_PG_STATUS.UNUSE_W g then 4
  else if s.flag FAB_PG_STATUS.DEG_W g && !s.flag FAB_PG_STATUS.DEG_P g && s.flag FAB_PG_CFG.SD_EN g then 5
  else if cmd == 3 || cmd == 4 then 6
  else 0

/-- The selection that a request calls for. -/
def pgWant (rank cmd : Nat) : Bool := rank == 3 || rank == 4 || rank == 5 || (rank == 6 && cmd == 4)

/-- WTR_MIN within its limits. -/
def State.wtrMin (s : State) (g : Nat) : Nat := max 1 (min 12 (s.get FAB_PG_CFG.WTR_MIN g))

/-- R260, R261: the requests of a group are judged again. -/
def State.pgEval (g : Nat) (s : State) : State :=
  if s.get FAB_PG_CFG.STATE g != 1 then s
  else
    let s1 := (s.set FAB_PG_STATUS.UNUSE_W g (natOfBool (s.krwUnusable (s.pgW g)))).set FAB_PG_STATUS.UNUSE_P g
      (natOfBool (s.krwUnusable (s.pgP g)))
    let s2 := (s1.set FAB_PG_STATUS.DEG_W g (s.get KFR_DEFECT.SD (s.pgW g))).set FAB_PG_STATUS.DEG_P g (s.get KFR_DEFECT.SD (s.pgP g))
    let rank := s2.pgRank g
    let x := s2.pg g
    let noWtr := fun (s : State) => (s.set FAB_PG_STATUS.WTR g 0).set FAB_PG_STATUS.WTR_LEFT g 0
    if rank != 0 then
      (noWtr (s2.set FAB_PG_STATUS.REQ g rank)).onPg g fun x => { x with want := pgWant rank (s.get FAB_PG_CFG.CMD g), wtrOver := false }
    else if s2.flag FAB_PG_CFG.REVERT g then
      if x.want && !x.wtrOver then
        let s3 := s2.set FAB_PG_STATUS.REQ g 7
        if s3.flag FAB_PG_STATUS.WTR g then s3
        else (s3.set FAB_PG_STATUS.WTR g 1).set FAB_PG_STATUS.WTR_LEFT g (60 * s.wtrMin g)
      else (noWtr (s2.set FAB_PG_STATUS.REQ g 8)).onPg g fun x => { x with want := false, wtrOver := false }
    else noWtr (s2.set FAB_PG_STATUS.REQ g 8)

/-- The groups of a line port are judged again. -/
def State.pgPort (p : Nat) (s : State) : State :=
  s.forN 16 fun g s => if s.pgW g == p || s.pgP g == p then s.pgEval g else s

/-- The items and blocks waiting in a tributary of one port move to the same tributary of another, volley copies apart; a
block-transparent tributary announces a new pointer, and a packet frame under way on the old port ends with an ABORT crate (R262). -/
def State.pgMove (old new t : Nat) (s0 : State) : State :=
  let a := 32 * old + t
  let b := 32 * new + t
  let s := s0.abortCrates a
  let volley := fun (it : Item) => it.stream.any fun st => s.flag LET_STREAM_CFG.VOLLEY st
  let m := s.krw.mapper.get a []
  let s1 := { s with krw := { s.krw with mapper := s.krw.mapper.set a (m.filter volley) [] } }
  let s2 := { s1 with krw := { s1.krw with mapper := s1.krw.mapper.set b (m.filter (fun x => !volley x) ++ s1.krw.mapper.get b []) [] } }
  if s.get KFR_TRIB.TYPE a == 2 then
    let bl := (s2.tribSt a).blocks
    (s2.onTrib a fun x => { x with blocks := [] }).onTrib b fun x => { x with blocks := bl ++ x.blocks, newPtr := true }
  else s2

/-- R262: the selection that the group's requests call for is applied. -/
def State.pgSwitch (g : Nat) (s : State) : State :=
  let want := (s.pg g).want
  if s.get FAB_PG_CFG.STATE g == 0 || s.flag FAB_PG_STATUS.SEL g == want then s
  else
    let old := if want then s.pgW g else s.pgP g
    let new := if want then s.pgP g else s.pgW g
    let s1 := s.forN 32 fun t s => s.pgMove old new t
    let s2 := ((s1.set FAB_PG_STATUS.SEL g (natOfBool want)).set FAB_PG_STATUS.SWITCHED g 1).inc FAB_PG_STATUS.SWITCHES g
    s2.raise (64 + g) 1 g

/-! ### `KFR_DEFECT` -/

/-- R251, R252: what a port shows of its defects, the defect-change event, and what follows for groups and streams. -/
def State.defectSync (p : Nat) (s : State) : State :=
  let k := s.krwPort p
  let top := topDefect k.raw k.plm
  let w0 := s.word .KFR_DEFECT p 0
  let major := top < 7 || (top == 7 && s.flag KFR_MON_CFG.TIM_ACT p)
  let s1 := (s.set KFR_DEFECT.RAW p (k.raw % 256 + natOfBool (k.plm != 0) * 256 + k.raw / 512 * 512)).set KFR_DEFECT.RDI_RX p (natOfBool k.rdi)
  let s2 := (s1.set KFR_DEFECT.DECL p (if top < 11 then 2 ^ top else 0)).set KFR_DEFECT.PLM p (if top == 8 then k.plm else 0)
  let s3 := (s2.set KFR_DEFECT.SF p (natOfBool major)).set KFR_DEFECT.SD p (natOfBool (top == 10))
  let w1 := s3.word .KFR_DEFECT p 0
  let changed := w0.bits 16 48 != w1.bits 16 48 || w0.bits 11 1 != w1.bits 11 1
  let s4 := s3.onKrw p fun k => { k with pmDefs := k.pmDefs ||| (s3.get KFR_DEFECT.DECL p + 2048 * natOfBool k.rdi) }
  let s5 := s4.when changed fun s =>
    let s1 := s.set KFR_DEFECT.CHANGED p 1
    s1.raise (32 + p) 1 (32 + p) (s1.word .KFR_DEFECT p 0).toNat
  (s5.letPortChange p).pgPort p

/-- A defect of index 0 to 10, dPLM apart, is declared or cleared, before suppression. -/
def State.defectRaw (p i : Nat) (b : Bool) (s : State) : State :=
  s.onKrw p fun k => { k with raw := if k.raw.testBit i == b then k.raw else if b then k.raw + 2 ^ i else k.raw - 2 ^ i }

/-- dPLM of a tributary is declared or cleared, before suppression. -/
def State.plmRaw (p t : Nat) (b : Bool) (s : State) : State :=
  s.onKrw p fun k => { k with plm := if k.plm.testBit t == b then k.plm else if b then k.plm + 2 ^ t else k.plm - 2 ^ t }

/-- The condition of a defect that is integrated over time (Table 7-1, indexes 0 to 4). -/
def State.defectPresent (s : State) (p i : Nat) : Bool :=
  match i with
  | 0 => (s.portLanes (32 + p)).any fun j => !s.flag LNS_LANE.SIG j
  | 1 => (s.portLanes (32 + p)).any fun j => !s.flag LNS_LANE.BLOCK_LOCK j
  | 2 => !(s.krwPort p).aligned
  | 3 => s.get KFR_ALIGN.FSTATE p == 0
  | 4 => s.get KFR_ALIGN.FSTATE p == 1
  | _ => false

/-- Defects belong to a line port in Kraow mode that is ACTIVE (Table 7-2). -/
def State.judged (s : State) (p : Nat) : Bool := s.isKraow (32 + p) && s.linePortActive p

/-- dLOL and dLOA are declared at once (Table 7-1). -/
def State.defectAtOnce (p : Nat) (s : State) : State :=
  if s.judged p then
    let s1 := s.when (s.defectPresent p 1) fun s => s.defectRaw p 1 true
    s1.when (s1.defectPresent p 2) fun s => s.defectRaw p 2 true
  else s

/-- DEFECT_INTEGRATION_EXPIRY (R244): the declaration or clearing time of a defect of index 0 to 4 elapses. -/
def execDefectIntegrationExpiry (p : Fin 32) (i : Fin 5) (s : State) : Host.Outcome State Fault Refusal :=
  let there := s.defectPresent p i
  let declares := i.val == 0 || i.val == 3 || i.val == 4
  finish (if s.judged p && ((there && declares) || (!there && i.val != 4)) then (s.defectRaw p i there).defectSync p else s)

/-- dTIM (Table 7-1): the accepted trace, just updated, against the expected one. -/
def State.timCheck (p : Nat) (s : State) : State :=
  let len := let n := s.get KFR_MON_CFG.TIM_LEN p
    if n == 0 then 64 else min n 64
  let oct := fun (r : Reg) => (((List.range 8).map fun w => leBytes 8 (s.word r (8 * p + w) 0).toNat).flatten).take len
  let bad := s.flag KFR_MON_CFG.TIM_EN p && (s.krwPort p).traceOk && oct .KFR_TTI_RX != oct .KFR_TTI_EXP
  s.defectRaw p 7 bad

/-! ### Alignment lost and ports that leave ACTIVE -/

/-- R245: the runs of consecutive marker positions end; the seconds that dDEG counts stay. -/
def KrwRuns.restart (r : KrwRuns) : KrwRuns := { deg := r.deg, noDeg := r.noDeg }

/-- Entry into OOF (Table 6-7): every channel aborts its message (R240), the state at IF_OOM or IF_IM is lost, and the runs of
consecutive positions end (R245). -/
def State.krwOof (p : Nat) (s : State) : State :=
  let k := s.krwPort p
  let open_ := fun (c : Chan) => c.msg.any fun m => 8 < m.length
  let s1 := s.when (s.get KFR_ALIGN.FSTATE p != 0) fun s => (s.set KFR_ALIGN.FSTATE p 0).inc KFR_ALIGN.OOF_CNT p
  let s2 := (s1.when (open_ k.tRx) fun s => s.inc KFR_EC_STAT.T_BAD p).when (open_ k.aRx) fun s => s.inc KFR_EC_STAT.A_BAD p
  s2.onKrw p fun k => { k with kRx := {}, tRx := {}, aRx := {}, badRun := 0, sinceFn0 := none, rxBip := none, trace := none
                               runs := k.runs.restart, gap := 0, gapFn := s.get KFR_ALIGN.FN p }

/-- R184: a key switch that is being announced is cancelled. -/
def State.keySwitchCancel (p : Nat) (s : State) : State :=
  if s.flag KFR_KEYSW.TX_PEND p then
    let s1 := ((s.set KFR_KEYSW.TX_PEND p 0).set KFR_KEYSW.TX_NEXT p (s.get KFR_KEYSW.TX_CUR p)).set KFR_KEYSW.TX_COUNT p 0
    ((s1.onKrw p fun k => { k with keyReq := none }).set KFR_KEYSW.CANCELLED p 1).raise (32 + p) 6 (32 + p)
  else s

/-- What a Kraow line port loses when it leaves ACTIVE (Tables 6-7 and 7-2, R184). -/
def State.krwDown (p : Nat) (s : State) : State :=
  let s1 := (s.krwOof p).keySwitchCancel p
  let s2 := s1.forN 32 fun t s =>
    let k := 32 * p + t
    ({ s with krw := { s.krw with mapper := s.krw.mapper.erase k } }).onTrib k fun x => { x with
      period := [], carry := [], cur := none, blocks := [], rxNext := none, rxSkip := 1048576, rxCut := none, rxOct := [], delin := 0, ctxN := none
      ctxX := none, group := [], labelRun := 0 }
  (s2.onKrw p fun k => { k with rxBuf := [], runs := {}, raw := 0, plm := 0, rdi := false, aligned := false, kcm := {}
                                traceRun := 0, traceLast := [] }).set KFR_KEYSW.KCM p 0

/-! ### The groups' commands -/

/-- A write of CMD. -/
def State.pgCmd (g cmd : Nat) (s : State) : State := (s.set FAB_PG_CFG.CMD g cmd).pgEval g

/-- PG_CMD_NONE (R260). -/
def execPgCmdNone (g : Fin 16) (s : State) : Host.Outcome State Fault Refusal := finish (s.pgCmd g 0)

/-- PG_CMD_LOCKOUT (R260). -/
def execPgCmdLockout (g : Fin 16) (s : State) : Host.Outcome State Fault Refusal := finish (s.pgCmd g 1)

/-- PG_CMD_FORCE_P (R260). -/
def execPgCmdForceP (g : Fin 16) (s : State) : Host.Outcome State Fault Refusal := finish (s.pgCmd g 2)

/-- PG_CMD_MANUAL_W (R260). -/
def execPgCmdManualW (g : Fin 16) (s : State) : Host.Outcome State Fault Refusal := finish (s.pgCmd g 3)

/-- PG_CMD_MANUAL_P (R260). -/
def execPgCmdManualP (g : Fin 16) (s : State) : Host.Outcome State Fault Refusal := finish (s.pgCmd g 4)

/-- PROTECTION_SWITCH (R262). -/
def execProtectionSwitch (g : Fin 16) (s : State) : Host.Outcome State Fault Refusal := finish (s.pgSwitch g)

/-- WTR_EXPIRY (R261). -/
def execWtrExpiry (g : Fin 16) (s : State) : Host.Outcome State Fault Refusal :=
  finish (if s.flag FAB_PG_STATUS.WTR g then (s.onPg g fun x => { x with wtrOver := true }).pgEval g else s)

/-- PROTECTION_MISMATCH_TIMER (R264): received SEL and the local selection have differed for 50 ms. -/
def execProtectionMismatchTimer (g : Fin 16) (s : State) : Host.Outcome State Fault Refusal :=
  let sel := s.flag FAB_PG_STATUS.SEL g
  let differs := (s.krwPort (s.pgP g)).selRx != sel || (s.krwPort (s.pgW g)).selRx == sel
  finish (if s.get FAB_PG_CFG.STATE g == 1 && differs && !s.flag FAB_PG_STATUS.UNUSE_W g && !s.flag FAB_PG_STATUS.UNUSE_P g then
      (s.set FAB_PG_STATUS.MISMATCH g 1).raise (64 + g) 2 g
    else s)

/-! ### Performance monitoring (R265 to R269) -/

/-- A performance counter of the current second raised, saturating: 0 BIP_NE, 1 BIP_FE, 2 FEC_CORR, 3 FEC_UNCORR, 4 AUTH_FAIL, 5 REPLAY,
6 STUFF_RX, 7 STUFF_TX, 8 ACCEPTED. -/
def State.pmInc (p i d : Nat) (s : State) : State :=
  s.onKrw p fun k => { k with pm := k.pm.set i (satAdd (if i == 2 then 48 else 32) (k.pm.getD i 0) d) }

/-- Nominal Kraow frames per second (Table 6-1). -/
def krwPerSecond (rate : Nat) : Nat :=
  match rate with
  | 0 => 6103516
  | 1 => 12207031
  | _ => 24414062

/-- Table 7-7: SES. -/
def PmSecond.ses (x : PmSecond) (rate : Nat) : Bool := x.defs % 128 != 0 || 15 * krwPerSecond rate ≤ 100 * x.counts.getD 0 0

/-- Table 7-7: ES. -/
def PmSecond.es (x : PmSecond) : Bool := x.counts.getD 0 0 != 0 || x.counts.getD 4 0 != 0 || x.defs % 128 != 0

/-- R268, R269: a second enters its bin of `len` seconds; at most `keep` bins are kept, newest first. -/
def binAdd (len keep rate : Nat) (uas : Bool) (x : PmSecond) (bins : List PmBin) : List PmBin :=
  let start := x.start / len * len
  let upd := fun (b : PmBin) =>
    let b1 := { b with secs := b.secs + 1, bad := b.bad || !x.tb || x.step }
    if uas then { b1 with uas := b1.uas + 1 }
    else { b1 with sums := (List.range 9).map fun i => b1.sums.getD i 0 + x.counts.getD i 0
                   es := b1.es + natOfBool x.es, ses := b1.ses + natOfBool (x.ses rate) }
  if bins.any fun b => b.start == start && b.tb == x.tb then
    bins.map fun b => if b.start == start && b.tb == x.tb then upd b else b
  else (upd { start := start, tb := x.tb } :: bins).take keep

/-- R268: a classified second enters both bins of its port. -/
def KrwPort.binSecond (rate : Nat) (uas : Bool) (x : PmSecond) (k : KrwPort) : KrwPort :=
  { k with bins15 := binAdd 900 97 rate uas x k.bins15, bins24 := binAdd 86400 2 rate uas x k.bins24 }

/-- R267, Table 7-7: a second joins the run that may change the availability; ten in a row change it, and any other second settles the
run as it stood. -/
def KrwPort.classify (rate : Nat) (x : PmSecond) (k : KrwPort) : KrwPort :=
  if x.ses rate != k.pmUnavail then
    let w := k.pmWait ++ [x]
    if w.length == 10 then
      let k1 := { k with pmWait := [], pmUnavail := !k.pmUnavail }
      w.foldl (fun k y => k.binSecond rate k1.pmUnavail y) k1
    else { k with pmWait := w }
  else
    let k1 := { k with pmWait := [] }
    (k.pmWait ++ [x]).foldl (fun k1 y => k1.binSecond rate k.pmUnavail y) k1

/-- DDEG_EVAL (R244, R249): the second's BIP-8 errors. -/
def State.degEval (p : Nat) (s : State) : State :=
  let k := s.krwPort p
  if k.pmDefs % 128 != 0 || !s.judged p then s
  else
    let m := max 2 (min 10 (s.get KFR_MON_CFG.DEG_M p))
    let bad := s.get KFR_MON_CFG.DEG_THR p < k.pm.getD 0 0
    let r := k.runs
    let r1 := { r with deg := if bad then r.deg + 1 else 0, noDeg := if bad then 0 else r.noDeg + 1 }
    let s1 := s.onKrw p fun k => { k with runs := r1 }
    if m ≤ r1.deg then s1.defectRaw p 10 true else if m ≤ r1.noDeg then s1.defectRaw p 10 false else s1

/-- R265: the counters of a port are copied and restart; `fec` holds the corrected and uncorrectable codewords of the second. -/
def State.pmCopy (p : Nat) (fec : Nat × Nat) (s : State) : State :=
  let s0 := (s.pmInc p 2 fec.1).pmInc p 3 fec.2
  let k := s0.krwPort p
  let c := fun i => k.pm.getD i 0
  let now := if s.flag TMB_STATUS.RUNNING then s.clk.tbSec else s.clk.sinceReset / 1000000000
  let w : List (Nat × Nat) := [(0, c 0 + c 1 * 2 ^ 32), (1, c 2), (2, c 3 + c 4 * 2 ^ 32), (3, c 5 + c 6 * 2 ^ 32), (4, c 7 + c 8 * 2 ^ 32),
    (5, k.pmDefs % 4096), (6, k.pmStart % 2 ^ 48)]
  let s1 := s0.forL w fun x s => s.setWord .KFR_PM_SNAP p x.1 (BitVec.ofNat 64 x.2)
  let s2 := (s1.incWrap KFR_PM_SNAP.SEQ p).set KFR_PM_SNAP.TB_VALID p (natOfBool k.pmTb)
  let x : PmSecond := { counts := k.pm, defs := k.pmDefs, start := k.pmStart, tb := k.pmTb, step := s.krw.stepped }
  let s3 := s2.degEval p
  (s3.onKrw p fun k => { k.classify (s.get KFR_CFG.RATE p) x with
    pm := [0, 0, 0, 0, 0, 0, 0, 0, 0], pmDefs := s.get KFR_DEFECT.DECL p + 2048 * natOfBool k.rdi, pmStart := now
    pmTb := s.flag TMB_STATUS.RUNNING }).defectSync p

/-- PM_SECOND_BOUNDARY (R265): `fec` lists, by line port, the codewords that its RS-FEC corrected and could not correct in the second. -/
def execPmSecondBoundary (fec : List (Fin 32 × BitVec 48 × BitVec 32)) (s : State) : Host.Outcome State Fault Refusal :=
  let s1 := s.forN 32 fun p s =>
    s.pmCopy p (match fec.find? fun x => x.1.val == p with
      | some (_, a, b) => (a.toNat, b.toNat)
      | none => (0, 0))
  let s2 := { s1 with krw := { s1.krw with stepped := false } }
  finish (s2.forN 16 fun g s =>
    if s.flag FAB_PG_STATUS.WTR g then s.set FAB_PG_STATUS.WTR_LEFT g (s.get FAB_PG_STATUS.WTR_LEFT g - 1) else s)

end Sys2Proof.Machine
end

