-- ==== Sys2Proof/Machine/Ports.lean ====
section
/-!
DEFINITION. Lanes and ports (R270 to R302): the bring-up of Table 8-3, the huddle, what a port loses when it goes down, PFC frames
received, pre-emption, test patterns, lane restore and port modes.
-/

namespace Sys2Proof.Machine

/-! ### Registers of a port (0 to 31 client, 32 to 63 line) or a mate lane (64, 65) -/

/-- BSTATE. -/
def State.bst (s : State) (p : Nat) : Nat := if p < 64 then s.bstate p else s.get MTL_LANE_STATUS.BSTATE (p - 64)

/-- A port that is ON, or a mate lane of a device whose pair is enabled: its BSTATE changes as Table 8-3 states (R284, R302). -/
def State.portRuns (s : State) (p : Nat) : Bool := (if p < 64 then s.portState p else s.get MTL_PAIR_CFG.STATE) == 1

/-- BSTATE as far as the bring-up goes on: OFF in a port that is not ON. -/
def State.phase (s : State) (p : Nat) : Nat := if s.portRuns p then s.bst p else 0

/-- A field replaced, by kind of port. -/
def State.setPort (c l m : Field) (p v : Nat) (s : State) : State :=
  if p < 32 then s.set c p v else if p < 64 then s.set l (p - 32) v else s.set m (p - 64) v

/-- BSTATE replaced. -/
def State.setBst (p v : Nat) (s : State) : State := s.setPort CPX_PORT_STATUS.BSTATE LPX_PORT_STATUS.BSTATE MTL_LANE_STATUS.BSTATE p v

/-- FAIL_CAUSE replaced (Table 8-8). -/
def State.setCause (p v : Nat) (s : State) : State :=
  s.setPort CPX_PORT_STATUS.FAIL_CAUSE LPX_PORT_STATUS.FAIL_CAUSE MTL_LANE_STATUS.FAIL_CAUSE p v

/-- What a port holds. -/
def State.portSt (s : State) (p : Nat) : PortSt := s.ports.get p {}

/-- What a port holds, changed. -/
def State.onPort (p : Nat) (f : PortSt → PortSt) (s : State) : State := { s with ports := s.ports.set p (f (s.portSt p)) {} }

/-- LOOP of a port (Table 8-7). -/
def State.loopMode (s : State) (p : Nat) : Nat := if p < 64 then s.portCtl CPX_PORT_CTRL.LOOP LPX_PORT_CTRL.LOOP p else 0

/-- A near-end loop. -/
def State.nearLoop (s : State) (p : Nat) : Bool := s.loopMode p == 1 || s.loopMode p == 2

/-- The port huddles: a line port in Kraow mode or with HUD_EN = 1, and a mate lane; never in a loop. -/
def State.huddles (s : State) (p : Nat) : Bool :=
  64 ≤ p || (32 ≤ p && (s.isKraow p || s.flag LPX_PORT_CTRL.HUD_EN (p - 32)) && s.loopMode p == 0)

/-- The port's transmitters send: not those of a libero (R294). -/
def State.transmits (s : State) (p : Nat) : Bool := 64 ≤ p || !s.isLibero

/-- The lanes of a port. -/
def State.lanesOf (s : State) (p : Nat) : List Nat := if p < 64 then s.portLanes p else []

/-- Every lane of a port reports signal. -/
def State.allSignal (s : State) (p : Nat) : Bool :=
  if p < 64 then (s.lanesOf p).all fun j => s.flag LNS_LANE.SIG j else s.flag MTL_LANE_STATUS.SIG (p - 64)

/-- Every lane of a port is locked (R295), and its lanes are aligned. -/
def State.lanesLocked (s : State) (p : Nat) : Bool :=
  !(s.portSt p).lockLost && (s.lanesOf p).all fun j => s.flag LNS_LANE.BIT_LOCK j && s.flag LNS_LANE.BLOCK_LOCK j

/-- LF_RF of a port (Table 8-6). -/
def State.setLfRf (p : Nat) (on : Bool) (s : State) : State :=
  if p < 32 then s.set CPX_PORT_STATUS.LF_RF p (natOfBool on) else if p < 64 then s.set LPX_PORT_STATUS.LF_RF (p - 32) (natOfBool on) else s

/-- BIT_LOCK and BLOCK_LOCK of a port's lanes. -/
def State.setLocks (p : Nat) (bit block : Bool) (s : State) : State :=
  s.forL (s.lanesOf p) fun j s => (s.set LNS_LANE.BIT_LOCK j (natOfBool bit)).set LNS_LANE.BLOCK_LOCK j (natOfBool block)

/-! ### Going down and coming up (R280, R401, R160, R184) -/

/-- R160, R401: a frame that is leaving on a port by cut-through when the port goes down ends after the octets already sent, whose
number is a free value. -/
def State.endOnDown (p k cls : Nat) (e : RoEntry) (s : State) : State :=
  match e.st with
  | .leaving port it =>
    if port == p && it.dest != .drop then
      let (v, s1) := s.draw
      let s2 := if it.isRx then s1.stompRx p { it with released := min it.released v.toNat }
        else s1.stompTx p it (some v.toNat)
      s2.roSet k cls e.num (.leaving port { it with dest := .drop })
    else s
  | _ => s

/-- A port goes down: its egress queues are flushed, frames in transmission end, no fault is received any more, and streams, groups and
the Kraow framer follow. -/
def State.portDown (p : Nat) (s : State) : State :=
  let s1 := (s.flushPort p).setLfRf p false
  let s2 := s1.forL s1.path.reorder fun l s => s.forL l.2 fun e s => s.endOnDown p (l.1 / 8) (l.1 % 8) e
  let s3 := s2.onPort p fun x => { x with paused := 0, lockLost := false }
  if p < 32 then s3
  else
    let k := p - 32
    let s4 := s3.set LPX_PORT_STATUS.PE k 0
    if s4.isKraow p then (s4.krwDown k).defectSync k else (s4.letPortChange k).pgPort k

/-- R298: pre-emption starts on an Ethernet-mode line port that is ACTIVE. -/
def State.preemptStart (k : Nat) (s : State) : State :=
  if s.flag LPX_PORT_CTRL.PREEMPT_EN k && !s.isKraow (32 + k) && s.linePortActive k then
    s.set LPX_PORT_STATUS.PE k (if s.flag LPX_PORT_CTRL.VERIFY_DIS k then 2 else 1)
  else s.set LPX_PORT_STATUS.PE k 0

/-- RATE of a huddle message and of `LNS_HUD_PEER` (Table 8-5). -/
def hudRate (rate : Nat) : Nat :=
  match rate with
  | 100 => 1
  | 200 => 2
  | 400 => 3
  | 800 => 4
  | _ => 5

/-- CAPS that a line port offers (Table 8-5): volley and let store; pre-emption in Ethernet mode; express packing and the T-channel in
Kraow mode. -/
def State.hudCaps (s : State) (p : Nat) : Nat := if s.isKraow p then 27 else 7

/-- The capabilities of Table 8-5 that a line port uses. -/
def State.capsUsed (s : State) (k : Nat) : Nat :=
  let streams := (List.range 256).filter fun st => s.get LET_STREAM_CFG.STATE st != 0 && k ∈ s.letCtlPorts st
  natOfBool (streams.any fun st => s.flag LET_STREAM_CFG.VOLLEY st) + 2 * natOfBool (streams.any fun st => s.flag LET_STREAM_CFG.RETAIN st)
    + 4 * natOfBool (!s.isKraow (32 + k) && s.flag LPX_PORT_CTRL.PREEMPT_EN k)
    + 8 * natOfBool (s.isKraow (32 + k) && (List.range 32).any fun t => s.get KFR_TRIB.STATE (32 * k + t) != 0 && s.flag KFR_TRIB.EXP_PACK (32 * k + t))
    + 16 * natOfBool (s.isKraow (32 + k) && s.get TMB_PORT.TT_ROLE k != 0)

/-- R291: the last valid message of the peer is recorded, and the huddle-note event raised. -/
def State.hudRecord (p : Nat) (s : State) : State :=
  match (s.portSt p).hudPeer with
  | none => s
  | some m =>
    let k := p - 32
    let s1 := ((s.set LNS_HUD_PEER.MODE k (octet m 2)).set LNS_HUD_PEER.RATE k (octet m 3)).set LNS_HUD_PEER.CAPS k (octet m 5)
    let s2 := ((s1.set LNS_HUD_PEER.MAX_FRAME k (beAt m 6 2)).set LNS_HUD_PEER.PORT k (octet m 32)).set LNS_HUD_PEER.PAIR_ID k (beAt m 8 8)
    let used := s2.capsUsed k
    s2.when (beAt m 6 2 < s.get LPX_PORT_CTRL.MAX_FRAME k || used &&& octet m 5 != used) fun s => s.raise p 3 p (beAt m 24 8)

/-- A port enters ACTIVE. -/
def State.enterActive (p : Nat) (s : State) : State :=
  let s1 := (s.setBst p 5).onPort p fun x => { x with run := 0, lockLost := false }
  if 64 ≤ p then (if s.bst (129 - p) == 5 then s1 else { s1 with mtl := { s1.mtl with rseqTx := 0, rseqRx := 0 } })
  else
    let code := (100 + p)
    let s2 := { s1 with service := if code ∈ s1.service then s1.service else s1.service ++ [code] }
    if p < 32 then s2
    else
      let k := p - 32
      let s3 := if s2.huddles p then s2.hudRecord p else s2
      let s4 := (s3.preemptStart k).onKrw k fun x => { x with aligned := true }
      if s4.isKraow p then s4.defectSync k else (s4.letPortChange k).pgPort k

/-- R286, R287: a port falls back to DETECT, or in a near-end loop to LOCK. -/
def State.fallBack (p cause : Nat) (s : State) : State :=
  let was := s.bst p
  let run := (s.portSt p).run + 1
  let s1 := if p < 32 then s.inc CPX_PORT_STATUS.FALLBACKS p else if p < 64 then s.inc LPX_PORT_STATUS.FALLBACKS (p - 32)
    else s.inc MTL_LANE_STATUS.FALLBACKS (p - 64)
  let s2 := ((s1.setCause p cause).setBst p (if s.nearLoop p then 3 else 1)).onPort p fun x => { x with run := run }
  let s3 := (s2.setLocks p false false).when (was == 5 && p < 64) fun s => s.portDown p
  s3.when (p < 64 && run == max 1 (s.get LNS_BRING_CFG.FAIL_EVT (portRegion p))) fun s => s.raise p 2 p

/-- R274, R278, R275: the cause for which the enable of a port fails. -/
def State.portStartCause (s : State) (p : Nat) : Option Nat :=
  if (s.lanesOf p).any fun j => s.flag LNS_LANE.RETIRED j then some 7
  else if (s.isKraow p && s.portRate p < 400) || (p < 32 && s.flag CPX_PORT_CTRL.BT_USE p && s.portRate p == 1600) then some 8
  else if .complex (32 ≤ p) (portRegion p) ∈ s.fen.blocks then some 0
  else none

/-- R284, Table 8-7: bring-up of a port begins. -/
def State.bringUp (p : Nat) (s : State) : State :=
  (s.onPort p fun _ => {}).setBst p (if s.nearLoop p then 3 else 1)

/-! ### Bring-up (Table 8-3) -/

/-- LANE_SIGNAL_CHANGE (R272): lane 16n + j of the regions, or 64 + m for MATE m. -/
def execLaneSignalChange (lane : Fin 66) (sig : Bool) (s : State) : Host.Outcome State Fault Refusal :=
  finish (if lane.val < 64 then s.set LNS_LANE.SIG lane (natOfBool sig) else s.set MTL_LANE_STATUS.SIG (lane - 64) (natOfBool sig))

/-- DETECT_SIGNAL_TIMER (R284). -/
def execDetectSignalTimer (p : Fin 66) (s : State) : Host.Outcome State Fault Refusal :=
  finish (if s.phase p == 1 && s.allSignal p then s.setBst p 2 else s)

/-- TRAIN_COMPLETE (R284, R294); a far-end loop reaches LOCK and stays there. -/
def execTrainComplete (p : Fin 66) (s : State) : Host.Outcome State Fault Refusal :=
  finish (if s.phase p == 2 then s.setBst p 3 else s)

/-- TRAIN_TIMEOUT (R284). -/
def execTrainTimeout (p : Fin 66) (s : State) : Host.Outcome State Fault Refusal :=
  finish (if s.phase p == 2 then s.fallBack p 1 else s)

/-- LOCK_ACHIEVED (R284, R287): in LOCK the port goes on; in ACTIVE it cures a loss of lock. -/
def execLockAchieved (p : Fin 66) (s : State) : Host.Outcome State Fault Refusal :=
  let s1 := s.setLocks p true true
  finish (if s.phase p == 5 then
      (s1.onPort p fun x => { x with lockLost := false }).when (32 ≤ p.val && p.val < 64) fun s =>
        s.onKrw (p - 32) fun k => { k with aligned := true }
    else if s.phase p == 3 && s.loopMode p != 3 then
      if s.huddles p then
        (s1.setBst p 4).onPort p fun x => { x with hudSeq := 0, hudAcks := 0, hudMatch := false, hudAcked := false, hudDiffers := false
                                                   hudPeer := none }
      else s1.enterActive p
    else if s.phase p == 4 then s1.onPort p fun x => { x with lockLost := false }
    else s)

/-- LOCK_TIMEOUT (R284); LOCK_MS does not apply in a far-end loop. -/
def execLockTimeout (p : Fin 66) (s : State) : Host.Outcome State Fault Refusal :=
  finish (if s.phase p == 3 && s.loopMode p != 3 then s.fallBack p 2 else s)

/-- LOCK_LOSS (R285, R287, Table 6-7, Table 7-1): a lane of the port loses lock, or its lanes lose alignment. -/
def execLockLoss (p : Fin 66) (lane : Fin 8) (kind : LockKind) (s : State) : Host.Outcome State Fault Refusal :=
  let js := ((s.lanesOf p).drop lane).take 1
  let s1 := match kind with
    | .bit => s.forL js fun j s => (s.set LNS_LANE.BIT_LOCK j 0).set LNS_LANE.BLOCK_LOCK j 0
    | .block => s.forL js fun j s => s.set LNS_LANE.BLOCK_LOCK j 0
    | .alignment => s
  finish (if s.phase p == 3 then s1
    else if s.phase p == 4 then s1.onPort p fun x => { x with lockLost := true }
    else if s.phase p == 5 then
      let s2 := s1.onPort p fun x => { x with lockLost := true }
      if s2.isKraow p && p.val < 64 then
        (((s2.onKrw (p - 32) fun k => { k with aligned := false }).krwOof (p - 32)).defectAtOnce (p - 32)).defectSync (p - 32)
      else s2
    else s)

/-- HOLD_TIMEOUT (R284, R287): a loss of lock, or Kraow alignment lost, has lasted HOLD_MS. -/
def execHoldTimeout (p : Fin 66) (s : State) : Host.Outcome State Fault Refusal :=
  finish (if s.phase p == 5 then
      if (s.portSt p).lockLost then s.fallBack p 5
      else if p.val < 64 && s.isKraow p && s.get KFR_ALIGN.FSTATE (p - 32) == 0 then s.fallBack p 6
      else s
    else s)

/-! ### Huddle (R288 to R295, R302, R340) -/

/-- MODE, RATE and FEC of a port as a huddle message gives them. -/
def State.hudOwn (s : State) (p : Nat) : Nat × Nat × Nat := (natOfBool (s.isKraow p), hudRate (s.portRate p), 1)

/-- PAIR_ID that the device sends: its pair identity, 0 when unpaired. -/
def State.pairId (s : State) : Nat := if s.flag MTL_PAIR_CFG.EN then s.get MTL_PAIR_ID.PAIR_ID else 0

/-- The content of a huddle message (Table 8-5). Beside VERSION, FLAGS and CRC, which R289 needs, a mate lane fills PAIR_ID and DEVICE_ID
alone (R302). -/
def State.hudContent (s : State) (p : Nat) (ack : Bool) : List Byte :=
  let x := s.portSt p
  let mate := 64 ≤ p
  let (mode, rate, fec) := if mate then (0, 0, 0) else s.hudOwn p
  let body := [1#8, BitVec.ofNat 8 (natOfBool ack * 128 + natOfBool (s.pairId != 0) * 64), BitVec.ofNat 8 mode, BitVec.ofNat 8 rate,
      BitVec.ofNat 8 fec, BitVec.ofNat 8 (if mate then 0 else s.hudCaps p)]
    ++ beBytes 2 (if mate then 0 else s.get LPX_PORT_CTRL.MAX_FRAME (p - 32)) ++ beBytes 8 s.pairId
    ++ beBytes 8 (if mate then 0 else x.hudPeer.elim 0 fun m => beAt m 8 8) ++ beBytes 8 (s.get LCM_DEVICE_ID.DEVICE_ID)
    ++ [BitVec.ofNat 8 (if mate then 0 else p - 32), 0, 0, 0] ++ beBytes 4 (if mate then 0 else x.hudSeq) ++ List.replicate 20 0
  body ++ beBytes 4 (crc32c 0xFFFFFFFF body)

/-- A huddle message leaves (R288). -/
def State.hudSend (p : Nat) (ack : Bool) (s : State) : State :=
  let da := if p < 64 then s.get LNS_HUD_CFG.HUD_DA (portRegion p) else 0x0180C2000003
  let frame := beBytes 6 da ++ beBytes 6 (Config.portMac p).toNat ++ [0x88#8, 0xB6#8] ++ s.hudContent p ack
  (s.sendFrame p frame false).onPort p fun x => { x with hudSeq := x.hudSeq + 1, hudAcks := x.hudAcks + natOfBool ack }

/-- R289, R290: the port leaves HUDDLE; after a message that differs it waits for the timeout. -/
def State.hudExit (p : Nat) (s : State) : State :=
  let x := s.portSt p
  if s.phase p == 4 && s.transmits p && 3 ≤ x.hudAcks && x.hudAcked && !x.hudDiffers then s.enterActive p else s

/-- HUDDLE_MSG_TX (R288). -/
def execHuddleMsgTx (p : Fin 66) (s : State) : Host.Outcome State Fault Refusal :=
  finish (if s.phase p == 4 && s.transmits p then (s.hudSend p (s.portSt p).hudMatch).hudExit p else s)

/-- R289: a message is valid. -/
def hudValid (m : List Byte) : Bool := 64 ≤ m.length && octet m 0 == 1 && beAt m 60 4 == crc32c 0xFFFFFFFF (m.take 60)

/-- R289 to R295, R340: a huddle message received with a good FCS. -/
def State.hudRx (p : Nat) (m0 : List Byte) (s : State) : State :=
  let m := m0.take 64
  if !hudValid m then s
  else
    let ok := if 64 ≤ p then beAt m 8 8 == s.pairId else (octet m 2, octet m 3, octet m 4) == s.hudOwn p
    let ack := octet m 1 / 128 == 1
    match s.phase p with
    | 4 =>
      let s1 := s.onPort p fun x => { x with hudPeer := some m }
      if !ok then
        if 64 ≤ p then s1.fallBack p 4
        else (s1.setCause p 4).onPort p fun x => { x with hudMatch := false, hudDiffers := true }
      else
        let s2 := s1.onPort p fun x => { x with hudMatch := !x.hudDiffers, hudAcked := x.hudAcked || ack }
        if s2.transmits p then s2.hudExit p
        else if ack && beAt m 16 8 == s.pairId then s2.enterActive p else s2
    | 5 =>
      if 32 ≤ p && p < 64 && !s.isKraow p && s.flag LPX_PORT_CTRL.HUD_EN (p - 32) then
        let s1 := s.onPort p fun x => { x with hudPeer := some m }
        if !ok then s1.fallBack p 4
        else if !ack && s.macSends p then s1.hudSend p true else s1
      else s
    | _ => s

/-- HUDDLE_MSG_RX (R289, R290, R293): the 64 octets of content, with a good FCS. -/
def execHuddleMsgRx (p : Fin 66) (content : List Byte) (s : State) : Host.Outcome State Fault Refusal := finish (s.hudRx p content)

/-- HUDDLE_TIMEOUT (R284, R290). -/
def execHuddleTimeout (p : Fin 66) (s : State) : Host.Outcome State Fault Refusal :=
  finish (if s.phase p == 4 then s.fallBack p (if (s.portSt p).hudDiffers then 4 else 3) else s)

/-! ### Ethernet support (Table 8-6) -/

/-- LINK_FAULT_RX: local or remote fault starts or stops being received. -/
def execLinkFaultRx (p : Fin 64) (on : Bool) (s : State) : Host.Outcome State Fault Refusal :=
  finish (if !s.portUp p || s.isKraow p then s
    else (s.setLfRf p on).when (32 ≤ p.val) fun s => s.letPortChange (p - 32))

/-- R297: a PFC frame received: enable vector and, by class, whether its quanta are not 0. It is dropped and counted. -/
def State.pfcRx (p enable nonzero : Nat) (s : State) : State :=
  let s1 := if p < 32 then s.inc CPX_PORT_STATUS.CTL_DROP p else s.inc LPX_PORT_STATUS.CTL_DROP (p - 32)
  let rx := s.portCtl CPX_PORT_CTRL.PFC_RX LPX_PORT_CTRL.PFC_RX p
  let act := (enable &&& rx) % 256
  s1.onPort p fun x => { x with paused := (List.range 8).foldl (fun m c =>
    m + natOfBool (if act.testBit c then nonzero.testBit c else x.paused.testBit c) * 2 ^ c) 0 }

/-- A MAC control frame received (Table 8-6): PFC acts, and every one is dropped and counted. -/
def State.macControl (p : Nat) (data : List Byte) (s : State) : State :=
  if typeAt data 14 == 0x0101 then
    s.pfcRx p (beAt data 16 2) ((List.range 8).foldl (fun m c => m + natOfBool (beAt data (18 + 2 * c) 2 != 0) * 2 ^ c) 0)
  else if p < 32 then s.inc CPX_PORT_STATUS.CTL_DROP p else s.inc LPX_PORT_STATUS.CTL_DROP (p - 32)

/-- PFC_FRAME_RX (R297). -/
def execPfcFrameRx (p : Fin 64) (enable nonzero : BitVec 8) (s : State) : Host.Outcome State Fault Refusal :=
  finish (if s.portUp p && !s.isKraow p then s.pfcRx p enable.toNat nonzero.toNat else s)

/-- PFC_REFRESH (R297): the pauses still requested are sent again. -/
def execPfcRefresh (p : Fin 64) (s : State) : Host.Outcome State Fault Refusal := finish (s.sendPfc p (s.pausedMask p) 0xFFFF)

/-- PFC_PAUSE_EXPIRY (R297): the quanta of a received pause expire. -/
def execPfcPauseExpiry (p : Fin 64) (c : Fin 8) (s : State) : Host.Outcome State Fault Refusal :=
  finish (s.onPort p fun x => { x with paused := if x.paused.testBit c then x.paused - 2 ^ c.val else x.paused })

/-- PREEMPT_VERIFY_END (R298). -/
def execPreemptVerifyEnd (k : Fin 32) (ok : Bool) (s : State) : Host.Outcome State Fault Refusal :=
  finish (if s.get LPX_PORT_STATUS.PE k == 1 then
      if ok then s.set LPX_PORT_STATUS.PE k 2 else (s.set LPX_PORT_STATUS.PE k 3).raise (32 + k) 4 (32 + k)
    else s)

/-! ### Lanes -/

/-- The port that holds a lane 16n + j (Table 8-2). -/
def State.lanePort (s : State) (lane : Nat) : Nat :=
  let n := lane / 16
  let j := lane % 16
  let p := if j < 8 then 8 * n + j else 32 + 8 * n + (j - 8)
  p - p % 8 % modeLanes (s.portMode p)

/-- Power domains of a lane and of the complex that holds it (Table 21-6). -/
def laneDomains (lane : Nat) : List Nat := [268 + lane, 334 + 2 * (lane / 16) + lane % 16 / 8]

/-- R300: a write of PRBS_GEN and PRBS_CHK of a lane. -/
def State.prbsWrite (lane gen chk : Nat) (s : State) : State :=
  let starts := (gen != 0 && gen < 3) || (chk != 0 && chk < 3)
  if starts && s.portState (s.lanePort lane) != 0 then s
  else
    let s1 := if gen < 3 then s.set LNS_LANE.PRBS_GEN lane gen else s
    let s2 := if chk < 3 && chk != s1.get LNS_LANE.PRBS_CHK lane then (s1.set LNS_LANE.PRBS_CHK lane chk).set LNS_LANE.PRBS_LOCK lane 0 else s1
    s2.when starts fun s => s.domWake (laneDomains lane)

/-- PRBS_WRITE (R300). -/
def execPrbsWrite (lane : Fin 64) (gen chk : BitVec 2) (s : State) : Host.Outcome State Fault Refusal :=
  finish (s.prbsWrite lane gen.toNat chk.toNat)

/-- R301: RESTORE of a lane. -/
def State.laneRestore (lane : Nat) (s : State) : State :=
  if s.portState (s.lanePort lane) == 0 && s.flag LNS_LANE.RETIRED lane && !(s.laneTests.contains lane) then
    { s with laneTests := s.laneTests ++ [lane] }
  else s

/-- LANE_RESTORE (R301). -/
def execLaneRestore (lane : Fin 64) (s : State) : Host.Outcome State Fault Refusal := finish (s.laneRestore lane)

/-- LANE_RESTORE_DONE (R301): the test ends; `ok` when it found no bit error. -/
def execLaneRestoreDone (lane : Fin 64) (ok : Bool) (s : State) : Host.Outcome State Fault Refusal :=
  finish (if s.laneTests.contains lane.val then
      let s1 := { s with laneTests := s.laneTests.filter (· != lane.val) }
      if ok then s1.set LNS_LANE.RETIRED lane 0 else s1
    else s)

/-! ### Complexes -/

/-- R300: every 10 ms a checker that runs locks, or counts the bit errors it finds, and a lane with bit lock measures its eye: both are
free values, which the line alone decides (log 63). -/
def State.laneSample (j : Nat) (s : State) : State :=
  let s1 := if s.flag LNS_LANE.BIT_LOCK j then
      let (v, s1) := s.draw
      s1.setWord .LNS_EYE j 0 (v &&& 0x000003FF7FFFFFFF)
    else s
  if s.get LNS_LANE.PRBS_CHK j == 0 then s1
  else
    let (v, s2) := s1.draw
    if s.flag LNS_LANE.PRBS_LOCK j then s2.inc LNS_PRBS_ERR.ERRORS j v.toNat
    else (s2.set LNS_LANE.PRBS_LOCK j (v.toNat % 2)).set LNS_PRBS_ERR.ERRORS j 0

/-- The ports of complex n of a side. -/
def complexPorts (line : Bool) (n : Nat) : List Nat := (List.range 8).map fun k => (if line then 32 else 0) + 8 * n + k

/-- EN and STATE of a port. -/
def State.setFnPort (p en state : Nat) (s : State) : State :=
  if p < 32 then (s.set CPX_PORT_CTRL.EN p en).set CPX_PORT_CTRL.STATE p state
  else (s.set LPX_PORT_CTRL.EN (p - 32) en).set LPX_PORT_CTRL.STATE (p - 32) state

/-- A port is OFF: electrical idle, BSTATE OFF. -/
def State.portOff (p : Nat) (s : State) : State :=
  let s1 := (s.setBst p 0).setLocks p false false
  { s1 with service := s1.service.filter (· != 100 + p) }

/-- PORT_COMPLEX_FENCE (R275, R9): the complex is fenced; its ports leave ACTIVE and go to OFF. -/
def execPortComplexFence (side : Side) (n : Fin 4) (s : State) : Host.Outcome State Fault Refusal :=
  let line := side == .line
  let s1 := s.forL (complexPorts line n) fun p s =>
    if s.portState p == 0 then s
    else ((s.when (s.bstate p == 5) fun s => (s.setBst p 1).portDown p).portOff p).setFnPort p 0 0 |>.fresetOff 1 p
  finish ((if line then s1.set LPX_CFG.FENCED n 1 else s1.set CPX_CFG.FENCED n 1).fenceBlock (.complex line n))

/-- R380: a change is discarded as a whole when it would make a shared pool negative. -/
def State.poolGuard (n : Nat) (f : State → State) (s : State) : State :=
  let s1 := f s
  if s1.poolSize n < 0 then s.set FAB_BUF_STATUS.REJ n 1 else s1.bufShow n

/-- R277, R380, Table 8-2: a write of PMODE. -/
def State.pmodeWrite (line : Bool) (n pmode : Nat) (s : State) : State :=
  if 8 < pmode || (complexPorts line n).any (fun p => s.portState p != 0) then s
  else
    let s1 := s.poolGuard n fun s => if line then s.set LPX_CFG.PMODE n pmode else s.set CPX_CFG.PMODE n pmode
    let small := (List.range 8).all fun c => 4 ≤ modeLanes (s1.portMode (8 * c))
    let s2 := s1.forN 64 fun r s => s.set FAB_CT_CFG.IDLE_ONLY r (natOfBool !small)
    s2.forN 8 fun k s =>
      let rate := s.portRate (32 + 8 * n + k)
      s.set KFR_CFG.RATE (8 * n + k) (if rate == 800 then 1 else if rate == 1600 then 2 else 0)

/-- PMODE_WRITE (R277). -/
def execPmodeWrite (side : Side) (n : Fin 4) (pmode : BitVec 4) (s : State) : Host.Outcome State Fault Refusal :=
  finish (s.pmodeWrite (side == .line) n pmode.toNat)

end Sys2Proof.Machine
end

