-- ==== Sys2Proof/Machine/Ingress.lean ====
section
/-!
DEFINITION. A frame enters the device (R14): the receive MAC's checks (R282, R283, R296), the receive stamp (R558), classification
(R50, R51, R58, R70), the meter and the ingress admission (R421, R427, R381), mirror copies (R374), and the receive checks of
Table 4-4 up to the sequencer.
-/

namespace Sys2Proof.Machine

/-! ### The MAC -/

/-- A counter of a port's status register raised. -/
def State.portInc (c l : Field) (p : Nat) (s : State) : State := if p < 32 then s.inc c p else s.inc l (p - 32)

/-- The largest frame a port takes, FCS included (R282, R283). -/
def State.maxFrame (s : State) (p : Nat) : Nat := if p < 32 then 16000 else s.get LPX_PORT_CTRL.MAX_FRAME (p - 32)

/-- A frame of a port may be forwarded by cut-through as far as its ingress is concerned (R156). -/
def State.cutAllowed (s : State) (p cls : Nat) : Bool := (s.get FAB_CT_CFG.CLASS_EN (portRow p)).testBit cls

/-- A signed field of `w` bits. -/
def signed (w v : Nat) : Int := if v < 2 ^ (w - 1) then v else (v : Int) - 2 ^ w

/-- The time that stamps frames (R558, R560), in ns: the time base, or the CCLK-derived count. -/
def State.rxStamp (s : State) (p : Nat) : Nat :=
  ((s.nowNs : Int) - signed 16 (s.get TMB_PORT.RX_OFS p)).toNat

/-- A receive stamp on an item. -/
def State.stampRx (s : State) (p : Nat) (it : Item) : Item :=
  if s.flag TMB_PORT.RX_TS p then
    let t := s.rxStamp p
    { it with rxSec := t / 1000000000, rxNs := t % 1000000000 }
  else it

/-- RX_FRAMES and RX_OCTETS of Table 22-1 for a frame that a port receives. -/
def State.countRx (p len : Nat) (s : State) : State :=
  (s.pmcEvent (portRegion p) 1 (portRow p % 16) 1).pmcEvent (portRegion p) 2 (portRow p % 16) len

/-! ### Meter and admission -/

/-- DEI of the outermost tag (R423). -/
def outerDei (l : List Byte) : Bool := isVlan (typeAt l 12) && (octet l 14).testBit 4

/-- R427: the frames whose meter action is always PASS. -/
def State.letLossless (s : State) (st : Option Nat) : Bool := st.any s.letNeverDrops

/-- R381, R421: the meter and the admission of a frame on the account of its port and class; none when it is dropped. -/
def State.admitFrame (it : Item) (st : Option Nat) (s : State) : Option Item × State :=
  let len := it.data.length + 4
  let (act, s1) := s.meterJudge (accountOf it.inPort it.cls) len it.early (outerDei it.data)
  let (adm, s2) := s1.admitIngress it.inPort it.cls (if s.letLossless st then 0 else act)
  let cells := cellsOf len
  match adm with
  | .no => (none, s2)
  | .yes => (some { it with cells := cells }, s2.chargeIngress (accountOf it.inPort it.cls) cells false)
  | .headroom => (some { it with cells := cells, hdrm := true }, s2.chargeIngress (accountOf it.inPort it.cls) cells true)

/-- A frame joins the sequencer of its port. -/
def State.toSeq (it : Item) (s : State) : State := s.onSeq (seqOf it.inPort) fun x => { x with fifo := x.fifo ++ [it] }

/-- The queue of a receive ring (0 to 255): the one that serves it, else the one that its register names. -/
def State.rxRingQueue (s : State) (r : Nat) : Nat := (s.ringQueue (256 + r)).getD (s.get HIF_RING_CFG.QUEUE (256 + r))

/-- The destination of a frame for the host (R58, R139, Table 2-4): a receive ring's queue. -/
def State.hostDest (s : State) (port reason : Nat) : Dest := .queue (s.rxRingQueue (Config.hostRing port reason % 256))

/-- A frame for the host or the MCU passes the sequencer and the reorder stage of its port in order. -/
def State.toHost (mcu : Bool) (reason : Nat) (it : Item) (s : State) : State :=
  s.toSeq { it with reason := reason, dest := if mcu then .mcu else s.hostDest it.inPort reason }

/-! ### Classification -/

/-- R345: a libero drops a client's frame of no let stream after its classification, and counts it. -/
def State.liberoLoss (it : Item) (s : State) : State := (s.inc MTL_LIB_CNT.TX_DROP 0).freeIngress it

/-- R58: a lookup that finds no entry. -/
def State.missed (it : Item) (s : State) : State :=
  let k := portRow it.inPort
  let (tag, _, pcp) := outerTag it.data
  let s1 := s.inc TBL_MISS_CNT.MISS k
  match s1.admitFrame { it with cls := if tag then pcp else 0 } none with
  | (none, s2) => s2
  | (some x, s2) => if s.isLibero && it.inPort < 32 then s2.liberoLoss x else match s.get TBL_PORTCFG.MISS_ACT k with
    | 1 => s2.toHost false 2 x
    | 2 => s2.toHost true 2 x
    | _ => s2.freeIngress x

/-- A frame whose entry does not protect (Table 2-4): forwarded without protection to the EGRESS_PORT of the SC it names, to the
host, to the MCU, or dropped. -/
def State.unprotected (it : Item) (e : ClsEntry) (s : State) : State :=
  if s.isLibero && it.inPort < 32 then s.liberoLoss it
  else match e.action with
  | 1 => match s.sc? e.sc with
    | some c => s.toSeq { it with sc := e.sc, dest := .egress (if it.inPort < 32 then 32 + c.egPort else c.egPort) it.cls }
    | none => s.freeIngress it
  | 3 => s.toHost false 1 it
  | 4 => s.toHost true 1 it
  | _ => s.freeIngress it

/-! ### Client side (Table 1-2, Table 4-3 steps 1 and 2) -/

/-- R307, R308: the entry and its SC still match the let stream. -/
def State.letBinds (s : State) (port : Nat) (e : ClsEntry) : Bool :=
  let st := e.letStream
  s.get LET_STREAM_CFG.STATE st == 1 && s.letServes st && s.get LET_STREAM_CFG.CLIENT_PORT st == port && s.get LET_STREAM_CFG.CLASS st == e.cls
    && s.get LET_STREAM_SC.SC_W st == e.sc && s.flag LET_STREAM_CFG.VOLLEY st == e.volley

/-- Table 4-3, steps 1 and 2, and R308, R345, for a frame to be protected. -/
def State.clientProtect (it : Item) (e : ClsEntry) (s : State) : State :=
  match s.sc? e.sc with
  | none => (s.inc TBL_MISS_CNT.SC_OFF (portRow it.inPort)).freeIngress it
  | some c =>
    if c.state != 1 then (s.inc TBL_MISS_CNT.SC_OFF (portRow it.inPort)).freeIngress it
    else if e.letEn && !s.letBinds it.inPort e then (s.letReject e.letStream).freeIngress it
    else if s.isLibero && !e.letEn then s.liberoLoss it
    else if !it.early && !c.kraow && s.maxFrame (32 + c.egPort) < secureLength c it.data e.letEn then
      (s.stat (4 * e.sc + c.curAn) 7 1).freeIngress it
    else s.toSeq { it with sc := e.sc, scFields := some c, dest := .egress (32 + c.egPort) it.cls, cookie := e.cookie }

/-- The block-transparent tributary that takes the stream of a client port (R217), as 32p + t. -/
def State.transparent (s : State) (port : Nat) : Option Nat :=
  (List.range 1024).find? fun k =>
    s.get KFR_TRIB.STATE k != 0 && s.get KFR_TRIB.TYPE k == 2 && s.get KFR_TRIB.CLIENT_PORT k == port

/-- An item placed in a tributary's mapper. -/
def State.toMapper (k : Nat) (it : Item) (s : State) : State :=
  { s with krw := { s.krw with mapper := s.krw.mapper.set k (s.krw.mapper.get k [] ++ [it]) [] } }

/-- A client frame classified (R50, R51, R69, R70). -/
def State.clientClassify (it : Item) (s : State) : State :=
  let n := portRegion it.inPort
  let (tag, vid, pcp) := outerTag it.data
  match s.lookup n (s.maskedTxKey it.inPort tag vid pcp (s.etClass n (frameEtherType it.data))) with
  | none => s.missed it
  | some e =>
    match s.admitFrame { it with cls := e.cls, res := some e } e.stream with
    | (none, s1) => s1
    | (some x, s1) =>
      let s2 := s1.mirrorCopy x
      if e.action == 0 then s2.clientProtect x e else s2.unprotected { x with cookie := e.cookie } e

/-- The head of a client frame may leave by cut-through before the frame ends: its entry protects it, its class and the port rates allow
it (R156), and its secure data has reached 48 octets or travels in crates (R158). -/
def State.clientCut (s : State) (port : Nat) (data : List Byte) : Bool :=
  let (tag, vid, pcp) := outerTag data
  (s.lookup (portRegion port) (s.maskedTxKey port tag vid pcp (s.etClass (portRegion port) (frameEtherType data)))).any fun e =>
    e.action == 0 && s.cutAllowed port e.cls && (s.sc? e.sc).any fun c =>
      s.portRate (32 + c.egPort) ≤ s.portRate port
        && (c.kraow || 60 + 4 * min (vlanTags data 2 12) c.clearTags ≤ data.length + 8 * natOfBool e.letEn)

/-- CLIENT_FRAME_RX (R14, R282, R296): a frame, its FCS taken off, on a client port; `cut`: its head has left by cut-through by the
time it ends (R160), where it may. -/
def execClientFrameRx (port : Fin 32) (data : List Byte) (how : RxEnd) (cut : Bool) (s : State) : Host.Outcome State Fault Refusal :=
  let len := data.length + 4
  let early := cut && s.clientCut port data
  let it := s.stampRx port { inPort := port, data := data, stomp := how != .good || 16000 < len, early := early }
  finish (if !s.portUp port then s
    else match s.transparent port with
    | some k => s.toMapper k it
    | none =>
      if len < 64 then s.inc CPX_PORT_STATUS.RUNT port
      else if 16000 < len && !early then s.inc CPX_PORT_STATUS.OVERSIZE port
      else if how != .good && !early then s
      else if typeAt data 12 == 0x8808 then s.macControl port data
      else (s.countRx port len).clientClassify it)

/-! ### Line side (Table 4-4) -/

/-- R137: the SCI of a received frame. -/
def State.sciOfRx (s : State) (p : Nat) (t : SecTag) (data : List Byte) : Option Word :=
  if t.sc then some t.sci
  else if t.es then some (sciWord ((data.drop 6).take 6 ++ [0, 1]))
  else if s.flag SAT_RXPORT_CFG.IMPLICIT_EN p then some (s.word .SAT_RXPORT_SCI p 0)
  else none

/-- R197: an MKPDU received on a line port. -/
def State.mkpdu (it : Item) (s : State) : State :=
  if s.get GLB_AGT_CTRL.STATE == 1 then
    { s with path := { s.path with agentIn := s.path.agentIn ++ [(it.inPort - 32, it.data)] } }
  else
    s.route { it with dest := .queue (s.rxRingQueue (s.get GLB_AGT_CTRL.RING)), reason := 4 }

/-- R139: a frame without a SecTAG. -/
def State.untagged (it : Item) (s : State) : State :=
  let p := it.inPort - 32
  let (tag, _, pcp) := outerTag it.data
  if typeAt it.data 12 == 0x888E then s.mkpdu it
  else
    match (s.inc SAT_RXPORT_CNT.UNTAGGED p).admitFrame { it with cls := if tag then pcp else 0 } none with
    | (none, s1) => s1
    | (some x, s1) => match s.get SAT_RXPORT_CFG.UNTAGGED_ACT p with
      | 1 => s1.toHost false 3 x
      | 2 => s1.toHost true 3 x
      | _ => s1.freeIngress x

/-- Check 5 of Table 4-4: the SA that a received frame names takes frames. -/
def State.rxSaOk (s : State) (c : ScEntry) (sa : Nat) : Bool :=
  c.validate != 0 && ((s.sa? sa).any fun a => a.live && !a.deleting) && (s.usableKey? sa).isSome

/-- Checks 4 to 6 of Table 4-4, for a frame that its entry decrypts. -/
def State.rxProtect (it : Item) (e : ClsEntry) (t : SecTag) (s : State) : State :=
  let p := it.inPort - 32
  match s.sc? e.sc with
  | none => (s.inc TBL_MISS_CNT.SC_OFF (portRow it.inPort)).freeIngress it
  | some c =>
    let sa := 4 * e.sc + t.an
    if c.state != 1 then (s.inc TBL_MISS_CNT.SC_OFF (portRow it.inPort)).freeIngress it
    else if !s.rxSaOk c sa then (s.stat sa 4 1).freeIngress it
    else if suite32 c.suite && t.pn == 0 then (s.inc SAT_RXPORT_CNT.BAD_TAG p).freeIngress it
    else (s.saRef sa).toSeq { it with sc := e.sc, scFields := some c, sa := some sa, dest := .egress c.egPort it.cls
                                      rxStream := s.letOfRxSc e.sc, cookie := e.cookie }

/-- Checks 2 to 4 of Table 4-4. -/
def State.lineClassify (it : Item) (t : SecTag) (s : State) : State :=
  let p := it.inPort - 32
  let bad := s.inc SAT_RXPORT_CNT.BAD_TAG p
  if !t.wellFormed it.data.length then bad
  else match s.sciOfRx p t it.data with
    | none => bad
    | some sci => match s.lookup (portRegion it.inPort) (rxEthKey p sci) with
      | none => s.missed it
      | some e => match s.admitFrame { it with cls := e.cls, res := some e } none with
        | (none, s1) => s1
        | (some x, s1) => if e.action == 0 then s1.rxProtect x e t else s1.unprotected { x with cookie := e.cookie } e

/-- The frame's SA allows early release, its ingress and the port rates allow cut-through (R154, R156, R157), and no let stream takes it. -/
def State.earlyFrame (s : State) (p : Nat) (data : List Byte) : Bool :=
  match parseSecTag data with
  | none => false
  | some t => match (s.sciOfRx (p - 32) t data).bind fun sci => s.lookup (portRegion p) (rxEthKey (p - 32) sci) with
    | some e => s.cutAllowed p e.cls && (s.sa? (4 * e.sc + t.an)).any (·.early) && (s.letOfRxSc e.sc).isNone
        && (s.sc? e.sc).any fun c => s.portRate c.egPort ≤ s.portRate p
    | none => false

/-- LINE_FRAME_RX (R136, R283, R296): a frame, its FCS taken off, on an Ethernet-mode line port; `cut`: its head has been released
early by the time it ends (R154, Table 4-6). -/
def execLineFrameRx (port : Fin 32) (data : List Byte) (how : RxEnd) (cut : Bool) (s : State) : Host.Outcome State Fault Refusal :=
  let p := 32 + port.val
  let len := data.length + 4
  let early := cut && s.earlyFrame p data
  let it := s.stampRx p { inPort := p, data := data, stomp := how != .good, early := early }
  finish (if !s.portUp p || s.isKraow p then s
    else if s.maxFrame p < len then s.inc LPX_PORT_STATUS.OVERSIZE port
    else if len < 64 then s.inc LPX_PORT_STATUS.RUNT port
    else if how != .good && !early then s
    else if typeAt data 12 == 0x8808 then s.macControl p data
    else if typeAt data 12 == 0x88B6 && beAt data 0 6 == s.get LNS_HUD_CFG.HUD_DA (portRegion p) && s.flag LPX_PORT_CTRL.HUD_EN port then
      s.hudRx p (data.drop 14)
    else
      match parseSecTag data with
      | none => (s.countRx p len).untagged it
      | some t => (s.countRx p len).lineClassify it t)

end Sys2Proof.Machine
end

