-- ==== Sys2Proof/Machine/Paths.lean ====
section
/-!
DEFINITION. The sequencer's choice of the next frame (R10, R107, R134, R164 to R166, R320, R332, R345, R697, checks 6 and 7
of Table 4-4) and the reorder stage (R108, R141 to R143, R154).
-/

namespace Sys2Proof.Machine

/-! ### Binding a TX frame -/

/-- What becomes of a frame at the sequencer. -/
inductive Taken where
  /-- it has left the sequencer; the state follows -/
  | gone (s : State)
  /-- it waits for an engine, and every later frame of the port behind it (R697) -/
  | waits
  /-- it waits for a lease (R359) -/
  | lease
  /-- this SC of it is held (R164) -/
  | held (sc : Nat)
  deriving DecidableEq, Repr

/-- Engines for the next `k` work items of a sequencer have room (R697). -/
def State.enginesReady (s : State) (n q k : Nat) (express : Bool) : Bool :=
  let rot := s.rotation n
  let x := s.seq (16 * n + q)
  rot.length != 0 && (List.range k).all fun i =>
    (rot[(x.ptr + i) % rot.length]?).any fun e =>
      let g := s.eng (48 * n + e)
      if express then g.inboxX.length + i / rot.length < 4 else g.inboxN.length + i / rot.length < 8

/-- The ports and SCs under which a let frame leaves now (R314, R315). -/
def State.letCopies (s : State) (st : Nat) : List (Nat × Nat) :=
  ((s.letSendPorts st).filter s.letUsable).map fun p => (p, s.letTxSc st p)

/-- Step 2 of Table 4-3: a frame under an SC would be longer on its line port than the port's maximum; `vt`: it carries a volley tag. -/
def State.tooLong (s : State) (sc : Nat) (vt : Bool) (data : List Byte) : Bool :=
  (s.sc? sc).any fun c => !c.kraow && s.maxFrame (32 + c.egPort) < secureLength c data vt

/-- A frame that fails step 2 is counted in TOO_LONG of the SA of CUR_AN. -/
def State.countTooLong (sc : Nat) (s : State) : State := s.stat (4 * sc + (s.sc? sc).elim 0 (·.curAn)) 7 1

/-- A TX frame that the sequencer drops: a frame of a ring completes with DROPPED. -/
def State.seqDrop (it : Item) (s : State) : State := (s.freeIngress it).itemComplete it 6 none

/-- R345: a libero drops a frame that is none of a let stream, and counts it. -/
def State.liberoDrop (it : Item) (s : State) : State :=
  (s.seqDrop it).when (it.stream.isNone && it.inPort != 65) fun s => s.inc MTL_LIB_CNT.TX_DROP 0

/-- A let frame at the sequencer. A copy too long for its port is left out, and one whose SC is held joins its hold queue; a frame none
of whose copies can be bound is held as a whole, without a number. -/
def State.takeLet (n q st : Nat) (it : Item) (s : State) : Taken :=
  let normal := s.get LET_STREAM_STATUS.MODE st == 0 && !s.isLibero
  let copies := if normal then s.letCopies st else []
  if copies.isEmpty || s.letKraow st then .gone (s.letTake n q st it copies)
  else
    let (long, fit) := copies.partition fun c => s.tooLong c.2 true it.data
    let s1 := s.forL long fun c s => s.countTooLong c.2
    let kinds := fit.map fun c => (c, s.copyBind c.2)
    let bound := kinds.filter fun k => match k.2 with
      | .sa _ => true
      | _ => false
    if kinds.any (·.2 == .lease) then .lease
    else if bound.isEmpty then
      match kinds.find? (·.2 == .held) with
      | some k => .held k.1.2
      | none => .gone (s1.seqDrop it)
    else if s.enginesReady n q bound.length (s.isExpress it) then
      .gone (s1.letTake n q st it ((kinds.filter (·.2 != .gone)).map (·.1)))
    else .waits

/-- R107: a frame of a TX SC at the sequencer. -/
def State.takeTx (n q : Nat) (it : Item) (s : State) : Taken :=
  match it.res.bind (·.stream), it.stream with
  | some st, none => if s.letServes st then s.takeLet n q st it else .gone ((s.letReject st).freeIngress it)
  | _, _ =>
    if s.isLibero then .gone (s.liberoDrop it)
    else if it.scFields.any (·.kraow) then .gone (s.passBy n q it)
    else if 64 ≤ it.inPort && s.tooLong it.sc it.stream.isSome it.data then .gone ((s.countTooLong it.sc).seqDrop it)
    else match s.bindTx it.sc with
      | (.gone, _) => .gone ((s.inc TBL_MISS_CNT.SC_OFF (16 * n + q)).seqDrop it)
      | (.held, _) => .held it.sc
      | (.lease, _) => .lease
      | (.sa sa, s1) => match s.readyEngine n q (s.isExpress it) with
        | some e =>
          let (x, s2) := s1.takePn sa it
          .gone (s2.dispatchNew n q e x)
        | none => .waits

/-! ### RX frames at the sequencer -/

/-- R140: the PN of a received frame. -/
def rxPn (suite la field : Nat) : Nat :=
  if suite32 suite then field else la + (field + 2 ^ 32 - la % 2 ^ 32) % 2 ^ 32

/-- Check 7 of Table 4-4 and the dispatch of a received frame. -/
def State.takeRx (n q : Nat) (it : Item) (s : State) : Taken :=
  match it.scFields, it.sa, parseSecTag it.data with
  | some c, some sa, some t =>
    let la := (s.sa? sa).elim 0 (·.pn)
    let pn := rxPn c.suite la t.pn
    if c.replayProtect && pn < la then .gone (((s.stat sa 2 1).saUnref sa).freeIngress it)
    else match s.readyEngine n q (s.isExpress it) with
      | some e => .gone (s.dispatchNew n q e { it with pn := pn })
      | none => .waits
  | _, _, _ => .gone (s.passBy n q it)

/-- A frame at the sequencer: one that no SC protects or opens passes by, but a client's not on a libero (R345). -/
def State.takeFrame (n q : Nat) (it : Item) (s : State) : Taken :=
  if it.scFields.isNone then .gone (if s.isLibero && it.inPort < 32 then s.liberoDrop it else s.passBy n q it)
  else if it.isRx then s.takeRx n q it
  else s.takeTx n q it

/-! ### The next frame -/

/-- The sequencer of a TX frame: that of its client port, or of the client port of its SC. -/
def Item.seqKey (it : Item) : Nat := if it.inPort < 64 then seqOf it.inPort else it.scFields.elim 0 fun c => seqOf c.inPort

/-- The class of a client frame is held at its port (R165, R320, R332). -/
def State.classHeld (s : State) (it : Item) : Bool := it.inPort < 32 && s.letBlocks it.inPort it.cls

/-- The frames of a hold queue that may leave next: its first, and behind numbered copies the first frame without a number. -/
def holdNext (l : List Item) : List (Item × List Item) :=
  let copies := l.takeWhile (!·.unnumbered)
  match l, l.dropWhile (!·.unnumbered) with
  | it :: r, u :: v => if copies.isEmpty then [(it, r)] else [(it, r), (u, copies ++ v)]
  | it :: r, [] => [(it, r)]
  | [], _ => []

/-- R166, R697: the first held frame of a sequencer that can be bound leaves its hold queue, or waits for an engine; true when one does. -/
def State.takeHeld (n q : Nat) : List (Nat × Item × List Item) → State → Bool × State
  | [], s => (false, s)
  | (sc, it, rest) :: l, s =>
    if it.seqKey != 16 * n + q || s.classHeld it then s.takeHeld n q l
    else match (s.putHold sc rest).takeFrame n q it with
      | .gone s1 => (true, s1)
      | .waits => (true, s)
      | _ => s.takeHeld n q l

/-- The first frame of a sequencer that is not held back by its class (R332), with the frames before it and after it. -/
def State.firstOpen (s : State) : List Item → Option (List Item × Item × List Item)
  | [] => none
  | it :: r => if s.classHeld it then (s.firstOpen r).map fun x => (it :: x.1, x.2) else some ([], it, r)

/-- The hold queue that a frame joins without being looked at: frames of its SC, or of its let stream, wait there already. -/
def State.holdAhead (s : State) (it : Item) : Option Nat :=
  if it.isRx || it.scFields.isNone then none
  else match it.res.bind (·.stream), it.stream with
    | some st, none => ((s.letDataPorts st).map (s.letTxSc st)).find? fun sc => (s.hold sc).any (·.unnumbered)
    | _, _ => if (s.hold it.sc).isEmpty then none else some it.sc

/-- R164, R165: a frame whose SC is held joins its hold queue; `back` is the state with the frame where it was, in which a frame of a
stream that never drops stays while that queue is full. -/
def State.hold1 (sc : Nat) (it : Item) (back s : State) : State :=
  let ex := fun (s : State) => (s.bindTx sc).2
  if (ex s).holdFull sc && (it.res.bind (·.stream)).any s.letNeverDrops then ex back else (ex s).joinHold sc it

/-- What becomes of the next frame of a sequencer; `s` is the state without it, `back` the one with it, `wait` marks it as waiting. -/
def State.takeNext (n q : Nat) (it : Item) (back wait s : State) : State :=
  match s.holdAhead it with
  | some sc => s.hold1 sc it back
  | none => match s.takeFrame n q it with
    | .gone s1 => s1
    | .held sc => s.hold1 sc it back
    | .lease => wait.leaseWait it
    | .waits => back

/-- SEQUENCER_DISPATCH (R107): sequencer q of region n dispatches its next frame: first one to be dispatched again after a fence
(R10), then one that the device makes (R320), then a held one that can be bound (R166), then the first of its arrivals. -/
def State.sequence (n q : Nat) (s : State) : State :=
  let k := 16 * n + q
  let x := s.seq k
  match x.redo with
  | w :: r => match s.readyEngine n q (s.isExpress w.it) with
    | some e => (s.onSeq k fun y => { y with redo := r }).sendWork n q e w
    | none => s
  | [] =>
    match x.dev with
    | it :: r => (s.onSeq k fun y => { y with dev := r }).takeNext n q it s (s.onSeq k fun y => { y with dev := { it with waited := true } :: r })
    | [] =>
      match s.takeHeld n q ((s.path.holds.map fun h => (holdNext h.2).map fun y => (h.1, y)).flatten) with
      | (true, s1) => s1
      | (false, _) => match s.firstOpen x.fifo with
        | none => s
        | some (before, it, after) =>
          (s.onSeq k fun y => { y with fifo := before ++ after }).takeNext n q it s
            (s.onSeq k fun y => { y with fifo := before ++ { it with waited := true } :: after })

/-- SEQUENCER_DISPATCH (R107). -/
def execSequencerDispatch (n : Fin 4) (q : Fin 16) (s : State) : Host.Outcome State Fault Refusal := finish (s.sequence n q)

/-! ### The reorder stage -/

/-- R142: the final replay check of a frame that has passed its ICV: none when it is late, else the state with LA, LIFE and the
counters updated (R141, R46). -/
def State.rxAccept (it : Item) (s : State) : Option State :=
  match it.scFields, it.sa with
  | some c, some sa => if it.pn < (s.sa? sa).elim 0 (·.pn) && c.replayProtect then none else some (s.acceptRx it)
  | _, _ => some s

/-- What leaves the reorder stage after the checks: a let control message, a let frame, or a frame for its destination, mirrored
where its entry says so. -/
def State.rxDeliver (it : Item) (s : State) : State :=
  match it.rxStream, it.vtag with
  | some _, some v =>
    if beAt v 0 2 == 0x88B5 then (s.letBody (some it.sc) (it.inPort - 32) (v.drop 2 ++ it.data.drop (it.data.length + 8 - it.enc.elim 0 (·.2)))).freeIngress it
    else (s.mirrorCopy it).letFrameRx it.sc v it
  | _, _ => (s.mirrorCopy it).route it

/-- R154: a received frame that turned out bad reaches its port only as far as it was released: none of it when it fails the final
replay check. -/
def State.releaseBad (it : Item) (s : State) : State :=
  match s.rxAccept it with
  | none => (s.itemStat it 2 1).freeIngress it
  | some _ => if it.released == 0 then s.freeIngress it else s.route it

/-- A frame is released by the reorder stage. -/
def State.release (it : Item) (s : State) : State :=
  if it.isRx then
    if it.stomp then s.releaseBad it
    else if it.sa.isNone then s.rxDeliver it
    else match s.rxAccept it with
      | some s1 => s1.rxDeliver it
      | none => (s.itemStat it 2 1).freeIngress it
  else s.route it

/-- REORDER_RELEASE (R108): the first work item of a sequencer and class is released, once its engine has ended it. -/
def execReorderRelease (n : Fin 4) (q : Fin 16) (cls : Fin 8) (s : State) : Host.Outcome State Fault Refusal :=
  let k := 16 * n.val + q.val
  finish (match s.ro k cls with
    | ⟨_, .dropped⟩ :: r => s.putRo k cls r
    | ⟨_, .done it⟩ :: r => (s.putRo k cls r).release it
    | _ => s)

end Sys2Proof.Machine
end

