-- ==== Sys2Proof/Machine/Sched.lean ====
section
/-!
DEFINITION. Egress scheduling (R410 to R420, R429, R430): shapers, the deficit round-robin and the choice of the next queue; latency
samples (R431 to R436); and the writes of `SCH_QSHAPE`, `SCH_METER` and `SCH_LAT_HCFG`.
-/

namespace Sys2Proof.Machine

/-! ### Shapers (R417 to R420, R429) -/

/-- The queue is the express queue of its port. -/
def State.expressQueue (s : State) (q : Nat) : Bool :=
  s.get QMG_QCFG.CLASS q == 7 && (s.queuePort q).any s.portExpress

/-- The credit of a queue now, in 1/8000 byte; 0 for an unshaped queue. -/
def State.credit (s : State) (q : Nat) : Int :=
  let rate := s.get SCH_QSHAPE.RATE q
  if rate == 0 || s.expressQueue q then 0
  else
    let x := s.q.shapers.get q {}
    min (x.credit + rate * (s.clk.sinceReset - x.last)) (8000 * s.get SCH_QSHAPE.BURST q)

/-- The credit of a queue replaced. -/
def State.putCredit (q : Nat) (c : Int) (s : State) : State :=
  { s with q := { s.q with shapers := s.q.shapers.set q { credit := c, last := s.clk.sinceReset } {} } }

/-- R417: an item of a queue starts. -/
def State.spendCredit (q wire : Nat) (s : State) : State :=
  if s.get SCH_QSHAPE.RATE q == 0 || s.expressQueue q then s else s.putCredit q (s.credit q - 8000 * wire)

/-! ### Eligibility (R410) -/

/-- The classes of a port that received PFC frames hold back (R297, R430). -/
def State.pfcHolds (s : State) (p c : Nat) : Bool :=
  (s.portCtl CPX_PORT_CTRL.PFC_RX LPX_PORT_CTRL.PFC_RX p).testBit c && (s.ports.get p {}).paused.testBit c
    && !(c == 7 && s.portExpress p)


/-- R404: a queue of the port is still being flushed. -/
def State.withholds (s : State) (q : Nat) : Bool := (s.queue q).flush.isSome

/-- R410, apart from the head: a queue may send. -/
def State.mayServe (s : State) (p c q : Nat) : Bool :=
  s.get QMG_QCFG.STATE q == 1 && 0 ≤ s.credit q && !s.pfcHolds p c && !s.withholds q

/-- The item at the head of a queue. -/
def State.headItem (s : State) (q : Nat) : Option Item :=
  match (s.queue q).head with
  | .frame it :: _ => some it
  | _ => none

/-- R415: the wire length of an item on a port. -/
def State.wireLen (s : State) (p : Nat) (it : Item) : Nat := it.data.length + 4 + s.get SCH_PORT_CFG.OVH p

/-- R410: the queue of a class of a port when it is eligible. -/
def State.eligible (s : State) (p c : Nat) : Option Nat :=
  (s.egressQueue p c).filter fun q => s.mayServe p c q && (s.headItem q).isSome

/-- The queue of a class holds an item. -/
def State.classHolds (s : State) (p c : Nat) : Bool := (s.egressQueue p c).any fun q => (s.headItem q).isSome

/-! ### Deficit round-robin (R412, R414, R416) -/

/-- A port's scheduler. -/
def State.sched (s : State) (p : Nat) : Sched := s.q.scheds.get p {}

/-- A port's scheduler replaced. -/
def State.putSched (p : Nat) (x : Sched) (s : State) : State := { s with q := { s.q with scheds := s.q.scheds.set p x {} } }

/-- The quantum of a class in bytes. -/
def State.quantum (s : State) (p c : Nat) : Nat := 64 * max 1 (s.get SCH_PORT_QUANTUM.Q p / 2 ^ (8 * c) % 256)

/-- The item that a class of a port can start now, with its queue. -/
def State.eligibleItem (s : State) (p c : Nat) : Option (Nat × Item) := (s.eligible p c).bind fun q => (s.headItem q).map fun it => (q, it)

/-- The round-robin of a port: the queue to send from and the scheduler after it. -/
def State.roundRobin (s : State) (p top : Nat) (x : Sched) : Option (Nat × Item × Sched) :=
  match drrPick (s.quantum p) (fun c => (s.eligibleItem p c).map fun y => s.wireLen p y.2) (s.classHolds p) top 2400 x with
  | some (c, x1) => (s.eligibleItem p c).map fun y => (y.1, y.2, x1)
  | none => none

/-- R412: the queue and item that a port starts next, and its scheduler after the choice. -/
def State.choose (s : State) (p : Nat) : Option (Nat × Item × Sched) :=
  let x := s.sched p
  let express := if s.portExpress p then
      (s.eligibleItem p 7).map fun y => (y.1, y.2, x)
    else none
  match express with
  | some r => some r
  | none =>
    let top := if s.portExpress p then 6 else 7
    if (List.range (top + 1)).any fun c => (s.eligible p c).isSome then s.roundRobin p top x else none

/-! ### Latency (R431 to R436) -/

/-- Latency statistics of a queue. -/
def State.latStat (s : State) (q : Nat) : LatStat := s.q.lat.get q {}

/-- Latency statistics of a queue replaced. -/
def State.putLat (q : Nat) (x : LatStat) (s : State) : State := { s with q := { s.q with lat := s.q.lat.set q x {} } }

/-- A value that saturates at 32 bits. -/
def sat32 (n : Nat) : Nat := min n (2 ^ 32 - 1)

/-- Table 12-4: the bin of a delay. -/
def histBin (log : Bool) (w delay : Nat) : Nat :=
  if log then (if delay < w then 0 else min 15 (Nat.log2 (delay / w) + 1)) else min 15 (delay / w)

/-- R434: a delay sample of a queue. -/
def State.delaySample (q delay : Nat) (s : State) : State :=
  let x := s.latStat q
  let d := sat32 delay
  let g := q / 64
  let b := 16 * g + histBin (s.flag SCH_LAT_HCFG.SCALE g) (max 1 (s.get SCH_LAT_HCFG.BIN_NS g)) delay
  let s1 := s.putLat q { x with delayMin := if x.delayN == 0 then d else min x.delayMin d, delayMax := max x.delayMax d
                                delaySum := x.delaySum + delay, delayN := sat32 (x.delayN + 1), armed := none }
  { s1 with q := { s1.q with hist := s1.q.hist.set b (sat32 (s1.q.hist.get b 0 + 1)) 0 } }

/-- R432, R433: the item that a queue starts takes its armed delay sample. -/
def State.delayTake (q : Nat) (it : Item) (s : State) : State :=
  match (s.latStat q).armed with
  | none => s
  | some true => (s.putLat q { s.latStat q with armed := none }).inc SCH_LAT_STATUS.STEP_DISC 0
  | some false => s.delaySample q (s.nowNs - it.enq)

/-- R431, R434: a depth sample of a queue, which also arms a delay sample. -/
def State.depthSample (q : Nat) (s : State) : State :=
  let x := s.latStat q
  let d := sat32 (ceilDiv (s.queue q).bytes 64)
  s.putLat q { x with depthMin := if x.depthN == 0 then d else min x.depthMin d, depthMax := max x.depthMax d
                      depthSum := x.depthSum + d, depthN := sat32 (x.depthN + 1), armed := some false }

/-- R433: a step of the time base spoils the delay samples that are armed. -/
def State.latStep (s : State) : State :=
  { s with q := { s.q with lat := s.q.lat.map fun e => (e.1, { e.2 with armed := e.2.armed.map fun _ => true }) } }

/-- LAT_DEPTH_SAMPLE (R431): the sampling interval has passed. -/
def execLatDepthSample (s : State) : Host.Outcome State Fault Refusal :=
  finish (if s.flag SCH_LAT_CFG.EN then
    s.forN 4096 fun q s => if s.flag SCH_QSHAPE.LAT_EN q then s.depthSample q else s
  else s)

/-- R436: the statistics of a queue copied. -/
def State.latQueueSnap (q : Nat) (clear : Bool) (s : State) : State :=
  if s.flag SCH_LAT_STATUS.BUSY 0 then s
  else
    let x := s.latStat q
    let mean := fun (sum n : Nat) => if n == 0 then 0 else sat32 (sum / n)
    let s1 := s.forL [(SCH_LAT_SNAP.DEPTH_MIN, x.depthMin), (SCH_LAT_SNAP.DEPTH_MAX, x.depthMax),
      (SCH_LAT_SNAP.DEPTH_MEAN, mean x.depthSum x.depthN), (SCH_LAT_SNAP.DEPTH_N, x.depthN), (SCH_LAT_SNAP.DELAY_MIN, x.delayMin),
      (SCH_LAT_SNAP.DELAY_MAX, x.delayMax), (SCH_LAT_SNAP.DELAY_MEAN, mean x.delaySum x.delayN), (SCH_LAT_SNAP.DELAY_N, x.delayN)]
      fun f s => s.set f.1 0 f.2
    let s2 := ((s1.set SCH_LAT_STATUS.BUSY 0 1).set SCH_LAT_STATUS.KIND 0 0).set SCH_LAT_STATUS.INDEX 0 q
    s2.when clear fun s => s.putLat q { armed := x.armed }

/-- LAT_QUEUE_SNAPSHOT (R436). -/
def execLatQueueSnapshot (q : Fin 4096) (clear : Bool) (s : State) : Host.Outcome State Fault Refusal := finish (s.latQueueSnap q clear)

/-- A histogram set to zero. -/
def State.histClear (g : Nat) (s : State) : State :=
  s.forN 16 fun i s => { s with q := { s.q with hist := s.q.hist.erase (16 * g + i) } }

/-- R436: the histogram of a group copied. -/
def State.latHistSnap (g : Nat) (clear : Bool) (s : State) : State :=
  if s.flag SCH_LAT_STATUS.BUSY 0 then s
  else
    let bin := fun i => s.q.hist.get (16 * g + i) 0
    let s1 := s.forN 8 fun w s => s.setWord .SCH_LAT_HIST 0 w (mkWord [(0, bin (2 * w)), (32, bin (2 * w + 1))])
    let s2 := ((s1.set SCH_LAT_STATUS.BUSY 0 1).set SCH_LAT_STATUS.KIND 0 1).set SCH_LAT_STATUS.INDEX 0 g
    s2.when clear fun s => s.histClear g

/-- LAT_HIST_SNAPSHOT (R436). -/
def execLatHistSnapshot (g : Fin 64) (clear : Bool) (s : State) : Host.Outcome State Fault Refusal := finish (s.latHistSnap g clear)

/-- LAT_SNAPSHOT_END (R436): the copy completes. -/
def execLatSnapshotEnd (s : State) : Host.Outcome State Fault Refusal := finish (s.set SCH_LAT_STATUS.BUSY 0 0)

/-- R435: a write of `SCH_LAT_HCFG` sets the histogram to zero. -/
def State.latHcfg (g binNs : Nat) (scale : Bool) (s : State) : State :=
  ((s.set SCH_LAT_HCFG.BIN_NS g binNs).set SCH_LAT_HCFG.SCALE g (natOfBool scale)).histClear g

/-- LAT_HCFG_WRITE (R435). -/
def execLatHcfgWrite (g : Fin 64) (binNs : BitVec 16) (scale : Bool) (s : State) : Host.Outcome State Fault Refusal :=
  finish (s.latHcfg g binNs.toNat scale)

/-! ### Writes of the shapers and meters -/

/-- R419, R435: a write of `SCH_QSHAPE`. -/
def State.qshape (q rate burst : Nat) (latEn : Bool) (s : State) : State :=
  let c := s.credit q
  let fresh := latEn && !s.flag SCH_QSHAPE.LAT_EN q
  let s1 := ((s.set SCH_QSHAPE.RATE q rate).set SCH_QSHAPE.BURST q burst).set SCH_QSHAPE.LAT_EN q (natOfBool latEn)
  let s2 := s1.putCredit q (min c (8000 * burst))
  s2.when fresh fun s => s.putLat q {}

/-- QSHAPE_WRITE (R419, R435). -/
def execQshapeWrite (q : Fin 4096) (rate : BitVec 21) (burst : BitVec 24) (latEn : Bool) (s : State) :
    Host.Outcome State Fault Refusal := finish (s.qshape q rate.toNat burst.toNat latEn)

/-- R426, Table 12-2: a write of a word of `SCH_METER`: an action of 0b11 leaves its field unchanged, and the buckets are full. -/
def State.meterWrite (m w : Nat) (data : Word) (s : State) : State :=
  let keep := fun (lo : Nat) (d : Word) => if d.bits lo 2 == 3 then d.setBits lo 2 ((s.word .SCH_METER m 0).bits lo 2) else d
  let v := if w == 0 then (keep 8 (keep 6 (keep 4 ((data.setBits 10 1 0).setBits 53 11 0)))) else data.setBits 48 16 0
  let s1 := s.setWord .SCH_METER m w v
  let full : Meter := { tc := 256 * s1.get SCH_METER.CBS m, tp := 256 * s1.get SCH_METER.EBS_PBS m, last := s.clk.sinceReset }
  { s1 with q := { s1.q with meters := s1.q.meters.set m full {} } }

/-- METER_WRITE (R426). -/
def execMeterWrite (m : Fin 512) (w : Fin 2) (data : BitVec 64) (s : State) : Host.Outcome State Fault Refusal :=
  finish (s.meterWrite m w data)

end Sys2Proof.Machine
end

