-- ==== Sys2Proof/Machine/Egress.lean ====
section
/-!
DEFINITION. A port starts a frame (R412, R413): the head item of the chosen queue leaves, with its transmit time stamps (R559 to R563),
or a frame still in its engine begins to leave by cut-through (R154, R156 to R158).
-/

namespace Sys2Proof.Machine

/-! ### Transmit time stamps (R560 to R563) -/

/-- TX_FIXED of a port in ns, TX_OFS added. -/
def State.txDelay (s : State) (p : Nat) : Int :=
  (Config.txFixed (s.portMode p)).toNat / 16 + signed 16 (s.get TMB_PORT.TX_OFS p)

/-- A time in ns as a descriptor holds it: [63:32] seconds, [31:0] nanoseconds. -/
def timeWord (ns : Nat) : Word := BitVec.ofNat 64 (ns / 1000000000 % 2 ^ 32 * 2 ^ 32 + ns % 1000000000)

/-- Octets of a frame replaced from a position. -/
def putOctets (l : List Byte) (i : Nat) (v : List Byte) : List Byte := l.take i ++ v ++ l.drop (i + v.length)

/-- Table 17-1: the field of a one-step frame written for T, in 1/16 ns. -/
def TsOp.write (o : TsOp) (t16 : Nat) (data : List Byte) : List Byte :=
  if o.op == 2 then putOctets data o.off (beBytes 6 (t16 / 16000000000 % 2 ^ 48) ++ beBytes 4 (t16 / 16 % 1000000000))
  else
    let ingress : Nat := (o.time / 2 ^ 32 % 2 ^ 32 * 1000000000 + o.time % 2 ^ 32) * 65536
    let add : Int := (t16 * 4096 : Nat) - (ingress : Int)
    putOctets data o.off (beBytes 8 (((beAt data o.off 8 : Int) + add) % 2 ^ 64).toNat)

/-- R561, step 3: T of a one-step frame, in 1/16 ns. -/
def State.slotTime (s : State) (p : Nat) : Nat :=
  (((s.nowNs + s.get TMB_PORT.LEAD_NS p : Nat) : Int) * 16 + (Config.txFixed (s.portMode p)).toNat
    + 16 * signed 16 (s.get TMB_PORT.TX_OFS p)).toNat

/-- R561: a one-step frame: the field is written, and a frame with PROTECT is protected under its TX SC; none when no SA binds. -/
def State.oneStep (p : Nat) (it : Item) (s : State) : Option (Item × State) :=
  let x := { it with data := it.ts.write (s.slotTime p) it.data }
  match it.scFields with
  | none => some (x, s)
  | some _ => match s.bindTx it.sc with
    | (.sa sa, s1) =>
      let (y, s2) := s1.takePn sa x
      some (s2.sealItem y, s2.saUnref sa)
    | _ => none

/-- R563: a one-step frame that was not ready at its slot. -/
def State.stampLate (s : State) : State := (s.inc TMB_CNT.LATE 0).raise 147 3

/-! ### The frame leaves -/

/-- The line port whose tributary takes a frame (R262, R315): a volley copy stays on its own port. -/
def State.mapPort (s : State) (p : Nat) (it : Item) : Nat :=
  if it.stream.any fun st => s.flag LET_STREAM_CFG.VOLLEY st then p else s.servePort p

/-- A frame leaves on a port (R121, R159, R160, R167, R171), or enters the mapper of its tributary on a Kraow port (R217). -/
def State.leave (p : Nat) (it : Item) (s : State) : State :=
  if s.isKraow p then
    match it.scFields with
    | some c => s.toMapper (32 * (s.mapPort p it - 32) + c.trib) it
    | none => s
  else
    let s1 := s.sendFrame p it.data it.stomp
    if it.stomp then
      if it.isRx then s1.itemStat it 7 1 else (s1.itemStat it 5 1).burn it
    else if it.isRx then s1 else s1.countSent it

/-- The chosen item leaves its queue (R392, R417, R432). -/
def State.startItem (p q : Nat) (it : Item) (s : State) : State :=
  let x := s.queue q
  ((s.putQueue q ({ x with head := x.head.drop 1 }).settle).spendCredit q (s.wireLen p it)).delayTake q it

/-- R398, R399: a port starts the head item of a queue, or finds it uncorrectable. -/
def State.startHead (p q : Nat) (it : Item) (err : HeadErr) (late : Bool) (s : State) : State :=
  let s0 := s.startItem p q it
  match err with
  | .descriptor => (s0.queueBad q).dropFrame it
  | .data b r => (s0.frameBad q b r).dropFrame it
  | _ =>
    let s1 := s0.headFixed q err
    match it.ts.op with
    | 0 => s1.leave p it
    | 1 => (s1.leave p it).itemComplete it 0 (some (timeWord ((s1.nowNs : Int) + s1.txDelay p).toNat))
    | _ => match s1.oneStep p it with
      | some (x, s2) => ((s2.leave p x).when late fun s => s.stampLate).itemComplete it 0 none
      | none => s1.itemComplete it 1 none

/-! ### Cut-through (R154, R156 to R158) -/

/-- R156: every port complex has at most two ports. -/
def State.smallConfig (s : State) : Bool := (List.range 8).all fun c => 4 ≤ modeLanes (s.portMode (8 * c))

/-- R298: pre-emption is active on a port. -/
def State.preempts (s : State) (p : Nat) : Bool := 32 ≤ p && s.get LPX_PORT_STATUS.PE (p - 32) == 2

/-- An item leaves a port on its express MAC: class 7 of a port with EXPRESS = 1. -/
def State.expressOut (s : State) (p cls : Nat) : Bool := cls == 7 && s.portExpress p

/-- A frame is leaving on the MAC of a port that an item of a class would use: the express or the pre-emptable MAC where pre-emption is
active (R298, R413), else the port's only MAC. -/
def State.portBusy (s : State) (p cls : Nat) : Bool :=
  s.path.reorder.any fun e => e.2.any fun r => match r.st with
    | .leaving x it => x == p && it.dest != .drop && (!s.preempts p || s.expressOut p it.cls == s.expressOut p cls)
    | _ => false

/-- An item may leave on a port by cut-through while its engine works on it. -/
def State.mayCut (s : State) (p n : Nat) (w : WorkItem) : Bool :=
  let it := w.it
  let first := match s.ro (16 * n + w.q) it.cls with
    | e :: _ => e.num == w.num && e.st == .outstanding
    | [] => false
  let rx := match it.scFields, it.sa with
    | some c, some sa => !c.rx || (s.sa? sa).any fun a => a.early && !(c.replayProtect && it.pn < a.pn)
    | _, _ => false
  w.job.isNone && it.inPort < 64 && it.dest == .egress p it.cls && it.rxStream.isNone && first && rx && s.cutAllowed it.inPort it.cls
    && s.portRate p ≤ s.portRate it.inPort && (s.smallConfig || !it.stored) && !s.portBusy p it.cls

/-- The first item, with its region, that may leave on a port by cut-through. -/
def State.cutItem (s : State) (p : Nat) : Option (Nat × WorkItem) :=
  ((s.fen.engines.map fun e => (e.2.items.map fun w => (e.1 / 48, w))).flatten).find? fun x => s.mayCut p x.1 x.2

/-- A frame begins to leave by cut-through: its queue serves, would admit it as 64 cells (R385), and holds nothing ahead of it. -/
def State.startCut (p : Nat) (s : State) : State :=
  match s.cutItem p with
  | none => s
  | some (n, w) =>
    match s.egressQueue p w.it.cls with
    | none => s
    | some q =>
      let asCells := QEntry.frame { w.it with cells := 64, data := w.it.data.take 16380 }
      if (s.queue q).entries.isEmpty && (s.fabricList q).isEmpty && s.mayServe p w.it.cls q && s.queueRoom q asCells then
        let x := if w.it.isRx then (s.openItem w.it).elim w.it (·.1) else w.it
        (s.roSet (16 * n + w.q) w.it.cls w.num (.leaving p x)).spendCredit q (s.wireLen p x)
      else s

/-- R413: the choice of a port whose express MAC is busy while pre-emption is active is that of its pre-emptable MAC. -/
def State.chooseMac (s : State) (p : Nat) : Option (Nat × Item × Sched) :=
  if s.preempts p && s.portExpress p && s.portBusy p 7 then s.roundRobin p 6 (s.sched p) else s.choose p

/-- EGRESS_SELECT (R410 to R420, R156, R399, R432, R433, R559 to R563): a port can start a frame. `err` is what the scheduler finds at
the head it has chosen, `late` that a one-step frame misses its slot, `cut` that no queue is eligible and a frame in an engine is
ready to leave by cut-through. -/
def execEgressSelect (port : Fin 64) (err : HeadErr) (late cut : Bool) (s : State) : Host.Outcome State Fault Refusal :=
  finish (if !s.macSends (s.servePort port) then s
    else match s.chooseMac port with
      | some (q, it, x) => if s.portBusy port it.cls then s else (s.putSched port x).startHead port q it err late
      | none => if cut && !s.isKraow port then s.startCut port else s)

end Sys2Proof.Machine
end

