-- ==== Sys2Proof/Machine/Time.lean ====
section
/-!
DEFINITION. The time base (R547 to R556), the T-channel time transfer (R567) and the PPS pins (R569, R570).
-/

namespace Sys2Proof.Machine

/-! ### The count (R547, R548, R555) -/

/-- ±1,000 ppm in units of 2^-48 per TCLK cycle (R554). -/
def rateLimit : Int := 281474976711

/-- An integer held between two limits. -/
def clampInt (lo hi v : Int) : Int := max lo (min hi v)

/-- RATE, signed. -/
def State.rate (s : State) : Int := clampInt (-rateLimit) rateLimit (signed 40 (s.get TMB_RATE.RATE))

/-- S of a TCLK cycle (R555), in units of 2^-48 ns. -/
def State.slewTerm (s : State) : Int :=
  let m : Int := max 1 (s.get TMB_SLEW.SLEW_PPB) * 2 ^ 48 / 1000000000
  let want := if s.clk.slew < 0 then max s.clk.slew (-m) else min s.clk.slew m
  clampInt (-rateLimit - s.rate) (rateLimit - s.rate) want

/-- A slew amount in ns, away from zero. -/
def slewNs (v : Int) : Int := if v < 0 then -((-v + 2 ^ 48 - 1) / 2 ^ 48) else (v + 2 ^ 48 - 1) / 2 ^ 48

/-- `TMB_SLEW_LEFT` shown. -/
def State.showSlew (s : State) : State := s.set TMB_SLEW_LEFT.LEFT 0 (slewNs s.clk.slew % 2 ^ 32).toNat

/-- R555: a cycle's part of the slew is consumed; the slew ends when `TMB_SLEW_LEFT` reaches 0. -/
def State.slewStep (sl : Int) (s : State) : State :=
  let s1 := ({ s with clk := { s.clk with slew := s.clk.slew - sl } }).showSlew
  s1.when (s1.clk.slew == 0) fun s => s.set TMB_STATUS.SLEWING 0 0

/-- The time advanced by an amount in units of 2^-48 ns. -/
def State.addTime (d : Int) (s : State) : State :=
  let t := (((s.clk.tbNs * 2 ^ 48 + s.clk.tbFrac : Nat) : Int) + d).toNat
  let ns := t / 2 ^ 48
  { s with clk := { s.clk with tbFrac := t % 2 ^ 48, tbNs := ns % 1000000000, tbSec := (s.clk.tbSec + ns / 1000000000) % 2 ^ 48 } }

/-- R548: a TCLK cycle. -/
def State.tclk (s : State) : State :=
  if s.flag TMB_STATUS.RUNNING then
    let sl := if s.flag TMB_STATUS.SLEWING then s.slewTerm else 0
    let s1 := s.addTime (2 ^ 48 + s.rate + sl)
    if sl == 0 then s1 else s1.slewStep sl
  else s

/-! ### Starting, holdover (R549, R550) -/

/-- R550: the time base starts at 0 s. -/
def State.timeStart (s : State) : State :=
  if s.flag TMB_STATUS.RUNNING then s
  else
    let s1 := (s.set TMB_CTRL.EN 0 1).set TMB_STATUS.RUNNING 0 1
    { s1 with clk := { s1.clk with tbSec := 0, tbNs := 0, tbFrac := 0 } }

/-- R550, R658: a write of 1 to EN: the time base starts once the TMB's power domain is ON. -/
def State.timeEnable (s : State) : State :=
  if s.domOn 369 then s.timeStart else (s.set TMB_CTRL.EN 0 1).domWake [369]

/-- TIME_BASE_START (R550). -/
def execTimeBaseStart (s : State) : Host.Outcome State Fault Refusal := finish s.timeEnable

/-- R549: holdover begins. -/
def State.holdover (s : State) : State :=
  if s.flag TMB_STATUS.HOLDOVER then s else (s.set TMB_STATUS.HOLDOVER 0 1).raise 147 1

/-- TIMEREF_LOSS (R549). -/
def execTimerefLoss (s : State) : Host.Outcome State Fault Refusal := finish s.holdover

/-- TIMEREF_RELOCK (R549). -/
def execTimerefRelock (s : State) : Host.Outcome State Fault Refusal := finish (s.set TMB_STATUS.HOLDOVER 0 0)

/-! ### The step (R551 to R553) -/

/-- R555: a slew ends. -/
def State.slewEnd (s : State) : State := ({ s.set TMB_STATUS.SLEWING 0 0 with clk := { s.clk with slew := 0 } }).showSlew

/-- R551, R553, R433, R269: the time is set to `TMB_STEP`; a second of performance data that holds a step is marked. -/
def State.applyStep (s : State) : State :=
  let s1 := (((s.set TMB_STATUS.STEP_USED 0 1).set TMB_STATUS.STEP_WAIT 0 0).set TMB_STATUS.STEPPED 0 1).slewEnd.latStep
  { s1 with clk := { s1.clk with tbSec := s.get TMB_STEP.SEC, tbNs := s.get TMB_STEP.NS, tbFrac := 0 }
            krw := { s1.krw with stepped := true } }

/-- R552: a step command is refused. -/
def State.stepRefused (s : State) (m : Master) : Bool :=
  !s.flag TMB_STATUS.RUNNING || s.flag TMB_STATUS.STEP_USED || s.flag TMB_STATUS.STEP_WAIT || 999999999 < s.get TMB_STEP.NS
    || (s.flag TMB_STATUS.OWNED && m == .host)

/-- R552: what a refusal does. -/
def State.stepReject (s : State) : State := ((s.set TMB_STATUS.STEP_REJ 0 1).inc TMB_CNT.STEP_REFUSED 0).raise 147 2

/-- R551: OP of `TMB_STEP_CMD`. -/
def State.stepCmd (m : Master) (op : Nat) (s : State) : State :=
  match op with
  | 1 => if s.stepRefused m then s.stepReject else s.applyStep
  | 2 => if s.stepRefused m then s.stepReject else s.set TMB_STATUS.STEP_WAIT 0 1
  | 3 => s.set TMB_STATUS.STEP_WAIT 0 0
  | _ => s

/-- STEP_NOW (R551). -/
def execStepNow (m : Master) (s : State) : Host.Outcome State Fault Refusal := finish (s.byWrite m .TMB_STEP_CMD 0 fun s => s.stepCmd m 1)

/-- STEP_AT_PPS (R551). -/
def execStepAtPps (m : Master) (s : State) : Host.Outcome State Fault Refusal := finish (s.byWrite m .TMB_STEP_CMD 0 fun s => s.stepCmd m 2)

/-- STEP_CANCEL (R551). -/
def execStepCancel (m : Master) (s : State) : Host.Outcome State Fault Refusal := finish (s.byWrite m .TMB_STEP_CMD 0 fun s => s.stepCmd m 3)

/-! ### Rate and slew (R554, R555, R568) -/

/-- R568: a write of the rate or of the slew from PF0 is discarded while the MCU owns the time base. -/
def State.timeWritable (s : State) (m : Master) : Bool := !(s.flag TMB_STATUS.OWNED && m == .host)

/-- R554: a write of `TMB_RATE`. -/
def State.rateWrite (m : Master) (v : Nat) (s : State) : State :=
  if s.timeWritable m then s.set TMB_RATE.RATE 0 (clampInt (-rateLimit) rateLimit (signed 40 v) % 2 ^ 40).toNat else s

/-- TMB_RATE_WRITE (R554, R568). -/
def execTmbRateWrite (m : Master) (rate : BitVec 40) (s : State) : Host.Outcome State Fault Refusal := finish (s.byWrite m .TMB_RATE 0 fun s => s.rateWrite m rate.toNat)

/-- R555: a write of `TMB_SLEW`. -/
def State.slewWrite (m : Master) (offset ppb : Nat) (s : State) : State :=
  if !s.timeWritable m then s
  else
    let s1 := (s.set TMB_SLEW.OFFSET 0 offset).set TMB_SLEW.SLEW_PPB 0 (min ppb 1000000)
    if offset % 2 ^ 32 == 0 then s1.slewEnd
    else
      let s2 := s1.set TMB_STATUS.SLEWING 0 1
      ({ s2 with clk := { s2.clk with slew := signed 32 (offset % 2 ^ 32) * 2 ^ 48 } }).showSlew

/-- TMB_SLEW_WRITE (R555, R568). -/
def execTmbSlewWrite (m : Master) (offset : BitVec 32) (ppb : BitVec 20) (s : State) : Host.Outcome State Fault Refusal :=
  finish (s.byWrite m .TMB_SLEW 0 fun s => s.slewWrite m offset.toNat ppb.toNat)

/-- SLEW_END (R555): nothing is left to consume. -/
def execSlewEnd (s : State) : Host.Outcome State Fault Refusal := finish s.slewEnd

/-- R568: OWNED follows the roles of the ports. -/
def State.timeOwned (s : State) : State :=
  s.set TMB_STATUS.OWNED 0 (natOfBool ((List.range 64).any fun p => s.get TMB_PORT.TT_ROLE p == 2))

/-! ### PPS (R569, R570) -/

/-- R569: an edge is accepted now. -/
def State.ppsAccepts (s : State) : Bool :=
  let ns := s.clk.tbNs
  let w := if ns ≤ 1000 then s.clk.tbSec else s.clk.tbSec + 1
  !(s.flag TMB_PPS_CFG.WIN_EN && s.flag TMB_STATUS.STEP_USED)
    || ((ns ≤ 1000 || 999999000 ≤ ns) && s.clk.ppsWindow != some w)

/-- PPS_IN_EDGE (R569, R551): a filtered rising edge of PPS_IN at the present time. -/
def execPpsInEdge (s : State) : Host.Outcome State Fault Refusal :=
  finish (if s.ppsAccepts then
    let w := if s.clk.tbNs ≤ 1000 then s.clk.tbSec else s.clk.tbSec + 1
    let s1 := ((s.set TMB_PPS_IN.FRAC 0 (s.clk.tbFrac / 2 ^ 32)).set TMB_PPS_IN.NS 0 s.clk.tbNs).set TMB_PPS_IN.SEC 0 s.clk.tbSec
    let s2 := (({ s1 with clk := { s1.clk with ppsWindow := some w } }).inc TMB_CNT.PPS_ACCEPTED 0)
    s2.when (s2.flag TMB_STATUS.STEP_WAIT) fun s => s.applyStep
  else s.inc TMB_CNT.PPS_REJECTED 0)

/-- The second to whose boundary the time, less OUT_OFS, has come (R570). -/
def State.ppsSecond (s : State) : Nat :=
  (((s.clk.tbSec * 1000000000 + s.clk.tbNs : Nat) : Int) - signed 32 (s.get TMB_PPS_CFG.OUT_OFS)).toNat / 1000000000

/-- PPS_OUT_RISE (R570): the time reaches a second boundary plus OUT_OFS. -/
def execPpsOutRise (s : State) : Host.Outcome State Fault Refusal :=
  finish (if s.flag TMB_PPS_CFG.OUT_EN && s.flag TMB_STATUS.RUNNING && s.clk.ppsSec != some s.ppsSecond then
    { s with clk := { s.clk with ppsOut := true, ppsSec := some s.ppsSecond } }
  else s)

/-- PPS_OUT low. -/
def State.ppsLow (s : State) : State := { s with clk := { s.clk with ppsOut := false } }

/-- PPS_OUT_FALL (R570): the pulse has lasted OUT_WIDTH µs. -/
def execPpsOutFall (s : State) : Host.Outcome State Fault Refusal := finish s.ppsLow

/-! ### The T-channel (R566, R567) -/

/-- A time of Table 17-2, in 2^-16 ns. -/
def ttTime (l : List Byte) (i : Nat) : Nat := (beAt l i 6 * 1000000000 + beAt l (i + 6) 4) * 65536 + beAt l (i + 10) 2

/-- The octets of a time of Table 17-2. -/
def ttBytes (t : Nat) : List Byte :=
  beBytes 6 (t / 65536 / 1000000000) ++ beBytes 4 (t / 65536 % 1000000000) ++ beBytes 2 (t % 65536)

/-- R566: a message body is discarded. -/
def ttBad (l : List Byte) : Bool := l.length != 44 || octet l 0 != 1 || 4 ≤ octet l 1 || beAt l 2 2 != 0

/-- R568: with a valid result, the MCU steers the time base towards the peer's time on a port with TT_ROLE = FOLLOW: by the one step
while it is unused and |OFFSET| (in 2^-16 ns) exceeds 1 ms, and otherwise by a rate and a slew that the spec does not state. -/
def State.steer (p : Nat) (o : Int) (s : State) : State :=
  if s.get TMB_PORT.TT_ROLE (32 + p) != 2 then s
  else if !s.flag TMB_STATUS.STEP_USED && 65536000000 < o.natAbs then
    let t := (((s.clk.tbSec * 1000000000 + s.clk.tbNs : Nat) : Int) + o / 65536).toNat
    ((s.set TMB_STEP.NS 0 (t % 1000000000)).set TMB_STEP.SEC 0 (t / 1000000000)).stepCmd .mcu 1
  else
    let x := s.draw
    let y := x.2.draw
    (y.2.rateWrite .mcu (x.1.toNat % 2 ^ 40)).slewWrite .mcu (y.1.toNat % 2 ^ 32) (y.1.toNat / 2 ^ 32 % 2 ^ 20)

/-- R566, R567: a time-transfer message received on a Kraow line port. -/
def State.ttRx (p : Nat) (l : List Byte) (s : State) : State :=
  if ttBad l then s.inc KFR_EC_STAT.T_BAD p
  else
    let k := s.krwPort p
    match k.ttTx.find? (·.1 == beAt l 24 8), k.ttRx.find? (·.1 == beAt l 4 8) with
    | some (_, t1), some (_, t4) =>
      let a : Int := (ttTime l 32 : Int) - t1
      let b : Int := (t4 : Int) - ttTime l 12
      let s1 := s.setWord .TMB_TT_RESULT p 0 (BitVec.ofInt 64 ((a - b) / 2))
      let s2 := (s1.setWord .TMB_TT_RESULT p 1 (BitVec.ofInt 64 ((a + b) / 2))).inc TMB_TT_RESULT.SAMPLES p
      let s3 := (s2.set TMB_TT_RESULT.VALID p (octet l 1 % 2)).set TMB_TT_RESULT.FC p (beAt l 24 8)
      s3.when (octet l 1 % 2 == 1) fun s => s.steer p ((a - b) / 2)
    | _, _ => s

/-- TIME_TRANSFER_MSG_RX (R566 to R568). -/
def execTimeTransferMsgRx (port : Fin 32) (body : List Byte) (s : State) : Host.Outcome State Fault Refusal :=
  finish (if s.isKraow (32 + port) then s.ttRx port body else s)

end Sys2Proof.Machine
end

