-- ==== Sys2Proof/Machine/KrwTx.lean ====
section
/-!
DEFINITION. The Kraow transmitter (R202 to R207, R212 to R238): key switch countdown (R181), tributaries with their pointer periods,
crates and block-transparent groups, overhead, embedded channels and protection of a Kraow frame.
-/

namespace Sys2Proof.Machine

/-! ### The key SC (R144, R181) -/

/-- The key SC of a line port in a direction. -/
def State.keyScOf (s : State) (p : Nat) (rx : Bool) : Option (Nat × ScEntry) :=
  (s.tbl.sc.filterMap fun x => match x.2 with
    | some c => if c.kraow && c.trib == 0 && c.rx == rx && (if rx then c.inPort == p else c.egPort == p) then some (x.1, c) else none
    | none => none).head?

/-- The SA that protects the Kraow frames of a port: the ACTIVE SA of its TX key SC, with a key that can be used. -/
def State.krwTxSa (s : State) (p : Nat) : Option Nat :=
  (s.keyScOf p false).bind fun x => (s.saInLife x.1 1).filter fun sa => (s.usableKey? sa).isSome

/-- KEY_SWITCH_COUNTDOWN (R181): what a multiframe boundary does to a key switch. -/
def State.keyBoundary (p : Nat) (s : State) : State :=
  match (s.krwPort p).keyReq, s.keyScOf p false with
  | some a, some (sc, _) =>
    let n := s.get KFR_KEYSW.TX_COUNT p
    if n == 0 then (s.set KFR_KEYSW.TX_NEXT p a).set KFR_KEYSW.TX_COUNT p 15
    else if 1 < n then s.set KFR_KEYSW.TX_COUNT p (n - 1)
    else
      let s1 := (s.onSc sc fun e => { e with curAn := a }).saActivateTx (4 * sc + a)
      let s2 := ((s1.set KFR_KEYSW.TX_CUR p a).set KFR_KEYSW.TX_NEXT p a).set KFR_KEYSW.TX_COUNT p 0
      let s3 := (s2.onKrw p fun k => { k with keyReq := none }).set KFR_KEYSW.TX_PEND p 0
      (s3.set KFR_KEYSW.SWITCHED p 1).raise (32 + p) 5 (32 + p)
  | _, _ => s

/-! ### Block-transparent groups (R224, R225, Table 6-10) -/

/-- The Ethernet local-fault ordered set and the Idle control block, as 66b blocks. -/
def lfBlock : Bool × List Byte := (true, [0x4B#8, 0, 0, 1, 0, 0, 0, 0])

/-- An Idle control block. -/
def idleBlock : Bool × List Byte := (true, [0x1E#8, 0, 0, 0, 0, 0, 0, 0])

/-- The block types of a terminate block, by the number of data octets it carries. -/
def termTypes : List Byte := [0x87#8, 0x99#8, 0xAA#8, 0xB4#8, 0xCC#8, 0xD2#8, 0xE1#8, 0xFF#8]

/-- The data and terminate blocks of the octets of a frame. -/
def dataBlocks : Nat → List Byte → List (Bool × List Byte)
  | 0, _ => []
  | n + 1, l =>
    if l.length < 8 then [(true, termTypes.getD l.length 0 :: (l ++ List.replicate (7 - l.length) 0))]
    else (false, l.take 8) :: dataBlocks n (l.drop 8)

/-- The 66b blocks of a frame (IEEE 802.3 Clause 82) and an Idle after it. -/
def frameBlocks (frame : List Byte) : List (Bool × List Byte) :=
  (true, [0x78#8, 0x55#8, 0x55#8, 0x55#8, 0x55#8, 0x55#8, 0x55#8, 0xD5#8]) :: dataBlocks (frame.length + 1) frame ++ [idleBlock]

/-- R224, R225: a client 66b block for the mapper: bit and octets, the local-fault ordered set in place of a block with an invalid sync
header. -/
def mapBlock (header : BitVec 2) (data : BitVec 64) : Bool × List Byte :=
  if header == 1 then (false, leBytes 8 data.toNat) else if header == 2 then (true, leBytes 8 data.toNat) else lfBlock

/-- The 264 octets of a group of 32 blocks. -/
def groupOctets (bs : List (Bool × List Byte)) : List Byte :=
  let words := (bs.map (·.2)).flatten
  let sync := beBytes 4 (bitsNat (bs.map (·.1)))
  words ++ sync ++ beBytes 4 (crc32c 0xFFFFFFFF (words ++ sync))

/-- The next group of a tributary: client blocks in order, Idle where the client has none, local fault while its port is not ACTIVE. -/
def State.nextGroup (k : Nat) (s : State) : List Byte × State :=
  let x := s.tribSt k
  let items := s.krw.mapper.get k []
  let bs := x.blocks ++ (items.map fun it => frameBlocks (it.data ++ fcsBytes it.data it.stomp)).flatten
  let s1 := { s with krw := { s.krw with mapper := s.krw.mapper.erase k } }
  if s.portUp (s.get KFR_TRIB.CLIENT_PORT k) then
    (groupOctets (bs.take 32 ++ List.replicate (32 - bs.length) idleBlock), s1.onTrib k fun x => { x with blocks := bs.drop 32 })
  else (groupOctets (List.replicate 32 lfBlock), s1.onTrib k fun x => { x with blocks := [] })

/-- Groups added until there are `n` octets; the first argument bounds the number of groups. -/
def State.fillGroups : Nat → Nat → Nat → List Byte → State → List Byte × State
  | 0, _, _, l, s => (l, s)
  | f + 1, k, n, l, s =>
    if n ≤ l.length then (l, s)
    else
      let (g, s1) := s.nextGroup k
      s1.fillGroups f k n (l ++ g)

/-! ### Crates (R229 to R234) -/

/-- The octets of a crate of a frame sent in several (R231). -/
def State.fragOctets (s : State) (k : Nat) : Nat := 64 * max 1 (s.get KFR_CFG.FRAG_LEN (k / 32))

/-- R230: a frame to be sent in crates. -/
def State.crateRun (s : State) (k : Nat) (it : Item) : CrateRun :=
  { typ := if it.stream.isSome then 2 else 1, exp := if s.flag KFR_TRIB.EXP_PACK k && s.isExpress it then 64 else 0
    rest := it.volley ++ it.data, bad := it.stomp }

/-- An idle-fill crate from octet `pos` of a period of `n` octets: it fills the period, or ends at the next word boundary after it. -/
def idleCrate (pos n : Nat) : List Byte :=
  let least := if pos % 8 == 0 then 8 else 12
  let room := n - pos
  let len := if room < least then least else min room 16376 - (min room 16376 - least) % 8
  crate 0 0 (List.replicate (len - 4) 0)

/-- A frame leaves the mapper; one sent by cut-through that has turned out bad counts in STOMPED of the key SC's SA (R160). -/
def State.mapperTake (k : Nat) (it : Item) (s : State) : State :=
  ({ s with krw := { s.krw with mapper := s.krw.mapper.set k ((s.krw.mapper.get k []).erase it) [] } }).when it.stomp fun s =>
    match s.krwTxSa (k / 32) with
    | some sa => s.stat sa 5 1
    | none => s

/-- The crate that follows for the frame under way. -/
def State.nextCrate (k : Nat) (c : CrateRun) (s : State) : List Byte × State :=
  let (l, rest) := c.next (s.fragOctets k)
  (l, s.onTrib k fun x => { x with cur := rest })

/-- An express frame may be placed here: no frame is under way, or at least 64 octets of it have been sent and 64 remain (R233). -/
def mayPack (cur : Option CrateRun) : Bool := cur.all fun c => 64 ≤ c.sent && 64 ≤ c.rest.length

/-- The next crates of a tributary with something to send (R231, R233): an express frame where EXP_PACK is set and it may be placed, the
next crate of the frame under way, or the frame at the head of the mapper, in one crate, or in several when it is sent by
cut-through. A normal frame at the head with an express frame behind it, long enough, is suspended after its first crate. -/
def State.tribCrates (k : Nat) (s : State) : Option (List Byte × State) :=
  let items := s.krw.mapper.get k []
  let cur := (s.tribSt k).cur
  let exp := if s.flag KFR_TRIB.EXP_PACK k && mayPack cur then items.find? s.isExpress else none
  let suspends := fun (it : Item) =>
    exp.isSome && !s.isExpress it && s.fragOctets k + 64 ≤ it.volley.length + it.data.length
  let begin := fun (it : Item) => (s.mapperTake k it).nextCrate k (s.crateRun k it)
  let whole := fun (it : Item) =>
    let c := s.crateRun k it
    let n := if it.early || it.stomp then s.fragOctets k else c.rest.length
    (c.all (c.rest.length + 2) n, s.mapperTake k it)
  match cur, exp, items.head? with
  | some _, some it, _ => some (whole it)
  | some c, none, _ => some (s.nextCrate k c)
  | none, _, none => none
  | none, some x, some it => some (if suspends it then begin it else whole x)
  | none, none, some it => some (if it.early || it.stomp then begin it else whole it)

/-- Crates added until there are `n` octets, idle fill where there is nothing to send. `idle`: no frame is begun, and one under way has
been aborted (R243). -/
def State.fillCrates : Nat → Nat → Nat → Bool → List Byte → State → List Byte × State
  | 0, _, _, _, l, s => (l, s)
  | f + 1, k, n, idle, l, s =>
    if n ≤ l.length then (l, s)
    else match if idle then none else s.tribCrates k with
      | none => s.fillCrates f k n idle (l ++ idleCrate l.length n)
      | some (c, s1) => s1.fillCrates f k n idle (l ++ c)

/-! ### Pointer periods (R215 to R222) -/


/-- The words of a block-transparent period that carry data, by JUST (Table 6-9). -/
def State.dataWords (s : State) (k just : Nat) : Nat :=
  let a := 4 * s.get KFR_TRIB.ALLOT k - s.get KFR_TRIB.FIXED k - 1
  if just == 2 then a + 1 else if just == 1 then a - 1 else a

/-- Table 6-9: data octets laid out in a period. -/
def State.layPeriod (s : State) (k just : Nat) (data : List Byte) : List Byte :=
  let f := s.get KFR_TRIB.FIXED k
  let n := 8 * (4 * s.get KFR_TRIB.ALLOT k - f - 2)
  let zeros := fun m => List.replicate m (0#8)
  let rest := data.drop n
  data.take n ++ zeros (8 * f) ++ (if just == 1 then zeros 8 else rest.take 8)
    ++ (if just == 2 then (rest.drop 8).take 8 else zeros 8)

/-- A pointer period of a tributary begins: its words are settled. A shut-down ends the packet frame under way with an ABORT crate and
the group under way at its end (R243). -/
def State.tribPeriod (p t : Nat) (s0 : State) : State :=
  let k := 32 * p + t
  let on := s0.get KFR_TRIB.STATE k == 1
  let s := s0.when (!on) fun s => s.abortCrates k
  let x := s.tribSt k
  let n := 32 * s.get KFR_TRIB.ALLOT k
  if !x.begun then s
  else if s.get KFR_TRIB.TYPE k == 2 then
    let just := x.nextJust
    let m := 8 * s.dataWords k just
    if s.selected p then
      let (l, s1) := if on then s.fillGroups (m / 264 + 2) k m x.carry else (x.carry ++ List.replicate (m - x.carry.length) 0, s)
      s1.onTrib k fun x => { x with just := just, nextJust := 0, period := s.layPeriod k just (l.take m), carry := l.drop m }
    else s.onTrib k fun x => { x with just := just, nextJust := 0, period := List.replicate n 0, carry := [] }
  else
    let (l, s1) := s.fillCrates (n + 1) k n (!on) x.carry
    s1.onTrib k fun x => { x with period := l.take n, carry := l.drop n }

/-- R243: an enabled tributary begins sending at a multiframe boundary at least 4 Kraow frames after its enable. -/
def State.tribBegin (k : Nat) (s : State) : State :=
  let x := s.tribSt k
  if s.get KFR_TRIB.STATE k == 1 && !x.begun && x.wait == 0 then
    let label := match s.get KFR_TRIB.TYPE k with
      | 1 => 1
      | 2 => match s.portRate (s.get KFR_TRIB.CLIENT_PORT k) with
        | 100 => 0x10
        | 200 => 0x11
        | 400 => 0x12
        | _ => 0x13
      | _ => 0
    let s1 := (s.onTrib k fun x => { x with begun := true, newPtr := true, just := 0, nextJust := 0, period := [], carry := [] }).set
      KFR_TRIB.LABEL_TX k label
    { s1 with service := if 200 + k ∈ s1.service then s1.service else s1.service ++ [200 + k] }
  else s

/-- R243: a tributary that shuts down stops at the first multiframe boundary at which it has nothing left to send: its words carry
zeros. -/
def State.tribStop (k : Nat) (s : State) : State :=
  let x := s.tribSt k
  if 2 ≤ s.get KFR_TRIB.STATE k && x.carry.isEmpty && x.cur.isNone then
    s.onTrib k fun x => { x with begun := false, ended := true, period := [], blocks := [] }
  else s

/-- TRIB_STARTUP_BEGIN (R243): the next Kraow frame of the port begins a multiframe. -/
def execTribStartupBegin (p t : Fin 32) (s : State) : Host.Outcome State Fault Refusal :=
  finish (if s.judged p && (s.krwPort p).frameCount % 256 == 0 then s.tribBegin (32 * p + t) else s)

/-- JUST and OFFSET of the pointer word of a tributary (Table 6-8): OFFSET is 0x3FFF where no group or crate begins in the next period;
`fill`: its mapper buffer stands above the upper threshold (true) or below the lower one. -/
def State.tribPointer (p t : Nat) (fill : Option Bool) (s : State) : Nat × State :=
  let k := 32 * p + t
  let x := s.tribSt k
  if !x.begun then (0x3FFF, s)
  else
    let bt := s.get KFR_TRIB.TYPE k == 2
    let limit := if bt && !(s.get KFR_TRIB.STATE k == 1 && s.selected p) then 0
      else 4 * s.get KFR_TRIB.ALLOT k - (if bt then s.get KFR_TRIB.FIXED k + 2 else 0)
    let off := if x.carry.length / 8 < limit then x.carry.length / 8 else 0x3FFF
    if x.newPtr then (3 * 16384 + off, s.onTrib k fun x => { x with newPtr := false })
    else
      let just := if bt && s.selected p then (match fill with
        | some true => 2
        | some false => 1
        | none => 0) else 0
      let s1 := s.onTrib k fun x => { x with nextJust := just }
      let s2 := if just == 2 then (s1.inc KFR_TRIB_STAT.DEC_TX k).pmInc p 7 1
        else if just == 1 then (s1.inc KFR_TRIB_STAT.INC_TX k).pmInc p 7 1 else s1
      (just * 16384 + off, s2)

/-- The eight pointer words of a Kraow frame (B5 to B20). -/
def State.pointers (p fn : Nat) (fills : List (Fin 32 × Bool)) (s : State) : List Byte × State :=
  (List.range 8).foldl (fun x j =>
    let t := 4 * j + fn % 4
    let (v, s1) := x.2.tribPointer p t ((fills.find? fun f => f.1.val == t).map (·.2))
    (x.1 ++ beBytes 2 v, s1)) ([], s)

/-- The 8,128 payload octets of a Kraow frame (R215). -/
def State.payload (p : Nat) (s : State) : List Byte × State :=
  (List.range 32).foldl (fun x t =>
    let k := 32 * p + t
    let tr := x.2.tribSt k
    let n := 8 * x.2.get KFR_TRIB.ALLOT k
    if tr.begun then
      (putOctets x.1 (8 * x.2.get KFR_TRIB.START k) (tr.period.take n), x.2.onTrib k fun y => { y with period := y.period.drop n })
    else x) (List.replicate 8128 0, s)

/-! ### The Kraow frame (Tables 6-2 to 6-5) -/

/-- The marker block of a frame number (Table 6-3). -/
def markerBlock (fn : Nat) : List Byte := [0x4B#8, 0x3C#8, 0xA5#8, 0x96#8, 0x0A#8, 0xE1#8, BitVec.ofNat 8 fn, 0]

/-- The even parity of each bit position (B4). -/
def bipOf (l : List Byte) : Nat := (l.foldl (fun a b => a ^^^ b) 0).toNat

/-- Octets from 64 bits, most significant first. -/
def ecBytes (l : List Bool) : List Byte := beBytes 8 (msbNat ((l ++ List.replicate 64 false).take 64))

/-- The 64 mask bits of the T and A slots (R238). -/
def ecMask (key : List Byte) (iv : Nat) : List Bool :=
  msbBits 64 ((aesEncrypt key (BitVec.ofNat 128 (iv * 2 ^ 32 + 0xFFFFFFFF))).toNat / 2 ^ 64)

/-- The EC area (R236 to R238): in a keyless frame the T and A slots carry zeros. -/
def State.ecArea (p : Nat) (keyed : Bool) (mask : List Bool) (s : State) : List Byte × State :=
  let rate := s.get KFR_CFG.RATE p
  let (nk, nt, na) := slotBits rate
  let (rk, rt, ra) := chanRate rate
  let k := s.krwPort p
  let (sk, ck) := k.kTx.slot nk rk
  if keyed then
    let (st, ct) := k.tTx.slot nt rt
    let (sa, ca) := k.aTx.slot na ra
    let m := mask.drop sk.length
    let ta := (st ++ sa).zipWith (fun a b => a != b) (m ++ List.replicate 64 false)
    (ecBytes (sk ++ ta), s.onKrw p fun k => { k with kTx := ck, tTx := ct, aTx := ca })
  else (ecBytes sk, s.onKrw p fun k => { k with kTx := ck })

/-- B3 of a Kraow frame (R256), and the state with REI reported. -/
def State.statusByte (p : Nat) (keyless : Bool) (s : State) : Byte × State :=
  let major := s.majorDefect p
  let a := (s.krwPort p).rei
  let rei := if major then 0 else min a 8
  (BitVec.ofNat 8 (natOfBool major * 128 + rei * 8 + natOfBool (s.flag KFR_MON_CFG.AIS_FORCE p) * 4 + natOfBool keyless * 2
      + natOfBool (s.selected p)),
    s.onKrw p fun k => { k with rei := if major then 0 else a - rei })

/-! ### Leases of FRAME_COUNT (R358 to R361) -/

/-- The lease that holds a FRAME_COUNT has been acknowledged, or the device grants its own. -/
def State.krwLeased (s : State) (p fc : Nat) : Bool := !s.isActivePaired || fc / 2 ^ 20 ≤ (s.krwPort p).lease

/-- R359, R361: the midpoint of a lease of FRAME_COUNT is passed. -/
def State.krwMidpoint (p fc : Nat) (s : State) : State :=
  if fc % 2 ^ 20 != 2 ^ 19 then s
  else if s.isActivePaired then s.leaseAsk (65536 + p) (fc / 2 ^ 20 + 1)
  else s.onKrw p fun k => { k with lease := fc / 2 ^ 20 + 1 }

/-! ### Time transfer (R565, R566) -/

/-- The time base with its fraction, in 2^-16 ns. -/
def State.now16 (s : State) : Nat :=
  if s.flag TMB_STATUS.RUNNING then (s.clk.tbSec * 1000000000 + s.clk.tbNs) * 65536 + s.clk.tbFrac / 2 ^ 32 else s.clk.sinceReset * 65536

/-- A FRAME_COUNT is that of a reference Kraow frame of a line port. -/
def State.isReference (s : State) (p fc : Nat) : Bool :=
  s.get TMB_PORT.TT_ROLE (32 + p) != 0 && fc % 2 ^ max 16 (min 24 (s.get TMB_PORT.TT_SHIFT (32 + p))) == 0

/-- TIME_TRANSFER_MSG_TX (R565, R566): a reference Kraow frame has been sent. -/
def State.ttSend (p fc : Nat) (s : State) : State :=
  if !s.isReference p fc then s
  else
    let t := ((s.now16 : Int) + 65536 * signed 16 (s.get TMB_PORT.TX_OFS (32 + p))).toNat
    let (rxFc, rxT) := (s.krwPort p).ttRx.headD (0, 0)
    let flags := natOfBool (s.flag TMB_STATUS.STEP_USED && !s.flag TMB_STATUS.HOLDOVER) + 2 * natOfBool (s.get TMB_PORT.TT_ROLE (32 + p) == 2)
    let body := [1#8, BitVec.ofNat 8 flags, 0, 0] ++ beBytes 8 fc ++ ttBytes t ++ beBytes 8 rxFc ++ ttBytes rxT
    (s.onKrw p fun k => { k with ttTx := ((fc, t) :: k.ttTx).take 4 }).sendT p body

/-! ### Sending -/

/-- R203, R204: a Kraow frame as its 66b blocks: block 0 carries sync header 0b10, the others 0b01. -/
def krwBlocks (frame : List Byte) : List (BitVec 2 × List Byte) :=
  (List.range (frame.length / 8)).map fun i => (if i == 0 then 2 else 1, (frame.drop (8 * i)).take 8)

/-- The sequencer of a line port in its region. -/
def lineSeq (p : Nat) : Nat := 8 + p % 8

/-- R147, R697: the engine that takes the next Kraow frame of a line port: the one that the pointer of its sequencer names. -/
def State.krwEngine (s : State) (p : Nat) : Option Nat := s.readyEngine (p / 8) (lineSeq p) false

/-- R147: a Kraow frame of a line port as a work item under an SA: FRAME_COUNT stands in place of the PN, and its payload is the secure
data. -/
def State.krwWork (s : State) (p sa fc : Nat) (payload : List Byte) : WorkItem :=
  { it := { inPort := 32 + p, data := payload, sc := scOfSa sa, scFields := s.sc? (scOfSa sa), sa := some sa, pn := fc }, q := lineSeq p }

/-- R105, R110, R113, R115, R147: engine e of the region takes a Kraow frame: it uses and discards the port's slots, the pointer moves on
and the requests for the next FRAME_COUNTs follow. The frame's reference on its SA (R72) begins and ends with its work item. -/
def State.krwDispatch (n e : Nat) (w : WorkItem) (s : State) : State :=
  let g := 48 * n + e
  let hit := fun (y : KsaSlot) =>
    y.port == w.q && w.it.sa == some y.sa && y.pn == w.it.pn && y.gen == (s.slot y.sa).gen && !y.serving
  let ptr := ((s.seq (16 * n + w.q)).ptr + 1) % max 1 (s.rotation n).length
  let s1 := s.when ((s.eng g).slots.any hit) fun s =>
    ((s.onEng g fun y => { y with slots := y.slots.filter fun x => !hit x }).inc FEN_KSA_CNT.HIT n).pmcEvent n 5 0 1
  let s2 := (s1.dropSlots n g fun y => y.port == w.q && !y.serving).onSeq (16 * n + w.q) fun y =>
    { y with ptr := ptr, reqs := y.reqs.filter fun r => r.1 != e }
  (s2.pmcEvent n 4 0 1).when (s2.ksaOn n) fun s => s.ksaRequests n w.q ptr w

/-- What the engine of a Kraow frame does with it. -/
inductive KrwRun where
  /-- it runs the mode program of the SA's slot on it -/
  | runs
  /-- a program fault (R103, R92) -/
  | faults
  /-- the use of the key waits for its checkpoint (R517) -/
  | waits
  deriving DecidableEq, Repr

/-- R147: a Kraow frame on its engine: one use of its key (R513), under the mode program that its SA names (R103). -/
def State.krwRun (n e : Nat) (w : WorkItem) (s : State) : KrwRun × State :=
  let g := 48 * n + e
  if !s.progServes g w then (.faults, (s.krwDispatch n e w).recordFault g (s.itemSlot w) 5)
  else match s.keyUse (w.it.sa.getD 0) with
    | (.waits, s1) => (.waits, s1)
    | (.refused, s1) => (.faults, (s1.krwDispatch n e w).recordFault g (s.itemSlot w) 6)
    | (.ok, s1) => (.runs, s1.krwDispatch n e w)

/-- What a multiframe boundary does at the transmitter, and what begins a pointer period. -/
def State.txBoundary (p fn : Nat) (s : State) : State :=
  let s1 := if fn == 0 then
      (s.keyBoundary p).forN 32 fun t s => (s.tribStop (32 * p + t)).tribBegin (32 * p + t)
    else s
  if fn % 4 == 0 then s1.forN 32 fun t s => s.tribPeriod p t else s1

/-- R147, R148: body and tag of a Kraow frame on its engine, none while it waits for one. A program fault, which ends a work item with
FAIL, leaves a body and a tag of zeros in the frame, for Kraow frames follow without gap (DESIGN CHOICE, log 63). -/
def State.krwSeal (p a fc : Nat) (iv : Nat) (oh pay : List Byte) (s : State) : Option ((List Byte × List Byte) × State) :=
  match s.krwEngine p with
  | none => none
  | some e => match s.krwRun (p / 8) e (s.krwWork p a fc pay) with
    | (.waits, _) => none
    | (.faults, s1) => some ((List.replicate 8128 0, List.replicate 16 0), s1)
    | (.runs, s1) =>
      let (ct, tag) := gcmEncrypt (s.saKeySalt a).1 iv oh pay
      some ((ct, blockBytes tag), ((s1.stat a 1 1).stat a 3 8128))

/-- The Kraow frame with FRAME_COUNT `fc` is built and sent; one under an SA waits for its engine (R697). -/
def State.krwSend (p fc : Nat) (fills : List (Fin 32 × Bool)) (s0 : State) : State :=
  let fn := fc % 256
  let s := s0.txBoundary p fn
  let clear := s.flag KFR_CFG.TEST_CLEAR p
  let sa := if clear then none else s.krwTxSa p
  let keyless := sa.isNone && !clear
  let cur := sa.elim 0 (· % 4)
  let count := s.get KFR_KEYSW.TX_COUNT p
  let next := if count == 0 then cur else s.get KFR_KEYSW.TX_NEXT p
  let s1 := (s.set KFR_KEYSW.TX_CUR p cur).set KFR_KEYSW.TX_NEXT p next
  let (key, salt) := sa.elim ([], 0) s.saKeySalt
  let iv := ivOf 3 0 0 fc salt
  let (b3, s2) := s1.statusByte p keyless
  let (ptr, s3) := s2.pointers p fn fills
  let (ec, s4) := s3.ecArea p (!keyless) (if sa.isSome then ecMask key iv else [])
  let (pay, s5) := s4.payload p
  let tti := BitVec.ofNat 8 (s.get KFR_TTI_TX.TTI (8 * p + fn % 64 / 8) / 2 ^ (8 * (fn % 8)))
  let oh := [tti, BitVec.ofNat 8 (s.get KFR_TRIB.LABEL_TX (32 * p + fn % 32)), BitVec.ofNat 8 (cur * 64 + next * 16 + count), b3,
      BitVec.ofNat 8 (s.krwPort p).txBip] ++ ptr ++ ec ++ beBytes 8 fc ++ [0, 0, 0]
  match (match sa with
    | some a => s5.krwSeal p a fc iv oh pay
    | none => some ((if keyless then List.replicate 8128 0 else pay, List.replicate 16 0), s5)) with
  | none => s0
  | some ((body, tag), s6) =>
    let frame := markerBlock fn ++ oh ++ body ++ tag
    let s7 := s6.onKrw p fun k => { k with frameCount := fc + 1, waited := false, txBip := bipOf frame, sent := k.sent ++ [krwBlocks frame] }
    let s8 := s7.forN 32 fun t s => s.onTrib (32 * p + t) fun x => { x with wait := x.wait - 1 }
    (s8.krwMidpoint p fc).ttSend p fc

/-- R224, R225, R262: client 66b blocks reach the mappers of block-transparent tributaries, on the port that carries them. -/
def State.takeBlocks (p : Nat) (blocks : List (Fin 32 × BitVec 2 × BitVec 64)) (s : State) : State :=
  s.forL blocks fun b s =>
    let k := 32 * p + b.1
    if s.get KFR_TRIB.STATE k == 1 && s.get KFR_TRIB.TYPE k == 2 && s.selected p then
      s.onTrib k fun x => { x with blocks := x.blocks ++ [mapBlock b.2.1 b.2.2] }
    else s

/-- R359: a Kraow frame that waits for a lease counts in WAITS, once. -/
def State.krwLeaseWait (p : Nat) (s : State) : State :=
  if (s.krwPort p).waited then s else (s.inc MTL_LEASE_CNT.WAITS 0).onKrw p fun k => { k with waited := true }

/-- KRAOW_FRAME_TX (R203): the next Kraow frame of a line port, with what has reached its block-transparent tributaries since the last
one. -/
def execKraowFrameTx (p : Fin 32) (i : MapperIn) (s : State) : Host.Outcome State Fault Refusal :=
  let fc := (s.krwPort p).frameCount
  let s1 := s.takeBlocks p i.blocks
  finish (if !s.judged p || s.isLibero then s
    else if s.krwLeased p fc then s1.krwSend p fc i.fills else s1.krwLeaseWait p)

end Sys2Proof.Machine
end

