-- ==== Sys2Proof/Machine/KrwRx.lean ====
section
/-!
DEFINITION. The Kraow receiver (R208 to R241): frame alignment, verification (R150, R186, R214), the checks made on accepted Kraow
frames (R187, R188, R245 to R248, R253, R257), the embedded channels (R240), and the tributary demappers (R222 to R235, R250, R255,
R263).
-/

namespace Sys2Proof.Machine

/-! ### Frame alignment (R208 to R210) -/

/-- R208: a 66b block is a marker candidate. -/
def isMarker (b : List Byte) : Bool :=
  b.take 4 == [0x4B#8, 0x3C#8, 0xA5#8, 0x96#8] && octet b 5 == 0xE1 && octet b 4 % 16 == 0xA

/-- Block `i` of received octets. -/
def blockAt (l : List Byte) (i : Nat) : List Byte := (l.drop (8 * i)).take 8

/-- R209: blocks `i` and `i + 1,024` begin a Kraow frame. -/
def confirms (l : List Byte) (i : Nat) : Bool :=
  isMarker (blockAt l i) && isMarker (blockAt l (i + 1024)) && octet (blockAt l (i + 1024)) 6 == (octet (blockAt l i) 6 + 1) % 256

/-- The candidates among the first `n` blocks. -/
def candidates (l : List Byte) (n : Nat) : Nat := (List.range n).countP fun i => isMarker (blockAt l i)

/-- R209: the search while out of frame. -/
def State.krwSearch (p : Nat) (s : State) : State :=
  let l := (s.krwPort p).rxBuf
  let m := l.length / 8 - 1024
  match (List.range m).find? (confirms l) with
  | some i =>
    let s1 := (s.inc KFR_ALIGN.FALSE_CAND p (candidates l i)).set KFR_ALIGN.FSTATE p 1
    (s1.set KFR_ALIGN.FN p (octet (blockAt l (i + 1024)) 6)).onKrw p fun k => { k with
      rxBuf := l.drop (8 * (i + 1024)), badRun := 0, sinceFn0 := none, rxBip := none }
  | none => (s.inc KFR_ALIGN.FALSE_CAND p (candidates l m)).onKrw p fun k => { k with rxBuf := l.drop (8 * m) }

/-! ### What a Kraow frame turns out to be -/

/-- How a received Kraow frame is treated. -/
inductive KrwVerdict where
  /-- accepted: under its SA, or unverified under TEST_CLEAR (R241); the payload and the mask of its EC area -/
  | accepted (sa : Option Nat) (payload : List Byte) (mask : List Bool)
  /-- failing (R150, R186): late or not, and the SA in which it is counted -/
  | failing (late : Bool) (sa : Option Nat)
  /-- keyless and not verified (R214) -/
  | keyless
  deriving DecidableEq, Repr

/-- The SA of an RX SC that takes the count of a Kraow frame whose own SA does not (R186). -/
def State.rxFailSa (s : State) (sc : Nat) : Option Nat := (s.saInLife sc 1).orElse fun _ => s.saInLife sc 2

/-- The live SA that CUR of a received Kraow frame names (R71, R186). -/
def State.krwNamed (s : State) (p : Nat) (frame : List Byte) : Option Nat :=
  ((s.keyScOf p true).map fun x => 4 * x.1 + octet frame 10 / 64).filter fun sa => (s.sa? sa).any (·.live)

/-- R138: the RX key SC verifies its frames: its VALIDATE is not disabled. -/
def State.krwVerifies (s : State) (p : Nat) : Bool := (s.keyScOf p true).all fun x => x.2.validate != 0

/-- R147: the SA under which an engine is to verify a received Kraow frame: the frame is keyed, and the SA's key can be used. -/
def State.krwRxSa (s : State) (p : Nat) (frame : List Byte) : Option Nat :=
  if s.flag KFR_CFG.TEST_CLEAR p || octet frame 11 / 2 % 2 == 1 || !s.krwVerifies p then none
  else (s.krwNamed p frame).filter fun sa => (s.usableKey? sa).isSome

/-- R138, R150, R186, R214, R241: a received Kraow frame. -/
def State.krwJudge (s : State) (p : Nat) (frame : List Byte) : KrwVerdict :=
  let oh := (frame.drop 8).take 40
  let body := (frame.drop 48).take 8128
  let fc := beAt oh 29 8
  let sc := (s.keyScOf p true).map (·.1)
  let live := s.krwNamed p frame
  let other := live.orElse fun _ => sc.bind s.rxFailSa
  if s.flag KFR_CFG.TEST_CLEAR p then .accepted none body []
  else if octet oh 3 / 2 % 2 == 1 then
    if (sc.bind s.rxFailSa).isSome then .failing false other else .keyless
  else if !s.krwVerifies p then .failing false other
  else match live with
    | none => .failing false other
    | some sa => match s.usableKey? sa with
      | none => .failing false (some sa)
      | some key =>
        let iv := ivOf 3 0 0 fc key.salt
        let (pt, ok) := gcmDecrypt key.key iv oh body (blockOf (frame.drop 8176))
        if !ok then .failing false (some sa)
        else if fc < (s.sa? sa).elim 0 (·.pn) then .failing true (some sa)
        else .accepted (some sa) pt (ecMask key.key iv)

/-- R147: a received Kraow frame judged by the engine that takes it, none while it waits for one (R697). One whose engine ends it with a
program fault is failing, and no SA counts it (DESIGN CHOICE, log 63). -/
def State.krwVerify (p : Nat) (frame : List Byte) (s : State) : Option (KrwVerdict × State) :=
  match s.krwRxSa p frame with
  | none => some (s.krwJudge p frame, s)
  | some sa =>
    match s.krwEngine p with
    | none => none
    | some e => match s.krwRun (p / 8) e (s.krwWork p sa (beAt frame 37 8) ((frame.drop 48).take 8128)) with
      | (.waits, _) => none
      | (.faults, s1) => some (.failing false none, s1)
      | (.runs, s1) => some (s.krwJudge p frame, s1)

/-! ### Checks on accepted Kraow frames -/

/-- The causes of Table 5-3 present in a multiframe with B2 fields `cur`, `next` and `count`, as a mask. -/
def State.kcmCauses (s : State) (p : Nat) (c : KcmState) (cur next count : Nat) : Nat :=
  let ann := next != cur
  let nextLife := ((s.keyScOf p true).bind fun x => s.sa? (4 * x.1 + next)).elim 4 (·.life)
  let (c0, n0, k0) := c.prev.getD (cur, cur, 0)
  let running := ann && n0 != c0
  let noNext := ann && 1 < nextLife
  let badCount := (ann && (count == 0 || 15 < count + (if running then c.since else 0))) || (running && count + 1 != k0)
    || (!ann && count != 0)
  let changed := running && next != n0
  let unannounced := c.prev.isSome && cur != c0 && !(n0 == cur && k0 == 1)
  natOfBool noNext + 2 * natOfBool badCount + 4 * natOfBool changed + 8 * natOfBool unannounced

/-- R187, R188: the first B2 accepted in a multiframe. -/
def State.kcmCheck (p : Nat) (b2 : Nat) (s : State) : State :=
  let c := (s.krwPort p).kcm
  if c.got || s.get KFR_ALIGN.FSTATE p != 2 then s
  else
    let cur := b2 / 64
    let next := b2 / 16 % 4
    let count := b2 % 16
    let mask := s.kcmCauses p c cur next count
    let clean := if mask == 0 then c.clean + 1 else 0
    let was := s.flag KFR_KEYSW.KCM p
    let now := if mask &&& c.cause != 0 then true else if 2 ≤ clean then false else was
    let top := ((List.range 4).find? (mask.testBit ·)).elim 0 (· + 1)
    let running := next != cur && c.prev.any fun x => x.2.1 != x.1
    let s1 := ((s.set KFR_KEYSW.RX_CUR p cur).set KFR_KEYSW.RX_NEXT p next).set KFR_KEYSW.RX_COUNT p count
    let s2 := (s1.when (mask != 0) fun s => s.set KFR_KEYSW.KCM_CAUSE p top).set KFR_KEYSW.KCM p (natOfBool now)
    (s2.defectRaw p 9 now).onKrw p fun k => { k with kcm := { c with
      prev := some (cur, next, count), since := if running then c.since else 0, got := true, cause := mask, clean := clean } }

/-- R246: a trace octet of an accepted Kraow frame. -/
def State.traceTake (p fn : Nat) (b : Byte) (s : State) : State :=
  let k := s.krwPort p
  let t := if fn % 64 == 0 then some [b] else k.trace.map (· ++ [b])
  match t with
  | some l =>
    if fn % 64 == 63 then
      let run := if l == k.traceLast then k.traceRun + 1 else 1
      let s1 := s.onKrw p fun k => { k with trace := none, traceLast := l, traceRun := run }
      if 3 ≤ run then
        ((s1.forN 8 fun w s => s.setWord .KFR_TTI_RX (8 * p + w) 0 (BitVec.ofNat 64 (leNat ((l.drop (8 * w)).take 8)))).onKrw p
          fun k => { k with traceOk := true }).timCheck p
      else s1
    else s.onKrw p fun k => { k with trace := some l }
  | none => s

/-- R247: a label of an accepted Kraow frame. -/
def State.labelTake (p fn b : Nat) (s : State) : State :=
  let t := fn % 32
  let k := 32 * p + t
  let x := s.tribSt k
  let run := if b == x.label then x.labelRun + 1 else 1
  let s1 := s.onTrib k fun x => { x with label := b, labelRun := run, labelOk := x.labelOk || 5 ≤ run }
  if 5 ≤ run then
    let s2 := s1.set KFR_TRIB.LABEL_RX k b
    if s.flag KFR_TRIB.EN k then s2.plmRaw p t (b != s.get KFR_TRIB.LABEL_TX k) else s2
  else s1

/-- A run counted: one longer, or ended. -/
def runOn (c : Bool) (n : Nat) : Nat := if c then min (n + 1) 3 else 0

/-- The defects that a run of three declares, and one that clears it. -/
def State.runDefect (p i on off : Nat) (s : State) : State :=
  if 3 ≤ on then s.defectRaw p i true else if 3 ≤ off then s.defectRaw p i false else s

/-- dAIS, dRDI and dAUTH (R245, R253): `kind`: accepted, failing, or neither. -/
def State.krwRuns (p : Nat) (accepted failing auth : Bool) (b3 : Nat) (s : State) : State :=
  let r := (s.krwPort p).runs
  let ais := b3.testBit 2
  let rdi := b3.testBit 7
  let r1 : KrwRuns := { r with
    ais := runOn (accepted && ais) r.ais, noAis := runOn (accepted && !ais) r.noAis
    rdi := runOn (accepted && rdi) r.rdi, noRdi := runOn (accepted && !rdi) r.noRdi
    failing := if auth then runOn failing r.failing else r.failing
    accepted := if auth then runOn accepted r.accepted else r.accepted }
  let s1 := s.onKrw p fun k => { k with runs := r1, rdi := if 3 ≤ r1.rdi then true else if 3 ≤ r1.noRdi then false else k.rdi }
  (s1.runDefect p 5 r1.ais r1.noAis).runDefect p 6 r1.failing r1.accepted

/-- R248: BIP-8 errors between a computed parity and B4. -/
def bipErrors (a b : Nat) : Nat := (List.range 8).countP fun i => a.testBit i != b.testBit i

/-- R248, R256, R257: the near-end and far-end BIP-8 counts of an accepted Kraow frame. -/
def State.bipTake (p b3 b4 : Nat) (s : State) : State :=
  let errs := (s.krwPort p).rxBip.elim 0 (bipErrors b4)
  let rei := b3 / 8 % 16
  let s1 := (s.pmInc p 0 errs).when (rei ≤ 8) fun s => s.pmInc p 1 rei
  s1.onKrw p fun k => { k with rei := if s.majorDefect p then 0 else min 255 (k.rei + errs), selRx := b3.testBit 0 }

/-! ### Embedded channels (R240) -/

/-- The messages that have ended on a channel: their contents, and how many are discarded. -/
def channelMessages (typ : Nat) (ms : List (List Bool)) : List (List Byte) × Nat :=
  let l := ms.map (hdlcContent typ)
  (l.filterMap id, l.countP (·.isNone))

/-- R240: the K-channel bits of a Kraow frame. -/
def State.takeK (p : Nat) (slot : List Bool) (s : State) : State :=
  let (c, ms) := (s.krwPort p).kRx.takeAll (slotData slot)
  let (l, bad) := channelMessages 0x888E ms
  ((s.onKrw p fun k => { k with kRx := c }).inc KFR_EC_STAT.K_BAD p bad).forL l fun m s => s.mkpdu { inPort := 32 + p, data := m }

/-- R240: the T-channel and A-channel bits of an accepted Kraow frame. -/
def State.takeTA (p : Nat) (t a : List Bool) (s : State) : State :=
  let k := s.krwPort p
  let (ct, mt) := k.tRx.takeAll (slotData t)
  let (ca, ma) := k.aRx.takeAll (slotData a)
  let (lt, badT) := channelMessages 0x88F7 mt
  let (la, badA) := channelMessages 0x88B5 ma
  let s1 := ((s.onKrw p fun k => { k with tRx := ct, aRx := ca }).inc KFR_EC_STAT.T_BAD p badT).inc KFR_EC_STAT.A_BAD p badA
  (s1.forL lt fun m s => s.ttRx p m).forL la fun m s => s.letBody none p m

/-- R240: a Kraow frame that is not accepted aborts the T and A messages in progress. -/
def State.abortTA (p : Nat) (s : State) : State :=
  let k := s.krwPort p
  let begun := fun (c : Chan) => c.msg.any fun m => 8 < m.length
  let s1 := (s.when (begun k.tRx) fun s => s.inc KFR_EC_STAT.T_BAD p).when (begun k.aRx) fun s => s.inc KFR_EC_STAT.A_BAD p
  s1.onKrw p fun k => { k with tRx := {}, aRx := {} }

/-- The EC area of a Kraow frame; `mask`: of an accepted one, what its T and A slots are XORed with. -/
def State.channels (p : Nat) (oh : List Byte) (mask : Option (List Bool)) (s : State) : State :=
  let (nk, nt, na) := slotBits (s.get KFR_CFG.RATE p)
  let ec := msbBits 64 (beAt oh 21 8)
  let s1 := s.takeK p (ec.take (4 + nk))
  match mask with
  | some m =>
    let plain := ec.zipWith (fun a b => a != b) (m ++ List.replicate 64 false)
    let t := (plain.drop (4 + nk)).take (4 + nt)
    s1.takeTA p t ((plain.drop (8 + nk + nt)).take (4 + na))
  | none => s1.abortTA p

/-! ### Block-transparent demapping (R219, R222 to R226) -/

/-- AIS replacement of a tributary (R254, Table 7-3). -/
def State.aisReplaced (s : State) (p t : Nat) : Bool := s.majorDefect p || (s.get KFR_DEFECT.PLM p).testBit t

/-- R263: the client output of a block-transparent tributary comes from this port. -/
def State.outputPort (s : State) (p : Nat) : Bool :=
  (List.range 16).all fun g => s.get FAB_PG_CFG.STATE g != 1
    || (s.pgW g != p || !(s.pg g).rxUse) && (s.pgP g != p || (s.pg g).rxUse)

/-- R263: the port whose received SEL is 1. -/
def State.selTake (p : Nat) (s : State) : State :=
  s.forN 16 fun g s =>
    let w := (s.krwPort (s.pgW g)).selRx
    let pr := (s.krwPort (s.pgP g)).selRx
    if s.get FAB_PG_CFG.STATE g == 1 && (s.pgW g == p || s.pgP g == p) && w != pr then s.onPg g fun x => { x with rxUse := pr } else s

/-- Blocks delivered to a client port. -/
def State.clientBlocks (c : Nat) (l : List (Bool × List Byte)) (s : State) : State :=
  { s with krw := { s.krw with clientOut := s.krw.clientOut.set c (s.krw.clientOut.get c [] ++ l) [] } }

/-- The 32 blocks of a group, none where its CRC-32C fails (Table 6-10). -/
def groupBlocks (l : List Byte) : Option (List (Bool × List Byte)) :=
  if l.length == 264 && crc32c 0xFFFFFFFF (l.take 260) == beAt l 260 4 then
    let sync := beAt l 256 4
    some ((List.range 32).map fun i => (sync.testBit i, blockAt l i))
  else none

/-- R226, R255: a group has ended, or has been spoiled. -/
def State.groupEnd (p t : Nat) (l : List Byte) (s : State) : State :=
  let k := 32 * p + t
  let lf := List.replicate 32 lfBlock
  let ais := s.aisReplaced p t
  let out := if ais then lf else (groupBlocks l).getD lf
  let s1 := s.when (!ais && (groupBlocks l).isNone) fun s => s.inc KFR_TRIB_STAT.ERR_RX k
  s1.when (s1.outputPort p) fun s => s.clientBlocks (s.get KFR_TRIB.CLIENT_PORT k) out

/-- R219: word `i` of a period carries data. -/
def State.isDataWord (s : State) (k just i : Nat) : Bool :=
  let a := 4 * s.get KFR_TRIB.ALLOT k
  if i + 1 == a then just == 2 else if i + 2 == a then just != 1 else i + s.get KFR_TRIB.FIXED k + 2 < a

/-- Word `i` of a receive period of a block-transparent tributary; no group begins before the word that OFFSET names. -/
def State.btWord (p t i : Nat) (w : List Byte) (s : State) : State :=
  let k := 32 * p + t
  let x := s.tribSt k
  if !x.rxOn || !s.isDataWord k x.rxJust i || 8 * i < x.rxSkip || (x.group.isEmpty && i < x.rxOff) then s
  else
    let s1 := if x.rxCut == some (8 * i) && !x.group.isEmpty then (s.groupEnd p t []).onTrib k fun x => { x with group := [] } else s
    let g := (s1.tribSt k).group ++ w
    if g.length < 264 then s1.onTrib k fun x => { x with group := g }
    else (s1.onTrib k fun x => { x with group := [] }).groupEnd p t g

/-- R223: the OFFSET expected for the next period, from the one of this period and its justification; none begins after a period in
which none begins. -/
def State.expectedOffset (s : State) (k : Nat) : Nat :=
  let x := s.tribSt k
  let d := s.dataWords k x.rxJust
  if x.rxOff == 0x3FFF then 0x3FFF else (33 - (d - min d x.rxOff) % 33) % 33

/-- A receive period of a block-transparent tributary begins. -/
def State.btPeriod (p t : Nat) (s : State) : State :=
  let k := 32 * p + t
  let x := s.tribSt k
  let e := s.expectedOffset k
  match x.rxNext with
  | none => s.onTrib k fun x => { x with rxJust := 0, rxOff := e, rxCut := none, rxSkip := 0 }
  | some (3, o) => ((s.inc KFR_TRIB_STAT.PTR_RX k).pmInc p 6 1).onTrib k fun x => { x with
      rxOn := true, rxJust := 0, rxOff := o, rxCut := none, rxSkip := 8 * o, group := [], rxNext := none }
  | some (j, o) =>
    let differs := !x.rxOn || o != e
    let s1 := (s.when differs fun s => s.inc KFR_TRIB_STAT.PTR_RX k).when (j != 0) fun s => s.pmInc p 6 1
    s1.onTrib k fun x => { x with rxOn := true, rxJust := j, rxOff := o, rxCut := if differs then some (8 * o) else none
                                  rxSkip := if x.rxOn then 0 else 8 * o, rxNext := none }

/-! ### Crates (R229 to R235) -/

/-- R217, R321: a client frame that a packet tributary delivers; `tag`: its volley tag, where it has one. A frame with a volley tag that
no RX SC takes is dropped and counted in REJECTED of its stream. -/
def State.tribFrame (p t : Nat) (tag : Option (List Byte)) (data : List Byte) (s : State) : State :=
  let it := s.stampRx (32 + p) { inPort := 32 + p, data := data }
  let stray := fun (it : Item) (s : State) => s.letDiscard (octet (tag.getD []) 1) LET_CNT.REJECTED it
  match s.lookup (p / 8) (rxKraowKey p t) with
  | none => if tag.isSome then stray it s else s.missed it
  | some e => match s.admitFrame { it with cls := e.cls, res := some e } none with
    | (none, s1) => s1
    | (some x, s1) =>
      let off := (s1.inc TBL_MISS_CNT.SC_OFF (portRow it.inPort)).freeIngress x
      if e.action != 0 then if tag.isSome then stray x s1 else s1.unprotected { x with cookie := e.cookie } e
      else match s1.sc? e.sc with
        | some c =>
          if c.state != 1 then off
          else s1.toSeq { x with sc := e.sc, scFields := some c, dest := .egress c.egPort x.cls, cookie := e.cookie, vtag := tag
                                 rxStream := tag.map fun v => octet v 1 }
        | none => off

/-- The contexts of a tributary discarded, and its delineation back in HUNT until an OFFSET is received. -/
def State.tribHunt (k : Nat) (s : State) : State :=
  s.onTrib k fun x => { x with delin := 0, rxOct := [], rxSkip := 1048576, ctxN := none, ctxX := none }

/-- R230 to R234: a crate in SYNC: TYPE, FLAGS and data. -/
def State.crateTake (p t typ flags : Nat) (data : List Byte) (s : State) : State :=
  let k := 32 * p + t
  let exp := flags.testBit 6
  let x := s.tribSt k
  let put := fun (c : Option (Bool × List Byte)) (s : State) =>
    s.onTrib k fun x => if exp then { x with ctxX := c } else { x with ctxN := c }
  if typ == 0 then s
  else if typ == 3 then put none s
  else
    let (vt, l) := (if exp then x.ctxX else x.ctxN).getD (typ == 2, [])
    let l := l ++ data
    if flags.testBit 7 then put (some (vt, l)) s
    else
      let s1 := put none s
      if vt then s1.tribFrame p t (some (l.take 8)) (l.drop 8) else s1.tribFrame p t none l

/-- The HEC of a crate header is good; a header with LEN 0 is none. -/
def hecOk (h : List Byte) : Bool := crcMsb 8 7 0 (h.take 3) == octet h 3 && beAt h 0 3 / 1024 != 0

/-- The octets of a crate, header and padding included. -/
def crateLength (h : List Byte) : Nat := let n := beAt h 0 3 / 1024; 4 + n + (4 - n % 4) % 4

/-- R235: the octets received are delineated; the first argument bounds the steps. -/
def State.delineate : Nat → Nat → Nat → State → State
  | 0, _, _, s => s
  | f + 1, p, t, s =>
    let k := 32 * p + t
    let x := s.tribSt k
    let l := x.rxOct
    let n := crateLength l
    if l.length < 4 then s
    else match x.delin with
      | 2 =>
        if !hecOk l || (beAt l 0 3 / 256 % 4 == 3 && octet l 2 % 16 != 1) then
          (s.inc KFR_TRIB_STAT.ERR_RX k).tribHunt k
        else if l.length < n then s
        else
          let h := beAt l 0 3
          let s1 := s.onTrib k fun x => { x with rxOct := l.drop n }
          (s1.crateTake p t (h / 256 % 4) (h % 256) ((l.drop 4).take (h / 1024))).delineate f p t
      | _ =>
        let skip := fun (s : State) => s.onTrib k fun x => { x with delin := 0, rxOct := l.drop 4 }
        if !hecOk l then (skip s).delineate f p t
        else if l.length < n + 4 then s.onTrib k fun x => { x with delin := 1 }
        else if hecOk (l.drop n) then (s.onTrib k fun x => { x with delin := 2, rxOct := l.drop n }).delineate f p t
        else (skip s).delineate f p t

/-- A receive period of a packet tributary begins (R222, R235). -/
def State.packetPeriod (p t : Nat) (s : State) : State :=
  let k := 32 * p + t
  let at_ := fun (o : Nat) => if o == 0x3FFF then 1048576 else 8 * o
  match (s.tribSt k).rxNext with
  | none => s.onTrib k fun x => { x with rxSkip := if 1048576 ≤ x.rxSkip then x.rxSkip else 0 }
  | some (3, o) => (((s.inc KFR_TRIB_STAT.PTR_RX k).pmInc p 6 1).tribHunt k).onTrib k fun x => { x with
      rxSkip := at_ o, rxNext := none }
  | some (_, o) => s.onTrib k fun x =>
      if x.delin == 0 then { x with rxOct := [], rxSkip := at_ o, rxNext := none } else { x with rxSkip := 0, rxNext := none }

/-- The words of one Kraow frame for a packet tributary; `ok`: the frame was accepted (R151). Zeros end the delineation, which counts in
ERR_RX where it was in SYNC (R235). -/
def State.packetWords (p t fn : Nat) (ok : Bool) (l : List Byte) (s : State) : State :=
  let k := 32 * p + t
  if s.aisReplaced p t then s.tribHunt k
  else if !ok then (s.when ((s.tribSt k).delin == 2) fun s => s.inc KFR_TRIB_STAT.ERR_RX k).tribHunt k
  else
    let at_ := fn % 4 * l.length
    let s1 := s.onTrib k fun x => { x with rxOct := x.rxOct ++ l.drop (x.rxSkip - at_) }
    s1.delineate ((s1.tribSt k).rxOct.length + 1) p t

/-! ### One Kraow frame -/

/-- R215, R218, R250: the payload of a Kraow frame reaches the demapper of every enabled tributary. -/
def State.demap (p fn : Nat) (ok : Bool) (payload : List Byte) (s : State) : State :=
  s.forN 32 fun t s =>
    let k := 32 * p + t
    let typ := s.get KFR_TRIB.TYPE k
    let n := 8 * s.get KFR_TRIB.ALLOT k
    let l := (payload.drop (8 * s.get KFR_TRIB.START k)).take n
    if s.get KFR_TRIB.STATE k == 0 then s
    else if typ == 2 then
      let s1 := s.when (fn % 4 == 0) fun s => s.btPeriod p t
      s1.forN (n / 8) fun j s => s.btWord p t (fn % 4 * (n / 8) + j) (blockAt l j)
    else if typ == 1 then (s.when (fn % 4 == 0) fun s => s.packetPeriod p t).packetWords p t fn ok l
    else s

/-- R250: blocks received at no Kraow frame position: each 1,024 of them give the demappers a payload of zeros. -/
def State.krwGap (p n : Nat) (s : State) : State :=
  let g := (s.krwPort p).gap + n
  (s.onKrw p fun k => { k with gap := g % 1024 }).forN (g / 1024) fun _ s =>
    let fn := (s.krwPort p).gapFn
    (s.onKrw p fun k => { k with gapFn := (fn + 1) % 256 }).demap p fn false (List.replicate 8128 0)

/-- R218: the pointer words of an accepted Kraow frame. -/
def State.pointersTake (p fn : Nat) (oh : List Byte) (s : State) : State :=
  s.forN 8 fun j s =>
    let v := beAt oh (5 + 2 * j) 2
    let k := 32 * p + 4 * j + fn % 4
    if s.get KFR_TRIB.STATE k == 0 then s else s.onTrib k fun x => { x with rxNext := some (v / 16384, v % 16384) }

/-- R185: a multiframe boundary at the receiver. -/
def State.rxBoundary (p : Nat) (s : State) : State :=
  let k := s.krwPort p
  let s1 := s.onKrw p fun k => { k with deuceLeft := k.deuceLeft.bind fun n => if n ≤ 1 then none else some (n - 1)
                                        kcm := { k.kcm with got := false, since := k.kcm.since + 1 } }
  if k.deuceLeft == some 1 then match (s.keyScOf p true).bind fun x => s.saInLife x.1 2 with
    | some sa => s1.deuceEnd sa
    | none => s1
  else s1

/-- R150, R185: the SA of an accepted Kraow frame. -/
def State.krwSaAccept (p sa fc : Nat) (s : State) : State :=
  let new := (s.sa? sa).any (·.life == 0) && (s.saInLife (scOfSa sa) 1).isSome
  let s1 := (s.onSa sa fun a => { a with pn := fc + 1 }).saActivateRx sa
  let s2 := ((s1.stat sa 0 1).stat sa 6 8128).pmInc p 8 1
  if new then s2.onKrw p fun k => { k with deuceLeft := some 2 } else s2

/-- R565: the receive time of a reference Kraow frame. -/
def State.ttArrive (p fc : Nat) (s : State) : State :=
  if s.isReference p fc then
    let t := ((s.now16 : Int) - 65536 * signed 16 (s.get TMB_PORT.RX_OFS (32 + p))).toNat
    s.onKrw p fun k => { k with ttRx := ((fc, t) :: k.ttRx).take 4 }
  else s

/-- What an accepted Kraow frame does beside its payload. -/
def State.krwAccepted (p fn : Nat) (sa : Option Nat) (oh : List Byte) (mask : List Bool) (s : State) : State :=
  let fc := beAt oh 29 8
  let s1 := match sa with
    | some a => s.krwSaAccept p a fc
    | none => s.pmInc p 8 1
  let s2 := ((s1.bipTake p (octet oh 3) (octet oh 4)).krwRuns p true false sa.isSome (octet oh 3)).kcmCheck p (octet oh 2)
  let s3 := ((s2.traceTake p fn (oh.getD 0 0)).labelTake p fn (octet oh 1)).selTake p
  (((s3.ttArrive p fc).pointersTake p fn oh).channels p oh (some mask))

/-- What a Kraow frame that is not accepted does beside its payload; `failing` as R245 counts it. -/
def State.krwRefused (p : Nat) (failing : Bool) (oh : List Byte) (s : State) : State :=
  let s1 := (s.krwRuns p false failing failing 0).onKrw p fun k => { k with trace := none }
  s1.channels p oh none

/-- R150, R186: a failing Kraow frame is counted. -/
def State.countFailing (p : Nat) (late : Bool) (sa : Option Nat) (s : State) : State :=
  let s1 := match sa with
    | some a => s.stat a (if late then 2 else 1) 1
    | none => s
  s1.pmInc p (if late then 5 else 4) 1

/-- What a Kraow frame does once it has been judged. -/
def State.krwDone (p fn : Nat) (frame : List Byte) (v : KrwVerdict) (s : State) : State :=
  let oh := (frame.drop 8).take 40
  let zeros := List.replicate 8128 (0#8)
  let (ok, payload, s1) := match v with
    | .accepted sa pay mask => (true, pay, s.krwAccepted p fn sa oh mask)
    | .failing late sa => (false, zeros, (s.countFailing p late sa).krwRefused p true oh)
    | .keyless => (false, zeros, (s.inc KFR_EC_STAT.KEYLESS p).krwRefused p false oh)
  let s2 := s1.onKrw p fun k => { k with rxBip := some (bipOf frame) }
  (s2.defectSync p).demap p fn ok payload

/-- A Kraow frame at its position, whatever its marker; none while it waits for its engine. -/
def State.krwFrame (p fn : Nat) (frame : List Byte) (s : State) : Option State :=
  ((s.when (fn == 0) fun s => s.rxBoundary p).krwVerify p frame).map fun x => x.2.krwDone p fn frame x.1

/-- Table 6-7: a good marker. -/
def State.goodMarker (p fn : Nat) (s : State) : State :=
  let since := (s.krwPort p).sinceFn0.map (· + 1)
  let s1 := s.onKrw p fun k => { k with badRun := 0, sinceFn0 := if fn == 0 then some 0 else since }
  if fn == 0 && since == some 256 && s.get KFR_ALIGN.FSTATE p == 1 then (s1.set KFR_ALIGN.FSTATE p 2).defectRaw p 4 false else s1

/-- Octets received in frame: the next Kraow frame (R210), none while it waits for its engine. -/
def State.krwNext (p : Nat) (s : State) : Option State :=
  let l := (s.krwPort p).rxBuf
  let fn := s.get KFR_ALIGN.FN p
  let frame := l.take 8192
  let rest := fun (n : Nat) (s : State) => s.onKrw p fun k => { k with rxBuf := l.drop n }
  if isMarker frame && octet frame 6 == fn then
    (rest 8192 ((s.goodMarker p fn).set KFR_ALIGN.FN p (fn + 1))).krwFrame p fn frame
  else
    let run := (s.krwPort p).badRun + 1
    let s1 := s.inc KFR_ALIGN.BAD p
    if run == 4 then some ((rest 8 (s1.krwOof p)).krwGap p 1)
    else (rest 8192 ((s1.onKrw p fun k => { k with badRun := run, sinceFn0 := k.sinceFn0.map (· + 1) }).set KFR_ALIGN.FN p (fn + 1))).krwFrame
      p fn frame

/-- The octets received so far are consumed; the first argument bounds the steps. -/
def State.krwConsume : Nat → Nat → State → State
  | 0, _, s => s
  | f + 1, p, s =>
    let l := (s.krwPort p).rxBuf
    if s.get KFR_ALIGN.FSTATE p == 0 then
      let s1 := s.krwSearch p
      let s2 := s1.krwGap p ((l.length - (s1.krwPort p).rxBuf.length) / 8)
      if s2.get KFR_ALIGN.FSTATE p == 0 then s2 else s2.krwConsume f p
    else if l.length < 8192 then s
    else match s.krwNext p with
      | some s1 => s1.krwConsume f p
      | none => s

/-- R250: what the framer is given is no Kraow frame while dLOS, dLOL or dLOA is present. -/
def State.krwDeaf (s : State) (p : Nat) : Bool := (List.range 3).any fun i => s.defectPresent p i

/-- KRAOW_FRAME_RX (R150, R209, R210, R250): octets of 66b blocks arrive at the framer of a line port, a whole number of blocks; every
Kraow frame that they complete is received. -/
def execKraowFrameRx (p : Fin 32) (octets : List Byte) (s : State) : Host.Outcome State Fault Refusal :=
  let n := octets.length / 8
  finish (if !s.judged p then s
    else if s.krwDeaf p then (s.onKrw p fun k => { k with rxBuf := [] }).krwGap p ((s.krwPort p).rxBuf.length / 8 + n)
    else
      let s1 := s.onKrw p fun k => { k with rxBuf := k.rxBuf ++ octets.take (8 * n) }
      s1.krwConsume ((s1.krwPort p).rxBuf.length / 8 + 1) p)

/-- R241: an SA of the key SCs of a line port is in INSTALLED, ACTIVE, DEUCE or RETIRING. -/
def State.keyScLive (s : State) (p : Nat) : Bool :=
  [s.keyScOf p false, s.keyScOf p true].any fun x => x.any fun y => (List.range 4).any fun an => (s.sa? (4 * y.1 + an)).any (·.life < 4)

/-- R241: a write of TEST_CLEAR. -/
def State.testClear (p : Nat) (on : Bool) (s : State) : State :=
  if on && s.keyScLive p then s else s.set KFR_CFG.TEST_CLEAR p (natOfBool on)

/-- TEST_CLEAR_WRITE (R241). -/
def execTestClearWrite (p : Fin 32) (on : Bool) (s : State) : Host.Outcome State Fault Refusal := finish (s.testClear p on)

end Sys2Proof.Machine
end

