-- ==== Sys2Proof/Machine/Agent.lean ====
section
/-!
DEFINITION. The key agent (R190 to R200): MKPDUs, the election of the key server, the distribution of SAKs, and the SAs and keys that
the agent installs and retires. The layout of MKPDUs and the key derivation are those of IEEE 802.1X-2020.
-/

namespace Sys2Proof.Machine

/-! ### MKPDUs -/

/-- The SAK use of an MKPDU: AN, whether the key is used for transmit and for receive, its key identifier and the lowest PN. -/
structure MkaUse where
  an : Nat
  tx : Bool
  rx : Bool
  mi : Nat
  kn : Nat
  pn : Nat
  deriving DecidableEq, Repr

/-- The content of an MKPDU. -/
structure Mkpdu where
  prio : Nat
  ks : Bool
  sci : Nat
  mi : Nat
  mn : Nat
  ckn : List Byte
  lives : List (Nat × Nat)
  pots : List (Nat × Nat)
  use : Option MkaUse
  /-- AN, key number and wrapped SAK of a distributed SAK -/
  dist : Option (Nat × Nat × List Byte)
  deriving DecidableEq, Repr

/-- The octets of a parameter set without its header, padded to four. -/
def pad4 (n : Nat) : Nat := (n + 3) / 4 * 4

/-- The parameter sets from an offset on: type, the two octets after it and the body. -/
def mkaSets : Nat → List Byte → List (Nat × Nat × List Byte)
  | 0, _ => []
  | f + 1, l =>
    if l.length < 4 then []
    else
      let n := beAt l 2 2 % 4096
      (octet l 0, octet l 1, (l.drop 4).take n) :: mkaSets f (l.drop (4 + pad4 n))

/-- Member identifiers with their message numbers. -/
def mkaPeers (l : List Byte) : List (Nat × Nat) := (List.range (l.length / 16)).map fun i => (beAt l (16 * i) 12, beAt l (16 * i + 12) 4)

/-- The peers of the parameter sets of a type. -/
def peersOf (typ : Nat) (sets : List (Nat × Nat × List Byte)) : List (Nat × Nat) :=
  ((sets.filter fun x => x.1 == typ).map fun x => mkaPeers x.2.2).flatten

/-- An MKPDU from its EAPOL PDU, its ICV taken off. -/
def parseMkpdu (pdu : List Byte) : Option Mkpdu :=
  let n := beAt pdu 2 2
  let body := ((pdu.drop 4).take n).take (n - 16)
  let m := beAt body 2 2 % 4096
  if octet pdu 1 != 5 || n < 48 || m < 28 || pdu.length < 4 + n || beAt body 28 4 != 0x0080C201 then none
  else
    let sets := mkaSets body.length (body.drop (4 + pad4 m))
    let one := fun (typ : Nat) => (sets.find? fun x => x.1 == typ).map (·.2)
    some { prio := octet body 1, ks := octet body 2 / 128 == 1, sci := beAt body 4 8, mi := beAt body 12 12, mn := beAt body 24 4
           ckn := (body.drop 32).take (m - 28), lives := peersOf 1 sets, pots := peersOf 2 sets
           use := (one 3).map fun x => { an := x.1 / 64, tx := x.1 / 32 % 2 == 1, rx := x.1 / 16 % 2 == 1, mi := beAt x.2 0 12
                                         kn := beAt x.2 12 4, pn := (one 8).elim 0 (fun y => beAt y.2 0 4) * 2 ^ 32 + beAt x.2 16 4 }
           dist := (one 4).map fun x => (x.1 / 64, beAt x.2 0 4, if x.2.length ≤ 28 then x.2.drop 4 else x.2.drop 12) }

/-- A parameter set: type, the octet after it, and its body. -/
def mkaSet (typ b : Nat) (body : List Byte) : List Byte :=
  [BitVec.ofNat 8 typ, BitVec.ofNat 8 b] ++ beBytes 2 body.length ++ body ++ List.replicate (pad4 body.length - body.length) 0

/-! ### Keys -/

/-- The KDF of IEEE 802.1X-2020: `bits` bits from a key, a label and a context. -/
def mkaKdf (key label context : List Byte) (bits : Nat) : List Byte :=
  ((List.range (bits / 128)).map fun i => blockBytes (cmac key ([BitVec.ofNat 8 (i + 1)] ++ label ++ [0#8] ++ context ++ beBytes 2 bits))).flatten

/-! ### The participant of a port -/

/-- The participant of a line port. -/
def State.agtPort (s : State) (p : Nat) : AgtPort := s.agt.get p {}

/-- The participant of a line port changed. -/
def State.onAgt (p : Nat) (f : AgtPort → AgtPort) (s : State) : State := { s with agt := s.agt.set p (f (s.agtPort p)) {} }

/-- The agent runs. -/
def State.agentOn (s : State) : Bool := s.get GLB_AGT_CTRL.STATE == 1

/-- The handles of the ICK and the KEK of a line port (R191). -/
def ickHandle (p : Nat) : Nat := 69568 + 2 * p

/-- The key octets of a slot that may be used. -/
def State.keyOctets (s : State) (kh : Nat) : List Byte := (s.usableKey? kh).elim [] (·.key)

/-- The CKN of a line port. -/
def State.cknOf (s : State) (p : Nat) : List Byte :=
  let n := s.get GLB_AGT_PORT.CKN_LEN p
  (((List.range 4).map fun w => leBytes 8 (s.word .GLB_AGT_CKN p w).toNat).flatten).take (if n == 0 then 32 else n)

/-- The TX and RX SCs of a participant, with the SCI of the TX SC. -/
def State.agtTx (s : State) (p : Nat) : Nat := s.get GLB_AGT_PORT.TX_SC p

/-- The RX SC of a participant. -/
def State.agtRx (s : State) (p : Nat) : Nat := s.get GLB_AGT_PORT.RX_SC p

/-- The SCI of a participant: that of its TX SC. -/
def State.agtSci (s : State) (p : Nat) : Nat := (s.sc? (s.agtTx p)).elim 0 fun c => beNat (sciOctets c.sci)

/-- R198: SUITE, SCs and CAK match the SC entries and the KST slot. -/
def State.agtConfigOk (s : State) (p : Nat) : Bool :=
  let suite := s.get GLB_AGT_PORT.SUITE p
  let k := s.isKraow (32 + p)
  let cak := s.get GLB_AGT_PORT.CAK_SLOT p
  suite ≤ 4 && (suite != 4 || k) && cak < 4032
    && ((s.sc? (s.agtTx p)).any fun c => !c.rx && c.suite == suite && c.egPort == p && c.kraow == k && (!k || c.trib == 0))
    && ((s.sc? (s.agtRx p)).any fun c => c.rx && c.suite == suite && c.inPort == p && c.kraow == k && (!k || c.trib == 0))
    && ((s.usableKey? (65536 + cak)).any fun x => x.purpose == 1 && x.len < 2)

/-- The election: the lower priority wins, then the lower SCI; a priority of 255 never wins. -/
def State.agtElect (p : Nat) (s : State) : State :=
  let prio := s.get GLB_AGT_PORT.KS_PRIORITY p
  let wins := match (s.agtPort p).peer with
    | some x => if x.live then prio < x.prio || (prio == x.prio && s.agtSci p < x.sci) else true
    | none => true
  s.set GLB_AGT_PORT.ROLE p (if wins && prio != 255 then 1 else 2)

/-- R196, R198: a new participant, with a new member identifier, begins on a line port. -/
def State.agtBegin (p : Nat) (s : State) : State :=
  if !s.agtConfigOk p then ((s.raise 150 2 p).set GLB_AGT_PORT.ROLE p 0).onAgt p fun a => { a with on := false }
  else
    let cak := s.keyOctets (65536 + s.get GLB_AGT_PORT.CAK_SLOT p)
    let ctx := (s.cknOf p ++ List.replicate 16 0).take 16
    let put := fun (kh : Nat) (label : String) (s : State) =>
      s.keyInstall kh (KeyRec.mk0 2 3 (if cak.length == 16 then 0 else 1) true (mkaKdf cak (ascii label) ctx (8 * cak.length)) 0)
    let (mi, s1) := ((put (ickHandle p) "IEEE8021 ICK" s |> put (ickHandle p + 1) "IEEE8021 KEK")).drbg 12
    (s1.onAgt p fun a => { a with
      on := true, mi := beNat mi, mn := 0, peer := none, dist := none, fresh := false, listed := false, seen := [] }).agtElect p

/-- The participant of a line port ends. -/
def State.agtEnd (p : Nat) (s : State) : State :=
  ((s.set GLB_AGT_PORT.ROLE p 0).set GLB_AGT_PORT.LIVE p 0).onAgt p fun a => { a with on := false, peer := none, dist := none }

/-- R196: the agent has reached ON. -/
def State.agentStart (s : State) : State := s.forN 32 fun p s => if s.flag GLB_AGT_PORT.EN p then s.agtBegin p else s

/-! ### Sending -/

/-- A key in the SAK use set: its AN with the flags of its use for transmit and receive, its identifier, and its lowest PN. -/
def State.mkaKeyUse (s : State) (p : Nat) (k : Option (Nat × Nat × Nat)) : Nat × List Byte × Nat :=
  match k with
  | none => (0, List.replicate 16 0, 0)
  | some (an, mi, kn) =>
    let tx := (s.sa? (4 * s.agtTx p + an)).any (·.life == 1)
    let rxa := s.sa? (4 * s.agtRx p + an)
    (4 * an + 2 * natOfBool tx + natOfBool (rxa.any (·.live)), beBytes 12 mi ++ beBytes 4 kn, rxa.elim 0 (·.pn))

/-- The SAK use set: the latest key and the old one; the XPN set holds the upper halves of their PNs. -/
def State.mkaUseSet (s : State) (p : Nat) : List Byte :=
  let a := s.agtPort p
  if a.key.isNone then []
  else
    let (latest, id, pn) := s.mkaKeyUse p a.key
    let (old, idOld, pnOld) := s.mkaKeyUse p a.oldKey
    mkaSet 3 (16 * latest + old) (id ++ beBytes 4 (pn % 2 ^ 32) ++ idOld ++ beBytes 4 (pnOld % 2 ^ 32))
      ++ (if 2 ≤ s.get GLB_AGT_PORT.SUITE p then mkaSet 8 0 (beBytes 4 (pn / 2 ^ 32) ++ beBytes 4 (pnOld / 2 ^ 32)) else [])

/-- The cipher suite identifier of a SUITE. -/
def suiteId (suite : Nat) : List Byte := beBytes 8 (if suite < 4 then 0x0080C20001000001 + suite else Config.kraowSuite.toNat)

/-- The Distributed SAK set. -/
def State.mkaDistSet (s : State) (p : Nat) : List Byte :=
  match (s.agtPort p).dist with
  | none => []
  | some (an, kn, w) =>
    let suite := s.get GLB_AGT_PORT.SUITE p
    mkaSet 4 (an * 64 + 16) (beBytes 4 kn ++ (if suite == 0 then [] else suiteId suite) ++ w)

/-- The octets ahead of the EAPOL PDU of an MKPDU: the Ethernet header, or none on the K-channel. -/
def State.mkaHead (s : State) (p : Nat) : List Byte :=
  if s.isKraow (32 + p) then [] else [0x01#8, 0x80#8, 0xC2#8, 0, 0, 3] ++ (beBytes 8 (s.agtSci p)).take 6 ++ [0x88#8, 0x8E#8]

/-- An MKPDU of a participant without its ICV. -/
def State.mkaBody (s : State) (p : Nat) : List Byte :=
  let a := s.agtPort p
  let peers := match a.peer with
    | some x => mkaSet (if x.live then 1 else 2) 0 (beBytes 12 x.mi ++ beBytes 4 x.mn)
    | none => []
  let basic := beBytes 8 (s.agtSci p) ++ beBytes 12 a.mi ++ beBytes 4 a.mn ++ beBytes 4 0x0080C201 ++ s.cknOf p
  let b := natOfBool (s.get GLB_AGT_PORT.ROLE p == 1) * 128 + 0x70
  let head := [3#8, BitVec.ofNat 8 (s.get GLB_AGT_PORT.KS_PRIORITY p)] ++ beBytes 2 (b * 256 + basic.length)
  let body := head ++ basic ++ List.replicate (pad4 basic.length - basic.length) 0 ++ peers ++ s.mkaUseSet p ++ s.mkaDistSet p
    ++ [255#8, 0, 0, 16]
  s.mkaHead p ++ [3#8, 5#8] ++ beBytes 2 (body.length + 16) ++ body

/-- An MKPDU of a participant, with its ICV under the ICK. -/
def State.mkaFrame (s : State) (p : Nat) : List Byte := s.mkaBody p ++ blockBytes (cmac (s.keyOctets (ickHandle p)) (s.mkaBody p))

/-- R83, R103: the job of an AES-CMAC under the ICK of a line port (program slot 2). Its result is taken at once (log 25). -/
def State.macJob (p : Nat) (msg : List Byte) (s : State) : State := s.addJob (p / 8) (ickHandle p) 2 msg

/-- R83, R103: the job of a key wrap or unwrap under the KEK of a line port (program slot 3). Its result is taken at once (log 25). -/
def State.wrapJob (p : Nat) (data : List Byte) (s : State) : State := s.addJob (p / 8) (ickHandle p + 1) 3 data

/-- R190: a participant sends an MKPDU. -/
def State.mkaSend (p : Nat) (s : State) : State :=
  if !(s.agentOn && (s.agtPort p).on) || s.isLibero || !s.portUp (32 + p) then s
  else
    let s1 := s.onAgt p fun a => { a with mn := a.mn + 1 }
    let s2 := s1.macJob p (s1.mkaBody p)
    if s.isKraow (32 + p) then s2.sendK p (s1.mkaFrame p) else s2.sendFrame (32 + p) (s1.mkaFrame p) false

/-! ### Installing and retiring (R193, R195) -/

/-- A table command of the agent, in one cycle, with whether it succeeded; it changes nothing when it fails. A DELETE of an SA only
begins, and is mirrored at its end (R347). -/
def State.agtTable (n op target index : Nat) (d : List Word) (s : State) : Bool × State :=
  let (r, waits, s1) := s.tblDo n op target index false d
  if r.code == 0 then (true, s1.when (!waits) fun s => s.tblMirrorOut ⟨n, op, target, index, d⟩) else (false, s)

/-- R192: the salt that IEEE 802.1X-2020 forms from the key server's member identifier and the key number. -/
def mkaSalt (mi kn : Nat) : Nat :=
  Nat.xor (mi / 2 ^ 80) (kn % 2 ^ 16) * 2 ^ 80 + Nat.xor (mi / 2 ^ 64 % 2 ^ 16) (kn / 2 ^ 16 % 2 ^ 16) * 2 ^ 64 + mi % 2 ^ 64

/-- R193: a SAK written into the slot of an SA, and the SA installed. -/
def State.agtInstallSa (sc an dir : Nat) (sak : List Byte) (salt ssci suite : Nat) (s : State) : State :=
  let sa := 4 * sc + an
  let k := KeyRec.mk0 0 dir (if sak.length == 16 then 0 else 1) true sak salt
  let s1 := (s.keyInstall sa k).kstMirrorOut (some ⟨1, 0, sa, k.attrWord, sak, salt⟩)
  (s1.agtTable (sc / 4096) 1 2 sa
    [mkWord [(1, 1), (8, if suite == 4 then 1 else 0)], 1, mkWord [(0, ssci)], 0, 0, 0, 0, 0]).2

/-- The SSCIs of a participant and of its partner: the greater SCI has SSCI 1. -/
def State.agtSscis (s : State) (p : Nat) : Nat × Nat :=
  let peer := (s.agtPort p).peer.elim 0 (·.sci)
  if peer < s.agtSci p then (1, 2) else (2, 1)

/-- R193: the SAK of an AN is installed: the RX SA first, then the TX SA. -/
def State.agtInstall (p an mi kn : Nat) (sak : List Byte) (fresh : Bool) (s : State) : State :=
  let suite := s.get GLB_AGT_PORT.SUITE p
  let salt := if suite < 2 then 0 else mkaSalt mi kn
  let (own, peer) := s.agtSscis p
  let s1 := s.agtInstallSa (s.agtRx p) an 2 sak salt (if suite < 2 then 0 else peer) suite
  let s2 := if fresh then s1.agtInstallSa (s.agtTx p) an 1 sak salt (if suite < 2 then 0 else own) suite else s1
  s2.onAgt p fun a => { a with
    key := some (an, mi, kn), oldKey := a.key, fresh := fresh, moved := false
    old := match a.key with
      | some (o, _) => if o == an || o ∈ a.old then a.old else a.old ++ [o]
      | none => a.old }

/-- The SAs of an AN are both empty. -/
def State.agtFree (s : State) (p an : Nat) : Bool := (s.sa? (4 * s.agtTx p + an)).isNone && (s.sa? (4 * s.agtRx p + an)).isNone

/-- R192, R194: the key server draws a SAK, installs it and distributes it. Its AN is the next free one, the first not CUR_AN, so that
the write of R172 starts its use. -/
def State.agtDistribute (p : Nat) (s : State) : State :=
  let a := s.agtPort p
  let base := a.key.elim ((s.sc? (s.agtTx p)).elim 3 (·.curAn)) (·.1)
  if !(s.agentOn && a.on) || s.get GLB_AGT_PORT.ROLE p != 1 then s
  else if s.flag KST_CTRL.DRBG_FAIL then s.raise 150 3 p
  else if s.drbgRefuses then s
  else match ([1, 2, 3].map fun i => (base + i) % 4).find? (s.agtFree p) with
    | none => s
    | some an =>
      let suite := s.get GLB_AGT_PORT.SUITE p
      let (sak, s1) := s.drbg (if suite == 0 || suite == 2 then 16 else 32)
      let kn := a.kn + 1
      let s2 := (s1.agtInstall p an a.mi kn sak true).wrapJob p sak
      (s2.onAgt p fun a => { a with kn := kn, dist := some (an, kn, keyWrap (s.keyOctets (ickHandle p + 1)) sak) }).mkaSend p

/-- R172, R184, R193: the partner has reported its RX SA of the latest AN: CUR_AN is written, again where a switch has been cancelled,
until it reads that AN. -/
def State.agtMove (p : Nat) (s : State) : State :=
  let a := s.agtPort p
  match a.key, s.sc? (s.agtTx p) with
  | some (an, _, _), some c =>
    if !a.fresh || a.moved || !(s.sa? (4 * s.agtTx p + an)).any (·.live) then s
    else if c.curAn == an then s.onAgt p fun a => { a with moved := true }
    else if c.keySc && s.flag KFR_KEYSW.TX_PEND c.egPort then s
    else (s.agtTable (s.agtTx p / 4096) 3 1 (s.agtTx p) { c with curAn := an }.words).2
  | _, _ => s

/-- R195: after the deuce of its RX SA, the SAs of an old AN are deleted once each has reached RETIRED. -/
def State.agtRetire (p an : Nat) (s : State) : State :=
  let del := fun (sa : Nat) (s : State) =>
    if (s.sa? sa).any (fun x => x.life == 4 && !x.deleting) then (s.agtTable (sa / 16384) 2 2 sa (List.replicate 8 0)).2 else s
  let ended := (s.sa? (4 * s.agtRx p + an)).all fun x => 3 ≤ x.life
  let s1 := if ended then (s |> del (4 * s.agtTx p + an)) |> del (4 * s.agtRx p + an) else s
  if s1.agtFree p an then
    s1.onAgt p fun a => { a with old := a.old.filter (· != an), oldKey := a.oldKey.filter fun k => k.1 != an }
  else s1

/-! ### Receiving (R190, R197, R200) -/

/-- An MKPDU of a participant's connectivity association, with a good ICV. -/
def State.mkaGood (s : State) (p : Nat) (octets : List Byte) : Option Mkpdu :=
  let off := if s.isKraow (32 + p) then 0 else 14
  let n := off + 4 + beAt octets (off + 2) 2
  let msg := octets.take (n - 16)
  (parseMkpdu (octets.drop off)).filter fun m =>
    m.ckn == s.cknOf p && blockBytes (cmac (s.keyOctets (ickHandle p)) msg) == (octets.take n).drop (n - 16)

/-- The sender of an MKPDU: the partner, or a further peer that is ignored. -/
def State.mkaSender (p : Nat) (m : Mkpdu) (s : State) : Option State :=
  let a := s.agtPort p
  let sees := (m.lives ++ m.pots).any fun x => x.1 == a.mi && x.2 ≤ a.mn
  let put := fun (live : Bool) (s : State) =>
    s.onAgt p fun a => { a with peer := some { mi := m.mi, mn := m.mn, sci := m.sci, prio := m.prio, live := live } }
  let new := fun (s : State) => put sees (s.onAgt p fun a => { a with listed := false, seen := [] })
  match a.peer with
  | some x =>
    if x.mi == m.mi then if m.mn ≤ x.mn then none else some (put (x.live || sees) s)
    else if x.live then (if sees then some (s.raise 150 1 p) else none)
    else some (new s)
  | none => some (new s)

/-- R200: what the partner distributed or used before its live peer list held the participant's member identifier is noted; of the
MKPDU that first lists it, only a SAK that the partner sends under was in use before. -/
def State.mkaNote (p : Nat) (m : Mkpdu) (s : State) : State :=
  let here := m.lives.any fun x => x.1 == (s.agtPort p).mi
  let used := (m.use.filter fun u => !here || u.tx).toList.map fun u => (u.mi, u.kn)
  let given := if here then [] else m.dist.toList.map fun d => (m.mi, d.2.1)
  s.onAgt p fun a => if a.listed then a
    else { a with listed := here, seen := a.seen ++ (used ++ given).filter fun k => !a.seen.contains k }

/-- R200: a distributed SAK from the key server. -/
def State.mkaTakeSak (p : Nat) (m : Mkpdu) (s : State) : State :=
  let a := s.agtPort p
  match m.dist with
  | some (an, kn, w) =>
    if s.get GLB_AGT_PORT.ROLE p != 2 || !m.ks || a.key == some (an, m.mi, kn) || !s.agtFree p an then s
    else
      let s1 := s.wrapJob p w
      match keyUnwrap (s.keyOctets (ickHandle p + 1)) w with
      | some sak => s1.agtInstall p an m.mi kn sak (a.listed && !a.seen.contains (m.mi, kn))
      | none => s1
  | none => s

/-- The SAK use that the partner reports (R172, R194). -/
def State.mkaTakeUse (p : Nat) (m : Mkpdu) (s : State) : State :=
  let a := s.agtPort p
  match m.use, a.key with
  | some u, some (an, mi, kn) =>
    let same := u.mi == mi && u.kn == kn && u.an == an
    let s1 := if same && u.rx then (s.onAgt p fun a => { a with dist := none }).agtMove p else s
    if same && suite32 (s.get GLB_AGT_PORT.SUITE p) && 0xC0000000 ≤ u.pn then s1.agtDistribute p else s1
  | _, _ => s

/-- An MKPDU of the partner is processed. -/
def State.mkaProcess (p : Nat) (m : Mkpdu) (s : State) : State :=
  let was := (s.agtPort p).peer.any (·.live)
  match s.mkaSender p m with
  | none => s
  | some s1 =>
    if (s1.agtPort p).peer.any fun x => x.mi == m.mi then
      let now := (s1.agtPort p).peer.any (·.live)
      let s2 := ((s1.set GLB_AGT_PORT.LIVE p (natOfBool now)).agtElect p).mkaNote p m
      if !now then s2
      else ((s2.when (!was) fun s => s.agtDistribute p).mkaTakeSak p m).mkaTakeUse p m
    else s1

/-- MKPDU_RX (R190, R197): an MKPDU of a line port: the frame in Ethernet mode, the EAPOL PDU on the K-channel. -/
def execMkpduRx (p : Fin 32) (octets : List Byte) (s : State) : Host.Outcome State Fault Refusal :=
  finish (if !s.agentOn then s.mkpdu { inPort := 32 + p, data := octets }
    else
      let s1 := { s with path := { s.path with agentIn := s.path.agentIn.erase (p.val, octets) } }
      if !(s1.agtPort p).on then s1
      else match s1.mkaGood p octets with
        | some m => (s1.macJob p octets).mkaProcess p m
        | none => s1.macJob p octets)

/-! ### Timers and requests -/

/-- MKA_HELLO_TIMER (R190). -/
def execMkaHelloTimer (p : Fin 32) (s : State) : Host.Outcome State Fault Refusal := finish (s.mkaSend p)

/-- R190, R194: the partner is declared lost. -/
def State.mkaLost (p : Nat) (s : State) : State :=
  if (s.agtPort p).peer.isNone || !s.agentOn then s
  else
    let live := s.flag GLB_AGT_PORT.LIVE p
    let s1 := ((s.onAgt p fun a => { a with peer := none }).set GLB_AGT_PORT.LIVE p 0).agtElect p
    s1.when live fun s => s.agtDistribute p

/-- MKA_LIFE_EXPIRY (R190). -/
def execMkaLifeExpiry (p : Fin 32) (s : State) : Host.Outcome State Fault Refusal := finish (s.mkaLost p)

/-- AGENT_REKEY_TIMER (R194): an interval of 0 turns it off. -/
def execAgentRekeyTimer (p : Fin 32) (s : State) : Host.Outcome State Fault Refusal :=
  finish (if s.get GLB_AGT_CTRL.REKEY_S == 0 then s else s.agtDistribute p)

/-- R194: a write of REKEY = 1. -/
def State.agtRekeyAll (s : State) : State := s.forN 32 fun p s => s.agtDistribute p

/-- AGENT_REKEY (R194). -/
def execAgentRekey (s : State) : Host.Outcome State Fault Refusal := finish s.agtRekeyAll

/-- AGENT_RETIRE_OLD_AN (R195). -/
def execAgentRetireOldAn (p : Fin 32) (s : State) : Host.Outcome State Fault Refusal :=
  finish (if s.agentOn then s.forL (s.agtPort p).old fun an s => s.agtRetire p an else s)

/-- NO_FRESH_SAK_TIMEOUT (R200): the MKA life time has passed since the peer became live. -/
def execNoFreshSakTimeout (p : Fin 32) (s : State) : Host.Outcome State Fault Refusal :=
  finish (if s.agentOn && s.get GLB_AGT_PORT.ROLE p == 2 && s.flag GLB_AGT_PORT.LIVE p && !(s.agtPort p).fresh then s.raise 150 3 p
    else s)

/-- The bits of `GLB_AGT_PORT` that R198 protects: KS_PRIORITY, SUITE, TX_SC, RX_SC, CAK_SLOT and CKN_LEN. -/
def agtPortFields (w : Word) : List Nat := [w.bits 4 8, w.bits 12 3, w.bits 16 14, w.bits 32 14, w.bits 46 12, w.bits 59 5]

/-- R198: a write of `GLB_AGT_PORT`. -/
def State.agtPortWrite (p : Nat) (w : Word) (s : State) : State :=
  let was := s.flag GLB_AGT_PORT.EN p
  let old := s.word .GLB_AGT_PORT p 0
  if was && agtPortFields w != agtPortFields old then s
  else
    let s1 := s.setWord .GLB_AGT_PORT p 0 (((w.setBits 1 3 (old.bits 1 3)).setBits 15 1 0).setBits 30 2 0 |>.setBits 58 1 0)
    if was == w.flag 0 then s1
    else if was then s1.agtEnd p
    else if s1.agentOn then s1.agtBegin p
    else if s1.agtConfigOk p then s1
    else s1.raise 150 2 p

/-- AGT_PORT_WRITE (R198). -/
def execAgtPortWrite (p : Fin 32) (data : Word) (s : State) : Host.Outcome State Fault Refusal := finish (s.agtPortWrite p data)

end Sys2Proof.Machine
end

