-- ==== Sys2Proof/Machine/P384.lean ====
section
/-!
DEFINITION. The curve P-384 and ECDSA over it (FIPS 186-5), as the images, programs and tokens of the Bolorn are signed and as
SPDM signs (R99, R496, R528, R628). PRESUMED from the published standards (notes/assumptions/4.md).
-/

namespace Sys2Proof.Machine

/-- The field prime. -/
def p384P : Nat := 2 ^ 384 - 2 ^ 128 - 2 ^ 96 + 2 ^ 32 - 1

/-- The order of the group. -/
def p384N : Nat :=
  0xFFFFFFFFFFFFFFFFFFFFFFFFFFFFFFFFFFFFFFFFFFFFFFFFC7634D81F4372DDF581A0DB248B0A77AECEC196ACCC52973

/-- The constant b of the curve y² = x³ − 3x + b. -/
def p384B : Nat :=
  0xB3312FA7E23EE7E4988E056BE3F82D19181D9C6EFE8141120314088F5013875AC656398D8A2ED19D2A85C8EDD3EC2AEF

/-- A point in Jacobian coordinates; z = 0 is the point at infinity. -/
structure P384Point where
  x : Nat
  y : Nat
  z : Nat
  deriving DecidableEq, Repr

/-- The base point. -/
def p384G : P384Point :=
  { x := 0xAA87CA22BE8B05378EB1C71EF320AD746E1D3B628BA79B9859F741E082542A385502F25DBF55296C3A545E3872760AB7
    y := 0x3617DE4A96262C6F5D9E98BF9292DC29F8F41DBD289A147CE9DA3113B5F0B8C00A60B1CE1D7E819D7A431D7C90EA0E5F
    z := 1 }

/-- a − b in the field, for b below the prime. -/
def p384Sub (a b : Nat) : Nat := (a + p384P - b) % p384P

/-- A power modulo m, from the lowest `w` bits of the exponent. -/
def powMod (m : Nat) : Nat → Nat → Nat → Nat
  | 0, _, _ => 1 % m
  | w + 1, a, e => let h := powMod m w (a * a % m) (e / 2); if e % 2 == 1 then h * a % m else h

/-- The inverse modulo a prime. -/
def invMod (m a : Nat) : Nat := powMod m 384 (a % m) (m - 2)

/-- A point doubled. -/
def P384Point.double (q : P384Point) : P384Point :=
  if q.z == 0 || q.y == 0 then ⟨1, 1, 0⟩
  else
    let yy := q.y * q.y % p384P
    let s := 4 * q.x * yy % p384P
    let zz := q.z * q.z % p384P
    let m := 3 * (p384Sub q.x zz) * (q.x + zz) % p384P
    let x := p384Sub (m * m % p384P) (2 * s % p384P)
    ⟨x, p384Sub (m * p384Sub s x % p384P) (8 * yy * yy % p384P), 2 * q.y * q.z % p384P⟩

/-- Two points added. -/
def P384Point.add (a b : P384Point) : P384Point :=
  if a.z == 0 then b
  else if b.z == 0 then a
  else
    let zz1 := a.z * a.z % p384P
    let zz2 := b.z * b.z % p384P
    let u1 := a.x * zz2 % p384P
    let u2 := b.x * zz1 % p384P
    let s1 := a.y * b.z * zz2 % p384P
    let s2 := b.y * a.z * zz1 % p384P
    let h := p384Sub u2 u1
    let r := p384Sub s2 s1
    if h == 0 then (if r == 0 then a.double else ⟨1, 1, 0⟩)
    else
      let hh := h * h % p384P
      let hhh := h * hh % p384P
      let v := u1 * hh % p384P
      let x := p384Sub (p384Sub (r * r % p384P) hhh) (2 * v % p384P)
      ⟨x, p384Sub (r * p384Sub v x % p384P) (s1 * hhh % p384P), h * a.z * b.z % p384P⟩

/-- A multiple of a point, from the lowest `w` bits of the factor. -/
def P384Point.mul : Nat → Nat → P384Point → P384Point
  | 0, _, _ => ⟨1, 1, 0⟩
  | w + 1, k, q =>
    let h := P384Point.mul w (k / 2) q.double
    if k % 2 == 1 then h.add q else h

/-- The affine coordinates of a point other than infinity. -/
def P384Point.affine (q : P384Point) : Nat × Nat :=
  let i := invMod p384P q.z
  let ii := i * i % p384P
  (q.x * ii % p384P, q.y * ii * i % p384P)

/-- A point lies on the curve. -/
def onP384 (x y : Nat) : Bool :=
  x < p384P && y < p384P && y * y % p384P == (x * x * x + 3 * (p384P - x) + p384B) % p384P

/-- The signature (r ‖ s) over a SHA-384 digest verifies under a public key x ‖ y. -/
def ecdsaVerify (pub digest sig : List Byte) : Bool :=
  let x := beNat (pub.take 48)
  let y := beNat ((pub.drop 48).take 48)
  let r := beNat (sig.take 48)
  let s := beNat ((sig.drop 48).take 48)
  if pub.length == 96 && sig.length == 96 && onP384 x y && 0 < r && r < p384N && 0 < s && s < p384N then
    let w := invMod p384N s
    let u1 := beNat digest * w % p384N
    let u2 := r * w % p384N
    let q := (p384G.mul 384 u1).add (P384Point.mul 384 u2 ⟨x, y, 1⟩)
    q.z != 0 && q.affine.1 % p384N == r
  else false

/-- The signature (r ‖ s) of a digest under a private key, with a nonce of the signer's. -/
def ecdsaSign (d nonce : Nat) (digest : List Byte) : List Byte :=
  let k := nonce % (p384N - 1) + 1
  let r := (p384G.mul 384 k).affine.1 % p384N
  let s := invMod p384N k * ((beNat digest + r * d) % p384N) % p384N
  beBytes 48 r ++ beBytes 48 s

/-- The public key x ‖ y of a private key. -/
def p384Public (d : Nat) : List Byte :=
  let (x, y) := (p384G.mul 384 d).affine
  beBytes 48 x ++ beBytes 48 y

end Sys2Proof.Machine
end

