-- ==== Sys2Proof/Machine/ModeProg.lean ====
section
/-!
DEFINITION. Loading and unloading mode programs and engine microcode (Table 3-8, R99 to R101, R104).
-/

namespace Sys2Proof.Machine

/-- The header checks of R99: MAGIC, FORMAT, KIND, the reserved bytes, CODE_LEN a multiple of 4, and CODE_HASH. -/
def mpHeaderBad (kind : Nat) (img : List Byte) : Bool :=
  let len := beNat ((img.drop 12).take 4)
  beNat (img.take 4) != 0x4D505247 || beNat ((img.drop 4).take 2) != 1 || beNat ((img.drop 8).take 1) != kind
    || ((img.drop 28).take 52).any (· != 0) || ((img.drop 224).take 32).any (· != 0) || len % 4 != 0
    || (img.drop 80).take 48 != sha384 ((img.drop 256).take len)

/-- CODE_LEN above the limit of its kind. -/
def mpTooLarge (kind : Nat) (img : List Byte) : Bool :=
  (if kind == 1 then 24 * 1024 else 256 * 1024) < beNat ((img.drop 12).take 4)

/-- SIGNER of an image. -/
def mpSigner (img : List Byte) : Nat := beNat ((img.drop 9).take 1)

/-- The SIGNATURE of an image verifies under a public key. -/
def mpSigned (img pub : List Byte) : Bool := ecdsaVerify pub (sha384 (img.take 128)) ((img.drop 128).take 96)

/-- The program that an image carries. -/
def mpProgram (img : List Byte) : ModeProg :=
  { version := beNat ((img.drop 6).take 2), customer := mpSigner img == 1, form := beNat ((img.drop 10).take 1)
    suites := beNat ((img.drop 11).take 1), txEntry := beNat ((img.drop 16).take 4), rxEntry := beNat ((img.drop 20).take 4)
    jobEntry := beNat ((img.drop 24).take 4), code := (img.drop 256).take (beNat ((img.drop 12).take 4)) }

/-- The image-signing key of a handle, where KST lets it be used (R99). -/
def State.signingKey (s : State) (kh : Nat) : Option KeyRec := (s.usableKey? kh).filter fun k => k.purpose == 3

/-- R99: the signature of an image, whose Oroas public key is `pub`, does not verify. -/
def State.mpUnsigned (s : State) (kh : Nat) (img pub : List Byte) : Bool :=
  match mpSigner img with
  | 0 => !(s.lcm.oroasHashes.contains (sha384 pub) && mpSigned img pub)
  | 1 => !((s.signingKey kh).any fun k => mpSigned img k.key) && (s.signingKey kh).isSome
  | _ => true

/-- A set run by a pod that is not OFF (R101). -/
def State.setRuns (s : State) (n set : Nat) : Bool :=
  (List.range 6).any fun p => s.get FEN_POD_CTRL.STATE (6 * n + p) != 0 && s.get FEN_POD_CTRL.SET_IN_USE (6 * n + p) == set

/-- R99 to R104: the result of a LOAD of an image of a kind; `inUse` is R101's refusal. The lowest code that applies. Table 3-10 does not
map four of R99's checks: an image shorter than 256 + CODE_LEN answers DMA_FAULT, a CODE_HASH that differs BAD_HEADER, a SIGNER other
than 0 and 1 BAD_SIGNATURE, and a KH outside its range BAD_FIELD (DESIGN CHOICE, log 63). -/
def State.mpResult (s : State) (kind kh : Nat) (image : Option (List Byte)) (pub : List Byte) (inUse : Bool) : Nat :=
  match image with
  | none => 2
  | some img =>
    let cust := mpSigner img == 1
    firstCode
      [(cust && !(65536 ≤ kh && kh < 69632), 1), (img.length < 256 + beNat ((img.drop 12).take 4), 2),
       (mpHeaderBad kind img, 3), (mpTooLarge kind img, 4), (s.mpUnsigned kh img pub, 5),
       (cust && (s.signingKey kh).isNone, 6), (inUse, 7), (cust && s.lcState != 1 && s.lcState != 2, 8)]

/-- A command on `FEN_MP_CMD` begins, unless one is in progress. -/
def State.mpBegin (n : Nat) (c : MpCmd) (s : State) : State :=
  if s.flag FEN_MP_STATUS.BUSY n then s
  else { s.set FEN_MP_STATUS.BUSY n 1 with fen := { s.fen with mpCmd := s.fen.mpCmd.set n (some c) none } }

/-- The use that the verification of a customer's image counts (R513). -/
def mpUse (r kh : Nat) (image : Option (List Byte)) : Option Nat :=
  if r == 0 && image.any fun i => mpSigner i == 1 then some kh else none

/-- An installed program, or none, shows in `FEN_MP_SLOT`. -/
def State.mpShow (key : Nat) (p : Option ModeProg) (s : State) : State :=
  let i := 64 * (key / 128) + key % 64
  let one := natOfBool p.isSome
  let cust := natOfBool (p.any (·.customer))
  let form := p.elim 0 (·.form)
  let ver := p.elim 0 (·.version)
  if key / 64 % 2 == 0 then
    (((s.set FEN_MP_SLOT.VALID0 i one).set FEN_MP_SLOT.CUST0 i cust).set FEN_MP_SLOT.FORM0 i form).set
      FEN_MP_SLOT.VERSION0 i ver
  else
    (((s.set FEN_MP_SLOT.VALID1 i one).set FEN_MP_SLOT.CUST1 i cust).set FEN_MP_SLOT.FORM1 i form).set
      FEN_MP_SLOT.VERSION1 i ver

/-- A program placed in a slot of a set, or removed. -/
def State.putProg (key : Nat) (p : Option ModeProg) (s : State) : State :=
  ({ s with fen := { s.fen with progs := s.fen.progs.set key p none } }).mpShow key p

/-- A load begins; the octets that its DMA read are counted. -/
def State.mpLoadBegin (n : Nat) (image : Option (List Byte)) (c : MpCmd) (s : State) : State :=
  match image with
  | some i => (s.mpBegin n c).when (!s.flag FEN_MP_STATUS.BUSY n) fun s => s.dmaOctets i.length
  | none => s.mpBegin n c

/-- FEN_MP_LOAD (R99): `image` is what the DMA read answers (none: a fault) and `pub` the Oroas public key that the signature is
tried under. -/
def execFenMpLoad (n : Fin 4) (set : Fin 2) (slot : Fin 64) (kh : BitVec 17) (image : Option (List Byte)) (pub : List Byte)
    (s : State) : Host.Outcome State Fault Refusal :=
  let key := 128 * n.val + 64 * set.val + slot.val
  let r := s.mpResult 1 kh.toNat image pub ((s.fen.progs.get key none).isSome && s.setRuns n set)
  finish (s.mpLoadBegin n image
    { result := r, install := if r == 0 then image.map fun i => (key, mpProgram i) else none, remove := none, code := none
      use := mpUse r kh.toNat image })

/-- R101: UNLOAD is refused while an SA of the region with LIFE other than RETIRED names the slot. -/
def State.mpUnload (n set slot : Nat) (s : State) : State :=
  let named := s.tbl.sa.any fun x => x.1 / 16384 == n && x.2.any fun a => a.life != 4 && a.modeProg == slot
  s.mpBegin n
    { result := if named then 7 else 0, install := none
      remove := if named then none else some (128 * n + 64 * set + slot), code := none, use := none }

/-- FEN_MP_UNLOAD (R101). -/
def execFenMpUnload (n : Fin 4) (set : Fin 2) (slot : Fin 64) (s : State) : Host.Outcome State Fault Refusal :=
  finish (s.mpUnload n set slot)

/-- FEN_MP_LOAD_UCODE (R99, R101). -/
def execFenMpLoadUcode (n : Fin 4) (set : Fin 2) (kh : BitVec 17) (image : Option (List Byte)) (pub : List Byte)
    (s : State) : Host.Outcome State Fault Refusal :=
  let r := s.mpResult 2 kh.toNat image pub (s.setRuns n set)
  finish (s.mpLoadBegin n image
    { result := r, install := none, remove := none
      code := if r == 0 then image.map fun i => (2 * n.val + set.val, mpProgram i) else none, use := mpUse r kh.toNat image })

/-- R100, R104: a command ends with a result, and one that ends OK takes effect. -/
def State.mpEnd (n : Nat) (c : MpCmd) (r : Nat) (s : State) : State :=
  let s1 := { s with fen := { s.fen with mpCmd := s.fen.mpCmd.erase n } }
  let s2 := if r != 0 then s1 else
    match c.install, c.remove, c.code with
    | some x, _, _ => s1.putProg x.1 (some x.2)
    | _, some k, _ => s1.putProg k none
    | _, _, some x => { s1 with fen := { s1.fen with ucode := s1.fen.ucode.set x.1 (some x.2) none } }
    | _, _, _ => s1
  (((s2.set FEN_MP_STATUS.BUSY n 0).set FEN_MP_STATUS.DONE n 1).set FEN_MP_STATUS.RESULT n r).raise (115 + 8 * n) 1

/-- FEN_MP_CMD_END (R104); a verification under a customer's key counts its use first (R513, R517). -/
def execFenMpCmdEnd (n : Fin 4) (s : State) : Host.Outcome State Fault Refusal :=
  finish (match s.fen.mpCmd.get n none with
    | none => s
    | some c =>
      match c.use with
      | none => s.mpEnd n c c.result
      | some kh =>
        let (u, s1) := s.keyUse kh
        match u with
        | .ok => s1.mpEnd n c c.result
        | .refused => s1.mpEnd n c 6
        | .waits => s1)

end Sys2Proof.Machine
end

