-- ==== Sys2Proof/Machine/Nvj.lean ====
section
/-!
DEFINITION. The NVM interface block: the flash device (Table 16-1), configuration images (R528 to R533), the journal
(R534 to R544) and the event log (R545).
-/

namespace Sys2Proof.Machine

/-! ### The flash device -/

/-- `n` octets of the flash from an offset; an octet that nothing has programmed since its erase reads 0xFF. -/
def State.rd (s : State) (a n : Nat) : List Byte := (List.range n).map fun i => s.nvj.flash.get (a + i) 0xFF

/-- Octets programmed at an offset. -/
def State.prog (a : Nat) (l : List Byte) (s : State) : State :=
  { s with nvj := { s.nvj with flash := (l.zip (List.range l.length)).foldl (fun m x => m.set (a + x.2) x.1 0xFF) s.nvj.flash } }

/-- `n` octets erased from an offset. -/
def State.flashErase (a n : Nat) (s : State) : State :=
  { s with nvj := { s.nvj with flash := s.nvj.flash.filter fun e => !(a ≤ e.1 && e.1 < a + n) } }

/-- The octets from an offset are all erased. -/
def State.blank (s : State) (a n : Nat) : Bool := s.nvj.flash.all fun e => !(a ≤ e.1 && e.1 < a + n)

/-- A field of an octet list, the most significant octet first (notes/assumptions/50.md). -/
def fieldAt (l : List Byte) (a n : Nat) : Nat := beNat ((l.drop a).take n)

/-- CRC-32C as in R52 with initial value 0xFFFF_FFFF. -/
def flashCrc (l : List Byte) : Nat := crc32c 0xFFFFFFFF l

/-! ### Configuration images (R528) -/

/-- The base of an image slot. -/
def slotBase (slot : Nat) : Nat := 0x2000000 * slot

/-- A section of an image: TYPE, OFFSET, SLEN, SCRC and whether its reserved octets are 0. -/
structure ImgSect where
  typ : Nat
  off : Nat
  len : Nat
  crc : Nat
  rsvOk : Bool
  deriving DecidableEq, Repr

/-- Entry i of the section table (Table 16-3). -/
def sectAt (h : List Byte) (i : Nat) : ImgSect :=
  let a := 64 + 16 * i
  ⟨fieldAt h a 2, fieldAt h (a + 4) 4, fieldAt h (a + 8) 4, fieldAt h (a + 12) 4, fieldAt h (a + 2) 2 == 0⟩

/-- The sections of an image. -/
def imgSects (h : List Byte) : List ImgSect := (List.range (fieldAt h 7 1)).map (sectAt h)

/-- The octets of a section of the image in a slot. -/
def State.sectBytes (s : State) (slot : Nat) (x : ImgSect) : List Byte := s.rd (slotBase slot + x.off) x.len

/-- The octets of the section of a TYPE; none when the image has no such section. -/
def State.section? (s : State) (slot typ : Nat) : Option (List Byte) :=
  ((imgSects (s.rd (slotBase slot) 256)).find? fun x => x.typ == typ).map (s.sectBytes slot)

/-- Checks 2 and 3 of Table 16-6 on a header: 0 when they pass, else the result. -/
def headerResult (h : List Byte) : Nat :=
  let len := fieldAt h 16 4
  let n := fieldAt h 7 1
  if fieldAt h 0 4 != 0x55544B52 then 1
  else if fieldAt h 4 2 != 1 || 1 < fieldAt h 6 1 || n < 5 || 12 < n || len < 448 || 0x2000000 < len
      || fieldAt h 24 40 != 0 || fieldAt h (64 + 16 * n) (192 - 16 * n) != 0 || (imgSects h).any (fun x => !x.rsvOk) then 2
  else 0

/-- The items of an MPROG section: slot and program; none when they do not fit the section. -/
def mprogItems : Nat → List Byte → Option (List (Nat × List Byte))
  | 0, l => if l.isEmpty then some [] else none
  | n + 1, l =>
    if l.isEmpty then some [] else
    let size := 260 + fieldAt l 16 4
    if l.length < size || 64 ≤ fieldAt l 0 4 then none
    else (mprogItems n (l.drop size)).map ((fieldAt l 0 4, (l.take size).drop 4) :: ·)

/-- The items of the MPROG section of a slot's image. -/
def State.imgMprogs (s : State) (slot : Nat) : Option (List (Nat × List Byte)) :=
  match s.section? slot 6 with
  | some l => mprogItems 64 l
  | none => some []

/-- No number appears twice. -/
def noRepeat : List Nat → Bool
  | [] => true
  | x :: r => !r.contains x && noRepeat r

/-- Check 4 of Table 16-6. -/
def State.sectionsOk (s : State) (slot : Nat) : Bool :=
  let h := s.rd (slotBase slot) 256
  let xs := imgSects h
  let last := fieldAt h 16 4 - 192
  xs.all (fun x => 256 ≤ x.off && x.off % 256 == 0 && x.off + x.len ≤ last)
    && (xs.zip (List.range 12)).all (fun a => (xs.zip (List.range 12)).all fun b =>
        a.2 == b.2 || a.1.off + a.1.len ≤ b.1.off || b.1.off + b.1.len ≤ a.1.off)
    && noRepeat (xs.map (·.typ)) && [1, 2, 3, 5, 7].all (fun t => xs.any fun x => x.typ == t)
    && xs.all (fun x => flashCrc (s.sectBytes slot x) == x.crc)
    && (s.imgMprogs slot).any (fun l => noRepeat (l.map (·.1)))

/-- Check 6: the image's signature block names a known key (R492, R528). -/
def State.signerKnown (s : State) (slot : Nat) : Bool :=
  let h := s.rd (slotBase slot) 256
  let pub := s.rd (slotBase slot + fieldAt h 16 4 - 192) 96
  (if fieldAt h 6 1 == 0 then s.lcm.oroasHashes else s.lcm.customerHashes).contains (sha384 pub)

/-- Check 7: SIGNATURE. -/
def State.imgSigned (s : State) (slot : Nat) : Bool :=
  let len := fieldAt (s.rd (slotBase slot) 256) 16 4
  let img := s.rd (slotBase slot) len
  ecdsaVerify ((img.drop (len - 192)).take 96) (sha384 (img.take (len - 192))) (img.drop (len - 96))

/-- R469: a group of banks gives each master of Table 14-1 its count. -/
def mastersOk (l : List Byte) (counts : List (Nat × Nat)) : Bool :=
  counts.all (fun c => (l.filter fun m => m.toNat == c.1).length == c.2)

/-- R440, R469: the content of a LAYOUT section. -/
def layoutOk (l : List Byte) : Bool :=
  l.length == 96
    && (List.range 4).all (fun n => mastersOk ((l.drop (12 * n)).take 12) [(1, 6), (2, 1), (3, 1), (4, 2), (5, 1), (6, 1)])
    && mastersOk ((l.drop 48).take 4) [(7, 2), (8, 2)] && fieldAt l 52 12 == 0
    && (List.range 8).all fun i =>
      let u := fun k => fieldAt l (64 + 4 * i + k) 1
      u 0 == 1 && 1 ≤ u 1 && 1 ≤ u 2 && 1 ≤ u 3 && u 0 + u 1 + u 2 + u 3 == 32

/-- The CODE_LEN and CODE_HASH checks of R99 on a program of an image. -/
def codeOk (kind : Nat) (img : List Byte) : Bool :=
  let len := fieldAt img 12 4
  len % 4 == 0 && !mpTooLarge kind img && 256 + len ≤ img.length && (img.drop 80).take 48 == sha384 ((img.drop 256).take len)

/-- Check 8 of Table 16-6. -/
def State.contentOk (s : State) (slot : Nat) : Bool :=
  (s.section? slot 1).any layoutOk && (s.section? slot 5).any (codeOk 2) && ((s.imgMprogs slot).getD []).all (codeOk 1 ·.2)

/-- R528: the verification result of the image in a slot; `readOk` is false when the slot reads with a flash error. -/
def State.imgResult (s : State) (slot : Nat) (readOk : Bool) : Nat :=
  let h := s.rd (slotBase slot) 256
  if !readOk then 9
  else if headerResult h != 0 then headerResult h
  else if !s.sectionsOk slot then 3
  else if fieldAt h 6 1 == 1 && s.lcState != 1 && s.lcState != 2 then 8
  else if !s.signerKnown slot then 4
  else if !s.imgSigned slot then 5
  else if !s.contentOk slot then 6
  else 0

/-! ### Image commands (R532, R533) -/

/-- A command on `NVJ_IMG_CMD`: it is discarded while BUSY, and its result shows when it ends. -/
def State.imgBegin (run : State → State × Nat × Nat) (s : State) : State :=
  if s.flag NVJ_IMG_STATUS.BUSY then s else
  let x := run s
  { x.1.set NVJ_IMG_STATUS.BUSY 0 1 with nvj := { x.1.nvj with img := some x.2 } }

/-- ERASE of a slot: its result and the sectors erased. -/
def State.imgErase (slot : Nat) (s : State) : State × Nat × Nat :=
  if s.nvj.loaded == some slot then (s, 0xA, 0) else (s.flashErase (slotBase slot) 0x2000000, 0, 512)

/-- R533: the pages of a WRITE from the first: each is programmed from the octets that the DMA read. -/
def State.imgPages (slot : Nat) (bad : List Nat) : Nat → Nat → Nat → List Byte → State → State × Nat × Nat
  | 0, _, done, _, s => (s, 0, done)
  | n + 1, page, done, data, s =>
    let a := slotBase slot + 256 * page
    if data.length < 256 then (s, 0xC, done)
    else if !s.blank a 256 then (s, 9, done)
    else if bad.contains page then
      let x := s.drawOctets 256
      (x.2.prog a x.1, 9, done)
    else imgPages slot bad n (page + 1) (done + 1) (data.drop 256) (s.prog a (data.take 256))

/-- WRITE: BAD_FIELD for no pages or pages beyond the slot; a WRITE to a slot clears its BAD bit (R530). -/
def State.imgWrite (slot offset pages : Nat) (data : List Byte) (bad : List Nat) (s : State) : State × Nat × Nat :=
  if pages == 0 || 131072 < offset + pages then (s, 0xB, 0)
  else if s.nvj.loaded == some slot then (s, 0xA, 0)
  else ((s.set (if slot == 0 then NVJ_BOOT.BAD_A else NVJ_BOOT.BAD_B) 0 0).dmaOctets data.length).imgPages slot bad pages offset 0 data

/-- CHECK: the verification of R528 without loading. -/
def State.imgCheck (slot : Nat) (readOk : Bool) (s : State) : State × Nat × Nat :=
  if s.nvj.loaded == some slot then (s, 0xA, 0) else (s, s.imgResult slot readOk, 0)

/-- NVJ_IMG_ERASE (R532). -/
def execNvjImgErase (slot : Fin 2) (s : State) : Host.Outcome State Fault Refusal := finish (s.imgBegin (State.imgErase slot))

/-- NVJ_IMG_WRITE (R533): `data` are the octets that the DMA delivered (fewer than the pages name: a DMA fault), `bad` the pages
that do not read back as written. -/
def execNvjImgWrite (slot : Fin 2) (offset : BitVec 17) (pages : BitVec 16) (data : List Byte) (bad : List Nat) (s : State) :
    Host.Outcome State Fault Refusal :=
  finish (s.imgBegin (State.imgWrite slot offset.toNat pages.toNat data bad))

/-- NVJ_IMG_CHECK (R528). -/
def execNvjImgCheck (slot : Fin 2) (readOk : Bool) (s : State) : Host.Outcome State Fault Refusal :=
  finish (s.imgBegin (State.imgCheck slot readOk))

/-- NVJ_IMG_CMD_END: BUSY clears, RESULT and PROGRESS show and DONE raises the image-command event. -/
def execNvjImgCmdEnd (s : State) : Host.Outcome State Fault Refusal :=
  finish (match s.nvj.img with
    | none => s
    | some (r, n) =>
      let s1 := ((s.set NVJ_IMG_STATUS.BUSY 0 0).set NVJ_IMG_STATUS.RESULT 0 r).set NVJ_IMG_STATUS.PROGRESS 0 n
      ({ s1.set NVJ_IMG_STATUS.DONE 0 1 with nvj := { s1.nvj with img := none } }).raise 146 1)

/-! ### Journal regions (R534, R535) -/

/-- The flash offset of a journal sector, 256r + physical sector. -/
def sectorBase (k : Nat) : Nat := 0x4000000 + 65536 * k

/-- The magic number of COMMIT with the low half of a GEN or SEQ. -/
def commitOf (n : Nat) : List Byte := beBytes 4 0x4A434D54 ++ beBytes 4 n

/-- R535: the head record of a region is valid. -/
def State.regionValid (s : State) (r : Nat) : Bool :=
  let h := s.rd (sectorBase (256 * r) + 256) 2464
  fieldAt h 0 4 == 0x4A484544 && fieldAt h 2448 4 == flashCrc (h.take 2448) && (h.drop 2456).take 8 == commitOf (fieldAt h 8 8)

/-- GEN of a region's head record. -/
def State.regionGen (s : State) (r : Nat) : Nat := fieldAt (s.rd (sectorBase (256 * r) + 256) 2464) 8 8

/-- The valid region with the higher GEN. -/
def State.validRegion (s : State) : Option Nat :=
  match s.regionValid 0, s.regionValid 1 with
  | true, true => some (if s.regionGen 0 < s.regionGen 1 then 1 else 0)
  | true, false => some 0
  | false, true => some 1
  | false, false => none

/-- MAP of a region's head record. -/
def State.regionMap (s : State) (r : Nat) : List Nat :=
  (List.range 192).map fun i => fieldAt (s.rd (sectorBase (256 * r) + 272 + 2 * i) 2) 0 2

/-- R534: the erase count of a sector, from its header or, when that is blank, from the latest valid head record. -/
def State.eraseCount (s : State) (k : Nat) : Nat :=
  let h := s.rd (sectorBase k) 16
  if fieldAt h 0 4 == 0x4A534543 && fieldAt h 12 4 == flashCrc (h.take 12) then fieldAt h 4 4
  else match s.validRegion with
    | some r => fieldAt (s.rd (sectorBase (256 * r) + 656 + 4 * k) 4) 0 4
    | none => 0

/-- The sector header of Table 16-7. -/
def sectorHeader (k count : Nat) (retired : Bool) : List Byte :=
  let l := beBytes 4 0x4A534543 ++ beBytes 4 count ++ [BitVec.ofNat 8 (k / 256), if retired then 0xA5 else 0, 0, 0]
  l ++ beBytes 4 (flashCrc l)

/-- A sector is retired (R538): RETIRED = 0xA5 is written. -/
def State.retireSector (k : Nat) (s : State) : State :=
  let s1 := s.prog (sectorBase k + 9) [0xA5]
  { s1 with nvj := { s1.nvj with retired := if k ∈ s1.nvj.retired then s1.nvj.retired else s1.nvj.retired ++ [k] } }


/-- Spare sectors that a region has left: 63 less its retired sectors. -/
def State.sparesLeft (s : State) (r : Nat) : Nat := 63 - (s.nvj.retired.filter fun k => k / 256 == r).length

/-- The map of a region's next head record: a spare in place of each retired working sector (R538). -/
def State.nextMap (s : State) (r : Nat) : List Nat :=
  let good := fun p => !(s.nvj.retired.contains (256 * r + p))
  let spares := ((List.range 63).map (· + 193)).filter good
  (((List.range 192).map (· + 1)).foldl (fun (x : List Nat × List Nat) p =>
    if good p then (x.1 ++ [p], x.2) else match x.2 with
      | q :: rest => (x.1 ++ [q], rest)
      | [] => (x.1 ++ [p], [])) ([], spares)).1

/-- A head record, COMMIT included (Table 16-8). -/
def State.headRecord (s : State) (gen : Nat) (map : List Nat) : List Byte :=
  let l := beBytes 4 0x4A484544 ++ beBytes 4 0 ++ beBytes 8 gen ++ map.flatMap (beBytes 2)
    ++ (List.range 512).flatMap (fun k => beBytes 4 (s.eraseCount k))
  l ++ beBytes 4 (flashCrc l) ++ beBytes 4 0 ++ commitOf gen

/-- `NVJ_JSTATUS` shows the journal: the active region, its fill, the spares and the highest erase count. -/
def State.journalShow (s : State) : State :=
  let fill := (256 * s.nvj.pos + s.nvj.boundary - 1) * 100 / (256 * 192)
  let s1 := ((s.set NVJ_JSTATUS.ACTIVE 0 s.nvj.active).set NVJ_JSTATUS.FILL 0 (min fill 100)).set NVJ_JSTATUS.SPARES0 0 (s.sparesLeft 0)
  let inUse := (List.range 512).filter fun k => !s.nvj.retired.contains k
  (s1.set NVJ_JSTATUS.SPARES1 0 (s.sparesLeft 1)).set NVJ_JSTATUS.MAX_ERASE 0 (inUse.foldl (fun m k => max m (s.eraseCount k)) 0)

/-- An `NVJ_JCTRL` command ends. -/
def State.jEnd (result : Nat) (s : State) : State :=
  let s1 := ((s.set NVJ_JSTATUS.BUSY 0 0).set NVJ_JSTATUS.RESULT 0 result).set NVJ_JSTATUS.DONE 0 1
  { s1 with nvj := { s1.nvj with jcmd := none } }

/-- R539: the journal becomes read-only: a compaction under way goes no further, and the command in progress ends with READ_ONLY. -/
def State.journalLock (s : State) : State :=
  if s.journalReadOnly then s else
  let s1 := ((s.set NVJ_JSTATUS.READ_ONLY 0 1).set NVJ_JSTATUS.COMPACTING 0 0).raise 146 3
  { s1 with nvj := { s1.nvj with compacting := false } }.when s.nvj.jcmd.isSome fun s => s.jEnd 0xD

/-- R538, R539: a sector must be retired. -/
def State.journalRetire (k : Nat) (s : State) : State :=
  if s.sparesLeft (k / 256) == 0 then s.journalLock else s.retireSector k

/-- R534, R538, R539: a journal sector is erased and its header programmed; at 95,000 erases it is retired. -/
def State.eraseSector (k : Nat) (s : State) : State :=
  let n := s.eraseCount k + 1
  let s1 := (s.flashErase (sectorBase k) 65536).prog (sectorBase k) (sectorHeader k n (k ∈ s.nvj.retired))
  if 95000 ≤ n && !s.nvj.retired.contains k then s1.journalRetire k else s1

/-- The journal is formatted: both regions erased, sector headers, a head record of GEN 1 in J0 (R535). -/
def State.journalFormat (s : State) : State :=
  let s1 := s.forN 512 fun k s => s.eraseSector k
  let map := s1.nextMap 0
  let s2 := s1.prog (sectorBase 0 + 256) (s1.headRecord 1 map)
  ({ s2 with nvj := { s2.nvj with map := map, active := 0, gen := 1, pos := 0, boundary := 1, preErase := [], compacting := false
                                  prog := none, committing := false } }).journalShow

/-! ### Entries (R536 to R541) -/

/-- The flash offset of a place of the active region. -/
def State.placeBase (s : State) (pos boundary : Nat) : Nat :=
  sectorBase (256 * s.nvj.active + s.nvj.map.getD pos 0) + 256 * boundary

/-- C of an entry: 48 + LENGTH rounded up to a multiple of 8. -/
def entryC (len : Nat) : Nat := (48 + len + 7) / 8 * 8

/-- The 256-byte boundaries that an entry takes. -/
def entrySpan (len : Nat) : Nat := ceilDiv (entryC len + 8) 256

/-- Where an entry of a payload length goes: it never crosses a sector boundary. -/
def State.entryPlace (s : State) (len : Nat) : Nat × Nat :=
  if s.nvj.boundary + entrySpan len ≤ 256 then (s.nvj.pos, s.nvj.boundary) else (s.nvj.pos + 1, 1)

/-- Offsets 0 to 31 of an entry (Table 16-9). -/
def entryHead (typ len seq kstate : Nat) : List Byte :=
  let l := beBytes 4 0x4A454E54 ++ beBytes 2 typ ++ beBytes 2 len ++ beBytes 8 seq ++ [BitVec.ofNat 8 kstate, 0, 0, 0]
  l ++ beBytes 4 (flashCrc l) ++ beBytes 8 0

/-- Offsets 0 to C - 1 of an entry: its header, the ciphertext under the journal key, the tag, and octets that the spec leaves
open up to C. -/
def State.entryBytes (key : List Byte) (seq : Nat) (r : JReq) (s : State) : List Byte × State :=
  let h := entryHead r.typ r.payload.length seq s.lcState
  let x := gcmEncrypt key seq h r.payload
  let pad := s.drawOctets (entryC r.payload.length - 48 - r.payload.length)
  (h ++ x.1 ++ blockBytes x.2 ++ pad.1, pad.2)

/-- The entry at a 256-byte boundary of a working sector, when its MAGIC and HCRC are right. -/
def State.entryAt (s : State) (a : Nat) : Option JEntry :=
  let h := s.rd a 32
  if fieldAt h 0 4 == 0x4A454E54 && fieldAt h 20 4 == flashCrc (h.take 20) then
    let len := fieldAt h 6 2
    let b := s.rd a (entryC len + 8)
    some ⟨fieldAt h 16 1, b.drop (entryC len) == commitOf (fieldAt h 8 8), fieldAt h 4 2, fieldAt h 8 8, h, (b.drop 32).take len
      , (b.drop (32 + len)).take 16, b⟩
  else none

/-- Every entry of a region's working sectors, in MAP order. -/
def State.entries (s : State) (r : Nat) (map : List Nat) : List JEntry :=
  map.flatMap fun p => (List.range 255).filterMap fun b => s.entryAt (sectorBase (256 * r + p) + 256 * (b + 1))

/-- An entry placed by its SEQ among entries in SEQ order. -/
def insertSeq (e : JEntry) : List JEntry → List JEntry
  | [] => [e]
  | x :: r => if e.seq ≤ x.seq then e :: x :: r else x :: insertSeq e r

/-- Entries in SEQ order. -/
def bySeq (l : List JEntry) : List JEntry := l.foldr insertSeq []

/-- The plaintext payload of an entry, when its tag is right. -/
def JEntry.payload (key : List Byte) (e : JEntry) : Option (List Byte) :=
  let x := gcmDecrypt key e.seq e.head e.body (blockOf e.tag)
  if x.2 then some x.1 else none

/-- R511: a commit reaches the port that made the change. -/
def State.portCommitted (host : Bool) (s : State) : State :=
  let m := if host then Master.host else Master.mcu
  ((s.setKstWait m none).set KST_STATUS.COMMITTED m.idx 1).kstNext

/-- R509, R510: the entry of a slot's oldest change commits. -/
def State.slotCommitted (kh : Nat) (s : State) : State :=
  match (s.slot kh).changes with
  | [] => s
  | c :: rest =>
    let s1 := s.putSlot kh { s.slot kh with changes := rest }
    (match c.key with
      | some k => s1.keyInstall kh k
      | none => s1).portCommitted c.host

/-- R517: a checkpoint commits. -/
def State.ckptCommitted (kh c : Nat) (s : State) : State :=
  match s.key? kh with
  | some k => s.putSlot kh { s.slot kh with key := some { k with checkpoint := c } }
  | none => s

/-- What the commit of an entry completes. -/
def State.entryCommitted (r : JReq) (s : State) : State :=
  match r.typ with
  | 1 => s.slotCommitted (fieldAt r.payload 0 4)
  | 2 => s.slotCommitted (fieldAt r.payload 0 4)
  | 3 => s.ckptCommitted (fieldAt r.payload 0 4) (fieldAt r.payload 4 8)
  | 5 => if s.nvj.jcmd == some 2 then s.jEnd 0 else s
  | 6 => if s.nvj.jcmd == some 3 then s.jEnd 0 else s
  | _ => s

/-- R542: compaction starts. -/
def State.compactStart (s : State) : State :=
  if s.nvj.compacting || s.journalReadOnly then s
  else { s.set NVJ_JSTATUS.COMPACTING 0 1 with nvj := { s.nvj with compacting := true } }

/-- R542: compaction starts at 75 % of the active region's working sectors. -/
def State.fillCheck (s : State) : State :=
  if 75 * 256 * 192 ≤ (256 * s.nvj.pos + s.nvj.boundary - 1) * 100 then s.compactStart else s

/-- R538: a program of the entry did not read back: its sector is retired and the entry goes to the start of the next working
position. With no working position left it waits again, for a compaction. -/
def State.entryRetry (p : JProg) (s : State) : State :=
  let s1 := s.journalRetire (256 * s.nvj.active + s.nvj.map.getD p.pos 0)
  let n := { s1.nvj with committing := false, pos := p.pos + 1, boundary := 1, prog := none }
  let s2 :=
    if s1.journalReadOnly then { s1 with nvj := n }
    else if 192 ≤ p.pos + 1 then { s1 with nvj := { n with queue := p.req :: s1.nvj.queue } }
    else { s1 with nvj := { n with prog := some { p with pos := p.pos + 1, boundary := 1 } } }
  s2.journalShow.fillCheck

/-- The first program of an entry (R536), `ok` when it reads back. -/
def State.entryProgram (p : JProg) (ok : Bool) (s : State) : State :=
  let a := s.placeBase p.pos p.boundary
  if ok then
    let s1 := s.prog a p.bytes
    { s1 with nvj := { s1.nvj with prog := some p, committing := !s1.nvj.stopped } }
  else
    let x := s.drawOctets p.bytes.length
    (x.2.prog a x.1).entryRetry p

/-- The next waiting entry, encrypted, at its place; none while nothing may be appended (R539, R542). -/
def State.entryNext (s : State) : Option JProg × State :=
  if s.journalReadOnly || s.nvj.compacting then (none, s) else
  match s.nvj.queue, s.nvj.key with
  | r :: _, some key =>
    let pl := s.entryPlace r.payload.length
    if 192 ≤ pl.1 then (none, s) else
    let x := s.entryBytes key s.nvj.seq r
    (some ⟨r, x.1, s.nvj.seq, pl.1, pl.2⟩, { x.2 with nvj := { x.2.nvj with queue := x.2.nvj.queue.drop 1, seq := x.2.nvj.seq + 1 } })
  | _, _ => (none, s)

/-- JOURNAL_ENTRY_PROGRAM (R536): the body of the entry that waits longest, or of one being rewritten (R538), is programmed and
read back. -/
def execJournalEntryProgram (ok : Bool) (s : State) : Host.Outcome State Fault Refusal :=
  finish (match s.nvj.prog with
    | some p => if s.nvj.committing || s.nvj.stopped then s else s.entryProgram p ok
    | none => match s.entryNext with
      | (some p, s1) => s1.entryProgram p ok
      | (none, s1) => s1)

/-- JOURNAL_COMMIT_DONE (R536, R537): the program of COMMIT ends, and the entry is committed when it reads back. -/
def execJournalCommitDone (ok : Bool) (s : State) : Host.Outcome State Fault Refusal :=
  finish (match s.nvj.prog with
    | some p =>
      if !s.nvj.committing then s else
      let a := s.placeBase p.pos p.boundary + entryC p.req.payload.length
      if ok then
        let s1 := s.prog a (commitOf p.seq)
        (({ s1 with nvj := { s1.nvj with prog := none, committing := false, pos := p.pos
                                         boundary := p.boundary + entrySpan p.req.payload.length } }).entryCommitted p.req).journalShow.fillCheck.pmcEvent 4 0x13 0 1
      else
        let x := s.drawOctets 8
        (x.2.prog a x.1).entryRetry p
    | none => s)

/-! ### Compaction (R542) -/

/-- A decrypted entry: TYPE, SEQ and payload. -/
abbrev JPlain := Nat × Nat × List Byte

/-- The key handle of a KEY, ERASE or USE_CKPT entry. -/
def plainKh (e : JPlain) : Nat := fieldAt e.2.2 0 4

/-- Table 16-10: a later entry ends the life of an earlier one. -/
def ends (e later : JPlain) : Bool :=
  match e.1 with
  | 1 => (later.1 == 1 || later.1 == 2) && plainKh later == plainKh e
  | 2 => later.1 == 1 && plainKh later == plainKh e
  | 3 => (later.1 == 1 || later.1 == 2 || later.1 == 3) && plainKh later == plainKh e
  | 5 => later.1 == 6
  | 6 => later.1 == 6
  | 7 => later.1 == 8
  | 8 => later.1 == 8
  | _ => false

/-- The live entries of a list in SEQ order (Table 16-10). -/
def liveOf {α : Type} : List (JPlain × α) → List (JPlain × α)
  | [] => []
  | e :: r => if 1 ≤ e.1.1 && e.1.1 ≤ 8 && !(r.any fun l => ends e.1 l.1) then e :: liveOf r else liveOf r

/-- The entries that a compaction copies: the live entries of the current KSTATE, and every LC entry (notes/assumptions/50.md). -/
def State.liveEntries (key : List Byte) (s : State) : List JEntry :=
  let es := bySeq ((s.entries s.nvj.active s.nvj.map).filter (·.committed))
  (liveOf (es.filterMap fun e =>
    if e.typ == 4 then some ((4, e.seq, []), e)
    else if e.kstate == s.lcState then (e.payload key).map fun p => ((e.typ, e.seq, p), e) else none)).map (·.2)

/-- The working positions of a map that a copy may use. -/
def copyPlace (bad : List Nat) (span : Nat) : Nat → Nat → Nat → Nat × Nat
  | 0, pos, b => (pos, b)
  | n + 1, pos, b => if bad.contains pos || 256 < b + span then copyPlace bad span n (pos + 1) 1 else (pos, b)

/-- One entry copied into the other region; `x` is the place after the last copy. -/
def State.copyEntry (r : Nat) (map bad : List Nat) (x : Nat × Nat) (e : JEntry) (s : State) : (Nat × Nat) × State :=
  let span := ceilDiv e.bytes.length 256
  let pl := copyPlace bad span 193 x.1 x.2
  ((pl.1, pl.2 + span), s.prog (sectorBase (256 * r + map.getD pl.1 0) + 256 * pl.2) e.bytes)

/-- R542: the copy, the head record and the switch. `bad` are the working positions of the other region whose programs do not read
back (R538). -/
def State.compact (key : List Byte) (bad : List Nat) (s : State) : State :=
  let r := 1 - s.nvj.active
  let s1 := s.forL s.nvj.preErase fun k s => s.eraseSector k
  let map := s1.nextMap r
  let es := s1.liveEntries key
  let x := es.foldl (fun (x : (Nat × Nat) × State) e => x.2.copyEntry r map bad x.1 e) ((0, 1), s1)
  let s2 := (x.2.forL (bad.filter (· < 192)) fun p s => s.journalRetire (256 * r + map.getD p 0))
  if s2.journalReadOnly then s2.journalShow else
  let s3 := s2.prog (sectorBase (256 * r) + 256) (s2.headRecord (s2.nvj.gen + 1) map)
  let s4 := { s3.set NVJ_JSTATUS.COMPACTING 0 0 with
    nvj := { s3.nvj with active := r, gen := s3.nvj.gen + 1, map := map, pos := x.1.1, boundary := x.1.2, compacting := false
                         preErase := (List.range 256).map (256 * (1 - r) + ·) } }
  (if s4.nvj.jcmd == some 1 then s4.jEnd 0 else s4).journalShow

/-- COMPACTION_SWITCH (R542). -/
def execCompactionSwitch (bad : List Nat) (s : State) : Host.Outcome State Fault Refusal :=
  finish (match s.nvj.key with
    | some key => if s.nvj.compacting && s.nvj.prog.isNone then s.compact key bad else s
    | none => s)

/-- JOURNAL_PRE_ERASE (R527, R534): the next sector of the inactive region is erased. -/
def execJournalPreErase (s : State) : Host.Outcome State Fault Refusal :=
  finish (match s.nvj.preErase with
    | [] => s
    | k :: rest =>
      let s1 := s.eraseSector k
      ({ s1 with nvj := { s1.nvj with preErase := rest } }).journalShow)

/-! ### Journal commands (R539, R542, R546) -/

/-- A command on `NVJ_JCTRL` begins; a write to OP while BUSY is discarded. -/
def State.jBegin (op : Nat) (run : State → State) (s : State) : State :=
  if s.flag NVJ_JSTATUS.BUSY then s else run ({ s.set NVJ_JSTATUS.BUSY 0 1 with nvj := { s.nvj with jcmd := some op } })

/-- The register write records of a payload: offset and value, and whether their reserved octets are 0 (R529). -/
def recordsOf : Nat → List Byte → List (Nat × Nat × Bool)
  | 0, _ => []
  | n + 1, l => (fieldAt l 0 4, fieldAt l 8 8, fieldAt l 4 4 == 0) :: recordsOf n (l.drop 16)

/-- R529: a CONFIG record that may be applied. -/
def configOk (l : List Byte) : Bool := (recordsOf (l.length / 16) l).all fun x => recordTarget false x.1 && x.2.2

/-- COMPACT: on a read-only journal, which compacts nothing, it ends with READ_ONLY. -/
def State.jCompact (s : State) : State :=
  s.jBegin 1 fun s => if s.journalReadOnly then s.jEnd 0xD else s.compactStart

/-- APPEND_CONFIG of `n` records; `data` are the octets that the DMA read. -/
def State.jAppendConfig (n : Nat) (data : Option (List Byte)) (s : State) : State :=
  s.jBegin 2 fun s =>
    if s.journalReadOnly then s.jEnd 0xD
    else match data with
      | some l =>
        if l.length < 16 * n then s.jEnd 0xC
        else
          let s1 := s.dmaOctets (16 * n)
          if configOk (l.take (16 * n)) then s1.journal 5 (l.take (16 * n)) else s1.jEnd 7
      | none => s.jEnd 0xC

/-- CONFIG_RESET. -/
def State.jConfigReset (s : State) : State :=
  s.jBegin 3 fun s => if s.journalReadOnly then s.jEnd 0xD else s.journal 6 []

/-- R546: every key that a journal entry holds is erased. -/
def State.journalKeysErase (s : State) : State :=
  s.forL ((s.kst.slots.filter fun e => e.2.key.any fun k => !k.vol).map (·.1)) fun kh s => (s.keyErase kh).startWipe kh

/-- FORMAT: `ok` when every sector can be written; a master that may not format is discarded. -/
def State.jFormat (m : Master) (confirm : Nat) (ok : Bool) (s : State) : State :=
  if m == .host && !s.flag KST_CTRL.PF0_KEYWR then s
  else s.jBegin 4 fun s =>
    if confirm != 0x464D5430 then s.jEnd 0xB
    else
      let s1 := s.journalKeysErase.journalFormat
      let s2 := s1.when ok fun s => (s.set NVJ_JSTATUS.CORRUPT 0 0).set NVJ_JSTATUS.READ_ONLY 0 0
      s2.jEnd (if ok then 0 else 9)

/-- NVJ_COMPACT (R542). -/
def execNvjCompact (s : State) : Host.Outcome State Fault Refusal := finish s.jCompact

/-- NVJ_APPEND_CONFIG (R546). -/
def execNvjAppendConfig (records : BitVec 8) (data : Option (List Byte)) (s : State) : Host.Outcome State Fault Refusal :=
  finish (s.jAppendConfig (records.toNat + 1) data)

/-- NVJ_CONFIG_RESET (R546). -/
def execNvjConfigReset (s : State) : Host.Outcome State Fault Refusal := finish s.jConfigReset

/-- NVJ_FORMAT (R546). -/
def execNvjFormat (m : Master) (confirm : BitVec 32) (ok : Bool) (s : State) : Host.Outcome State Fault Refusal :=
  finish (s.byWrite m .NVJ_JCTRL 0 fun s => s.jFormat m confirm.toNat ok)

/-! ### Replay (R535, R540, R541) -/

/-- R517: a key at replay has USED and the committed checkpoint at C; one whose uses are spent is disabled with CAUSE = LIMIT (R514). -/
def KeyRec.atCheckpoint (k : KeyRec) (c : Nat) : KeyRec :=
  { k with used := c, checkpoint := c, cause := if k.limitEn && k.useLimit ≤ c then 1 else 0 }

/-- One entry applied to the key store and the lists that start-up uses (R540). -/
def State.replayApply (e : JPlain) (s : State) : State :=
  let kh := plainKh e
  match e.1 with
  | 1 =>
    let a := KeyAttr.ofWord (BitVec.ofNat 64 (fieldAt e.2.2 4 8))
    let key := (e.2.2.drop 16).take (if a.len == 2 then 96 else if a.len == 1 then 32 else 16)
    s.keyInstall kh ({ a.record key 0 with vol := false }.atCheckpoint (fieldAt e.2.2 112 8))
  | 2 => s.keyErase kh
  | 3 =>
    match s.key? kh with
    | some k => s.putSlot kh { s.slot kh with key := some (k.atCheckpoint (fieldAt e.2.2 4 8)) }
    | none => s
  | 5 => { s with nvj := { s.nvj with config := s.nvj.config ++ [e.2.2] } }
  | 6 => { s with nvj := { s.nvj with config := [] } }
  | 7 => { s with nvj := { s.nvj with repairs := s.nvj.repairs ++ [e.2.2] } }
  | 8 => { s with nvj := { s.nvj with starts := fieldAt e.2.2 0 8, repairs := [] } }
  | _ => s

/-- One entry of the replay loop: counted, or applied. -/
def State.replayEntry (key : List Byte) (e : JEntry) (s : State) : State :=
  if !e.committed then s.inc NVJ_REPLAY.IGNORED 0
  else if e.kstate != s.lcState then s.inc NVJ_REPLAY.FOREIGN 0
  else match e.payload key with
    | none => s.inc NVJ_REPLAY.AUTH_FAIL 0
    | some p => if 1 ≤ e.typ && e.typ ≤ 8 then (s.replayApply (e.typ, e.seq, p)).inc NVJ_REPLAY.APPLIED 0 else s

/-- R541: the place after the last octet of the active region that is not blank. -/
def State.appendPlace (s : State) (r : Nat) (map : List Nat) : Nat × Nat :=
  (List.range 192).foldl (fun x p =>
    let base := sectorBase (256 * r + map.getD p 0)
    let last := s.nvj.flash.foldl (fun m e => if base + 256 ≤ e.1 && e.1 < base + 65536 then max m (e.1 - base) else m) 0
    if last == 0 then x else if last / 256 == 255 then (p + 1, 1) else (p, last / 256 + 1)) (0, 1)

/-- The retired sectors by their headers. -/
def State.retiredScan (s : State) : List Nat := (List.range 512).filter fun k => s.rd (sectorBase k + 9) 1 == [0xA5#8]

/-- Replay of a valid region under the journal key. -/
def State.replayRegion (key : List Byte) (r : Nat) (s : State) : State :=
  let map := s.regionMap r
  let es := bySeq (s.entries r map)
  let seq := es.foldl (fun m e => max m e.seq) 0 + 65536
  let pl := s.appendPlace r map
  let s1 := { s with nvj := { s.nvj with active := r, gen := s.regionGen r, map := map, pos := pl.1, boundary := pl.2, seq := seq
                                         config := [], repairs := [], retired := s.retiredScan
                                         preErase := (List.range 256).map (256 * (1 - r) + ·) } }
  let s2 := s1.forL es fun e s => s.replayEntry key e
  (s2.when (s2.get NVJ_REPLAY.AUTH_FAIL != 0) fun s => s.raise 146 4).journalShow

/-- replay(): R535 and the pseudocode before R540, under the journal key. -/
def State.replay (key : List Byte) (s : State) : State :=
  let s1 := { s.resetReg .NVJ_REPLAY 0 with nvj := { s.nvj with key := some key, replayed := true } }
  match s1.validRegion with
  | some r => s1.replayRegion key r
  | none =>
    if s1.blank 0x4000000 0x2000000 then s1.journalFormat
    else ((s1.set NVJ_JSTATUS.CORRUPT 0 1).set NVJ_JSTATUS.READ_ONLY 0 1).raise 146 2

/-! ### The event log (R545) -/

/-- The four words of an event record (Table 19-11). -/
def EventRec.words (e : EventRec) : List Word :=
  [BitVec.ofNat 64 (e.source + natOfBool e.tbValid * 2 ^ 9 + e.code * 2 ^ 12 + e.inst * 2 ^ 16 + e.seq * 2 ^ 32)
  , BitVec.ofNat 64 (e.ns + e.sec * 2 ^ 32), BitVec.ofNat 64 e.arg0, BitVec.ofNat 64 e.arg1]

/-- The 32 octets of an event record. -/
def EventRec.octets (e : EventRec) : List Byte := e.words.flatMap fun w => beBytes 8 w.toNat

end Sys2Proof.Machine
end

