-- ==== Sys2Proof/Machine/Alert.lean ====
section
/-!
DEFINITION. ALERT_N and the in-band interrupt (R641), and the event log (R545) whose records it watches.
-/

namespace Sys2Proof.Machine

/-- The offsets, in records, of the event log's records in the flash. -/
def State.logRecords (s : State) : List Nat :=
  (s.nvj.flash.filter fun e => 0x6000000 ≤ e.1 && e.1 < 0x6800000).foldl
    (fun l e => let i := (e.1 - 0x6000000) / 32; if l.getLast? == some i then l else l ++ [i]) []

/-- The record at a place of the event log. -/
def State.logRecord (s : State) (i : Nat) : List Byte := s.rd (0x6000000 + 32 * i) 32

/-- SEQ of a logged record. -/
def recSeq (l : List Byte) : Nat := fieldAt l 0 4

/-- SOURCE of a logged record. -/
def recSource (l : List Byte) : Nat := fieldAt l 0 8 % 512

/-- R641: the event log holds a record of a masked-in source above the last ACK_ALERT. -/
def State.logAlerts (s : State) : Bool :=
  s.logRecords.any fun i =>
    let l := s.logRecord i
    (s.get SBM_ALERT_MASK.SRC (recSource l / 64)).testBit (recSource l % 64) && (s.sb.ackSeq.all fun a => a < recSeq l)

/-- R641: the conditions that drive ALERT_N low. -/
def State.alerting (s : State) : Bool :=
  s.word .TMP_ALARM 0 0 != 0 || s.flag TMP_STATUS.HOLD || s.flag TMP_STATUS.TAMPER_RECORDED || s.flag GLB_OWNER.REQ
    || s.flag GLB_OWNER.FORCED || s.logAlerts

/-- ALERT_N follows its conditions; in I3C mode an enabled in-band interrupt is raised when it goes low. -/
def State.alertUpdate (s : State) : State :=
  let a := s.alerting
  let rises := a && !s.flag SBM_STATUS.ALERT && s.sb.ibi && s.get SBM_STATUS.MODE == 1
  let s1 := s.set SBM_STATUS.ALERT 0 (natOfBool a)
  if rises then { s1 with sb := { s1.sb with ibis := s1.sb.ibis + 1 } } else s1

/-- EVENT_LOG_WRITE (R545): the record that waits longest is written; the log's oldest sector is erased when the log enters it. -/
def execEventLogWrite (s : State) : Host.Outcome State Fault Refusal :=
  finish (match s.evt.logQueue with
    | [] => s
    | e :: rest =>
      let a := 0x6000000 + s.nvj.logAt
      let s1 := (s.when (s.nvj.logAt % 65536 == 0) fun s => s.flashErase a 65536).prog a e.octets
      ({ s1 with evt := { s1.evt with logQueue := rest }, nvj := { s1.nvj with logAt := (s1.nvj.logAt + 32) % 0x800000 } }).alertUpdate)

end Sys2Proof.Machine
end

