-- ==== Sys2Proof/Machine/Hif.lean ====
section
/-!
DEFINITION. The rings of PF1 at work (R605 to R617), translations and page requests, event sources (R620) and ownership (R623).
-/

namespace Sys2Proof.Machine

/-! ### Doorbell (R606) -/

/-- R606: a write of TAIL; one that would overfill the ring is discarded and sets ERR. -/
def State.tailWrite (r tail : Nat) (s : State) : State :=
  let size := 2 ^ s.get HIF_RING_CFG.SIZE r
  if size < ringCount (tail + 131072 - (s.ring r).head) then s.onRing r fun x => { x with err := true }
  else s.onRing r fun x => { x with tail := tail }

/-- The word at an offset of the doorbell page of a ring (Table 19-3). -/
def State.ringPage (s : State) (r off : Nat) : Word :=
  let x := s.ring r
  match off with
  | 0x000 => BitVec.ofNat 64 x.tail
  | 0x008 => BitVec.ofNat 64 x.head
  | 0x010 => mkWord [(0, s.get HIF_RING_CFG.STATE r), (2, natOfBool x.stalled), (3, natOfBool x.err)]
  | _ => 0

/-- RING_DOORBELL (R606), with the other accesses to the doorbell page (R3, Table 19-3). -/
def execRingDoorbell (r : Fin 512) (access : PageAccess) (s : State) : Host.Outcome State Fault Refusal :=
  finish (match access with
    | .tail t => s.tailWrite r t.toNat
    | .status clrErr => s.when clrErr fun s => s.onRing r fun x => { x with err := false }
    | .read off => { s with bus := .data (s.ringPage r off.toNat) })

/-! ### Transmit (R608 to R611, R562) -/

/-- LEN of a transmit descriptor. -/
def descLen (d : List Word) : Nat := (d.getD 1 0).bits 0 14

/-- The descriptors make one frame: MORE is 1 in all but the last (R608). -/
def descChain : List (List Word) → Bool
  | [] => false
  | [d] => !(d.getD 1 0).flag 14
  | d :: r => (d.getD 1 0).flag 14 && descChain r

/-- The length rules of Table 19-4 and R608. -/
def descLengthsOk (descs : List (List Word)) : Bool :=
  let n := sumOf descs descLen
  descs.all (fun d => 1 ≤ descLen d && descLen d ≤ 15996) && 60 ≤ n && n ≤ 15996

/-- The egress port that word 1 of a descriptor names: 0 to 31 client, 32 to 63 line. -/
def descPort (w : Word) : Nat := w.bits 16 5 + 32 * w.bits 21 1

/-- R610: the SC of a frame to be protected is accepted. -/
def State.protectOk (s : State) (port sc : Nat) : Bool :=
  32 ≤ port && sc / 4096 == portRegion port && (s.sc? sc).any fun c =>
    !c.rx && c.state == 1 && c.egPort == port - 32 && c.clsRefs == 0
      && (List.range 256).all fun st => s.get LET_STREAM_CFG.STATE st == 0
        || !List.any [LET_STREAM_SC.SC_W, LET_STREAM_SC.SC_P, LET_STREAM_SC.RPL_W, LET_STREAM_SC.RPL_P] fun f => s.get f st == sc

/-- Octets of the field of a time-stamp operation (Table 17-1). -/
def tsFieldLen (op : Nat) : Nat := if op == 2 then 10 else 8

/-- R562: a descriptor with a time-stamp operation completes with FAULT. -/
def State.tsFault (s : State) (port op off : Nat) (it : Item) : Bool :=
  op != 0 && (!s.flag TMB_PORT.TS_EN port || 256 < it.data.length || s.isKraow port
    || (2 ≤ op && (it.data.length < off + tsFieldLen op || (it.scFields.isSome && off < it.secureOff && 12 < off + tsFieldLen op))))

/-- The frame that descriptors and the octets read describe. -/
def State.txItem (s : State) (r id : Nat) (descs : List (List Word)) (data : List Byte) : Item :=
  let d := descs.headD []
  let w := d.getD 1 0
  let sc := w.bits 27 14
  { inPort := 64, cls := w.bits 22 3, data := data, sc := if w.flag 25 then sc else 0
    scFields := if w.flag 25 then s.sc? sc else none, dest := .egress (descPort w) (w.bits 22 3)
    ts := { op := w.bits 41 2, off := w.bits 43 8, time := (d.getD 2 0).toNat }, ring := some (r, id, cellsOf (data.length + 4)) }

/-- The descriptors of a frame are fetched: the frame joins the ring's order under a number of its own. -/
def State.txFetch (r : Nat) (descs : List (List Word)) (s : State) : Nat × State :=
  let x := s.ring r
  (x.nextId, (s.onRing r fun x => { x with fetched := ringCount (x.fetched + descs.length), nextId := x.nextId + 1
                                           txq := x.txq ++ [{ id := x.nextId, first := x.fetched, descs := descs }] }).dmaOctets (32 * descs.length))

/-- The STATUS with which a frame ends before it is admitted; 0 when it is accepted. BAD_DESC comes before FAULT. -/
def State.txStatus (s : State) (descs : List (List Word)) (hostErr : Bool) (it : Item) : Nat :=
  let w := (descs.headD []).getD 1 0
  if !descLengthsOk descs then 4
  else if hostErr then 2
  else if w.flag 25 && !s.protectOk (descPort w) (w.bits 27 14) then 4
  else if s.tsFault (descPort w) (w.bits 41 2) (w.bits 43 8) it then 1
  else 0

/-- R609, R610: an accepted frame enters: under its SC through the sequencer of the SC's ingress port, otherwise, and with a one-step
operation (R561), straight towards its egress queue. -/
def State.txEnter (it : Item) (s : State) : State :=
  let s1 := s.chargeRing it true
  match it.scFields with
  | some c => if it.ts.op < 2 then s1.onSeq (seqOf c.inPort) fun x => { x with fifo := x.fifo ++ [it] } else s1.route it
  | none => s1.route it

/-- TX_FRAME_DMA_DONE (R609): the read of the next frame of a transmit ring ends; `descs` are its descriptors and `data` the octets. -/
def execTxFrameDmaDone (r : Fin 256) (descs : List (List (BitVec 64))) (data : List Byte) (hostErr : Bool) (s : State) :
    Host.Outcome State Fault Refusal :=
  let x := s.ring r
  finish (if s.get HIF_RING_CFG.STATE r == 0 || x.stalled || !descChain descs || x.posted < descs.length
      || (descLengthsOk descs && !hostErr && data.length != sumOf descs descLen) then s
    else
      let (id, s1) := s.txFetch r descs
      let it := s1.txItem r id descs data
      match s1.txStatus descs hostErr it with
      | 0 => (s1.dmaOctets data.length).txEnter it
      | st => (s1.when (st == 2) fun s => s.inc HIF_DMA_STATUS.HOST_ERR 0).ringComplete r id st none)

/-! ### Receive (R612, R613) -/

/-- Octets of a receive buffer of a ring. -/
def State.ringBuf (s : State) (r : Nat) : Nat := 256 * s.get HIF_RING_CFG.BUF r

/-- Buffers that a frame takes. -/
def State.rxBuffers (s : State) (r : Nat) (it : Item) : Nat := ceilDiv it.data.length (s.ringBuf r)

/-- The write-back of buffer i of k of a received frame that ends with a STATUS. -/
def State.rxBack (s : State) (r i k status : Nat) (it : Item) : RingWb :=
  let data := (it.data.drop (i * s.ringBuf r)).take (s.ringBuf r)
  let last := i + 1 == k
  let len := if last && status != 0 then 0 else data.length
  let sa := if it.isRx then it.sa else none
  { idx := ringCount ((s.ring r).head + i)
    words := [it.cookie, BitVec.ofNat 64 (it.rxSec % 2 ^ 32 * 2 ^ 32 + it.rxNs),
      BitVec.ofNat 64 (len + 2 ^ 14 * natOfBool (!last) + 2 ^ 16 * it.inPort + 2 ^ 22 * it.reason + 2 ^ 32 * sa.getD 0
        + 2 ^ 48 * natOfBool sa.isSome),
      BitVec.ofNat 64 (2 ^ 16 * status + 2 ^ 32)]
    data := if last && status != 0 then [] else data }

/-- R612, R613: the frame at the head of a receive ring's queue takes k buffers and ends with a STATUS. -/
def State.rxWrite (r q k status : Nat) (it : Item) (s : State) : State :=
  let x := s.queue q
  let wbs := (List.range k).map fun i => s.rxBack r i k status it
  let s1 := (s.putQueue q ({ x with head := x.head.drop 1 }).settle).delayTake q it
  let s2 := (s1.onRing r fun x => { x with head := ringCount (x.head + k), fetched := ringCount (x.head + k), wbs := x.wbs ++ wbs }).dmaOctets
    (32 * k + sumOf wbs fun w => w.data.length)
  (s2.ringCountFrame r (status == 0)).ringReport r k (status == 0)

/-- The frame at the head of a receive ring's queue. -/
def State.rxHead (s : State) (r : Nat) : Option (Nat × Item) :=
  let q := s.get HIF_RING_CFG.QUEUE r
  (s.headItem q).map fun it => (q, it)

/-- RX_FRAME_WRITE (R612, R613): the frame at the head of a receive ring's queue is written into posted buffers; on an error it
ends in the buffer counted `buf`. -/
def execRxFrameWrite (r : Fin 256) (buf : Fin 64) (how : DmaEnd) (s : State) : Host.Outcome State Fault Refusal :=
  let k := 256 + r.val
  finish (match s.rxHead k with
    | some (q, it) =>
      let n := s.rxBuffers k it
      if s.get HIF_RING_CFG.STATE k == 0 || (s.ring k).stalled || (s.ring k).posted < n then s
      else match how with
        | .ok => s.rxWrite k q n 0 it
        | .hostErr => (s.inc HIF_DMA_STATUS.HOST_ERR 0).rxWrite k q (min n (buf + 1)) 2 it
        | .memErr => s.rxWrite k q (min n (buf + 1)) 3 it
    | none => s)

/-! ### Translations and page requests (R614 to R616) -/

/-- The ring of a transfer. -/
def xferRing : DmaXfer → Option Nat
  | .tx r _ => some r
  | .rx r _ => some (256 + r)
  | .other => none

/-- `PRI_OFF` of a function. -/
def priOff (fn : Nat) : Field := if fn == 0 then HIF_DMA_STATUS.PRI_OFF0 else HIF_DMA_STATUS.PRI_OFF1

/-- R616: a transfer whose page cannot be had completes its frame with FAULT. -/
def State.dmaFault (x : DmaXfer) (s : State) : State :=
  match x with
  | .tx r descs =>
    if descs.isEmpty then s else
    let (id, s1) := s.txFetch r descs
    s1.ringComplete r id 1 none
  | .rx r buf => match s.rxHead (256 + r) with
    | some (q, it) => s.rxWrite (256 + r) q (min (s.rxBuffers (256 + r) it) (buf + 1)) 1 it
    | none => s
  | .other => s

/-- A ring's waiting transfer. -/
def State.waitXfer (s : State) (r : Nat) : DmaXfer :=
  match (s.ring r).wait with
  | some (descs, buf) => if r < 256 then .tx (Fin.ofNat 256 r) descs else .rx (Fin.ofNat 256 (r - 256)) (Fin.ofNat 64 buf)
  | none => .other

/-- The transfer of a stalled ring no longer waits. -/
def State.unstall (r : Nat) (s : State) : State := s.onRing r fun x => { x with stalled := false, paging := false, wait := none }

/-- The descriptors and the buffer with which a transfer waits. -/
def xferWait : DmaXfer → List (List Word) × Nat
  | .tx _ descs => (descs, 0)
  | .rx _ buf => ([], buf)
  | .other => ([], 0)

/-- R615: a page request is sent, and the ring stalls. -/
def State.pageRequest (x : DmaXfer) (s : State) : State :=
  let s1 := s.inc HIF_DMA_STATUS.PRI_REQ 0
  match xferRing x with
  | some r => ((s1.onRing r fun y => { y with stalled := true, paging := true, wait := some (xferWait x) }).inc HIF_RING_STAT.STALLS r).raise
      (ringSource r) 4 r
  | none => s1

/-- A transfer that the ring of a doorbell page has: its descriptors are posted and make a frame, or its buffer belongs to the frame
at the head of the queue. -/
def State.xferOk (s : State) (x : DmaXfer) : Bool :=
  match x with
  | .tx r descs => s.get HIF_RING_CFG.STATE r != 0 && descChain descs && descs.length ≤ (s.ring r).posted
  | .rx r buf => s.get HIF_RING_CFG.STATE (256 + r) != 0 && (s.rxHead (256 + r)).any fun y =>
      buf < s.rxBuffers (256 + r) y.2 && s.rxBuffers (256 + r) y.2 ≤ (s.ring (256 + r)).posted
  | .other => true

/-- ATS_TRANSLATION_COMPLETION (R614, R615, R616): a translation that a transfer waits for completes for a page, granted with the
permission needed or not; `pri` is whether PRI is enabled for the function in its configuration space. -/
def execAtsTranslationCompletion (fn : Fin 2) (page : BitVec 52) (granted pri : Bool) (x : DmaXfer) (s : State) :
    Host.Outcome State Fault Refusal :=
  finish (if granted then
      let e := (page.toNat, fn.val)
      let s1 := { s with hif := { s.hif with atc := ((s.hif.atc.filter (· != e)) ++ [e]).drop (s.hif.atc.length + 1 - 4096) } }
      match xferRing x with
      | some r => s1.unstall r
      | none => s1
    else if !s.xferOk x then s
    else if pri && !s.flag (priOff fn) then s.pageRequest x
    else match xferRing x with
      | some r => (s.unstall r).dmaFault x
      | none => s)

/-- ATS_INVALIDATION_REQUEST (R614): a translation leaves the cache; a transfer of the model has ended when a command has, so the
request is answered at once. -/
def execAtsInvalidationRequest (fn : Fin 2) (page : BitVec 52) (s : State) : Host.Outcome State Fault Refusal :=
  finish { s with hif := { s.hif with atc := s.hif.atc.filter (· != (page.toNat, fn.val)), invDone := s.hif.invDone + 1 } }

/-- R616: the page request of a ring, or of another block, has failed. -/
def State.pageFail (r : Option Nat) (s : State) : State :=
  let s1 := (s.inc HIF_DMA_STATUS.PRI_FAIL 0).raise 152 3
  match r with
  | some r => if (s.ring r).wait.isSome then (s1.unstall r).dmaFault (s.waitXfer r) else s1
  | none => s1

/-- The ring of a page request waits for its response. -/
def State.pageWaits (s : State) (r : Option (Fin 512)) : Bool := r.all fun r => (s.ring r).paging

/-- PAGE_REQUEST_RESPONSE (R616): the response to the page request group of a ring, or of another block (none). After Success the
ring stays stalled until its new translation is granted. -/
def execPageRequestResponse (fn : Fin 2) (r : Option (Fin 512)) (how : PageResponse) (s : State) : Host.Outcome State Fault Refusal :=
  finish (if !s.pageWaits r then s
    else match how with
      | .success => match r with
        | some r => s.onRing r fun x => { x with paging := false }
        | none => s
      | .invalidRequest => s.pageFail (r.map (·.val))
      | .responseFailure => (s.set (priOff fn) 0 1).pageFail (r.map (·.val)))

/-- PAGE_REQUEST_TIMEOUT (R616). -/
def execPageRequestTimeout (r : Option (Fin 512)) (s : State) : Host.Outcome State Fault Refusal :=
  finish (if s.pageWaits r then s.pageFail (r.map (·.val)) else s)

/-- RING_COAL_TIMER (R621): COAL_US after the first completion not yet reported. -/
def execRingCoalTimer (r : Fin 512) (s : State) : Host.Outcome State Fault Refusal :=
  let un := (s.ring r).unreported
  finish (if un == 0 || s.get HIF_RING_CFG.COAL_US r == 0 then s
    else (s.onRing r fun x => { x with unreported := 0 }).raise (ringSource r) (if r < 256 then 1 else 2) r un)

/-! ### Event sources (R620) -/

/-- R620: the writable fields of an event source are written; unmasking a source whose STATUS is 1 sends its message. -/
def State.evtSrcWrite (i : Nat) (clear mask ring log : Bool) (vector : Nat) (s : State) : State :=
  let wasMasked := s.flag EVT_SRC.MASK i
  let s1 := (s.when clear fun s => s.set EVT_SRC.STATUS i 0).set EVT_SRC.MASK i (natOfBool mask)
  let s2 := (s1.set EVT_SRC.RING i (natOfBool ring)).when (i < 256) fun s => s.set EVT_SRC.LOG i (natOfBool log)
  let s3 := s2.set EVT_SRC.VECTOR i vector
  s3.when (wasMasked && !mask && s3.flag EVT_SRC.STATUS i) fun s => s.sendMsix i

/-- EVT_SRC_WRITE (R620): `clear` writes 1 to STATUS. -/
def execEvtSrcWrite (i : Fin 512) (clear mask ring log : Bool) (vector : BitVec 9) (s : State) : Host.Outcome State Fault Refusal :=
  finish (s.evtSrcWrite i clear mask ring log vector.toNat)

/-! ### Ownership (Table 19-12) -/

/-- Ownership passes; the request is no longer pending. -/
def State.ownerTo (o : Nat) (s : State) : State := ((s.set GLB_OWNER.OWNER 0 o).set GLB_OWNER.REQ 0 0).alertUpdate

/-- The host takes ownership. -/
def State.ownerTake (s : State) : State := if s.get GLB_OWNER.OWNER == 0 then s.set GLB_OWNER.OWNER 0 1 else s

/-- The host releases ownership. -/
def State.ownerRelease (s : State) : State :=
  if s.get GLB_OWNER.OWNER == 1 then s.ownerTo (if s.flag GLB_OWNER.REQ then 2 else 0) else s

/-- The host keeps ownership: a pending request is refused. -/
def State.ownerKeep (s : State) : State :=
  if s.get GLB_OWNER.OWNER == 1 && s.flag GLB_OWNER.REQ then s.ownerTo 1 else s

/-- OWNER_TAKE (R623). -/
def execOwnerTake (s : State) : Host.Outcome State Fault Refusal := finish s.ownerTake

/-- OWNER_RELEASE (R623). -/
def execOwnerRelease (s : State) : Host.Outcome State Fault Refusal := finish s.ownerRelease

/-- OWNER_KEEP (R623). -/
def execOwnerKeep (s : State) : Host.Outcome State Fault Refusal := finish s.ownerKeep

/-- OWNER_FORCE_TIMEOUT (R623): the host has not answered a request within FORCE_TMO_MS. -/
def execOwnerForceTimeout (s : State) : Host.Outcome State Fault Refusal :=
  finish (if s.get GLB_OWNER.OWNER == 1 && s.flag GLB_OWNER.REQ then ((s.set GLB_OWNER.FORCED 0 1).ownerTo 2).raise 152 2 else s)

/-- The side-band requests ownership (R623, R636). -/
def State.ownerRequest (s : State) : State :=
  match s.get GLB_OWNER.OWNER with
  | 0 => s.set GLB_OWNER.OWNER 0 2
  | 1 => if s.flag GLB_OWNER.REQ then s else ((s.set GLB_OWNER.REQ 0 1).raise 152 1).alertUpdate
  | _ => s

end Sys2Proof.Machine
end

