-- ==== Sys2Proof/Machine/Ime.lean ====
section
/-!
DEFINITION. The stacked memory and its inline encryption (R437 to R468): ranges and their keys, lines, re-keying, patrol,
the row test, repair and retirement.
-/

namespace Sys2Proof.Machine

/-! ### Addresses and ranges -/

/-- The stack of an address (R438). -/
def stackOf (a : Nat) : Nat := a / 2 ^ 38

/-- The pseudo-channel of an address among all: 32 × stack + pseudo-channel. -/
def pcOf (a : Nat) : Nat := a / 2 ^ 33

/-- The row of an address within its pseudo-channel: rows are 1 KiB (R464). -/
def rowOf (a : Nat) : Nat := a % 2 ^ 33 / 1024

/-- The units of partition p of a stack's pseudo-channels (R439). -/
def State.partUnits (s : State) (st p : Nat) : Nat :=
  match p with
  | 0 => s.get DMC_PART.STATE_U st
  | 1 => s.get DMC_PART.MARROW_U st
  | 2 => s.get DMC_PART.REORDER_U st
  | _ => s.get DMC_PART.LET_U st

/-- The first octet of partition p within a pseudo-channel of a stack. -/
def State.partLow (s : State) (st p : Nat) : Nat := ((List.range p).foldl (fun n k => n + s.partUnits st k) 0) * 2 ^ 28

/-- The range 4s + p that an address lies in. -/
def State.rangeOf (s : State) (a : Nat) : Nat :=
  let st := stackOf a
  let off := a % 2 ^ 33
  4 * st + (if off < s.partLow st 1 then 0 else if off < s.partLow st 2 then 1 else if off < s.partLow st 3 then 2 else 3)

/-- The first address of range g in a pseudo-channel of its stack. -/
def State.sliceLow (s : State) (g pc : Nat) : Nat := (32 * (g / 4) + pc) * 2 ^ 33 + s.partLow (g / 4) (g % 4)

/-- The address after a slice of range g. -/
def State.sliceEnd (s : State) (g pc : Nat) : Nat := s.sliceLow g pc + s.partUnits (g / 4) (g % 4) * 2 ^ 28

/-- A pseudo-channel (32 × stack + pseudo-channel) is in service. -/
def State.pcIn (s : State) (pc : Nat) : Bool := !s.flag DMC_PC.RETIRED pc && !s.flag DMC_STACK_STATUS.FENCED (pc / 32)

/-- The key handles of a range (R453): 0 the slot that KEYSEL = 0 names. -/
def rangeSlot (g sel : Nat) : Nat := 65536 + 3968 + 2 * g + sel

/-- R457: the key handle and epoch that apply to an address. -/
def State.lineKey (s : State) (a : Nat) : Nat × Nat :=
  let g := s.rangeOf a
  let sel := s.get IME_RKEY_CTRL.KEYSEL g
  let e := s.get IME_RANGE_EPOCH.EPOCH g
  if s.flag IME_RKEY_CTRL.SPLIT g && (s.dram.passed.contains g || a < s.get IME_RANGE_BOUND.BOUND g) then (rangeSlot g (1 - sel), e + 1)
  else (rangeSlot g sel, e)

/-! ### The line cipher (R444, R446) -/

/-- A tweak multiplied by the primitive element of XTS. -/
def xtsDouble (t : Block) : Block :=
  let n := leNat (blockBytes t) * 2
  blockOf (leBytes 16 (if n < 2 ^ 128 then n else Nat.xor (n % 2 ^ 128) 0x87))

/-- The octets of a line with every block passed through a cipher between two XORs of its tweak. -/
def xtsBlocks (f : Block → Block) : Nat → Block → List Byte → List Byte
  | 0, _, _ => []
  | n + 1, t, l => blockBytes (f (blockOf (l.take 16) ^^^ t) ^^^ t) ++ xtsBlocks f n (xtsDouble t) (l.drop 16)

/-- The tweak of a line: EPOCH ‖ A[40:7]. -/
def lineTweak (epoch a : Nat) : Block := BitVec.ofNat 128 (epoch * 2 ^ 64 + a / 128)

/-- A line's ciphertext under a range key. -/
def lineEncrypt (key : List Byte) (t : Block) (l : List Byte) : List Byte :=
  let k := kdf key (ascii "IME-XTS") [] 512
  xtsBlocks (aesEncrypt (k.take 32)) 8 (aesEncrypt (k.drop 32) t) l

/-- A line's plaintext. -/
def lineDecrypt (key : List Byte) (t : Block) (c : List Byte) : List Byte :=
  let k := kdf key (ascii "IME-XTS") [] 512
  xtsBlocks (aesDecrypt (k.take 32)) 8 (aesEncrypt (k.drop 32) t) c

/-- TAG of a line (R446). -/
def lineTag (key : List Byte) (t : Block) (c : List Byte) : Nat :=
  let kt := kdf key (ascii "IME-TAG") [] 256
  (aesEncrypt kt (ghash (aesEncrypt kt 0) (blocksOf c ++ [t]))).toNat / 2 ^ 72

/-! ### Lines -/

/-- A line as it lies in DRAM; none for the line of zeros that start-up wrote. -/
def State.line? (s : State) (a : Nat) : Option DramLine := s.dram.lines.get (a / 128) none

/-- POISON of a line is 1. -/
def State.isPoisoned (s : State) (a : Nat) : Bool := (s.line? a).any fun l => l.poison

/-- A line replaced. -/
def State.putLine (a : Nat) (x : DramLine) (s : State) : State :=
  { s with dram := { s.dram with lines := s.dram.lines.set (a / 128) (some x) none } }

/-- The answer of a line access. -/
def State.lineAnswer (x : Option (List Byte)) (s : State) : State := { s with dram := { s.dram with answer := x } }

/-- R448: a full-line write under a key and epoch. -/
def State.lineStore (a : Nat) (key : List Byte) (epoch : Nat) (l : List Byte) (s : State) : State :=
  let t := lineTweak epoch a
  let c := lineEncrypt key t l
  s.putLine a ⟨c, lineTag key t c, false⟩

/-- A full-line write under the key that applies to the line; a range without its key takes no traffic (R454). -/
def State.lineWrite (a : Nat) (l : List Byte) (s : State) : State :=
  let x := s.lineKey a
  match s.usableKey? x.1 with
  | some k => s.lineStore a k.key x.2 l
  | none => s

/-- R449: a line is poisoned. -/
def State.linePoison (a cause : Nat) (s : State) : State :=
  let st := stackOf a
  let x := (s.line? a).getD ⟨[], 0, false⟩
  let s1 := (s.putLine a { x with poison := true }).inc IME_STATUS.POISONED st
  (s1.set IME_POISON_ADDR.ADDR st (a / 128 * 128)).set IME_POISON_ADDR.CAUSE st cause

/-- The memory-poison event. -/
def State.poisonEvent (a : Nat) (s : State) : State := s.raise (117 + 8 * (stackOf a / 2)) 1

/-! ### Repair and retirement (R465 to R468, Table 13-7) -/

/-- An object in a pseudo-channel is lost. -/
def State.loseObj (o : DramObj) (s : State) : State :=
  match o with
  | .letRecord st number => s.letLose st number
  | .held st number =>
    let x := s.letS st
    match x.held.get number none with
    | some it =>
      let s1 := (s.onLet st fun x => { x with held := x.held.erase number }).reorderAdd (s.letRegion st) (-(it.data.length : Int))
      (s1.incWrap LET_CNT.REJECTED st).letGaps st
    | none => s
  | .chunk q index =>
    s.putQueue q { s.queue q with marrow := (s.queue q).marrow.map fun c => if c.index == index then { c with poisoned := true } else c }

/-- R467, R331: `DMC_CAP` of a region from the pseudo-channels in service of its stacks, and the room of its streams. -/
def State.capShow (n : Nat) (s : State) : State :=
  let sum := fun p => ([2 * n, 2 * n + 1].map fun st =>
    if s.flag DMC_STACK_STATUS.FENCED st then 0 else s.get DMC_STACK_STATUS.PC_IN st * s.partUnits st p).foldl (· + ·) 0
  let s1 := (s.set DMC_CAP.LET_MIB n (sum 3 * 256)).set DMC_CAP.REORDER_MIB n (sum 2 * 256)
  let s2 := s1.set DMC_CAP.MARROW_CHUNKS n (sum 1 * 4096)
  (s2.set FAB_BUF_STATUS.CHUNKS_FREE n (s2.get DMC_CAP.MARROW_CHUNKS n - s2.q.chunksUsed.get n 0)).letRegionShow n

/-- R335: each stream of the region with RETAIN = 1 loses the fraction of its window that the let partition lost. -/
def State.windowsLower (n before after : Nat) (s : State) : State :=
  s.forN 256 fun st s =>
    if s.letRegion st == n && s.flag LET_STREAM_CFG.RETAIN st && before != after then
      ((s.set LET_STREAM_CFG.WINDOW st (s.get LET_STREAM_CFG.WINDOW st * after / before)).raise (80 + st / 8) 1 st).letWindow st
    else s

/-- R467: the capacity of the region's partitions after a loss, and the objects lost. -/
def State.dramLoss (n : Nat) (lost : List DramObj) (s : State) : State :=
  let before := s.get DMC_CAP.LET_MIB n
  let s1 := s.capShow n
  (s1.windowsLower n before (s1.get DMC_CAP.LET_MIB n)).forL lost fun o s => s.loseObj o

/-- R468: a stack is fenced. -/
def State.stackFence (st : Nat) (s : State) : State :=
  ((s.set DMC_STACK_STATUS.FENCED st 1).set DMC_STACK_STATUS.CHANGED st 1).fenceBlock (.stack st)

/-- R466, R468: a pseudo-channel retires; `lost` are the objects that lie in what leaves service. -/
def State.pcRetire (pc cause : Nat) (lost : List DramObj) (s : State) : State :=
  if s.flag DMC_PC.RETIRED pc then s else
  let st := pc / 32
  let s1 := (s.set DMC_PC.RETIRED pc 1).set DMC_PC.CAUSE pc cause
  let s2 := ((s1.set DMC_STACK_STATUS.PC_IN st (s1.get DMC_STACK_STATUS.PC_IN st - 1)).set DMC_STACK_STATUS.CHANGED st 1).raise
    (117 + 8 * (st / 2)) 4
  (s2.when (s2.get DMC_STACK_STATUS.PC_IN st < 24 && !s2.flag DMC_STACK_STATUS.FENCED st) fun s => s.stackFence st).dramLoss (st / 2) lost

/-- R465: a failing row is repaired with soft post-package repair, or its pseudo-channel retires. -/
def State.rowRepair (pc row : Nat) (lost : List DramObj) (s : State) : State :=
  if s.get DMC_PC.SPARES pc == 0 then s.pcRetire pc 1 lost
  else
    let s1 := (s.set DMC_PC.SPARES pc (s.get DMC_PC.SPARES pc - 1)).inc DMC_PC.SPPR pc
    (s1.raise (117 + 8 * (pc / 64)) 3).journal 7 ([BitVec.ofNat 8 (pc / 32), BitVec.ofNat 8 (pc % 32), 0, 0] ++ beBytes 4 row)

/-- The part of a list of errors that is no older than 24 h. -/
def State.day (s : State) (l : List (Nat × Nat)) : List (Nat × Nat) := l.filter fun x => s.clk.sinceReset < x.2 + 86400000000000

/-- R465: a corrected error; the fourth of a row within 24 h makes it failing. -/
def State.dramCorrected (a : Nat) (lost : List DramObj) (s : State) : State :=
  let k := 2 ^ 23 * pcOf a + rowOf a
  let l := s.day s.dram.corrected
  let s1 := s.inc DMC_PC.CORR (pcOf a)
  if 3 ≤ (l.filter fun x => x.1 == k).length then
    ({ s1 with dram := { s1.dram with corrected := l.filter fun x => x.1 != k } }).rowRepair (pcOf a) (rowOf a) lost
  else { s1 with dram := { s1.dram with corrected := l ++ [(k, s.clk.sinceReset)] } }

/-- R465, R466: an uncorrectable error: its row is failing, and the 16th within 24 h retires the pseudo-channel. -/
def State.dramUncorrectable (a : Nat) (lost : List DramObj) (s : State) : State :=
  let pc := pcOf a
  let l := s.day s.dram.uncorrectable ++ [(pc, s.clk.sinceReset)]
  let s1 := { s.inc DMC_PC.UNCORR pc with dram := { s.dram with uncorrectable := l } }
  let s2 := s1.rowRepair pc (rowOf a) lost
  s2.when (16 ≤ (l.filter fun x => x.1 == pc).length) fun s => s.pcRetire pc 2 lost

/-- R468: the IME of a stack in service reports an uncorrectable internal error. -/
def State.imeFault (st : Nat) (lost : List DramObj) (s : State) : State :=
  if s.flag DMC_STACK_STATUS.FENCED st then s else (s.stackFence st).dramLoss (st / 2) lost

/-- What a read reports beside its octets. -/
def State.lineEcc (a : Nat) (e : LineRead) (lost : List DramObj) (s : State) : State :=
  match e with
  | .corrected => s.dramCorrected a lost
  | .uncorrectable => s.dramUncorrectable a lost
  | .tagFail => s.inc IME_STATUS.TAG_FAIL (stackOf a)
  | .internal => s.imeFault (stackOf a) lost
  | .ok => s

/-! ### Reading (R449, R452) -/

/-- One copy of a line read under the key that applies: its octets when it passes. -/
def State.copyRead (s : State) (a : Nat) (e : LineRead) : Option (List Byte) :=
  let x := s.lineKey a
  match s.usableKey? x.1 with
  | none => none
  | some k =>
    if !s.pcIn (pcOf a) || e == .uncorrectable || e == .tagFail || e == .internal then none
    else match s.line? a with
      | none => some (List.replicate 128 0)
      | some l =>
        let t := lineTweak x.2 a
        if l.poison || l.tag != lineTag k.key t l.ct then none else some (lineDecrypt k.key t l.ct)

/-- The other copy of a state line, and the address itself outside the state partition (R442). -/
def State.mirrorAddr (s : State) (a : Nat) : Nat := if s.rangeOf a % 4 == 0 then (if stackOf a % 2 == 0 then a + 2 ^ 38 else a - 2 ^ 38) else a

/-- The line is already poisoned, in every copy that is in service. -/
def State.poisonedBefore (s : State) (a : Nat) : Bool :=
  let p := fun a => !s.pcIn (pcOf a) || s.isPoisoned a
  p a && p (s.mirrorAddr a)

/-- A line read: what its stack meets, and what the mirror's stack meets when a state line's copy fails (R452). -/
def State.lineRead (a : Nat) (e e2 : LineRead) (lost : List DramObj) (s : State) : Option (List Byte) × State :=
  let b := s.mirrorAddr a
  match s.copyRead a e with
  | some l => (some l, s.lineEcc a e lost)
  | none =>
    let s1 := if s.pcIn (pcOf a) && !s.isPoisoned a then s.lineEcc a e lost else s
    if b == a then (none, s1)
    else match s.copyRead b e2 with
      | some l => (some l, (if s1.pcIn (pcOf a) then s1.lineWrite a l else s1).lineEcc b e2 lost)
      | none => (none, if s.pcIn (pcOf b) && !s.isPoisoned b then s1.lineEcc b e2 lost else s1)

/-- Why a failing read poisons its line: 1 a tag failure, 3 an uncorrectable error. -/
def failCause (e : LineRead) : Nat := if e == .uncorrectable then 3 else 1

/-- Every copy of a line in service is poisoned; the line counts once (R452). -/
def State.poisonCopies (a cause : Nat) (s : State) : State :=
  let b := s.mirrorAddr a
  let s1 := if s.pcIn (pcOf a) then s.linePoison a cause else s.linePoison b cause
  if b == a || !s.pcIn (pcOf b) then s1 else s1.putLine b { (s1.line? b).getD ⟨[], 0, false⟩ with poison := true }

/-- A range takes traffic: its key is in its slot (R454). -/
def State.rangeReady (s : State) (a : Nat) : Bool :=
  (s.usableKey? (s.lineKey a).1).isSome && (s.pcIn (pcOf a) || s.pcIn (pcOf (s.mirrorAddr a)))

/-- IME_LINE_READ (R449, R452): `e2` is what the mirror's copy meets, `lost` the objects in the pseudo-channel should it retire. -/
def execImeLineRead (a : BitVec 41) (e e2 : LineRead) (lost : List DramObj) (s : State) : Host.Outcome State Fault Refusal :=
  finish (
    let a := a.toNat
    if !s.rangeReady a then s
    else if s.poisonedBefore a then s.lineAnswer none
    else
      let x := s.lineRead a e e2 lost
      (if x.1.isSome || e == .internal then x.2 else (x.2.poisonCopies a (failCause e)).poisonEvent a).lineAnswer x.1)

/-- A write of a whole line to every copy in service. -/
def State.lineWriteAll (a : Nat) (l : List Byte) (s : State) : State :=
  let b := s.mirrorAddr a
  let s1 := if s.pcIn (pcOf a) then s.lineWrite a l else s
  if b == a || !s.pcIn (pcOf b) then s1 else s1.lineWrite b l

/-- The 128 octets of a line. -/
def fullLine (l : List Byte) : List Byte := (l ++ List.replicate (128 - l.length) 0).take 128

/-- IME_LINE_WRITE (R448, R442). -/
def execImeLineWrite (a : BitVec 41) (data : List Byte) (s : State) : Host.Outcome State Fault Refusal :=
  finish (if s.rangeReady a.toNat then s.lineWriteAll a.toNat (fullLine data) else s)

/-- IME_PARTIAL_WRITE (R450, R452): fewer than 128 octets from an address, within its line. -/
def execImePartialWrite (a : BitVec 41) (data : List Byte) (e e2 : LineRead) (lost : List DramObj) (s : State) :
    Host.Outcome State Fault Refusal :=
  finish (
    let a := a.toNat
    if !s.rangeReady a then s
    else
      let x := s.lineRead a e e2 lost
      match x.1 with
      | some l =>
        let o := a % 128
        let d := data.take (128 - o)
        (x.2.lineWriteAll a (l.take o ++ d ++ l.drop (o + d.length))).lineAnswer (some [])
      | none =>
        if e == .internal then x.2.lineAnswer none
        else
          let s1 := if s.poisonedBefore a then x.2 else x.2.poisonCopies a 2
          ((s1.inc IME_STATUS.PARTIAL_REF (stackOf a)).poisonEvent a).lineAnswer none)

/-! ### Re-keying (R456 to R462) -/

/-- The lowest line at or above an address that a move of range g may reach: lines of retired pseudo-channels are skipped
(R462). -/
def State.nextLine (s : State) (g : Nat) (a : Nat) : Option Nat :=
  (List.range 32).findSome? fun pc =>
    let lo := max a (s.sliceLow g pc)
    if s.pcIn (32 * (g / 4) + pc) && lo < s.sliceEnd g pc then some lo else none

/-- Per cent of range g below an address, rounded down. -/
def State.rangePct (s : State) (g a : Nat) : Nat :=
  let size := s.partUnits (g / 4) (g % 4) * 2 ^ 28
  let done := ((List.range 32).map fun pc => min size (a - s.sliceLow g pc)).foldl (· + ·) 0
  done * 100 / (32 * size)

/-- BOUND of range g: an address, or past the last line, where the IME writes EN = 0 (R460). -/
def State.setBound (g : Nat) (a : Option Nat) (s : State) : State :=
  match a with
  | some a => (s.set IME_RANGE_BOUND.BOUND g a).set IME_RANGE_BOUND.PCT g (s.rangePct g a)
  | none =>
    let s1 := (s.set IME_RANGE_BOUND.BOUND g (s.sliceEnd g 31)).set IME_RANGE_BOUND.PCT g 100
    let s2 := (s1.set IME_RKEY_CTRL.EN g 0).set IME_RKEY_CTRL.STATE g 2
    { s2 with dram := { s2.dram with passed := if g ∈ s2.dram.passed then s2.dram.passed else s2.dram.passed ++ [g] } }

/-- R458, R459: the line at an address moves to the new key and epoch. -/
def State.moveLine (g a : Nat) (e : LineRead) (lost : List DramObj) (s : State) : State :=
  let s1 := if s.isPoisoned a then s else s.lineEcc a e lost
  match s.copyRead a e with
  | some l =>
    match s.line? a, s.usableKey? (rangeSlot g (1 - s.get IME_RKEY_CTRL.KEYSEL g)) with
    | some _, some k => s1.lineStore a k.key (s.get IME_RANGE_EPOCH.EPOCH g + 1) l
    | _, _ => s1
  | none => if e == .internal && !s.isPoisoned a then s1 else s1.linePoison a 4

/-- REKEY_LINE_MOVE (R458 to R462). -/
def execRekeyLineMove (n : Fin 4) (j : Fin 8) (e : LineRead) (lost : List DramObj) (s : State) : Host.Outcome State Fault Refusal :=
  finish (
    let g := 8 * n.val + j.val
    let st := s.get IME_RKEY_CTRL.STATE g
    if st != 1 || !s.flag IME_RKEY_CTRL.SPLIT g || s.dram.passed.contains g then s
    else match s.nextLine g (s.get IME_RANGE_BOUND.BOUND g) with
      | some a =>
        let s1 := s.moveLine g a e lost
        s1.setBound g (s1.nextLine g (a + 128))
      | none => s.setBound g none)

/-- R456, R461: the start-up of a re-key: a resumption when SPLIT = 1, else a new key, BOUND at the range's lowest line and
SPLIT = 1; false where the DRBG refuses the draw (R521). -/
def State.rekeyStart (g : Nat) (s : State) : Bool × State :=
  if s.flag IME_RKEY_CTRL.SPLIT g then (true, s)
  else if s.drbgRefuses then (false, s)
  else
    let x := s.drbg 32
    let s1 := x.2.keyInstall (rangeSlot g (1 - s.get IME_RKEY_CTRL.KEYSEL g)) (KeyRec.mk0 4 3 1 true x.1 0)
    let s2 := { s1.set IME_RKEY_CTRL.SPLIT g 1 with dram := { s1.dram with passed := s1.dram.passed.filter (· != g) } }
    (true, s2.setBound g (s2.nextLine g 0))

/-- R460: the shut-down of a re-key ends: completion when BOUND has passed the last line, else an abort. -/
def State.rekeyEnd (g : Nat) (s : State) : State :=
  if s.dram.passed.contains g then
    let sel := s.get IME_RKEY_CTRL.KEYSEL g
    let s1 := (s.keyErase (rangeSlot g sel)).set IME_RKEY_CTRL.KEYSEL g (1 - sel)
    let s2 := (s1.set IME_RANGE_EPOCH.EPOCH g (s1.get IME_RANGE_EPOCH.EPOCH g + 1)).set IME_RKEY_CTRL.SPLIT g 0
    { (s2.set IME_RKEY_CTRL.DONE g 1).raise (117 + 8 * (g / 8)) 2 with
      dram := { s2.dram with passed := s2.dram.passed.filter (· != g) } }
  else s

/-- R454: the ranges are initialised: a key per range, EPOCH 1, every line zeros. -/
def State.rangesInit (s : State) : State :=
  let s0 := { s with dram := { s.dram with lines := [], passed := [], answer := none } }
  s0.forN 32 fun g s =>
    let x := s.drbg 32
    ((x.2.keyInstall (rangeSlot g 0) (KeyRec.mk0 4 3 1 true x.1 0)).resetReg .IME_RANGE_EPOCH g).set IME_RKEY_CTRL.KEYSEL g 0

/-! ### Patrol and row test (R463, R464) -/

/-- PATROL_READ (R463): the patrol checks the ECC of a line; `last` at the end of a pass. -/
def execPatrolRead (a : BitVec 41) (e : LineRead) (last : Bool) (lost : List DramObj) (s : State) : Host.Outcome State Fault Refusal :=
  finish (
    let a := a.toNat
    let st := stackOf a
    if !s.flag DMC_SCRUB_CFG.PATROL_EN st || !s.pcIn (pcOf a) || s.thermPaused then s
    else
      let s1 := match e with
        | .corrected => s.dramCorrected a lost
        | .uncorrectable =>
          let s2 := (s.dramUncorrectable a lost).pairFail 4
          if s.isPoisoned a then s2 else (s2.linePoison a 5).poisonEvent a
        | .internal => (s.imeFault st lost).pairFail 4
        | _ => s
      s1.when last fun s => s.incWrap DMC_STACK_STATUS.SCRUB_PASS st)

/-- DRAM_ROW_TEST (R464): the transparent test of a row ends; `last` at the end of a pass. -/
def execDramRowTest (st : Fin 8) (pc : Fin 32) (row : Fin 8388608) (fail last : Bool) (lost : List DramObj) (s : State) :
    Host.Outcome State Fault Refusal :=
  finish (
    let k := 32 * st.val + pc.val
    if !s.flag DMC_SCRUB_CFG.TEST_EN st || !s.pcIn k || s.thermPaused then s
    else (s.when fail fun s => (s.rowRepair k row lost).pairFail 4).when last fun s => s.incWrap DMC_STACK_STATUS.TEST_PASS st)

end Sys2Proof.Machine
end

