-- ==== Sys2Proof/Machine/Pair.lean ====
section
/-!
DEFINITION. The active and the libero of a pair (R340 to R368): roles, rally messages received, leases, mirrored commands, anchors and
the switchover.
-/

namespace Sys2Proof.Machine

/-! ### Leases on entry to ACTIVE_PAIRED, and at takeover (R361, R362) -/

/-- The TX SAs. -/
def State.txSas (s : State) : List (Nat × SaEntry) := s.tbl.sa.filterMap fun x => x.2.bind fun a => if a.rx then none else some (x.1, a)

/-- The Kraow line ports. -/
def State.kraowPorts (s : State) : List Nat := (List.range 32).filter fun p => s.isKraow (32 + p)

/-- R361: the current and the following lease of every TX SA and Kraow line port are asked for. -/
def State.leasesAsk (s : State) : State :=
  let s0 := { s with mtl := { s.mtl with asks := [] } }
  let two := fun (who n : Nat) (s : State) => (s.leaseAsk who n).leaseAsk who (n + 1)
  (s0.forL s.txSas fun x s => two x.1 (x.2.pn / 2 ^ 20) s).forL s.kraowPorts fun p s => two (65536 + p) ((s.krwPort p).frameCount / 2 ^ 20) s

/-- R362: PNs and FRAME_COUNTs go past every lease acknowledged; each is counted in SKIPS. -/
def State.leaseSkip (s : State) : State :=
  let s1 := s.forL s.txSas fun x s =>
    let pn := (x.2.leaseEnd / 2 ^ 20 + 1) * 2 ^ 20
    s.putSa x.1 (some { x.2 with pn := pn, leaseEnd := min (leaseAlone pn) (2 ^ 64 - 1) })
  let s2 := s1.forL s.kraowPorts fun p s => s.onKrw p fun k => { k with frameCount := (k.lease + 1) * 2 ^ 20, lease := k.lease + 2 }
  s2.inc MTL_LEASE_CNT.SKIPS 0 (s.txSas.length + s.kraowPorts.length)

/-! ### Role changes -/

/-- The sending half of every stream follows the device's role (R345, R367). -/
def State.pairStreamsJudge (s : State) : State := s.forL s.pairStreams fun st s => s.letMode st

/-- R366, R344, R368: the device gives the traffic up: its transmitters stop and what its queues hold for the ports is lost. -/
def State.becomeLibero (stale : Bool) (s : State) : State :=
  let s1 := (s.roleSet 4).set MTL_PAIR_STATUS.STALE 0 (natOfBool stale)
  let s2 := (s1.forN 64 fun p s => if s.portUp p then s.flushPort p else s).pairStreamsJudge
  { s2 with mtl := { s2.mtl with asks := [], mirrorBad := false, peerUnacked := 0, missed := 0 } }

/-- R366 step 4, R362, R367: the device carries the traffic. -/
def State.becomeActive (s : State) : State :=
  let s1 := (((s.roleSet 2).leaseSkip).set MTL_PAIR_STATUS.STALE 0 0).inc MTL_PAIR_STATUS.TAKEOVERS 0
  let s2 := { s1 with mtl := { s1.mtl with window := false } }
  (s2.pairStreamsJudge).forL s2.pairStreams fun st s => s.letAdvanceAll st

/-- R366 step 1: a libero starts a takeover. -/
def State.takeover (trigger : Nat) (s : State) : State :=
  if s.mtl.window then s
  else
    let s1 := s.when (s.get MTL_PAIR_STATUS.ROLE != 5) fun s => s.set MTL_PAIR_STATUS.UNREADY 0 1
    (({ s1 with mtl := { s1.mtl with window := true } }).rallySend 9 [BitVec.ofNat 8 trigger])

/-- An active enters ACTIVE_PAIRED (R361). -/
def State.enterPaired (s : State) : State := (s.roleSet 1).leasesAsk

/-- Table 10-5: an active goes on alone. -/
def State.goAlone (s : State) : State :=
  let s1 := s.roleSet 2
  let s2 := { s1 with mtl := { s1.mtl with asks := [] } }
  let s3 := s2.forL s2.txSas fun x s => s.putSa x.1 (some { x.2 with leaseEnd := max x.2.leaseEnd (min (leaseAlone x.2.pn) (2 ^ 64 - 1)) })
  s3.forL s3.kraowPorts fun p s => s.onKrw p fun k => { k with lease := max k.lease (k.frameCount / 2 ^ 20 + 1) }

/-- The device is to be the active, by PREFER and DEVICE_ID (R343, R344). -/
def State.preferred (s : State) (peer : Option Bool) : Bool :=
  let own := s.flag MTL_PAIR_CFG.PREFER
  match peer with
  | some b => if own == b then s.get LCM_DEVICE_ID.DEVICE_ID < s.peerDevice else own
  | none => own

/-- Table 10-1: the role of an active-to-be without a peer. -/
def State.roleActive (s : State) : State := ({ s with mtl := { s.mtl with roleWait := 0 } }).roleSet 2

/-- Table 10-1: the role of a libero-to-be. -/
def State.roleLibero (s : State) : State := ({ s with mtl := { s.mtl with roleWait := 0 } }).becomeLibero false

/-- PAIR_ROLE_SELECT (R343): EN has been set and the pair's start-up is complete. -/
def State.pairSelect (s : State) : State :=
  if !s.flag MTL_PAIR_STATUS.MATE_PRESENT then s.roleActive
  else if s.flag MTL_PAIR_STATUS.ACTIVE_IN then s.roleLibero
  else { s with mtl := { s.mtl with roleWait := 1 } }

/-- EN = 0: not paired (Table 10-4). -/
def State.pairOff (s : State) : State :=
  let m := { s.mtl with roleWait := 0, window := false, asks := [], peerPrefer := none, mirrorHeld := none, mirrorQ := [] }
  let s1 := ({ s with mtl := m }).roleSet 0
  (s1.set MTL_PAIR_STATUS.STALE 0 0).pairStreamsJudge

/-- Table 10-1: 500 ms have passed since EN was set. With the mate link ACTIVE the role comes from the exchange of HEALTH; an ACTIVE_IN
that has become 1 makes the device libero, as at the enable (DEDUCED, log 63). -/
def State.roleFirst (s : State) : State :=
  if s.flag MTL_PAIR_STATUS.ACTIVE_IN then s.roleLibero
  else if s.mateActive then s
  else if s.flag MTL_PAIR_CFG.PREFER then s.roleActive
  else { s with mtl := { s.mtl with roleWait := 2 } }

/-- PAIR_ROLE_TIMER (R343). -/
def execPairRoleTimer (s : State) : Host.Outcome State Fault Refusal :=
  finish (match s.mtl.roleWait with
    | 1 => s.roleFirst
    | 2 => if s.flag MTL_PAIR_STATUS.ACTIVE_IN then s.roleLibero else s.roleActive
    | _ => s)

/-- ACTIVE_IN_CHANGE (R344): the filtered level of the pin. -/
def execActiveInChange (level : Bool) (s : State) : Host.Outcome State Fault Refusal :=
  finish ((s.set MTL_PAIR_STATUS.ACTIVE_IN 0 (natOfBool level)).set GLB_PIN_STATUS.ACTIVE_IN 0 (natOfBool level))

/-- DUAL_ACTIVE_DETECT (R344): ACTIVE_IN has read 1 for 10 µs. -/
def execDualActiveDetect (s : State) : Host.Outcome State Fault Refusal :=
  finish (if s.get MTL_PAIR_STATUS.ACTIVE_OUT == 3 && s.flag MTL_PAIR_STATUS.ACTIVE_IN && !s.preferred s.mtl.peerPrefer then
      (s.becomeLibero true).raise 149 2
    else s)

/-- MATE_PRESENT_CHANGE (R364): the filtered level of the pin. -/
def execMatePresentChange (level : Bool) (s : State) : Host.Outcome State Fault Refusal :=
  let s1 := (s.set MTL_PAIR_STATUS.MATE_PRESENT 0 (natOfBool level)).set GLB_PIN_STATUS.MATE_PRESENT 0 (natOfBool level)
  finish (if !level && s.isActivePaired then s1.goAlone else s1)

/-- HEARTBEAT_LOSS (R342): ACTIVE_OUT goes to 0b00 and stays there up to the next device reset (DESIGN CHOICE, log 63: the spec names
no return of a heartbeat). -/
def execHeartbeatLoss (s : State) : Host.Outcome State Fault Refusal :=
  finish { s.set MTL_PAIR_STATUS.ACTIVE_OUT 0 0 with mtl := { s.mtl with heartLost := true } }

/-! ### Messages sent every millisecond -/

/-- FLAGS of HEALTH. -/
def State.healthFlags (s : State) : Nat :=
  let failed := fun (bit : Nat) => (s.mtl.fails.get bit none).any fun t => s.clk.sinceReset < t + 60000000000
  natOfBool (s.get MTL_PAIR_STATUS.ROLE == 5) + 2 * s.get MTL_PAIR_STATUS.STALE + 4 * natOfBool (failed 2) + 8 * natOfBool (failed 3)
    + 16 * natOfBool (failed 4) + 32 * natOfBool (failed 5) + 64 * natOfBool (s.word .TMP_ALARM 0 0 != 0)

/-- Cells retired (Table 1-1): cipher cores, lanes, pseudo-channels of the stacks, tiles of the banks and lines of the queues. -/
def State.cellsRetired (s : State) : Nat :=
  sumOf (List.range 4) (fun n => s.get GLB_REGION_STATUS.CORES_OUT n) + (List.range 64).countP (s.flag LNS_LANE.RETIRED ·)
    + sumOf (List.range 8) (fun st => 32 - s.get DMC_STACK_STATUS.PC_IN st)
    + sumOf (List.range 52) (fun b => 2 - s.bankGet SRB_BANK.SPARE_TILES SRB_CHIP_BANK.SPARE_TILES b)
    + sumOf s.q.queues fun q => q.2.headLost + q.2.tailLost

/-- The body of HEALTH: engines and blocks fenced, and cells retired. -/
def State.healthBody (s : State) : List Byte :=
  let fenced := (List.range 192).countP s.engFenced + s.fen.blocks.length
  let retired := s.cellsRetired
  [BitVec.ofNat 8 (s.get MTL_PAIR_STATUS.ROLE), BitVec.ofNat 8 s.healthFlags] ++ beBytes 2 fenced ++ beBytes 2 retired
    ++ [BitVec.ofNat 8 (s.get TMP_TEMP.TEMP0), BitVec.ofNat 8 (s.get TMP_TEMP.TEMP1)] ++ beBytes 2 (s.get MTL_PAIR_STATUS.OOS)
    ++ beBytes 2 s.mtl.asks.length ++ [0, 0, 0, 0]

/-- RALLY_HEALTH_TX (R348). -/
def execRallyHealthTx (s : State) : Host.Outcome State Fault Refusal := finish (s.rallySend 1 s.healthBody)

/-- RALLY_DELIVERY_TX (R348). -/
def execRallyDeliveryTx (s : State) : Host.Outcome State Fault Refusal :=
  let rec_ := fun (st : Nat) => [BitVec.ofNat 8 st, 0] ++ beBytes 8 (s.get LET_STREAM_STATUS.RX_NEXT st)
  let r := s.get MTL_PAIR_STATUS.ROLE
  finish (if r == 1 || r == 2 then s.rallySend 2 (s.pairStreams.map rec_).flatten else s)

/-! ### Messages received -/

/-- R349: the body of a message of a TYPE, where it is valid. -/
def State.messageBody (s : State) (typ : Nat) (l : List Byte) : Option (List Byte) :=
  let n := beAt l 2 2
  if octet l 0 == 0xA1 && octet l 1 == typ && l.length == 32 + n && beAt l 8 8 == s.get MTL_PAIR_ID.PAIR_ID
      && s.mtl.rseqRx < beAt l 4 4 && l.drop (16 + n) == blockBytes (cmac (s.rallyKey "RALLY-MAC") (l.take (16 + n))) then
    some ((l.drop 16).take n)
  else none

/-- R349: the body of the message of a TYPE that a frame carries, where the FCS is correct and the message valid. -/
def State.rallyBody (s : State) (typ : Nat) (l : List Byte) : Option (List Byte) := (rallyUnframe l).bind (s.messageBody typ)

/-- RSEQ of the message in a frame. -/
def rallySeq (l : List Byte) : Nat := beAt l 18 4

/-- R349: a message is taken when it is valid, and is otherwise counted in BAD. -/
def State.rallyTake (typ : Nat) (l : List Byte) (f : List Byte → State → State) (s : State) : State :=
  if !s.mateActive || s.get MTL_PAIR_CFG.STATE == 0 then s
  else match s.rallyBody typ l with
    | some b => f b { s with mtl := { s.mtl with rseqRx := rallySeq l } }
    | none => s.inc MTL_RALLY_CNT.BAD 0

/-- R295: the libero's line ports in HUDDLE follow the ports that the active reports. -/
def State.portsReported (ports : List (Nat × Nat × Nat × Nat)) (s : State) : State :=
  s.forL ports fun x s =>
    if s.isLibero && 32 ≤ x.1 && x.1 < 64 && s.phase x.1 == 4 && s.lanesLocked x.1 && s.hudOwn x.1 == x.2 then s.enterActive x.1 else s

/-- R343, R351, R361, R364: a valid HEALTH. -/
def State.healthRx (prefer : Bool) (ports : List (Nat × Nat × Nat × Nat)) (b : List Byte) (s : State) : State :=
  let role := octet b 0
  let s1 := { s with mtl := { s.mtl with
    missed := 0, peerRole := role, peerFlags := octet b 1, peerUnacked := beAt b 10 2, peerPrefer := some prefer
    peerPorts := ports.map (·.1) } }
  let own := s.get MTL_PAIR_STATUS.ROLE
  if s1.mtl.roleWait != 0 then
    let s2 := { s1 with mtl := { s1.mtl with roleWait := 0 } }
    if s1.preferred (some prefer) then s2.enterPaired else s2.becomeLibero false
  else if own == 2 then (if 4 ≤ role then s1.enterPaired else s1)
  else if s1.isLibero then
    let s2 := if role == 1 && s1.mtl.peerUnacked == 0 then s1.set MTL_PAIR_STATUS.STALE 0 0 else s1
    (s2.portsReported ports).pairEval
  else s1

/-- RALLY_HEALTH_RX (R349): the octets of the frame; PREFER of the sender and the ports that it reports ACTIVE with their MODE, RATE and
FEC (R295, R343), for which Table 10-3 has no field. -/
def execRallyHealthRx (octets : List Byte) (prefer : Bool) (ports : List (Fin 64 × BitVec 8 × BitVec 8 × BitVec 8)) (s : State) :
    Host.Outcome State Fault Refusal :=
  finish (s.rallyTake 1 octets (fun b s => s.healthRx prefer (ports.map fun x => (x.1.val, x.2.1.toNat, x.2.2.1.toNat, x.2.2.2.toNat)) b))

/-- R357: a DELIVERY. -/
def State.deliveryRx (b : List Byte) (s : State) : State :=
  if !s.isLibero then s
  else
    let l := (List.range (b.length / 10)).map fun i => (octet b (10 * i), beAt b (10 * i + 2) 8)
    let s1 := s.forL l fun x s => { s with mtl := { s.mtl with delivery := s.mtl.delivery.set x.1 x.2 0 } }
    s1.forL l fun x s => if s.letServes x.1 then s.letAdvanceAll x.1 else s

/-- RALLY_DELIVERY_RX (R357). -/
def execRallyDeliveryRx (octets : List Byte) (s : State) : Host.Outcome State Fault Refusal :=
  finish (s.rallyTake 2 octets fun b s => s.deliveryRx b)

/-- R353, R354: a CHECKPOINT. -/
def State.checkpointRx (b : List Byte) (s : State) : State :=
  let st := octet b 0
  let n := beAt b 8 8
  if !s.isLibero then s
  else if n < s.get LET_STREAM_STATUS.NEXT st then s.checkCompare st n (beAt b 16 8)
  else s.onMtl st fun x => { x with wants := x.wants ++ [(n, beAt b 16 8)] }

/-- RALLY_CHECKPOINT_RX (R353). -/
def execRallyCheckpointRx (octets : List Byte) (s : State) : Host.Outcome State Fault Refusal :=
  finish (s.rallyTake 3 octets fun b s => s.checkpointRx b)

/-- The SA or port of a lease message. -/
def leaseWho (b : List Byte) : Nat := if beAt b 0 2 == 0 then beAt b 2 2 else 65536 + beAt b 2 2 % 32

/-- R360: a LEASE_REQ is recorded and acknowledged. -/
def State.leaseGrant (b : List Byte) (s : State) : State :=
  let who := leaseWho b
  let n := beAt b 8 8
  let s1 := if who < 65536 then s.onSa who fun a => { a with leaseEnd := max a.leaseEnd ((n + 1) * 2 ^ 20 - 1) }
    else s.onKrw (who - 65536) fun k => { k with lease := max k.lease n }
  (s1.rallySend 5 (leaseBody who n)).pairEval

/-- R346, R360: a MIRROR (7) or LEASE_REQ (4) waits behind a mirrored DELETE that has not ended. -/
def State.mirrorWait (typ : Nat) (b : List Byte) (s : State) : State :=
  { s with mtl := { s.mtl with mirrorQ := s.mtl.mirrorQ ++ [(typ, b)] } }

/-- R360: a LEASE_REQ is granted once every MIRROR before it has been applied. -/
def State.leaseReqRx (b : List Byte) (s : State) : State :=
  if !s.isLibero then s else if s.mtl.mirrorHeld.isSome then s.mirrorWait 4 b else s.leaseGrant b

/-- RALLY_LEASE_REQ_RX (R360). -/
def execRallyLeaseReqRx (octets : List Byte) (s : State) : Host.Outcome State Fault Refusal :=
  finish (s.rallyTake 4 octets fun b s => s.leaseReqRx b)

/-- R359: a LEASE_ACK that matches a LEASE_REQ raises LEASE_END. -/
def State.leaseAckRx (b : List Byte) (s : State) : State :=
  let who := leaseWho b
  let n := beAt b 8 8
  if !s.mtl.asks.any (fun a => a.who == who && a.lease == n) then s
  else
    let s1 := { s with mtl := { s.mtl with asks := s.mtl.asks.filter fun a => !(a.who == who && a.lease == n) } }
    if who < 65536 then s1.onSa who fun a => { a with leaseEnd := max a.leaseEnd ((n + 1) * 2 ^ 20 - 1) }
    else s1.onKrw (who - 65536) fun k => { k with lease := max k.lease n }

/-- RALLY_LEASE_ACK_RX (R359). -/
def execRallyLeaseAckRx (octets : List Byte) (s : State) : Host.Outcome State Fault Refusal :=
  finish (s.rallyTake 5 octets fun b s => s.leaseAckRx b)

/-- R355: the device's own number of the first of eight consecutive frames whose FCRCs are those of an ANCHOR. -/
def MtlStream.anchorMatch (x : MtlStream) (fcs : List Nat) : Option Nat :=
  (x.hist.map (·.1)).find? fun m =>
    (List.range 8).all fun i => (x.hist.find? fun h => h.1 == m + i).any fun h => some (fcrc h.2) == fcs[i]?

/-- A number moved by the distance from `m` to `a`. -/
def renumber (m a k : Nat) : Nat := k + a - m

/-- R355: a stream is renumbered so that the frame of number `m` carries `a`; records below `a` are discarded. -/
def State.anchorApply (st inst m a : Nat) (s : State) : State :=
  let s0 := (s.set LET_STREAM_STATUS.NEXT st (renumber m a (s.get LET_STREAM_STATUS.NEXT st))).set LET_STREAM_STATUS.INSTANCE st inst
  let s1 := s0.letFreeQueue st (2 ^ 64)
  let s2 := s1.onLet st fun x => { x with records := (x.records.filter fun r => m ≤ r.number).map fun r =>
    { r with number := renumber m a r.number, it := { r.it with number := renumber m a r.number } } }
  let s3 := s2.forL (s2.letS st).records fun r s => s.enqueue (s.letQueue st) (.letRec st r.number)
  let s4 := (s3.onMtl st fun x => { x with
    hist := (x.hist.filter fun h => m ≤ h.1).map fun h => (renumber m a h.1, h.2)
    anchored := true, anchorAt := a, inStep := false, oos := false, retryAt := none }).letRetained st
  s4.pairEval

/-- R355: an ANCHOR. -/
def State.anchorRx (b : List Byte) (s : State) : State :=
  let st := octet b 0
  let fcs := (List.range 8).map fun i => beAt b (16 + 4 * i) 4
  if !s.isLibero || !s.letServes st then s
  else match (s.mtlS st).anchorMatch fcs with
    | some m => s.anchorApply st (beAt b 4 4) m (beAt b 8 8)
    | none => (s.inc MTL_LIB_CNT.ANCHOR_MISS 0).onMtl st fun x => { x with retryAt := some (s.get LET_STREAM_STATUS.NEXT st + 4096) }

/-- RALLY_ANCHOR_RX (R355). -/
def execRallyAnchorRx (octets : List Byte) (s : State) : Host.Outcome State Fault Refusal :=
  finish (s.rallyTake 6 octets fun b s => s.anchorRx b)

/-- R355: an ANCHOR_REQ: the ANCHOR follows the next multiple of 4,096 that the device assigns. -/
def State.anchorReqRx (b : List Byte) (s : State) : State :=
  let st := octet b 0
  if s.isActivePaired && s.letServes st then
    s.onMtl st fun x => { x with anchorDue := some ((s.get LET_STREAM_STATUS.NEXT st + 4095) / 4096 * 4096) }
  else s

/-- RALLY_ANCHOR_REQ_RX (R355). -/
def execRallyAnchorReqRx (octets : List Byte) (s : State) : Host.Outcome State Fault Refusal :=
  finish (s.rallyTake 11 octets fun b s => s.anchorReqRx b)

/-- R346: a mirrored table command, under the rules of the MCU port; a DELETE of an SA that has begun holds the messages behind it. -/
def State.mirrorTable (b : List Byte) (s : State) : Bool × State :=
  let n := beAt b 8 2
  let op := beAt b 10 2
  let target := beAt b 12 2
  let index := beAt b 14 2
  let d := (List.range 8).map fun i => BitVec.ofNat 64 (beAt b (16 + 8 * i) 8)
  let (r, waits, s1) := s.tblDo n op target index false d
  if r.code != 0 then (false, s)
  else (true, if waits then { s1 with mtl := { s1.mtl with mirrorHeld := some index } } else s1)

/-- R346: a mirrored key command, its key octets wrapped under RALLY-WRAP. -/
def State.mirrorKey (b : List Byte) (s : State) : Bool × State :=
  let op := beAt b 8 2
  let part := beAt b 10 2
  let kh := beAt b 12 4
  match keyUnwrap (s.rallyKey "RALLY-WRAP") ((b.drop 40).take 40) with
  | none => (false, s)
  | some key =>
    if op == 2 then
      if s.kstEraseResult .mcu kh false == 0 then (true, (s.kstEraseOk .mcu kh).2) else (false, s)
    else
      let i := Master.mcu.idx
      let s1 := s.forN 4 fun w s => s.set KST_KEYDATA.DATA (4 * i + w) (beAt key (8 * w) 8)
      let salt := beAt b 24 16
      let s2 := ((s1.setWord .KST_ATTR i 0 (BitVec.ofNat 64 (beAt b 16 8))).setWord .KST_SALT i 0 (BitVec.ofNat 64 salt)).setWord .KST_SALT i 1
        (BitVec.ofNat 64 (salt / 2 ^ 64))
      if s2.kstWriteResult .mcu part kh false == 0 then (true, (s2.kstWriteOk .mcu part kh).2.kstZero .mcu) else (false, s2.kstZero .mcu)

/-- R346: a MIRROR is applied; one that does not end OK clears READY and raises the mirror-fault event. -/
def State.mirrorApply (b : List Byte) (s : State) : State :=
  let x := if octet b 0 == 1 then s.mirrorKey b else s.mirrorTable b
  if x.1 then x.2.when x.2.mtl.mirrorHeld.isSome fun s => s.pairEval
  else (({ x.2 with mtl := { x.2.mtl with mirrorBad := true } }).raise 149 4).pairEval

/-- R346: MIRRORs are applied in the order received. -/
def State.mirrorRx (b : List Byte) (s : State) : State :=
  if !s.isLibero then s else if s.mtl.mirrorHeld.isSome then s.mirrorWait 7 b else s.mirrorApply b

/-- R346, R360: a mirrored DELETE has ended with its SA gone: what waited behind it is applied, up to the next DELETE that waits. -/
def State.mirrorDrain (sa : Nat) (s : State) : State :=
  if s.mtl.mirrorHeld == some sa && (s.sa? sa).isNone then
    (({ s with mtl := { s.mtl with mirrorHeld := none, mirrorQ := [] } }).forL s.mtl.mirrorQ fun x s =>
      if s.mtl.mirrorHeld.isSome then s.mirrorWait x.1 x.2 else if x.1 == 7 then s.mirrorApply x.2 else s.leaseGrant x.2).pairEval
  else s

/-- SA_RETIRE_DONE (R46, R48, R49, R62, R346). -/
def execSaRetireDone (sa : Fin 65536) (s : State) : Host.Outcome State Fault Refusal := finish ((s.saRetireDone sa).mirrorDrain sa)

/-- RALLY_MIRROR_RX (R346). -/
def execRallyMirrorRx (octets : List Byte) (s : State) : Host.Outcome State Fault Refusal :=
  finish (s.rallyTake 7 octets fun b s => s.mirrorRx b)

/-- R365, Table 10-6: an ALERT on a libero; cause 0x04 is YIELD on the active. A STALE libero acts on none but a YIELD, which with such a
libero has FORCE = 1 (DEDUCED, log 15). -/
def State.alertRx (b : List Byte) (s : State) : State :=
  if s.isLibero && (octet b 0 == 4 || !s.flag MTL_PAIR_STATUS.STALE) then s.takeover (if octet b 0 == 4 then 3 else 2) else s

/-- RALLY_ALERT_RX (R365). -/
def execRallyAlertRx (octets : List Byte) (s : State) : Host.Outcome State Fault Refusal :=
  finish (s.rallyTake 8 octets fun b s => s.alertRx b)

/-- R366 step 2. -/
def State.takeoverRx (s : State) : State :=
  let r := s.get MTL_PAIR_STATUS.ROLE
  if r == 1 || r == 2 then (s.rallySend 10 []).becomeLibero false else s

/-- RALLY_TAKEOVER_RX (R366). -/
def execRallyTakeoverRx (octets : List Byte) (s : State) : Host.Outcome State Fault Refusal :=
  finish (s.rallyTake 9 octets fun _ s => s.takeoverRx)

/-- R366 step 3: the handshake ends. -/
def State.takeoverEnd (s : State) : State := if s.mtl.window && s.isLibero then s.becomeActive else s

/-- RALLY_TAKEOVER_ACK_RX (R366). -/
def execRallyTakeoverAckRx (octets : List Byte) (s : State) : Host.Outcome State Fault Refusal :=
  finish (s.rallyTake 10 octets fun _ s => s.takeoverEnd)

/-- TAKEOVER_WINDOW_EXPIRY (R366). -/
def execTakeoverWindowExpiry (s : State) : Host.Outcome State Fault Refusal := finish s.takeoverEnd

/-! ### Losses and retries -/

/-- R351, R365: a rally loss. -/
def State.rallyLoss (s : State) : State :=
  let s1 := s.raise 149 1
  if s.isActivePaired then s1.goAlone
  else if s.isLibero then
    let fresh := !s.flag MTL_PAIR_STATUS.STALE && !s.flag MTL_PAIR_STATUS.ACTIVE_IN
    let s2 := s1.when fresh fun s => s.takeover 1
    (s2.set MTL_PAIR_STATUS.STALE 0 1).pairEval
  else s1

/-- RALLY_MISSED (R351): 1 ms has passed without a valid HEALTH. In ACTIVE_ALONE the count goes on, and no state is left to lose. -/
def execRallyMissed (s : State) : Host.Outcome State Fault Refusal :=
  finish (if s.get MTL_PAIR_STATUS.ROLE == 0 then s
    else
      let n := s.mtl.missed + 1
      let s1 := { s.inc MTL_RALLY_CNT.MISSED 0 with mtl := { s.mtl with missed := n } }
      if n == 3 && (s.isActivePaired || s.isLibero) then s1.rallyLoss else s1)

/-- CHECKPOINT_TIMEOUT (R354): 100 ms after a checkpoint for a number that has not been reached. -/
def execCheckpointTimeout (st : Fin 256) (number : BitVec 64) (s : State) : Host.Outcome State Fault Refusal :=
  finish (if s.isLibero && (s.mtlS st).wants.any (fun w => w.1 == number.toNat) then s.streamOut st else s)

/-- ANCHOR_RETRY (R355): 4,096 further frames have been numbered. -/
def execAnchorRetry (st : Fin 256) (s : State) : Host.Outcome State Fault Refusal :=
  finish (if s.isLibero && (s.mtlS st).retryAt.any (· ≤ s.get LET_STREAM_STATUS.NEXT st) then
      (s.onMtl st fun x => { x with retryAt := none }).rallySend 11 [BitVec.ofNat 8 st]
    else s)

/-- R365: YIELD on an active whose libero is READY, or with FORCE. -/
def State.pairYield (force : Bool) (s : State) : State :=
  if s.isActivePaired && (force || s.mtl.peerFlags % 2 == 1) then s.pairAlert 4 else s

/-- MTL_YIELD (R365). -/
def execMtlYield (force : Bool) (s : State) : Host.Outcome State Fault Refusal := finish (s.pairYield force)

/-- R365: TAKE on a libero in LIBERO_READY, or with FORCE. -/
def State.pairTake (force : Bool) (s : State) : State :=
  if s.isLibero && (force || s.get MTL_PAIR_STATUS.ROLE == 5) then s.takeover 3 else s

/-- MTL_TAKE (R365). -/
def execMtlTake (force : Bool) (s : State) : Host.Outcome State Fault Refusal := finish (s.pairTake force)

/-- LIBERO_LANE_TEST (R352): the loops of the lanes that no enabled port uses end; `failed` lists those with bit errors. No lane is
retired for it (R273). -/
def execLiberoLaneTest (failed : List (Fin 64)) (s : State) : Host.Outcome State Fault Refusal :=
  finish (if failed.any fun j => s.portState (s.lanePort j.val) == 0 then (s.pairFail 5).pairEval else s)

end Sys2Proof.Machine
end

