-- ==== Sys2Proof/Machine/Reset.lean ====
section
/-!
DEFINITION. The device reset (R7, R518, R537, R647, Table 19-14): what it keeps and what start-up then begins from.
-/

namespace Sys2Proof.Machine

/-- The registers that a device reset keeps whole: those of the AUX and always-on domains and of the one-time array. -/
def keptRegs : List Reg :=
  [.TMP_STATUS, .TMP_ALARM, .TMP_RAW, .TMP_AOLOG_STATUS, .TMP_ACLK, .TMP_AOLOG, .GLB_PIN_STATUS, .GLB_PIN_GLITCH, .PWR_STATE, .LCM_STATE]

/-- The fields of other registers that a device reset keeps. -/
def keptFields : List Field :=
  [NVJ_BOOT.PIN, NVJ_BOOT.BAD_A, NVJ_BOOT.BAD_B, GLB_RESET.PC_FAIL, SBM_STATUS.MODE, SBM_STATUS.STATIC_ADDR, SBM_STATUS.DYN_ADDR]

/-- R537, R683: a COMMIT that is being programmed completes. -/
def State.commitFinish (s : State) : State :=
  match s.nvj.prog with
  | some p =>
    if s.nvj.committing then s.prog (s.placeBase p.pos p.boundary + entryC p.req.payload.length) (commitOf p.seq) else s
  | none => s

/-- R518: the slots that survive a device reset: the keys that are not VOLATILE, without the changes that had not committed; none
where the banks lose power (R647). -/
def keptSlots (powerLost : Bool) (m : KMap KeySlot) : KMap KeySlot :=
  if powerLost then []
  else (m.filter fun e => e.2.key.any fun k => !k.vol).map fun e => (e.1, { e.2 with changes := [] })

/-- The state after a device reset, with start-up at step 1. -/
def State.deviceReset (powerLost : Bool) (s : State) : State :=
  let s0 := s.commitFinish
  let r : State := { regs := s0.regs.filter fun e => keptRegs.any fun r => r.ctorIdx == e.1 / 65536 }
  let r1 := keptFields.foldl (fun (r : State) f => r.set f 0 (s0.get f)) r
  let r2 := (r1.set MTL_PAIR_STATUS.ACTIVE_IN 0 (s0.get GLB_PIN_STATUS.ACTIVE_IN)).set MTL_PAIR_STATUS.MATE_PRESENT 0
    (s0.get GLB_PIN_STATUS.MATE_PRESENT)
  { r2 with
    kst := { slots := keptSlots powerLost s0.kst.slots }
    lcm := { s0.lcm with challenge := none, cmd := none, stateRoot := none }
    nvj := { flash := s0.nvj.flash, logAt := s0.nvj.logAt }
    tmp := { s0.tmp with resp := 0, squelched := false }
    pwr := { s0.pwr with startAt := 0, recovery := false, waking := [], pulses := [], transitAt := 0 }
    sb := s0.sb
    tap := s0.tap
    free := s0.free
    pending := s0.pending }

/-- Start-up begins again at step 1 without a reset of the registers (R593). -/
def State.startAgain (s : State) : State :=
  let s1 := (s.resetReg .PWR_START_STATUS 0).forN 10 fun i s => s.resetReg .PWR_STEP_END i
  { s1 with pwr := { s1.pwr with startAt := s1.clk.sinceReset, recovery := false } }

/-- Start-up runs: SERVICE, not stopped, before traffic; while TAMPER_HOLD lasts it ends at step 3 (R593, R648 to R651). -/
def State.starting (s : State) : Bool :=
  s.pwr.power == 3 && !s.pwr.resetHeld && s.tmp.resp == 0 && !s.flag PWR_START_STATUS.STOPPED && !s.flag PWR_START_STATUS.TRAFFIC
    && !(s.flag TMP_STATUS.HOLD && 3 ≤ s.get PWR_START_STATUS.STEP)

/-- Milliseconds since the start of step 1. -/
def State.elapsedMs (s : State) : Nat := (s.clk.sinceReset - s.pwr.startAt) / 1000000

/-- Functions that the image enables start at step 8 (Table 21-3): until then their ports and pods wait. -/
def State.bootHolds (s : State) : Bool := s.starting && s.get PWR_START_STATUS.STEP < 8

/-- Start-up has stopped or is held: every port stays OFF (R593, R651). -/
def State.bootBarred (s : State) : Bool := s.flag PWR_START_STATUS.STOPPED || s.flag TMP_STATUS.HOLD

/-- R651: start-up stops with a cause of Table 21-4: every port OFF, ACTIVE_OUT 0b00, no key loaded. -/
def State.startStop (cause : Nat) (s : State) : State :=
  let s1 := ((s.set PWR_START_STATUS.STOPPED 0 1).set PWR_START_STATUS.CAUSE 0 cause).set PWR_START_STATUS.ELAPSED_MS 0 s.elapsedMs
  let s2 := s1.forN 32 fun p s =>
    let s1 := (((s.set CPX_PORT_CTRL.EN p 0).set CPX_PORT_CTRL.STATE p 0).set LPX_PORT_CTRL.EN p 0).set LPX_PORT_CTRL.STATE p 0
    (s1.set CPX_PORT_STATUS.BSTATE p 0).set LPX_PORT_STATUS.BSTATE p 0
  { s2.set MTL_PAIR_STATUS.ACTIVE_OUT 0 0 with kst := { s2.kst with slots := [] } }

end Sys2Proof.Machine
end

