-- ==== Sys2Proof/Machine/Functions.lean ====
section
/-!
DEFINITION. The functions that follow Table 1-8 (R31 to R37, R694): their enable and disable, what their start-up checks and does, and
what their shut-down completes.
-/

namespace Sys2Proof.Machine

/-! ### Registers of the functions -/

/-- EN of a function and its instance. -/
def fnEn : Fn → Field × Nat
  | .pod n p => (FEN_POD_CTRL.EN, 6 * n + p)
  | .port p => if p < 32 then (CPX_PORT_CTRL.EN, p) else (LPX_PORT_CTRL.EN, p - 32)
  | .trib p t => (KFR_TRIB.EN, 32 * p + t)
  | .group g => (FAB_PG_CFG.EN, g)
  | .stream st => (LET_STREAM_CFG.EN, st)
  | .pair => (MTL_PAIR_CFG.EN, 0)
  | .agent => (GLB_AGT_CTRL.EN, 0)
  | .queue q => (QMG_QCFG.EN, q)
  | .rekey n j => (IME_RKEY_CTRL.EN, 8 * n + j)
  | .ring r => (HIF_RING_CFG.EN, r)
  | .eventRing => (EVT_RING_CFG.EN, 0)
  | .shadow n => (TBL_SHADOW_CTRL.EN, n)
  | .audit => (QMG_AUDIT_CTRL.EN, 0)
  | .sramTest n => (SRB_TEST_CFG.EN, n)

/-- STATE of a function: it lies in the register of EN, at bits 3 and 2. -/
def fnStateField (f : Fn) : Field := { (fnEn f).1 with lo := 2, width := 2, acc := .ro }

/-- STATE of a function (Table 1-7). -/
def State.fnState (s : State) (f : Fn) : Nat := s.get (fnStateField f) (fnEn f).2

/-- EN and STATE of a function. -/
def State.fnSet (f : Fn) (en state : Nat) (s : State) : State := (s.set (fnEn f).1 (fnEn f).2 en).set (fnStateField f) (fnEn f).2 state

/-- The function has completed its start-up (R694). -/
def State.inService (s : State) (f : Fn) : Bool := s.service.contains f.code

/-- The function enters service. -/
def State.enterService (f : Fn) (s : State) : State := if s.inService f then s else { s with service := s.service ++ [f.code] }

/-- The function leaves service. -/
def State.leaveService (f : Fn) (s : State) : State := { s with service := s.service.filter (· != f.code) }

/-- The source and INST of a function's failure event (Table 19-10), where it has one. -/
def fnEvent : Fn → Option (Nat × Nat)
  | .pod n p => some (119 + 8 * n, p)
  | .port p => some (p, p)
  | .trib p t => some (119 + 8 * (p / 8), 32 * (p % 8) + t)
  | .group g => some (64 + g, g)
  | .stream st => some (80 + st / 8, st)
  | .pair => some (149, 0)
  | .queue q => some (119 + 8 * (q / 1024), q % 1024)
  | .rekey n j => some (119 + 8 * n, j)
  | _ => none

/-- R37: a start-up fails: OFF, EN cleared, the failure event. -/
def State.fnFail (f : Fn) (s : State) : State :=
  let s1 := (s.fnSet f 0 0).leaveService f
  match fnEvent f with
  | some (src, inst) => s1.raise src 15 inst
  | none => s1

/-- The power domains of a function (Table 21-7). -/
def State.fnDomains (s : State) (f : Fn) : List Nat :=
  match f with
  | .pod n p => (192 + 6 * n + p) :: (List.range 8).map fun k => 48 * n.val + 8 * p + k
  | .port p => (s.portLanes p).map (268 + ·) ++ [334 + 2 * portRegion p + (if p < 32 then 0 else 1), 358 + portRegion p]
  | .pair => [332, 333, 371]
  | _ => []

/-- R658: the domains of a function are all ON. -/
def State.fnAwake (s : State) (f : Fn) : Bool := (s.fnDomains f).all s.domOn

/-! ### What an enable requires -/


/-- Table 6-11: the allotment of a block-transparent tributary, for the client rates 100, 200, 400 and 800 against the line rates 400, 800 and 1600. -/
def btAllotOf (client line : Nat) : Option Nat :=
  match client, line with
  | 100, 400 => some 265
  | 100, 800 => some 133
  | 100, 1600 => some 67
  | 200, 400 => some 529
  | 200, 800 => some 265
  | 200, 1600 => some 133
  | 400, 800 => some 529
  | 400, 1600 => some 265
  | 800, 1600 => some 529
  | _, _ => none

/-- R215: two allotments of a port do not overlap. -/
def State.tribApart (s : State) (a b : Nat) : Bool :=
  let sa := s.get KFR_TRIB.START a
  let sb := s.get KFR_TRIB.START b
  sa + s.get KFR_TRIB.ALLOT a ≤ sb || sb + s.get KFR_TRIB.ALLOT b ≤ sa

/-- R215, R228, R243: a tributary may be enabled. -/
def State.tribOk (s : State) (p t : Nat) : Bool :=
  let k := 32 * p + t
  let c := s.get KFR_TRIB.CLIENT_PORT k
  s.get KFR_TRIB.START k + s.get KFR_TRIB.ALLOT k ≤ 1016
    && ((List.range 32).all fun u => u == t || s.get KFR_TRIB.STATE (32 * p + u) == 0 || s.tribApart k (32 * p + u))
    && (s.get KFR_TRIB.TYPE k != 2
      || (c / 8 == p / 8 && s.flag CPX_PORT_CTRL.BT_USE c && s.get KFR_TRIB.FIXED k == 3
        && btAllotOf (s.portRate c) (s.portRate (32 + p)) == some (s.get KFR_TRIB.ALLOT k)))

/-- R258: a protection group may be enabled. -/
def State.groupOk (s : State) (g : Nat) : Bool :=
  let w := s.pgW g
  let p := s.pgP g
  w != p && s.isKraow (32 + w) && s.isKraow (32 + p) && s.portRate (32 + w) == s.portRate (32 + p)
    && ((List.range 16).all fun h => h == g || s.get FAB_PG_CFG.STATE h == 0
      || !([s.pgW h, s.pgP h].any fun x => x == w || x == p))
    && (List.range 32).all fun t =>
      [KFR_TRIB.EN, KFR_TRIB.TYPE, KFR_TRIB.START, KFR_TRIB.ALLOT, KFR_TRIB.FIXED, KFR_TRIB.EXP_PACK, KFR_TRIB.CLIENT_PORT].all
        fun f => s.get f (32 * w + t) == s.get f (32 * p + t)

/-- A TX SC for a stream's client port and a line port; `replay`: one that no classification entry feeds. -/
def State.letTxOk (s : State) (st sc port : Nat) (replay : Bool) : Bool :=
  (s.sc? sc).any fun c => !c.rx && c.inPort == s.get LET_STREAM_CFG.CLIENT_PORT st && c.egPort == port && (!replay || c.clsRefs == 0)
    && c.encrypt && c.confOff == 0

/-- An RX SC of a stream's client port on a line port. -/
def State.letRxOk (s : State) (st sc port : Nat) : Bool :=
  (s.sc? sc).any fun c => c.rx && c.inPort == port && c.egPort == s.get LET_STREAM_CFG.CLIENT_PORT st

/-- R305: the TX SCs of a stream. -/
def State.letScsOk (s : State) (st : Nat) : Bool :=
  let w := s.letW st
  let p := s.letP st
  let kr := s.letKraow st
  s.letTxOk st (s.get LET_STREAM_SC.SC_W st) w false
    && (!(s.flag LET_STREAM_CFG.VOLLEY st || kr) || s.letTxOk st (s.get LET_STREAM_SC.SC_P st) p false)
    && (kr || (s.letTxOk st (s.get LET_STREAM_SC.RPL_W st) w true && s.letTxOk st (s.get LET_STREAM_SC.RPL_P st) p true
      && s.get LET_CTL_DA.DA w != 0 && s.get LET_CTL_DA.DA p != 0))

/-- R305: the RX SCs of a stream (R700). -/
def State.letRxScsOk (s : State) (st : Nat) : Bool :=
  (s.letRxUsed st).all fun x => s.letRxOk st (s.get x.1 st) x.2

/-- R305: the windows of the region's retaining streams, this one's taken as `window`, fit the let partition. -/
def State.letWindowsFit (s : State) (st window : Nat) : Bool :=
  let n := s.letRegion st
  let others := (List.range 256).filter fun x => x != st && s.get LET_STREAM_CFG.STATE x != 0 && s.flag LET_STREAM_CFG.RETAIN x
    && s.letRegion x == n
  sumOf others (fun x => s.get LET_STREAM_CFG.WINDOW x) + window ≤ s.get DMC_CAP.LET_MIB n

/-- R305: a stream may be enabled. -/
def State.streamOk (s : State) (st : Nat) : Bool :=
  let w := s.letW st
  let p := s.letP st
  let kr := s.letKraow st
  let c := s.get LET_STREAM_CFG.CLIENT_PORT st
  let cls := s.get LET_STREAM_CFG.CLASS st
  let q := s.letQueue st
  let retain := s.flag LET_STREAM_CFG.RETAIN st
  s.isKraow (32 + p) == kr && (!s.flag LET_STREAM_CFG.VOLLEY st || w != p)
    && (!kr || (s.groupOf w p).any fun g => s.get FAB_PG_CFG.STATE g == 1)
    && s.letScsOk st && s.letRxScsOk st
    && s.get QMG_QCFG.ROLE q == 4 && q / 1024 == c / 8 && s.get QMG_QCFG.OWNER q == st && s.get QMG_QCFG.STATE q == 1
    && ((List.range 256).all fun x => x == st || s.get LET_STREAM_CFG.STATE x == 0 || s.get LET_STREAM_CFG.CLIENT_PORT x != c
      || s.get LET_STREAM_CFG.CLASS x != cls)
    && (!retain || (s.letWindowsFit st (s.get LET_STREAM_CFG.WINDOW st)
      && (s.get LET_STREAM_CFG.POLICY st != 0 || (s.get CPX_PORT_CTRL.PFC_TX c).testBit cls)))

/-- R388: a queue may be enabled. -/
def State.queueOk (s : State) (q : Nat) : Bool :=
  s.get QMG_QCFG.ROLE q != 1 || (List.range 4096).all fun x =>
    x == q || s.get QMG_QCFG.STATE x == 0 || s.get QMG_QCFG.ROLE x != 1 || s.get QMG_QCFG.OWNER x % 64 != s.get QMG_QCFG.OWNER q % 64
      || s.get QMG_QCFG.CLASS x != s.get QMG_QCFG.CLASS q

/-- R605: a ring may be enabled. -/
def State.ringOk (s : State) (r : Nat) : Bool :=
  let q := s.get HIF_RING_CFG.QUEUE r
  s.get QMG_QCFG.ROLE q == 2 && s.get QMG_QCFG.OWNER q == r && s.get QMG_QCFG.STATE q == 1

/-- R350: the pair transfer key is present. -/
def State.pairOk (s : State) : Bool := (s.usableKey? (65536 + s.get MTL_PAIR_CFG.PTK_SLOT)).any fun k => k.purpose == 2

/-- The checks of an enable hold; the banks of R477 among them. -/
def State.fnOk (s : State) (f : Fn) : Bool :=
  match f with
  | .pod n _ => s.banksOn n [2, 3]
  | .port p => (s.portStartCause p).isNone && s.banksOn (portRegion p) [1, 4]
  | .trib p t => s.tribOk p t
  | .group g => s.groupOk g
  | .stream st => s.streamOk st && s.banksOn (s.get LET_STREAM_CFG.CLIENT_PORT st / 8) [6]
  | .pair => s.pairOk
  | .queue q => s.queueOk q
  | .ring r => s.ringOk r
  | _ => true

/-! ### Start-up -/

/-- R336: the start-up of a stream, once INSTANCE can be drawn. -/
def State.streamStart (st : Nat) (s : State) : State :=
  let (w, s0) := s.draw
  let s1 := s0.pmcEvent 4 0x12 0 1
  let s2 := ((s1.set LET_STREAM_STATUS.NEXT st 1).set LET_STREAM_STATUS.CUM st 0).set LET_STREAM_STATUS.RX_NEXT st 1
  let s3 := ((s2.set LET_STREAM_STATUS.INSTANCE st (w.toNat % 2 ^ 32)).set LET_STREAM_STATUS.LINKED st 0).set LET_STREAM_STATUS.MODE st 1
  let s4 := (s3.onLet st fun _ => {}).enterService (.stream (Fin.ofNat 256 st))
  let s5 := (s4.letWindow st).when s4.isActivePaired fun s => s.onMtl st fun x => { x with anchorDue := some 1 }
  s5.letSend (s5.letHello st)

/-- A function whose start-up needs a draw: at once, later when the generator reseeds, or never (R521). -/
def State.drawStart (f : Fn) (run : State → State) (s : State) : State :=
  if s.flag KST_CTRL.DRBG_FAIL then s.fnFail f
  else if s.drbgRefuses then s
  else run s

/-- R456: the start-up of a re-key. -/
def State.rekeyBegin (f : Fn) (g : Nat) (s : State) : State :=
  if s.flag IME_RKEY_CTRL.SPLIT g then s.enterService f
  else s.drawStart f fun s => (s.rekeyStart g).2.enterService f

/-- R605: the start-up of a ring. -/
def State.ringStart (r : Nat) (s : State) : State :=
  s.onRing r fun x => { nextId := x.nextId, wbs := x.wbs, err := x.err }

/-- What a start-up does at the enable; pods, ports and the pair go on from there. The shadow compare goes on from the POS it holds
(DESIGN CHOICE, log 63: R77 does not say that an enable restarts the pass). -/
def State.startUp (f : Fn) (s : State) : State :=
  match f with
  | .pod _ _ => s
  | .port p => if s.fnAwake f && !s.bootHolds then s.bringUp p else s
  | .trib p t => s.onTrib (32 * p + t) fun _ => {}
  | .group g => ((s.set FAB_PG_STATUS.SEL g 0).onPg g fun _ => {}).pgEval g |>.enterService f
  | .stream st => s.drawStart f fun s => s.streamStart st
  | .pair => if s.fnAwake f && !s.bootHolds then (s.bringUp 64).bringUp 65 else s
  | .agent => (s.enterService f).agentStart
  | .queue q => (s.putCredit q 0).enterService f
  | .rekey n j => s.rekeyBegin f (8 * n + j)
  | .ring r => (s.ringStart r).enterService f
  | .eventRing => ((s.set EVT_RING_STATUS.TAIL 0 0).set EVT_RING_HEAD.HEAD 0 0).enterService f
  | .shadow _ => s.enterService f
  | .audit => s.enterService f
  | .sramTest _ => s.enterService f

/-- A start-up begins: its checks, the domains it needs (R658), and what it does at once. -/
def State.fnStart (f : Fn) (s : State) : State :=
  let s1 := (s.fnSet f 1 1).leaveService f
  if s1.fnOk f then (s1.domWake (s1.fnDomains f)).startUp f
  else
    let s2 := match f with
      | .port p => s1.setCause p ((s1.portStartCause p).getD 0)
      | _ => s1
    s2.fnFail f

/-! ### Enable and disable (Table 1-8) -/

/-- An enable that the Bolorn discards: of a port while start-up is held or stopped (R593, R651), of a port with a test pattern on its lanes (R300), of a port that its complex's mode does not
give (R276), of a queue whose EN is fixed (R389). -/
def State.enableDiscarded (s : State) (f : Fn) : Bool :=
  match f with
  | .port p => !s.portExists p || s.bootBarred || (s.portLanes p).any fun j => s.get LNS_LANE.PRBS_GEN j != 0 || s.get LNS_LANE.PRBS_CHK j != 0
  | .queue q => q % 1024 < 104
  | _ => false

/-- A disable that the Bolorn discards: of a queue whose EN is fixed or whose let stream is not OFF (R389). -/
def State.disableDiscarded (s : State) (f : Fn) : Bool :=
  match f with
  | .port p => !s.portExists p
  | .queue q => q % 1024 < 104 || (s.get QMG_QCFG.ROLE q == 4 && s.get LET_STREAM_CFG.STATE (s.get QMG_QCFG.OWNER q % 256) != 0)
  | _ => false

/-- R380: a start is discarded as a whole where the queue's MIN would make the shared pool negative. -/
def State.fnStartGuarded (f : Fn) (s : State) : State :=
  match f with
  | .queue q => s.poolGuard (queueRegion q) fun s => s.fnStart f
  | _ => s.fnStart f

/-- R32: an enable. -/
def State.fnEnable (f : Fn) (s : State) : State :=
  if s.enableDiscarded f then s
  else match s.fnState f with
    | 0 => s.fnStartGuarded f
    | 1 => s
    | _ => s.fnSet f 1 3

/-- What a shut-down does as it begins. -/
def State.shutDown (f : Fn) (s : State) : State :=
  match f with
  | .pod n p => (s.forN 8 fun k s => s.fenceEngine n (8 * p + k) 5).regionUpdate n
  | .port p => s.when (s.bstate p == 5) fun s => s.portDown p
  | .trib p t => (s.plmRaw p t false).defectSync p
  | .group g => s.onPg g fun x => { x with want := false }
  | .stream st => s.onLet st fun x => { x with closeStep := 1 }
  | .pair => s.pairOff
  | .agent => s.forN 32 fun p s => s.agtEnd p
  | .queue q => s.discardAll q QMG_QSTAT.DROPS
  | _ => s

/-- R32, R694: a disable. -/
def State.fnDisable (f : Fn) (s : State) : State :=
  if s.disableDiscarded f then s
  else match s.fnState f with
    | 0 => s
    | 1 => (s.fnSet f 0 2).shutDown f
    | _ => s.fnSet f 0 2

/-! ### Completions -/

/-- R605, step 2 and 3: the transfer that waits is abandoned with FAULT, and every fetched descriptor completes with FLUSHED. -/
def State.ringFlush (r : Nat) (s : State) : State :=
  let s1 := s.when (s.ring r).wait.isSome fun s => (s.unstall r).dmaFault (s.waitXfer r)
  let s2 := s1.onRing r fun x => { x with txq := x.txq.map fun f => if f.done.isNone then { f with done := some (5, none) } else f }
  (s2.ringSettle (s2.ring r).txq.length r).when (256 ≤ r) fun s => s.discardAll (s.get HIF_RING_CFG.QUEUE r) QMG_QSTAT.DROPS

/-- The work of a shut-down is done. -/
def State.fnStopped (s : State) (f : Fn) : Bool :=
  match f with
  | .pod n p => (List.range 8).all fun k => (s.eng (48 * n + 8 * p + k)).items.isEmpty
  | .trib p t => (s.tribSt (32 * p + t)).ended || !s.judged p
  | .group g => !s.flag FAB_PG_STATUS.SEL g
  | .stream _ => false
  | .queue q => (s.queue q).flush.isNone
  | _ => true

/-- An engine of a pod that has shut down: OFF, wiped, and its acknowledgements no longer awaited (R117). -/
def State.engineOut (g : Nat) (s : State) : State :=
  let s1 := (s.clearEngine g).set FEN_ENG.STATE g 0
  let ws := (s1.fen.wipes.map fun w => { w with waiting := w.waiting.filter (· != g) }).filter fun w => !w.waiting.isEmpty
  { s1 with fen := { s1.fen with wipes := ws } }

/-- What a shut-down leaves. -/
def State.fnOff (f : Fn) (s : State) : State :=
  match f with
  | .pod n p => (s.forN 8 fun k s => s.engineOut (48 * n + 8 * p + k)).regionUpdate n
  | .port p => s.portOff p
  | .trib p t => (s.onTrib (32 * p + t) fun _ => {}).set KFR_TRIB.LABEL_TX (32 * p + t) 0
  | .stream st => (s.onLet st fun _ => {}).set LET_STREAM_STATUS.FULL st 0
  | .pair => (s.setBst 64 0).setBst 65 0
  | .rekey n j => s.rekeyEnd (8 * n + j)
  | .ring r => s.ringFlush r
  | .shadow n => s.putUnit n { s.unit n with shadowWaits := [] }
  | _ => s
/-- TYPE and INDEX of a function in `GLB_FRESET` (Table 19-9), where it has them. -/
def fnFreset : Fn → Nat × Nat
  | .port p => (1, p)
  | .queue q => (3, q)
  | .ring r => (4, r)
  | .pod n p => (5, 6 * n + p)
  | _ => (0, 0)

/-- Table 1-8: a shut-down completes: OFF, or ON through start-up where an enable is pending. -/
def State.fnDone (f : Fn) (s : State) : State :=
  let pend := s.fnState f == 3
  let s1 := ((s.fnOff f).leaveService f).fnSet f 0 0
  let s2 := match f with
    | .queue q => s1.bufShow (queueRegion q)
    | _ => s1
  if pend then s2.fnStartGuarded f else s2.fresetOff (fnFreset f).1 (fnFreset f).2

/-- R36: a function reset: a disable that also cancels a pending enable. -/
def State.fnReset (f : Fn) (s : State) : State := s.fnDisable f

/-- R85: a pod enters service: its engines with the cores that passed. An engine none of whose cores passed stays OFF with CAUSE
NO_CORES and counts as fenced in LEVEL and CORES_OUT, without an engine-fence event (DESIGN CHOICE, log 63). -/
def State.podIn (n p : Nat) (fails : List (Nat × Nat)) (s : State) : State :=
  let s1 := s.set FEN_POD_CTRL.SET_IN_USE (6 * n + p) (s.get FEN_POD_CTRL.CODE_SET (6 * n + p))
  let s2 := s1.forN 8 fun k s =>
    let g := 48 * n + 8 * p + k
    let cores := (List.range 6).foldl (fun m c => if fails.contains (k, c) then m else m + 2 ^ c) 0
    let s := (s.onEng g fun x => { x with dmem := [] }).set FEN_ENG.CORES_IN g cores
    if cores == 0 then s.set FEN_ENG.CAUSE g 3 else (s.set FEN_ENG.STATE g 1).setRotation n (8 * p + k) true
  (s2.epoch n).regionUpdate n

/-! ### Meanings -/

/-- FUNCTION_ENABLE (R32): a write of EN = 1 that changes no other field. -/
def execFunctionEnable (f : Fn) (s : State) : Host.Outcome State Fault Refusal := finish (s.fnEnable f)

/-- FUNCTION_DISABLE (R32): a write of EN = 0 that changes no other field. -/
def execFunctionDisable (f : Fn) (s : State) : Host.Outcome State Fault Refusal := finish (s.fnDisable f)

/-- R694: the cores that failed the known-answer test of a start-up since abandoned stay out of service. -/
def State.coresFailed (f : Fn) (fails : List (Fin 8 × Fin 6)) (s : State) : State :=
  match f with
  | .pod n p => (s.forL fails fun x s =>
      let g := 48 * n.val + 8 * p.val + x.1.val
      let m := s.get FEN_ENG.CORES_IN g
      s.set FEN_ENG.CORES_IN g (if m.testBit x.2.val then m - 2 ^ x.2.val else m)).regionUpdate n
  | _ => s

/-- FUNCTION_STARTUP_DONE (R85, R343, R694): the start-up of a pod or of the pair completes, its domains being ON; `fails` are the
engines (0 to 7) and cores of a pod that fail the known-answer test. Where a disable has reached the function before that, only these
results stand. The start-up of the other functions ends with their enable, a port's with bring-up and a tributary's with
TRIB_STARTUP_BEGIN. -/
def execFunctionStartupDone (f : Fn) (fails : List (Fin 8 × Fin 6)) (s : State) : Host.Outcome State Fault Refusal :=
  finish (if 2 ≤ s.fnState f && !s.inService f && s.fnAwake f then s.coresFailed f fails
    else if s.fnState f != 1 || s.inService f || !s.fnAwake f || s.bootHolds then s
    else match f with
      | .pod n p => (s.podIn n p (fails.map fun x => (x.1.val, x.2.val))).enterService f
      | .pair => (s.enterService f).pairSelect
      | _ => s)

/-- FUNCTION_SHUTDOWN_DONE (R32, R34). -/
def execFunctionShutdownDone (f : Fn) (s : State) : Host.Outcome State Fault Refusal :=
  finish (if 2 ≤ s.fnState f && s.fnStopped f then s.fnDone f else s)

/-- LET_SHUTDOWN_QUIET (R338): 250 ms after the last transmission of a stream whose records and frames have been freed. -/
def execLetShutdownQuiet (st : Fin 256) (s : State) : Host.Outcome State Fault Refusal :=
  finish (if 2 ≤ s.fnState (.stream st) && ((s.letS st).closeStep == 3 || !s.inService (.stream st)) then s.fnDone (.stream st) else s)

/-- The start-ups that wait for a draw go on (R521). -/
def State.drawsResume (s : State) : State :=
  let s1 := s.forN 256 fun st s =>
    let f := Fn.stream (Fin.ofNat 256 st)
    if s.fnState f == 1 && !s.inService f then s.streamStart st else s
  s1.forN 32 fun g s =>
    let f := Fn.rekey (Fin.ofNat 4 (g / 8)) (Fin.ofNat 8 (g % 8))
    if s.fnState f == 1 && !s.inService f then s.rekeyBegin f g else s

/-- DRBG_RESEED (R519, R520): the generator reseeds, draws that waited are answered, and failures no longer count as consecutive. -/
def execDrbgReseed (s : State) : Host.Outcome State Fault Refusal :=
  finish (if s.flag KST_CTRL.DRBG_FAIL then s
    else ({ s with kst := { s.kst with drbgStopped := false, drbgFails := 0, drbgReqs := 0 } }).drawsResume)

/-- DRBG_DRAW_TIMEOUT (R521): a draw is still refused after 100 ms. -/
def execDrbgDrawTimeout (who : DrawUser) (s : State) : Host.Outcome State Fault Refusal :=
  let waits := fun (f : Fn) => s.drbgRefuses && s.fnState f == 1 && !s.inService f
  finish (match who with
    | .stream st => if waits (.stream st) then s.fnFail (.stream st) else s
    | .rekey n j => if waits (.rekey n j) then s.fnFail (.rekey n j) else s
    | .agent p => if s.drbgRefuses && s.agentOn then s.raise 150 3 p else s
    | .startup => if s.drbgRefuses && s.starting then s.startStop 9 else s
    | .loop => s)

end Sys2Proof.Machine
end

