-- ==== Sys2Proof/Machine/Tamper.lean ====
section
/-!
DEFINITION. The tamper and environment block: declaring the alarms of Table 18-1, the responses of Table 18-3, the always-on log
and TAMPER_HOLD (R572 to R599), and the thermal stages (R692).
-/

namespace Sys2Proof.Machine

/-! ### The always-on log (R598) -/

/-- PSTATE of a log record. -/
def State.logPstate (s : State) : Nat :=
  match s.pwr.power with
  | 1 => 2
  | 2 => 1
  | _ => if s.flag PWR_START_STATUS.TRAFFIC then 0 else 3

/-- A record is appended to the always-on log. -/
def State.aoAppend (source resp : Nat) (bskErased : Bool) (s : State) : State :=
  let j := s.tmp.aoNext % 16
  let s1 := ((s.set TMP_AOLOG.SOURCE j source).set TMP_AOLOG.RESPONSE j resp).set TMP_AOLOG.PSTATE j s.logPstate
  let s2 := (s1.set TMP_AOLOG.LC j (if s.pwr.power == 3 then s.lcState else 0)).set TMP_AOLOG.BSK_ERASED j (natOfBool bskErased)
  let s3 := (s2.set TMP_AOLOG.ACLK j (s.get TMP_ACLK.COUNT)).set TMP_AOLOG.STARTS j (s.get TMP_STATUS.STARTS)
  let s4 := (s3.set TMP_AOLOG_STATUS.COUNT 0 (min 16 (s.get TMP_AOLOG_STATUS.COUNT + 1))).inc TMP_AOLOG_STATUS.TOTAL 0
  { s4 with tmp := { s4.tmp with aoNext := s4.tmp.aoNext + 1 } }

/-- R599: the log holds a record with BSK_ERASED = 1; a clear empties the log. -/
def State.aoErased (s : State) : Bool := (List.range 16).any fun j => s.flag TMP_AOLOG.BSK_ERASED j

/-! ### Responses (R580 to R585, Tables 18-3 and 18-6) -/

/-- The response that `TMP_RESP`, or the always-on domain's copy of it, gives a source; software and side-band requests (16, 17)
always carry ZEROISE. -/
def State.respOf (s : State) (src : Nat) : Nat :=
  if 16 ≤ src then 3 else (if s.pwr.power == 3 then s.word .TMP_RESP 0 0 else s.tmp.aoResp).bits (2 * src) 2

/-- Table 18-1, R595: a source is monitored in the present power state. -/
def State.monitored (s : State) (src : Nat) : Bool :=
  match s.pwr.power with
  | 3 => true
  | 2 => [8, 9, 10, 12, 13, 15, 16, 17].contains src
  | 1 => [9, 10, 12, 13, 15].contains src
  | _ => false

/-- The BSK is erased. -/
def State.bskErase (s : State) : State := { s with tmp := { s.tmp with bsk := none } }

/-- The actions of RESET (Table 18-3) before the log record and the reset; the work items in progress end without output (R129), and a
KST, LCM or NVJ command in progress is aborted (R585). -/
def State.resetActions (s : State) : State :=
  let s1 := ((s.set MTL_PAIR_STATUS.ACTIVE_OUT 0 0).haltItems).forN 192 fun g s => s.clearEngine g
  { s1 with
    tmp := { s1.tmp with squelched := true, resp := max s1.tmp.resp 2 }
    nvj := { s1.nvj with stopped := true, prog := if s1.nvj.committing then s1.nvj.prog else none, jcmd := none, img := none }
    kst := { s1.kst with hostPort := .idle, mcuPort := .idle }
    lcm := { s1.lcm with cmd := none } }

/-- What ZEROISE adds: every slot erased, the secure part wiped, the BSK erased. -/
def State.zeroiseActions (wipeOk : Bool) (s : State) : State :=
  let s1 := ({ s with kst := { s.kst with slots := [] }, tmp := { s.tmp with resp := 3 } }).secureWipe 1 wipeOk
  s1.bskErase

/-- R591: a start that ends in a response before reaching traffic. -/
def State.countStart (s : State) : State :=
  if s.flag PWR_START_STATUS.TRAFFIC then s else s.set TMP_STATUS.TAMPER_STARTS 0 (min 8 (s.get TMP_STATUS.TAMPER_STARTS + 1))

/-- R581, R582, R593: the strongest response of a cycle is carried out in SERVICE. -/
def State.respond (r : Nat) (wipeOk : Bool) (s : State) : State :=
  if r < 2 then s.when (s.tmp.resp == 0) fun s => s.set TMP_STATUS.LAST_RESP 0 r
  else if s.flag TMP_STATUS.HOLD then (if r == 3 then (s.set TMP_STATUS.LAST_RESP 0 r).bskErase else s)
  else if r ≤ s.tmp.resp then s
  else
    let s1 := (s.when (s.tmp.resp == 0) fun s => s.countStart.resetActions).set TMP_STATUS.LAST_RESP 0 r
    if r == 3 then s1.zeroiseActions wipeOk else s1

/-- The MCU and the side-band restart in STANDBY (Table 18-6). -/
def State.standbyRestart (s : State) : State :=
  { s with sb := { answers := s.sb.answers, ackSeq := s.sb.ackSeq, ibis := s.sb.ibis } }

/-- The strongest response of a cycle in STANDBY or AO (Table 18-6). -/
def State.respondAux (r : Nat) (s : State) : State :=
  if s.pwr.power == 2 then
    let s1 := (s.set TMP_STATUS.LAST_RESP 0 r).when (r == 3) fun s => s.bskErase
    if r == 1 then s1 else s1.standbyRestart
  else if 2 ≤ r then s.bskErase else s

/-- R581, R584: one declared source: its `TMP_ALARM` bit, its event on NOTIFY and its log record, with the response carried out. -/
def State.declareOne (strongest src : Nat) (s : State) : State :=
  let r := if s.respOf src == 1 then 1 else strongest
  let set := (s.word .TMP_ALARM 0 0).flag src
  let erases := s.tmp.bsk.isSome && (r == 3 || (r == 2 && s.pwr.power == 1)) && s.tmp.resp < 3
  let s1 := s.when (s.pwr.power != 1) fun s => s.setWord .TMP_ALARM 0 0 (s.word .TMP_ALARM 0 0 ||| BitVec.ofNat 64 (2 ^ src))
  let s2 := s1.when (s.pwr.power != 1 && r == 1 && !set) fun s => s.raise 148 1 src
  s2.when (s.pwr.power != 3 || 2 ≤ r) fun s => s.aoAppend src r erases

/-- Alarms declared in one cycle, the lowest index first (R581). -/
def State.declare (srcs : List Nat) (wipeOk : Bool) (s : State) : State :=
  let live := srcs.filter fun x => s.monitored x && s.respOf x != 0
  match live with
  | [] => s
  | x :: _ =>
    let s1 := s.when (s.word .TMP_ALARM 0 0 == 0 && s.pwr.power != 1) fun s => s.set TMP_STATUS.FIRST 0 x
    let r := live.foldl (fun m x => max m (s.respOf x)) 0
    let s2 := s1.forL live fun x s => s.declareOne r x
    (if s.pwr.power == 3 then s2.respond r wipeOk else s2.respondAux r).alertUpdate

/-- `TMP_RAW` shows whether the condition of a source is present. -/
def State.rawSet (src : Nat) (b : Bool) (s : State) : State :=
  let v := s.get TMP_RAW.COND
  s.set TMP_RAW.COND 0 (if b == v.testBit src then v else Nat.xor v (2 ^ src))

/-! ### Detectors -/

/-- CLK_A_WINDOW (R573). -/
def execClkAWindow (count : BitVec 14) (wipeOk : Bool) (s : State) : Host.Outcome State Fault Refusal :=
  let bad := count.toNat < 6016 || 6784 < count.toNat
  finish (if s.pwr.power == 3 then (s.rawSet 0 bad).when bad fun s => s.declare [0] wipeOk else s)

/-- CLK_B_GLITCH (R574). -/
def execClkBGlitch (wipeOk : Bool) (s : State) : Host.Outcome State Fault Refusal := finish (s.declare [1] wipeOk)

/-- BIC_MISMATCH (R578). -/
def execBicMismatch (wipeOk : Bool) (s : State) : Host.Outcome State Fault Refusal := finish (s.declare [2] wipeOk)

/-- Table 18-2, in mV: the rail of source 3 + r lies outside its window. -/
def railOut (r mv : Nat) : Bool × Bool :=
  let w := match r with
    | 0 => (600, 860)
    | 1 => (680, 830)
    | 2 => (680, 830)
    | 3 => (1080, 1320)
    | 4 => (1620, 1980)
    | _ => (2970, 3630)
  (mv < w.1, w.2 < mv)

/-- The reading of a rail in `TMP_VOLT`, in units of 4 mV. -/
def voltField (r : Nat) : Field :=
  match r with
  | 0 => TMP_VOLT.RAIL0
  | 1 => TMP_VOLT.RAIL1
  | 2 => TMP_VOLT.RAIL2
  | 3 => TMP_VOLT.RAIL3
  | 4 => TMP_VOLT.RAIL4
  | _ => TMP_VOLT.RAIL5

/-- A rail of source 3 + r reads a value: its alarm, unless a commanded transition masks its low threshold (R575). -/
def State.railSample (r mv : Nat) (wipeOk : Bool) (s : State) : State :=
  let o := railOut r mv
  let bad := (o.1 && !(s.flag PWR_STATE.TRANSIT && r < 5)) || o.2
  if !s.monitored (3 + r) then s
  else ((s.set (voltField r) 0 (mv / 4)).rawSet (3 + r) bad).when bad fun s => s.declare [3 + r] wipeOk

/-- RAIL_OUT_OF_WINDOW (R575): a rail has read `mv` millivolts for 2 ns. -/
def execRailOutOfWindow (r : Fin 6) (mv : BitVec 12) (wipeOk : Bool) (s : State) : Host.Outcome State Fault Refusal :=
  finish (s.railSample r mv.toNat wipeOk)

/-- A signed 8-bit field. -/
def signed8 (v : Nat) : Int := if v < 128 then v else (v : Int) - 256

/-- Consecutive samples that meet a condition. -/
def runOf (b : Bool) (n : Nat) : Nat := if b then n + 1 else 0

/-- The stage that a sample leaves R692 in: `up` samples at or above its threshold enter it, `down` samples below leave it. -/
def stageNow (was : Bool) (up down : Nat) : Bool := if was then down < 1000 else 2 ≤ up

/-- R692: the thermal stages, the peak and the seconds at high temperature, from the higher reading. -/
def State.thermal (m : Int) (s : State) : State :=
  let t := s.tmp
  let old := s.get GLB_THERM.STAGE
  let t1 := { t with up1 := runOf (107 ≤ m) t.up1, up2 := runOf (110 ≤ m) t.up2, down1 := runOf (m ≤ 105) t.down1
                     down2 := runOf (m ≤ 108) t.down2, ms85 := if 85 < m then t.ms85 + 1 else t.ms85
                     ms105 := if 105 ≤ m then t.ms105 + 1 else t.ms105 }
  let in2 := stageNow (old == 2) t1.up2 t1.down2
  let in1 := stageNow (1 ≤ old) t1.up1 t1.down1
  let new := if in2 then 2 else if in1 then 1 else 0
  let s1 := { s with tmp := { t1 with ms85 := t1.ms85 % 1000, ms105 := t1.ms105 % 1000 } }
  let s2 := (s1.inc GLB_THERM.SEC_85 0 (t1.ms85 / 1000)).inc GLB_THERM.SEC_105 0 (t1.ms105 / 1000)
  let s3 := s2.when (signed8 (s2.get GLB_THERM.PEAK_C) < m) fun s => s.set GLB_THERM.PEAK_C 0 (m % 256).toNat
  let s4 := s3.when (new != old) fun s => (s.set GLB_THERM.STAGE 0 new).set GLB_THERM.CHANGED 0 1
  s4.when (new == 2 && old != 2) fun s => s.forN 4 fun n s => s.ksaWipe n

/-- The temperature sources that a pair of readings declares (R576, R579). -/
def State.tempSample (t0 t1 : Int) (wipeOk : Bool) (s : State) : State :=
  let hi := signed8 (s.get TMP_CTRL.TEMP_HIGH)
  let lo := signed8 (s.get TMP_CTRL.TEMP_LOW)
  let both := s.pwr.power == 3
  let t := s.tmp
  let t' := { t with hi0 := runOf (both && hi ≤ t0) t.hi0, hi1 := runOf (hi ≤ t1) t.hi1, lo0 := runOf (both && t0 ≤ lo) t.lo0
                     lo1 := runOf (t1 ≤ lo) t.lo1, diff := runOf (both && (10 < t0 - t1 || 10 < t1 - t0)) t.diff }
  let bad := both && (t0 < -60 || 150 < t0 || t1 < -60 || 150 < t1)
  let s1 := ((({ s with tmp := t' }).rawSet 9 (1 ≤ t'.hi0 || 1 ≤ t'.hi1)).rawSet 10 (1 ≤ t'.lo0 || 1 ≤ t'.lo1)).rawSet 11 (1 ≤ t'.diff)
  let s2 := (s1.when both fun s => s.set TMP_TEMP.TEMP0 0 (t0 % 256).toNat).set TMP_TEMP.TEMP1 0 (t1 % 256).toNat
  let srcs := [(2 ≤ t'.hi0 || 2 ≤ t'.hi1, 9), (2 ≤ t'.lo0 || 2 ≤ t'.lo1, 10), (10 ≤ t'.diff, 11), (bad, 14)].filterMap fun x =>
    if x.1 then some x.2 else none
  ((s2.rawSet 14 bad).when both fun s => s.thermal (max t0 t1)).declare srcs wipeOk

/-- TEMP_SAMPLE (R576, R692): both sensors are read, in SERVICE and in STANDBY. -/
def execTempSample (t0 t1 : Int) (wipeOk : Bool) (s : State) : Host.Outcome State Fault Refusal :=
  finish (if 2 ≤ s.pwr.power then s.tempSample t0 t1 wipeOk else s)

/-- R577: a bit of a loop's sequence, x^16 + x^14 + x^13 + x^11 + 1; OUT is bit 0 (DESIGN CHOICE, notes/assumptions/41.md). -/
def lfsrNext (x : BitVec 16) : BitVec 16 := BitVec.cons (x.getLsbD 0 ^^ x.getLsbD 2 ^^ x.getLsbD 3 ^^ x.getLsbD 5) (x.extractLsb' 1 15)

/-- `n` bits of a loop's sequence. -/
def lfsrBits : Nat → BitVec 16 → BitVec 16
  | 0, x => x
  | n + 1, x => lfsrBits n (lfsrNext x)

/-- R577: both loops drive `n` further bits. -/
def State.loopBits (n : Nat) (s : State) : State :=
  { s with tmp := { s.tmp with loop0 := lfsrBits n s.tmp.loop0, loop1 := lfsrBits n s.tmp.loop1 } }

/-- R577, R521: each loop draws its seed at a power-up: from the DRBG in SERVICE, unless it refuses, else from the always-on domain's
entropy source. -/
def State.loopSeed (s : State) : State :=
  let ask := fun (s : State) => if s.pwr.power == 3 && !s.drbgRefuses then s.drbg 2 else s.drawOctets 2
  let x := ask s
  let y := ask x.2
  { y.2 with tmp := { y.2.tmp with loop0 := BitVec.ofNat 16 (leNat x.1), loop1 := BitVec.ofNat 16 (leNat y.1) } }

/-- TAMPER_LOOP_MISMATCH (R577). -/
def execTamperLoopMismatch (loop : Fin 2) (wipeOk : Bool) (s : State) : Host.Outcome State Fault Refusal :=
  finish ((s.when (2 ≤ s.pwr.power) fun s => s.rawSet (12 + loop) true).declare [12 + loop.val] wipeOk)

/-- MONITOR_FAULT (R579). -/
def execMonitorFault (wipeOk : Bool) (s : State) : Host.Outcome State Fault Refusal :=
  finish (if s.pwr.power == 3 then (s.rawSet 14 true).declare [14] wipeOk else s)

/-- VBAT_OUT_OF_RANGE (R572). -/
def execVbatOutOfRange (wipeOk : Bool) (s : State) : Host.Outcome State Fault Refusal :=
  finish ((s.when (2 ≤ s.pwr.power) fun s => s.rawSet 15 true).declare [15] wipeOk)

/-- AO_SAMPLING_WINDOW (R596): 125 bits of each loop, the loops found broken, TEMP1 sampled twice, and VBAT outside its range. -/
def execAoSamplingWindow (loop0 loop1 : Bool) (t t' : Int) (vbatBad : Bool) (s : State) : Host.Outcome State Fault Refusal :=
  finish (if s.pwr.power != 1 then s
    else
      let hi := signed8 (s.get TMP_CTRL.TEMP_HIGH)
      let lo := signed8 (s.get TMP_CTRL.TEMP_LOW)
      (s.loopBits 125).declare ([(hi ≤ t && hi ≤ t', 9), (t ≤ lo && t' ≤ lo, 10), (loop0, 12), (loop1, 13), (vbatBad, 15)].filterMap fun x =>
        if x.1 then some x.2 else none) true)

/-! ### Release of the reset (R582, R583) -/

/-- The device reset that ends a response; after an uncommanded loss of a main rail the device stands by (R646). -/
def State.respRelease (s : State) : State :=
  let s1 := s.deviceReset s.pwr.railLost
  if s.pwr.railLost then
    { (s1.set PWR_STATE.STATE 0 2).set PWR_STATE.PG 0 0 with pwr := { s1.pwr with power := 2, railLost := false } }.loopSeed
  else s1

/-- TAMPER_RESET_RELEASE (R583). -/
def execTamperResetRelease (s : State) : Host.Outcome State Fault Refusal := finish (if s.tmp.resp == 0 then s else s.respRelease)

/-! ### Register writes (R586 to R588) -/

/-- R588: a master may write `TMP_RESP`, ZEROISE and the log's CLR. -/
def State.tmpAllowed (s : State) (m : Master) : Bool := m == .mcu || s.flag KST_CTRL.PF0_KEYWR

/-- Table 18-5: the minimum response of a source. -/
def respMin (lc src : Nat) : Nat :=
  let service := lc == 2
  if src == 1 || src == 2 then 3
  else if src == 0 || (3 ≤ src && src ≤ 9) || src == 14 then (if service then 2 else 1)
  else if src == 10 then 1
  else if src == 11 then (if service then 1 else 0)
  else 0

/-- A write to `TMP_RESP`: RO fields keep ZEROISE; below a minimum, or lower than a locked field, it is discarded with REJ. -/
def State.respWrite (m : Master) (data : Word) (s : State) : State :=
  if !s.tmpAllowed m then s
  else
    let w : Word := BitVec.ofNat 64 (data.toNat % 2 ^ 32 ||| 0x3C)
    let old := s.word .TMP_RESP 0 0
    let bad := (List.range 16).any fun i =>
      w.bits (2 * i) 2 < respMin s.lcState i || (s.flag TMP_CTRL.LOCK && w.bits (2 * i) 2 < old.bits (2 * i) 2)
    if bad then s.set TMP_STATUS.REJ 0 1
    else { s.setWord .TMP_RESP 0 0 w with tmp := { s.tmp with aoResp := w } }

/-- TMP_RESP_WRITE (R586 to R588). -/
def execTmpRespWrite (m : Master) (data : Word) (s : State) : Host.Outcome State Fault Refusal := finish (s.byWrite m .TMP_RESP 0 fun s => s.respWrite m data)

/-- R588: a request of ZEROISE through `TMP_CTRL`. -/
def State.zeroiseRequest (m : Master) (wipeOk : Bool) (s : State) : State :=
  if s.tmpAllowed m then (s.set TMP_CTRL.ZEROISE 0 1).declare [16] wipeOk else s

/-- TMP_ZEROISE_WRITE (R580, R588). -/
def execTmpZeroiseWrite (m : Master) (wipeOk : Bool) (s : State) : Host.Outcome State Fault Refusal := finish (s.byWrite m .TMP_CTRL 0 fun s => s.zeroiseRequest m wipeOk)

/-- R588, R598: the always-on log is emptied. -/
def State.aoClear (m : Master) (s : State) : State :=
  if !s.tmpAllowed m then s
  else
    let s1 := (s.resetReg .TMP_AOLOG_STATUS 0).forN 16 fun j s => s.resetReg .TMP_AOLOG j
    { s1 with tmp := { s1.tmp with aoNext := 0 } }

/-- AOLOG_CLEAR (R588). -/
def execAologClear (m : Master) (s : State) : Host.Outcome State Fault Refusal := finish (s.byWrite m .TMP_AOLOG_STATUS 0 fun s => s.aoClear m)

/-! ### TAMPER_HOLD (R591 to R593) -/

/-- TAMPER_HOLD begins: 1 CONDITION, 2 RESTARTS. -/
def State.holdBegin (cause : Nat) (s : State) : State :=
  (((s.set TMP_STATUS.HOLD 0 1).set TMP_STATUS.HOLD_CAUSE 0 cause).set PWR_START_STATUS.CAUSE 0 3).alertUpdate

/-- TAMPER_HOLD ends and start-up begins again at power-good. -/
def State.holdEnd (s : State) : State := (((s.set TMP_STATUS.HOLD 0 0).set TMP_STATUS.HOLD_CAUSE 0 0).startAgain).alertUpdate

/-- R592: the sources whose response is RESET or ZEROISE and whose condition is present. -/
def State.holdConditions (s : State) : List Nat := (List.range 16).filter fun i => (s.get TMP_RAW.COND).testBit i && 2 ≤ s.respOf i

/-- TAMPER_HOLD_END (R593): no such condition has been present for 1 s. -/
def execTamperHoldEnd (s : State) : Host.Outcome State Fault Refusal :=
  finish (if s.flag TMP_STATUS.HOLD && s.get TMP_STATUS.HOLD_CAUSE == 1 then
      (s.forL s.holdConditions fun i s => s.rawSet i false).holdEnd
    else s)

end Sys2Proof.Machine
end

