-- ==== Sys2Proof/Machine/Power.lean ====
section
/-!
DEFINITION. The device power states (R642 to R647, R682, R685): the supplies, the commanded transition to STANDBY, RESET_N and the
rejected pulses of the inputs.
-/

namespace Sys2Proof.Machine

/-! ### The always-on and AUX supplies (Table 21-2) -/

/-- OFF: the always-on log, the ACLK count and the BSK are lost. -/
def State.aoLost (s : State) : State :=
  let s1 := ((s.resetReg .TMP_AOLOG_STATUS 0).resetReg .TMP_ACLK 0).forN 16 fun j s => s.resetReg .TMP_AOLOG j
  { s1 with tmp := {}, pwr := { s1.pwr with power := 0 } }

/-- VBAT_RISE: VBAT rises above 2.2 V. -/
def execVbatRise (s : State) : Host.Outcome State Fault Refusal :=
  let s1 := { s with pwr := { s.pwr with vbat := true, power := if s.pwr.power == 0 then 1 else s.pwr.power } }
  finish (s1.when (s.pwr.power == 0) fun s => s.loopSeed)

/-- VBAT_FALL: VBAT falls below 2.1 V. -/
def execVbatFall (s : State) : Host.Outcome State Fault Refusal :=
  let s1 := { s with pwr := { s.pwr with vbat := false } }
  finish (if s.pwr.power == 1 then s1.aoLost else s1)

/-- The registers that outlast a loss of VDD_AUX while VBAT is present: the always-on domain's and the one-time array's. -/
def aoRegs : List Reg := [.TMP_AOLOG_STATUS, .TMP_ACLK, .TMP_AOLOG, .LCM_STATE]

/-- Every register, table and store at its value after power-on, but for what the always-on domain, the flash and the one-time array
hold. -/
def State.auxLost (s : State) : State :=
  let s0 := s.commitFinish
  { regs := s0.regs.filter fun e => aoRegs.any fun r => r.ctorIdx == e.1 / 65536
    lcm := { s0.lcm with challenge := none, cmd := none, stateRoot := none }
    nvj := { flash := s0.nvj.flash, logAt := s0.nvj.logAt }
    tmp := { bsk := s0.tmp.bsk, aoNext := s0.tmp.aoNext, aclkNs := s0.tmp.aclkNs, aoResp := s0.tmp.aoResp }
    pwr := { vbat := s0.pwr.vbat, resetHeld := s0.pwr.resetHeld }
    free := s0.free
    pending := s0.pending }

/-- VDD_AUX_RISE: VDD_AUX enters its window; the device enters STANDBY. -/
def execVddAuxRise (s : State) : Host.Outcome State Fault Refusal := finish (if s.pwr.power < 2 then s.auxLost.loopSeed else s)

/-- R685, R643: the straps are sampled, and MAIN_EN follows PWR_AUTO. -/
def State.strapsSample (auto : Bool) (sbAddr : Nat) (s : State) : State :=
  let s1 := (s.set GLB_PIN_STATUS.PWR_AUTO 0 (natOfBool auto)).set GLB_PIN_STATUS.SB_ADDR 0 sbAddr
  let s2 := (s1.set PWR_STATE.AUTO_ON 0 (natOfBool auto)).set SBM_STATUS.STATIC_ADDR 0 (0x58 + sbAddr)
  s2.when auto fun s => s.set PWR_STATE.MAIN_EN 0 1

/-- PWR_AUTO_SAMPLE (R685): 10 ms after VDD_AUX enters its window. -/
def execPwrAutoSample (auto : Bool) (sbAddr : BitVec 2) (s : State) : Host.Outcome State Fault Refusal :=
  finish (if s.pwr.power == 2 then s.strapsSample auto sbAddr.toNat else s)

/-- VDD_AUX_LOSS: AO while VBAT is present, else OFF. -/
def execVddAuxLoss (s : State) : Host.Outcome State Fault Refusal :=
  let s1 := s.auxLost
  finish (if s.pwr.power < 2 then s
    else if s.pwr.vbat then { s1 with pwr := { s1.pwr with power := 1 } }.loopSeed
    else s1.aoLost)

/-! ### The main rails (R643 to R647) -/

/-- The power state that `PWR_STATE` shows; the loops draw new seeds (R577). -/
def State.setPower (p : Nat) (s : State) : State := { s.set PWR_STATE.STATE 0 p with pwr := { s.pwr with power := p } }.loopSeed

/-- POWER_GOOD (R644): SERVICE, and start-up begins at step 1. -/
def execPowerGood (s : State) : Host.Outcome State Fault Refusal :=
  finish (if s.pwr.power == 2 && s.flag PWR_STATE.MAIN_EN then ((s.set PWR_STATE.PG 0 1).setPower 3).startAgain else s)

/-- POWER_GOOD_TIMEOUT (R643): the log record POWER_FAIL, whose source code the spec does not give. -/
def execPowerGoodTimeout (s : State) : Host.Outcome State Fault Refusal :=
  let x := (s.set PWR_STATE.MAIN_EN 0 0).draw
  finish (if s.pwr.power == 2 && s.flag PWR_STATE.MAIN_EN then x.2.aoAppend (x.1.toNat % 32) 0 false else s)

/-- The device leaves SERVICE with the effects of a device reset (R647). -/
def State.toStandby (s : State) : State := ((s.deviceReset true).set PWR_STATE.PG 0 0).setPower 2

/-- R646: a main rail falls without a command: its response, then STANDBY with MAIN_EN still asserted. -/
def State.railLoss (r mv : Nat) (wipeOk : Bool) (s : State) : State :=
  let s1 := (s.railSample r mv wipeOk).set PWR_STATE.PG 0 0
  if s1.tmp.resp != 0 then { s1 with pwr := { s1.pwr with railLost := true } } else s1.toStandby

/-- MAIN_RAIL_LOSS (R646). -/
def execMainRailLoss (r : Fin 5) (mv : BitVec 12) (wipeOk : Bool) (s : State) : Host.Outcome State Fault Refusal :=
  finish (if s.pwr.power == 3 then s.railLoss r mv.toNat wipeOk else s)

/-! ### The commanded transition (R645) -/

/-- R645, step 1: every port is disabled. -/
def State.standbyBegin (s : State) : State :=
  if s.pwr.power != 3 || s.flag PWR_STATE.TRANSIT then s
  else
    let s1 := (s.set PWR_STATE.TRANSIT 0 1).forN 64 fun p s => s.fnDisable (.port (Fin.ofNat 64 p))
    { s1 with pwr := { s1.pwr with transitAt := s1.clk.sinceReset } }

/-- R645, step 1: every port is OFF, or 10 ms have passed. -/
def State.portsQuiet (s : State) : Bool :=
  ((List.range 64).all fun p => s.portState p == 0) || s.pwr.transitAt + 10000000 ≤ s.clk.sinceReset

/-- R645, steps 2 to 5: what follows once the ports are OFF, up to the end of the transition. -/
def State.standbyGo (s : State) : State :=
  if !s.flag PWR_STATE.TRANSIT || !s.portsQuiet then s
  else
    let s1 := { s.set MTL_PAIR_STATUS.ACTIVE_OUT 0 0 with nvj := { s.nvj with stopped := true } }
    if s1.nvj.committing then s1
    else ((s1.toStandby).set PWR_STATE.MAIN_EN 0 0).set PWR_STATE.TRANSIT 0 0

/-- PWR_CTRL_STANDBY (R645): a write of `PWR_CTRL` with OP = STANDBY; any CONFIRM but 0x5057_5244 makes it ignored. -/
def execPwrCtrlStandby (confirm : BitVec 32) (s : State) : Host.Outcome State Fault Refusal :=
  finish (if confirm == 0x50575244 then s.standbyBegin else s)

/-! ### RESET_N and the other inputs (R682, R685, R686) -/

/-- R682: RESET_N holds the device in reset; a tamper response in progress completes first. -/
def State.resetHold (s : State) : State :=
  let s1 := s.set GLB_PIN_STATUS.RESET_N 0 0
  let s2 := if s.pwr.power < 2 || s.tmp.resp != 0 then s1 else s1.deviceReset false
  { s2 with pwr := { s2.pwr with resetHeld := true } }

/-- RESET_N_ASSERT (R682). -/
def execResetNAssert (s : State) : Host.Outcome State Fault Refusal := finish s.resetHold

/-- RESET_N_RELEASE (R648, R682, R684): start-up begins at step 1, and the TAP drives no ball. -/
def execResetNRelease (s : State) : Host.Outcome State Fault Refusal :=
  let s1 := { s.set GLB_PIN_STATUS.RESET_N 0 1 with pwr := { s.pwr with resetHeld := false }, tap := { s.tap with driven := none } }
  finish (if s.pwr.resetHeld && s.pwr.power == 3 then s1.startAgain else s1)

/-- The count of rejected pulses of an input: RESET_N, PERST_N, ACTIVE_IN, MATE_PRESENT, PPS_IN, LOOP0 and LOOP1. -/
def glitchField (i : Nat) : Field :=
  match i with
  | 0 => GLB_PIN_GLITCH.RESET_N
  | 1 => GLB_PIN_GLITCH.PERST_N
  | 2 => GLB_PIN_GLITCH.ACTIVE_IN
  | 3 => GLB_PIN_GLITCH.MATE_PRESENT
  | 4 => GLB_PIN_GLITCH.PPS_IN
  | 5 => GLB_PIN_GLITCH.LOOP0
  | _ => GLB_PIN_GLITCH.LOOP1

/-- The UNSTABLE bit of an input (R686). -/
def unstField (i : Nat) : Option Field :=
  match i with
  | 2 => some GLB_PIN_STATUS.UNST_ACTIVE_IN
  | 3 => some GLB_PIN_STATUS.UNST_MATE
  | 4 => some GLB_PIN_STATUS.UNST_PPS
  | _ => none

/-- R686: the 16th pulse rejected within 1 ms sets the input's UNSTABLE bit. -/
def State.pulseNote (i : Nat) (f : Field) (s : State) : State :=
  let now := s.clk.sinceReset
  let ts := ((s.pwr.pulses.get i []).filter fun t => now < t + 1000000) ++ [now]
  ({ s with pwr := { s.pwr with pulses := s.pwr.pulses.set i (ts.drop (ts.length - 16)) [] } }).when (16 ≤ ts.length) fun s => s.set f 0 1

/-- INPUT_PULSE_REJECTED (R685, R686). -/
def execInputPulseRejected (i : Fin 7) (s : State) : Host.Outcome State Fault Refusal :=
  let s1 := s.inc (glitchField i) 0
  finish (match unstField i with
    | some f => s1.pulseNote i f
    | none => s1)

end Sys2Proof.Machine
end

