-- ==== Sys2Proof/Machine/Clock.lean ====
section
/-!
DEFINITION. The block's own time: what passes when no command waits. One tick is eight cycles of CCLK, 5 ns (DESIGN CHOICE,
notes/assumptions/1.md).
-/

namespace Sys2Proof.Machine

/-- ACLK, 32,768 Hz, counts in every power state but OFF (R574). -/
def State.aclkTick (s : State) : State :=
  let t := s.tmp.aclkNs + 5
  if s.pwr.power == 0 then s else { s.set TMP_ACLK.COUNT 0 (t * 32768 / 1000000000) with tmp := { s.tmp with aclkNs := t } }

/-- R577: a bit of the tamper loops lasts 1 µs in SERVICE and 8 µs in STANDBY; in AO they run in the windows of R596 alone. -/
def State.loopTick (s : State) : State :=
  let t := s.clk.sinceReset
  s.when ((s.pwr.power == 3 && t % 1000 == 0) || (s.pwr.power == 2 && t % 8000 == 0)) fun s => s.loopBits 1

/-- ELAPSED_MS follows the time of start-up while it runs (R648). -/
def State.startTick (s : State) : State := s.when s.starting fun s => s.set PWR_START_STATUS.ELAPSED_MS 0 s.elapsedMs

/-- R300: the lanes' measurements, every 10 ms. -/
def State.lanesTick (s : State) : State :=
  s.when (s.clk.sinceReset % 10000000 == 0) fun s => s.forN 64 fun j s => s.laneSample j

/-- A tick: the clocks, the time base, the tamper loops, the performance counters' cycles, the lanes' measurements, and the commanded
transition to STANDBY. -/
def State.tick (s : State) : State :=
  let s1 := { s with clk := { s.clk with sinceReset := s.clk.sinceReset + 5 } }
  (((((((s1.forN 5 fun _ s => s.tclk).aclkTick).loopTick).pmcTick 8).startTick).lanesTick).standbyGo)

end Sys2Proof.Machine
end

