-- ==== Sys2Proof/Machine/Audit.lean ====
section
/-!
DEFINITION. The leaked-buffer audit (R407, R408).
-/

namespace Sys2Proof.Machine

/-- The audit's note on an object is dropped. -/
def State.auditForget (n kind index : Nat) (s : State) : State :=
  { s with q := { s.q with orphans := s.q.orphans.filter fun o => !(o.region == n && o.kind == kind && o.index == index) } }

/-- R408: a record of the audit log. -/
def State.auditLog (n kind index owner : Nat) (s : State) : State :=
  let c := s.get QMG_AUDIT_STATUS.LOG_COUNT
  if 16 ≤ c then s
  else
    (s.setWord .QMG_AUDIT_LOG c 0 (mkWord [(0, n), (2, kind), (4, index % 2 ^ 23), (32, owner), (44, s.get QMG_AUDIT_STATUS.PASS % 2 ^ 20)])).set
      QMG_AUDIT_STATUS.LOG_COUNT 0 (c + 1)

/-- R408: an object is reclaimed. -/
def State.auditReclaim (n kind index owner : Nat) (s : State) : State :=
  let s1 := (((s.auditForget n kind index).inc QMG_AUDIT_STATUS.RECLAIMED 0).auditLog n kind index owner).set
    QMG_AUDIT_STATUS.ORPHAN 0 1
  (s1.when (kind == 2 && owner < 256) fun s => s.letRetained owner).raise 151 1

/-- AUDIT_OBJECT_CHECK (R407, R408): the audit of a region examines an object in use (kind 0 cell, 1 chunk, 2 extent) with its recorded
owner and stamp; `orphaned`: nothing refers to it. `last`: the pass ends with this object. -/
def execAuditObjectCheck (n : Fin 4) (kind : Fin 3) (index : BitVec 23) (owner : BitVec 12) (stamp : BitVec 8) (orphaned last : Bool)
    (s : State) : Host.Outcome State Fault Refusal :=
  let note : Orphan := { region := n, kind := kind, index := index.toNat, owner := owner.toNat, stamp := stamp.toNat, seen := true }
  finish (if s.get QMG_AUDIT_CTRL.STATE == 0 || s.thermPaused then s
    else
      let s1 := if !orphaned then s.auditForget n kind index.toNat
        else if note ∈ s.q.orphans then s.auditReclaim n kind index.toNat owner.toNat
        else
          let s2 := s.auditForget n kind index.toNat
          { s2 with q := { s2.q with orphans := s2.q.orphans ++ [note] } }
      s1.when (last && n.val == 0) fun s => s.incWrap QMG_AUDIT_STATUS.PASS 0)

/-- R408: the audit log is emptied. -/
def State.auditLogClr (s : State) : State :=
  (s.forN 16 fun i s => s.resetReg .QMG_AUDIT_LOG i).set QMG_AUDIT_STATUS.LOG_COUNT 0 0

/-- AUDIT_LOG_CLR (R408). -/
def execAuditLogClr (s : State) : Host.Outcome State Fault Refusal := finish s.auditLogClr

end Sys2Proof.Machine
end

