-- ==== Sys2Proof/Machine/Domains.lean ====
section
/-!
DEFINITION. The power domains (R656 to R661): their enable and disable, wake and shut-down, and the power estimate.
-/

namespace Sys2Proof.Machine

/-! ### Disabling a domain (Table 21-6, R657) -/

/-- Every performance counter has EN = 0 (R673). -/
def State.pmcUnused (s : State) : Bool := (List.range 80).all fun c => s.pmcSel PMC_SEL.EN PMC_CHIP_SEL.EN c == 0

/-- A lane may lose its power: it belongs to no port, or its port is OFF and no test pattern runs on it. -/
def State.laneUnused (s : State) (lane : Nat) : Bool :=
  let p := s.lanePort lane
  !s.portExists p || (s.portState p == 0 && s.get LNS_LANE.PRBS_GEN lane == 0 && s.get LNS_LANE.PRBS_CHK lane == 0)

/-- Table 21-6, last column. -/
def State.domMayOff (s : State) (d : Nat) : Bool :=
  if d < 192 then s.get FEN_ENG.STATE d == 0
  else if d < 216 then s.get FEN_POD_CTRL.STATE (d - 192) == 0
  else if d < 268 then false
  else if d < 332 then s.laneUnused (d - 268)
  else if d < 334 then s.get MTL_PAIR_CFG.STATE == 0
  else if d < 342 then (complexPorts ((d - 334) % 2 == 1) ((d - 334) / 2)).all fun p => s.portState p == 0
  else if d < 350 then s.flag DMC_STACK_STATUS.FENCED (d - 342)
  else if d < 358 then s.flag DMC_STACK_STATUS.FENCED (d - 350)
  else if d < 362 then s.portsOff (d - 358) && s.podsOff (d - 358) && s.get FAB_BUF_STATUS.FREE (d - 358) == 98304
  else if d == 369 then !s.flag TMB_STATUS.RUNNING
  else if d == 371 then s.get MTL_PAIR_CFG.STATE == 0
  else if d == 372 then s.pmcUnused
  else false

/-- A domain wakes; the stacks' domains complete their wake only at a device reset (R656). -/
def State.domWaking (s : State) (d : Nat) : Bool := s.pwr.waking.contains d && s.domKind d != 6 && s.domKind d != 7

/-- Table 1-8: the disable of a domain; one that wakes shuts down again. -/
def State.domDisable (d : Nat) (s : State) : State :=
  if s.domKind d == 3 then s
  else if !s.domMayOff d then s.set PWR_DOM.REJ d 1
  else if s.flag PWR_DOM.EN d then ((s.set PWR_DOM.EN d 0).set PWR_DOM.STATE d 2).wakeOver d
  else s

/-- A write of `PWR_DOM`. -/
def State.domWrite (d : Nat) (en clrRej clrFail : Bool) (s : State) : State :=
  let s1 := (s.when clrRej fun s => s.set PWR_DOM.REJ d 0).when clrFail fun s => s.set PWR_DOM.WAKE_FAIL d 0
  if en then s1.domEnable d else s1.domDisable d

/-- PWR_DOM_WRITE (R656, R657): EN, and a 1 written to REJ and to WAKE_FAIL. -/
def execPwrDomWrite (d : Fin 374) (en clrRej clrFail : Bool) (s : State) : Host.Outcome State Fault Refusal :=
  finish (s.domWrite d en clrRej clrFail)

/-! ### Waking (R658, R659) -/

/-- A function waits for its domains: STATE is ON and its start-up has not begun. -/
def State.fnWaits (s : State) (f : Fn) : Bool :=
  s.fnState f == 1 && !s.inService f && match f with
    | .port p => s.bst p == 0
    | _ => true

/-- The ports whose domains are all ON begin bring-up, once start-up has reached step 8. -/
def State.portsBegin (s : State) : State :=
  s.forN 64 fun p s =>
    let f := Fn.port (Fin.ofNat 64 p)
    if s.fnWaits f && s.fnAwake f && !s.bootHolds then s.bringUp p else s

/-- R302: the mate lanes begin bring-up once the domains of the pair are ON. -/
def State.matesBegin (s : State) : State :=
  if s.fnWaits .pair && s.bst 64 == 0 && s.fnAwake .pair && !s.bootHolds then (s.bringUp 64).bringUp 65 else s

/-- PWR_DOM_WAKE_DONE (R656, R658): a domain is powered, and the functions that waited for it begin. A bank's wake ends with
SRB_POWER_TRANSITION_DONE. -/
def execPwrDomWakeDone (d : Fin 374) (s : State) : Host.Outcome State Fault Refusal :=
  finish (if s.domWaking d && s.domKind d != 3 then
      (s.wakeOver d).portsBegin.matesBegin.when (d == 369 && s.flag TMB_CTRL.EN) fun s => s.timeStart
    else s)

/-- R37: the functions that woke a domain fail. -/
def State.fnsFail (d : Nat) (fs : List Fn) (s : State) : State :=
  s.forL fs fun f s => if (s.fnDomains f).contains d && s.fnWaits f then s.fnFail f else s

/-- The functions that wait for domains: pods, ports and the pair. -/
def domFns : List Fn :=
  ((List.range 24).map fun k => Fn.pod (Fin.ofNat 4 (k / 6)) (Fin.ofNat 6 (k % 6)))
    ++ (List.range 64).map (fun p => Fn.port (Fin.ofNat 64 p)) ++ [.pair]

/-- R37: the engines whose restore waits for a domain fail; the region's status follows (R13). -/
def State.enginesFail (d : Nat) (s : State) : State :=
  s.forN 192 fun g s =>
    if s.restoring (g / 48) (g % 48) && (engineDomains (g / 48) (g % 48)).contains d then
      ((s.set FEN_ENG.STATE g 0).raise (119 + 8 * (g / 48)) 15 (g % 48)).regionUpdate (g / 48)
    else s

/-- The EN of the performance counters and test patterns that waited for a domain is cleared. -/
def State.countersFail (d : Nat) (s : State) : State :=
  let s1 := s.forN 80 fun c s =>
    if pmcDomain c == d then (if c < 64 then s.set PMC_SEL.EN c 0 else s.set PMC_CHIP_SEL.EN (c - 64) 0) else s
  s1.forN 64 fun l s =>
    if (laneDomains l).contains d then (s.set LNS_LANE.PRBS_GEN l 0).set LNS_LANE.PRBS_CHK l 0 else s

/-- R659: a bank that does not wake goes to OFF; its EN is RO. -/
def State.bankWakeFail (b : Nat) (s : State) : State :=
  let s1 := (s.bankSet SRB_BANK.PSTATE SRB_CHIP_BANK.PSTATE b 2).set PWR_DOM.STATE (216 + b) 0
  { s1 with srb := { s1.srb with changing := s1.srb.changing.erase b } }

/-- PWR_DOM_WAKE_FAIL (R659): the wake has not completed within four times its wake time. -/
def execPwrDomWakeFail (d : Fin 374) (s : State) : Host.Outcome State Fault Refusal :=
  finish (if !s.domWaking d then s
    else
      let s1 := (s.set PWR_DOM.WAKE_FAIL d 1).wakeOver d
      if s.domKind d == 3 then s1.bankWakeFail (d - 216)
      else
        let s2 := (((s1.set PWR_DOM.EN d 0).set PWR_DOM.STATE d 0).fnsFail d domFns).enginesFail d |>.countersFail d
        s2.when (d == 369) fun s => s.set TMB_CTRL.EN 0 0)

/-- PWR_DOM_OFF_DONE (R656): isolation and power-down end: OFF, or ON and waking where an enable is pending. -/
def execPwrDomOffDone (d : Fin 374) (s : State) : Host.Outcome State Fault Refusal :=
  finish (if s.domKind d == 3 then s
    else match s.get PWR_DOM.STATE d with
      | 2 => s.set PWR_DOM.STATE d 0
      | 3 => (s.set PWR_DOM.STATE d 1).wakeBegin d
      | _ => s)

/-! ### The estimate (R661) -/

/-- POWER_ESTIMATE (R661): the estimate is a free value; PEAK keeps the highest since its last read. -/
def execPowerEstimate (s : State) : Host.Outcome State Fault Refusal :=
  let x := s.draw
  let w := x.1.toNat % 2 ^ 16
  finish ((x.2.set PWR_EST.POWER 0 w).set PWR_EST.PEAK 0 (max w (x.2.get PWR_EST.PEAK)))

end Sys2Proof.Machine
end

