-- ==== Sys2Proof/Machine/Guards.lean ====
section
/-!
DEFINITION. What a write can put into the fields of a register (R3, R4, R601 to R603): the access codes, the values that fields keep
or take instead, and the writes that the Bolorn discards.
-/

namespace Sys2Proof.Machine

/-! ### Lanes and access codes -/

/-- The bits that an access touches. -/
def lanesMask : Lanes → Word
  | .full => 0xFFFFFFFFFFFFFFFF
  | .low => 0x00000000FFFFFFFF
  | .high => 0xFFFFFFFF00000000

/-- The bits of a field within its word. -/
def Field.bits (f : Field) : Word := BitVec.ofNat 64 ((2 ^ f.width - 1) * 2 ^ f.lo)

/-- The bits of a register word whose fields have one of the access codes. -/
def Reg.accBits (r : Reg) (w : Nat) (p : Access → Bool) : Word :=
  r.fields.foldl (fun m f => if f.word == w && p f.acc then m ||| f.bits else m) 0

/-- R3, R603: a register word after a write: RW and WO fields take the data, W1C bits clear and W1S bits set. -/
def Reg.merge (r : Reg) (w : Nat) (old data mask : Word) : Word :=
  let put := r.accBits w (fun a => a == .rw || a == .wo) &&& mask
  let clr := r.accBits w (· == .w1c) &&& mask &&& data
  let set := r.accBits w (· == .w1s) &&& mask &&& data
  (((old &&& ~~~put) ||| (data &&& put)) &&& ~~~clr) ||| set

/-- R3, R4: what a read of a register word returns: WO and RSV bits read 0. -/
def Reg.readable (r : Reg) (w : Nat) (v : Word) : Word := v &&& r.accBits w (· != .wo)

/-! ### Values that a field does not take -/

/-- Fields that a reserved value leaves unchanged, with the lowest such value. -/
def reservedFrom : List (Field × Nat) :=
  [(TBL_PORTCFG.MISS_ACT, 3), (SAT_RXPORT_CFG.UNTAGGED_ACT, 3), (KFR_TRIB.TYPE, 3), (FAB_PG_CFG.CMD, 5), (LET_STREAM_CFG.POLICY, 3),
   (QMG_QCFG.ROLE, 6), (NVJ_BOOT.PIN, 3), (TMB_CTRL.SRC, 3), (TMB_PORT.TT_ROLE, 3)]

/-- Fields whose values below or above a limit are taken as the limit. -/
def fieldLimits : List (Field × Nat × Nat) :=
  [(TBL_SHADOW_CTRL.RATE, 1, 255), (TBL_SHADOW_CTRL.CONFIRM, 1, 255), (FEN_WDOG.LIMIT, 1, 65535), (FEN_KAT_CTRL.PERIOD, 10, 65535),
   (SAT_DEUCE_CFG.WINDOW, 1, 65535), (KFR_CFG.FRAG_LEN, 1, 255), (FAB_PG_CFG.WTR_MIN, 1, 12), (KFR_MON_CFG.DEG_M, 2, 10),
   (CPX_PORT_CTRL.MAX_FRAME, 1518, 16384), (LPX_PORT_CTRL.MAX_FRAME, 1518, 16384), (LNS_BRING_CFG.TRAIN_MS, 100, 65535),
   (LNS_BRING_CFG.LOCK_MS, 10, 65535), (LNS_BRING_CFG.HOLD_MS, 1, 255), (LNS_BRING_CFG.FAIL_EVT, 1, 15), (LNS_HUD_CFG.HUD_MS, 10, 65535),
   (LET_TIMING.ACK_US, 8, 65535), (LET_TIMING.ACK_FRAMES, 1, 65535), (LET_TIMING.HELLO_US, 100, 65535), (LET_TIMING.ACK_TMO_MS, 1, 65535),
   (LET_STREAM_CFG.REPLAY_PCT, 1, 100), (LET_STREAM_AUX.SKEW_MS, 1, 250), (LET_STREAM_AUX.LOSS_MS, 1, 65535)]
  ++ [(MTL_PAIR_CFG.LIB_KAT_MS, 10, 65535), (QMG_QCFG.SPILL_CELLS, 1, 255), (QMG_AUDIT_CTRL.RATE, 1, 255),
   (SCH_LAT_CFG.INTERVAL_US, 1, 65535), (DMC_SCRUB_CFG.SCRUB_H, 1, 255), (DMC_SCRUB_CFG.TEST_H, 4, 65535), (IME_RKEY_CTRL.RATE, 1, 64),
   (SRB_TEST_CFG.GAP_MS, 1, 65535), (TMB_PPS_CFG.OUT_WIDTH, 1, 500000), (TMB_PORT.TT_SHIFT, 16, 24), (TMB_PORT.LEAD_NS, 320, 65535),
   (GLB_OWNER.FORCE_TMO_MS, 100, 65535), (HIF_RING_CFG.SIZE, 6, 16), (HIF_RING_CFG.BUF, 1, 64), (HIF_RING_CFG.COAL_N, 1, 65535),
   (HIF_DMA_CFG.PRI_TMO_MS, 1, 65535), (EVT_RING_CFG.SIZE, 6, 16)]

/-- Signed fields held between two limits (R576, R570). -/
def signedLimits : List (Field × Int × Int) :=
  [(TMP_CTRL.TEMP_HIGH, 105, 125), (TMP_CTRL.TEMP_LOW, -55, 0), (TMB_PPS_CFG.OUT_OFS, -1000000, 1000000)]

/-- Fields that cannot change while a function's STATE, at the same instance, is not OFF. -/
def heldWhile : List (Field × Field) :=
  [(TBL_SHADOW_BASE.ADDR, TBL_SHADOW_CTRL.STATE), (FAB_PG_CFG.W_PORT, FAB_PG_CFG.STATE), (FAB_PG_CFG.P_PORT, FAB_PG_CFG.STATE),
   (CPX_PORT_CTRL.KRAOW, CPX_PORT_CTRL.STATE), (LPX_PORT_CTRL.KRAOW, LPX_PORT_CTRL.STATE), (CPX_PORT_CTRL.BT_USE, CPX_PORT_CTRL.STATE),
   (LPX_PORT_CTRL.BT_USE, LPX_PORT_CTRL.STATE), (CPX_PORT_CTRL.LOOP, CPX_PORT_CTRL.STATE), (LPX_PORT_CTRL.LOOP, LPX_PORT_CTRL.STATE),
   (MTL_PAIR_CFG.PTK_SLOT, MTL_PAIR_CFG.STATE), (MTL_PAIR_ID.PAIR_ID, MTL_PAIR_CFG.STATE), (HIF_RING_BASE.ADDR, HIF_RING_CFG.STATE),
   (HIF_RING_CFG.SIZE, HIF_RING_CFG.STATE), (HIF_RING_CFG.BUF, HIF_RING_CFG.STATE), (HIF_RING_CFG.QUEUE, HIF_RING_CFG.STATE),
   (EVT_RING_BASE.ADDR, EVT_RING_CFG.STATE)]
  ++ [(QMG_QCFG.ROLE, QMG_QCFG.STATE), (QMG_QCFG.OWNER, QMG_QCFG.STATE), (QMG_QCFG.CLASS, QMG_QCFG.STATE),
   (QMG_QCFG.LOSSLESS, QMG_QCFG.STATE), (QMG_QCFG.SPILL_EN, QMG_QCFG.STATE), (QMG_QCFG.MIN, QMG_QCFG.STATE)]

/-- A field that a write of this master cannot change now: R3's "RW from the MCU", R389, and `heldWhile`. -/
def State.fieldHeld (s : State) (m : Master) (f : Field) (i : Nat) : Bool :=
  heldWhile.any (fun x => x.1 == f && s.get x.2 i != 0)
    || (f == KST_CTRL.PF0_KEYWR && m == .host)
    || (f == NVJ_JCTRL.BSK_MODE && (m == .host || s.nvj.replayed))
    || (f == QMG_QCFG.ROLE && i % 1024 < 104)

/-- A value held between the limits of its field. -/
def unsignedLimit (f : Field) (v : Nat) : Nat :=
  match fieldLimits.find? (·.1 == f) with
  | some (_, lo, hi) => max lo (min hi v)
  | none => v

/-- A two's complement value held between the limits of its field. -/
def signedLimit (f : Field) (v : Nat) : Nat :=
  match signedLimits.find? (·.1 == f) with
  | some (_, lo, hi) =>
    let x : Int := if v < 2 ^ (f.width - 1) then (v : Int) else (v : Int) - 2 ^ f.width
    (max lo (min hi x) % 2 ^ f.width).toNat
  | none => v

/-- The value that a field takes when `v` is written to it. -/
def limited (f : Field) (v : Nat) : Nat :=
  let b := signedLimit f (unsignedLimit f v)
  if f == KFR_MON_CFG.TIM_LEN && (b == 0 || 64 < b) then 64 else b

/-- A field of a merged word: kept where it is held or the value is reserved, held to its limits otherwise. -/
def State.regulate (s : State) (m : Master) (i : Nat) (old : Word) (v : Word) (f : Field) : Word :=
  let o := old.bits f.lo f.width
  let x := v.bits f.lo f.width
  if s.fieldHeld m f i || (x != o && reservedFrom.any fun y => y.1 == f && y.2 ≤ x) then v.setBits f.lo f.width o
  else if x == o then v
  else v.setBits f.lo f.width (limited f x)

/-- The RW fields of a register word. -/
def Reg.rwFields (r : Reg) (w : Nat) : List Field := r.fields.filter fun f => f.word == w && f.acc == .rw

/-- The word that a register holds after a write, effects of its own apart. -/
def State.writtenWord (s : State) (m : Master) (r : Reg) (i w : Nat) (data mask : Word) : Word :=
  let old := s.word r i w
  (r.rwFields w).foldl (s.regulate m i old) (r.merge w old data mask)

/-- A field that cannot change now would change. -/
def State.heldChange (s : State) (m : Master) (r : Reg) (i w : Nat) (data mask : Word) : Bool :=
  let old := s.word r i w
  let v := r.merge w old data mask
  (r.rwFields w).any fun f => s.fieldHeld m f i && v.bits f.lo f.width != old.bits f.lo f.width

/-! ### Writes that are discarded as a whole -/

/-- A field would change. -/
def changes (fs : List Field) (old new : Word) : Bool := fs.any fun f => old.bits f.lo f.width != new.bits f.lo f.width

/-- The port (0 to 31 client, 32 to 63 line) whose register this is (R276). Lane registers belong to lanes, not to ports. -/
def portOfReg (r : Reg) (i : Nat) : Option Nat :=
  match r with
  | .CPX_PORT_CTRL => some i
  | .CPX_PORT_STATUS => some i
  | .LPX_PORT_CTRL => some (32 + i)
  | .LPX_PORT_STATUS => some (32 + i)
  | _ =>
    if [Reg.KFR_KEYSW, .KFR_CFG, .KFR_ALIGN, .KFR_EC_STAT, .KFR_TRIB, .KFR_TRIB_STAT, .KFR_TTI_TX, .KFR_MON_CFG, .KFR_DEFECT,
        .KFR_PM_SNAP, .KFR_TTI_EXP, .KFR_TTI_RX, .LNS_HUD_PEER, .SAT_RXPORT_CFG, .SAT_RXPORT_SCI, .SAT_RXPORT_CNT, .LET_CTL_DA,
        .GLB_AGT_PORT, .GLB_AGT_CKN].contains r then some (32 + i / (r.count / 32))
    else if [Reg.SCH_PORT_CFG, .SCH_PORT_QUANTUM, .TMB_PORT, .TMB_PORT_FIXED].contains r then some i
    else if [Reg.TBL_PORTCFG, .TBL_MISS_CNT, .FAB_CT_CFG, .FAB_ING_CFG, .FAB_ING_PORT].contains r then
      let x := i / (r.count / 64)
      some (if x % 16 < 8 then 8 * (x / 16) + x % 8 else 32 + 8 * (x / 16) + x % 8)
    else none

/-- R276: a register of a port that does not exist. -/
def State.regAbsent (s : State) (r : Reg) (i : Nat) : Bool := (portOfReg r i).any fun p => !s.portExists p

/-- A register of an MCU port, which the host may only read. -/
def mcuPort (r : Reg) (off : Nat) : Bool :=
  [Reg.TBL_DATA, .TBL_CMD, .TBL_STATUS, .KST_KEYDATA, .KST_SALT, .KST_ATTR, .KST_CMD, .KST_STATUS, .KST_INFO].contains r
    && off / 0x800 % 2 == 1

/-- R243, R306, R568: the changes for which a write is discarded as a whole. -/
def State.writeBarred (s : State) (r : Reg) (i : Nat) (old new : Word) : Bool :=
  match r with
  | .KFR_TRIB => s.get KFR_TRIB.STATE i != 0
      && changes [KFR_TRIB.TYPE, KFR_TRIB.START, KFR_TRIB.ALLOT, KFR_TRIB.FIXED, KFR_TRIB.CLIENT_PORT] old new
  | .LET_STREAM_SC => s.get LET_STREAM_CFG.STATE i != 0
  | .LET_STREAM_RXSC => s.get LET_STREAM_CFG.STATE i != 0
  | .LET_STREAM_AUX => s.get LET_STREAM_CFG.STATE i != 0
  | .LET_STREAM_CFG => s.get LET_STREAM_CFG.STATE i != 0
      && (changes [LET_STREAM_CFG.VOLLEY, LET_STREAM_CFG.RETAIN, LET_STREAM_CFG.CLIENT_PORT, LET_STREAM_CFG.CLASS, LET_STREAM_CFG.PORT_W,
          LET_STREAM_CFG.PORT_P] old new
        || (s.flag LET_STREAM_CFG.RETAIN i && !s.letWindowsFit i (new.bits 32 20)))
  | .TMB_PORT => new.bits 2 2 == 2 && (List.range 64).any fun p => p != i && s.get TMB_PORT.TT_ROLE p == 2
  | _ => false

end Sys2Proof.Machine
end

