-- ==== Sys2Proof/Machine/HostReset.lean ====
section
/-!
DEFINITION. The PCIe resets (Table 19-8), the function resets of `GLB_FRESET` (Table 19-9), the device reset and the power cycle
(R629 to R631), and the mailbox's request (R626).
-/

namespace Sys2Proof.Machine

/-! ### PCIe resets (R618) -/

/-- Every ring is function-reset. -/
def State.ringsReset (s : State) : State := s.forN 512 fun r s => s.fnReset (.ring (Fin.ofNat 512 r))

/-- The event ring goes to OFF. -/
def State.eventRingOff (s : State) : State := (s.fnSet .eventRing 0 0).leaveService .eventRing

/-- The event ring at its reset values (Table 19-8, FLR of PF0). -/
def State.eventRingClear (s : State) : State :=
  (s.forL [Reg.EVT_RING_BASE, .EVT_RING_CFG, .EVT_RING_HEAD, .EVT_RING_STATUS] fun r s => s.resetReg r 0).leaveService .eventRing

/-- The configuration space of PF0 with its MSI-X table and DOE, at reset values: no vector masked, nothing pending. -/
def State.pf0Config (s : State) : State :=
  { s with evt := { s.evt with vecMasked := [], pba := [] }, hif := { s.hif with doe := { out := s.hif.doe.out } } }

/-- Translations of a function leave the cache. -/
def State.atcDrop (fn : Nat) (s : State) : State := { s with hif := { s.hif with atc := s.hif.atc.filter fun e => e.2 != fn } }

/-- PERST_N, hot reset and link down. -/
def State.pcieReset (s : State) : State :=
  let s1 := ((s.pf0Config.ringsReset.eventRingOff).atcDrop 0).atcDrop 1
  ((s1.set HIF_DMA_STATUS.PRI_OFF0 0 0).set HIF_DMA_STATUS.PRI_OFF1 0 0).ownerRelease

/-- PERST_ASSERT (R618). -/
def execPerstAssert (s : State) : Host.Outcome State Fault Refusal := finish s.pcieReset

/-- PCIE_HOT_RESET (R618). -/
def execPcieHotReset (s : State) : Host.Outcome State Fault Refusal := finish s.pcieReset

/-- PCIE_LINK_DOWN (R618). -/
def execPcieLinkDown (s : State) : Host.Outcome State Fault Refusal := finish s.pcieReset

/-- The loads of a region's mode programs end with DMA_FAULT. -/
def State.mpDmaFault (n : Nat) (s : State) : State :=
  match s.fen.mpCmd.get n none with
  | some c => if c.install.isSome || c.code.isSome then s.mpEnd n c 2 else s
  | none => s

/-- A DMA through PF0 in progress ends with DMA_FAULT: shadow compares and loads of mode programs. -/
def State.dmaAbort (s : State) : State :=
  (s.forN 4 fun n s => s.mpDmaFault n).forN 4 fun n s => if s.get TBL_SHADOW_CTRL.STATE n == 1 then s.shadowFault n else s

/-- FLR_PF0 (R618). -/
def execFlrPf0 (s : State) : Host.Outcome State Fault Refusal :=
  finish (((s.pf0Config.eventRingClear.dmaAbort.set HIF_DMA_STATUS.PRI_OFF0 0 0).atcDrop 0).ownerRelease)

/-- FLR_PF1 (R618). -/
def execFlrPf1 (s : State) : Host.Outcome State Fault Refusal :=
  finish ((s.ringsReset.set HIF_DMA_STATUS.PRI_OFF1 0 0).atcDrop 1)

/-! ### Function resets (R630, R698) -/

/-- A write of `GLB_FRESET`: BUSY, TYPE and INDEX show; a write while BUSY is discarded. -/
def State.fresetBegin (typ index : Nat) (run : State → State) (s : State) : State :=
  if s.flag GLB_FRESET_STATUS.BUSY then s
  else run (((s.set GLB_FRESET_STATUS.BUSY 0 1).set GLB_FRESET_STATUS.TYPE 0 typ).set GLB_FRESET_STATUS.INDEX 0 index)

/-- A function reset of a function of Table 1-8. -/
def State.fresetFn (f : Fn) (s : State) : State :=
  let s1 := s.fnReset f
  if s1.fnState f == 0 then s1.fresetOff (fnFreset f).1 (fnFreset f).2 else s1

/-- A function reset of an SA: its disable (R46). -/
def State.fresetSa (sa : Nat) (s : State) : State :=
  let s1 := s.saEnWrite sa false
  if (s1.sa? sa).all fun a => a.state == 0 then s1.fresetOff 2 sa else s1

/-- R630: `GLB_FRESET` is written with a TYPE and INDEX; out of range, or a queue whose EN is fixed, it is ignored. -/
def State.freset (typ index : Nat) (s : State) : State :=
  match typ with
  | 1 => if h : index < 64 then s.fresetBegin 1 index (State.fresetFn (.port ⟨index, h⟩)) else s
  | 2 => if index < 65536 then s.fresetBegin 2 index (State.fresetSa index) else s
  | 3 => if h : index < 4096 then
      if index % 1024 < 104 then s else s.fresetBegin 3 index (State.fresetFn (.queue ⟨index, h⟩)) else s
  | 4 => if h : index < 512 then s.fresetBegin 4 index (State.fresetFn (.ring ⟨index, h⟩)) else s
  | 5 => if index < 24 then s.fresetBegin 5 index (State.fresetFn (.pod (Fin.ofNat 4 (index / 6)) (Fin.ofNat 6 (index % 6)))) else s
  | 6 => if index < 4 then s.fresetBegin 6 index (State.tblReset index) else s
  | _ => s

/-- FRESET_PORT (R630). -/
def execFresetPort (index : BitVec 16) (s : State) : Host.Outcome State Fault Refusal := finish (s.freset 1 index.toNat)

/-- FRESET_SA (R630). -/
def execFresetSa (index : BitVec 16) (s : State) : Host.Outcome State Fault Refusal := finish (s.freset 2 index.toNat)

/-- FRESET_QUEUE (R630). -/
def execFresetQueue (index : BitVec 16) (s : State) : Host.Outcome State Fault Refusal := finish (s.freset 3 index.toNat)

/-- FRESET_RING (R630). -/
def execFresetRing (index : BitVec 16) (s : State) : Host.Outcome State Fault Refusal := finish (s.freset 4 index.toNat)

/-- FRESET_POD (R630). -/
def execFresetPod (index : BitVec 16) (s : State) : Host.Outcome State Fault Refusal := finish (s.freset 5 index.toNat)

/-- FRESET_TABLE_UNIT (R698). -/
def execFresetTableUnit (index : BitVec 16) (s : State) : Host.Outcome State Fault Refusal := finish (s.freset 6 index.toNat)

/-- FRESET_TIMEOUT (R630): the reset has not ended in its time; it keeps going. -/
def execFresetTimeout (s : State) : Host.Outcome State Fault Refusal :=
  finish (if s.flag GLB_FRESET_STATUS.BUSY && !s.flag GLB_FRESET_STATUS.TIMEOUT then (s.set GLB_FRESET_STATUS.TIMEOUT 0 1).raise 152 4 else s)

/-! ### Device reset and power cycle (R629, R631) -/

/-- A device reset by command, unless a tamper response or RESET_N holds the device already. -/
def State.resetDevice (s : State) : State := if s.tmp.resp != 0 || s.pwr.resetHeld then s else s.deviceReset false

/-- PWR_CYCLE_N is driven low. -/
def State.cyclePower (s : State) : State := { s with pwr := { s.pwr with cycling := true } }

/-- DEVICE_RESET (R629): a write of `GLB_RESET` with OP = DEVICE_RESET; any CONFIRM but 0x4452_5354 makes it ignored. -/
def execDeviceReset (confirm : BitVec 32) (s : State) : Host.Outcome State Fault Refusal :=
  finish (if confirm == 0x44525354 then s.resetDevice else s)

/-- POWER_CYCLE (R631). -/
def execPowerCycle (confirm : BitVec 32) (s : State) : Host.Outcome State Fault Refusal :=
  finish (if confirm == 0x44525354 then s.cyclePower else s)

/-- POWER_CYCLE_PULSE_END (R631): the pulse ends; `dropped`: the rails have dropped, and their loss and return are events of their own. -/
def execPowerCyclePulseEnd (dropped : Bool) (s : State) : Host.Outcome State Fault Refusal :=
  finish (if !s.pwr.cycling then s
    else if dropped then { s with pwr := { s.pwr with cycling := false } }
    else ({ s with pwr := { s.pwr with cycling := false } }.resetDevice).set GLB_RESET.PC_FAIL 0 1)

/-! ### Mailbox (R626) -/

/-- A write of GO = 1. -/
def State.mboxGo (s : State) : State := if s.flag HIF_MBOX_CTRL.BUSY then s else s.set HIF_MBOX_CTRL.BUSY 0 1

/-- MBOX_GO (R626): a write of `HIF_MBOX_CTRL` with GO = 1 and a REQ_LEN. -/
def execMboxGo (reqLen : BitVec 16) (s : State) : Host.Outcome State Fault Refusal :=
  finish ((s.set HIF_MBOX_CTRL.REQ_LEN 0 reqLen.toNat).mboxGo)

end Sys2Proof.Machine
end

