-- ==== Sys2Proof/Machine/Lcm.lean ====
section
/-!
DEFINITION. The roots and the life cycle (R486 to R498, R525), and the random bit generator's reseed (R519, R520).
-/

namespace Sys2Proof.Machine

/-! ### Roots (R487 to R491) -/

/-- `LCM_STATE.STATE` of the programmed life-cycle bits (R492). -/
def lcOf (bits : Nat) : Nat :=
  if bits.testBit 3 then 4 else if bits.testBit 2 then 3 else if bits.testBit 1 then 2 else if bits.testBit 0 then 1 else 0

/-- `LCM_STATE` shows the one-time array. -/
def State.lcShow (s : State) : State :=
  (s.set LCM_STATE.STATE 0 (lcOf s.lcm.lcBits)).set LCM_STATE.CKH_USED 0 s.lcm.customerHashes.length

/-- R488: the root that qualifies, and whether it is root B. -/
def State.deviceRoot (s : State) : Option (List Byte × Bool) :=
  if s.lcm.rootA.valid && s.lcm.rootA.eccOk then some (s.lcm.rootA.bytes, false)
  else if s.lcm.rootB.valid && s.lcm.rootB.eccOk then some (s.lcm.rootB.bytes, true)
  else none

/-- The label of the state root of a life-cycle state (Table 15-2). -/
def rootLabel (lc : Nat) : Option String :=
  match lc with
  | 1 => some "OBN-ROOT-P"
  | 2 => some "OBN-ROOT-S"
  | 3 => some "OBN-ROOT-R"
  | _ => none

/-- R488, R491: the KDU takes the root and derives the state root and DEVICE_ID; ROOT_FAIL when no root qualifies. -/
def State.rootsLoad (s : State) : State :=
  match s.deviceRoot with
  | none => if s.lcm.lcBits.testBit 0 then s.set LCM_STATE.ROOT_FAIL 0 1 else s
  | some (root, isB) =>
    let s1 := (s.set LCM_STATE.ROOT_B 0 (natOfBool isB)).set LCM_STATE.ROOT_FAIL 0 0
    let s2 := { s1 with lcm := { s1.lcm with stateRoot := (rootLabel s.lcState).map fun l => kdf root (ascii l) [] 256 } }
    if s.lcState == 0 then s2 else s2.set LCM_DEVICE_ID.DEVICE_ID 0 (beNat (kdf root (ascii "OBN-DEVID") [] 64))

/-- R487: a root is drawn and programmed; `okA` and `okB` are whether the read-back of each root matches. -/
def State.rootGenerate (okA okB : Bool) (s : State) : State :=
  let x := s.drbg 32
  let bit := fun (s : State) => ({ s with lcm := { s.lcm with lcBits := s.lcm.lcBits ||| 1 } }).lcShow
  if okA then bit { x.2 with lcm := { x.2.lcm with rootA := { bytes := x.1, valid := true, eccOk := true } } }
  else
    let s1 := { x.2 with lcm := { x.2.lcm with rootA := { bytes := x.1, valid := false, eccOk := false } } }
    let y := s1.drbg 32
    if okB then bit { y.2 with lcm := { y.2.lcm with rootB := { bytes := y.1, valid := true, eccOk := true } } }
    else { y.2 with lcm := { y.2.lcm with rootB := { bytes := y.1, valid := false, eccOk := false } } }

/-! ### Commands (R493 to R498, R525) -/

/-- The lowest of the codes that apply (R525); 0 when none does. -/
def lowestCode (l : List (Bool × Nat)) : Nat := (l.filter (·.1)).foldl (fun m x => if m == 0 then x.2 else min m x.2) 0

/-- R494: a master may not write `LCM_CMD`. -/
def State.lcPriv (s : State) (m : Master) : Bool := m == .host && (!s.flag KST_CTRL.PF0_KEYWR || s.isLibero)

/-- A command begins, unless one is in progress; its result shows when it ends. -/
def State.lcBegin (run : State → State × Nat) (s : State) : State :=
  if s.flag LCM_STATUS.BUSY then s else
  let x := run s
  { x.1.set LCM_STATUS.BUSY 0 1 with lcm := { x.1.lcm with cmd := some x.2 } }

/-- The challenge, and what `LCM_CHALLENGE` reads of it. -/
def State.setChallenge (c : Option (List Byte)) (s : State) : State :=
  ({ s with lcm := { s.lcm with challenge := c } }).forN 4 fun i s => s.set LCM_CHALLENGE.NONCE i (fieldAt (c.getD []) (8 * i) 8)

/-- An entry appended and committed at once, before a device reset (R495). -/
def State.journalNow (typ : Nat) (payload : List Byte) (s : State) : State :=
  if s.journalReadOnly then s else
  match s.nvj.key with
  | none => s
  | some key =>
    let s1 := match s.nvj.prog with
      | some p => { s with nvj := { s.nvj with pos := p.pos, boundary := p.boundary + entrySpan p.req.payload.length, prog := none } }
      | none => s
    let pl := s1.entryPlace payload.length
    if 192 ≤ pl.1 then s1
    else
      let x := s1.entryBytes key s1.nvj.seq ⟨typ, payload⟩
      let a := x.2.placeBase pl.1 pl.2
      (x.2.prog a x.1).prog (a + entryC payload.length) (commitOf s1.nvj.seq)

/-- The payload of an LC entry (Table 16-10). -/
def State.lcPayload (s : State) (old new : Nat) : List Byte :=
  [BitVec.ofNat 8 old, BitVec.ofNat 8 new, 0, 0, 0, 0, 0, 0] ++ beBytes 8 (s.get LCM_DEVICE_ID.DEVICE_ID)
    ++ beBytes 8 (if s.flag TMB_STATUS.RUNNING then s.clk.tbSec else 0)

/-- R495: a transition: the slots, the secure part and the engines are cleared, the bit programmed, the record appended and the
device reset. A programming failure resets the device in the old state (R525). -/
def State.lcTransition (bit : Nat) (otaOk wipeOk : Bool) (s : State) : State :=
  let s1 := s.commitFinish
  let s2 := ({ s1 with kst := { s1.kst with slots := [], hostPort := .idle, mcuPort := .idle } }).secureWipe 2 wipeOk
  let s3 := s2.forN 192 fun g s => s.clearEngine g
  if otaOk then
    let old := s3.lcState
    let s4 := s3.journalNow 4 (s3.lcPayload old (lcOf (2 ^ bit)))
    (({ s4 with lcm := { s4.lcm with lcBits := s4.lcm.lcBits ||| 2 ^ bit } }).lcShow).deviceReset false
  else s3.deviceReset false

/-- A transition command whose result is OK carries the transition out; any other ends with its result. -/
def State.lcRun (result bit : Nat) (otaOk wipeOk : Bool) (s : State) : State :=
  if s.flag LCM_STATUS.BUSY then s
  else if result == 0 then s.lcTransition bit otaOk wipeOk
  else s.lcBegin fun s => (s, result)

/-- R496: a return token is valid. -/
def State.tokenOk (s : State) (t : List Byte) : Bool :=
  t.length == 240 && fieldAt t 0 4 == 0x52544F4B && fieldAt t 4 2 == 1 && fieldAt t 6 1 == 3 && fieldAt t 7 1 == 0
    && fieldAt t 8 8 == s.get LCM_DEVICE_ID.DEVICE_ID && s.lcm.challenge == some ((t.drop 16).take 32)
    && s.lcm.oroasHashes.contains (sha384 ((t.drop 48).take 96))
    && ecdsaVerify ((t.drop 48).take 96) (sha384 (t.take 144)) (t.drop 144)

/-- CHALLENGE (R497). -/
def State.lcChallenge (m : Master) (s : State) : State :=
  s.lcBegin fun s =>
    if s.lcPriv m then (s, 2)
    else if s.drbgRefuses then (s, 3)
    else
      let x := s.drbg 32
      (x.2.setChallenge (some x.1), 0)

/-- TO_SERVICE. -/
def State.lcToService (m : Master) (confirm : Nat) (otaOk wipeOk : Bool) (s : State) : State :=
  s.lcRun (lowestCode [(confirm != 0x4C435430, 1), (s.lcPriv m, 2), (s.lcState != 1 || s.lcEnded, 3)]) 1 otaOk wipeOk

/-- TO_RETURN: `token` is what the DMA read. The challenge is cleared whether it succeeds or fails. -/
def State.lcToReturn (m : Master) (confirm : Nat) (token : Option (List Byte)) (otaOk wipeOk : Bool) (s : State) : State :=
  if s.flag LCM_STATUS.BUSY then s
  else
    let r := lowestCode [(confirm != 0x4C435430, 1), (s.lcPriv m, 2), (s.lcState != 2 || s.lcEnded, 3)
      , (s.lcm.challenge.isNone || token.any fun t => !s.tokenOk t, 4), (token.isNone, 6)]
    ((s.setChallenge none).when (token.isSome && (r == 0 || r == 4)) fun s => s.dmaOctets 240).lcRun r 2 otaOk wipeOk

/-- TO_END. -/
def State.lcToEnd (m : Master) (confirm : Nat) (otaOk wipeOk : Bool) (s : State) : State :=
  s.lcRun (lowestCode [(confirm != 0x4C435430, 1), (s.lcPriv m, 2), (s.lcState == 0 || s.lcEnded, 3)]) 3 otaOk wipeOk

/-- FUSE_CKH (R498): `hash` is what the DMA read. -/
def State.lcFuse (m : Master) (hash : Option (List Byte)) (otaOk : Bool) (s : State) : State :=
  s.lcBegin fun s =>
    let r := lowestCode [(s.lcPriv m, 2), (s.lcState != 1 || s.lcEnded, 3), (s.lcm.customerHashes.length == 4, 5), (hash.isNone, 6), (!otaOk, 7)]
    match r, hash with
    | 0, some h => (({ s.dmaOctets 48 with lcm := { s.lcm with customerHashes := s.lcm.customerHashes ++ [h.take 48] } }).lcShow, 0)
    | _, _ => (s, r)

/-- LCM_CHALLENGE (R497). -/
def execLcmChallenge (m : Master) (s : State) : Host.Outcome State Fault Refusal := finish (s.byWrite m .LCM_CMD 0 fun s => s.lcChallenge m)

/-- LCM_TO_SERVICE (R493, R495). -/
def execLcmToService (m : Master) (confirm : BitVec 32) (otaOk wipeOk : Bool) (s : State) : Host.Outcome State Fault Refusal :=
  finish (s.byWrite m .LCM_CMD 0 fun s => s.lcToService m confirm.toNat otaOk wipeOk)

/-- LCM_TO_RETURN (R493, R495, R496). -/
def execLcmToReturn (m : Master) (confirm : BitVec 32) (token : Option (List Byte)) (otaOk wipeOk : Bool) (s : State) :
    Host.Outcome State Fault Refusal :=
  finish (s.byWrite m .LCM_CMD 0 fun s => s.lcToReturn m confirm.toNat token otaOk wipeOk)

/-- LCM_TO_END (R493, R495). -/
def execLcmToEnd (m : Master) (confirm : BitVec 32) (otaOk wipeOk : Bool) (s : State) : Host.Outcome State Fault Refusal :=
  finish (s.byWrite m .LCM_CMD 0 fun s => s.lcToEnd m confirm.toNat otaOk wipeOk)

/-- LCM_FUSE_CKH (R498). -/
def execLcmFuseCkh (m : Master) (hash : Option (List Byte)) (otaOk : Bool) (s : State) : Host.Outcome State Fault Refusal :=
  finish (s.byWrite m .LCM_CMD 0 fun s => s.lcFuse m hash otaOk)

/-- LCM_CMD_END (R525): a command that made no transition ends and raises the life-cycle event. -/
def execLcmCmdEnd (s : State) : Host.Outcome State Fault Refusal :=
  finish (match s.lcm.cmd with
    | none => s
    | some r =>
      let s1 := ((s.set LCM_STATUS.BUSY 0 0).set LCM_STATUS.RESULT 0 r).set LCM_STATUS.DONE 0 1
      ({ s1 with lcm := { s1.lcm with cmd := none } }).raise 145 1)

end Sys2Proof.Machine
end

