-- ==== Sys2Proof/Machine/Bus.lean ====
section
/-!
DEFINITION. The register bus of PF0 BAR0 (R3 to R6, R38 to R40, R601 to R604, R625, R652): what a write does to a register, with the
effect that the register's block gives it, and what a read returns.
-/

namespace Sys2Proof.Machine

/-! ### Registers with an EN field (Table 1-8) -/

/-- The function that a register's EN enables. -/
def fnOfReg (r : Reg) (i : Nat) : Option Fn :=
  match r with
  | .FEN_POD_CTRL => some (.pod (Fin.ofNat 4 (i / 6)) (Fin.ofNat 6 (i % 6)))
  | .CPX_PORT_CTRL => some (.port (Fin.ofNat 64 i))
  | .LPX_PORT_CTRL => some (.port (Fin.ofNat 64 (32 + i)))
  | .KFR_TRIB => some (.trib (Fin.ofNat 32 (i / 32)) (Fin.ofNat 32 (i % 32)))
  | .FAB_PG_CFG => some (.group (Fin.ofNat 16 i))
  | .LET_STREAM_CFG => some (.stream (Fin.ofNat 256 i))
  | .MTL_PAIR_CFG => some .pair
  | .GLB_AGT_CTRL => some .agent
  | .QMG_QCFG => some (.queue (Fin.ofNat 4096 i))
  | .IME_RKEY_CTRL => some (.rekey (Fin.ofNat 4 (i / 8)) (Fin.ofNat 8 (i % 8)))
  | .HIF_RING_CFG => some (.ring (Fin.ofNat 512 i))
  | .EVT_RING_CFG => some .eventRing
  | .TBL_SHADOW_CTRL => some (.shadow (Fin.ofNat 4 i))
  | .QMG_AUDIT_CTRL => some .audit
  | .SRB_TEST_CFG => some (.sramTest (Fin.ofNat 4 i))
  | _ => none

/-- R380: the shared pool that a write could make negative. -/
def poolOfReg (r : Reg) (i : Nat) : Option Nat :=
  match r with
  | .FAB_ING_CFG => some (i / 128)
  | .CPX_PORT_CTRL => some (i / 8)
  | .LPX_PORT_CTRL => some (i / 8)
  | .QMG_QCFG => some (queueRegion i)
  | _ => none

/-- What follows the change of a register's fields. -/
def State.cfgEffect (r : Reg) (i : Nat) (old new : Word) (s : State) : State :=
  match r with
  | .CPX_PORT_CTRL => if changes [CPX_PORT_CTRL.PFC_TX] old new then s.pfcTxWritten i (old.bits 16 8) else s
  | .LPX_PORT_CTRL =>
    let s1 := if changes [LPX_PORT_CTRL.PFC_TX] old new then s.pfcTxWritten (32 + i) (old.bits 16 8) else s
    if changes [LPX_PORT_CTRL.PREEMPT_EN, LPX_PORT_CTRL.VERIFY_DIS] old new then s1.preemptStart i else s1
  | .QMG_QCFG => if changes [QMG_QCFG.QMAX] old new then s.letQueueShow i (s.chunkFree i) else s
  | .FAB_PG_CFG => s.pgEval i
  | .LET_STREAM_CFG => if old != new then s.letWindow i else s
  | .KFR_MON_CFG => (s.when (!s.flag KFR_MON_CFG.TIM_EN i) fun s => s.defectRaw i 7 false).defectSync i
  | .TMB_PORT => s.timeOwned
  | .TMB_PPS_CFG => if new.flag 1 then s else s.ppsLow
  | .TMP_STATUS => s.alertUpdate
  | .TMP_ALARM => s.alertUpdate
  | .SBM_ALERT_MASK => s.alertUpdate
  | _ => s

/-- The fields of a register with an EN field are written, and EN then enables or disables its function. -/
def State.fnWrite (f : Fn) (r : Reg) (i : Nat) (old v mask : Word) (s : State) : State × Bool :=
  let set := fun (s : State) => (s.setWord r i 0 (v.setBits 0 1 (old.bits 0 1))).cfgEffect r i old v
  let act := fun (s : State) =>
    if !mask.flag 0 then s else if v.flag 0 then s.fnEnable f else s.fnDisable f
  match poolOfReg r i with
  | none => (act (set s), true)
  | some n =>
    let s1 := set s
    let t := if mask.flag 0 && v.flag 0 && s1.fnState f == 0 && !s1.enableDiscarded f then s1.fnStart f else s1
    if t.poolSize n < 0 then (s.set FAB_BUF_STATUS.REJ n 1, false) else (act (s1.bufShow n), true)

/-- EN would be discarded (R276, R300, R389). -/
def State.enBarred (s : State) (f : Fn) (v mask : Word) : Bool :=
  mask.flag 0 && (if v.flag 0 then s.fnState f == 0 && s.enableDiscarded f else s.fnState f != 0 && s.disableDiscarded f)

/-! ### Registers whose write starts a command or has rules of its own -/

/-- The bits of a command word outside its fields. -/
def rsvSet (cmd fields : Word) : Bool := cmd &&& ~~~fields != 0

/-- The registers of the tables, the engines, the statistics and the key store. -/
def State.writeTables (m : Master) (r : Reg) (i : Nat) (cmd mask : Word) (s : State) : Option State :=
  let low := mask.flag 0
  match r with
  | .TBL_CMD => some (if low then
      s.tblCommand (i / 2) m (cmd.bits 0 4) (cmd.bits 4 2) (cmd.bits 8 16) (rsvSet cmd 0x0000000000FFFF3F) else s)
  | .TBL_SEED => some (s.seedWrite i (cmd.bits 0 32) (cmd.flag 32) low)
  | .SAT_STAT_CMD => some (if low then s.statCmd i (cmd.bits 0 16) (cmd.flag 16) else s)
  | .FEN_KSA_CTRL => some (if low then s.ksaCtrl i (cmd.flag 0) (cmd.bits 1 3) (cmd.bits 4 8) else s)
  | .FEN_ENG => some (if cmd.flag 2 then s.fenFence (i / 48) (i % 48) (cmd.flag 3)
      else if cmd.flag 3 then s.restoreEngine (i / 48) (i % 48) else s)
  | .FEN_MP_CMD => some (if !low then s
      else if cmd.bits 0 4 == 2 then s.mpUnload i (cmd.bits 4 1) (cmd.bits 8 6)
      else if cmd.bits 0 4 == 1 || cmd.bits 0 4 == 3 then s
      else s.mpBegin i { result := 1, install := none, remove := none, code := none, use := none })
  | .KST_CMD => some (if low then
      s.kstCommand m (cmd.bits 0 4) (cmd.bits 4 2) (cmd.bits 8 17) (rsvSet cmd 0x0000000001FFFF3F) else s)
  | .LCM_CMD => some (if !low then s
      else if cmd.bits 0 4 == 1 then s.lcChallenge m
      else if 2 ≤ cmd.bits 0 4 && cmd.bits 0 4 ≤ 5 then s
      else s.lcBegin fun s => (s, 1))
  | _ => none

/-- The registers of the ports, the queues' statistics, the let streams, the pair and the key agent. -/
def State.writePorts (r : Reg) (i w : Nat) (v cmd mask : Word) (s : State) : Option State :=
  let low := mask.flag 0
  match r with
  | .CPX_CFG => some (if low then s.pmodeWrite false i (cmd.bits 0 4) else s)
  | .LPX_CFG => some (if low then s.pmodeWrite true i (cmd.bits 0 4) else s)
  | .KFR_CFG => some (if low then (s.set KFR_CFG.FRAG_LEN i (v.bits 8 8)).testClear i (cmd.flag 2) else s)
  | .LNS_LANE => some (if low then (s.prbsWrite i (cmd.bits 8 2) (cmd.bits 10 2)).when (cmd.flag 4) fun s => s.laneRestore i else s)
  | .SRB_BANK => some (if low then s.preqWrite i (cmd.bits 6 2) (cmd.flag 9) else s)
  | .SRB_CHIP_BANK => some (if low then s.preqWrite (48 + i) (cmd.bits 6 2) (cmd.flag 9) else s)
  | .SCH_LAT_CMD => some (if !low then s
      else if cmd.bits 12 2 == 1 then s.latQueueSnap (cmd.bits 0 12) (cmd.flag 14)
      else if cmd.bits 12 2 == 2 && cmd.bits 0 12 < 64 then s.latHistSnap (cmd.bits 0 12) (cmd.flag 14) else s)
  | .SCH_LAT_HCFG => some (if low then s.latHcfg i (max 1 (cmd.bits 0 16)) (cmd.flag 16) else s)
  | .SCH_QSHAPE => some (s.qshape i (v.bits 0 21) (v.bits 24 24) (v.flag 48))
  | .SCH_METER => some (s.meterWrite i w v)
  | .QMG_AUDIT_STATUS => some ((s.setWord r i w v).when (cmd.flag 54) fun s => s.auditLogClr)
  | .TBL_SHADOW_STATUS => some ((s.setWord r i w v).when (cmd.flag 57) fun s => s.shadowLogClr i)
  | .LET_STREAM_STATUS => some ((s.setWord r i w v).when (w == 3 && cmd.flag 25) fun s => s.letResume i)
  | .GLB_AGT_PORT => some (s.agtPortWrite i v)
  | .MTL_PAIR_CMD => some (if cmd.bits 0 2 == 1 then s.pairYield (cmd.flag 2)
      else if cmd.bits 0 2 == 2 then s.pairTake (cmd.flag 2) else s)
  | .PMC_SEL => some (s.pmcSelect i v)
  | .PMC_CHIP_SEL => some (s.pmcSelect (64 + i) v)
  | .PMC_CTRL => some ((s.setWord r i w (v &&& 3)).when (cmd.flag 2) fun s => s.pmcSnap (cmd.flag 3))
  | .PWR_DOM => some (if low then s.domWrite i (cmd.flag 0) (cmd.flag 4) (cmd.flag 5) else s)
  | _ => none

/-- A write of `NVJ_JCTRL`: BSK_MODE, and a command that needs nothing from outside; APPEND_CONFIG and FORMAT have rows of their
own. -/
def State.jctrlWrite (v cmd mask : Word) (s : State) : State :=
  let s1 := s.set NVJ_JCTRL.BSK_MODE 0 (v.bits 0 1)
  if !mask.flag 4 then s1
  else match cmd.bits 4 4 with
    | 0 => s1
    | 1 => s1.jCompact
    | 2 => s1
    | 3 => s1.jConfigReset
    | 4 => s1
    | _ => s1.jBegin 0 fun s => s.jEnd 0xB

/-- The registers of the chip level: flash, time, tamper, ownership, resets, mailbox and events. -/
def State.writeChip (m : Master) (r : Reg) (i w : Nat) (v cmd mask : Word) (s : State) : Option State :=
  let low := mask.flag 0
  match r with
  | .NVJ_IMG_CMD => some (if !low then s
      else if cmd.bits 0 4 == 1 then s.imgBegin (State.imgErase (cmd.bits 4 1))
      else if cmd.bits 0 4 == 2 || cmd.bits 0 4 == 3 then s
      else s.imgBegin fun s => (s, 0xB, 0))
  | .NVJ_JCTRL => some (s.jctrlWrite v cmd mask)
  | .TMB_CTRL =>
    let s1 := (s.setWord r i w (v.setBits 0 1 ((s.word r i w).bits 0 1))).when (v.bits 1 2 != (s.word r i w).bits 1 2) fun s => s.holdover
    some (s1.when (low && cmd.flag 0) fun s => s.timeEnable)
  | .TMB_STEP_CMD => some (if low then s.stepCmd m (cmd.bits 0 2) else s)
  | .TMB_RATE => some (s.rateWrite m (v.bits 0 40))
  | .TMB_SLEW => some (s.slewWrite m (v.bits 0 32) (v.bits 32 20))
  | .TMP_CTRL => some (s.setWord r i w (v.setBits 1 1 ((s.word r i w).bits 1 1)))
  | .TMP_RESP => some (if low then s.respWrite m v else s)
  | .TMP_AOLOG_STATUS => some (if cmd.flag 5 then s.aoClear m else s)
  | .GLB_OWNER =>
    let s1 := (s.setWord r i w (v.setBits 4 2 0)).alertUpdate
    some (match cmd.bits 4 2 with
      | 1 => s1.ownerTake
      | 2 => s1.ownerRelease
      | 3 => s1.ownerKeep
      | _ => s1)
  | .GLB_FRESET => some (if low then s.freset (cmd.bits 0 4) (cmd.bits 8 16) else s)
  | .GLB_RESET =>
    let s1 := s.setWord r i w (v &&& 4)
    some (if cmd.bits 32 32 != 0x44525354 then s1
      else if cmd.bits 0 2 == 1 then s1.resetDevice else if cmd.bits 0 2 == 2 then s1.cyclePower else s1)
  | .PWR_CTRL => some (if cmd.bits 32 32 == 0x50575244 && cmd.bits 0 2 == 1 then s.standbyBegin else s)
  | .HIF_MBOX_CTRL => some ((s.setWord r i w (v.setBits 0 1 0)).when (cmd.flag 0) fun s => s.mboxGo)
  | .EVT_SRC => some (if low then s.evtSrcWrite i (cmd.flag 0) (v.flag 1) (v.flag 2) (v.flag 3) (v.bits 8 9) else s)
  | _ => none

/-! ### A write -/

/-- The effect of a write on the register that takes it; false where the Bolorn discards the write or part of it. -/
def State.regWrite (m : Master) (r : Reg) (i w : Nat) (data mask : Word) (s : State) : State × Bool :=
  let old := s.word r i w
  let v := s.writtenWord m r i w data mask
  let cmd := data &&& mask
  let whole := !s.heldChange m r i w data mask
  if s.writeBarred r i old v then (s, false)
  else match fnOfReg r i with
    | some f =>
      let x := s.fnWrite f r i old v mask
      let s1 := if r == .FAB_PG_CFG && mask.flag 20 then x.1.pgCmd i (v.bits 20 3) else x.1
      let s2 := if r == .GLB_AGT_CTRL && cmd.flag 1 then s1.agtRekeyAll else s1
      (s2, x.2 && whole && !s.enBarred f v mask)
    | none =>
      match (s.writeTables m r i cmd mask).or ((s.writePorts r i w v cmd mask).or (s.writeChip m r i w v cmd mask)) with
      | some s1 => (s1, whole && !(r == .TMP_RESP && s1.word r i w != v.setBits 2 4 0xF))
      | none =>
        match poolOfReg r i with
        | some n =>
          let s1 := s.setWord r i w v
          if s1.poolSize n < 0 then (s.set FAB_BUF_STATUS.REJ n 1, false) else (s1.bufShow n, whole)
        | none => ((s.setWord r i w v).cfgEffect r i old v, whole)

/-- The register, instance and word at an offset that a master reaches. -/
def State.busAt (s : State) (m : Master) (off : Nat) : Option (Reg × Nat × Nat) :=
  (regAt (off / 8 * 8)).filter fun x => !(m == .host && s.pwr.recovery && !recoveryServes x.1)

/-- A write on the register bus, and whether it is accepted as a whole. -/
def State.busWrite (m : Master) (off : Nat) (data mask : Word) (s : State) : State × Bool :=
  match s.busAt m off with
  | none => (s.unmapped off true, false)
  | some (r, i, w) =>
    if m == .host && s.get GLB_OWNER.OWNER == 2 && !ownerFree r then (s.inc GLB_OWNER.DISCARDS 0, false)
    else if (m == .host && mcuPort r off) || s.regAbsent r i then (s, false)
    else s.regWrite m r i w data mask

/-- REGISTER_WRITE (R3): a write to an offset. A command that a register of its own row starts and that needs an operand from outside
(DMA data, the outcome of a programming) starts through that row only (notes/assumptions/60.md). -/
def execRegisterWrite (m : Master) (off : BitVec 27) (lanes : Lanes) (data : Word) (s : State) : Host.Outcome State Fault Refusal :=
  finish (s.busWrite m off.toNat data (lanesMask lanes)).1

/-! ### A read -/

/-- The words that the hardware computes as they are read: the time, the latched halves and the shapers' credit. -/
def State.liveWord (s : State) (r : Reg) (i w : Nat) : Word :=
  match r, w with
  | .TMB_TIME, 0 => BitVec.ofNat 64 (s.clk.tbFrac / 2 ^ 32 + s.clk.tbNs * 2 ^ 16)
  | .TMB_TIME, _ => BitVec.ofNat 64 s.clk.timeLatch
  | .TMB_PPS_IN, 1 => BitVec.ofNat 64 s.clk.ppsLatch
  | .SCH_QCREDIT, _ => BitVec.ofNat 64 ((s.credit i).tdiv 8000 % 2 ^ 32).toNat
  | .LNS_EYE, _ => if s.flag LNS_LANE.BIT_LOCK i then s.word r i w else 0
  | _, _ => s.word r i w

/-- R550, R602: the latches that a read of word 0 sets, and the RC bits that a read clears. -/
def State.readEffect (r : Reg) (i w : Nat) (mask : Word) (s : State) : State :=
  let s1 := match r, w with
    | .TMB_TIME, 0 => { s with clk := { s.clk with timeLatch := s.clk.tbSec } }
    | .TMB_PPS_IN, 0 => { s with clk := { s.clk with ppsLatch := s.get TMB_PPS_IN.SEC } }
    | _, _ => s
  let rc := r.accBits w (· == .rc) &&& mask
  if rc == 0 then s1 else s1.setWord r i w (s1.word r i w &&& ~~~rc)

/-- A read on the register bus: the value answered and the state after it. -/
def State.busRead (m : Master) (off : Nat) (mask : Word) (s : State) : State :=
  let answer := fun (v : Word) (s : State) => { s with bus := .data v }
  match s.busAt m off with
  | none => (s.unmapped off false) |> answer 0
  | some (r, i, w) =>
    if s.regAbsent r i then s |> answer 0
    else (s.readEffect r i w mask) |> answer (r.readable w (s.liveWord r i w) &&& mask)

/-- RC_READ (R3, R6, R602): a read of an offset. -/
def execRcRead (m : Master) (off : BitVec 27) (lanes : Lanes) (s : State) : Host.Outcome State Fault Refusal :=
  finish (s.busRead m off.toNat (lanesMask lanes))

/-- UNMAPPED_ACCESS (R40): an access to an offset at which no register lies; a read answers 0. -/
def execUnmappedAccess (m : Master) (off : BitVec 27) (write : Bool) (s : State) : Host.Outcome State Fault Refusal :=
  finish (if (s.busAt m off.toNat).isSome then s
    else
      let s1 := s.unmapped off.toNat write
      if write then s1 else { s1 with bus := .data 0 })

/-- UNSUPPORTED_ACCESS (R601): a width other than 32 or 64 bits, or an access that is not aligned. -/
def execUnsupportedAccess (off : BitVec 27) (write : Bool) (s : State) : Host.Outcome State Fault Refusal :=
  finish { s with bus := .unsupported off.toNat write }

/-- R672: what a read of the user counter page, PF0 BAR2, returns. -/
def State.userPage (s : State) (off : Nat) : Word :=
  let shown := fun c => (s.get PMC_USER_EN.EN (c / 64)).testBit (c % 64)
  let c := off % 0x400 / 8
  if off % 8 != 0 then 0
  else if off < 0x800 && c < 80 then
    if !shown c then 0
    else if off < 0x400 then BitVec.ofNat 64 (s.pmcCount c)
    else BitVec.ofNat 64 (s.pmcSel PMC_SNAP.COUNT PMC_CHIP_SNAP.COUNT c)
  else if off == 0x800 then BitVec.ofNat 64 (s.get PMC_STATUS.SNAP_SEQ + s.get PMC_CTRL.FREEZE * 2 ^ 32)
  else 0

end Sys2Proof.Machine
end

