-- ==== Sys2Proof/Machine/EngineIsa.lean ====
section
/-!
DEFINITION. The instructions of the frame engines (Tables 3-4 and 3-5, R82, R91 to R97, R113, R122). Each command issues one
instruction of thread t of engine g (48n + e); a thread of an engine that is off, or that stalls in WAIT, issues none. What the
spec leaves open in an instruction is a free value of Config (notes/assumptions/10.md).
-/

namespace Sys2Proof.Machine

/-! ### Issue -/

/-- The thread issues: its engine is not off and it does not stall. -/
def State.issues (s : State) (g t : Nat) : Bool := s.get FEN_ENG.STATE g != 0 && !(s.thr g t).stalled

/-- The program counter moves to the next instruction. -/
def State.nextPc (g t : Nat) (s : State) : State := s.onThr g t fun x => { x with pc := (x.pc + 4) % 2 ^ 64 }

/-- An instruction of a thread that issues, then the next. -/
def State.instr (g t : Nat) (f : State → State) (s : State) : State := if s.issues g t then (f s).nextPc g t else s

/-- An instruction of a thread that issues, unless its operands make it an illegal instruction (cause 1). -/
def State.legal (g t : Nat) (bad : Bool) (f : State → State) (s : State) : State :=
  if s.issues g t then (if bad then s.progFault g t 1 else f s) else s

/-- A write of e30 or e31 is a program fault (Table 3-2). -/
def eBad (rd : Nat) : Bool := 30 ≤ rd

/-- A block-register field whose bit 4 is 1 is an illegal instruction. -/
def bBad (b : Nat) : Bool := 16 ≤ b

/-- An instruction that writes an e register. -/
def State.toE (g t rd : Nat) (v : Word) (s : State) : State :=
  s.legal g t (eBad rd) fun s => (s.setEreg g t rd v).nextPc g t

/-- An instruction of two e registers into a third. -/
def State.alu (g t rd rs1 rs2 : Nat) (f : Word → Word → Word) (s : State) : State :=
  s.toE g t rd (f (s.ereg g t rs1) (s.ereg g t rs2))

/-- A 16-bit immediate of a class, extended. -/
def immWord (cls : Nat) (imm : BitVec 16) : Word :=
  if Config.immSigned cls then imm.signExtend 64 else imm.setWidth 64

/-- An instruction of an e register and an immediate. -/
def State.aluImm (g t rd rs1 cls : Nat) (imm : BitVec 16) (f : Word → Word → Word) (s : State) : State :=
  s.toE g t rd (f (s.ereg g t rs1) (immWord cls imm))

/-- A shift or rotate, free for an amount of 64 or more. -/
def shiftBy (op : Nat) (f : Word → Nat → Word) (a b : Word) : Word :=
  if b.toNat < 64 then f a b.toNat else Config.shiftWide op a b

/-- An instruction of block registers into another. -/
def State.toB (g t bd : Nat) (bad : Bool) (v : Block) (s : State) : State :=
  s.legal g t (bBad bd || bad) fun s => (s.setBreg g t bd v).nextPc g t

/-! ### Integer instructions -/

/-- ADD (Table 3-5, R87). -/
def execAddE (g : Fin 192) (t : Fin 4) (rd rs1 rs2 : Fin 32) (s : State) : Host.Outcome State Fault Refusal :=
  finish (s.alu g t rd rs1 rs2 (· + ·))

/-- SUB (Table 3-5, R87). -/
def execSubE (g : Fin 192) (t : Fin 4) (rd rs1 rs2 : Fin 32) (s : State) : Host.Outcome State Fault Refusal :=
  finish (s.alu g t rd rs1 rs2 (· - ·))

/-- AND (Table 3-5, R87). -/
def execAndE (g : Fin 192) (t : Fin 4) (rd rs1 rs2 : Fin 32) (s : State) : Host.Outcome State Fault Refusal :=
  finish (s.alu g t rd rs1 rs2 (· &&& ·))

/-- OR (Table 3-5, R87). -/
def execOrE (g : Fin 192) (t : Fin 4) (rd rs1 rs2 : Fin 32) (s : State) : Host.Outcome State Fault Refusal :=
  finish (s.alu g t rd rs1 rs2 (· ||| ·))

/-- XOR (Table 3-5, R87). -/
def execXorE (g : Fin 192) (t : Fin 4) (rd rs1 rs2 : Fin 32) (s : State) : Host.Outcome State Fault Refusal :=
  finish (s.alu g t rd rs1 rs2 (· ^^^ ·))

/-- SHL (Table 3-5, R87). -/
def execShl (g : Fin 192) (t : Fin 4) (rd rs1 rs2 : Fin 32) (s : State) : Host.Outcome State Fault Refusal :=
  finish (s.alu g t rd rs1 rs2 (shiftBy 0 fun a n => a <<< n))

/-- SHR (Table 3-5, R87). -/
def execShr (g : Fin 192) (t : Fin 4) (rd rs1 rs2 : Fin 32) (s : State) : Host.Outcome State Fault Refusal :=
  finish (s.alu g t rd rs1 rs2 (shiftBy 1 fun a n => a >>> n))

/-- SAR (Table 3-5, R87). -/
def execSar (g : Fin 192) (t : Fin 4) (rd rs1 rs2 : Fin 32) (s : State) : Host.Outcome State Fault Refusal :=
  finish (s.alu g t rd rs1 rs2 (shiftBy 2 fun a n => a.sshiftRight n))

/-- ROT (Table 3-5, R87). -/
def execRot (g : Fin 192) (t : Fin 4) (rd rs1 rs2 : Fin 32) (s : State) : Host.Outcome State Fault Refusal :=
  finish (s.alu g t rd rs1 rs2 (shiftBy 3 fun a n => if Config.rotLeft then a.rotateLeft n else a.rotateRight n))

/-- CMP (Table 3-5, R87). -/
def execCmp (g : Fin 192) (t : Fin 4) (rd rs1 rs2 : Fin 32) (s : State) : Host.Outcome State Fault Refusal :=
  finish (s.alu g t rd rs1 rs2 Config.cmp)

/-- MUL (Table 3-5, R87). -/
def execMul (g : Fin 192) (t : Fin 4) (rd rs1 rs2 : Fin 32) (s : State) : Host.Outcome State Fault Refusal :=
  finish (s.alu g t rd rs1 rs2 (· * ·))

/-- ADDI (Table 3-5, R87). -/
def execAddi (g : Fin 192) (t : Fin 4) (rd rs1 : Fin 32) (imm : BitVec 16) (s : State) :
    Host.Outcome State Fault Refusal :=
  finish (s.aluImm g t rd rs1 0 imm (· + ·))

/-- ANDI (Table 3-5, R87). -/
def execAndi (g : Fin 192) (t : Fin 4) (rd rs1 : Fin 32) (imm : BitVec 16) (s : State) :
    Host.Outcome State Fault Refusal :=
  finish (s.aluImm g t rd rs1 1 imm (· &&& ·))

/-- ORI (Table 3-5, R87). -/
def execOri (g : Fin 192) (t : Fin 4) (rd rs1 : Fin 32) (imm : BitVec 16) (s : State) :
    Host.Outcome State Fault Refusal :=
  finish (s.aluImm g t rd rs1 1 imm (· ||| ·))

/-- XORI (Table 3-5, R87). -/
def execXori (g : Fin 192) (t : Fin 4) (rd rs1 : Fin 32) (imm : BitVec 16) (s : State) :
    Host.Outcome State Fault Refusal :=
  finish (s.aluImm g t rd rs1 1 imm (· ^^^ ·))

/-- LUI (Table 3-5, R87). -/
def execLui (g : Fin 192) (t : Fin 4) (rd : Fin 32) (imm : BitVec 16) (s : State) : Host.Outcome State Fault Refusal :=
  finish (s.toE g t rd (Config.lui imm))

/-! ### Data memory and constants (R91, R471, R472, R478) -/

/-- The bytes at an address of an engine's data memory. -/
def State.dmemRead (s : State) (g a n : Nat) : List Byte := (List.range n).map fun i => (s.eng g).dmem.get (a + i) 0

/-- Bytes stored in an engine's data memory. -/
def State.dmemWrite (g a : Nat) (l : List Byte) (s : State) : State :=
  (s.forN l.length fun i s => s.onEng g fun e => { e with dmem := e.dmem.set (a + i) (l.getD i 0) 0 })

/-- A number from bytes in the order of data memory. -/
def dataNat (l : List Byte) : Nat := if Config.littleData then leNat l else beNat l

/-- Bytes of a number in the order of data memory. -/
def dataBytes (n v : Nat) : List Byte := if Config.littleData then leBytes n v else beBytes n v

/-- A loaded value of `n` bytes, extended. -/
def loadWord (n : Nat) (l : List Byte) : Word :=
  let v := dataNat l
  if Config.loadSigned && 2 ^ (8 * n - 1) ≤ v then BitVec.ofNat 64 (2 ^ 64 + v - 2 ^ (8 * n)) else BitVec.ofNat 64 v

/-- R91: the access lies in the thread's private area. -/
def inPrivate (t a n : Nat) : Bool := 0x2000 * t ≤ a && a + n ≤ 0x2000 * t + 0x2000

/-- R91: the access lies in the constants area. -/
def inConstants (a n : Nat) : Bool := 0x8000 ≤ a && a + n ≤ 0x10000

/-- The bank of a region that serves the engines' data. -/
def State.dataBank (s : State) (n : Nat) : Nat := (s.banksOf n 3).headD (12 * n + 7)

/-- An access to the data bank: it waits for a bank that is not ON (R478); an error of the bank ends the item with a data
fault (Table 14-3). `f` is the access itself. -/
def State.dataAccess (g t : Nat) (mem : MemEcc) (f : State → State) (s : State) : State :=
  let b := s.dataBank (g / 48)
  match s.bankState b with
  | 0 =>
    let s1 := s.bankEcc b mem
    match mem with
    | .uncorrectable _ => s1.progFault g t 4
    | _ => (f s1).nextPc g t
  | 2 => (s.bankAccess b).progFault g t 4
  | _ => s.bankAccess b

/-- LD (R91): a load of 8 × 2^size bits. -/
def execLd (g : Fin 192) (t : Fin 4) (size : Fin 4) (rd rs1 : Fin 32) (imm : BitVec 16) (mem : MemEcc) (s : State) :
    Host.Outcome State Fault Refusal :=
  let n := 2 ^ size.val
  let a := (s.ereg g t rs1 + immWord 2 imm).toNat
  finish (s.legal g t (eBad rd) fun s =>
    if inPrivate t a n || inConstants a n then
      s.dataAccess g t mem fun s => s.setEreg g t rd (loadWord n (s.dmemRead g a n))
    else s.progFault g t 2)

/-- ST (R91): a store of 8 × 2^size bits of the register in the rd field. -/
def execSt (g : Fin 192) (t : Fin 4) (size : Fin 4) (rd rs1 : Fin 32) (imm : BitVec 16) (mem : MemEcc) (s : State) :
    Host.Outcome State Fault Refusal :=
  let n := 2 ^ size.val
  let a := (s.ereg g t rs1 + immWord 2 imm).toNat
  finish (s.legal g t false fun s =>
    if inPrivate t a n then
      s.dataAccess g t mem fun s => s.dmemWrite g a (dataBytes n (s.ereg g t rd).toNat)
    else s.progFault g t 2)

/-- LDC (R91): a 64-bit load from the program's own code. -/
def execLdc (g : Fin 192) (t : Fin 4) (rd : Fin 32) (imm : BitVec 16) (s : State) : Host.Outcome State Fault Refusal :=
  let a := (Config.ldcAddr (BitVec.ofNat 64 (s.thr g t).pc) imm).toNat
  finish (s.legal g t (eBad rd) fun s =>
    match s.thrProg g t with
    | some p =>
      if a + 8 ≤ p.code.length then (s.setEreg g t rd (BitVec.ofNat 64 (dataNat ((p.code.drop a).take 8)))).nextPc g t
      else s.progFault g t 2
    | none => s.progFault g t 2)

/-! ### Control -/

/-- A jump by a signed number of instructions. -/
def State.jumpBy (g t : Nat) (off : Word) (s : State) : State :=
  s.onThr g t fun x =>
    { x with pc := (BitVec.ofNat 64 (x.pc + (if Config.branchFromNext then 4 else 0)) + off <<< 2).toNat }

/-- A branch (R87). -/
def State.branch (g t : Nat) (taken : Bool) (imm : BitVec 16) (s : State) : State :=
  if s.issues g t then (if taken then s.jumpBy g t (imm.signExtend 64) else s.nextPc g t) else s

/-- Less than, as BLT compares. -/
def wordLt (a b : Word) : Bool := if Config.branchSigned then BitVec.slt a b else BitVec.ult a b

/-- BEQ (R87): the operands are in the rd and rs1 fields. -/
def execBeq (g : Fin 192) (t : Fin 4) (rd rs1 : Fin 32) (imm : BitVec 16) (s : State) :
    Host.Outcome State Fault Refusal :=
  finish (s.branch g t (s.ereg g t rd == s.ereg g t rs1) imm)

/-- BNE (R87): the operands are in the rd and rs1 fields. -/
def execBne (g : Fin 192) (t : Fin 4) (rd rs1 : Fin 32) (imm : BitVec 16) (s : State) :
    Host.Outcome State Fault Refusal :=
  finish (s.branch g t (s.ereg g t rd != s.ereg g t rs1) imm)

/-- BLT (R87): the operands are in the rd and rs1 fields. -/
def execBlt (g : Fin 192) (t : Fin 4) (rd rs1 : Fin 32) (imm : BitVec 16) (s : State) :
    Host.Outcome State Fault Refusal :=
  finish (s.branch g t (wordLt (s.ereg g t rd) (s.ereg g t rs1)) imm)

/-- BGE (R87): the operands are in the rd and rs1 fields. -/
def execBge (g : Fin 192) (t : Fin 4) (rd rs1 : Fin 32) (imm : BitVec 16) (s : State) :
    Host.Outcome State Fault Refusal :=
  finish (s.branch g t (!wordLt (s.ereg g t rd) (s.ereg g t rs1)) imm)

/-- JAL (R87): a call with its link in e28. -/
def execJal (g : Fin 192) (t : Fin 4) (off : BitVec 26) (s : State) : Host.Outcome State Fault Refusal :=
  finish (s.legal g t false fun s =>
    (s.setEreg g t 28 (BitVec.ofNat 64 ((s.thr g t).pc + 4))).jumpBy g t (off.signExtend 64))

/-- JR (R87): a jump through a register. -/
def execJr (g : Fin 192) (t : Fin 4) (rs1 : Fin 32) (s : State) : Host.Outcome State Fault Refusal :=
  finish (s.legal g t false fun s => s.onThr g t fun x => { x with pc := (s.ereg g t rs1).toNat })

/-! ### The frame window (R91, R399) -/

/-- The frame window of a thread's work item. -/
def State.window (s : State) (g t : Nat) : List Byte := (s.thr g t).work.elim [] (·.window)

/-- Bytes stored in the frame window. -/
def State.putWindow (g t a : Nat) (l : List Byte) (s : State) : State :=
  s.onThr g t fun x => { x with work := x.work.map fun w =>
    { w with window := w.window.take a ++ l ++ w.window.drop (a + l.length) } }

/-- An access to the frame window: beyond the item it is a fault of cause 3, at a poisoned line of cause 4. -/
def State.windowAccess (g t a n : Nat) (poison : Bool) (f : State → State) (s : State) : State :=
  if (s.window g t).length < a + n then s.progFault g t 3
  else if poison then s.progFault g t 4 else (f s).nextPc g t

/-- A block from 16 bytes of the frame window. -/
def frameBlock (l : List Byte) : Block := BitVec.ofNat 128 (if Config.littleBlock then leNat l else beNat l)

/-- 16 bytes of the frame window from a block. -/
def frameBytes (b : Block) : List Byte := if Config.littleBlock then leBytes 16 b.toNat else beBytes 16 b.toNat

/-- FLD (R91): 8 bytes of the frame window into an e register. -/
def execFld (g : Fin 192) (t : Fin 4) (rd rs1 : Fin 32) (imm : BitVec 16) (poison : Bool) (s : State) :
    Host.Outcome State Fault Refusal :=
  let a := (s.ereg g t rs1 + immWord 2 imm).toNat
  finish (s.legal g t (eBad rd) fun s => s.windowAccess g t a 8 poison fun s =>
    s.setEreg g t rd (BitVec.ofNat 64 (dataNat (((s.window g t).drop a).take 8))))

/-- FST (R91): an e register into 8 bytes of the frame window. -/
def execFst (g : Fin 192) (t : Fin 4) (rd rs1 : Fin 32) (imm : BitVec 16) (poison : Bool) (s : State) :
    Host.Outcome State Fault Refusal :=
  let a := (s.ereg g t rs1 + immWord 2 imm).toNat
  finish (s.legal g t false fun s => s.windowAccess g t a 8 poison fun s =>
    s.putWindow g t a (dataBytes 8 (s.ereg g t rd).toNat))

/-- BLDF (R91): 16 bytes of the frame window into a block register. -/
def execBldf (g : Fin 192) (t : Fin 4) (bd rs1 : Fin 32) (imm : BitVec 16) (poison : Bool) (s : State) :
    Host.Outcome State Fault Refusal :=
  let a := (s.ereg g t rs1 + immWord 2 imm).toNat
  finish (s.legal g t (bBad bd) fun s => s.windowAccess g t a 16 poison fun s =>
    s.setBreg g t bd (frameBlock (((s.window g t).drop a).take 16)))

/-- BSTF (R91): a block register into 16 bytes of the frame window. -/
def execBstf (g : Fin 192) (t : Fin 4) (bd rs1 : Fin 32) (imm : BitVec 16) (poison : Bool) (s : State) :
    Host.Outcome State Fault Refusal :=
  let a := (s.ereg g t rs1 + immWord 2 imm).toNat
  finish (s.legal g t (bBad bd) fun s => s.windowAccess g t a 16 poison fun s =>
    s.putWindow g t a (frameBytes (s.breg g t bd)))

/-! ### Block instructions -/

/-- BXOR (Table 3-5, R87). -/
def execBxor (g : Fin 192) (t : Fin 4) (bd bs1 bs2 : Fin 32) (s : State) : Host.Outcome State Fault Refusal :=
  finish (s.toB g t bd (bBad bs1 || bBad bs2) (s.breg g t bs1 ^^^ s.breg g t bs2))

/-- BMOV (Table 3-5, R87). -/
def execBmov (g : Fin 192) (t : Fin 4) (bd bs1 : Fin 32) (s : State) : Host.Outcome State Fault Refusal :=
  finish (s.toB g t bd (bBad bs1) (s.breg g t bs1))

/-- BREV (Table 3-5, R87): byte reverse. -/
def execBrev (g : Fin 192) (t : Fin 4) (bd bs1 : Fin 32) (s : State) : Host.Outcome State Fault Refusal :=
  finish (s.toB g t bd (bBad bs1) (blockOf (blockBytes (s.breg g t bs1)).reverse))

/-- BINC32 (Table 3-5, R87): increment of bits [31:0] modulo 2^32. -/
def execBinc32 (g : Fin 192) (t : Fin 4) (bd bs1 : Fin 32) (s : State) : Host.Outcome State Fault Refusal :=
  finish (s.toB g t bd (bBad bs1) (binc32 (s.breg g t bs1)))

/-- BINS (Table 3-5, R87): an e register into a half of a block register. -/
def execBins (g : Fin 192) (t : Fin 4) (bd rs1 : Fin 32) (high : Bool) (s : State) : Host.Outcome State Fault Refusal :=
  let b := (s.breg g t bd).toNat
  let e := (s.ereg g t rs1).toNat
  finish (s.toB g t bd false (BitVec.ofNat 128 (if high then e * 2 ^ 64 + b % 2 ^ 64 else b / 2 ^ 64 * 2 ^ 64 + e)))

/-- BEXT (Table 3-5, R87): a half of a block register into an e register. -/
def execBext (g : Fin 192) (t : Fin 4) (rd bs1 : Fin 32) (high : Bool) (s : State) : Host.Outcome State Fault Refusal :=
  let b := (s.breg g t bs1).toNat
  finish (s.legal g t (eBad rd || bBad bs1) fun s =>
    (s.setEreg g t rd (BitVec.ofNat 64 (if high then b / 2 ^ 64 else b % 2 ^ 64))).nextPc g t)

/-! ### Keys and ciphers (R92 to R98) -/

/-- The key bound to a thread's work item. -/
def State.boundKey (s : State) (g t : Nat) : Option Nat := (s.thr g t).work.bind (·.key)


/-- R92, R513: the use of the bound key by a KLD, counted once in a work item. -/
def State.kldUse (g t kh : Nat) (s : State) : UseResult × State :=
  if (s.thr g t).work.any (·.used) then (if (s.usableKey? kh).isSome then .ok else .refused, s)
  else
    let (r, s1) := s.keyUse kh
    (r, if r == UseResult.ok then s1.onThr g t fun x => { x with work := x.work.map fun w => { w with used := true } } else s1)

/-- KLD (R92): the bound key into the in-service cores of a mask; a refusal by KST is a program fault, and a use that waits for
its checkpoint (R517) holds the thread. -/
def execKld (g : Fin 192) (t : Fin 4) (mask : BitVec 6) (s : State) : Host.Outcome State Fault Refusal :=
  finish (s.legal g t false fun s =>
    match s.boundKey g t with
    | none => s.progFault g t 6
    | some kh =>
      let (r, s1) := s.kldUse g t kh
      match r with
      | .refused => s1.progFault g t 6
      | .waits => s1
      | .ok =>
        let s2 := s1.forN 6 fun c s => if mask.getLsbD c && s.coreIn g c then s.loadCore g c kh else s
        ((s2.onThr g t fun x => { x with mask := mask.toNat }).pmcEvent 4 0x11 0 1).nextPc g t)

/-- KNONCE (R93): J0 in a form of Table 3-7; a form that the table does not list leaves a free value. -/
def execKnonce (g : Fin 192) (t : Fin 4) (bd : Fin 32) (form : Fin 16) (s : State) : Host.Outcome State Fault Refusal :=
  finish (s.legal g t (bBad bd) fun s =>
    match (s.thr g t).work with
    | some w =>
      if 1 ≤ form.val && form.val ≤ 3 then (s.setBreg g t bd (s.itemJ0 w form)).nextPc g t
      else
        let (a, s1) := s.draw
        let (b, s2) := s1.draw
        (s2.setBreg g t bd (BitVec.ofNat 128 (a.toNat * 2 ^ 64 + b.toNat))).nextPc g t
    | none => s.progFault g t 6)

/-- R95, R97: a core takes the block that a thread issues: a core of the thread's mask in service, or after a parity failure another
core. -/
def State.takesBlock (s : State) (g t core : Nat) : Bool :=
  match (s.thr g t).failed with
  | some f => s.reissues g core f
  | none => (s.thr g t).mask.testBit core && s.coreIn g core

/-- R95 to R97: one block through a core: a core that holds another key is loaded with the bound key first (R96), and a block whose
parity check fails is issued again on another core. -/
def State.cipher (g t bd bs1 core : Nat) (parity : Bool) (f : List Byte → Block → Block) (s : State) : State :=
  s.legal g t (bBad bd || bBad bs1) fun s =>
    match s.boundKey g t with
    | none => s.progFault g t 6
    | some kh =>
      if !s.takesBlock g t core then s
      else
        let s1 := if ((s.eng g).cores.get core {}).kh == some kh then s else s.loadCore g core kh
        if parity then (s1.onThr g t fun x => { x with failed := some core }).coreParity g core
        else
          let s2 := (s1.pmcEvent (g / 48) 7 0 1).setBreg g t bd (f ((s1.eng g).cores.get core {}).key (s.breg g t bs1))
          (s2.onThr g t fun x => { x with failed := none }).nextPc g t

/-- CENC (R95). -/
def execCenc (g : Fin 192) (t : Fin 4) (bd bs1 : Fin 32) (core : Fin 6) (parity : Bool) (s : State) :
    Host.Outcome State Fault Refusal :=
  finish (s.cipher g t bd bs1 core parity aesEncrypt)

/-- CDEC (R95). -/
def execCdec (g : Fin 192) (t : Fin 4) (bd bs1 : Fin 32) (core : Fin 6) (parity : Bool) (s : State) :
    Host.Outcome State Fault Refusal :=
  finish (s.cipher g t bd bs1 core parity aesDecrypt)

/-- GFMUL (Table 3-5, R90). -/
def execGfmul (g : Fin 192) (t : Fin 4) (bd bs1 bs2 : Fin 32) (s : State) : Host.Outcome State Fault Refusal :=
  finish (s.toB g t bd (bBad bs1 || bBad bs2) (gfMul (s.breg g t bs1) (s.breg g t bs2)))

/-- GFACC (Table 3-5, R90). -/
def execGfacc (g : Fin 192) (t : Fin 4) (bd bs1 bs2 : Fin 32) (s : State) : Host.Outcome State Fault Refusal :=
  finish (s.toB g t bd (bBad bs1 || bBad bs2) (gfMul (s.breg g t bd ^^^ s.breg g t bs1) (s.breg g t bs2)))

/-- The keystream-ahead slot that serves a thread (R113). -/
def State.thrSlot (s : State) (g t : Nat) : Option KsaSlot :=
  (s.thr g t).slot.bind fun x => (s.eng g).slots.find? fun y => y.port == x.1 && y.sa == x.2.1 && y.pn == x.2.2

/-- KSGET (R113): block i of the thread's slot, read from the slot or, where the slot does not hold it yet, computed as the thread's
own work; a thread without a slot stalls. -/
def execKsget (g : Fin 192) (t : Fin 4) (bd : Fin 32) (i : Fin 128) (s : State) : Host.Outcome State Fault Refusal :=
  finish (s.legal g t (bBad bd) fun s =>
    match (s.thrSlot g t).bind fun y => y.blocks[i.val]? <|> s.slotBlock y i with
    | some b => (s.setBreg g t bd b).nextPc g t
    | none => s)

/-- TAGCMP (R94): a block against 16 bytes of the frame window, into e5[15]. -/
def execTagcmp (g : Fin 192) (t : Fin 4) (bs1 : Fin 32) (off : BitVec 16) (s : State) : Host.Outcome State Fault Refusal :=
  finish (s.legal g t (bBad bs1) fun s => s.windowAccess g t off.toNat 16 false fun s =>
    let same := frameBlock (((s.window g t).drop off.toNat).take 16) == s.breg g t bs1
    s.setEreg g t 5 ((s.ereg g t 5).setBits 15 1 (natOfBool (same == Config.tagcmpEqual))))

/-! ### Work items -/

/-- WAIT (R82): the thread takes the next work item from its inbox, or stalls. `bad`: the descriptor at the front of the inbox
is uncorrectable (R399). A thread that holds an item keeps it. -/
def execWaitE (g : Fin 192) (t : Fin 4) (bad : Bool) (s : State) : Host.Outcome State Fault Refusal :=
  finish (s.legal g t false fun s =>
    if (s.thr g t).work.isSome then s
    else ((if bad then s.inboxLoss g t else s).takeItem g t).drainJobs (g / 48))

/-- FEND (R122): the work item ends with PASS or FAIL. -/
def execFend (g : Fin 192) (t : Fin 4) (pass : Bool) (s : State) : Host.Outcome State Fault Refusal :=
  finish (s.legal g t false fun s =>
    match (s.thr g t).work with
    | some w => ((s.threadDone g t).endItem (g / 48) w pass).nextPc g t
    | none => s.nextPc g t)

/-- R154: the early-released part of an item that is leaving. -/
def State.releaseLeaving (k cls num off : Nat) (s : State) : State :=
  match s.roGet k cls num with
  | some (.leaving port it) => s.roSet k cls num (.leaving port { it with released := max it.released (min off it.data.length) })
  | _ => s

/-- ERLS (R122): output up to an offset is released early, for an SA with EARLY_RELEASE = 1. -/
def execErls (g : Fin 192) (t : Fin 4) (off : BitVec 16) (s : State) : Host.Outcome State Fault Refusal :=
  finish (s.instr g t fun s =>
    match (s.thr g t).work with
    | some w =>
      if w.it.isRx && (w.it.sa.bind s.sa?).any (·.early) then
        let s1 := s.onThr g t fun x => { x with work := some { w with it := { w.it with released := max w.it.released off.toNat } } }
        s1.releaseLeaving (16 * (g / 48) + w.q) w.it.cls w.num off.toNat
      else s
    | none => s)

end Sys2Proof.Machine
end

