-- ==== Sys2Proof/Machine/Sideband.lean ====
section
/-!
DEFINITION. The side-band (R632 to R640) with its vendor command set, which the mailbox shares (R626), and the MCTP, PLDM and I3C
commands (Tables 20-1 and 20-2).
-/

namespace Sys2Proof.Machine

/-! ### The vendor command set (Tables 20-3 and 20-4) -/

/-- COMMAND of a request. -/
def vendorCode : VendorReq → Nat
  | .getIdentity => 0x01
  | .getHealth => 0x02
  | .getAlarms => 0x03
  | .readEventLog _ _ => 0x04
  | .readAoLog => 0x05
  | .getPm _ _ => 0x06
  | .ackAlert _ => 0x07
  | .take => 0x10
  | .release => 0x11
  | .setPower _ => 0x20
  | .deviceReset _ => 0x21
  | .powerCycle _ => 0x22
  | .selectSlot _ => 0x23
  | .zeroise _ => 0x24
  | .releaseHold => 0x25
  | .bad c => c.toNat

/-- BAD_CMD: unknown, an argument out of range or a wrong confirmation value. -/
def vendorBad : VendorReq → Bool
  | .readEventLog _ count => count == 0 || 64 < count.toNat
  | .getPm port bin => 32 ≤ port.toNat || 100 ≤ bin.toNat
  | .setPower p => p != 1 && p != 2
  | .deviceReset confirm => confirm != 0x44525354
  | .powerCycle confirm => confirm != 0x44525354
  | .selectSlot slot => 2 < slot.toNat
  | .zeroise confirm => confirm != 0x5A45524F
  | .bad _ => true
  | _ => false

/-- The Ownership column. -/
def vendorOwned : VendorReq → Bool
  | .release | .setPower _ | .deviceReset _ | .powerCycle _ | .selectSlot _ | .releaseHold => true
  | _ => false

/-- Commands that change state (R626). -/
def vendorChanges : VendorReq → Bool
  | .ackAlert _ | .take | .zeroise _ => true
  | r => vendorOwned r

/-- OWNER: the side-band must own the registers; through the mailbox the host or nobody (R626, R635). -/
def State.vendorDenied (s : State) (host : Bool) (r : VendorReq) : Bool :=
  if host then vendorChanges r && s.get GLB_OWNER.OWNER == 2 else vendorOwned r && s.get GLB_OWNER.OWNER != 2

/-- STANDBY or TAMPER_HOLD. -/
def State.heldOrStandby (s : State) : Bool := s.pwr.power != 3 || s.flag TMP_STATUS.HOLD

/-- STATE: GET_PM needs SERVICE without a hold, RELEASE_HOLD a hold. -/
def State.vendorState (s : State) : VendorReq → Bool
  | .getPm _ _ => s.heldOrStandby
  | .releaseHold => !s.flag TMP_STATUS.HOLD
  | _ => false

/-- REFUSED: a hold of cause CONDITION cannot be released (R639). -/
def State.vendorRefused (s : State) : VendorReq → Bool
  | .releaseHold => s.flag TMP_STATUS.HOLD && s.get TMP_STATUS.HOLD_CAUSE != 2
  | _ => false

/-- RESULT: the lowest code that applies. -/
def State.vendorResult (s : State) (host : Bool) (r : VendorReq) : Nat :=
  lowestCode [(vendorBad r, 1), (s.vendorDenied host r, 2), (s.vendorState r, 3), (s.vendorRefused r, 5)]

/-- The records of the event log from a SEQ on, oldest first (R545). -/
def State.eventLog (s : State) (first count : Nat) : List Word :=
  let at_ := s.nvj.logAt / 32
  let l := s.logRecords
  let recs := ((l.filter fun i => at_ ≤ i) ++ l.filter fun i => i < at_).map s.logRecord
  ((recs.filter fun x => first ≤ recSeq x).take count).flatMap fun x =>
    (List.range 4).map fun k => BitVec.ofNat 64 (fieldAt x (8 * k) 8)

/-- The records that the always-on log holds, oldest first (R598). -/
def State.aoLog (s : State) : List Word :=
  let n := s.get TMP_AOLOG_STATUS.COUNT
  (List.range n).flatMap fun i =>
    let j := (s.tmp.aoNext - n + i) % 16
    (List.range Reg.TMP_AOLOG.place.words).map fun w => s.word .TMP_AOLOG j w

/-- A bin of R268 with its SUSPECT mark (R269). -/
def PmBin.report (len : Nat) (b : PmBin) : List Word :=
  ([b.start] ++ b.sums ++ [b.es, b.ses, b.uas, natOfBool (b.bad || b.secs < len)]).map (BitVec.ofNat 64)

/-- The answer of GET_PM; a bin that the port does not hold reads empty and SUSPECT. -/
def State.pmAnswer (s : State) (p bin : Nat) : List Word :=
  let k := s.krwPort p
  let none24 : PmBin := { start := 0, tb := false, bad := true }
  if bin ≤ 96 then (k.bins15.getD bin none24).report 900
  else if bin ≤ 98 then (k.bins24.getD (bin - 97) none24).report 86400
  else (List.range 8).map fun w => s.word .KFR_PM_SNAP p w

/-- The data of a response whose RESULT is OK (Table 20-3). -/
def State.vendorData (s : State) : VendorReq → List Word
  | .getIdentity => [s.word .LCM_DEVICE_ID 0 0, s.word .LCM_STATE 0 0, Config.orderingCode, s.word .NVJ_BOOT 0 0]
  | .getHealth => [s.word .PWR_STATE 0 0, s.word .PWR_START_STATUS 0 0] ++ (List.range 4).map (fun n => s.word .GLB_REGION_STATUS n 0)
    ++ [s.word .TMP_TEMP 0 0, s.word .TMP_STATUS 0 0, s.word .MTL_PAIR_STATUS 0 0, s.word .GLB_OWNER 0 0]
  | .getAlarms => [s.word .TMP_ALARM 0 0, s.word .TMP_RAW 0 0]
    ++ (List.range 32).map fun p => if s.heldOrStandby then 0 else s.word .KFR_DEFECT p 0
  | .readEventLog first count => s.eventLog first.toNat count.toNat
  | .readAoLog => s.word .TMP_AOLOG_STATUS 0 0 :: s.aoLog
  | .getPm port bin => s.pmAnswer port.toNat bin.toNat
  | .take | .release => [s.word .GLB_OWNER 0 0]
  | .selectSlot _ => [s.word .NVJ_BOOT 0 0]
  | _ => []

/-- What a command does before its response. -/
def State.vendorAct (host : Bool) (s : State) : VendorReq → State
  | .ackAlert seq => ({ s with sb := { s.sb with ackSeq := some seq.toNat } }).alertUpdate
  | .take => if host then s.ownerTake else s.ownerRequest
  | .release => if host then s.ownerRelease else s.ownerTo 0
  | .selectSlot slot => s.set NVJ_BOOT.PIN 0 slot.toNat
  | .releaseHold => (s.set TMP_STATUS.TAMPER_STARTS 0 0).holdEnd
  | _ => s

/-- What a command does after its response (R637, R638). -/
def State.vendorAfter (wipeOk : Bool) (s : State) : VendorReq → State
  | .setPower p => if p == 1 then s.standbyBegin else s.when (s.pwr.power == 2) fun s => s.set PWR_STATE.MAIN_EN 0 1
  | .deviceReset _ => s.resetDevice
  | .powerCycle _ => s.cyclePower
  | .zeroise _ => s.declare [17] wipeOk
  | _ => s

/-- A vendor command: it is carried out before and after its answer is `sent`. -/
def State.vendorRun (host wipeOk : Bool) (r : VendorReq) (sent : Nat → List Word → State → State) (s : State) : State :=
  let res := s.vendorResult host r
  if res != 0 then sent res [] s
  else
    let s1 := s.vendorAct host r
    (sent 0 (s1.vendorData r) s1).vendorAfter wipeOk r

/-- An answer of the side-band. -/
def State.sbAnswer (a : SbAnswer) (s : State) : State := { s with sb := { s.sb with answers := s.sb.answers ++ [a] } }

/-- A vendor command over the side-band, which answers from STANDBY on. -/
def State.sbVendor (r : VendorReq) (wipeOk : Bool) (s : State) : State :=
  if s.pwr.power < 2 then s
  else s.vendorRun false wipeOk r fun res data s => (s.sbAnswer (.vendor (vendorCode r) res data)).inc SBM_STATUS.COMMANDS 0

/-- SB_GET_IDENTITY (R635). -/
def execSbGetIdentity (s : State) : Host.Outcome State Fault Refusal := finish (s.sbVendor .getIdentity true)

/-- SB_GET_HEALTH (R635). -/
def execSbGetHealth (s : State) : Host.Outcome State Fault Refusal := finish (s.sbVendor .getHealth true)

/-- SB_GET_ALARMS (R635). -/
def execSbGetAlarms (s : State) : Host.Outcome State Fault Refusal := finish (s.sbVendor .getAlarms true)

/-- SB_READ_EVENT_LOG (R545, R635). -/
def execSbReadEventLog (first : BitVec 64) (count : BitVec 8) (s : State) : Host.Outcome State Fault Refusal :=
  finish (s.sbVendor (.readEventLog first count) true)

/-- SB_READ_AO_LOG (R598, R635). -/
def execSbReadAoLog (s : State) : Host.Outcome State Fault Refusal := finish (s.sbVendor .readAoLog true)

/-- SB_GET_PM (R268, R269, R635). -/
def execSbGetPm (port bin : BitVec 8) (s : State) : Host.Outcome State Fault Refusal := finish (s.sbVendor (.getPm port bin) true)

/-- SB_ACK_ALERT (R635, R641). -/
def execSbAckAlert (seq : BitVec 64) (s : State) : Host.Outcome State Fault Refusal := finish (s.sbVendor (.ackAlert seq) true)

/-- SB_TAKE (R636). -/
def execSbTake (s : State) : Host.Outcome State Fault Refusal := finish (s.sbVendor .take true)

/-- SB_RELEASE (R636). -/
def execSbRelease (s : State) : Host.Outcome State Fault Refusal := finish (s.sbVendor .release true)

/-- SB_SET_POWER_STANDBY (R635, R645). -/
def execSbSetPowerStandby (s : State) : Host.Outcome State Fault Refusal := finish (s.sbVendor (.setPower 1) true)

/-- SB_SET_POWER_SERVICE (R635, R643). -/
def execSbSetPowerService (s : State) : Host.Outcome State Fault Refusal := finish (s.sbVendor (.setPower 2) true)

/-- SB_DEVICE_RESET (R637). -/
def execSbDeviceReset (confirm : BitVec 32) (s : State) : Host.Outcome State Fault Refusal :=
  finish (s.sbVendor (.deviceReset confirm) true)

/-- SB_POWER_CYCLE (R637). -/
def execSbPowerCycle (confirm : BitVec 32) (s : State) : Host.Outcome State Fault Refusal := finish (s.sbVendor (.powerCycle confirm) true)

/-- SB_SELECT_SLOT (R637). -/
def execSbSelectSlot (slot : BitVec 8) (s : State) : Host.Outcome State Fault Refusal := finish (s.sbVendor (.selectSlot slot) true)

/-- SB_ZEROISE (R638). -/
def execSbZeroise (confirm : BitVec 32) (wipeOk : Bool) (s : State) : Host.Outcome State Fault Refusal :=
  finish (s.sbVendor (.zeroise confirm) wipeOk)

/-- SB_RELEASE_HOLD (R639). -/
def execSbReleaseHold (s : State) : Host.Outcome State Fault Refusal := finish (s.sbVendor .releaseHold true)

/-! ### The mailbox's response (R626) -/

/-- The response is written, RSP_LEN, RESULT and DONE are set and the event is raised. -/
def State.mboxSent (code res : Nat) (data : List Word) (s : State) : State :=
  let len := 4 + if data.isEmpty then 0 else Config.vendorLen code data.length
  let s1 := ((s.set HIF_MBOX_CTRL.BUSY 0 0).set HIF_MBOX_CTRL.RSP_LEN 0 len).set HIF_MBOX_CTRL.RESULT 0 res
  ({ s1.set HIF_MBOX_CTRL.DONE 0 1 with hif := { s1.hif with mboxOut := s1.hif.mboxOut ++ [SbAnswer.vendor code res data] } }).raise 152 5

/-- MBOX_DONE (R626): `req` is what the MCU has read. -/
def execMboxDone (req : VendorReq) (wipeOk : Bool) (s : State) : Host.Outcome State Fault Refusal :=
  finish (if s.flag HIF_MBOX_CTRL.BUSY then s.vendorRun true wipeOk req (State.mboxSent (vendorCode req)) else s)

/-! ### MCTP control (R633, Table 20-2) -/

/-- An answer of a protocol of the side-band, which runs from STANDBY on. -/
def State.sbReply (s : State) (f : State → State) : State := if s.pwr.power < 2 then s else f s

/-- MCTP_SET_ENDPOINT_ID: 0x02 (invalid data) for an ID that no endpoint may hold. -/
def execMctpSetEndpointId (eid : BitVec 8) (s : State) : Host.Outcome State Fault Refusal :=
  finish (s.sbReply fun s =>
    if eid.toNat < 8 || eid == 0xFF then s.sbAnswer (.mctp 1 2 [])
    else { s with sb := { s.sb with eid := eid.toNat } }.sbAnswer (.mctp 1 0 [0, eid.toNat, 0]))

/-- MCTP_GET_ENDPOINT_ID. -/
def execMctpGetEndpointId (s : State) : Host.Outcome State Fault Refusal :=
  finish (s.sbReply fun s => s.sbAnswer (.mctp 2 0 [s.sb.eid, Config.mctpEndpointType.toNat]))

/-- The message types of Table 20-2. -/
def mctpTypes : List Nat := [0x00, 0x01, 0x05, 0x7E]

/-- MCTP_GET_VERSION_SUPPORT: 0xFF names the base specification; 0x80: the type is not supported. -/
def execMctpGetVersionSupport (typ : BitVec 8) (s : State) : Host.Outcome State Fault Refusal :=
  finish (s.sbReply fun s =>
    if mctpTypes.contains typ.toNat || typ == 0xFF then s.sbAnswer (.mctp 4 0 [(Config.mctpVersion typ.toNat).toNat])
    else s.sbAnswer (.mctp 4 0x80 []))

/-- MCTP_GET_MESSAGE_TYPE_SUPPORT. -/
def execMctpGetMessageTypeSupport (s : State) : Host.Outcome State Fault Refusal :=
  finish (s.sbReply fun s => s.sbAnswer (.mctp 5 0 mctpTypes))

/-- MCTP_GET_VENDOR_MSG_SUPPORT: one set, of the Oroas Vendor ID. -/
def execMctpGetVendorMsgSupport (selector : BitVec 8) (s : State) : Host.Outcome State Fault Refusal :=
  finish (s.sbReply fun s =>
    if selector == 0 then s.sbAnswer (.mctp 6 0 [0xFF, 0, Config.vendorId.toNat]) else s.sbAnswer (.mctp 6 2 []))

/-! ### PLDM (R633, R634) -/

/-- PLDM_GETTID. -/
def execPldmGettid (s : State) : Host.Outcome State Fault Refusal :=
  finish (s.sbReply fun s => s.sbAnswer (.pldm 0 2 0 [Config.pldmTid.toNat]))

/-- The commands of a PLDM type; none for a type that is not supported. -/
def pldmCommands (typ : Nat) : Option (List Nat) :=
  match typ with
  | 0 => some [2, 3, 4, 5]
  | 2 => some [0x11, 0x51]
  | _ => none

/-- PLDM_GETPLDMVERSION: 0x83 for a type that is not supported. -/
def execPldmGetpldmversion (typ : BitVec 8) (s : State) : Host.Outcome State Fault Refusal :=
  finish (s.sbReply fun s =>
    if (pldmCommands typ.toNat).isSome then s.sbAnswer (.pldm 0 3 0 [(Config.pldmVersion typ.toNat).toNat])
    else s.sbAnswer (.pldm 0 3 0x83 []))

/-- PLDM_GETPLDMTYPES. -/
def execPldmGetpldmtypes (s : State) : Host.Outcome State Fault Refusal :=
  finish (s.sbReply fun s => s.sbAnswer (.pldm 0 4 0 [0, 2]))

/-- PLDM_GETPLDMCOMMANDS. -/
def execPldmGetpldmcommands (typ : BitVec 8) (s : State) : Host.Outcome State Fault Refusal :=
  finish (s.sbReply fun s => match pldmCommands typ.toNat with
    | some l => s.sbAnswer (.pldm 0 5 0 l)
    | none => s.sbAnswer (.pldm 0 5 0x83 []))

/-- The reading of a sensor of R634; in STANDBY only TEMP1 and the rail of VDD_AUX are read. -/
def State.sensorValue (s : State) (i : Nat) : Option Int :=
  if s.pwr.power != 3 && i != 1 && i != 7 then none
  else if i == 0 then some (signed8 (s.get TMP_TEMP.TEMP0))
  else if i == 1 then some (signed8 (s.get TMP_TEMP.TEMP1))
  else if i ≤ 7 then some (s.get (voltField (i - 2)))
  else some (s.get PWR_EST.POWER)

/-- PLDM_GETPDR: 0x82 for a record that does not exist. -/
def execPldmGetpdr (handle : BitVec 32) (s : State) : Host.Outcome State Fault Refusal :=
  finish (s.sbReply fun s => match (List.range 9).find? fun i => Config.sensorRecord i == handle || (i == 0 && handle == 0) with
    | some i => s.sbAnswer (.pdr i)
    | none => s.sbAnswer (.pldm 2 0x51 0x82 []))

/-- PLDM_GETSENSORREADING (R634): 0x80 for a sensor that does not exist. -/
def execPldmGetsensorreading (sensor : BitVec 16) (s : State) : Host.Outcome State Fault Refusal :=
  finish (s.sbReply fun s => match (List.range 9).find? fun i => Config.sensorId i == sensor with
    | some i => s.sbAnswer (.reading i (s.sensorValue i))
    | none => s.sbAnswer (.pldm 2 0x11 0x80 []))

/-! ### I3C (R632, Table 20-1) -/

/-- I3C mode, in which the SBM answers common command codes. -/
def State.i3cMode (s : State) : Bool := 2 ≤ s.pwr.power && s.get SBM_STATUS.MODE == 1

/-- A dynamic address is assigned: I3C mode. -/
def State.i3cAssign (addr : Nat) (s : State) : State := (s.set SBM_STATUS.MODE 0 1).set SBM_STATUS.DYN_ADDR 0 addr

/-- The SBM has no dynamic address yet. -/
def State.i3cUnassigned (s : State) : Bool := 2 ≤ s.pwr.power && s.get SBM_STATUS.MODE == 0

/-- I3C_ENTDAA. -/
def execI3cEntdaa (addr : BitVec 7) (s : State) : Host.Outcome State Fault Refusal :=
  finish (s.when s.i3cUnassigned fun s => s.i3cAssign addr.toNat)

/-- I3C_SETDASA: a command to the static address of the SBM. -/
def execI3cSetdasa (static addr : BitVec 7) (s : State) : Host.Outcome State Fault Refusal :=
  finish (s.when (s.i3cUnassigned && s.get SBM_STATUS.STATIC_ADDR == static.toNat) fun s => s.i3cAssign addr.toNat)

/-- I3C_SETAASA: the static address becomes the dynamic address. -/
def execI3cSetaasa (s : State) : Host.Outcome State Fault Refusal :=
  finish (s.when s.i3cUnassigned fun s => s.i3cAssign (s.get SBM_STATUS.STATIC_ADDR))

/-- I3C_SETNEWDA. -/
def execI3cSetnewda (addr : BitVec 7) (s : State) : Host.Outcome State Fault Refusal :=
  finish (s.when s.i3cMode fun s => s.i3cAssign addr.toNat)

/-- I3C_RSTDAA: back to the SMBus-compatible mode. -/
def execI3cRstdaa (s : State) : Host.Outcome State Fault Refusal :=
  finish (s.when (2 ≤ s.pwr.power) fun s => (s.set SBM_STATUS.MODE 0 0).set SBM_STATUS.DYN_ADDR 0 0)

/-- A read of I3C mode. -/
def State.cccRead (code value : Nat) (s : State) : State := s.when s.i3cMode fun s => s.sbAnswer (.ccc code value)

/-- I3C_GETPID. -/
def execI3cGetpid (s : State) : Host.Outcome State Fault Refusal := finish (s.cccRead 0x8D Config.i3cPid.toNat)

/-- I3C_GETBCR. -/
def execI3cGetbcr (s : State) : Host.Outcome State Fault Refusal := finish (s.cccRead 0x8E Config.i3cBcr.toNat)

/-- I3C_GETDCR. -/
def execI3cGetdcr (s : State) : Host.Outcome State Fault Refusal := finish (s.cccRead 0x8F Config.i3cDcr.toNat)

/-- I3C_GETSTATUS: the status is a free value. -/
def execI3cGetstatus (s : State) : Host.Outcome State Fault Refusal :=
  finish (s.when s.i3cMode fun s => let x := s.draw; x.2.cccRead 0x90 (x.1.toNat % 65536))

/-- I3C_GETMWL. -/
def execI3cGetmwl (s : State) : Host.Outcome State Fault Refusal := finish (s.cccRead 0x8B s.sb.mwl)

/-- I3C_SETMWL. -/
def execI3cSetmwl (len : BitVec 16) (s : State) : Host.Outcome State Fault Refusal :=
  finish (s.when s.i3cMode fun s => { s with sb := { s.sb with mwl := len.toNat } })

/-- I3C_GETMRL. -/
def execI3cGetmrl (s : State) : Host.Outcome State Fault Refusal := finish (s.cccRead 0x8C s.sb.mrl)

/-- I3C_SETMRL. -/
def execI3cSetmrl (len : BitVec 16) (s : State) : Host.Outcome State Fault Refusal :=
  finish (s.when s.i3cMode fun s => { s with sb := { s.sb with mrl := len.toNat } })

/-- I3C_ENEC: bit 0 enables the in-band interrupt (R641). -/
def execI3cEnec (events : BitVec 8) (s : State) : Host.Outcome State Fault Refusal :=
  finish (s.when (s.i3cMode && events.getLsbD 0) fun s => { s with sb := { s.sb with ibi := true } })

/-- I3C_DISEC. -/
def execI3cDisec (events : BitVec 8) (s : State) : Host.Outcome State Fault Refusal :=
  finish (s.when (s.i3cMode && events.getLsbD 0) fun s => { s with sb := { s.sb with ibi := false } })

/-- SB_BUS_TIMEOUT (R685): the message in progress ends; commands arrive whole here, so mode, address and everything else stay. -/
def execSbBusTimeout (s : State) : Host.Outcome State Fault Refusal := finish s

end Sys2Proof.Machine
end

