-- ==== Sys2Proof/Machine/Spdm.lean ====
section
/-!
DEFINITION. SPDM (R627, R628): the identity key, the seven requests of version 1.2 and the measurements of Table 19-13. The layouts
of the messages are those of DSP0274 (PRESUMED, notes/assumptions/71.md).
-/

namespace Sys2Proof.Machine

/-! ### The identity key (R628) -/

/-- The identity private key, while a state root exists. -/
def State.idKey (s : State) : Option Nat :=
  s.lcm.stateRoot.map fun root => beNat (kdf root (ascii "OBN-SPDM") [] 448) % (p384N - 1) + 1

/-- The public key x ‖ y, none in BLANK and END. -/
def State.idPublic (s : State) : Option (List Byte) := s.idKey.map p384Public

/-- `HIF_IDKEY` shows the public key. -/
def State.idKeyLoad (s : State) : State :=
  let k := s.idPublic.getD []
  s.forN 12 fun i s => s.set HIF_IDKEY.KEY i (beNat ((k.drop (8 * i)).take 8))

/-! ### Conversations -/

/-- The conversation over DOE, or over MCTP. -/
def State.conn (s : State) (mctp : Bool) : SpdmConn := if mctp then s.sb.spdm else s.hif.doe

/-- A conversation replaced. -/
def State.setConn (mctp : Bool) (c : SpdmConn) (s : State) : State :=
  if mctp then { s with sb := { s.sb with spdm := c } } else { s with hif := { s.hif with doe := c } }

/-- An SPDM ERROR message. -/
def spdmError (code : Nat) : List Byte := [0x12, 0x7F, BitVec.ofNat 8 code, 0]

/-- A response is sent, and the conversation moves on. -/
def State.spdmSend (mctp : Bool) (rsp : List Byte) (upd : SpdmConn → SpdmConn) (s : State) : State :=
  let c := upd (s.conn mctp)
  s.setConn mctp { c with out := c.out ++ [rsp] }

/-- An ERROR is sent: 0x01 InvalidRequest, 0x04 UnexpectedRequest, 0x05 Unspecified, 0x41 VersionMismatch. -/
def State.spdmFail (mctp : Bool) (code : Nat) (s : State) : State := s.spdmSend mctp (spdmError code) id

/-- The checks that every request after GET_CAPABILITIES passes before its own effect: a length, version 1.2, an identity key and its
place in the conversation. -/
def State.spdmChecked (mctp : Bool) (req : List Byte) (len stage : Nat) (run : State → State) (s : State) : State :=
  if s.idKey.isNone then s.spdmFail mctp 5
  else if req.length < len then s.spdmFail mctp 1
  else if req.headD 0 != 0x12 then s.spdmFail mctp 0x41
  else if (s.conn mctp).stage < stage then s.spdmFail mctp 4
  else run s

/-- GET_VERSION: the conversation begins anew. -/
def State.spdmVersion (mctp : Bool) (req : List Byte) (s : State) : State :=
  let rsp : List Byte := [0x10, 0x04, 0, 0, 0, 1, 0x00, 0x12]
  if req.length < 4 then s.spdmFail mctp 1
  else s.spdmSend mctp rsp fun c => { stage := 1, a := req ++ rsp, out := c.out }

/-- GET_CAPABILITIES: CHAL_CAP, MEAS_CAP with signature and PUB_KEY_ID_CAP. -/
def State.spdmCapabilities (mctp : Bool) (req : List Byte) (s : State) : State :=
  let rsp : List Byte := [0x12, 0x61, 0, 0, 0, Config.spdmCtExponent, 0, 0] ++ leBytes 4 0x10014
    ++ leBytes 4 Config.spdmTransfer.toNat ++ leBytes 4 Config.spdmMaxMsg.toNat
  if req.length < 12 then s.spdmFail mctp 1
  else if req.headD 0 != 0x12 then s.spdmFail mctp 0x41
  else if (s.conn mctp).stage != 1 then s.spdmFail mctp 4
  else s.spdmSend mctp rsp fun c => { c with stage := 2, a := c.a ++ req ++ rsp }

/-- The bit of an algorithm that the request offers. -/
def offered (req : List Byte) (a bit : Nat) : Nat := if (leNat ((req.drop a).take 4)).testBit bit then 2 ^ bit else 0

/-- NEGOTIATE_ALGORITHMS: ECDSA P-384 and SHA-384, where the request offers them. -/
def State.spdmAlgorithms (mctp : Bool) (req : List Byte) (s : State) : State :=
  let rsp : List Byte := [0x12, 0x63, 0, 0] ++ leBytes 2 36 ++ [1, 0] ++ leBytes 4 4 ++ leBytes 4 (offered req 8 7)
    ++ leBytes 4 (offered req 12 1) ++ List.replicate 16 0
  s.spdmChecked mctp req 32 2 (fun s =>
    if (s.conn mctp).stage != 2 then s.spdmFail mctp 4
    else s.spdmSend mctp rsp fun c => { c with stage := 3, a := c.a ++ req ++ rsp })

/-- GET_DIGESTS: no certificate slot holds a chain. -/
def State.spdmDigests (mctp : Bool) (req : List Byte) (s : State) : State :=
  let rsp : List Byte := [0x12, 0x01, 0, 0]
  s.spdmChecked mctp req 4 3 fun s => s.spdmSend mctp rsp fun c => { c with b := c.b ++ req ++ rsp, l := [] }

/-- GET_CERTIFICATE: there is no slot to read from. -/
def State.spdmCertificate (mctp : Bool) (req : List Byte) (s : State) : State :=
  s.spdmChecked mctp req 8 3 fun s => s.spdmFail mctp 1

/-! ### Measurements (Table 19-13) -/

/-- The octets of a 64-bit value in a measurement. -/
def measWord (v : Nat) : List Byte := if Config.measLittle then leBytes 8 v else beBytes 8 v

/-- The value of a measurement. -/
def State.measurement (s : State) (i : Nat) : List Byte :=
  match i with
  | 1 => beBytes 48 Config.romHash.toNat
  | 2 => match s.nvj.loaded with
    | none => []
    | some slot =>
      let h := s.rd (slotBase slot) 256
      sha384 (s.rd (slotBase slot) (fieldAt h 16 4)) ++ measWord (fieldAt h 8 8)
  | 3 => measWord (s.word .LCM_STATE 0 0).toNat ++ measWord (s.get LCM_DEVICE_ID.DEVICE_ID) ++ measWord (s.get NVJ_BOOT.LOADED)
  | _ => measWord (s.word .TMP_RESP 0 0).toNat
    ++ measWord (Config.measLock (s.get TMP_CTRL.LOCK) (s.get NVJ_JCTRL.BSK_MODE)).toNat

/-- A measurement block. -/
def State.measBlock (s : State) (i : Nat) : List Byte :=
  let v := s.measurement i
  [BitVec.ofNat 8 i, 1] ++ leBytes 2 (v.length + 3) ++ [Config.measType i] ++ leBytes 2 v.length ++ v

/-- Every measurement block, in the order of the indices. -/
def State.measAll (s : State) : List Byte := [1, 2, 3, 4].flatMap s.measBlock

/-! ### Signatures -/

/-- A signature over a transcript in the context of a version 1.2 response, with a nonce that is drawn. -/
def State.spdmSign (d : Nat) (context : String) (msg : List Byte) (s : State) : List Byte × State :=
  let prefix4 := (List.replicate 4 (ascii "dmtf-spdm-v1.2.*")).flatten
  let pad := List.replicate (36 - context.length) (0 : Byte)
  let x := s.drbg 48
  (ecdsaSign d (beNat x.1) (sha384 (prefix4 ++ pad ++ ascii context ++ sha384 msg)), x.2)

/-- CHALLENGE: signed over the conversation since GET_VERSION; slot 0xFF is the public key that the requester knows. -/
def State.spdmChallenge (mctp : Bool) (req : List Byte) (s : State) : State :=
  s.spdmChecked mctp req 36 3 fun s =>
    let typ := (req.getD 3 0).toNat
    match s.idKey with
    | none => s
    | some d =>
      if req.getD 2 0 != 0xFF || !(typ == 0 || typ == 1 || typ == 0xFF) then s.spdmFail mctp 1
      else if s.drbgRefuses then s.spdmFail mctp 5
      else
        let nonce := s.drbg 32
        let sum := if typ == 0 then [] else if typ == 1 then sha384 (s.measBlock 1 ++ s.measBlock 2) else sha384 s.measAll
        let body : List Byte := [0x12, 0x03, 0x0F, 0] ++ sha384 (p384Public d) ++ nonce.1 ++ sum ++ [0, 0]
        let c := s.conn mctp
        let sig := nonce.2.spdmSign d "responder-challenge_auth signing" (c.a ++ c.b ++ req ++ body)
        sig.2.spdmSend mctp (body ++ sig.1) fun c => { c with b := [], l := [] }

/-- The measurement record that a GET_MEASUREMENTS names, and its number of blocks; none for an index that does not exist. -/
def State.measRecord (s : State) (op : Nat) : Option (Nat × List Byte) :=
  if op == 0 then some (0, []) else if op == 0xFF then some (4, s.measAll)
  else if op ≤ 4 then some (1, s.measBlock op) else none

/-- GET_MEASUREMENTS: signed when the request asks for it, over the requests for measurements since the last signature. -/
def State.spdmMeasurements (mctp : Bool) (req : List Byte) (s : State) : State :=
  let signed := (req.getD 2 0).getLsbD 0
  s.spdmChecked mctp req (if signed then 37 else 4) 3 fun s =>
    let op := (req.getD 3 0).toNat
    match s.idKey, s.measRecord op with
    | some d, some (n, r) =>
      if s.drbgRefuses then s.spdmFail mctp 5
      else if signed && req.getD 36 0 != 0x0F then s.spdmFail mctp 1
      else
        let nonce := s.drbg 32
        let body : List Byte := [0x12, 0x60, if op == 0 then 4 else 0, if signed then 0x0F else 0, BitVec.ofNat 8 n]
          ++ leBytes 3 r.length ++ r ++ nonce.1 ++ [0, 0]
        let c := s.conn mctp
        let l := (if c.l.isEmpty then c.a else c.l) ++ req ++ body
        if signed then
          let sig := nonce.2.spdmSign d "responder-measurements signing" l
          sig.2.spdmSend mctp (body ++ sig.1) fun c => { c with b := [], l := [] }
        else nonce.2.spdmSend mctp body fun c => { c with b := [], l := l }
    | _, _ => s.spdmFail mctp 1

/-! ### The commands; `mctp` over the side-band, else over DOE -/

/-- The side-band answers from STANDBY on. -/
def State.spdmServe (mctp : Bool) (f : State → State) (s : State) : State := if mctp && s.pwr.power < 2 then s else f s

/-- SPDM_GET_VERSION (R627). -/
def execSpdmGetVersion (mctp : Bool) (req : List Byte) (s : State) : Host.Outcome State Fault Refusal :=
  finish (s.spdmServe mctp fun s => s.spdmVersion mctp req)

/-- SPDM_GET_CAPABILITIES (R627). -/
def execSpdmGetCapabilities (mctp : Bool) (req : List Byte) (s : State) : Host.Outcome State Fault Refusal :=
  finish (s.spdmServe mctp fun s => s.spdmCapabilities mctp req)

/-- SPDM_NEGOTIATE_ALGORITHMS (R627, R628). -/
def execSpdmNegotiateAlgorithms (mctp : Bool) (req : List Byte) (s : State) : Host.Outcome State Fault Refusal :=
  finish (s.spdmServe mctp fun s => s.spdmAlgorithms mctp req)

/-- SPDM_GET_DIGESTS (R627, R628). -/
def execSpdmGetDigests (mctp : Bool) (req : List Byte) (s : State) : Host.Outcome State Fault Refusal :=
  finish (s.spdmServe mctp fun s => s.spdmDigests mctp req)

/-- SPDM_GET_CERTIFICATE (R627, R628). -/
def execSpdmGetCertificate (mctp : Bool) (req : List Byte) (s : State) : Host.Outcome State Fault Refusal :=
  finish (s.spdmServe mctp fun s => s.spdmCertificate mctp req)

/-- SPDM_CHALLENGE (R628). -/
def execSpdmChallenge (mctp : Bool) (req : List Byte) (s : State) : Host.Outcome State Fault Refusal :=
  finish (s.spdmServe mctp fun s => s.spdmChallenge mctp req)

/-- SPDM_GET_MEASUREMENTS (R628, Table 19-13). -/
def execSpdmGetMeasurements (mctp : Bool) (req : List Byte) (s : State) : Host.Outcome State Fault Refusal :=
  finish (s.spdmServe mctp fun s => s.spdmMeasurements mctp req)

end Sys2Proof.Machine
end

