-- ==== Sys2Proof/Machine/Startup.lean ====
section
/-!
DEFINITION. Start-up (R648 to R655): the ten steps of Table 21-3 with the failure paths of Table 21-4.
-/

namespace Sys2Proof.Machine

/-! ### The sequence -/

/-- The step in progress. -/
def State.startStep (s : State) : Nat := s.get PWR_START_STATUS.STEP

/-- R648: step `i` ends: its time is recorded, and the next step begins. A TAMPER_HOLD that a device reset has left in force holds
start-up at step 3 (R593), with the cause of Table 21-4. -/
def State.stepNext (i : Nat) (s : State) : State :=
  let s1 := (s.set PWR_STEP_END.MS (i - 1) s.elapsedMs).when (i < 10) fun s => s.set PWR_START_STATUS.STEP 0 (i + 1)
  s1.when (i == 2 && s1.flag TMP_STATUS.HOLD) fun s => s.set PWR_START_STATUS.CAUSE 0 3

/-! ### Steps 1 to 3 -/

/-- Step 1: every power domain is ON, VDD_CORE at its setpoint or, without an answer of the regulator, at 0.80 V (R679); the boot ROM
is entered (R590). -/
def State.stepSupplies (pll avs : Bool) (s : State) : State :=
  let s1 := (s.set GLB_AVS.SETPOINT 0 s.lcm.setpoint).set GLB_AVS.FAIL 0 (natOfBool !avs)
  let s2 := s1.set GLB_AVS.APPLIED 0 (if avs then s.lcm.setpoint else 800)
  if !pll then s2.startStop 1
  else
    let s3 := s2.forN 374 fun d s => (s.set PWR_DOM.EN d 1).set PWR_DOM.STATE d 1
    ({ s3 with pwr := { s3.pwr with waking := [] } }).inc TMP_STATUS.STARTS 0 |>.stepNext 1

/-- Step 3: R594, then R591 and R592, then R599. -/
def State.stepSelfCheck (present : Nat) (missed wipeOk : Bool) (s : State) : State :=
  let s1 := (s.set TMP_RAW.COND 0 present).when missed fun s => s.declare [14] wipeOk
  if s1.tmp.resp != 0 then s1
  else if 8 ≤ s1.get TMP_STATUS.TAMPER_STARTS then s1.holdBegin 2
  else if !s1.holdConditions.isEmpty then s1.holdBegin 1
  else (s1.when (s1.tmp.bsk.isNone && s1.aoErased) fun s => (s.set TMP_STATUS.TAMPER_RECORDED 0 1).alertUpdate).stepNext 3

/-! ### Step 4: the one-time array (R487, R488, R655) -/

/-- The root is selected, the identity key derived. -/
def State.rootsEnd (s : State) : State :=
  let s1 := s.rootsLoad
  if s1.flag LCM_STATE.ROOT_FAIL then s1.startStop 4 else s1.idKeyLoad.stepNext 4

/-- Step 4: in BLANK a root is generated first, unless one is valid already. -/
def State.stepRoots (okA okB : Bool) (s : State) : State :=
  let s1 := s.lcShow
  if s1.lcState == 4 then s1.startStop 5
  else if s1.lcState != 0 then s1.rootsEnd
  else if s1.deviceRoot.isSome then (({ s1 with lcm := { s1.lcm with lcBits := s1.lcm.lcBits ||| 1 } }).lcShow).rootsEnd
  else if s1.flag KST_CTRL.DRBG_FAIL then s1.startStop 9
  else if s1.drbgRefuses then s
  else
    let s2 := s1.rootGenerate okA okB
    if s2.deviceRoot.isNone then s2.startStop 6 else s2.rootsEnd

/-! ### Step 5: the configuration image (R528 to R531) -/

/-- What the application of an image has come to: the state, and whether everything was accepted. -/
abbrev Applied := State × Bool

/-- One register write record, written by the MCU (R529). -/
def applyRecord (policy : Bool) (x : Applied) (r : Nat × Nat × Bool) : Applied :=
  if x.2 && r.2.2 && recordTarget policy r.1 then x.1.busWrite .mcu r.1 (BitVec.ofNat 64 r.2.1) 0xFFFFFFFFFFFFFFFF else (x.1, false)

/-- A section of register write records. -/
def applyRecords (policy : Bool) (l : List Byte) (x : Applied) : Applied :=
  (recordsOf (l.length / 16) l).foldl (applyRecord policy) x

/-- LAYOUT: the masters of the banks (R469) and the partition of the stacks (R440). -/
def State.applyLayout (l : List Byte) (s : State) : State :=
  let s1 := s.forN 52 fun b s => s.bankSet SRB_BANK.MASTER SRB_CHIP_BANK.MASTER b (fieldAt l b 1)
  s1.forN 8 fun st s =>
    let u := fun k => fieldAt l (64 + 4 * st + k) 1
    (((s.set DMC_PART.STATE_U st (u 0)).set DMC_PART.MARROW_U st (u 1)).set DMC_PART.REORDER_U st (u 2)).set DMC_PART.LET_U st (u 3)

/-- UCODE and MPROG enter code set 0 of every region. -/
def State.applyCode (ucode : Option (List Byte)) (progs : List (Nat × List Byte)) (s : State) : State :=
  s.forN 4 fun n s =>
    let s1 := match ucode with
      | some img => { s with fen := { s.fen with ucode := s.fen.ucode.set (2 * n) (some (mpProgram img)) none } }
      | none => s
    s1.forL progs fun x s => s.putProg (128 * n + x.1) (some (mpProgram x.2))

/-- One table record: an INSERT through the MCU port, which must end OK. -/
def applyTable (x : Applied) (l : List Byte) : Applied :=
  let n := fieldAt l 0 1
  if !x.2 || 4 ≤ n then (x.1, false)
  else
    let word := fun i => BitVec.ofNat 64 (leNat ((l.drop (8 + 8 * i)).take 8))
    let s1 := x.1.forN 8 fun i s => s.setWord .TBL_DATA (8 * tblIdx n .mcu + i) 0 (word i)
    let s2 := s1.tblCommand n .mcu 1 (fieldAt l 1 1) (fieldAt l 4 4) false
    match s2.tblPort n .mcu with
    | .executed c inOvf loc gen data mir => (s2.tblEnd n .mcu c inOvf loc gen data mir, c == 0)
    | _ => (s2, false)

/-- The table records of a TABLE section. -/
def tableRecords : Nat → List Byte → List (List Byte)
  | 0, _ => []
  | n + 1, l => l.take 72 :: tableRecords n (l.drop 72)

/-- R529: the image of a slot is applied, in section order. -/
def State.applyImage (slot : Nat) (s : State) : Applied :=
  let sec := fun t => (s.section? slot t).getD []
  let x1 := applyRecords false (sec 2) (s.applyLayout (sec 1), true)
  let x2 := applyRecords false (sec 8) (applyRecords true (sec 3) x1)
  if !x2.2 then x2
  else
    let s3 := x2.1.applyCode (s.section? slot 5) ((s.imgMprogs slot).getD [])
    (tableRecords ((sec 4).length / 72) (sec 4)).foldl applyTable (s3, true)

/-- BAD of a slot. -/
def badField (slot : Nat) : Field := if slot == 0 then NVJ_BOOT.BAD_A else NVJ_BOOT.BAD_B

/-- RES of a slot. -/
def resField (slot : Nat) : Field := if slot == 0 then NVJ_BOOT.RES_A else NVJ_BOOT.RES_B

/-- R531: a slot's header passes checks 2 and 3 and its BAD bit is 0. -/
def State.slotEligible (s : State) (slot : Nat) : Bool :=
  headerResult (s.rd (slotBase slot) 256) == 0 && !s.flag (badField slot)

/-- SEQ of the image in a slot. -/
def State.slotSeq (s : State) (slot : Nat) : Nat := fieldAt (s.rd (slotBase slot) 256) 8 8

/-- R531: the first slot to try. -/
def State.firstSlot (s : State) : Option Nat :=
  match s.get NVJ_BOOT.PIN with
  | 1 => some 0
  | 2 => some 1
  | _ => match s.slotEligible 0, s.slotEligible 1 with
    | true, true => some (if s.slotSeq 0 < s.slotSeq 1 then 1 else 0)
    | true, false => some 0
    | false, true => some 1
    | false, false => none

/-- A slot is tried: its result shows, and it is chosen when it verifies and is not BAD. -/
def State.trySlot (slot : Nat) (readOk : Bool) (s : State) : Bool × State :=
  let r := s.imgResult slot readOk
  (r == 0 && !s.flag (badField slot), s.set (resField slot) 0 r)

/-- R531: the slot that is loaded. -/
def State.chooseSlot (readA readB : Bool) (s : State) : Option Nat × State :=
  let ok := fun slot => if slot == 0 then readA else readB
  match s.firstSlot with
  | none => (none, (s.set NVJ_BOOT.RES_A 0 (s.imgResult 0 readA)).set NVJ_BOOT.RES_B 0 (s.imgResult 1 readB))
  | some a =>
    let x := (s.set NVJ_BOOT.PIN 0 0).trySlot a (ok a)
    if x.1 then (some a, x.2)
    else
      let y := (x.2.set NVJ_BOOT.FALLBACK 0 1).trySlot (1 - a) (ok (1 - a))
      (if y.1 then some (1 - a) else none, y.2)

/-- Step 5. -/
def State.stepImage (readA readB : Bool) (s : State) : State :=
  let x := s.chooseSlot readA readB
  match x.1 with
  | none => ({ x.2 with pwr := { x.2.pwr with recovery := true } }).startStop 7
  | some slot =>
    let s1 := (x.2.set NVJ_BOOT.LOADED 0 slot).set NVJ_BOOT.SEQ 0 (s.slotSeq slot)
    let y := ({ s1 with nvj := { s1.nvj with loaded := some slot } }).applyImage slot
    if y.2 then y.1.stepNext 5 else (y.1.set (badField slot) 0 1).deviceReset false

/-! ### Step 6: the journal (R540, R543, R544, R546) -/

/-- The payload of a BOOT entry (Table 16-10). -/
def State.bootPayload (s : State) : List Byte :=
  let slot := s.nvj.loaded.getD 0
  beBytes 8 (s.get TMP_STATUS.STARTS) ++ beBytes 8 (s.slotSeq slot) ++ [BitVec.ofNat 8 slot, 0, 0, 0, 0, 0, 0, 0]

/-- The journal is replayed into an empty key store, its CONFIG records are applied and BOOT is appended. -/
def State.journalReplay (s : State) : State :=
  let bsk := if s.flag NVJ_JCTRL.BSK_MODE then [] else s.tmp.bsk.getD []
  let key := kdf (s.lcm.stateRoot.getD []) (ascii "OBN-JRNL") bsk 256
  let s1 := ({ s with kst := { s.kst with slots := [] } }).replay key
  let s2 := s1.forL s1.nvj.config fun l s => (recordsOf (l.length / 16) l).foldl (fun s r => (applyRecord false (s, true) r).1) s
  s2.journal 8 s2.bootPayload

/-- Step 6: a missing BSK is drawn first. -/
def State.stepJournal (s : State) : State :=
  if s.tmp.bsk.isSome || s.flag NVJ_JCTRL.BSK_MODE then s.journalReplay.stepNext 6
  else if s.flag KST_CTRL.DRBG_FAIL then s.startStop 9
  else if s.drbgRefuses then s
  else
    let x := s.drbg 32
    ({ x.2 with tmp := { x.2.tmp with bsk := some x.1 } }).journalReplay.stepNext 6

/-! ### Step 7: memories and lanes (R273, R454, R465 to R468, R474) -/

/-- Spare rows remaining of every pseudo-channel, as the stacks report them: free values. -/
def State.sparesLoad (s : State) : State :=
  s.forN 256 fun pc s => let x := s.draw; x.2.set DMC_PC.SPARES pc (x.1.toNat % 256)

/-- Every region is FAILED, or a chip bank is fenced. -/
def State.memoryDead (s : State) : Bool :=
  ((List.range 4).all fun n => s.get GLB_REGION_STATUS.LEVEL n == 2)
    || s.fen.blocks.any fun b => match b with
      | .bank k => 48 ≤ k
      | _ => false

/-- Step 7. -/
def State.stepMemory (rows : List (Fin 52 × Nat)) (pcs : List (Fin 256)) (lanes : List (Fin 64)) (s : State) : State :=
  if s.flag KST_CTRL.DRBG_FAIL then s.startStop 9
  else if s.drbgRefuses then s
  else
    let s1 := (s.sparesLoad.forL rows fun r s => s.repairRow r.1 r.2).forL pcs fun pc s => s.pcRetire pc 3 []
    let s2 := (s1.forL lanes fun l s => s.set LNS_LANE.RETIRED l 1).rangesInit
    let s3 := (s2.forN 4 fun n s => s.capShow n).forN 4 fun n s => s.regionUpdate n
    if s3.memoryDead then s3.startStop 8 else (s3.stepNext 7).portsBegin.matesBegin

/-! ### Steps 8 to 10 (R649, R650, R654) -/

/-- Every port that is enabled has reached ACTIVE. -/
def State.portsUp (s : State) : Bool :=
  (List.range 64).all fun p => s.bst p == 5 || s.portCtl CPX_PORT_CTRL.EN LPX_PORT_CTRL.EN p == 0

/-- The TX SC of a participant has an ACTIVE SA. -/
def State.txKeyed (s : State) (p : Nat) : Bool :=
  (List.range 4).any fun an => (s.sa? (4 * s.agtTx p + an)).any fun a => a.life == 1

/-- Key agreement is complete, or the device is libero. -/
def State.keysUp (s : State) : Bool :=
  s.isLibero || !s.flag GLB_AGT_CTRL.EN || (List.range 32).all fun p => !s.flag GLB_AGT_PORT.EN p || s.txKeyed p

/-- Step 10. -/
def State.stepTraffic (s : State) : State :=
  let s1 := (s.when (s.lcState == 2) fun s => s.set TMP_CTRL.LOCK 0 1).set TMP_STATUS.TAMPER_STARTS 0 0
  let s2 := s1.when (s1.flag TMP_STATUS.TAMPER_RECORDED) fun s => s.raise 148 2
  ((s2.set PWR_START_STATUS.ELAPSED_MS 0 s2.elapsedMs).stepNext 10).set PWR_START_STATUS.TRAFFIC 0 1

/-- The end of the step in progress. -/
def State.startDone (how : StepEnd) (s : State) : State :=
  match how, s.startStep with
  | .supplies pll avs, 1 => s.stepSupplies pll avs
  | .rom ok, 2 => if ok then s.stepNext 2 else s.startStop 2
  | .selfCheck present missed wipeOk, 3 => s.stepSelfCheck present.toNat missed wipeOk
  | .roots okA okB, 4 => s.stepRoots okA okB
  | .image readA readB, 5 => s.stepImage readA readB
  | .journal, 6 => s.stepJournal
  | .memory rows pcs lanes, 7 => s.stepMemory rows pcs lanes
  | .ports, 8 => if s.portsUp then s.stepNext 8 else s
  | .keys, 9 => if s.keysUp then s.stepNext 9 else s
  | .traffic, 10 => s.stepTraffic
  | _, _ => s

/-- STARTUP_STEP_DONE (R648 to R655): the step in progress ends, as `how` says; another step's end changes nothing. -/
def execStartupStepDone (how : StepEnd) (s : State) : Host.Outcome State Fault Refusal :=
  finish (if s.starting then s.startDone how else s)

/-- STARTUP_STEP_TIMEOUT (R649): 3.0 s of step 8 or 9 have passed. -/
def execStartupStepTimeout (s : State) : Host.Outcome State Fault Refusal :=
  finish (if s.starting && (s.startStep == 8 || s.startStep == 9) then s.stepNext s.startStep else s)

end Sys2Proof.Machine
end

