-- ==== Sys2Proof/Machine/Tap.lean ====
section
/-!
DEFINITION. The TAP (R684): the instructions of IEEE 1149.1 and 1149.6 that the Bolorn offers.
-/

namespace Sys2Proof.Machine

/-- The TAP's last instruction, by the model's own number: 1 BYPASS, 2 IDCODE, 3 SAMPLE/PRELOAD, 4 EXTEST, 5 EXTEST_PULSE,
6 EXTEST_TRAIN. -/
def State.tapInstr (n : Nat) (s : State) : State := { s with tap := { s.tap with instr := n } }

/-- TAP_BYPASS: the bypass bit, which captures 0. -/
def execTapBypass (s : State) : Host.Outcome State Fault Refusal :=
  finish { s.tapInstr 1 with tap := { (s.tapInstr 1).tap with captured := [false], driven := none } }

/-- TAP_IDCODE: the 32 bits of the device identification register, the lowest first. -/
def execTapIdcode (s : State) : Host.Outcome State Fault Refusal :=
  let bits := (List.range 32).map fun i => Config.tapIdcode.getLsbD i
  finish { s.tapInstr 2 with tap := { (s.tapInstr 2).tap with captured := bits, driven := none } }

/-- The levels that a sample finds on as many balls as there are cells. -/
def State.tapSample : Nat → State → List Bool × State
  | 0, s => ([], s)
  | n + 1, s =>
    let x := s.draw
    let y := State.tapSample n x.2
    (x.1.getLsbD 0 :: y.1, y.2)

/-- TAP_SAMPLE_PRELOAD: the balls are sampled (a free value each) and the cells preloaded. -/
def execTapSamplePreload (cells : List Bool) (s : State) : Host.Outcome State Fault Refusal :=
  let x := (s.tapInstr 3).tapSample cells.length
  finish { x.2 with tap := { x.2.tap with captured := x.1, boundary := cells, driven := none } }

/-- An EXTEST instruction drives the preloaded cells, and is accepted only while RESET_N is asserted. -/
def State.extest (n : Nat) (s : State) : State :=
  if s.pwr.resetHeld then { s.tapInstr n with tap := { (s.tapInstr n).tap with driven := some s.tap.boundary } } else s

/-- TAP_EXTEST. -/
def execTapExtest (s : State) : Host.Outcome State Fault Refusal := finish (s.extest 4)

/-- TAP_EXTEST_PULSE. -/
def execTapExtestPulse (s : State) : Host.Outcome State Fault Refusal := finish (s.extest 5)

/-- TAP_EXTEST_TRAIN. -/
def execTapExtestTrain (s : State) : Host.Outcome State Fault Refusal := finish (s.extest 6)

end Sys2Proof.Machine
end

