-- ==== Sys2Proof/Machine/Dispatch.lean ====
section
/-!
DEFINITION. The meaning of each command, one arm per constructor.
-/

namespace Sys2Proof.Machine

/-- The effect of a command on everything but the queue. -/
def exec (i : Instr) (s : State) : Host.Outcome State Fault Refusal :=
  match i with
  | .registerWrite m off lanes data => Sys2Proof.Machine.execRegisterWrite m off lanes data s
  | .rcRead m off lanes => Sys2Proof.Machine.execRcRead m off lanes s
  | .unmappedAccess m off write => Sys2Proof.Machine.execUnmappedAccess m off write s
  | .unsupportedAccess off write => Sys2Proof.Machine.execUnsupportedAccess off write s
  | .functionEnable f => Sys2Proof.Machine.execFunctionEnable f s
  | .functionDisable f => Sys2Proof.Machine.execFunctionDisable f s
  | .functionStartupDone f fails => Sys2Proof.Machine.execFunctionStartupDone f fails s
  | .functionShutdownDone f => Sys2Proof.Machine.execFunctionShutdownDone f s
  | .tblInsert n m target index rsv => Sys2Proof.Machine.execTblInsert n m target index rsv s
  | .tblDelete n m target index rsv => Sys2Proof.Machine.execTblDelete n m target index rsv s
  | .tblModify n m target index rsv => Sys2Proof.Machine.execTblModify n m target index rsv s
  | .tblRead n m target index rsv => Sys2Proof.Machine.execTblRead n m target index rsv s
  | .tblSearch n m name rsv => Sys2Proof.Machine.execTblSearch n m name rsv s
  | .tblCmdEnd n m => Sys2Proof.Machine.execTblCmdEnd n m s
  | .saRetireDone sa => Sys2Proof.Machine.execSaRetireDone sa s
  | .tblRefStall sa => Sys2Proof.Machine.execTblRefStall sa s
  | .tblSeedWrite n seed clr full => Sys2Proof.Machine.execTblSeedWrite n seed clr full s
  | .shadowItemCompare n read => Sys2Proof.Machine.execShadowItemCompare n read s
  | .shadowConfirm n read => Sys2Proof.Machine.execShadowConfirm n read s
  | .shadowDmaFault n => Sys2Proof.Machine.execShadowDmaFault n s
  | .shadowLogClr n => Sys2Proof.Machine.execShadowLogClr n s
  | .clientFrameRx port data how cut => Sys2Proof.Machine.execClientFrameRx port data how cut s
  | .lineFrameRx port data how cut => Sys2Proof.Machine.execLineFrameRx port data how cut s
  | .sequencerDispatch n q => Sys2Proof.Machine.execSequencerDispatch n q s
  | .ksaPrecharge b => Sys2Proof.Machine.execKsaPrecharge b s
  | .ksaCtrlWrite n en ahead maxlen => Sys2Proof.Machine.execKsaCtrlWrite n en ahead maxlen s
  | .reorderRelease n q cls => Sys2Proof.Machine.execReorderRelease n q cls s
  | .fabricCreditGrant q src => Sys2Proof.Machine.execFabricCreditGrant q src s
  | .fabricTransfer q src err => Sys2Proof.Machine.execFabricTransfer q src err s
  | .egressSelect port err late cut => Sys2Proof.Machine.execEgressSelect port err late cut s
  | .addE g t rd rs1 rs2 => Sys2Proof.Machine.execAddE g t rd rs1 rs2 s
  | .subE g t rd rs1 rs2 => Sys2Proof.Machine.execSubE g t rd rs1 rs2 s
  | .andE g t rd rs1 rs2 => Sys2Proof.Machine.execAndE g t rd rs1 rs2 s
  | .orE g t rd rs1 rs2 => Sys2Proof.Machine.execOrE g t rd rs1 rs2 s
  | .xorE g t rd rs1 rs2 => Sys2Proof.Machine.execXorE g t rd rs1 rs2 s
  | .shl g t rd rs1 rs2 => Sys2Proof.Machine.execShl g t rd rs1 rs2 s
  | .shr g t rd rs1 rs2 => Sys2Proof.Machine.execShr g t rd rs1 rs2 s
  | .sar g t rd rs1 rs2 => Sys2Proof.Machine.execSar g t rd rs1 rs2 s
  | .rot g t rd rs1 rs2 => Sys2Proof.Machine.execRot g t rd rs1 rs2 s
  | .cmp g t rd rs1 rs2 => Sys2Proof.Machine.execCmp g t rd rs1 rs2 s
  | .addi g t rd rs1 imm => Sys2Proof.Machine.execAddi g t rd rs1 imm s
  | .andi g t rd rs1 imm => Sys2Proof.Machine.execAndi g t rd rs1 imm s
  | .ori g t rd rs1 imm => Sys2Proof.Machine.execOri g t rd rs1 imm s
  | .xori g t rd rs1 imm => Sys2Proof.Machine.execXori g t rd rs1 imm s
  | .lui g t rd imm => Sys2Proof.Machine.execLui g t rd imm s
  | .mul g t rd rs1 rs2 => Sys2Proof.Machine.execMul g t rd rs1 rs2 s
  | .ld g t size rd rs1 imm mem => Sys2Proof.Machine.execLd g t size rd rs1 imm mem s
  | .st g t size rd rs1 imm mem => Sys2Proof.Machine.execSt g t size rd rs1 imm mem s
  | .ldc g t rd imm => Sys2Proof.Machine.execLdc g t rd imm s
  | .beq g t rd rs1 imm => Sys2Proof.Machine.execBeq g t rd rs1 imm s
  | .bne g t rd rs1 imm => Sys2Proof.Machine.execBne g t rd rs1 imm s
  | .blt g t rd rs1 imm => Sys2Proof.Machine.execBlt g t rd rs1 imm s
  | .bge g t rd rs1 imm => Sys2Proof.Machine.execBge g t rd rs1 imm s
  | .jal g t off => Sys2Proof.Machine.execJal g t off s
  | .jr g t rs1 => Sys2Proof.Machine.execJr g t rs1 s
  | .fld g t rd rs1 imm poison => Sys2Proof.Machine.execFld g t rd rs1 imm poison s
  | .fst g t rd rs1 imm poison => Sys2Proof.Machine.execFst g t rd rs1 imm poison s
  | .bldf g t bd rs1 imm poison => Sys2Proof.Machine.execBldf g t bd rs1 imm poison s
  | .bstf g t bd rs1 imm poison => Sys2Proof.Machine.execBstf g t bd rs1 imm poison s
  | .bxor g t bd bs1 bs2 => Sys2Proof.Machine.execBxor g t bd bs1 bs2 s
  | .bmov g t bd bs1 => Sys2Proof.Machine.execBmov g t bd bs1 s
  | .brev g t bd bs1 => Sys2Proof.Machine.execBrev g t bd bs1 s
  | .binc32 g t bd bs1 => Sys2Proof.Machine.execBinc32 g t bd bs1 s
  | .bins g t bd rs1 high => Sys2Proof.Machine.execBins g t bd rs1 high s
  | .bext g t rd bs1 high => Sys2Proof.Machine.execBext g t rd bs1 high s
  | .kld g t mask => Sys2Proof.Machine.execKld g t mask s
  | .knonce g t bd form => Sys2Proof.Machine.execKnonce g t bd form s
  | .cenc g t bd bs1 core parity => Sys2Proof.Machine.execCenc g t bd bs1 core parity s
  | .cdec g t bd bs1 core parity => Sys2Proof.Machine.execCdec g t bd bs1 core parity s
  | .gfmul g t bd bs1 bs2 => Sys2Proof.Machine.execGfmul g t bd bs1 bs2 s
  | .gfacc g t bd bs1 bs2 => Sys2Proof.Machine.execGfacc g t bd bs1 bs2 s
  | .ksget g t bd ix => Sys2Proof.Machine.execKsget g t bd ix s
  | .tagcmp g t bs1 off => Sys2Proof.Machine.execTagcmp g t bs1 off s
  | .waitE g t bad => Sys2Proof.Machine.execWaitE g t bad s
  | .fend g t pass => Sys2Proof.Machine.execFend g t pass s
  | .erls g t off => Sys2Proof.Machine.execErls g t off s
  | .fenFence n e restore => Sys2Proof.Machine.execFenFence n e restore s
  | .fenRestore n e => Sys2Proof.Machine.execFenRestore n e s
  | .engineFenceDone n e => Sys2Proof.Machine.execEngineFenceDone n e s
  | .engineRestoreDone n e passed => Sys2Proof.Machine.execEngineRestoreDone n e passed s
  | .engineWatchdog n e t => Sys2Proof.Machine.execEngineWatchdog n e t s
  | .engineMemoryFence n e => Sys2Proof.Machine.execEngineMemoryFence n e s
  | .katCoreTest n pass => Sys2Proof.Machine.execKatCoreTest n pass s
  | .katForcedTake n pass => Sys2Proof.Machine.execKatForcedTake n pass s
  | .keyWipeAck g kh => Sys2Proof.Machine.execKeyWipeAck g kh s
  | .fenMpLoad n set slot kh image pub => Sys2Proof.Machine.execFenMpLoad n set slot kh image pub s
  | .fenMpUnload n set slot => Sys2Proof.Machine.execFenMpUnload n set slot s
  | .fenMpLoadUcode n set kh image pub => Sys2Proof.Machine.execFenMpLoadUcode n set kh image pub s
  | .fenMpCmdEnd n => Sys2Proof.Machine.execFenMpCmdEnd n s
  | .satStatCmd n sa clear => Sys2Proof.Machine.execSatStatCmd n sa clear s
  | .satStatEnd n => Sys2Proof.Machine.execSatStatEnd n s
  | .deuceWindowExpiry sa => Sys2Proof.Machine.execDeuceWindowExpiry sa s
  | .deuceIdleExpiry sa => Sys2Proof.Machine.execDeuceIdleExpiry sa s
  | .kraowFrameTx p inp => Sys2Proof.Machine.execKraowFrameTx p inp s
  | .kraowFrameRx p octets => Sys2Proof.Machine.execKraowFrameRx p octets s
  | .testClearWrite p on => Sys2Proof.Machine.execTestClearWrite p on s
  | .tribStartupBegin p t => Sys2Proof.Machine.execTribStartupBegin p t s
  | .mkpduRx p octets => Sys2Proof.Machine.execMkpduRx p octets s
  | .mkaHelloTimer p => Sys2Proof.Machine.execMkaHelloTimer p s
  | .mkaLifeExpiry p => Sys2Proof.Machine.execMkaLifeExpiry p s
  | .agentRekeyTimer p => Sys2Proof.Machine.execAgentRekeyTimer p s
  | .agentRekey => Sys2Proof.Machine.execAgentRekey s
  | .agentRetireOldAn p => Sys2Proof.Machine.execAgentRetireOldAn p s
  | .noFreshSakTimeout p => Sys2Proof.Machine.execNoFreshSakTimeout p s
  | .agtPortWrite p data => Sys2Proof.Machine.execAgtPortWrite p data s
  | .defectIntegrationExpiry p ix => Sys2Proof.Machine.execDefectIntegrationExpiry p ix s
  | .protectionSwitch g => Sys2Proof.Machine.execProtectionSwitch g s
  | .wtrExpiry g => Sys2Proof.Machine.execWtrExpiry g s
  | .protectionMismatchTimer g => Sys2Proof.Machine.execProtectionMismatchTimer g s
  | .pgCmdNone g => Sys2Proof.Machine.execPgCmdNone g s
  | .pgCmdLockout g => Sys2Proof.Machine.execPgCmdLockout g s
  | .pgCmdForceP g => Sys2Proof.Machine.execPgCmdForceP g s
  | .pgCmdManualW g => Sys2Proof.Machine.execPgCmdManualW g s
  | .pgCmdManualP g => Sys2Proof.Machine.execPgCmdManualP g s
  | .pmSecondBoundary fec => Sys2Proof.Machine.execPmSecondBoundary fec s
  | .laneSignalChange lane sig => Sys2Proof.Machine.execLaneSignalChange lane sig s
  | .detectSignalTimer p => Sys2Proof.Machine.execDetectSignalTimer p s
  | .trainComplete p => Sys2Proof.Machine.execTrainComplete p s
  | .trainTimeout p => Sys2Proof.Machine.execTrainTimeout p s
  | .lockAchieved p => Sys2Proof.Machine.execLockAchieved p s
  | .lockTimeout p => Sys2Proof.Machine.execLockTimeout p s
  | .lockLoss p lane kind => Sys2Proof.Machine.execLockLoss p lane kind s
  | .holdTimeout p => Sys2Proof.Machine.execHoldTimeout p s
  | .huddleMsgTx p => Sys2Proof.Machine.execHuddleMsgTx p s
  | .huddleMsgRx p content => Sys2Proof.Machine.execHuddleMsgRx p content s
  | .huddleTimeout p => Sys2Proof.Machine.execHuddleTimeout p s
  | .linkFaultRx p on => Sys2Proof.Machine.execLinkFaultRx p on s
  | .pfcFrameRx p enable nonzero => Sys2Proof.Machine.execPfcFrameRx p enable nonzero s
  | .pfcRefresh p => Sys2Proof.Machine.execPfcRefresh p s
  | .pfcPauseExpiry p c => Sys2Proof.Machine.execPfcPauseExpiry p c s
  | .preemptVerifyEnd k ok => Sys2Proof.Machine.execPreemptVerifyEnd k ok s
  | .laneRestore lane => Sys2Proof.Machine.execLaneRestore lane s
  | .laneRestoreDone lane ok => Sys2Proof.Machine.execLaneRestoreDone lane ok s
  | .prbsWrite lane gen chk => Sys2Proof.Machine.execPrbsWrite lane gen chk s
  | .portComplexFence side n => Sys2Proof.Machine.execPortComplexFence side n s
  | .pmodeWrite side n pmode => Sys2Proof.Machine.execPmodeWrite side n pmode s
  | .letReplaySend st => Sys2Proof.Machine.execLetReplaySend st s
  | .letAckRx st sc port inst value => Sys2Proof.Machine.execLetAckRx st sc port inst value s
  | .letNakRx st sc port inst value ranges => Sys2Proof.Machine.execLetNakRx st sc port inst value ranges s
  | .letHelloRx st sc port inst first next ranges => Sys2Proof.Machine.execLetHelloRx st sc port inst first next ranges s
  | .letAckTimer st => Sys2Proof.Machine.execLetAckTimer st s
  | .letHelloTimer st => Sys2Proof.Machine.execLetHelloTimer st s
  | .letSkewExpiry st number => Sys2Proof.Machine.execLetSkewExpiry st number s
  | .letNakRepeat st => Sys2Proof.Machine.execLetNakRepeat st s
  | .letLossExpiry st first last => Sys2Proof.Machine.execLetLossExpiry st first last s
  | .letAckTimeout st => Sys2Proof.Machine.execLetAckTimeout st s
  | .letResume st => Sys2Proof.Machine.execLetResume st s
  | .letShutdownDrainEnd st => Sys2Proof.Machine.execLetShutdownDrainEnd st s
  | .letShutdownQuiet st => Sys2Proof.Machine.execLetShutdownQuiet st s
  | .pairRoleTimer => Sys2Proof.Machine.execPairRoleTimer s
  | .activeInChange level => Sys2Proof.Machine.execActiveInChange level s
  | .dualActiveDetect => Sys2Proof.Machine.execDualActiveDetect s
  | .matePresentChange level => Sys2Proof.Machine.execMatePresentChange level s
  | .heartbeatLoss => Sys2Proof.Machine.execHeartbeatLoss s
  | .rallyHealthTx => Sys2Proof.Machine.execRallyHealthTx s
  | .rallyDeliveryTx => Sys2Proof.Machine.execRallyDeliveryTx s
  | .rallyHealthRx octets prefer ports => Sys2Proof.Machine.execRallyHealthRx octets prefer ports s
  | .rallyDeliveryRx octets => Sys2Proof.Machine.execRallyDeliveryRx octets s
  | .rallyCheckpointRx octets => Sys2Proof.Machine.execRallyCheckpointRx octets s
  | .rallyLeaseReqRx octets => Sys2Proof.Machine.execRallyLeaseReqRx octets s
  | .rallyLeaseAckRx octets => Sys2Proof.Machine.execRallyLeaseAckRx octets s
  | .rallyAnchorRx octets => Sys2Proof.Machine.execRallyAnchorRx octets s
  | .rallyAnchorReqRx octets => Sys2Proof.Machine.execRallyAnchorReqRx octets s
  | .rallyMirrorRx octets => Sys2Proof.Machine.execRallyMirrorRx octets s
  | .rallyAlertRx octets => Sys2Proof.Machine.execRallyAlertRx octets s
  | .rallyTakeoverRx octets => Sys2Proof.Machine.execRallyTakeoverRx octets s
  | .rallyTakeoverAckRx octets => Sys2Proof.Machine.execRallyTakeoverAckRx octets s
  | .rallyMissed => Sys2Proof.Machine.execRallyMissed s
  | .takeoverWindowExpiry => Sys2Proof.Machine.execTakeoverWindowExpiry s
  | .checkpointTimeout st number => Sys2Proof.Machine.execCheckpointTimeout st number s
  | .anchorRetry st => Sys2Proof.Machine.execAnchorRetry st s
  | .mtlYield force => Sys2Proof.Machine.execMtlYield force s
  | .mtlTake force => Sys2Proof.Machine.execMtlTake force s
  | .liberoLaneTest failed => Sys2Proof.Machine.execLiberoLaneTest failed s
  | .marrowSpill q => Sys2Proof.Machine.execMarrowSpill q s
  | .marrowRefill q bad => Sys2Proof.Machine.execMarrowRefill q bad s
  | .flushComplete q => Sys2Proof.Machine.execFlushComplete q s
  | .auditObjectCheck n kind index owner stamp orphaned last => Sys2Proof.Machine.execAuditObjectCheck n kind index owner stamp orphaned last s
  | .auditLogClr => Sys2Proof.Machine.execAuditLogClr s
  | .latDepthSample => Sys2Proof.Machine.execLatDepthSample s
  | .latQueueSnapshot q clear => Sys2Proof.Machine.execLatQueueSnapshot q clear s
  | .latHistSnapshot g clear => Sys2Proof.Machine.execLatHistSnapshot g clear s
  | .latSnapshotEnd => Sys2Proof.Machine.execLatSnapshotEnd s
  | .latHcfgWrite g binNs scale => Sys2Proof.Machine.execLatHcfgWrite g binNs scale s
  | .qshapeWrite q rate burst latEn => Sys2Proof.Machine.execQshapeWrite q rate burst latEn s
  | .meterWrite m w data => Sys2Proof.Machine.execMeterWrite m w data s
  | .imeLineRead a e e2 lost => Sys2Proof.Machine.execImeLineRead a e e2 lost s
  | .imeLineWrite a data => Sys2Proof.Machine.execImeLineWrite a data s
  | .imePartialWrite a data e e2 lost => Sys2Proof.Machine.execImePartialWrite a data e e2 lost s
  | .rekeyLineMove n j e lost => Sys2Proof.Machine.execRekeyLineMove n j e lost s
  | .patrolRead a e last lost => Sys2Proof.Machine.execPatrolRead a e last lost s
  | .dramRowTest st pc row fail last lost => Sys2Proof.Machine.execDramRowTest st pc row fail last lost s
  | .srbPreqWrite b preq clr => Sys2Proof.Machine.execSrbPreqWrite b preq clr s
  | .srbPowerTransitionDone b => Sys2Proof.Machine.execSrbPowerTransitionDone b s
  | .srbRegionTest n fails => Sys2Proof.Machine.execSrbRegionTest n fails s
  | .kstWrite m part kh rsv => Sys2Proof.Machine.execKstWrite m part kh rsv s
  | .kstErase m kh rsv => Sys2Proof.Machine.execKstErase m kh rsv s
  | .kstInfo m kh rsv => Sys2Proof.Machine.execKstInfo m kh rsv s
  | .kstCmdEnd m => Sys2Proof.Machine.execKstCmdEnd m s
  | .drbgReseed => Sys2Proof.Machine.execDrbgReseed s
  | .trngHealthFail => Sys2Proof.Machine.execTrngHealthFail s
  | .drbgDrawTimeout who => Sys2Proof.Machine.execDrbgDrawTimeout who s
  | .keyStorageFault kh => Sys2Proof.Machine.execKeyStorageFault kh s
  | .lcmChallenge m => Sys2Proof.Machine.execLcmChallenge m s
  | .lcmToService m confirm otaOk wipeOk => Sys2Proof.Machine.execLcmToService m confirm otaOk wipeOk s
  | .lcmToReturn m confirm token otaOk wipeOk => Sys2Proof.Machine.execLcmToReturn m confirm token otaOk wipeOk s
  | .lcmToEnd m confirm otaOk wipeOk => Sys2Proof.Machine.execLcmToEnd m confirm otaOk wipeOk s
  | .lcmFuseCkh m hash otaOk => Sys2Proof.Machine.execLcmFuseCkh m hash otaOk s
  | .lcmCmdEnd => Sys2Proof.Machine.execLcmCmdEnd s
  | .nvjImgErase slot => Sys2Proof.Machine.execNvjImgErase slot s
  | .nvjImgWrite slot offset pages data bad => Sys2Proof.Machine.execNvjImgWrite slot offset pages data bad s
  | .nvjImgCheck slot readOk => Sys2Proof.Machine.execNvjImgCheck slot readOk s
  | .nvjImgCmdEnd => Sys2Proof.Machine.execNvjImgCmdEnd s
  | .nvjCompact => Sys2Proof.Machine.execNvjCompact s
  | .nvjAppendConfig records data => Sys2Proof.Machine.execNvjAppendConfig records data s
  | .nvjConfigReset => Sys2Proof.Machine.execNvjConfigReset s
  | .nvjFormat m confirm ok => Sys2Proof.Machine.execNvjFormat m confirm ok s
  | .journalEntryProgram ok => Sys2Proof.Machine.execJournalEntryProgram ok s
  | .journalCommitDone ok => Sys2Proof.Machine.execJournalCommitDone ok s
  | .compactionSwitch bad => Sys2Proof.Machine.execCompactionSwitch bad s
  | .journalPreErase => Sys2Proof.Machine.execJournalPreErase s
  | .eventLogWrite => Sys2Proof.Machine.execEventLogWrite s
  | .timeBaseStart => Sys2Proof.Machine.execTimeBaseStart s
  | .timerefLoss => Sys2Proof.Machine.execTimerefLoss s
  | .timerefRelock => Sys2Proof.Machine.execTimerefRelock s
  | .stepNow m => Sys2Proof.Machine.execStepNow m s
  | .stepAtPps m => Sys2Proof.Machine.execStepAtPps m s
  | .stepCancel m => Sys2Proof.Machine.execStepCancel m s
  | .ppsInEdge => Sys2Proof.Machine.execPpsInEdge s
  | .tmbRateWrite m rate => Sys2Proof.Machine.execTmbRateWrite m rate s
  | .tmbSlewWrite m offset ppb => Sys2Proof.Machine.execTmbSlewWrite m offset ppb s
  | .slewEnd => Sys2Proof.Machine.execSlewEnd s
  | .ppsOutRise => Sys2Proof.Machine.execPpsOutRise s
  | .ppsOutFall => Sys2Proof.Machine.execPpsOutFall s
  | .timeTransferMsgRx port body => Sys2Proof.Machine.execTimeTransferMsgRx port body s
  | .clkAWindow count wipeOk => Sys2Proof.Machine.execClkAWindow count wipeOk s
  | .clkBGlitch wipeOk => Sys2Proof.Machine.execClkBGlitch wipeOk s
  | .bicMismatch wipeOk => Sys2Proof.Machine.execBicMismatch wipeOk s
  | .railOutOfWindow r mv wipeOk => Sys2Proof.Machine.execRailOutOfWindow r mv wipeOk s
  | .tempSample t0 t1 wipeOk => Sys2Proof.Machine.execTempSample t0 t1 wipeOk s
  | .tamperLoopMismatch loop wipeOk => Sys2Proof.Machine.execTamperLoopMismatch loop wipeOk s
  | .monitorFault wipeOk => Sys2Proof.Machine.execMonitorFault wipeOk s
  | .vbatOutOfRange wipeOk => Sys2Proof.Machine.execVbatOutOfRange wipeOk s
  | .tamperResetRelease => Sys2Proof.Machine.execTamperResetRelease s
  | .tmpZeroiseWrite m wipeOk => Sys2Proof.Machine.execTmpZeroiseWrite m wipeOk s
  | .tmpRespWrite m data => Sys2Proof.Machine.execTmpRespWrite m data s
  | .aologClear m => Sys2Proof.Machine.execAologClear m s
  | .tamperHoldEnd => Sys2Proof.Machine.execTamperHoldEnd s
  | .aoSamplingWindow loop0 loop1 t t' vbatBad => Sys2Proof.Machine.execAoSamplingWindow loop0 loop1 t t' vbatBad s
  | .ringDoorbell r access => Sys2Proof.Machine.execRingDoorbell r access s
  | .txFrameDmaDone r descs data hostErr => Sys2Proof.Machine.execTxFrameDmaDone r descs data hostErr s
  | .rxFrameWrite r buf how => Sys2Proof.Machine.execRxFrameWrite r buf how s
  | .atsTranslationCompletion fn page granted pri x => Sys2Proof.Machine.execAtsTranslationCompletion fn page granted pri x s
  | .atsInvalidationRequest fn page => Sys2Proof.Machine.execAtsInvalidationRequest fn page s
  | .pageRequestResponse fn r how => Sys2Proof.Machine.execPageRequestResponse fn r how s
  | .pageRequestTimeout r => Sys2Proof.Machine.execPageRequestTimeout r s
  | .ringCoalTimer r => Sys2Proof.Machine.execRingCoalTimer r s
  | .evtSrcWrite ix clear mask ring log vector => Sys2Proof.Machine.execEvtSrcWrite ix clear mask ring log vector s
  | .perstAssert => Sys2Proof.Machine.execPerstAssert s
  | .pcieHotReset => Sys2Proof.Machine.execPcieHotReset s
  | .pcieLinkDown => Sys2Proof.Machine.execPcieLinkDown s
  | .flrPf0 => Sys2Proof.Machine.execFlrPf0 s
  | .flrPf1 => Sys2Proof.Machine.execFlrPf1 s
  | .ownerTake => Sys2Proof.Machine.execOwnerTake s
  | .ownerRelease => Sys2Proof.Machine.execOwnerRelease s
  | .ownerKeep => Sys2Proof.Machine.execOwnerKeep s
  | .ownerForceTimeout => Sys2Proof.Machine.execOwnerForceTimeout s
  | .mboxGo reqLen => Sys2Proof.Machine.execMboxGo reqLen s
  | .mboxDone req wipeOk => Sys2Proof.Machine.execMboxDone req wipeOk s
  | .spdmGetVersion mctp req => Sys2Proof.Machine.execSpdmGetVersion mctp req s
  | .spdmGetCapabilities mctp req => Sys2Proof.Machine.execSpdmGetCapabilities mctp req s
  | .spdmNegotiateAlgorithms mctp req => Sys2Proof.Machine.execSpdmNegotiateAlgorithms mctp req s
  | .spdmGetDigests mctp req => Sys2Proof.Machine.execSpdmGetDigests mctp req s
  | .spdmGetCertificate mctp req => Sys2Proof.Machine.execSpdmGetCertificate mctp req s
  | .spdmChallenge mctp req => Sys2Proof.Machine.execSpdmChallenge mctp req s
  | .spdmGetMeasurements mctp req => Sys2Proof.Machine.execSpdmGetMeasurements mctp req s
  | .fresetPort index => Sys2Proof.Machine.execFresetPort index s
  | .fresetSa index => Sys2Proof.Machine.execFresetSa index s
  | .fresetQueue index => Sys2Proof.Machine.execFresetQueue index s
  | .fresetRing index => Sys2Proof.Machine.execFresetRing index s
  | .fresetPod index => Sys2Proof.Machine.execFresetPod index s
  | .fresetTableUnit index => Sys2Proof.Machine.execFresetTableUnit index s
  | .fresetTimeout => Sys2Proof.Machine.execFresetTimeout s
  | .deviceReset confirm => Sys2Proof.Machine.execDeviceReset confirm s
  | .powerCycle confirm => Sys2Proof.Machine.execPowerCycle confirm s
  | .powerCyclePulseEnd dropped => Sys2Proof.Machine.execPowerCyclePulseEnd dropped s
  | .sbGetIdentity => Sys2Proof.Machine.execSbGetIdentity s
  | .sbGetHealth => Sys2Proof.Machine.execSbGetHealth s
  | .sbGetAlarms => Sys2Proof.Machine.execSbGetAlarms s
  | .sbReadEventLog first count => Sys2Proof.Machine.execSbReadEventLog first count s
  | .sbReadAoLog => Sys2Proof.Machine.execSbReadAoLog s
  | .sbGetPm port bin => Sys2Proof.Machine.execSbGetPm port bin s
  | .sbAckAlert seq => Sys2Proof.Machine.execSbAckAlert seq s
  | .sbTake => Sys2Proof.Machine.execSbTake s
  | .sbRelease => Sys2Proof.Machine.execSbRelease s
  | .sbSetPowerStandby => Sys2Proof.Machine.execSbSetPowerStandby s
  | .sbSetPowerService => Sys2Proof.Machine.execSbSetPowerService s
  | .sbDeviceReset confirm => Sys2Proof.Machine.execSbDeviceReset confirm s
  | .sbPowerCycle confirm => Sys2Proof.Machine.execSbPowerCycle confirm s
  | .sbSelectSlot slot => Sys2Proof.Machine.execSbSelectSlot slot s
  | .sbZeroise confirm wipeOk => Sys2Proof.Machine.execSbZeroise confirm wipeOk s
  | .sbReleaseHold => Sys2Proof.Machine.execSbReleaseHold s
  | .mctpSetEndpointId eid => Sys2Proof.Machine.execMctpSetEndpointId eid s
  | .mctpGetEndpointId => Sys2Proof.Machine.execMctpGetEndpointId s
  | .mctpGetVersionSupport typ => Sys2Proof.Machine.execMctpGetVersionSupport typ s
  | .mctpGetMessageTypeSupport => Sys2Proof.Machine.execMctpGetMessageTypeSupport s
  | .mctpGetVendorMsgSupport selector => Sys2Proof.Machine.execMctpGetVendorMsgSupport selector s
  | .pldmGettid => Sys2Proof.Machine.execPldmGettid s
  | .pldmGetpldmversion typ => Sys2Proof.Machine.execPldmGetpldmversion typ s
  | .pldmGetpldmtypes => Sys2Proof.Machine.execPldmGetpldmtypes s
  | .pldmGetpldmcommands typ => Sys2Proof.Machine.execPldmGetpldmcommands typ s
  | .pldmGetpdr handle => Sys2Proof.Machine.execPldmGetpdr handle s
  | .pldmGetsensorreading sensor => Sys2Proof.Machine.execPldmGetsensorreading sensor s
  | .i3cEntdaa addr => Sys2Proof.Machine.execI3cEntdaa addr s
  | .i3cSetdasa static addr => Sys2Proof.Machine.execI3cSetdasa static addr s
  | .i3cSetaasa => Sys2Proof.Machine.execI3cSetaasa s
  | .i3cSetnewda addr => Sys2Proof.Machine.execI3cSetnewda addr s
  | .i3cRstdaa => Sys2Proof.Machine.execI3cRstdaa s
  | .i3cGetpid => Sys2Proof.Machine.execI3cGetpid s
  | .i3cGetbcr => Sys2Proof.Machine.execI3cGetbcr s
  | .i3cGetdcr => Sys2Proof.Machine.execI3cGetdcr s
  | .i3cGetstatus => Sys2Proof.Machine.execI3cGetstatus s
  | .i3cGetmwl => Sys2Proof.Machine.execI3cGetmwl s
  | .i3cSetmwl len => Sys2Proof.Machine.execI3cSetmwl len s
  | .i3cGetmrl => Sys2Proof.Machine.execI3cGetmrl s
  | .i3cSetmrl len => Sys2Proof.Machine.execI3cSetmrl len s
  | .i3cEnec events => Sys2Proof.Machine.execI3cEnec events s
  | .i3cDisec events => Sys2Proof.Machine.execI3cDisec events s
  | .sbBusTimeout => Sys2Proof.Machine.execSbBusTimeout s
  | .vbatRise => Sys2Proof.Machine.execVbatRise s
  | .vbatFall => Sys2Proof.Machine.execVbatFall s
  | .vddAuxRise => Sys2Proof.Machine.execVddAuxRise s
  | .pwrAutoSample auto sbAddr => Sys2Proof.Machine.execPwrAutoSample auto sbAddr s
  | .vddAuxLoss => Sys2Proof.Machine.execVddAuxLoss s
  | .powerGood => Sys2Proof.Machine.execPowerGood s
  | .powerGoodTimeout => Sys2Proof.Machine.execPowerGoodTimeout s
  | .mainRailLoss r mv wipeOk => Sys2Proof.Machine.execMainRailLoss r mv wipeOk s
  | .pwrCtrlStandby confirm => Sys2Proof.Machine.execPwrCtrlStandby confirm s
  | .startupStepDone how => Sys2Proof.Machine.execStartupStepDone how s
  | .startupStepTimeout => Sys2Proof.Machine.execStartupStepTimeout s
  | .resetNAssert => Sys2Proof.Machine.execResetNAssert s
  | .resetNRelease => Sys2Proof.Machine.execResetNRelease s
  | .pwrDomWrite d en clrRej clrFail => Sys2Proof.Machine.execPwrDomWrite d en clrRej clrFail s
  | .pwrDomWakeDone d => Sys2Proof.Machine.execPwrDomWakeDone d s
  | .pwrDomWakeFail d => Sys2Proof.Machine.execPwrDomWakeFail d s
  | .pwrDomOffDone d => Sys2Proof.Machine.execPwrDomOffDone d s
  | .powerEstimate => Sys2Proof.Machine.execPowerEstimate s
  | .pmcSelWrite c data => Sys2Proof.Machine.execPmcSelWrite c data s
  | .pmcCntWrite c v => Sys2Proof.Machine.execPmcCntWrite c v s
  | .pmcFreeze b => Sys2Proof.Machine.execPmcFreeze b s
  | .pmcSnap clear => Sys2Proof.Machine.execPmcSnap clear s
  | .pmcSnapDone => Sys2Proof.Machine.execPmcSnapDone s
  | .pmcCounterWrap c d => Sys2Proof.Machine.execPmcCounterWrap c d s
  | .tapBypass => Sys2Proof.Machine.execTapBypass s
  | .tapIdcode => Sys2Proof.Machine.execTapIdcode s
  | .tapSamplePreload cells => Sys2Proof.Machine.execTapSamplePreload cells s
  | .tapExtest => Sys2Proof.Machine.execTapExtest s
  | .tapExtestPulse => Sys2Proof.Machine.execTapExtestPulse s
  | .tapExtestTrain => Sys2Proof.Machine.execTapExtestTrain s
  | .inputPulseRejected ix => Sys2Proof.Machine.execInputPulseRejected ix s

end Sys2Proof.Machine
end

