-- ==== Sys2Proof/Safety.lean ====
section
/-!
DEFINITION. The terms in which statements about runs are made: when a state is settled, when its stored tables are in canonical form,
and how a command is said to complete.
-/

namespace Sys2Proof

open Machine

/-- No event waits to be recorded: what every command leaves behind (R619). -/
abbrev Settled (s : State) : Prop := s.evt.raised = []

/-- The register file is in its canonical form: keys rising, no word listed at its reset value. -/
abbrev RegsCanonical (s : State) : Prop := s.regs.wf regDefault = true

/-- The memories are in their canonical form: the flash device, the lines of the stacks, and the data memory of every engine. -/
def Memory.wf (s : State) : Bool :=
  s.nvj.flash.wf (fun _ => 0xFF) && s.dram.lines.wf (fun _ => none) && s.fen.engines.all fun e => e.2.dmem.wf fun _ => 0

/-- Command `c` at `s` has the effect `x`: the next state is `x` with the events that `x` raised recorded. -/
def Ends (c : Instr) (s x : State) : Prop := exec c s = .next x.flushEvents

/-- Command `c` at `s` answers a next state, of which `P` holds. -/
def Answers (c : Instr) (s : State) (P : State → Prop) : Prop := ∃ t, exec c s = .next t ∧ P t

/-- Nothing but the register file differs between two states. -/
def OnlyRegs (s t : State) : Prop := { t with regs := s.regs } = s

/-- Nothing but registers of the list `rs` differs between two states. -/
def OnlyTheRegs (rs : List Reg) (s t : State) : Prop :=
  OnlyRegs s t ∧ ∀ r i w, r ∉ rs → i < 8192 → w < 8 → t.word r i w = s.word r i w

/-- Only thread `t` of engine `g` differs between two states; the engine's data memory, cores, keystream-ahead slots and inboxes do not. -/
def OnlyThread (g t : Nat) (s u : State) : Prop :=
  { u with fen := s.fen } = s ∧ { u.fen with engines := s.fen.engines } = s.fen ∧ (∀ h, h ≠ g → u.eng h = s.eng h)
    ∧ (∀ x, x ≠ t → u.thr g x = s.thr g x) ∧ { u.eng g with threads := (s.eng g).threads } = s.eng g

/-- What an instruction leaves that writes only register `rd` of thread `t` of engine `g`: `v` there (e0 reads 0), the program counter
at the next instruction, and every other register as it was. -/
def WritesE (g t rd : Nat) (v : Word) (s u : State) : Prop :=
  u.ereg g t rd = (if rd = 0 then 0 else v) ∧ (∀ r, r ≠ rd → u.ereg g t r = s.ereg g t r) ∧ (∀ r, u.breg g t r = s.breg g t r)
    ∧ (u.thr g t).pc = ((s.thr g t).pc + 4) % 2 ^ 64 ∧ (u.thr g t).work = (s.thr g t).work ∧ OnlyThread g t s u

/-- The same for a block register. -/
def WritesB (g t bd : Nat) (v : Block) (s u : State) : Prop :=
  u.breg g t bd = v ∧ (∀ r, r ≠ bd → u.breg g t r = s.breg g t r) ∧ (∀ r, u.ereg g t r = s.ereg g t r)
    ∧ (u.thr g t).pc = ((s.thr g t).pc + 4) % 2 ^ 64 ∧ (u.thr g t).work = (s.thr g t).work ∧ OnlyThread g t s u

/-- The same for a jump: only the program counter moves, to `pc`. -/
def JumpsTo (g t pc : Nat) (s u : State) : Prop :=
  (u.thr g t).pc = pc ∧ (∀ r, u.ereg g t r = s.ereg g t r) ∧ (∀ r, u.breg g t r = s.breg g t r)
    ∧ (u.thr g t).work = (s.thr g t).work ∧ OnlyThread g t s u

end Sys2Proof
end

