-- ==== Sys2Proof/Certificates/Slice0/Obligations.lean ====
section
/-!
DEFINITION. What is stated about the model, for its provers to settle.
-/

set_option linter.unusedVariables false

open Sys2Proof Sys2Proof.Machine

/-- A step carries out the command at the front of the queue, on the state with the queue's rest (the model's form of a block). -/
def Obligations.StepCarriesOutFrontCommand : Prop :=
  ∀ (s : State) (c : Instr) (rest : List Instr), s.pending = c :: rest → step s = exec c { s with pending := rest }

/-- On an empty queue a step is a tick of 5 ns (the model's choice, notes/assumptions/1.md): it moves the clocks and touches no store, no
queue, no key, no table and no frame. -/
def Obligations.IdleStepOnlyPassesTime : Prop :=
  ∀ s : State, s.pending = [] → Settled s → s.get PWR_STATE.TRANSIT = 0 →
    ∃ t, step s = .next t ∧ t.clk.sinceReset = s.clk.sinceReset + 5 ∧ t.pending = []
      ∧ t.tbl = s.tbl ∧ t.path = s.path ∧ t.fen = s.fen ∧ t.q = s.q ∧ t.lets = s.lets ∧ t.kst = s.kst ∧ t.lcm = s.lcm
      ∧ t.nvj = s.nvj ∧ t.krw = s.krw ∧ t.srb = s.srb ∧ t.dram = s.dram ∧ t.mtl = s.mtl ∧ t.hif = s.hif ∧ t.agt = s.agt
      ∧ (s.get TMB_STATUS.RUNNING = 0 → t.clk.tbSec = s.clk.tbSec ∧ t.clk.tbNs = s.clk.tbNs)

/-- No command's effect adds to, removes from or reorders the commands that wait; a step removes exactly the one in front. -/
def Obligations.QueueIsFirstInFirstOut : Prop :=
  (∀ (c : Instr) (s t : State), exec c s = .next t → t.pending = s.pending)
  ∧ ∀ (s t : State), step s = .next t → t.pending = s.pending.tail

/-- The invariant that every step keeps: the register file stays canonical, and every event raised in a step is recorded within it. -/
def Obligations.StepKeepsRegistersCanonical : Prop :=
  ∀ s : State, RegsCanonical s →
    ∃ t, step s = .next t ∧ RegsCanonical t ∧ Settled t

/-- The invariant of every step holds at reset, where nothing waits and no memory lists anything. -/
def Obligations.ResetMeetsTheInvariant : Prop :=
  RegsCanonical State.reset ∧ Settled State.reset ∧ State.reset.pending = [] ∧ State.reset.nvj.flash = [] ∧ State.reset.dram.lines = []

/-- R7 at power-on: every register word reads its reset value, shown for named fields with a reset value other than zero. -/
def Obligations.ResetValuesOfRegisters : Prop :=
  (∀ (r : Reg) (i w : Nat), i < 8192 → w < 8 → State.reset.word r i w = r.resetWord i w)
  ∧ (∀ n : Fin 4, State.reset.get FEN_WDOG.LIMIT n = 20 ∧ State.reset.get SAT_DEUCE_CFG.WINDOW n = 2000)
  ∧ (∀ m : Fin 4, State.reset.get LNS_BRING_CFG.TRAIN_MS m = 3000 ∧ State.reset.get LNS_BRING_CFG.LOCK_MS m = 500
    ∧ State.reset.get LNS_BRING_CFG.HOLD_MS m = 20 ∧ State.reset.get LNS_BRING_CFG.FAIL_EVT m = 3)
  ∧ State.reset.get LET_TIMING.ACK_US = 64 ∧ State.reset.get LET_TIMING.ACK_FRAMES = 4096
  ∧ State.reset.get GLB_OWNER.FORCE_TMO_MS = 2000 ∧ State.reset.get TMP_CTRL.TEMP_HIGH = 115 ∧ State.reset.get HIF_DMA_CFG.PRI_TMO_MS = 100
  ∧ ∀ i : Fin 512, State.reset.get EVT_SRC.MASK i = 1 ∧ State.reset.get EVT_SRC.STATUS i = 0

/-- R619: the records of one cycle, those for the event log, appear in ascending source, CODE and INST order with rising SEQ. -/
def Obligations.RecordsAreOrdered : Prop :=
  ∀ s : State, (∀ e ∈ s.evt.raised, e.source < 512 ∧ e.inst < 65536) →
    ∃ l : List EventRec, s.flushEvents.evt.logQueue = s.evt.logQueue ++ l
      ∧ l.Pairwise (fun a b => a.source < b.source ∨ (a.source = b.source ∧ (a.code < b.code ∨ (a.code = b.code ∧ a.inst ≤ b.inst))))
      ∧ (∀ r ∈ l, ∃ e ∈ s.evt.raised, r.source = e.source ∧ r.code = e.code ∧ r.inst = e.inst ∧ s.get EVT_SRC.LOG e.source = 1)
      ∧ (∀ e ∈ s.evt.raised, s.get EVT_SRC.LOG e.source = 1 → ∃ r ∈ l, r.source = e.source ∧ r.code = e.code ∧ r.inst = e.inst)
      ∧ s.flushEvents.evt.seq = (s.evt.seq + s.evt.raised.length) % 2 ^ 32
      ∧ (∀ r i w, r ∉ [Reg.EVT_SRC, .EVT_RING_STATUS, .PMC_CNT, .PMC_CHIP_CNT, .PMC_OVF, .PMC_CTRL] → i < 8192 → w < 8 →
          s.flushEvents.word r i w = s.word r i w)

/-- R3, R603: what a REGISTER_WRITE does to each field of a register without an effect of its own, and that it does nothing else. -/
def Obligations.RegisterWriteFollowsAccessCodes : Prop :=
  ∀ (m : Master) (off : BitVec 27) (lanes : Lanes) (data : Word) (s : State) (r : Reg) (i w : Nat),
    Settled s → s.busAt m off.toNat = some (r, i, w) → i < 8192 → w < 8 →
    r ∈ [Reg.FEN_WDOG, .TBL_ETCLASS, .FEN_KAT_CTRL, .SAT_DEUCE_CFG, .GLB_AGT_CKN, .LET_TIMING, .LET_CTL_DA, .KST_KEYDATA, .HIF_MBOX_ADDR,
      .FEN_MP_STATUS, .SAT_PN_STATUS, .SCH_PORT_QUANTUM, .PMC_USER_EN, .GLB_THERM] →
    (m = .host → s.get GLB_OWNER.OWNER ≠ 2 ∧ mcuPort r off.toNat = false) → s.regAbsent r i = false →
    Answers (.registerWrite m off lanes data) s fun t =>
      (∀ f ∈ r.fields, f.word = w → lanes = .full →
        let old := s.get f i
        let new := data.bits f.lo f.width
        t.get f i = match f.acc with
          | .rw => if new = old then old else limited f new
          | .wo => new
          | .w1c => old &&& (2 ^ f.width - 1 - new)
          | .w1s => old ||| new
          | .ro => old
          | .rc => old)
      ∧ (∀ f ∈ r.fields, f.word = w → (lanes = .low → 32 ≤ f.lo) → (lanes = .high → f.lo + f.width ≤ 32) → lanes ≠ .full →
          t.get f i = s.get f i)
      ∧ (∀ r' i' w', ¬ (r' = r ∧ i' = i ∧ w' = w) → i' < 8192 → w' < 8 → t.word r' i' w' = s.word r' i' w')
      ∧ OnlyRegs s t

/-- R3, R4, R6, R40, R601, R602: reads, and accesses at which no register answers. -/
def Obligations.BusReadsAndRefusedAccesses : Prop :=
  (∀ (m : Master) (off : BitVec 27) (lanes : Lanes) (s : State) (r : Reg) (i w : Nat),
    s.busAt m off.toNat = some (r, i, w) → s.regAbsent r i = false → r ∉ [Reg.TMB_TIME, .TMB_PPS_IN, .SCH_QCREDIT, .LNS_EYE] →
    let rc := r.accBits w (fun a => a == .rc) &&& lanesMask lanes
    Ends (.rcRead m off lanes) s { (if rc = 0 then s else s.setWord r i w (s.word r i w &&& ~~~rc)) with
      bus := .data (s.word r i w &&& r.accBits w (fun a => a != .wo) &&& lanesMask lanes) })
  ∧ (∀ (off : BitVec 27) (s : State) (i : Nat), s.busAt .mcu off.toNat = some (.TMB_TIME, i, 0) →
      Answers (.rcRead .mcu off .full) s fun t => t.clk.timeLatch = s.clk.tbSec ∧ t.clk.tbSec = s.clk.tbSec ∧ t.clk.tbNs = s.clk.tbNs)
  ∧ (∀ (m : Master) (off : BitVec 27) (write : Bool) (s : State), s.busAt m off.toNat = none →
      let counted := ((s.set GLB_UNMAPPED_CNT.COUNT 0 (min (s.get GLB_UNMAPPED_CNT.COUNT + 1) (2 ^ GLB_UNMAPPED_CNT.COUNT.width - 1))).set
        GLB_UNMAPPED_ADDR.OFFSET 0 off.toNat).set GLB_UNMAPPED_ADDR.WRITE 0 (if write then 1 else 0)
      Ends (.unmappedAccess m off write) s (if write then counted else { counted with bus := .data 0 })
      ∧ (write = true → ∀ lanes data, Ends (.registerWrite m off lanes data) s counted))
  ∧ ∀ (off : BitVec 27) (write : Bool) (s : State),
      Ends (.unsupportedAccess off write) s { s with bus := .unsupported off.toNat write }

/-- Table 1-8 (R32 to R34): every transition that needs no start-up or shut-down work, and the whole cycle of the functions whose start-up
and shut-down need none. -/
def Obligations.FunctionStateTransitions : Prop :=
  (∀ (f : Fn) (s : State), s.enableDiscarded f = false →
    (s.fnState f = 1 → Ends (.functionEnable f) s s)
    ∧ (2 ≤ s.fnState f → Ends (.functionEnable f) s ((s.set (fnEn f).1 (fnEn f).2 1).set (fnStateField f) (fnEn f).2 3)))
  ∧ (∀ (f : Fn) (s : State), s.disableDiscarded f = false →
    (s.fnState f = 0 → Ends (.functionDisable f) s s)
    ∧ (2 ≤ s.fnState f → Ends (.functionDisable f) s ((s.set (fnEn f).1 (fnEn f).2 0).set (fnStateField f) (fnEn f).2 2)))
  ∧ ∀ (f : Fn) (n : Fin 4) (s : State), Settled s → f ∈ [Fn.shadow n, .audit, .sramTest n] →
    (s.fnState f = 0 → Answers (.functionEnable f) s fun t =>
      t.fnState f = 1 ∧ t.get (fnEn f).1 (fnEn f).2 = 1 ∧ t.inService f = true ∧ (∀ g, g.code ≠ f.code → t.inService g = s.inService g))
    ∧ (s.fnState f = 1 → Ends (.functionDisable f) s ((s.set (fnEn f).1 (fnEn f).2 0).set (fnStateField f) (fnEn f).2 2))
    ∧ (s.fnState f = 2 → s.get GLB_FRESET_STATUS.BUSY = 0 → Answers (.functionShutdownDone f) s fun t =>
      t.fnState f = 0 ∧ t.get (fnEn f).1 (fnEn f).2 = 0 ∧ t.inService f = false)
    ∧ (s.fnState f = 3 → Answers (.functionShutdownDone f) s fun t =>
      t.fnState f = 1 ∧ t.get (fnEn f).1 (fnEn f).2 = 1 ∧ t.inService f = true)

/-- R85, R343, R694: what the end of a start-up puts into service. -/
def Obligations.StartUpEndsInService : Prop :=
  (∀ (n : Fin 4) (p : Fin 6) (fails : List (Fin 8 × Fin 6)) (s : State), Settled s → s.fnState (.pod n p) = 1 → s.inService (.pod n p) = false →
    s.fnAwake (.pod n p) = true → s.bootHolds = false →
    Answers (.functionStartupDone (.pod n p) fails) s fun t =>
      t.inService (.pod n p) = true
      ∧ t.get FEN_POD_CTRL.SET_IN_USE (6 * n + p) = s.get FEN_POD_CTRL.CODE_SET (6 * n + p)
      ∧ ∀ (k : Fin 8) (c : Fin 6), (t.get FEN_ENG.CORES_IN (48 * n + 8 * p + k)).testBit c = !fails.contains (k, c))
  ∧ (∀ (n : Fin 4) (p : Fin 6) (fails : List (Fin 8 × Fin 6)) (s : State), Settled s → 2 ≤ s.fnState (.pod n p) →
    s.inService (.pod n p) = false → s.fnAwake (.pod n p) = true →
    Answers (.functionStartupDone (.pod n p) fails) s fun t =>
      t.fnState (.pod n p) = s.fnState (.pod n p) ∧ t.inService (.pod n p) = false
      ∧ ∀ (k : Fin 8) (c : Fin 6), (t.get FEN_ENG.CORES_IN (48 * n + 8 * p + k)).testBit c =
          ((s.get FEN_ENG.CORES_IN (48 * n + 8 * p + k)).testBit c && !fails.contains (k, c)))
  ∧ (∀ s : State, Settled s → s.fnState .pair = 1 → s.inService .pair = false → s.fnAwake .pair = true → s.bootHolds = false →
    Answers (.functionStartupDone .pair []) s fun t => t.inService .pair = true)
  ∧ (∀ (f : Fn) (fails : List (Fin 8 × Fin 6)) (s : State), s.fnAwake f = false → Ends (.functionStartupDone f fails) s s)
  ∧ ∀ (r : Fin 512) (s : State), Settled s → s.fnState (.ring r) = 2 → s.get GLB_FRESET_STATUS.BUSY = 0 →
    Answers (.functionShutdownDone (.ring r)) s fun t =>
      t.fnState (.ring r) = 0 ∧ t.get HIF_RING_CFG.EN r = 0 ∧ t.inService (.ring r) = false

/-- R59 to R67: what a table command does to the entry it names, and that BUSY turns a command away. -/
def Obligations.TableCommandsActOnTheirEntry : Prop :=
  (∀ (n : Fin 4) (m : Master) (index : BitVec 16) (s : State), Settled s → s.get TBL_STATUS.BUSY (tblIdx n m) = 0 →
    s.tblPort n m.other = .idle → (m = .host → s.isLibero = false) → s.mayWrite m .TBL_CMD = true →
    let i := index.toNat
    let new := ScEntry.ofWords (s.tblData n m)
    let frame := fun (t : State) => (∀ j, j ≠ i → t.sc? j = s.sc? j) ∧ t.tbl.sa = s.tbl.sa ∧ t.tbl.cls = s.tbl.cls ∧ t.tbl.ovf = s.tbl.ovf
      ∧ t.get TBL_STATUS.BUSY (tblIdx n m) = 1
    (scBad (s.tblData n m) = false → i / 4096 = n → new.inPort / 8 = n → s.sc? i = none → s.keyScClash i new = false →
      Answers (.tblInsert n m 1 index false) s fun t =>
        t.sc? i = some new ∧ t.get TBL_OCCUPANCY.GEN n = (s.get TBL_OCCUPANCY.GEN n + 1) % 65536 ∧ frame t)
    ∧ (∀ old, s.sc? i = some old → i / 4096 = n → s.scInUse i old = false →
      Answers (.tblDelete n m 1 index false) s fun t =>
        t.sc? i = none ∧ t.get TBL_OCCUPANCY.GEN n = (s.get TBL_OCCUPANCY.GEN n + 1) % 65536 ∧ frame t)
    ∧ (∀ old, s.sc? i = some old → scBad (s.tblData n m) = false → i / 4096 = n → new.locked = old.locked → new.inPort / 8 = n →
      s.keyScClash i new = false → s.scServesLet i = false → new.en = old.en → new.curAn = old.curAn → new.autoSucc = old.autoSucc →
      old.state < 2 →
      Answers (.tblModify n m 1 index false) s fun t =>
        t.sc? i = some { new with state := old.state, clsRefs := old.clsRefs, held := old.held } ∧ frame t)
    ∧ (∀ e, s.sc? i = some e → i / 4096 = n →
      Answers (.tblRead n m 1 index false) s fun t =>
        (∃ mir, t.tblPort n m = .executed 0 0 i 0 (some e.words) mir) ∧ t.tbl.sc = s.tbl.sc ∧ t.sc? i = some e ∧ frame t)
    ∧ (∀ l e, (∀ k, k = (ClsEntry.ofWords (s.tblData n m)).key → s.keyBad k = false ∧ keyPort k / 8 = n ∧ s.clsFind n k = some l) →
      s.clsAt n l = some e → (l.ovf = true → l.loc < 1024) →
      Answers (.tblSearch n m ⟨0, index⟩ false) s fun t =>
        (∃ o loc gen mir, t.tblPort n m = .executed 0 o loc gen (some e.words) mir) ∧ t.tbl.sc = s.tbl.sc ∧ t.tbl.sa = s.tbl.sa
        ∧ t.tbl.cls = s.tbl.cls ∧ t.tbl.ovf = s.tbl.ovf))
  ∧ ∀ (n : Fin 4) (m : Master) (target : BitVec 2) (index : BitVec 16) (rsv : Bool) (s : State),
      ∀ c ∈ [Instr.tblInsert n m target index rsv, .tblDelete n m target index rsv, .tblModify n m target index rsv,
        .tblRead n m target index rsv, .tblSearch n m ⟨target, index⟩ rsv],
        (s.mayWrite m .TBL_CMD = false → Ends c s (s.turnAway .TBL_CMD (tblIdx n m)))
        ∧ (s.mayWrite m .TBL_CMD = true → s.get TBL_STATUS.BUSY (tblIdx n m) = 1 → Ends c s (s.set TBL_STATUS.OVERRUN (tblIdx n m) 1))

/-- R62, R65, R46 to R49, R64, R174: how table commands and the lives of SAs end. -/
def Obligations.TableCommandsAndSaLivesEnd : Prop :=
  (∀ (n : Fin 4) (m : Master) (s : State) (code inOvf loc gen : Nat) (data : Option (List Word)) (mir : TblMirror),
    Settled s → s.tblPort n m = .executed code inOvf loc gen data mir → s.tblPort n m.other = .idle → s.isActivePaired = false →
    s.get GLB_FRESET_STATUS.BUSY = 0 → code < 16 → inOvf < 2 → loc < 65536 → gen < 65536 →
    let i := tblIdx n m
    Answers (.tblCmdEnd n m) s fun t =>
      t.get TBL_STATUS.BUSY i = 0 ∧ t.get TBL_STATUS.DONE i = 1 ∧ t.get TBL_STATUS.RESULT i = code ∧ t.get TBL_STATUS.IN_OVF i = inOvf
      ∧ t.get TBL_STATUS.LOC i = loc ∧ t.get TBL_STATUS.GEN i = gen ∧ t.tblPort n m = .idle ∧ t.get EVT_SRC.STATUS (113 + 8 * n) = 1
      ∧ (∀ w, data = some w → ∀ k : Fin 8, t.word .TBL_DATA (8 * i + k) 0 = w.getD k 0)
      ∧ (data = none → ∀ k : Fin 8, t.word .TBL_DATA (8 * i + k) 0 = s.word .TBL_DATA (8 * i + k) 0)
      ∧ t.tbl.sc = s.tbl.sc ∧ t.tbl.sa = s.tbl.sa ∧ t.tbl.cls = s.tbl.cls)
  ∧ (∀ (sa : Fin 65536) (s : State) (a : SaEntry), s.sa? sa = some a → a.life = 3 → a.refs = 0 → s.wiping sa = false →
      s.get GLB_FRESET_STATUS.BUSY = 0 →
      (a.deleting = true → Settled s → (∀ c, s.sc? (scOfSa sa) = some c → c.state < 2) →
        (s.mtl.mirrorHeld = some sa.val → s.mtl.mirrorQ = []) →
        Answers (.saRetireDone sa) s fun t => t.sa? sa = none ∧ t.key? sa = none ∧ t.mtl.mirrorHeld ≠ some sa.val
          ∧ t.get TBL_OCCUPANCY.GEN (sa / 16384) = (s.get TBL_OCCUPANCY.GEN (sa / 16384) + 1) % 65536
          ∧ ∀ x, x ≠ sa.val → t.sa? x = s.sa? x)
      ∧ (a.deleting = false → a.state = 3 →
        Ends (.saRetireDone sa) s (s.putSa sa (some { a with life := 0, state := 1, kcv := (s.key? sa).elim 0 (·.kcv) })))
      ∧ (a.deleting = false → a.state ≠ 3 → Ends (.saRetireDone sa) s (s.putSa sa (some { a with life := 4, state := 0 }))))
  ∧ (∀ (sa : Fin 65536) (s : State) (a : SaEntry), s.sa? sa = some a → a.life = 3 → a.refs ≠ 0 →
      Ends (.tblRefStall sa) s (s.raise (113 + 8 * (sa / 16384)) 2 sa))
  ∧ ∀ (sa : Fin 65536) (s : State) (a : SaEntry) (c : ScEntry), Settled s → s.sa? sa = some a → a.life = 2 → s.sc? (sa / 4) = some c →
      c.rx = true → c.kraow = false →
      let retired := fun (t : State) => t.sa? sa = some { a with en := false, state := 2, life := 3 }
        ∧ t.get EVT_SRC.STATUS (114 + 8 * (sa / 16384)) = 1 ∧ t.tbl.sc = s.tbl.sc ∧ ∀ x, x ≠ sa.val → t.sa? x = s.sa? x
      Answers (.deuceWindowExpiry sa) s retired
      ∧ (s.get SAT_DEUCE_CFG.IDLE (sa / 16384) ≠ 0 → Answers (.deuceIdleExpiry sa) s retired)

/-- R68: a write to `TBL_SEED`. -/
def Obligations.SeedChangesOnlyInAnEmptyTable : Prop :=
  ∀ (n : Fin 4) (seed : BitVec 32) (clr : Bool) (s : State),
    let s1 := if clr then s.set TBL_SEED.REJ n 0 else s
    (s.get TBL_OCCUPANCY.BUCKET_ENTRIES n = 0 → s.get TBL_OCCUPANCY.OVF_ENTRIES n = 0 →
      Ends (.tblSeedWrite n seed clr true) s (s1.set TBL_SEED.SEED n seed.toNat))
    ∧ (s.get TBL_OCCUPANCY.BUCKET_ENTRIES n + s.get TBL_OCCUPANCY.OVF_ENTRIES n ≠ 0 →
      Ends (.tblSeedWrite n seed clr true) s (if seed.toNat = s.get TBL_SEED.SEED n then s1 else s1.set TBL_SEED.REJ n 1))
    ∧ Ends (.tblSeedWrite n seed clr false) s s1

/-- R77 to R81: the four commands of the shadow compare. -/
def Obligations.ShadowCompareConfirmsAndLogs : Prop :=
  (∀ (n : Fin 4) (read : List Word) (s : State), Settled s → s.get TBL_SHADOW_CTRL.STATE n = 1 → s.get GLB_THERM.STAGE = 0 →
    let pos := s.get TBL_SHADOW_STATUS.POS n
    Answers (.shadowItemCompare n read) s fun t =>
      t.get TBL_SHADOW_STATUS.POS n = (if pos + 1 < 21760 then pos + 1 else 0)
      ∧ t.get TBL_SHADOW_STATUS.PASS n = (if pos + 1 < 21760 then s.get TBL_SHADOW_STATUS.PASS n
          else (s.get TBL_SHADOW_STATUS.PASS n + 1) % 2 ^ TBL_SHADOW_STATUS.PASS.width)
      ∧ (t.unit n).shadowWaits = (s.unit n).shadowWaits ++ (if (s.shadowDiff n pos read).isSome then [⟨pos, false⟩] else [])
      ∧ t.tbl.sc = s.tbl.sc ∧ t.tbl.sa = s.tbl.sa ∧ t.tbl.cls = s.tbl.cls ∧ t.tbl.ovf = s.tbl.ovf)
  ∧ (∀ (n : Fin 4) (read : List Word) (s : State) (w : ShadowWait) (r : List ShadowWait), (s.unit n).shadowWaits = w :: r →
      let s1 := (s.putUnit n { s.unit n with shadowWaits := r }).dmaOctets 256
      (w.changed = true → Ends (.shadowConfirm n read) s (s1.inc TBL_SHADOW_STATUS.SKIPS n))
      ∧ (w.changed = false → s.shadowDiff n w.item read = none → Ends (.shadowConfirm n read) s s1)
      ∧ (∀ j k d, w.changed = false → s.shadowDiff n w.item read = some (j, k, d) → Settled s →
          (s.get TBL_SHADOW_STATUS.LOG_COUNT n < 64 →
            let i := 64 * n + s.get TBL_SHADOW_STATUS.LOG_COUNT n
            Answers (.shadowConfirm n read) s fun t =>
              t.get TBL_SHADOW_STATUS.LOG_COUNT n = s.get TBL_SHADOW_STATUS.LOG_COUNT n + 1 ∧ t.get TBL_SHADOW_STATUS.MISMATCH n = 1
              ∧ t.get TBL_SHADOW_LOG.TYPE i = (shadowType w.item).1 % 4 ∧ t.get TBL_SHADOW_LOG.ITEM i = (shadowType w.item).2 % 2 ^ TBL_SHADOW_LOG.ITEM.width
              ∧ t.get TBL_SHADOW_LOG.ENTRY i = j % 4 ∧ t.get TBL_SHADOW_LOG.WORD i = k % 8 ∧ t.get TBL_SHADOW_LOG.DIFF i = d.toNat
              ∧ t.get EVT_SRC.STATUS (113 + 8 * n) = 1 ∧ t.tbl.cls = s.tbl.cls)
          ∧ (64 ≤ s.get TBL_SHADOW_STATUS.LOG_COUNT n → Ends (.shadowConfirm n read) s (s1.inc TBL_SHADOW_LOST.LOST n))))
  ∧ (∀ (n : Fin 4) (s : State), s.get TBL_SHADOW_CTRL.STATE n ≠ 0 →
      let s1 := ((s.set TBL_SHADOW_STATUS.DMA_FAULT n 1).set TBL_SHADOW_CTRL.STATE n 0).set TBL_SHADOW_CTRL.EN n 0
      Ends (.shadowDmaFault n) s ((s1.putUnit n { s1.unit n with shadowWaits := [] }).raise (113 + 8 * n) 4))
  ∧ ∀ (n : Fin 4) (s : State), Settled s → Answers (.shadowLogClr n) s fun t =>
      t.get TBL_SHADOW_STATUS.LOG_COUNT n = 0 ∧ (∀ j : Fin 64, t.word .TBL_SHADOW_LOG (64 * n + j) 0 = 0 ∧ t.word .TBL_SHADOW_LOG (64 * n + j) 1 = 0)
      ∧ t.get TBL_SHADOW_STATUS.POS n = s.get TBL_SHADOW_STATUS.POS n ∧ OnlyRegs s t

/-- R14, R70, R72, R282, R283, Table 4-3 and Table 4-4: how a received frame reaches its sequencer. -/
def Obligations.ReceivedFramesJoinTheirSequencer : Prop :=
  (∀ (p : Fin 32) (data : List Byte) (cut : Bool) (s : State),
    ∀ how : RxEnd, (s.portUp p = false → Ends (.clientFrameRx p data how cut) s s)
    ∧ (s.portUp p = true → s.transparent p = none → data.length + 4 < 64 →
        Ends (.clientFrameRx p data how cut) s (s.inc CPX_PORT_STATUS.RUNT p))
    ∧ (s.portUp p = true → s.transparent p = none → 16000 < data.length + 4 → (cut && s.clientCut p data) = false →
        Ends (.clientFrameRx p data how cut) s (s.inc CPX_PORT_STATUS.OVERSIZE p)))
  ∧ (∀ (p : Fin 32) (data : List Byte) (cut : Bool) (s : State) (e : ClsEntry) (c : ScEntry), Settled s → s.portUp p = true →
      s.transparent p = none → 64 ≤ data.length + 4 → data.length + 4 ≤ 16000 → typeAt data 12 ≠ 0x8808 →
      s.lookup (p / 8) (s.maskedTxKey p (outerTag data).1 (outerTag data).2.1 (outerTag data).2.2 (s.etClass (p / 8) (frameEtherType data))) = some e →
      e.action = 0 → e.cls < 8 → e.letEn = false → e.mirror = false → s.sc? e.sc = some c → c.state = 1 → c.kraow = false → s.isLibero = false →
      secureLength c data false ≤ s.get LPX_PORT_CTRL.MAX_FRAME c.egPort → s.get SCH_METER.EN (accountOf p e.cls) = 0 →
      s.ingressRoom p e.cls = true →
      Answers (.clientFrameRx p data .good cut) s fun t =>
        ∃ x : Item, (t.seq (seqOf p)).fifo = (s.seq (seqOf p)).fifo ++ [x] ∧ x.data = data ∧ x.inPort = p ∧ x.cls = e.cls ∧ x.sc = e.sc
          ∧ x.scFields = some c ∧ x.sa = none ∧ x.dest = .egress (32 + c.egPort) e.cls ∧ x.stomp = false ∧ x.early = (cut && s.clientCut p data)
          ∧ t.tbl = s.tbl ∧ t.fen = s.fen)
  ∧ (∀ (p : Fin 32) (data : List Byte) (how : RxEnd) (cut : Bool) (s : State),
      (s.portUp (32 + p) = false → Ends (.lineFrameRx p data how cut) s s)
      ∧ (s.portUp (32 + p) = true → s.isKraow (32 + p) = false → s.get LPX_PORT_CTRL.MAX_FRAME p < data.length + 4 →
        Ends (.lineFrameRx p data how cut) s (s.inc LPX_PORT_STATUS.OVERSIZE p))
      ∧ (s.portUp (32 + p) = true → s.isKraow (32 + p) = false → data.length + 4 ≤ s.get LPX_PORT_CTRL.MAX_FRAME p → data.length + 4 < 64 →
        Ends (.lineFrameRx p data how cut) s (s.inc LPX_PORT_STATUS.RUNT p)))
  ∧ ∀ (p : Fin 32) (data : List Byte) (cut : Bool) (s : State) (tag : SecTag) (sci : Word) (e : ClsEntry) (c : ScEntry) (a : SaEntry),
      Settled s → s.portUp (32 + p) = true → s.isKraow (32 + p) = false → 64 ≤ data.length + 4 →
      data.length + 4 ≤ s.get LPX_PORT_CTRL.MAX_FRAME p → typeAt data 12 ≠ 0x8808 → typeAt data 12 ≠ 0x88B6 → parseSecTag data = some tag →
      tag.wellFormed data.length = true → s.sciOfRx p tag data = some sci → s.lookup (p / 8) (rxEthKey p sci) = some e → e.action = 0 → e.cls < 8 →
      s.sc? e.sc = some c → c.state = 1 → s.sa? (4 * e.sc + tag.an) = some a → s.rxSaOk c (4 * e.sc + tag.an) = true →
      (suite32 c.suite = true → tag.pn ≠ 0) → s.get SCH_METER.EN (accountOf (32 + p) e.cls) = 0 → s.ingressRoom (32 + p) e.cls = true →
      Answers (.lineFrameRx p data .good cut) s fun t =>
        t.sa? (4 * e.sc + tag.an) = some { a with refs := a.refs + 1 }
        ∧ (∀ j, j ≠ 4 * e.sc + tag.an → t.sa? j = s.sa? j) ∧ t.tbl.sc = s.tbl.sc ∧ t.tbl.cls = s.tbl.cls
        ∧ ∃ x : Item, (t.seq (seqOf (32 + p))).fifo = (s.seq (seqOf (32 + p))).fifo ++ [x] ∧ x.data = data ∧ x.cls = e.cls ∧ x.sc = e.sc
          ∧ x.scFields = some c ∧ x.sa = some (4 * e.sc + tag.an) ∧ x.dest = .egress c.egPort e.cls

/-- R71, R72, R107, R108, R372: dispatch with its PN, and release in order. -/
def Obligations.DispatchTakesThePnAndReleaseKeepsOrder : Prop :=
  (∀ (n : Fin 4) (q : Fin 16) (s : State) (it : Item) (rest : List Item), (s.seq (16 * n + q)).redo = [] → (s.seq (16 * n + q)).dev = [] →
    s.path.holds = [] → (s.seq (16 * n + q)).fifo = it :: rest → it.scFields = none → s.classHeld it = false → (s.isLibero = false ∨ 32 ≤ it.inPort) →
    let k := 16 * n.val + q.val
    let num := (s.seq k).nums.get it.cls 0
    Settled s → Answers (.sequencerDispatch n q) s fun t =>
      (t.seq k).fifo = rest ∧ (t.seq k).nums.get it.cls 0 = num + 1
      ∧ t.ro k it.cls = s.ro k it.cls ++ [⟨num, .done it⟩] ∧ { t with path := s.path } = s)
  ∧ (∀ (n : Fin 4) (q : Fin 16) (s : State) (it : Item) (rest : List Item) (c c0 : ScEntry) (a : SaEntry) (e : Nat), Settled s →
      let k := 16 * n.val + q.val
      let num := (s.seq k).nums.get it.cls 0
      (s.seq k).redo = [] → (s.seq k).dev = [] → s.path.holds = [] → (s.seq k).fifo = it :: rest → it.scFields = some c0 → it.sc < 16384 →
      c0.rx = false → c0.kraow = false → it.res.bind (·.stream) = none → s.classHeld it = false → s.isLibero = false →
      (it.inPort < 64 ∨ s.tooLong it.sc it.stream.isSome it.data = false) → s.isExpress it = false →
      s.readyEngine n q false = some e → s.sc? it.sc = some c → s.saBinds (4 * it.sc + c.curAn) c.suite = true →
      s.sa? (4 * it.sc + c.curAn) = some a → a.life = 1 → a.pn ≤ a.leaseEnd → a.pn % 2 ^ 20 ≠ 2 ^ 19 → s.ksaOn n = false →
      (∀ x, (s.thr (48 * n + e) x).stalled = false) →
      Answers (.sequencerDispatch n q) s fun t =>
        (∃ b, t.sa? (4 * it.sc + c.curAn) = some b ∧ b.pn = a.pn + 1 ∧ b.refs = a.refs + 1 ∧ b.life = 1)
        ∧ (∀ j, j ≠ 4 * it.sc + c.curAn → t.sa? j = s.sa? j) ∧ t.tbl.sc = s.tbl.sc
        ∧ (t.seq k).fifo = rest ∧ t.ro k it.cls = s.ro k it.cls ++ [⟨num, .outstanding⟩]
        ∧ ∃ w : WorkItem, (t.eng (48 * n + e)).inboxN = (s.eng (48 * n + e)).inboxN ++ [w] ∧ w.num = num
          ∧ w.it.pn = a.pn ∧ w.it.sa = some (4 * it.sc + c.curAn) ∧ w.it.data = it.data)
  ∧ ∀ (n : Fin 4) (q : Fin 16) (cls : Fin 8) (s : State) (num : Nat) (r : List RoEntry),
      let k := 16 * n.val + q.val
      (s.ro k cls = ⟨num, .dropped⟩ :: r → Ends (.reorderRelease n q cls) s (s.putRo k cls r))
      ∧ (s.ro k cls = ⟨num, .outstanding⟩ :: r → Ends (.reorderRelease n q cls) s s)
      ∧ (∀ (it : Item) (p c y : Nat), s.ro k cls = ⟨num, .done it⟩ :: r → it.isRx = false → it.dest = .egress p c → s.egressQueue p c = some y →
          Ends (.reorderRelease n q cls) s ((s.putRo k cls r).putFabric y (s.fabricList y ++ [(s.srcRegion it, it)])))

/-- R371 to R373, R385, R412: from the fabric list to the egress queue and out of the port. -/
def Obligations.FramesCrossTheFabricAndLeave : Prop :=
  (∀ (q : Fin 4096) (src : Fin 4) (s : State) (it : Item) (rest : List (Nat × Item)), takeFrom src (s.fabricList q) = some (it, rest) →
    ((src.val = q / 1024 ∨ s.credits q src ≠ 0 ∨ s.taken q it = false ∨ s.wrrNext q src it = false) → Ends (.fabricCreditGrant q src) s s)
    ∧ (src.val ≠ q / 1024 → s.credits q src = 0 → s.taken q it = true → s.wrrNext q src it = true →
      Ends (.fabricCreditGrant q src) s ((if s.isExpress it = true then s else s.wrrServe (q / 1024) it).putCredits q src 1)))
  ∧ (∀ (q : Fin 4096) (src : Fin 4) (s : State) (it : Item) (rest : List (Nat × Item)) (y : Sched), Settled s →
      takeFrom src (s.fabricList q) = some (it, rest) → (src.val = q / 1024 ∨ s.credits q src ≠ 0) → s.crossbar src it = some y →
      it.stream = none → it.ring = none →
      it.inPort < 64 → it.cls < 8 → s.get QMG_QCFG.LOSSLESS q = 0 → s.queueServes q it = true → s.queueDown q = false → s.get QMG_QCFG.QMAX q = 0 →
      (s.queue q).cells < 4 * s.get QMG_QCFG.MIN q → (s.queue q).tail.length + 4 * (s.queue q).tailLost < 128 →
      Answers (.fabricTransfer q src .ok) s fun t =>
        t.fabricList q = rest ∧ t.path.drr.get src {} = y
        ∧ t.credits q src = (if src.val = q / 1024 then s.credits q src else s.credits q src - 1)
        ∧ (t.queue q).entries = (s.queue q).entries ++ [.frame { it with cells := cellsOf (it.data.length + 4), hdrm := false, enq := s.nowNs }]
        ∧ t.tbl = s.tbl ∧ t.fen = s.fen)
  ∧ (∀ (p : Fin 64) (late cut : Bool) (s : State) (q : Nat) (it : Item) (x : Sched) (rest : List QEntry), Settled s →
      s.macSends (s.servePort p) = true → s.portBusy p it.cls = false → s.chooseMac p = some (q, it, x) → q < 4096 → (s.queue q).head = .frame it :: rest →
      s.isKraow p = false → it.ts.op = 0 → it.stomp = false → it.enc = none →
      Answers (.egressSelect p .ok late cut) s fun t =>
        t.path.sent.get p [] = s.path.sent.get p [] ++ [it.data ++ fcsBytes it.data false]
        ∧ (t.queue q).entries = (s.queue q).entries.tail ∧ t.tbl.sa = s.tbl.sa ∧ t.tbl.sc = s.tbl.sc)
  ∧ ∀ (p : Fin 64) (err : HeadErr) (late cut : Bool) (s : State), s.macSends (s.servePort p) = false → Ends (.egressSelect p err late cut) s s

/-- R87, Table 3-5: the integer instructions with their frame and the destinations that fault, the branches and the jumps. -/
def Obligations.IntegerInstructionsWriteOneRegister : Prop :=
  ∀ (g : Fin 192) (t : Fin 4) (rd rs1 rs2 : Fin 32) (imm : BitVec 16) (s : State),
    let a := s.ereg g t rs1
    let b := s.ereg g t rs2
    let forms : List (Instr × Word) :=
      [(.addE g t rd rs1 rs2, a + b), (.subE g t rd rs1 rs2, a - b), (.andE g t rd rs1 rs2, a &&& b), (.orE g t rd rs1 rs2, a ||| b),
       (.xorE g t rd rs1 rs2, a ^^^ b), (.mul g t rd rs1 rs2, a * b), (.cmp g t rd rs1 rs2, Config.cmp a b), (.lui g t rd imm, Config.lui imm),
       (.addi g t rd rs1 imm, a + (if Config.immSigned 0 then imm.signExtend 64 else imm.setWidth 64)),
       (.andi g t rd rs1 imm, a &&& (if Config.immSigned 1 then imm.signExtend 64 else imm.setWidth 64)),
       (.ori g t rd rs1 imm, a ||| (if Config.immSigned 1 then imm.signExtend 64 else imm.setWidth 64)),
       (.xori g t rd rs1 imm, a ^^^ (if Config.immSigned 1 then imm.signExtend 64 else imm.setWidth 64))]
    let shifts : List (Instr × Word) :=
      [(.shl g t rd rs1 rs2, a <<< b.toNat), (.shr g t rd rs1 rs2, a >>> b.toNat), (.sar g t rd rs1 rs2, a.sshiftRight b.toNat),
       (.rot g t rd rs1 rs2, if Config.rotLeft then a.rotateLeft b.toNat else a.rotateRight b.toNat)]
    (Settled s → s.get FEN_ENG.STATE g ≠ 0 → (s.thr g t).stalled = false → rd.val < 30 →
      (∀ f ∈ forms, Answers f.1 s (WritesE g t rd f.2 s)) ∧ (b.toNat < 64 → ∀ f ∈ shifts, Answers f.1 s (WritesE g t rd f.2 s)))
    ∧ (s.get FEN_ENG.STATE g ≠ 0 → (s.thr g t).stalled = false → 30 ≤ rd.val → ∀ f ∈ forms ++ shifts, Ends f.1 s (s.progFault g t 1))
    ∧ ((s.get FEN_ENG.STATE g = 0 ∨ (s.thr g t).stalled = true) → ∀ f ∈ forms ++ shifts, Ends f.1 s s)
    ∧ (Settled s → s.get FEN_ENG.STATE g ≠ 0 → (s.thr g t).stalled = false → ∀ off : BitVec 26,
        let x := s.ereg g t rd
        let pc := (s.thr g t).pc
        let target := fun (o : Word) => (BitVec.ofNat 64 (pc + if Config.branchFromNext then 4 else 0) + o <<< 2).toNat
        let less := if Config.branchSigned then BitVec.slt x a else BitVec.ult x a
        (∀ f ∈ [(Instr.beq g t rd rs1 imm, decide (x = a)), (.bne g t rd rs1 imm, decide (x ≠ a)), (.blt g t rd rs1 imm, less), (.bge g t rd rs1 imm, !less)],
          Answers f.1 s (JumpsTo g t (if f.2 then target (imm.signExtend 64) else (pc + 4) % 2 ^ 64) s))
        ∧ Answers (.jr g t rs1) s (JumpsTo g t a.toNat s)
        ∧ Answers (.jal g t off) s fun u => (u.thr g t).pc = target (off.signExtend 64) ∧ u.ereg g t 28 = BitVec.ofNat 64 (pc + 4)
            ∧ (∀ r, r ≠ 28 → u.ereg g t r = s.ereg g t r) ∧ OnlyThread g t s u)

/-- R91: the memory instructions of the engines. -/
def Obligations.EngineMemoryInstructions : Prop :=
  ∀ (g : Fin 192) (t : Fin 4) (size : Fin 4) (rd rs1 : Fin 32) (imm : BitVec 16) (s : State), Settled s → s.get FEN_ENG.STATE g ≠ 0 →
    (s.thr g t).stalled = false →
    let n := 2 ^ size.val
    let a := (s.ereg g t rs1 + (if Config.immSigned 2 then imm.signExtend 64 else imm.setWidth 64)).toNat
    let w := s.window g t
    (s.bankState (s.dataBank (g / 48)) = 0 →
      (rd.val < 30 → (inPrivate t a n = true ∨ inConstants a n = true) →
        Answers (.ld g t size rd rs1 imm .ok) s (WritesE g t rd (loadWord n (s.dmemRead g a n)) s))
      ∧ (inPrivate t a n = true → Answers (.st g t size rd rs1 imm .ok) s fun u =>
          u.dmemRead g a n = dataBytes n (s.ereg g t rd).toNat ∧ (∀ x, (x < a ∨ a + n ≤ x) → u.dmemRead g x 1 = s.dmemRead g x 1)
          ∧ (∀ r, u.ereg g t r = s.ereg g t r) ∧ (u.thr g t).pc = ((s.thr g t).pc + 4) % 2 ^ 64 ∧ { u with fen := s.fen } = s))
    ∧ (∀ p, rd.val < 30 → s.thrProg g t = some p →
        let at_ := (Config.ldcAddr (BitVec.ofNat 64 (s.thr g t).pc) imm).toNat
        at_ + 8 ≤ p.code.length →
        Answers (.ldc g t rd imm) s (WritesE g t rd (BitVec.ofNat 64 (dataNat ((p.code.drop at_).take 8))) s))
    ∧ (rd.val < 30 → a + 8 ≤ w.length →
        Answers (.fld g t rd rs1 imm false) s (WritesE g t rd (BitVec.ofNat 64 (dataNat ((w.drop a).take 8))) s))
    ∧ (a + 8 ≤ w.length → (s.thr g t).work ≠ none → Answers (.fst g t rd rs1 imm false) s fun u =>
        u.window g t = w.take a ++ dataBytes 8 (s.ereg g t rd).toNat ++ w.drop (a + 8) ∧ (∀ r, u.ereg g t r = s.ereg g t r) ∧ OnlyThread g t s u)
    ∧ (rd.val < 16 → a + 16 ≤ w.length → Answers (.bldf g t rd rs1 imm false) s (WritesB g t rd (frameBlock ((w.drop a).take 16)) s))
    ∧ (rd.val < 16 → a + 16 ≤ w.length → (s.thr g t).work ≠ none → Answers (.bstf g t rd rs1 imm false) s fun u =>
        u.window g t = w.take a ++ frameBytes (s.breg g t rd) ++ w.drop (a + 16) ∧ (∀ r, u.breg g t r = s.breg g t r) ∧ OnlyThread g t s u)
    ∧ (inPrivate t a n = false → Ends (.st g t size rd rs1 imm .ok) s (s.progFault g t 2))
    ∧ (rd.val < 30 → inPrivate t a n = false → inConstants a n = false → Ends (.ld g t size rd rs1 imm .ok) s (s.progFault g t 2))
    ∧ (w.length < a + 8 → Ends (.fst g t rd rs1 imm false) s (s.progFault g t 3) ∧ (rd.val < 30 → Ends (.fld g t rd rs1 imm false) s (s.progFault g t 3)))

/-- R87, R90: the block instructions. -/
def Obligations.BlockInstructionsWriteOneRegister : Prop :=
  ∀ (g : Fin 192) (t : Fin 4) (bd bs1 bs2 rs1 : Fin 32) (high : Bool) (s : State), Settled s → s.get FEN_ENG.STATE g ≠ 0 →
    (s.thr g t).stalled = false →
    let x := s.breg g t bs1
    let y := s.breg g t bs2
    let d := (s.breg g t bd).toNat
    let e := (s.ereg g t rs1).toNat
    (bd.val < 16 → bs1.val < 16 → bs2.val < 16 →
      ∀ f ∈ [(Instr.bxor g t bd bs1 bs2, x ^^^ y), (.bmov g t bd bs1, x), (.brev g t bd bs1, blockOf (blockBytes x).reverse),
          (.binc32 g t bd bs1, BitVec.ofNat 128 (x.toNat / 2 ^ 32 * 2 ^ 32 + (x.toNat % 2 ^ 32 + 1) % 2 ^ 32)),
          (.bins g t bd rs1 high, BitVec.ofNat 128 (if high then e * 2 ^ 64 + d % 2 ^ 64 else d / 2 ^ 64 * 2 ^ 64 + e)),
          (.gfmul g t bd bs1 bs2, gfMul x y), (.gfacc g t bd bs1 bs2, gfMul (s.breg g t bd ^^^ x) y)],
        Answers f.1 s (WritesB g t bd f.2 s))
    ∧ (rs1.val < 30 → bs1.val < 16 →
        Answers (.bext g t rs1 bs1 high) s (WritesE g t rs1 (BitVec.ofNat 64 (if high then x.toNat / 2 ^ 64 else x.toNat % 2 ^ 64)) s))
    ∧ (16 ≤ bd.val → ∀ c ∈ [Instr.bxor g t bd bs1 bs2, .bmov g t bd bs1, .brev g t bd bs1, .binc32 g t bd bs1, .bins g t bd rs1 high,
          .gfmul g t bd bs1 bs2, .gfacc g t bd bs1 bs2],
        Ends c s (s.progFault g t 1))

/-- R92 to R96, R113: the key and cipher instructions. -/
def Obligations.EnginesCipherUnderTheBoundKey : Prop :=
  ∀ (g : Fin 192) (t : Fin 4) (w : WorkItem) (s : State), Settled s → s.get FEN_ENG.STATE g ≠ 0 → (s.thr g t).stalled = false →
    (s.thr g t).work = some w →
    (∀ (mask : BitVec 6) (kh : Nat) (k : KeyRec), w.key = some kh → s.usableKey? kh = some k → k.limitEn = false →
      Answers (.kld g t mask) s fun u =>
        (u.thr g t).mask = mask.toNat ∧ (u.thr g t).pc = ((s.thr g t).pc + 4) % 2 ^ 64
        ∧ (∀ c : Fin 6, mask.getLsbD c = true → s.coreIn g c = true →
            ((u.eng g).cores.get c {}).kh = some kh ∧ ((u.eng g).cores.get c {}).key = k.key)
        ∧ (∀ c : Fin 6, (mask.getLsbD c = false ∨ s.coreIn g c = false) → (u.eng g).cores.get c {} = (s.eng g).cores.get c {})
        ∧ u.kst = s.kst)
    ∧ (∀ (mask : BitVec 6) (kh : Nat), w.key = some kh → s.usableKey? kh = none →
        Ends (.kld g t mask) s (s.progFault g t 6))
    ∧ (∀ (bd : Fin 32) (form : Fin 16), bd.val < 16 → 1 ≤ form.val → form.val ≤ 3 →
        Answers (.knonce g t bd form) s (WritesB g t bd (s.itemJ0 w form) s))
    ∧ (∀ (bd bs1 : Fin 32) (core : Fin 6) (kh : Nat), bd.val < 16 → bs1.val < 16 → w.key = some kh →
        s.takesBlock g t core = true → ((s.eng g).cores.get core {}).kh = some kh →
        (Answers (.cenc g t bd bs1 core false) s fun u =>
          u.breg g t bd = aesEncrypt ((s.eng g).cores.get core {}).key (s.breg g t bs1) ∧ (∀ r, r ≠ bd.val → u.breg g t r = s.breg g t r)
          ∧ (∀ r, u.ereg g t r = s.ereg g t r) ∧ (u.thr g t).pc = ((s.thr g t).pc + 4) % 2 ^ 64 ∧ (u.eng g).cores = (s.eng g).cores)
        ∧ (Answers (.cdec g t bd bs1 core false) s fun u =>
          u.breg g t bd = aesDecrypt ((s.eng g).cores.get core {}).key (s.breg g t bs1) ∧ (∀ r, r ≠ bd.val → u.breg g t r = s.breg g t r)
          ∧ (∀ r, u.ereg g t r = s.ereg g t r) ∧ (u.thr g t).pc = ((s.thr g t).pc + 4) % 2 ^ 64 ∧ (u.eng g).cores = (s.eng g).cores)
        ∧ ((s.parityRun (g / 48) ((s.eng g).cores.get core {})).length < 15 →
          ∀ c ∈ [Instr.cenc g t bd bs1 core true, .cdec g t bd bs1 core true], Answers c s fun u =>
            (u.thr g t).failed = some core.val ∧ (u.thr g t).pc = (s.thr g t).pc ∧ (∀ r, u.breg g t r = s.breg g t r)
            ∧ ((∃ d : Fin 6, d ≠ core ∧ s.coreIn g d = true) → u.takesBlock g t core = false)))
    ∧ ((s.thr g t).failed = none → ∀ core : Fin 6, s.takesBlock g t core = ((s.thr g t).mask.testBit core && s.coreIn g core))
    ∧ (∀ (bd : Fin 32) (i : Fin 128) (y : KsaSlot) (b : Block), bd.val < 16 → s.thrSlot g t = some y →
        (y.blocks[i.val]? <|> s.slotBlock y i) = some b →
        Answers (.ksget g t bd i) s (WritesB g t bd b s))
    ∧ (∀ (core : Fin 6) (y : KsaSlot) (r : List KsaSlot) (b : Block), (s.eng g).slots = y :: r → y.serving = false → y.failed = none →
        y.blocks.length < y.want + 2 → s.coreIn g core = true → s.slotBlock y y.blocks.length = some b →
        Answers (.ksaPrecharge ⟨g, core, false⟩) s fun u => { y with blocks := y.blocks ++ [b] } ∈ (u.eng g).slots)
    ∧ (∀ (n : Fin 4) (ahead : BitVec 3) (maxlen : BitVec 8), Answers (.ksaCtrlWrite n true ahead maxlen) s fun u =>
        u.get FEN_KSA_CTRL.EN n = 1 ∧ u.get FEN_KSA_CTRL.AHEAD n = ahead.toNat ∧ u.get FEN_KSA_CTRL.MAXLEN n = maxlen.toNat)
    ∧ (∀ (bs1 : Fin 32) (off : BitVec 16), bs1.val < 16 → off.toNat + 16 ≤ (s.window g t).length →
        let same := decide (frameBlock (((s.window g t).drop off.toNat).take 16) = s.breg g t bs1)
        Answers (.tagcmp g t bs1 off) s (WritesE g t 5 ((s.ereg g t 5).setBits 15 1 (if same = Config.tagcmpEqual then 1 else 0)) s))

/-- R82, R122, R154: how work items begin and end on a thread. -/
def Obligations.ThreadsTakeAndEndWorkItems : Prop :=
  ∀ (g : Fin 192) (t : Fin 4) (s : State), Settled s → s.get FEN_ENG.STATE g ≠ 0 → (s.thr g t).stalled = false →
    let inbox := if t = 3 then (s.eng g).inboxX else (s.eng g).inboxN
    (∀ w, (s.thr g t).work = some w → Ends (.waitE g t false) s s)
    ∧ ((s.thr g t).work = none → inbox = [] → s.fen.jobs.get (g / 48) [] = [] → Ends (.waitE g t false) s (s.onThr g t fun x => { x with stalled := true }))
    ∧ (∀ (w : WorkItem) (r : List WorkItem) (p : ModeProg), (s.thr g t).work = none → inbox = w :: r → w.job = none → s.fen.jobs.get (g / 48) [] = [] →
        s.progOf g (s.itemSlot w) = some p → p.suites.testBit (w.it.scFields.elim 0 (·.suite)) = true → p.form = 0 →
        Answers (.waitE g t false) s fun u =>
          (if t = 3 then (u.eng g).inboxX else (u.eng g).inboxN) = r ∧ (∃ x, (u.thr g t).work = some x ∧ x.it = w.it ∧ x.num = w.num
            ∧ x.window = w.it.data) ∧ u.ereg g t 2 = BitVec.ofNat 64 w.it.data.length ∧ u.ereg g t 3 = BitVec.ofNat 64 (w.it.sa.getD 0)
          ∧ u.ereg g t 4 = BitVec.ofNat 64 w.it.pn ∧ (u.thr g t).pc = (if w.it.isRx then p.rxEntry else p.txEntry))
    ∧ (∀ w : WorkItem, (s.thr g t).work = some w → w.job = none → w.it.isRx = false → w.it.ring = none →
        s.roGet (16 * (g / 48) + w.q) w.it.cls w.num = some .outstanding →
        (Answers (.fend g t true) s fun u =>
          (u.thr g t).work = none ∧ u.roGet (16 * (g / 48) + w.q) w.it.cls w.num = some (.done (s.sealItem w.it)))
        ∧ (w.it.inPort < 64 → w.it.cls < 8 → Answers (.fend g t false) s fun u =>
          (u.thr g t).work = none ∧ u.roGet (16 * (g / 48) + w.q) w.it.cls w.num = some .dropped))
    ∧ (∀ (w : WorkItem) (off : BitVec 16) (sa : Nat) (a : SaEntry), (s.thr g t).work = some w → w.it.isRx = true → w.it.sa = some sa →
        s.sa? sa = some a → a.early = true → s.roGet (16 * (g / 48) + w.q) w.it.cls w.num = some .outstanding →
        Answers (.erls g t off) s fun u => (∃ x, (u.thr g t).work = some x ∧ x.it.released = max w.it.released off.toNat ∧ x.it.data = w.it.data)
          ∧ (u.thr g t).pc = ((s.thr g t).pc + 4) % 2 ^ 64 ∧ u.tbl = s.tbl ∧ u.path = s.path)
    ∧ ((s.thr g t).work = none → Ends (.fend g t true) s (s.nextPc g t) ∧ Ends (.fend g t false) s (s.nextPc g t))
    ∧ (∀ (w : WorkItem) (off : BitVec 16), (s.thr g t).work = some w → (w.it.isRx = false ∨ (w.it.sa.bind s.sa?).any (·.early) = false) →
        Answers (.erls g t off) s (JumpsTo g t (((s.thr g t).pc + 4) % 2 ^ 64) s))


/-- R123: what a program fault does. -/
def Obligations.ProgramFaultEndsTheWorkItem : Prop :=
  ∀ (g : Fin 192) (t : Fin 4) (cause : Fin 8) (s : State),
    let u := s.progFault g t cause
    ((s.thr g t).work = none → u.evt.raised.length = s.evt.raised.length + 1 ∧ u.get FEN_FAULT.CAUSE (g / 48) = cause
      ∧ u.get FEN_FAULT.ENGINE (g / 48) = g % 48 ∧ u.get FEN_FAULT.COUNT (g / 48) = min (s.get FEN_FAULT.COUNT (g / 48) + 1) (2 ^ 32 - 1)
      ∧ { u with regs := s.regs, evt := s.evt } = s)
    ∧ (∀ w : WorkItem, (s.thr g t).work = some w → w.job = none → w.it.ring = none →
        s.roGet (16 * (g / 48) + w.q) w.it.cls w.num = some .outstanding → (w.it.isRx = false ∨ s.openItem w.it = none) →
        (u.thr g t).work = none ∧ u.roGet (16 * (g / 48) + w.q) w.it.cls w.num = some .dropped)

/-- R109, R124, R125, R696: fences and restores. -/
def Obligations.EngineFencesAndRestores : Prop :=
  ∀ (n : Fin 4) (e : Fin 48) (s : State),
    let g := 48 * n.val + e.val
    let out := fun (u : State) => e.val ∉ u.rotation n
    (s.get FEN_ENG.STATE g = 1 → (s.eng g).items = [] → ∀ restore, Answers (.fenFence n e restore) s fun u =>
      u.get FEN_ENG.STATE g = (if restore = true ∧ s.podServes n e = true then 3 else 2) ∧ u.get FEN_ENG.CAUSE g = 1 ∧ out u ∧ u.tbl = s.tbl)
    ∧ (s.get FEN_ENG.STATE g = 0 → Ends (.fenFence n e false) s (s.regionUpdate n))
    ∧ (s.get FEN_ENG.STATE g = 0 → s.podServes n e = true → Answers (.fenRestore n e) s fun u =>
        u.get FEN_ENG.STATE g = 1 ∧ (u.eng g).dmem = [] ∧ (u.eng g).cores = [] ∧ (u.eng g).slots = [] ∧ u.tbl = s.tbl)
    ∧ (s.get FEN_ENG.STATE g = 2 → s.podServes n e = true → Ends (.fenRestore n e) s (s.set FEN_ENG.STATE g 3))
    ∧ (s.podServes n e = false ∨ s.get FEN_ENG.STATE g = 1 ∨ s.get FEN_ENG.STATE g = 3 → Ends (.fenRestore n e) s s)
    ∧ (s.get FEN_ENG.STATE g = 2 → (s.eng g).items = [] → s.get FEN_ENG.CAUSE g ≠ 5 → Answers (.engineFenceDone n e) s fun u =>
        u.get FEN_ENG.STATE g = 0 ∧ (u.eng g).dmem = [] ∧ (u.eng g).slots = []
        ∧ (∀ c : Fin 6, ((u.eng g).cores.get c {}).kh = none ∧ ((u.eng g).cores.get c {}).key = [])
        ∧ (∀ w ∈ u.fen.wipes, g ∉ w.waiting ∧ w.waiting ≠ []) ∧ u.tbl = s.tbl)
    ∧ (s.get FEN_ENG.STATE g < 2 ∨ (s.eng g).items ≠ [] → Ends (.engineFenceDone n e) s s)
    ∧ (s.restoring n e = true → (engineDomains n e).all s.domOn = true → ∀ passed : BitVec 6,
        (passed ≠ 0 → Answers (.engineRestoreDone n e passed) s fun u =>
          u.get FEN_ENG.CORES_IN g = passed.toNat ∧ e.val ∈ u.rotation n ∧ u.get FEN_ENG.STATE g = 1)
        ∧ (passed = 0 → Answers (.engineRestoreDone n e passed) s fun u => u.get FEN_ENG.STATE g = 0 ∧ out u))
    ∧ (s.get FEN_ENG.STATE g = 1 → (s.eng g).items = [] → Answers (.engineMemoryFence n e) s fun u =>
        u.get FEN_ENG.STATE g = 2 ∧ u.get FEN_ENG.CAUSE g = 4 ∧ out u ∧ u.tbl = s.tbl)
    ∧ (∀ t : Fin 4, ((s.thr g t).work = none → Ends (.engineWatchdog n e t) s s)
      ∧ (∀ w : WorkItem, s.get FEN_ENG.STATE g = 1 → (s.thr g t).work = some w → w.job = none → (s.eng g).items = [w] →
          s.roGet (16 * n + w.q) w.it.cls w.num = some .outstanding → Answers (.engineWatchdog n e t) s fun u =>
            u.get FEN_ENG.STATE g = 2 ∧ u.get FEN_ENG.CAUSE g = 2 ∧ out u ∧ (u.eng g).items = []
            ∧ (u.seq (16 * n + w.q)).redo = (s.seq (16 * n + w.q)).redo ++ [{ w with ksaHit := false }] ∧ u.tbl = s.tbl))
    ∧ (∀ c : Fin 6, s.flag FEN_KAT_CTRL.EN n = true → s.thermPaused = false → s.fen.katPos.get n 0 = 6 * e.val + c →
        s.get FEN_POD_CTRL.STATE (6 * n + e / 8) = 1 → s.get FEN_ENG.STATE g = 1 → (s.eng g).items = [] → s.get FEN_ENG.CORES_IN g = 2 ^ c.val →
        (Answers (.katCoreTest n false) s fun u => u.get FEN_ENG.STATE g = 2 ∧ u.get FEN_ENG.CAUSE g = 3 ∧ u.get FEN_ENG.CORES_IN g = 0 ∧ out u)
        ∧ Answers (.katForcedTake n false) s fun u =>
          u.get FEN_ENG.STATE g = 2 ∧ u.get FEN_ENG.CAUSE g = 3 ∧ u.get FEN_ENG.CORES_IN g = 0 ∧ out u)
    ∧ (∀ (a : Fin 192) (kh : Fin 69632), (∃ w ∈ s.fen.wipes, w.kh = kh ∧ a.val ∈ w.waiting) →
        Answers (.keyWipeAck a kh) s fun u => ∀ w ∈ u.fen.wipes, w.kh = kh → a.val ∉ w.waiting)

/-- R110, R111, R115, R117, R126: tests, wipes and pre-charges. -/
def Obligations.EngineTestsWipesAndKeystreamAhead : Prop :=
  (∀ (n : Fin 4) (pass : Bool) (s : State),
    let x := s.fen.katPos.get n 0
    let g := 48 * n.val + x / 6
    ∀ c ∈ [Instr.katCoreTest n pass, .katForcedTake n pass],
      (s.flag FEN_KAT_CTRL.EN n = false → Ends c s s)
      ∧ (s.flag FEN_KAT_CTRL.EN n = true → s.thermPaused = false → x < 288 → s.get FEN_POD_CTRL.STATE (6 * n + x / 48) = 1 →
          s.coreIn g (x % 6) = true → s.get FEN_ENG.CORES_IN g ≠ 2 ^ (x % 6) → Answers c s fun u =>
            u.fen.katPos.get n 0 = (x + 1) % 288
            ∧ ((u.eng g).cores.get (x % 6) {}).kh = none ∧ ((u.eng g).cores.get (x % 6) {}).key = []
            ∧ (pass = true → u.get FEN_KAT_STATUS.FAILS n = s.get FEN_KAT_STATUS.FAILS n ∧ u.coreIn g (x % 6) = true)
            ∧ (pass = false → u.get FEN_KAT_STATUS.FAILS n = min (s.get FEN_KAT_STATUS.FAILS n + 1) (2 ^ FEN_KAT_STATUS.FAILS.width - 1)
              ∧ u.get FEN_KAT_STATUS.CORE n = x ∧ u.coreIn g (x % 6) = false)))
  ∧ (∀ (g : Fin 192) (kh : Fin 69632) (s : State),
      ((∀ w ∈ s.fen.wipes, w.kh = kh → g.val ∉ w.waiting) → Ends (.keyWipeAck g kh) s s)
      ∧ ((∃ w ∈ s.fen.wipes, w.kh = kh ∧ g.val ∈ w.waiting) → Settled s → Answers (.keyWipeAck g kh) s fun u =>
          (∀ x ∈ (u.eng g).slots, x.sa ≠ kh) ∧ (∀ c ∈ (u.eng g).cores, c.2.kh ≠ some kh.val)
          ∧ (∀ w ∈ u.fen.wipes, w.kh = kh → g.val ∉ w.waiting) ∧ { u with fen := s.fen } = s
          ∧ (∀ h, h ≠ g.val → u.eng h = s.eng h)))
  ∧ (∀ (g : Fin 192) (core : Fin 6) (s : State),
      ((∀ x ∈ (s.eng g).slots, x.serving = true ∨ x.want + 2 ≤ x.blocks.length) → ∀ parity, Ends (.ksaPrecharge ⟨g, core, parity⟩) s s)
      ∧ (∀ (y : KsaSlot) (p r : List KsaSlot), Settled s → (s.eng g).slots = p ++ y :: r → y ∉ r →
          (∀ x ∈ p, x.serving = true ∨ x.want + 2 ≤ x.blocks.length) → y.serving = false → y.blocks.length < y.want + 2 →
          let may := y.failed.elim (s.coreIn g core) fun f => s.reissues g core f
          (may = false → ∀ parity, Ends (.ksaPrecharge ⟨g, core, parity⟩) s s)
          ∧ (may = true → ∀ (k : KeyRec) (a : SaEntry) (c : ScEntry), s.key? y.sa = some k → s.sa? y.sa = some a → s.sc? (y.sa / 4) = some c →
            Answers (.ksaPrecharge ⟨g, core, false⟩) s fun u =>
              (u.eng g).slots = p ++ { y with failed := none, blocks := y.blocks ++ [keystreamBlock k.key
                (gcmJ0 (ivOf (formOf c.suite) c.sci a.ssci y.pn k.salt)) y.blocks.length] } :: r
              ∧ ((u.eng g).cores.get core {}).kh = some y.sa ∧ ((u.eng g).cores.get core {}).key = k.key ∧ { u with fen := s.fen } = s)
          ∧ (may = true → (s.parityRun (g / 48) ((s.eng g).cores.get core {})).length < 15 → Answers (.ksaPrecharge ⟨g, core, true⟩) s fun u =>
              (u.eng g).slots = p ++ { y with failed := some core.val } :: r ∧ u.get FEN_ENG.PERR g = min (s.get FEN_ENG.PERR g + 1)
                (2 ^ FEN_ENG.PERR.width - 1) ∧ u.coreIn g core = s.coreIn g core ∧ u.tbl = s.tbl)))
  ∧ ∀ (n : Fin 4) (ahead : BitVec 3) (maxlen : BitVec 8) (s : State),
      let x := ((s.set FEN_KSA_CTRL.EN n 1).set FEN_KSA_CTRL.AHEAD n ahead.toNat).set FEN_KSA_CTRL.MAXLEN n maxlen.toNat
      Ends (.ksaCtrlWrite n true ahead maxlen) s x
      ∧ Answers (.ksaCtrlWrite n false ahead maxlen) s fun u =>
          u.get FEN_KSA_CTRL.EN n = 0 ∧ u.get FEN_KSA_CTRL.AHEAD n = ahead.toNat ∧ u.get FEN_KSA_CTRL.MAXLEN n = maxlen.toNat
          ∧ (∀ e : Fin 48, (u.eng (48 * n + e)).slots = []) ∧ (∀ q : Fin 16, (u.seq (16 * n + q)).reqs = []) ∧ u.tbl = s.tbl

/-- R99 to R101, R104: mode programs and microcode; R169: the statistics snapshot. -/
def Obligations.ModeProgramCommands : Prop :=
  ∀ (n : Fin 4) (set : Fin 2) (slot : Fin 64) (kh : BitVec 17) (image : Option (List Byte)) (pub : List Byte) (s : State),
    let key := 128 * n.val + 64 * set.val + slot.val
    let begun := fun (c : MpCmd) => ({ s.set FEN_MP_STATUS.BUSY n 1 with fen := { s.fen with mpCmd := s.fen.mpCmd.set n (some c) none } } : State)
    (s.flag FEN_MP_STATUS.BUSY n = true → ∀ c ∈ [Instr.fenMpLoad n set slot kh image pub, .fenMpUnload n set slot, .fenMpLoadUcode n set kh image pub],
      Ends c s s)
    ∧ (s.flag FEN_MP_STATUS.BUSY n = false →
        Ends (.fenMpLoad n set slot kh none pub) s (begun ⟨2, none, none, none, none⟩)
        ∧ Ends (.fenMpLoadUcode n set kh none pub) s (begun ⟨2, none, none, none, none⟩)
        ∧ (∀ img : List Byte, mpSigner img = 0 → 256 + beNat ((img.drop 12).take 4) ≤ img.length →
            s.lcm.oroasHashes.contains (sha384 pub) = true → mpSigned img pub = true →
            (mpHeaderBad 1 img = false → mpTooLarge 1 img = false → (s.fen.progs.get key none = none ∨ s.setRuns n set = false) →
              Ends (.fenMpLoad n set slot kh (some img) pub) s ((begun ⟨0, some (key, mpProgram img), none, none, none⟩).dmaOctets img.length))
            ∧ (mpHeaderBad 2 img = false → mpTooLarge 2 img = false → s.setRuns n set = false →
              Ends (.fenMpLoadUcode n set kh (some img) pub) s ((begun ⟨0, none, none, some (2 * n.val + set.val, mpProgram img), none⟩).dmaOctets img.length)))
        ∧ ((∃ sa a, (sa, some a) ∈ s.tbl.sa ∧ sa / 16384 = n.val ∧ a.life ≠ 4 ∧ a.modeProg = slot) →
            Ends (.fenMpUnload n set slot) s (begun ⟨7, none, none, none, none⟩))
        ∧ ((∀ sa a, (sa, some a) ∈ s.tbl.sa → sa / 16384 = n.val → a.life = 4 ∨ a.modeProg ≠ slot) →
            Ends (.fenMpUnload n set slot) s (begun ⟨0, none, some key, none, none⟩)))
    ∧ (s.fen.mpCmd.get n none = none → Ends (.fenMpCmdEnd n) s s)
    ∧ (∀ c : MpCmd, Settled s → s.fen.mpCmd.get n none = some c → c.use = none → c.result < 16 →
        let ended := fun (u : State) => u.get FEN_MP_STATUS.BUSY n = 0 ∧ u.get FEN_MP_STATUS.DONE n = 1 ∧ u.get FEN_MP_STATUS.RESULT n = c.result
          ∧ u.fen.mpCmd.get n none = none ∧ u.get EVT_SRC.STATUS (115 + 8 * n) = 1 ∧ u.fen.engines = s.fen.engines ∧ u.tbl = s.tbl ∧ u.kst = s.kst
        (c.result ≠ 0 → Answers (.fenMpCmdEnd n) s fun u => ended u ∧ u.fen.progs = s.fen.progs ∧ u.fen.ucode = s.fen.ucode)
        ∧ (∀ p, c.result = 0 → c.install = some (key, p) → Answers (.fenMpCmdEnd n) s fun u =>
            ended u ∧ u.fen.progs.get key none = some p ∧ (∀ k, k ≠ key → u.fen.progs.get k none = s.fen.progs.get k none)
            ∧ u.get (if set = 0 then FEN_MP_SLOT.VALID0 else FEN_MP_SLOT.VALID1) (64 * n + slot) = 1)
        ∧ (c.result = 0 → c.install = none → c.remove = some key → Answers (.fenMpCmdEnd n) s fun u =>
            ended u ∧ u.fen.progs.get key none = none ∧ (∀ k, k ≠ key → u.fen.progs.get k none = s.fen.progs.get k none)
            ∧ u.get (if set = 0 then FEN_MP_SLOT.VALID0 else FEN_MP_SLOT.VALID1) (64 * n + slot) = 0)
        ∧ (∀ k p, c.result = 0 → c.install = none → c.remove = none → c.code = some (k, p) → Answers (.fenMpCmdEnd n) s fun u =>
            ended u ∧ u.fen.ucode.get k none = some p ∧ u.fen.progs = s.fen.progs))
    ∧ (∀ (sa : Fin 65536) (clear : Bool),
        let r := s.tbl.stat.get sa {}
        (s.flag SAT_STAT_STATUS.BUSY n = true → Ends (.satStatCmd n sa clear) s s)
        ∧ (s.flag SAT_STAT_STATUS.BUSY n = false → sa.val / 16384 ≠ n → Ends (.satStatCmd n sa clear) s (s.set SAT_STAT_STATUS.ERR n 1))
        ∧ (Settled s → s.flag SAT_STAT_STATUS.BUSY n = false → sa.val / 16384 = n.val → Answers (.satStatCmd n sa clear) s fun u =>
            u.get SAT_STAT_STATUS.BUSY n = 1 ∧ u.get SAT_STAT_STATUS.SA n = sa ∧ u.get SAT_STAT_STATUS.DIR n = (if r.rx then 1 else 0)
            ∧ (∀ i : Fin 8, u.word (if r.rx then .SAT_RXSTAT else .SAT_TXSTAT) n i = BitVec.ofNat 64 (r.ctr i)
                ∧ u.word (if r.rx then .SAT_TXSTAT else .SAT_RXSTAT) n i = 0)
            ∧ u.tbl.stat.get sa {} = (if clear then { rx := r.rx } else r) ∧ (∀ j, j ≠ sa.val → u.tbl.stat.get j {} = s.tbl.stat.get j {})
            ∧ u.tbl.sa = s.tbl.sa ∧ u.tbl.sc = s.tbl.sc ∧ { u with regs := s.regs, tbl := s.tbl } = s)
        ∧ Ends (.satStatEnd n) s (s.set SAT_STAT_STATUS.BUSY n 0))

/-- R203, R213, R214, R149: a Kraow frame sent. -/
def Obligations.KraowFramesSent : Prop :=
  ∀ (p : Fin 32) (blocks : List (Fin 32 × BitVec 2 × BitVec 64)) (fills : List (Fin 32 × Bool)) (s : State),
    let fc := (s.krwPort p).frameCount
    let c := Instr.kraowFrameTx p ⟨blocks, fills⟩
    let s1 := s.takeBlocks p blocks
    let b := s1.txBoundary p (fc % 256)
    let marker : List Byte := [0x4B, 0x3C, 0xA5, 0x96, 0x0A, 0xE1, BitVec.ofNat 8 (fc % 256), 0]
    let sends := fun (u : State) (f : List Byte) => (u.krwPort p).sent = (s.krwPort p).sent ++ [(List.range (f.length / 8)).map fun i =>
      ((if i = 0 then 2 else 1), (f.drop (8 * i)).take 8)] ∧ (u.krwPort p).frameCount = fc + 1
    ((s.judged p = false ∨ s.isLibero = true) → Ends c s s)
    ∧ (s.judged p = true → s.isLibero = false → s.krwLeased p fc = false →
        ((s.krwPort p).waited = true → Ends c s s1)
        ∧ ((s.krwPort p).waited = false → Ends c s ((s1.inc MTL_LEASE_CNT.WAITS 0).onKrw p fun k => { k with waited := true })))
    ∧ (s.judged p = true → s.isLibero = false → s.krwLeased p fc = true → b.flag KFR_CFG.TEST_CLEAR p = false →
        (b.krwTxSa p = none → Answers c s fun u => ∃ f, sends u f ∧ f.length = 8192 ∧ f.take 8 = marker
          ∧ (f.drop 37).take 11 = beBytes 8 fc ++ [0, 0, 0] ∧ (f.getD 11 0).toNat / 2 % 2 = 1 ∧ f.drop 48 = List.replicate 8144 0)
        ∧ (∀ a, b.krwTxSa p = some a → b.krwEngine p = none → Ends c s s1)
        ∧ (∀ (a e : Nat) (k : KeyRec), b.krwTxSa p = some a → b.krwEngine p = some e → b.usableKey? a = some k → k.limitEn = false →
          (∀ pay, b.progServes (48 * (p / 8) + e) (b.krwWork p a fc pay) = true) → Answers c s fun u => ∃ f oh pay,
          sends u f ∧ f = marker ++ oh ++ (gcmEncrypt k.key (ivOf 3 0 0 fc k.salt) oh pay).1
            ++ blockBytes (gcmEncrypt k.key (ivOf 3 0 0 fc k.salt) oh pay).2
          ∧ oh.length = 40 ∧ oh.drop 29 = beBytes 8 fc ++ [0, 0, 0] ∧ (oh.getD 3 0).toNat / 2 % 2 = 0))

/-- R150, R186, R210: a Kraow frame received. -/
def Obligations.KraowFramesReceived : Prop :=
  ∀ (p : Fin 32) (octets : List Byte) (s : State),
    (s.judged p = false → Ends (.kraowFrameRx p octets) s s)
    ∧ (s.judged p = true → s.krwDeaf p = true → Answers (.kraowFrameRx p octets) s fun u => (u.krwPort p).rxBuf = [] ∧ u.tbl = s.tbl)
    ∧ (s.judged p = true → s.krwDeaf p = false → s.get KFR_ALIGN.FSTATE p ≠ 0 → (s.krwPort p).rxBuf.length + octets.length / 8 * 8 < 8192 →
        Ends (.kraowFrameRx p octets) s (s.onKrw p fun k => { k with rxBuf := k.rxBuf ++ octets.take (octets.length / 8 * 8) }))
    ∧ (∀ (sa e : Nat) (a : SaEntry) (k : KeyRec), let fc := beAt octets 37 8
        let fn := s.get KFR_ALIGN.FN p
        s.judged p = true → s.get KFR_ALIGN.FSTATE p ≠ 0 → (s.krwPort p).rxBuf = [] → octets.length = 8192 →
        octets.take 8 = [0x4B, 0x3C, 0xA5, 0x96, 0x0A, 0xE1, BitVec.ofNat 8 fn, 0] → fn ≠ 0 → s.flag KFR_CFG.TEST_CLEAR p = false →
        (octets.getD 11 0).toNat / 2 % 2 = 0 → (s.keyScOf p true).map (·.1) = some (sa / 4) → sa % 4 = (octets.getD 10 0).toNat / 64 →
        s.sa? sa = some a → a.live = true → s.usableKey? sa = some k → s.krwVerifies p = true →
        let oh := (octets.drop 8).take 40
        let (pay, ok) := gcmDecrypt k.key (ivOf 3 0 0 fc k.salt) oh ((octets.drop 48).take 8128) (blockOf (octets.drop 8176))
        (ok = true → a.pn ≤ fc → s.krwJudge p octets = .accepted (some sa) pay (ecMask k.key (ivOf 3 0 0 fc k.salt)))
        ∧ (ok = true → fc < a.pn → s.krwJudge p octets = .failing true (some sa))
        ∧ (ok = false → s.krwJudge p octets = .failing false (some sa))
        ∧ (ok = true → a.pn ≤ fc → a.life = 1 → (s.krwPort p).pm.length = 9 → s.krwDeaf p = false → s.krwEngine p = some e → k.limitEn = false →
            s.progServes (48 * (p / 8) + e) (s.krwWork p sa fc ((octets.drop 48).take 8128)) = true → Answers (.kraowFrameRx p octets) s fun u =>
            u.get KFR_ALIGN.FN p = (fn + 1) % 256 ∧ (∃ x, u.sa? sa = some x ∧ x.pn = fc + 1) ∧ (u.krwPort p).rxBuf = []
            ∧ (u.krwPort p).pm.getD 8 0 = min ((s.krwPort p).pm.getD 8 0 + 1) (2 ^ 32 - 1)))

/-- R241, R243: test mode and the start-up of a tributary. -/
def Obligations.TestClearAndTributaryStartUp : Prop :=
  ∀ (p t : Fin 32) (s : State),
    (s.keyScLive p = true → Ends (.testClearWrite p true) s s) ∧ (s.keyScLive p = false → Ends (.testClearWrite p true) s (s.set KFR_CFG.TEST_CLEAR p 1))
    ∧ Ends (.testClearWrite p false) s (s.set KFR_CFG.TEST_CLEAR p 0)
    ∧ (s.judged p = false ∨ (s.krwPort p).frameCount % 256 ≠ 0 ∨ s.get KFR_TRIB.STATE (32 * p + t) ≠ 1
        ∨ (s.tribSt (32 * p + t)).begun = true ∨ (s.tribSt (32 * p + t)).wait ≠ 0 → Ends (.tribStartupBegin p t) s s)
    ∧ (Settled s → s.judged p = true → (s.krwPort p).frameCount % 256 = 0 → s.get KFR_TRIB.STATE (32 * p + t) = 1 →
        (s.tribSt (32 * p + t)).begun = false → (s.tribSt (32 * p + t)).wait = 0 → s.get KFR_TRIB.TYPE (32 * p + t) = 1 →
        Answers (.tribStartupBegin p t) s fun u =>
          (u.tribSt (32 * p + t)).begun = true ∧ (u.tribSt (32 * p + t)).newPtr = true ∧ u.get KFR_TRIB.LABEL_TX (32 * p + t) = 1
          ∧ 200 + (32 * p.val + t.val) ∈ u.service ∧ (∀ j, j ≠ 32 * p.val + t.val → u.tribSt j = s.tribSt j)
          ∧ { u with regs := s.regs, krw := s.krw, service := s.service } = s)

/-- R190 to R194, R197: the participants of the key agent. -/
def Obligations.KeyAgentParticipants : Prop :=
  ∀ (p : Fin 32) (octets : List Byte) (s : State),
    let taken : State := { s with path := { s.path with agentIn := s.path.agentIn.erase (p.val, octets) } }
    let a := s.agtPort p
    (s.agentOn = false → Ends (.mkpduRx p octets) s (s.mkpdu { inPort := 32 + p, data := octets }))
    ∧ (s.agentOn = true → (a.on = false → Ends (.mkpduRx p octets) s taken)
      ∧ (a.on = true → s.mkaGood p octets = none → Ends (.mkpduRx p octets) s (taken.macJob p octets)))
    ∧ (∀ m : Mkpdu, s.agentOn = true → a.on = true → s.mkaGood p octets = some m → a.peer = none →
        let sees := (m.lives ++ m.pots).any fun x => x.1 == a.mi && x.2 ≤ a.mn
        Answers (.mkpduRx p octets) s fun u => (u.agtPort p).peer = some ⟨m.mi, m.mn, m.sci, m.prio, sees⟩
          ∧ u.get GLB_AGT_PORT.LIVE p = (if sees then 1 else 0) ∧ u.path.agentIn = s.path.agentIn.erase (p.val, octets))
    ∧ ((s.agentOn = false ∨ a.on = false ∨ s.isLibero = true ∨ s.portUp (32 + p) = false) → Ends (.mkaHelloTimer p) s s)
    ∧ (Settled s → s.agentOn = true → a.on = true → s.isLibero = false → s.portUp (32 + p) = true → s.isKraow (32 + p) = false →
        Answers (.mkaHelloTimer p) s fun u => ∃ f : List Byte, let msg := f.take (f.length - 16)
          u.path.sent.get (32 + p) [] = s.path.sent.get (32 + p) [] ++ [f ++ fcsBytes f false]
          ∧ f = msg ++ blockBytes (cmac (s.keyOctets (69568 + 2 * p.val)) msg) ∧ (u.agtPort p).mn = a.mn + 1
          ∧ { u with agt := s.agt, fen := s.fen } = s.sendFrame (32 + p) f false)
    ∧ (a.peer = none → Ends (.mkaLifeExpiry p) s s)
    ∧ (a.peer ≠ none → s.agentOn = true → Answers (.mkaLifeExpiry p) s fun u => (u.agtPort p).peer = none ∧ u.get GLB_AGT_PORT.LIVE p = 0)
    ∧ (s.get GLB_AGT_CTRL.REKEY_S = 0 → Ends (.agentRekeyTimer p) s s)
    ∧ (let an := (a.key.elim ((s.sc? (s.agtTx p)).elim 3 (·.curAn)) (·.1) + 1) % 4
       s.agentOn = true → a.on = true → s.get GLB_AGT_PORT.ROLE p = 1 → s.flag KST_CTRL.DRBG_FAIL = false → s.drbgRefuses = false →
        s.agtFree p an = true →
        let distributes := fun (u : State) => ∃ sak : List Byte, let x := u.agtPort p
          sak.length = (if s.get GLB_AGT_PORT.SUITE p = 0 ∨ s.get GLB_AGT_PORT.SUITE p = 2 then 16 else 32)
          ∧ x.kn = a.kn + 1 ∧ x.key = some (an, a.mi, a.kn + 1)
          ∧ x.dist = some (an, a.kn + 1, keyWrap (s.keyOctets (69569 + 2 * p.val)) sak)
        (s.get GLB_AGT_CTRL.REKEY_S ≠ 0 → Answers (.agentRekeyTimer p) s distributes)
        ∧ ((∀ q : Fin 32, q ≠ p → (s.agtPort q).on = false) → Answers .agentRekey s distributes))

/-- R195, R196, R198, R200: old ANs, the missing key and the writes of `GLB_AGT_PORT`. -/
def Obligations.KeyAgentRetiresAndConfigures : Prop :=
  ∀ (p : Fin 32) (s : State),
    let a := s.agtPort p
    ((s.agentOn = false ∨ a.old = []) → Ends (.agentRetireOldAn p) s s)
    ∧ (∀ an, s.agentOn = true → a.old = [an] →
        (s.agtFree p an = true →
          Ends (.agentRetireOldAn p) s (s.onAgt p fun x => { x with old := [], oldKey := x.oldKey.filter fun k => k.1 != an }))
        ∧ (∀ y, s.sa? (4 * s.agtRx p + an) = some y → y.life < 3 → Ends (.agentRetireOldAn p) s s)
        ∧ (∀ x, s.sa? (4 * s.agtTx p + an) = some x → x.life = 4 → x.deleting = false →
            s.saDeleteCode ((4 * s.agtTx p + an) / 16384) (4 * s.agtTx p + an) = 0 → s.agtRx p ≠ s.agtTx p →
            s.sa? (4 * s.agtRx p + an) = none → an < 4 →
            Answers (.agentRetireOldAn p) s fun u =>
              u.sa? (4 * s.agtTx p + an) = some { x with en := false, state := 2, life := 3, deleting := true } ∧ (u.agtPort p).old = [an]
              ∧ u.tbl.sc = s.tbl.sc))
    ∧ (let due := s.agentOn && s.get GLB_AGT_PORT.ROLE p == 2 && s.flag GLB_AGT_PORT.LIVE p && !a.fresh
       Ends (.noFreshSakTimeout p) s (if due then s.raise 150 3 p else s))
    ∧ ∀ w : Word, let old := s.word .GLB_AGT_PORT p 0
        let stored := s.setWord .GLB_AGT_PORT p 0 ((((w.setBits 1 3 (old.bits 1 3)).setBits 15 1 0).setBits 30 2 0).setBits 58 1 0)
        (s.flag GLB_AGT_PORT.EN p = true → agtPortFields w ≠ agtPortFields old → Ends (.agtPortWrite p w) s s)
        ∧ (agtPortFields w = agtPortFields old ∨ s.flag GLB_AGT_PORT.EN p = false →
            (w.flag 0 = s.flag GLB_AGT_PORT.EN p → Ends (.agtPortWrite p w) s stored)
            ∧ (Settled s → w.flag 0 = false → s.flag GLB_AGT_PORT.EN p = true → Answers (.agtPortWrite p w) s fun u =>
                (u.agtPort p).on = false ∧ (u.agtPort p).peer = none ∧ u.get GLB_AGT_PORT.EN p = 0 ∧ u.get GLB_AGT_PORT.ROLE p = 0
                ∧ u.get GLB_AGT_PORT.LIVE p = 0 ∧ { u with regs := s.regs, agt := s.agt } = s)
            ∧ (w.flag 0 = true → s.flag GLB_AGT_PORT.EN p = false → s.agentOn = true →
                (stored.agtConfigOk p = true → Answers (.agtPortWrite p w) s fun u =>
                  let cak := s.keyOctets (65536 + w.bits 46 12)
                  let ctx := (stored.cknOf p ++ List.replicate 16 0).take 16
                  (u.agtPort p).on = true ∧ (u.agtPort p).mn = 0 ∧ (u.agtPort p).peer = none ∧ u.get GLB_AGT_PORT.EN p = 1
                  ∧ (u.key? (69568 + 2 * p.val)).map (·.key) = some (mkaKdf cak (ascii "IEEE8021 ICK") ctx (8 * cak.length))
                  ∧ (u.key? (69569 + 2 * p.val)).map (·.key) = some (mkaKdf cak (ascii "IEEE8021 KEK") ctx (8 * cak.length)))
                ∧ (Settled s → stored.agtConfigOk p = false → Answers (.agtPortWrite p w) s fun u =>
                  (u.agtPort p).on = false ∧ u.get GLB_AGT_PORT.ROLE p = 0 ∧ u.get EVT_SRC.STATUS 150 = 1 ∧ u.kst = s.kst)))

/-- R244, R251, R265: defects and the one-second snapshot. -/
def Obligations.DefectsAndSeconds : Prop :=
  (∀ (p : Fin 32) (i : Fin 5) (s : State),
    let there := s.defectPresent p i
    (s.judged p = false ∨ (there = true ∧ (i = 1 ∨ i = 2)) ∨ (there = false ∧ i = 4) → Ends (.defectIntegrationExpiry p i) s s)
    ∧ (s.judged p = true → ((there = true ∧ i ≠ 1 ∧ i ≠ 2) ∨ (there = false ∧ i ≠ 4)) →
        Answers (.defectIntegrationExpiry p i) s fun u =>
          let k := u.krwPort p
          let top := topDefect k.raw k.plm
          k.raw.testBit i = there ∧ (∀ j, j ≠ i.val → k.raw.testBit j = (s.krwPort p).raw.testBit j)
          ∧ u.get KFR_DEFECT.DECL p = (if top < 11 then 2 ^ top else 0)))
  ∧ ∀ (fec : List (Fin 32 × BitVec 48 × BitVec 32)) (p : Fin 32) (s : State), (∀ x ∈ fec, x.1 ≠ p) →
      (s.krwPort p).pm.length = 9 → (∀ c ∈ (s.krwPort p).pm, c < 2 ^ 32) →
      Answers (.pmSecondBoundary fec) s fun u =>
        let c := fun i => (s.krwPort p).pm.getD i 0
        u.word .KFR_PM_SNAP p 0 = BitVec.ofNat 64 (c 0 + c 1 * 2 ^ 32) ∧ u.word .KFR_PM_SNAP p 1 = BitVec.ofNat 64 (c 2)
        ∧ u.word .KFR_PM_SNAP p 2 = BitVec.ofNat 64 (c 3 + c 4 * 2 ^ 32) ∧ u.word .KFR_PM_SNAP p 3 = BitVec.ofNat 64 (c 5 + c 6 * 2 ^ 32)
        ∧ u.word .KFR_PM_SNAP p 4 = BitVec.ofNat 64 (c 7 + c 8 * 2 ^ 32)
        ∧ u.get KFR_PM_SNAP.SEQ p = (s.get KFR_PM_SNAP.SEQ p + 1) % 2 ^ 32 ∧ (u.krwPort p).pm = [0, 0, 0, 0, 0, 0, 0, 0, 0]

/-- R260 to R262, R264: the protection groups. -/
def Obligations.ProtectionGroups : Prop :=
  ∀ (g : Fin 16) (s : State),
    let w := s.pgW g
    let pp := s.pgP g
    let calm := s.krwUnusable w = false ∧ s.krwUnusable pp = false ∧ s.get KFR_DEFECT.SD w = 0
    let forms : List (Instr × Nat × Bool × Nat) :=
      [(.pgCmdLockout g, 1, false, 1), (.pgCmdForceP g, 2, true, 3), (.pgCmdManualW g, 3, false, 6), (.pgCmdManualP g, 4, true, 6)]
    (s.get FAB_PG_CFG.STATE g ≠ 1 → Ends (.pgCmdNone g) s (s.set FAB_PG_CFG.CMD g 0)
      ∧ ∀ f ∈ forms, Ends f.1 s (s.set FAB_PG_CFG.CMD g f.2.1))
    ∧ (Settled s → s.get FAB_PG_CFG.STATE g = 1 → calm → ∀ f ∈ forms, Answers f.1 s fun u =>
        u.get FAB_PG_CFG.CMD g = f.2.1 ∧ (u.pg g).want = f.2.2.1 ∧ u.get FAB_PG_STATUS.REQ g = f.2.2.2 ∧ u.get FAB_PG_STATUS.WTR g = 0
        ∧ u.get FAB_PG_STATUS.SEL g = s.get FAB_PG_STATUS.SEL g ∧ { u with regs := s.regs, krw := s.krw } = s)
    ∧ (Settled s → s.get FAB_PG_CFG.STATE g = 1 → calm → s.get FAB_PG_CFG.REVERT g = 0 → Answers (.pgCmdNone g) s fun u =>
        u.get FAB_PG_CFG.CMD g = 0 ∧ (u.pg g).want = (s.pg g).want ∧ u.get FAB_PG_STATUS.REQ g = 8 ∧ u.get FAB_PG_STATUS.WTR g = 0
        ∧ { u with regs := s.regs } = s)
    ∧ ((s.get FAB_PG_CFG.STATE g = 0 ∨ s.flag FAB_PG_STATUS.SEL g = (s.pg g).want) → Ends (.protectionSwitch g) s s)
    ∧ (Settled s → s.get FAB_PG_CFG.STATE g ≠ 0 → s.flag FAB_PG_STATUS.SEL g ≠ (s.pg g).want → w ≠ pp → Answers (.protectionSwitch g) s fun u =>
        let old := if (s.pg g).want then w else pp
        let new := if (s.pg g).want then pp else w
        let volley := fun (it : Item) => it.stream.any fun st => s.flag LET_STREAM_CFG.VOLLEY st
        u.flag FAB_PG_STATUS.SEL g = (s.pg g).want ∧ u.get FAB_PG_STATUS.SWITCHED g = 1
        ∧ u.get FAB_PG_STATUS.SWITCHES g = min (s.get FAB_PG_STATUS.SWITCHES g + 1) 65535 ∧ u.get EVT_SRC.STATUS (64 + g) = 1
        ∧ (∀ t : Fin 32, u.krw.mapper.get (32 * old + t) [] = (s.krw.mapper.get (32 * old + t) []).filter volley
          ∧ u.krw.mapper.get (32 * new + t) []
            = (s.krw.mapper.get (32 * old + t) []).filter (fun x => !volley x) ++ s.krw.mapper.get (32 * new + t) []
          ∧ (∀ x : CrateRun, (s.tribSt (32 * old + t)).cur = some x → (u.tribSt (32 * old + t)).cur = none
            ∧ (u.tribSt (32 * old + t)).carry = (s.tribSt (32 * old + t)).carry ++ crate 3 (x.exp + 1) [0, 0, 0, 0])))
    ∧ (s.flag FAB_PG_STATUS.WTR g = false → Ends (.wtrExpiry g) s s)
    ∧ (s.flag FAB_PG_STATUS.WTR g = true → s.get FAB_PG_CFG.STATE g = 1 → calm → s.get FAB_PG_CFG.CMD g = 0 → s.get FAB_PG_CFG.REVERT g = 1 →
        Answers (.wtrExpiry g) s fun u => u.get FAB_PG_STATUS.WTR g = 0 ∧ u.get FAB_PG_STATUS.WTR_LEFT g = 0 ∧ u.get FAB_PG_STATUS.REQ g = 8
          ∧ (u.pg g).want = false)
    ∧ (let differs := (s.krwPort pp).selRx ≠ s.flag FAB_PG_STATUS.SEL g ∨ (s.krwPort w).selRx = s.flag FAB_PG_STATUS.SEL g
       (s.get FAB_PG_CFG.STATE g = 1 → differs → s.flag FAB_PG_STATUS.UNUSE_W g = false → s.flag FAB_PG_STATUS.UNUSE_P g = false →
          Ends (.protectionMismatchTimer g) s ((s.set FAB_PG_STATUS.MISMATCH g 1).raise (64 + g) 2 g))
       ∧ ((s.get FAB_PG_CFG.STATE g ≠ 1 ∨ ¬ differs ∨ s.flag FAB_PG_STATUS.UNUSE_W g = true ∨ s.flag FAB_PG_STATUS.UNUSE_P g = true) →
          Ends (.protectionMismatchTimer g) s s))

/-- R272, R284 to R287: bring-up. -/
def Obligations.BringUpFollowsItsStates : Prop :=
  ∀ (p : Fin 66) (s : State),
    let falls := fun (cause : Nat) (u : State) => u.bst p = (if s.nearLoop p then 3 else 1)
      ∧ (if p.val < 32 then u.get CPX_PORT_STATUS.FAIL_CAUSE p else if p.val < 64 then u.get LPX_PORT_STATUS.FAIL_CAUSE (p - 32)
          else u.get MTL_LANE_STATUS.FAIL_CAUSE (p - 64)) = cause
      ∧ (u.portSt p).run = (s.portSt p).run + 1
    (∀ sig, Ends (.laneSignalChange p sig) s
      (if p.val < 64 then s.set LNS_LANE.SIG p (if sig then 1 else 0) else s.set MTL_LANE_STATUS.SIG (p - 64) (if sig then 1 else 0)))
    ∧ (s.phase p = 1 → s.allSignal p = true → Ends (.detectSignalTimer p) s (s.setBst p 2))
    ∧ (s.phase p ≠ 1 ∨ s.allSignal p = false → Ends (.detectSignalTimer p) s s)
    ∧ (s.phase p = 2 → Ends (.trainComplete p) s (s.setBst p 3) ∧ Answers (.trainTimeout p) s (falls 1))
    ∧ (s.phase p ≠ 2 → Ends (.trainComplete p) s s ∧ Ends (.trainTimeout p) s s)
    ∧ (s.phase p = 3 → s.loopMode p ≠ 3 → Answers (.lockTimeout p) s (falls 2)
        ∧ (s.huddles p = true → Answers (.lockAchieved p) s fun u => u.bst p = 4 ∧ (u.portSt p).hudSeq = 0 ∧ (u.portSt p).hudAcks = 0
            ∧ (u.portSt p).hudMatch = false ∧ (u.portSt p).hudAcked = false ∧ (u.portSt p).hudPeer = none)
        ∧ (s.huddles p = false → Answers (.lockAchieved p) s fun u => u.bst p = 5 ∧ (u.portSt p).run = 0
            ∧ (p.val < 64 → 100 + p.val ∈ u.service)))
    ∧ (s.phase p ≠ 3 → Ends (.lockTimeout p) s s ∧ (s.phase p ≠ 4 → s.phase p ≠ 5 → Ends (.lockAchieved p) s s))
    ∧ (s.phase p = 4 → Answers (.lockAchieved p) s fun u => u.bst p = 4 ∧ (u.portSt p).lockLost = false ∧ u.tbl = s.tbl)
    ∧ (s.phase p = 5 → Answers (.lockAchieved p) s fun u => u.bst p = 5 ∧ (u.portSt p).lockLost = false ∧ u.tbl = s.tbl)
    ∧ (∀ (lane : Fin 8) (kind : LockKind),
        (s.phase p ≠ 3 → s.phase p ≠ 4 → s.phase p ≠ 5 → Ends (.lockLoss p lane kind) s s)
        ∧ (s.phase p = 4 → Answers (.lockLoss p lane kind) s fun u => u.bst p = 4 ∧ (u.portSt p).lockLost = true)
        ∧ (s.phase p = 3 → Answers (.lockLoss p lane kind) s fun u => u.bst p = 3
            ∧ (∀ j, (s.lanesOf p)[lane.val]? = some j → kind = .bit → u.get LNS_LANE.BIT_LOCK j = 0 ∧ u.get LNS_LANE.BLOCK_LOCK j = 0)
            ∧ (∀ j, (s.lanesOf p)[lane.val]? = some j → kind = .block → u.get LNS_LANE.BLOCK_LOCK j = 0))
        ∧ (s.phase p = 5 → s.isKraow p = false → Answers (.lockLoss p lane kind) s fun u => u.bst p = 5 ∧ (u.portSt p).lockLost = true))
    ∧ (s.phase p ≠ 5 → Ends (.holdTimeout p) s s)
    ∧ (s.phase p = 5 → (s.portSt p).lockLost = true → s.path.reorder = [] → (∀ q < 4096, s.get QMG_QCFG.ROLE q ≠ 1) →
        Answers (.holdTimeout p) s (falls 5))
    ∧ (s.phase p = 5 → (s.portSt p).lockLost = false → (s.isKraow p = false ∨ 64 ≤ p.val) → Ends (.holdTimeout p) s s)

/-- R288 to R290: the huddle. -/
def Obligations.HuddleEndsWhenBothSidesAgree : Prop :=
  ∀ (p : Fin 66) (s : State),
    let x := s.portSt p
    (s.phase p ≠ 4 ∨ s.transmits p = false → Ends (.huddleMsgTx p) s s)
    ∧ (s.phase p = 4 → s.transmits p = true → Answers (.huddleMsgTx p) s fun u =>
        (∃ f, u.path.sent.get p [] = s.path.sent.get p [] ++ [f ++ fcsBytes f false] ∧ f.drop 14 = s.hudContent p x.hudMatch)
        ∧ (u.portSt p).hudSeq = x.hudSeq + 1 ∧ (u.portSt p).hudAcks = x.hudAcks + (if x.hudMatch then 1 else 0)
        ∧ u.bst p = (if 3 ≤ x.hudAcks + (if x.hudMatch then 1 else 0) ∧ x.hudAcked = true ∧ x.hudDiffers = false then 5 else 4))
    ∧ (∀ content : List Byte, let m := content.take 64
        (hudValid m = false ∨ s.phase p < 4 → Ends (.huddleMsgRx p content) s s)
        ∧ (hudValid m = true → s.phase p = 4 → 32 ≤ p.val → p.val < 64 → s.transmits p = true →
            let ack := octet m 1 / 128 == 1
            ((octet m 2, octet m 3, octet m 4) = s.hudOwn p → Answers (.huddleMsgRx p content) s fun u =>
              (u.portSt p).hudPeer = some m ∧ (u.portSt p).hudMatch = (!x.hudDiffers) ∧ (u.portSt p).hudAcked = (x.hudAcked || ack)
              ∧ u.bst p = (if 3 ≤ x.hudAcks ∧ (x.hudAcked || ack) = true ∧ x.hudDiffers = false then 5 else 4))
            ∧ ((octet m 2, octet m 3, octet m 4) ≠ s.hudOwn p → Answers (.huddleMsgRx p content) s fun u =>
              (u.portSt p).hudPeer = some m ∧ (u.portSt p).hudMatch = false ∧ (u.portSt p).hudDiffers = true ∧ u.bst p = 4
              ∧ u.get LPX_PORT_STATUS.FAIL_CAUSE (p - 32) = 4))
        ∧ (hudValid m = true → s.phase p = 5 → 32 ≤ p.val → p.val < 64 → s.isKraow p = false → s.flag LPX_PORT_CTRL.HUD_EN (p - 32) = true →
            (octet m 2, octet m 3, octet m 4) = s.hudOwn p → Answers (.huddleMsgRx p content) s fun u => (u.portSt p).hudPeer = some m ∧ u.bst p = 5)
        ∧ (hudValid m = true → s.phase p = 4 → 64 ≤ p.val → beAt m 8 8 ≠ s.pairId → Answers (.huddleMsgRx p content) s fun u =>
            u.bst p = 1 ∧ u.get MTL_LANE_STATUS.FAIL_CAUSE (p - 64) = 4))
    ∧ (s.phase p ≠ 4 → Ends (.huddleTimeout p) s s)
    ∧ (s.phase p = 4 → Answers (.huddleTimeout p) s fun u => u.bst p = (if s.nearLoop p then 3 else 1)
        ∧ (if p.val < 32 then u.get CPX_PORT_STATUS.FAIL_CAUSE p else if p.val < 64 then u.get LPX_PORT_STATUS.FAIL_CAUSE (p - 32)
          else u.get MTL_LANE_STATUS.FAIL_CAUSE (p - 64)) = (if x.hudDiffers then 4 else 3))

/-- R297, R298, Table 8-6: what an Ethernet port receives besides frames. -/
def Obligations.EthernetSupportActsOnItsPort : Prop :=
  ∀ (p : Fin 64) (s : State),
    ((s.portUp p = false ∨ s.isKraow p = true) → (∀ on, Ends (.linkFaultRx p on) s s) ∧ ∀ e n, Ends (.pfcFrameRx p e n) s s)
    ∧ (s.portUp p = true → s.isKraow p = false →
        (∀ on : Bool, (p.val < 32 → Ends (.linkFaultRx p on) s (s.set CPX_PORT_STATUS.LF_RF p (if on then 1 else 0)))
          ∧ (32 ≤ p.val → Answers (.linkFaultRx p on) s fun u => u.get LPX_PORT_STATUS.LF_RF (p - 32) = (if on then 1 else 0)))
        ∧ (∀ e n : BitVec 8, Settled s → Answers (.pfcFrameRx p e n) s fun u =>
          (∀ c : Fin 8, (u.portSt p).paused.testBit c
            = (if e.getLsbD c && (s.portCtl CPX_PORT_CTRL.PFC_RX LPX_PORT_CTRL.PFC_RX p).testBit c then n.getLsbD c else (s.portSt p).paused.testBit c))
          ∧ (∀ q, q ≠ p.val → u.portSt q = s.portSt q) ∧ { u with regs := s.regs, ports := s.ports } = s
          ∧ (if p.val < 32 then u.get CPX_PORT_STATUS.CTL_DROP p = min (s.get CPX_PORT_STATUS.CTL_DROP p + 1) (2 ^ CPX_PORT_STATUS.CTL_DROP.width - 1)
             else u.get LPX_PORT_STATUS.CTL_DROP (p - 32)
               = min (s.get LPX_PORT_STATUS.CTL_DROP (p - 32) + 1) (2 ^ LPX_PORT_STATUS.CTL_DROP.width - 1))))
    ∧ (let mask := s.pausedMask p
       (mask = 0 ∨ s.macSends p = false ∨ s.isKraow p = true → Ends (.pfcRefresh p) s s)
       ∧ (mask ≠ 0 → s.macSends p = true → s.isKraow p = false → Ends (.pfcRefresh p) s (s.sendFrame p (pfcFrame p mask 0xFFFF) false)))
    ∧ (∀ c : Fin 8, Settled s → Answers (.pfcPauseExpiry p c) s fun u => (u.portSt p).paused.testBit c = false
        ∧ (∀ d, d ≠ c.val → (u.portSt p).paused.testBit d = (s.portSt p).paused.testBit d) ∧ { u with ports := s.ports } = s)
    ∧ ∀ k : Fin 32, (s.get LPX_PORT_STATUS.PE k ≠ 1 → ∀ ok, Ends (.preemptVerifyEnd k ok) s s)
        ∧ (s.get LPX_PORT_STATUS.PE k = 1 → Ends (.preemptVerifyEnd k true) s (s.set LPX_PORT_STATUS.PE k 2)
          ∧ Ends (.preemptVerifyEnd k false) s ((s.set LPX_PORT_STATUS.PE k 3).raise (32 + k) 4 (32 + k)))

/-- R275, R277, R300, R301, R380: lanes and port complexes. -/
def Obligations.LanesAndPortComplexes : Prop :=
  (∀ (lane : Fin 64) (gen chk : BitVec 2) (s : State),
    let starts := (gen ≠ 0 ∧ gen ≠ 3) ∨ (chk ≠ 0 ∧ chk ≠ 3)
    let off := s.portState (s.lanePort lane) = 0
    (starts → ¬ off → Ends (.prbsWrite lane gen chk) s s)
    ∧ (¬ starts ∨ off → Answers (.prbsWrite lane gen chk) s fun u =>
        u.get LNS_LANE.PRBS_GEN lane = (if gen = 3 then s.get LNS_LANE.PRBS_GEN lane else gen.toNat)
        ∧ u.get LNS_LANE.PRBS_CHK lane = (if chk = 3 then s.get LNS_LANE.PRBS_CHK lane else chk.toNat) ∧ u.path = s.path ∧ u.tbl = s.tbl)
    ∧ (off → s.get LNS_LANE.RETIRED lane = 1 → lane.val ∉ s.laneTests → Ends (.laneRestore lane) s { s with laneTests := s.laneTests ++ [lane.val] })
    ∧ (¬ off ∨ s.get LNS_LANE.RETIRED lane = 0 ∨ lane.val ∈ s.laneTests → Ends (.laneRestore lane) s s)
    ∧ (lane.val ∉ s.laneTests → ∀ ok, Ends (.laneRestoreDone lane ok) s s)
    ∧ (lane.val ∈ s.laneTests → let s1 := { s with laneTests := s.laneTests.filter (· != lane.val) }
        Ends (.laneRestoreDone lane true) s (s1.set LNS_LANE.RETIRED lane 0) ∧ Ends (.laneRestoreDone lane false) s s1))
  ∧ ∀ (side : Side) (n : Fin 4) (s : State),
      let line := side == .line
      let ports := complexPorts line n
      ((∀ p ∈ ports, s.bstate p ≠ 5) → Answers (.portComplexFence side n) s fun u =>
        (if line then u.get LPX_CFG.FENCED n else u.get CPX_CFG.FENCED n) = 1 ∧ .complex line n ∈ u.fen.blocks
        ∧ (∀ p ∈ ports, u.portState p = 0 ∧ (s.portState p ≠ 0 → u.bstate p = 0)) ∧ u.get GLB_REGION_STATUS.LEVEL n = 2)
      ∧ ∀ mode : BitVec 4,
        ((8 < mode.toNat ∨ ∃ p ∈ ports, s.portState p ≠ 0) → Ends (.pmodeWrite side n mode) s s)
        ∧ (mode.toNat ≤ 8 → (∀ p ∈ ports, s.portState p = 0) →
            let set := if line then s.set LPX_CFG.PMODE n mode.toNat else s.set CPX_CFG.PMODE n mode.toNat
            (0 ≤ set.poolSize n → Answers (.pmodeWrite side n mode) s fun u =>
              (if line then u.get LPX_CFG.PMODE n else u.get CPX_CFG.PMODE n) = mode.toNat
              ∧ (line = true → ∀ k : Fin 8, u.get KFR_CFG.RATE (8 * n + k) = (if modeRate mode.toNat = 800 then 1 else if modeRate mode.toNat = 1600
                  then 2 else 0)))
            ∧ (set.poolSize n < 0 → Answers (.pmodeWrite side n mode) s fun u =>
              (if line then u.get LPX_CFG.PMODE n else u.get CPX_CFG.PMODE n) = (if line then s.get LPX_CFG.PMODE n else s.get CPX_CFG.PMODE n)
              ∧ u.get FAB_BUF_STATUS.REJ n = 1))

/-- R318 to R320, R324, R325, R328 to R330, R334, R337, R338: a let stream's messages and timers. -/
def Obligations.LetStreamsAcknowledgeAndReplay : Prop :=
  ∀ (st : Fin 256) (sc : Option (Fin 16384)) (port : Fin 32) (inst : BitVec 32) (value next : BitVec 64) (ranges : List (BitVec 64 × BitVec 64))
      (s : State),
    let x := s.letS st
    let cum := s.get LET_STREAM_STATUS.CUM st
    let rx := s.get LET_STREAM_STATUS.RX_NEXT st
    let ports := (s.letCtlPorts st).filter s.letUsable
    let via := s.letViaOk st (sc.map (·.val)) port = true
    let mine := inst.toNat = s.get LET_STREAM_STATUS.INSTANCE st ∧ value.toNat < s.get LET_STREAM_STATUS.NEXT st
    let rejected := s.incWrap LET_CNT.REJECTED st
    let sends := fun (m : LetMsg) (u : State) => u.lets.sent = s.lets.sent ++ ports.map fun p => (p, m)
    let acked := fun (u : State) => u.get LET_STREAM_STATUS.CUM st = max cum value.toNat ∧ u.get LET_STREAM_STATUS.LINKED st = 1
      ∧ (u.letS st).records = x.records.filter fun r => max cum value.toNat < r.number
    let nak := 0 < ranges.length ∧ ranges.length ≤ 16
    (via → mine → Answers (.letAckRx st sc port inst value) s acked
      ∧ (nak → Answers (.letNakRx st sc port inst value ranges) s fun u => acked u
        ∧ ((s.letAckApply st value.toNat).get LET_STREAM_STATUS.MODE st = 0 → ∀ r ∈ x.records, max cum value.toNat < r.number → r.replayedAt = none →
            (∃ c ∈ ranges, c.1.toNat ≤ r.number ∧ r.number ≤ c.2.toNat) → r.number ∈ (u.letS st).nakked)))
    ∧ (¬ via ∨ ¬ mine → Ends (.letAckRx st sc port inst value) s rejected ∧ Ends (.letNakRx st sc port inst value ranges) s rejected)
    ∧ (¬ via ∨ 16 < ranges.length → Ends (.letHelloRx st sc port inst value next ranges) s rejected)
    ∧ (via → s.isLibero = false → ranges.length ≤ 16 →
        (x.peer ≠ some inst.toNat → Answers (.letHelloRx st sc port inst value next ranges) s fun u =>
          (u.letS st).peer = some inst.toNat ∧ u.get LET_STREAM_STATUS.RX_NEXT st = value.toNat ∧ (u.letS st).held = [] ∧ (u.letS st).helloNext = next.toNat
          ∧ sends ⟨1, st, inst.toNat, value.toNat - 1, 0, []⟩ u)
        ∧ (x.peer = some inst.toNat → Answers (.letHelloRx st sc port inst value next ranges) s fun u =>
          (u.letS st).peer = some inst.toNat ∧ (u.letS st).helloNext = next.toNat))
    ∧ (s.letServes st = false → ∀ c ∈ [Instr.letAckTimer st, .letHelloTimer st, .letSkewExpiry st value, .letNakRepeat st, .letLossExpiry st value next,
        .letAckTimeout st, .letReplaySend st], Ends c s s)
    ∧ (s.letServes st = true → s.isLibero = false →
        (x.peer ≠ none → Answers (.letAckTimer st) s (sends (s.letAck st)))
        ∧ Answers (.letHelloTimer st) s (sends (s.letHello st))
        ∧ (∀ g : LetGap, x.gaps = [g] → x.peer ≠ none →
            (g.first ≤ value.toNat → value.toNat ≤ g.last → g.skewEnded = false → Answers (.letSkewExpiry st value) s fun u =>
              (u.letS st).gaps = [{ g with skewEnded := true, naked := true }] ∧ sends { s.letAck st with subtype := 2, ranges := [(g.first, g.last)] } u)
            ∧ (g.skewEnded = true → Answers (.letNakRepeat st) s fun u =>
              (u.letS st).gaps = [{ g with naked := true }] ∧ sends { s.letAck st with subtype := 2, ranges := [(g.first, g.last)] } u)
            ∧ (g.naked = true → g.first = rx → g.first ≤ g.last → x.held = [] → x.lost = [] → value.toNat = g.first → next.toNat = g.last →
                g.last < 2 ^ 64 - 1 → Settled s → Answers (.letLossExpiry st value next) s fun u => u.get LET_STREAM_STATUS.RX_NEXT st = g.last + 1
                  ∧ u.get LET_CNT.LOSS st = (s.get LET_CNT.LOSS st + (g.last + 1 - g.first)) % 2 ^ LET_CNT.LOSS.width
                  ∧ u.get EVT_SRC.STATUS (80 + st / 8) = 1))
        ∧ (s.get LET_STREAM_STATUS.MODE st = 0 → s.get LET_STREAM_CFG.RETAIN st = 1 → cum < s.get LET_STREAM_STATUS.NEXT st - 1 → s.letAnyUsable st = true →
            Answers (.letAckTimeout st) s fun u => (u.letS st).replayPoint = cum + 1 ∧ u.tbl = s.tbl
              ∧ u.get LET_STREAM_STATUS.MODE st = (if x.records.any fun r => cum < r.number then 2 else 0))
        ∧ (s.letReplayReady st = false → Ends (.letReplaySend st) s s)
        ∧ (∀ y, s.letReplayPorts st ≠ [] → s.letReplayReady st = true → s.get LET_STREAM_STATUS.MODE st = 2 → x.records.find? (fun y => x.replayPoint ≤ y.number && cum < y.number) = some y →
            Answers (.letReplaySend st) s fun u => (u.letS st).replayPoint = y.number + 1
              ∧ u.get LET_CNT.REPLAYED st = (s.get LET_CNT.REPLAYED st + (s.letReplayPorts st).length) % 2 ^ LET_CNT.REPLAYED.width))
    ∧ (s.letIsFull st = true → Ends (.letResume st) s s)
    ∧ (s.letIsFull st = false → Ends (.letResume st) s ((s.set LET_STREAM_STATUS.SUSPENDED st 0).onLet st fun x => { x with stopped := false }))
    ∧ (s.get LET_STREAM_CFG.STATE st < 2 ∨ 3 ≤ x.closeStep → Ends (.letShutdownDrainEnd st) s s)
    ∧ (2 ≤ s.get LET_STREAM_CFG.STATE st → x.closeStep < 3 → Answers (.letShutdownDrainEnd st) s fun u =>
        (u.letS st).records = [] ∧ (u.letS st).held = [] ∧ (u.letS st).gaps = [] ∧ (u.letS st).closeStep = 3 ∧ u.get LET_STREAM_STATUS.WAITING st = 0
        ∧ u.tbl = s.tbl)
    ∧ (s.fnState (.stream st) = 2 → x.closeStep = 3 → Answers (.letShutdownQuiet st) s fun u => u.fnState (.stream st) = 0 ∧ u.inService (.stream st) = false)
    ∧ (s.fnState (.stream st) < 2 → Ends (.letShutdownQuiet st) s s)

/-- R341 to R344, R348, R351, R352, R354, R355, R362, R364 to R366: what a device of a pair does by itself. -/
def Obligations.PairRolesAndTimers : Prop :=
  ∀ s : State,
    let role := s.get MTL_PAIR_STATUS.ROLE
    let noPorts := ∀ q < 4096, s.get QMG_QCFG.ROLE q ≠ 1
    let link := s.mateActive = true ∧ s.get MTL_PAIR_CFG.STATE ≠ 0
    let sends := fun (typ : Byte) (body : List Byte) (u : State) => ∃ m : List Byte, let f := List.replicate 12 0 ++ [0x88, 0xB5] ++ m
      u.mtl.sent = s.mtl.sent ++ [f ++ fcsBytes f false] ∧ m.take 2 = [0xA1, typ] ∧ (m.drop 16).take (m.length - 32) = body
      ∧ m.drop (m.length - 16) = blockBytes (cmac (s.rallyKey "RALLY-MAC") (m.take (m.length - 16))) ∧ u.mtl.rseqTx = s.mtl.rseqTx + 1
    let ready := s.isLibero = true
    let away := s.get MTL_PAIR_STATUS.ACTIVE_IN = 0
    (s.mtl.roleWait = 0 → Ends .pairRoleTimer s s)
    ∧ (s.mtl.roleWait = 1 → away → s.mateActive = true → Ends .pairRoleTimer s s)
    ∧ (s.mtl.roleWait = 1 → away → s.mateActive = false → s.get MTL_PAIR_CFG.PREFER = 0 →
        Ends .pairRoleTimer s { s with mtl := { s.mtl with roleWait := 2 } })
    ∧ (away → (s.mtl.roleWait = 1 ∧ s.mateActive = false ∧ s.get MTL_PAIR_CFG.PREFER = 1) ∨ s.mtl.roleWait = 2 →
        Answers .pairRoleTimer s fun u => u.get MTL_PAIR_STATUS.ROLE = 2
          ∧ u.get MTL_PAIR_STATUS.ACTIVE_OUT = (if s.mtl.heartLost then 0 else 3) ∧ u.mtl.roleWait = 0 ∧ u.tbl = s.tbl)
    ∧ (s.mtl.roleWait = 1 ∨ s.mtl.roleWait = 2 → s.get MTL_PAIR_STATUS.ACTIVE_IN = 1 → noPorts → Answers .pairRoleTimer s fun u =>
        u.get MTL_PAIR_STATUS.ROLE = 4 ∧ u.get MTL_PAIR_STATUS.ACTIVE_OUT = 0 ∧ u.mtl.roleWait = 0)
    ∧ (∀ level : Bool, let v := if level then 1 else 0
        Ends (.activeInChange level) s ((s.set MTL_PAIR_STATUS.ACTIVE_IN 0 v).set GLB_PIN_STATUS.ACTIVE_IN 0 v)
        ∧ (level = true ∨ role ≠ 1 → Ends (.matePresentChange level) s ((s.set MTL_PAIR_STATUS.MATE_PRESENT 0 v).set GLB_PIN_STATUS.MATE_PRESENT 0 v))
        ∧ (level = false → role = 1 → Answers (.matePresentChange level) s fun u =>
            u.get MTL_PAIR_STATUS.MATE_PRESENT = 0 ∧ u.get GLB_PIN_STATUS.MATE_PRESENT = 0 ∧ u.get MTL_PAIR_STATUS.ROLE = 2 ∧ u.mtl.asks = []))
    ∧ Ends .heartbeatLoss s { s.set MTL_PAIR_STATUS.ACTIVE_OUT 0 0 with mtl := { s.mtl with heartLost := true } }
    ∧ (let dual := s.get MTL_PAIR_STATUS.ACTIVE_OUT = 3 ∧ s.get MTL_PAIR_STATUS.ACTIVE_IN = 1 ∧ s.preferred s.mtl.peerPrefer = false
       (¬ dual → Ends .dualActiveDetect s s) ∧ (dual → noPorts → Settled s → Answers .dualActiveDetect s fun u =>
          u.get EVT_SRC.STATUS 149 = 1 ∧ u.get MTL_PAIR_STATUS.ROLE = 4 ∧ u.get MTL_PAIR_STATUS.STALE = 1 ∧ u.get MTL_PAIR_STATUS.ACTIVE_OUT = 0))
    ∧ (¬ link → Ends .rallyHealthTx s s ∧ Ends .rallyDeliveryTx s s)
    ∧ (link → Answers .rallyHealthTx s (sends 1 s.healthBody)
        ∧ (role = 1 ∨ role = 2 → Answers .rallyDeliveryTx s (sends 2
            (s.pairStreams.map fun st => [BitVec.ofNat 8 st, 0] ++ beBytes 8 (s.get LET_STREAM_STATUS.RX_NEXT st)).flatten)))
    ∧ (role = 0 → Ends .rallyMissed s s)
    ∧ (role ≠ 0 → role = 2 ∨ s.mtl.missed ≠ 2 →
        Ends .rallyMissed s { s.inc MTL_RALLY_CNT.MISSED 0 with mtl := { s.mtl with missed := s.mtl.missed + 1 } })
    ∧ (Settled s → ready → s.mtl.missed = 2 → Answers .rallyMissed s fun u => u.get MTL_PAIR_STATUS.STALE = 1 ∧ u.mtl.missed = 3
        ∧ u.get EVT_SRC.STATUS 149 = 1 ∧ u.tbl = s.tbl)
    ∧ (∀ (st : Fin 256) (n : BitVec 64), let due := ready ∧ ∃ w ∈ (s.mtlS st).wants, w.1 = n.toNat
        (¬ due → Ends (.checkpointTimeout st n) s s)
        ∧ (due → link → Answers (.checkpointTimeout st n) s fun u => (u.mtlS st).oos = true ∧ (u.mtlS st).anchored = false ∧ (u.mtlS st).wants = []
            ∧ sends 11 [BitVec.ofNat 8 st] u)
        ∧ (let again := ready ∧ ∃ k, (s.mtlS st).retryAt = some k ∧ k ≤ s.get LET_STREAM_STATUS.NEXT st
           (¬ again → Ends (.anchorRetry st) s s)
           ∧ (again → link → Answers (.anchorRetry st) s fun u => (u.mtlS st).retryAt = none ∧ sends 11 [BitVec.ofNat 8 st] u)))
    ∧ (∀ force : Bool, let may := role = 1 ∧ (force = true ∨ s.mtl.peerFlags % 2 = 1)
        let takes := ready ∧ (force = true ∨ role = 5) ∧ s.mtl.window = false
        (¬ may → Ends (.mtlYield force) s s) ∧ (may → link → Answers (.mtlYield force) s (sends 8 [4]))
        ∧ (¬ takes → Ends (.mtlTake force) s s) ∧ (takes → link → Answers (.mtlTake force) s fun u => u.mtl.window = true ∧ sends 9 [3] u))
    ∧ (s.mtl.window = false ∨ s.isLibero = false → Ends .takeoverWindowExpiry s s)
    ∧ (s.mtl.window = true → ready → s.pairStreams = [] → s.tbl.sa.risesFrom 0 = true → Answers .takeoverWindowExpiry s fun u =>
        u.get MTL_PAIR_STATUS.ROLE = 2 ∧ u.mtl.window = false ∧ u.get MTL_PAIR_STATUS.STALE = 0
        ∧ ∀ i a, s.sa? i = some a → a.rx = false → ∃ b, u.sa? i = some b ∧ b.pn = (a.leaseEnd / 2 ^ 20 + 1) * 2 ^ 20)
    ∧ (∀ failed : List (Fin 64), let bad := failed.any fun j => s.portState (s.lanePort j.val) == 0
        (bad = false → Ends (.liberoLaneTest failed) s s)
        ∧ (bad = true → ready → Answers (.liberoLaneTest failed) s fun u => u.mtl.fails.get 5 none = some s.clk.sinceReset ∧ u.lets = s.lets))

/-- R343, R346, R349, R351, R353, R355, R357, R359, R360, R365, R366: rally messages received. -/
def Obligations.RallyMessagesReceived : Prop :=
  ∀ (l : List Byte) (prefer : Bool) (s : State),
    let link := s.mateActive = true ∧ s.get MTL_PAIR_CFG.STATE ≠ 0
    let role := s.get MTL_PAIR_STATUS.ROLE
    let s1 : State := { s with mtl := { s.mtl with rseqRx := beAt l 18 4 } }
    let all : List (Instr × Nat) := [(.rallyHealthRx l prefer [], 1), (.rallyDeliveryRx l, 2), (.rallyCheckpointRx l, 3), (.rallyLeaseReqRx l, 4),
      (.rallyLeaseAckRx l, 5), (.rallyAnchorRx l, 6), (.rallyMirrorRx l, 7), (.rallyAlertRx l, 8), (.rallyTakeoverRx l, 9), (.rallyTakeoverAckRx l, 10),
      (.rallyAnchorReqRx l, 11)]
    (¬ link → ∀ c ∈ all, Ends c.1 s s)
    ∧ (link → ∀ c ∈ all, s.rallyBody c.2 l = none → Ends c.1 s (s.inc MTL_RALLY_CNT.BAD 0))
    ∧ (link → ∀ b : List Byte,
        let st := octet b 0
        let sends := fun (typ : Byte) (body : List Byte) (u : State) => ∃ m : List Byte, let f := List.replicate 12 0 ++ [0x88, 0xB5] ++ m
          u.mtl.sent = s.mtl.sent ++ [f ++ fcsBytes f false] ∧ m.take 2 = [0xA1, typ] ∧ (m.drop 16).take (m.length - 32) = body
        let free := s.mtl.mirrorHeld = none
        let waits := fun (typ : Nat) => ({ s1 with mtl := { s1.mtl with mirrorQ := s1.mtl.mirrorQ ++ [(typ, b)] } } : State)
        let of := fun (typ : Nat) => s.rallyBody typ l = some b
        (of 1 → s.mtl.roleWait = 0 → role = 1 → Ends (.rallyHealthRx l prefer []) s { s1 with mtl := { s1.mtl with
            missed := 0, peerRole := octet b 0, peerFlags := octet b 1, peerUnacked := beAt b 10 2, peerPrefer := some prefer, peerPorts := [] } })
        ∧ (of 1 → s.mtl.roleWait = 0 → s.isLibero = true → octet b 0 = 1 → beAt b 10 2 = 0 → Answers (.rallyHealthRx l prefer []) s fun u =>
            u.mtl.missed = 0 ∧ u.mtl.peerRole = 1 ∧ u.get MTL_PAIR_STATUS.STALE = 0 ∧ u.mtl.rseqRx = beAt l 18 4)
        ∧ (s.isLibero = false → ∀ c ∈ [(Instr.rallyDeliveryRx l, 2), (.rallyCheckpointRx l, 3), (.rallyLeaseReqRx l, 4), (.rallyAnchorRx l, 6),
            (.rallyMirrorRx l, 7), (.rallyAlertRx l, 8)], of c.2 → Ends c.1 s s1)
        ∧ (s.isLibero = true →
            (of 2 → b.length = 10 → Answers (.rallyDeliveryRx l) s fun u => u.mtl.delivery.get st 0 = beAt b 2 8 ∧ u.mtl.rseqRx = beAt l 18 4)
            ∧ (of 3 → s.get LET_STREAM_STATUS.NEXT st ≤ beAt b 8 8 →
                Ends (.rallyCheckpointRx l) s (s1.onMtl st fun x => { x with wants := x.wants ++ [(beAt b 8 8, beAt b 16 8)] }))
            ∧ (¬ free → (of 4 → Ends (.rallyLeaseReqRx l) s (waits 4)) ∧ (of 7 → Ends (.rallyMirrorRx l) s (waits 7)))
            ∧ (∀ a, of 4 → free → beAt b 0 2 = 0 → s.sa? (beAt b 2 2) = some a → Answers (.rallyLeaseReqRx l) s fun u =>
                u.sa? (beAt b 2 2) = some { a with leaseEnd := max a.leaseEnd ((beAt b 8 8 + 1) * 2 ^ 20 - 1) }
                ∧ (∀ i, i ≠ beAt b 2 2 → u.sa? i = s.sa? i) ∧ sends 5 (leaseBody (beAt b 2 2) (beAt b 8 8)) u)
            ∧ (of 6 → s.letServes st = true → let fcs := (List.range 8).map fun i => beAt b (16 + 4 * i) 4
                ((s.mtlS st).anchorMatch fcs = none → Ends (.rallyAnchorRx l) s ((s1.inc MTL_LIB_CNT.ANCHOR_MISS 0).onMtl st fun x =>
                    { x with retryAt := some (s.get LET_STREAM_STATUS.NEXT st + 4096) }))
                ∧ (∀ m, (s.mtlS st).anchorMatch fcs = some m → Answers (.rallyAnchorRx l) s fun u =>
                    u.get LET_STREAM_STATUS.NEXT st = (s.get LET_STREAM_STATUS.NEXT st + beAt b 8 8 - m) % 2 ^ 64
                    ∧ u.get LET_STREAM_STATUS.INSTANCE st = beAt b 4 4 ∧ (u.mtlS st).anchored = true ∧ (u.mtlS st).anchorAt = beAt b 8 8))
            ∧ (of 7 → free → let x := if octet b 0 == 1 then s1.mirrorKey b else s1.mirrorTable b
                (x.1 = true → Ends (.rallyMirrorRx l) s (if x.2.mtl.mirrorHeld.isSome then x.2.pairEval else x.2))
                ∧ (x.1 = false → Settled s → Answers (.rallyMirrorRx l) s fun u => u.mtl.mirrorBad = true ∧ u.get EVT_SRC.STATUS 149 = 1)
                ∧ (let sa := beAt b 14 2
                   octet b 0 ≠ 1 → beAt b 10 2 = 2 → beAt b 12 2 = 2 → s.namesDeleted 2 sa = false → s.saDeleteCode (beAt b 8 2) sa = 0 →
                    let t := (s1.saDeleteStart sa).shadowSettle (beAt b 8 2) s1
                    Ends (.rallyMirrorRx l) s ({ t with mtl := { t.mtl with mirrorHeld := some sa } } : State).pairEval))
            ∧ (of 8 → octet b 0 ≠ 4 → s.get MTL_PAIR_STATUS.STALE = 1 → Ends (.rallyAlertRx l) s s1)
            ∧ (of 8 → octet b 0 = 4 ∨ s.get MTL_PAIR_STATUS.STALE = 0 → s.mtl.window = false → Answers (.rallyAlertRx l) s fun u => u.mtl.window = true ∧ sends 9 [if octet b 0 = 4 then 3 else 2] u))
        ∧ (of 5 → let asked := s.mtl.asks.any fun a => a.who == leaseWho b && a.lease == beAt b 8 8
            (asked = false → Ends (.rallyLeaseAckRx l) s s1)
            ∧ (∀ a, asked = true → beAt b 0 2 = 0 → s.sa? (beAt b 2 2) = some a → Answers (.rallyLeaseAckRx l) s fun u =>
                u.sa? (beAt b 2 2) = some { a with leaseEnd := max a.leaseEnd ((beAt b 8 8 + 1) * 2 ^ 20 - 1) }
                ∧ u.mtl.asks = s.mtl.asks.filter fun a => !(a.who == leaseWho b && a.lease == beAt b 8 8)))
        ∧ (of 11 → (role = 1 → s.letServes st = true → Ends (.rallyAnchorReqRx l) s (s1.onMtl st fun x =>
              { x with anchorDue := some ((s.get LET_STREAM_STATUS.NEXT st + 4095) / 4096 * 4096) }))
            ∧ (role ≠ 1 → Ends (.rallyAnchorReqRx l) s s1))
        ∧ (of 9 → role = 1 ∨ role = 2 → (∀ q < 4096, s.get QMG_QCFG.ROLE q ≠ 1) → Answers (.rallyTakeoverRx l) s fun u =>
            u.get MTL_PAIR_STATUS.ROLE = 4 ∧ u.get MTL_PAIR_STATUS.ACTIVE_OUT = 0 ∧ sends 10 [] u)
        ∧ (of 9 → role = 0 ∨ 4 ≤ role → Ends (.rallyTakeoverRx l) s s1)
        ∧ (of 10 → (s.mtl.window = false ∨ s.isLibero = false → Ends (.rallyTakeoverAckRx l) s s1)
            ∧ (s.mtl.window = true → s.isLibero = true → s.pairStreams = [] → Answers (.rallyTakeoverAckRx l) s fun u =>
                u.get MTL_PAIR_STATUS.ROLE = 2 ∧ u.mtl.window = false)))

/-- R392 to R394, R397, R402, R407, R408, R419, R426, R431, R434 to R436: queues, the audit and statistics. -/
def Obligations.QueuesSpillRefillAndAreMeasured : Prop :=
  ∀ (q : Fin 4096) (s : State),
    let x := s.queue q
    let n := queueRegion q
    (s.spillDue q = false → Ends (.marrowSpill q) s s)
    ∧ (let items := packChunk (65536 - 64) x.tail
       s.spillDue q = true → items ≠ [] → Answers (.marrowSpill q) s fun u =>
        (u.queue q).head = x.head ∧ (u.queue q).tail = x.tail.drop items.length
        ∧ (u.queue q).marrow.map (·.items) = x.marrow.map (·.items) ++ [items.map QEntry.spilled]
        ∧ (∀ r, r ≠ q.val → u.queue r = s.queue r) ∧ u.tbl = s.tbl
        ∧ ∀ i, { u.letS i with stopped := (s.letS i).stopped } = s.letS i)
    ∧ (∀ bad : Bool,
        (32 ≤ x.head.length ∨ x.marrow = [] → Ends (.marrowRefill q bad) s s)
        ∧ (∀ (c : Chunk) (r : List Chunk), x.head.length < 32 → x.marrow = c :: r →
            (bad = true ∨ c.poisoned = true → Answers (.marrowRefill q bad) s fun u =>
              (u.queue q).entries = x.head ++ (r.map (·.items)).flatten ++ x.tail
              ∧ (Settled s → (∀ e ∈ c.items, ∃ st k, e = .letRec st k ∧ st < 256) →
                  u.get QMG_QSTAT.DROPS q = satAdd QMG_QSTAT.DROPS.width (s.get QMG_QSTAT.DROPS q) c.items.length))
            ∧ (bad = false → c.poisoned = false → Answers (.marrowRefill q bad) s fun u =>
              (u.queue q).entries.map QEntry.spilled = x.entries.map QEntry.spilled
              ∧ (∀ r, r ≠ q.val → u.queue r = s.queue r) ∧ u.tbl = s.tbl
              ∧ (∀ e es, c.items = e :: es → (x.cells < 4 * s.get QMG_QCFG.MIN q ∨ 0 < s.poolFree n ∨ ∃ st k, e = .letRec st k) →
                  x.headLost = 0 → x.head.length < (u.queue q).head.length))))
    ∧ (x.flush = none → Ends (.flushComplete q) s s)
    ∧ (x.flush ≠ none → Settled s → Answers (.flushComplete q) s fun u => u.queue q = { x with flush := none } ∧ u.get QMG_QSTAT.FLUSHING q = 0)
    ∧ (∀ (m : Fin 4) (kind : Fin 3) (index : BitVec 23) (owner : BitVec 12) (stamp : BitVec 8) (orphaned last : Bool),
        let note : Orphan := { region := m, kind := kind, index := index.toNat, owner := owner.toNat, stamp := stamp.toNat, seen := true }
        let check := Instr.auditObjectCheck m kind index owner stamp orphaned last
        let others := s.q.orphans.filter fun o => !(o.region == m.val && o.kind == kind.val && o.index == index.toNat)
        (s.get QMG_AUDIT_CTRL.STATE = 0 ∨ s.thermPaused = true → Ends check s s)
        ∧ (s.get QMG_AUDIT_CTRL.STATE ≠ 0 → s.thermPaused = false → Settled s → Answers check s fun u =>
            (last = true → m.val = 0 → u.get QMG_AUDIT_STATUS.PASS = (s.get QMG_AUDIT_STATUS.PASS + 1) % 2 ^ QMG_AUDIT_STATUS.PASS.width)
            ∧ (orphaned = false → u.q.orphans = others)
            ∧ (orphaned = true → note ∉ s.q.orphans → u.q.orphans = others ++ [note] ∧ u.get QMG_AUDIT_STATUS.RECLAIMED = s.get QMG_AUDIT_STATUS.RECLAIMED)
            ∧ (orphaned = true → note ∈ s.q.orphans → u.q.orphans = others ∧ u.get QMG_AUDIT_STATUS.ORPHAN = 1 ∧ u.get EVT_SRC.STATUS 151 = 1
              ∧ u.get QMG_AUDIT_STATUS.RECLAIMED = satAdd QMG_AUDIT_STATUS.RECLAIMED.width (s.get QMG_AUDIT_STATUS.RECLAIMED) 1)))
    ∧ (Settled s → Answers .auditLogClr s fun u => u.get QMG_AUDIT_STATUS.LOG_COUNT = 0 ∧ (∀ i < 16, u.word .QMG_AUDIT_LOG i 0 = 0)
        ∧ OnlyTheRegs [.QMG_AUDIT_LOG, .QMG_AUDIT_STATUS] s u)
    ∧ (s.get SCH_LAT_CFG.EN = 0 → Ends .latDepthSample s s)
    ∧ (s.get SCH_LAT_CFG.EN = 1 → Answers .latDepthSample s fun u => let y := s.latStat q; let d := sat32 (ceilDiv x.bytes 64)
        (s.get SCH_QSHAPE.LAT_EN q = 1 → u.latStat q = { y with depthMin := if y.depthN == 0 then d else min y.depthMin d, depthMax := max y.depthMax d
                                                                depthSum := y.depthSum + d, depthN := sat32 (y.depthN + 1), armed := some false })
        ∧ (s.get SCH_QSHAPE.LAT_EN q = 0 → u.latStat q = y) ∧ u.q.queues = s.q.queues)
    ∧ (∀ (g : Fin 64) (clear : Bool), let y := s.latStat q; let bin := fun i => s.q.hist.get (16 * g + i) 0
        (s.get SCH_LAT_STATUS.BUSY = 1 → Ends (.latQueueSnapshot q clear) s s ∧ Ends (.latHistSnapshot g clear) s s)
        ∧ (s.get SCH_LAT_STATUS.BUSY = 0 → Settled s →
            Answers (.latQueueSnapshot q clear) s (fun u => u.get SCH_LAT_STATUS.BUSY = 1 ∧ u.get SCH_LAT_STATUS.INDEX = q
              ∧ u.get SCH_LAT_SNAP.DEPTH_MIN = y.depthMin % 2 ^ 32 ∧ u.get SCH_LAT_SNAP.DEPTH_MAX = y.depthMax % 2 ^ 32
              ∧ u.get SCH_LAT_SNAP.DEPTH_N = y.depthN % 2 ^ 32 ∧ u.get SCH_LAT_SNAP.DELAY_N = y.delayN % 2 ^ 32
              ∧ (y.delayN ≠ 0 → u.get SCH_LAT_SNAP.DELAY_MEAN = sat32 (y.delaySum / y.delayN))
              ∧ u.latStat q = (if clear then { armed := y.armed } else y) ∧ OnlyTheRegs [.SCH_LAT_SNAP, .SCH_LAT_STATUS] s { u with q := s.q })
            ∧ Answers (.latHistSnapshot g clear) s (fun u => u.get SCH_LAT_STATUS.BUSY = 1 ∧ u.get SCH_LAT_STATUS.INDEX = g
              ∧ (∀ w < 8, (u.word .SCH_LAT_HIST 0 w).bits 0 32 = bin (2 * w) % 2 ^ 32 ∧ (u.word .SCH_LAT_HIST 0 w).bits 32 32 = bin (2 * w + 1) % 2 ^ 32)
              ∧ (∀ i < 16, u.q.hist.get (16 * g + i) 0 = if clear then 0 else bin i) ∧ OnlyTheRegs [.SCH_LAT_HIST, .SCH_LAT_STATUS] s { u with q := s.q })))
    ∧ Ends .latSnapshotEnd s (s.set SCH_LAT_STATUS.BUSY 0 0)
    ∧ (Settled s → (∀ (g : Fin 64) (bin : BitVec 16) (scale : Bool), Answers (.latHcfgWrite g bin scale) s fun u =>
          u.get SCH_LAT_HCFG.BIN_NS g = bin.toNat ∧ u.get SCH_LAT_HCFG.SCALE g = (if scale then 1 else 0)
          ∧ (∀ i < 16, u.q.hist.get (16 * g + i) 0 = 0) ∧ OnlyTheRegs [.SCH_LAT_HCFG] s { u with q := s.q })
      ∧ (∀ (rate : BitVec 21) (burst : BitVec 24) (latEn : Bool), Answers (.qshapeWrite q rate burst latEn) s fun u =>
          u.get SCH_QSHAPE.RATE q = rate.toNat ∧ u.get SCH_QSHAPE.BURST q = burst.toNat ∧ u.get SCH_QSHAPE.LAT_EN q = (if latEn then 1 else 0)
          ∧ (u.q.shapers.get q {}).credit = min (s.credit q) (8000 * burst.toNat)
          ∧ u.latStat q = (if latEn && s.get SCH_QSHAPE.LAT_EN q == 0 then {} else s.latStat q) ∧ OnlyTheRegs [.SCH_QSHAPE] s { u with q := s.q })
      ∧ (∀ (m : Fin 512) (data : Word),
          Answers (.meterWrite m 0 data) s (fun u => let y := u.q.meters.get m {}
            y.tc = 256 * u.get SCH_METER.CBS m ∧ y.tp = 256 * u.get SCH_METER.EBS_PBS m ∧ OnlyTheRegs [.SCH_METER] s { u with q := s.q }
            ∧ u.word .SCH_METER m 1 = s.word .SCH_METER m 1
            ∧ (∀ lo ∈ [4, 6, 8], (u.word .SCH_METER m 0).bits lo 2 = if data.bits lo 2 = 3 then (s.word .SCH_METER m 0).bits lo 2 else data.bits lo 2))
          ∧ Answers (.meterWrite m 1 data) s (fun u => let y := u.q.meters.get m {}
            y.tc = 256 * u.get SCH_METER.CBS m ∧ y.tp = 256 * u.get SCH_METER.EBS_PBS m ∧ OnlyTheRegs [.SCH_METER] s { u with q := s.q }
            ∧ u.word .SCH_METER m 1 = data.setBits 48 16 0 ∧ u.word .SCH_METER m 0 = s.word .SCH_METER m 0)))

/-- R442, R448 to R450, R452, R454, R457 to R460, R463 to R466: lines of the stacked memory. -/
def Obligations.MemoryLinesAreEncryptedTaggedAndMoved : Prop :=
  ∀ (a : BitVec 41) (data : List Byte) (e2 : LineRead) (lost : List DramObj) (s : State),
    let A := a.toNat
    let B := s.mirrorAddr A
    let st := stackOf A
    let pc := pcOf A
    let alone := B = A
    let sealed := fun (b : Nat) (k : KeyRec) (l : List Byte) => let t := lineTweak (s.lineKey b).2 b; let c := lineEncrypt k.key t l
      (⟨c, lineTag k.key t c, false⟩ : DramLine)
    let only := fun (p : Nat → Prop) (u : State) => ∀ b, ¬ p (b / 128) → u.line? b = s.line? b
    let fresh := s.pcIn pc = true ∧ s.isPoisoned A = false
    let repaired := fun (pc : Nat) (u : State) => u.get DMC_PC.SPARES pc = s.get DMC_PC.SPARES pc - 1
      ∧ u.get DMC_PC.SPPR pc = satAdd DMC_PC.SPPR.width (s.get DMC_PC.SPPR pc) 1 ∧ u.get EVT_SRC.STATUS (117 + 8 * (pc / 64)) = 1
    let retired := fun (pc cause : Nat) (u : State) => u.get DMC_PC.RETIRED pc = 1 ∧ u.get DMC_PC.CAUSE pc = cause
      ∧ u.get DMC_STACK_STATUS.PC_IN (pc / 32) = s.get DMC_STACK_STATUS.PC_IN (pc / 32) - 1 ∧ u.get DMC_STACK_STATUS.CHANGED (pc / 32) = 1
    (s.rangeReady A = false → ∀ e, Ends (.imeLineRead a e e2 lost) s s ∧ Ends (.imeLineWrite a data) s s ∧ Ends (.imePartialWrite a data e e2 lost) s s)
    ∧ (∀ k, s.usableKey? (s.lineKey A).1 = some k → s.pcIn pc = true →
        Answers (.imeLineWrite a data) s (fun u => u.line? A = some (sealed A k (fullLine data)) ∧ only (· ∈ [A / 128, B / 128]) u
          ∧ (∀ k', s.usableKey? (s.lineKey B).1 = some k' → s.pcIn (pcOf B) = true → u.line? B = some (sealed B k' (fullLine data)))
          ∧ (Settled s → { u with dram := s.dram } = s))
        ∧ (s.line? A = none → s.copyRead A .ok = some (List.replicate 128 0))
        ∧ (∀ l, ¬ alone → s.isPoisoned A = false → s.copyRead B .ok = some l → Answers (.imeLineRead a .tagFail .ok lost) s fun u =>
            u.dram.answer = some l ∧ u.line? A = some (sealed A k l) ∧ only (· = A / 128) u)
        ∧ (∀ l, s.copyRead A .ok = some l → Answers (.imePartialWrite a data .ok e2 lost) s fun u =>
            let d := data.take (128 - A % 128)
            u.line? A = some (sealed A k (l.take (A % 128) ++ d ++ l.drop (A % 128 + d.length))) ∧ u.dram.answer = some [] ∧ only (· ∈ [A / 128, B / 128]) u)
        ∧ (alone → fresh → Settled s →
            Answers (.imeLineRead a .tagFail e2 lost) s (fun u => u.dram.answer = none ∧ u.isPoisoned A = true
              ∧ u.get IME_STATUS.TAG_FAIL st = satAdd 16 (s.get IME_STATUS.TAG_FAIL st) 1 ∧ u.get IME_STATUS.POISONED st = satAdd 32 (s.get IME_STATUS.POISONED st) 1
              ∧ u.get IME_POISON_ADDR.ADDR st = A / 128 * 128 ∧ u.get IME_POISON_ADDR.CAUSE st = 1
              ∧ u.get EVT_SRC.STATUS (117 + 8 * (st / 2)) = 1 ∧ only (· = A / 128) u)
            ∧ Answers (.imePartialWrite a data .tagFail e2 lost) s (fun u => u.dram.answer = none ∧ u.isPoisoned A = true
              ∧ u.get IME_STATUS.PARTIAL_REF st = satAdd 16 (s.get IME_STATUS.PARTIAL_REF st) 1 ∧ u.get IME_POISON_ADDR.CAUSE st = 2
              ∧ u.get EVT_SRC.STATUS (117 + 8 * (st / 2)) = 1 ∧ only (· = A / 128) u)))
    ∧ (∀ l, s.copyRead A .ok = some l → Ends (.imeLineRead a .ok e2 lost) s (s.lineAnswer (some l)))
    ∧ (∀ e, s.rangeReady A = true → s.poisonedBefore A = true → Ends (.imeLineRead a e e2 lost) s (s.lineAnswer none))
    ∧ (∀ (n : Fin 4) (j : Fin 8) (e : LineRead), let g := 8 * n.val + j.val
        let moves := s.get IME_RKEY_CTRL.STATE g = 1 ∧ s.get IME_RKEY_CTRL.SPLIT g = 1 ∧ g ∉ s.dram.passed
        let after := fun (b : Nat) => ((s.nextLine g (b + 128)).getD (s.sliceEnd g 31)) % 2 ^ 41
        (¬ moves → Ends (.rekeyLineMove n j e lost) s s)
        ∧ (moves → s.nextLine g (s.get IME_RANGE_BOUND.BOUND g) = none → Answers (.rekeyLineMove n j e lost) s fun u =>
            g ∈ u.dram.passed ∧ u.dram.lines = s.dram.lines
            ∧ (Settled s → u.get IME_RKEY_CTRL.EN g = 0 ∧ u.get IME_RKEY_CTRL.STATE g = 2 ∧ u.get IME_RANGE_BOUND.PCT g = 100))
        ∧ (∀ b l x k, moves → s.nextLine g (s.get IME_RANGE_BOUND.BOUND g) = some b → s.line? b = some x →
            s.usableKey? (rangeSlot g (1 - s.get IME_RKEY_CTRL.KEYSEL g)) = some k →
            (s.copyRead b .ok = some l → Answers (.rekeyLineMove n j .ok lost) s fun u =>
              let t := lineTweak (s.get IME_RANGE_EPOCH.EPOCH g + 1) b
              u.line? b = some ⟨lineEncrypt k.key t l, lineTag k.key t (lineEncrypt k.key t l), false⟩ ∧ only (· = b / 128) u
              ∧ (Settled s → u.get IME_RANGE_BOUND.BOUND g = after b))
            ∧ (x.poison = true → Answers (.rekeyLineMove n j e lost) s fun u => u.isPoisoned b = true ∧ only (· = b / 128) u
              ∧ (Settled s → u.get IME_RANGE_BOUND.BOUND g = after b))))
    ∧ (let patrols := s.get DMC_SCRUB_CFG.PATROL_EN st = 1 ∧ s.pcIn pc = true ∧ s.thermPaused = false
       let swept := fun (last : Bool) (x : State) => if last then x.incWrap DMC_STACK_STATUS.SCRUB_PASS st else x
       let few := (s.day s.dram.corrected).filter (fun x => x.1 == 2 ^ 23 * pc + rowOf A)
       (¬ patrols → ∀ e last, Ends (.patrolRead a e last lost) s s)
       ∧ (patrols → ∀ last, Ends (.patrolRead a .ok last lost) s (swept last s) ∧ Ends (.patrolRead a .tagFail last lost) s (swept last s)
          ∧ (few.length < 3 → Ends (.patrolRead a .corrected last lost) s (swept last { s.inc DMC_PC.CORR pc with
                dram := { s.dram with corrected := s.day s.dram.corrected ++ [(2 ^ 23 * pc + rowOf A, s.clk.sinceReset)] } })))
       ∧ (patrols → Settled s → 0 < s.get DMC_PC.SPARES pc → ∀ last,
          (3 ≤ few.length → Answers (.patrolRead a .corrected last []) s (repaired pc))
          ∧ (((s.day s.dram.uncorrectable).filter (fun x => x.1 == pc)).length < 15 → s.isPoisoned A = false →
              Answers (.patrolRead a .uncorrectable last []) s fun u => repaired pc u ∧ u.isPoisoned A = true ∧ u.get IME_POISON_ADDR.CAUSE st = 5)))
    ∧ (∀ (st : Fin 8) (pc : Fin 32) (row : Fin 8388608) (fail last : Bool), let k := 32 * st.val + pc.val
        let tests := s.get DMC_SCRUB_CFG.TEST_EN st = 1 ∧ s.pcIn k = true ∧ s.thermPaused = false
        (¬ tests → Ends (.dramRowTest st pc row fail last lost) s s)
        ∧ (tests → Ends (.dramRowTest st pc row false last lost) s (if last then s.incWrap DMC_STACK_STATUS.TEST_PASS st else s))
        ∧ (tests → Settled s → (0 < s.get DMC_PC.SPARES k → Answers (.dramRowTest st pc row true last []) s (repaired k))
            ∧ (s.get DMC_PC.SPARES k = 0 → Answers (.dramRowTest st pc row true last []) s (retired k 1))))

/-- R474 to R476, R479 to R482, R485, R656: the banks' power states and their background test. -/
def Obligations.BanksChangePowerStateAndAreTested : Prop :=
  ∀ s : State,
    (∀ b : Fin 52,
      let preq := s.bankGet SRB_BANK.PREQ SRB_CHIP_BANK.PREQ b
      let asks := fun (u : State) => u.bankGet SRB_BANK.PREQ SRB_CHIP_BANK.PREQ b
      let rej := fun (u : State) => u.bankGet SRB_BANK.REJ SRB_CHIP_BANK.REJ b
      let dom := fun (u : State) => u.get PWR_DOM.STATE (216 + b)
      Ends (.srbPreqWrite b 3 false) s s ∧ Ends (.srbPreqWrite b 3 true) s (s.bankSet SRB_BANK.REJ SRB_CHIP_BANK.REJ b 0)
      ∧ (∀ p ∈ [1, 2], s.preqAllowed b p = false →
          Ends (.srbPreqWrite b (BitVec.ofNat 2 p) false) s (s.bankSet SRB_BANK.REJ SRB_CHIP_BANK.REJ b 1))
      ∧ (Settled s → ∀ p ∈ [0, 1, 2], ∀ clr, p = 0 ∨ s.preqAllowed b p = true → Answers (.srbPreqWrite b (BitVec.ofNat 2 p) clr) s fun u =>
          asks u = p ∧ rej u = (if clr then 0 else rej s)
          ∧ (s.bankState b = p → u.bankState b = p)
          ∧ (s.bankState b = 3 → u.bankState b = 3 ∧ u.srb = s.srb)
          ∧ (s.bankState b ≠ 3 → s.bankState b ≠ p → u.bankState b = 3 ∧ u.srb.changing.get b 0 = p + 1)
          ∧ u.get PWR_DOM.EN (216 + b) = (if p = 2 then 0 else 1)
          ∧ (u.bankState b = 3 → dom u = if p = 2 then 2 else if u.srb.changing.get b 0 = 3 then 3 else 1))
      ∧ (s.srb.changing.get b 0 = 0 → Ends (.srbPowerTransitionDone b) s s)
      ∧ (Settled s → ∀ v ∈ [0, 1, 2], s.srb.changing.get b 0 = v + 1 → Answers (.srbPowerTransitionDone b) s fun u =>
          (preq = v → u.bankState b = v ∧ u.srb.changing.get b 0 = 0 ∧ dom u = (if v = 2 then 0 else 1))
          ∧ (preq ≠ v → u.bankState b = 3 ∧ u.srb.changing.get b 0 = preq + 1) ∧ asks u = preq))
    ∧ (∀ (n : Fin 4) (fails : List (Nat × Nat)),
      let runs := s.get SRB_TEST_CFG.STATE n = 1 ∧ s.thermPaused = false
      let pos := s.get SRB_TEST_STATUS.POS n
      let saves := fun (u : State) => ∀ b, u.srb.saved.get b 0 =
        if b ∈ testBanks n ∧ s.bankState b = 0 then (if s.bankMaster b = 7 then 0 else pos + 1) else s.srb.saved.get b 0
      let rest := fun (u : State) => ({ u with srb := { u.srb with saved := s.srb.saved } } : State)
      (¬ runs → Ends (.srbRegionTest n fails) s s)
      ∧ (runs → Settled s → Answers (.srbRegionTest n []) s fun u => saves u
          ∧ (pos ≠ 1023 → rest u = s.set SRB_TEST_STATUS.POS n (pos + 1))
          ∧ (pos = 1023 → rest u = (s.set SRB_TEST_STATUS.POS n 0).incWrap SRB_TEST_STATUS.PASSES n))
      ∧ (∀ b row, runs → Settled s → b ∈ testBanks n → s.bankState b = 0 → row < 64 → let used := s.srb.spareRows.get (64 * b + pos / 16) 0
          Answers (.srbRegionTest n [(b, row)]) s fun u => saves u
            ∧ u.get SRB_TEST_STATUS.FAILS n = satAdd 8 (s.get SRB_TEST_STATUS.FAILS n) 1 ∧ u.get SRB_TEST_STATUS.POS n = (pos + 1) % 1024
            ∧ (used < 8 → u.srb.spareRows.get (64 * b + pos / 16) 0 = used + 1
                ∧ u.get SRB_TEST_STATUS.REPAIRS n = satAdd 8 (s.get SRB_TEST_STATUS.REPAIRS n) 1)
            ∧ (8 ≤ used → s.bankGet SRB_BANK.SPARE_TILES SRB_CHIP_BANK.SPARE_TILES b = 0 →
                u.get SRB_TEST_STATUS.REPAIRS n = s.get SRB_TEST_STATUS.REPAIRS n)))

/-- R501, R503, R505, R507 to R511, R520 to R522, R524: the key store. -/
def Obligations.KeyStoreCommandsAndGenerator : Prop :=
  ∀ (m : Master) (part : BitVec 2) (kh : BitVec 17) (rsv : Bool) (s : State),
    let i := m.idx
    let h := kh.toNat
    let taken := s.mayWrite m .KST_CMD = true
    let free := s.get KST_STATUS.BUSY i = 0
    let goes := taken ∧ free ∧ (s.kstPort m.other).holds = false
    let goesW := goes ∧ s.kstWait m = none
    let busy := fun (u : State) => u.get KST_STATUS.BUSY i = 1
    let same := fun (u : State) => u.kst.slots = s.kst.slots ∧ u.nvj = s.nvj ∧ u.fen = s.fen
    let a := s.kstAttr m part.toNat h
    let rw := s.kstWriteResult m part.toNat h rsv
    let re := s.kstEraseResult m h rsv
    let ri := s.kstInfoResult h rsv
    let k := a.record (s.kstBytes m part.toNat a) (s.kstSalt m)
    (s.mayWrite m .KST_CMD = false → ∀ c ∈ [Instr.kstWrite m part kh rsv, .kstErase m kh rsv, .kstInfo m kh rsv], Ends c s (s.turnAway .KST_CMD i))
    ∧ (taken → ¬ free → ∀ c ∈ [Instr.kstWrite m part kh rsv, .kstErase m kh rsv, .kstInfo m kh rsv], Ends c s (s.set KST_STATUS.OVERRUN i 1))
    ∧ (Settled s → taken → free → ¬ goes → ∀ c ∈ [(Instr.kstWrite m part kh rsv, KstPort.waiting 1 part.toNat h rsv), (.kstErase m kh rsv, .waiting 2 0 h rsv),
        (.kstInfo m kh rsv, .waiting 3 0 h rsv)], Answers c.1 s fun u => busy u ∧ same u ∧ u.kstPort m = c.2)
    ∧ (Settled s → goes → s.kstWait m ≠ none → Answers (.kstWrite m part kh rsv) s fun u => busy u ∧ same u ∧ u.kstPort m = .waiting 1 part.toNat h rsv)
    ∧ (Settled s → goesW →
        (rw ≠ 0 → Answers (.kstWrite m part kh rsv) s fun u => busy u ∧ same u ∧ u.kstPort m = .executed rw h false none ∧ u.kstPart m = none)
        ∧ (rw = 0 → a.len ≠ 2 → Answers (.kstWrite m part kh rsv) s fun u => busy u
            ∧ (∀ x, x ≠ h → u.slot x = s.slot x)
            ∧ (a.vol = true → u.key? h = some k ∧ (u.slot h).gen = ((s.slot h).gen + 1) % 2 ^ 24)
            ∧ (a.vol = false → u.key? h = s.key? h ∧ (u.slot h).changes = (s.slot h).changes ++ [⟨some k, m == .host⟩]
                ∧ u.nvj.queue = s.nvj.queue ++ [⟨1, k.payload h⟩])
            ∧ ∃ mir, u.kstPort m = .executed 0 h (!a.vol) mir)
        ∧ (rw = 0 → a.len = 2 → part.toNat ≠ 2 → Answers (.kstWrite m part kh rsv) s fun u => busy u ∧ same u
            ∧ ∃ p, u.kstPart m = some p ∧ p.kh = h ∧ p.next = part.toNat + 1 ∧ p.bytes = s.kstBytes m part.toNat a)
        ∧ (re ≠ 0 → Answers (.kstErase m kh rsv) s fun u => busy u ∧ same u ∧ u.kstPort m = .executed re h false none)
        ∧ (re = 0 → Answers (.kstErase m kh rsv) s fun u => busy u ∧ u.key? h = none ∧ (u.slot h).gen = ((s.slot h).gen + 1) % 2 ^ 24
            ∧ (∀ x, x ≠ h → u.slot x = s.slot x) ∧ ∃ j mir, u.kstPort m = .erasing h j mir))
    ∧ (Settled s → goes → Answers (.kstInfo m kh rsv) s fun u => busy u ∧ same u ∧ u.kstPort m = .executed ri h false none
        ∧ (ri = 0 → s.key? h = none → u.get KST_INFO.FULL i = 0)
        ∧ (∀ k, ri = 0 → s.key? h = some k → u.get KST_INFO.FULL i = 1 ∧ u.get KST_INFO.USABLE i = (if k.cause = 0 then 1 else 0)
            ∧ u.get KST_INFO.KCV i = k.kcv % 2 ^ 24 ∧ u.get KST_INFO.GEN i = (s.slot h).gen % 2 ^ 24
            ∧ u.get KST_INFO.COMMITTED i = (if (s.slot h).changes = [] then 1 else 0)
            ∧ u.get KST_INFO.REMAIN i = (if k.limitEn then k.useLimit - k.used else 0) % 2 ^ 48))
    ∧ (let ended := fun (r h : Nat) (j : Bool) (u : State) => u.get KST_STATUS.BUSY i = 0 ∧ u.get KST_STATUS.RESULT i = r % 256
          ∧ u.get KST_STATUS.KH i = h % 2 ^ 17 ∧ u.get KST_STATUS.DONE i = 1 ∧ u.get KST_STATUS.COMMITTED i = (if j = false ∧ s.kstWait m = none then 1 else 0)
          ∧ (∀ d < 4, u.get KST_KEYDATA.DATA (4 * i + d) = 0) ∧ u.get EVT_SRC.STATUS 144 = 1 ∧ u.kstPort m = .idle
          ∧ u.kstWait m = (if j then some h else s.kstWait m) ∧ u.kst.slots = s.kst.slots
       let calm := Settled s ∧ s.kstPort m.other = .idle ∧ s.isActivePaired = false
       (s.kstPort m = .idle → Ends (.kstCmdEnd m) s s)
       ∧ (∀ r h j mir, calm → s.kstPort m = .executed r h j mir → Answers (.kstCmdEnd m) s (ended r h j))
       ∧ (∀ h j mir, s.kstPort m = .erasing h j mir → (s.wiping h = true → Ends (.kstCmdEnd m) s s)
          ∧ (calm → s.wiping h = false → Answers (.kstCmdEnd m) s (ended 0 h j))))
    ∧ (Settled s → Answers .trngHealthFail s fun u => u.drbgRefuses = true ∧ u.kst.drbgFails = s.kst.drbgFails + 1 ∧ u.get EVT_SRC.STATUS 144 = 1
        ∧ u.get KST_CTRL.DRBG_FAIL = (if 2 ≤ s.kst.drbgFails then 1 else s.get KST_CTRL.DRBG_FAIL) ∧ u.kst.slots = s.kst.slots)
    ∧ (let waits := fun (f : Fn) => s.drbgRefuses = true ∧ s.fnState f = 1 ∧ s.inService f = false
       (s.get KST_CTRL.DRBG_FAIL = 1 → Ends .drbgReseed s s)
       ∧ (s.get KST_CTRL.DRBG_FAIL = 0 → (∀ st, s.fnState (.stream st) ≠ 1) → (∀ n j, s.fnState (.rekey n j) ≠ 1) →
          Ends .drbgReseed s { s with kst := { s.kst with drbgStopped := false, drbgFails := 0, drbgReqs := 0 } })
       ∧ Ends (.drbgDrawTimeout .loop) s s
       ∧ (s.drbgRefuses = false → ∀ who, Ends (.drbgDrawTimeout who) s s)
       ∧ (∀ st, waits (.stream st) → Answers (.drbgDrawTimeout (.stream st)) s fun u => (Settled s → u.fnState (.stream st) = 0 ∧ u.get LET_STREAM_CFG.EN st = 0)
            ∧ u.inService (.stream st) = false)
       ∧ (∀ n j, waits (.rekey n j) → Answers (.drbgDrawTimeout (.rekey n j)) s fun u => (Settled s → u.fnState (.rekey n j) = 0)
            ∧ u.inService (.rekey n j) = false)
       ∧ (∀ p, s.drbgRefuses = true → s.agentOn = true → Settled s → Answers (.drbgDrawTimeout (.agent p)) s fun u => u.get EVT_SRC.STATUS 150 = 1)
       ∧ (s.drbgRefuses = true → s.starting = true → Settled s → Answers (.drbgDrawTimeout .startup) s fun u =>
            u.get PWR_START_STATUS.STOPPED = 1 ∧ u.get PWR_START_STATUS.CAUSE = 9 ∧ u.kst.slots = []))
    ∧ (∀ kh : Fin 69632, (s.key? kh = none → Ends (.keyStorageFault kh) s s)
        ∧ (∀ k, Settled s → s.key? kh = some k → Answers (.keyStorageFault kh) s fun u => u.key? kh = some { k with cause := 2 }
            ∧ (u.slot kh).gen = (s.slot kh).gen ∧ (∀ x, x ≠ kh.val → u.slot x = s.slot x) ∧ u.get EVT_SRC.STATUS 144 = 1))

/-- R493 to R498, R525: the life cycle. -/
def Obligations.LifeCycleCommands : Prop :=
  ∀ (m : Master) (confirm : BitVec 32) (token hash : Option (List Byte)) (otaOk wipeOk : Bool) (s : State),
    let free := s.get LCM_STATUS.BUSY = 0
    let priv := m = .host ∧ (s.get KST_CTRL.PF0_KEYWR = 0 ∨ s.isLibero = true)
    let named := confirm.toNat = 0x4C435430
    let lc := s.get LCM_STATE.STATE
    let waits := fun (r : Nat) (u : State) => u.lcm.cmd = some r ∧ u.kst = s.kst ∧ u.lcm.lcBits = s.lcm.lcBits ∧ (Settled s → u.get LCM_STATUS.BUSY = 1)
    let moves := fun (bit : Nat) (u : State) => u.kst.slots = [] ∧ u.lcm.lcBits = (if otaOk then s.lcm.lcBits ||| 2 ^ bit else s.lcm.lcBits)
      ∧ u.lcm.challenge = none ∧ (otaOk = true → u.get LCM_STATE.STATE = lcOf (s.lcm.lcBits ||| 2 ^ bit)) ∧ u.get LCM_STATUS.BUSY = 0
    let fails := s.get LCM_STATE.ROOT_FAIL = 1
    let good := ∃ t, token = some t ∧ s.tokenOk t = true
    let all := [Instr.lcmChallenge m, .lcmToService m confirm otaOk wipeOk, .lcmToReturn m confirm token otaOk wipeOk, .lcmToEnd m confirm otaOk wipeOk,
      .lcmFuseCkh m hash otaOk]
    (s.mayWrite m .LCM_CMD = false → ∀ c ∈ all, Ends c s (s.turnAway .LCM_CMD 0))
    ∧ (s.mayWrite m .LCM_CMD = true → ¬ free → ∀ c ∈ all, Ends c s s)
    ∧ (s.mayWrite m .LCM_CMD = true → free →
        (priv → Answers (.lcmChallenge m) s (waits 2) ∧ Answers (.lcmFuseCkh m hash otaOk) s (waits 2))
        ∧ (¬ priv → s.drbgRefuses = true → Answers (.lcmChallenge m) s (waits 3))
        ∧ (¬ priv → s.drbgRefuses = false → Answers (.lcmChallenge m) s fun u => waits 0 u ∧ ∃ c, c.length = 32 ∧ u.lcm.challenge = some c
            ∧ (Settled s → ∀ i < 4, u.get LCM_CHALLENGE.NONCE i = fieldAt c (8 * i) 8))
        ∧ (¬ named → Answers (.lcmToService m confirm otaOk wipeOk) s (waits 1) ∧ Answers (.lcmToEnd m confirm otaOk wipeOk) s (waits 1)
            ∧ Answers (.lcmToReturn m confirm token otaOk wipeOk) s fun u => waits 1 u ∧ u.lcm.challenge = none)
        ∧ (named → priv → Answers (.lcmToService m confirm otaOk wipeOk) s (waits 2) ∧ Answers (.lcmToEnd m confirm otaOk wipeOk) s (waits 2)
            ∧ Answers (.lcmToReturn m confirm token otaOk wipeOk) s fun u => waits 2 u ∧ u.lcm.challenge = none)
        ∧ (named → ¬ priv →
            (lc ≠ 1 ∨ fails → Answers (.lcmToService m confirm otaOk wipeOk) s (waits 3))
            ∧ (lc = 0 ∨ lc = 4 ∨ fails → Answers (.lcmToEnd m confirm otaOk wipeOk) s (waits 3))
            ∧ (lc ≠ 2 ∨ fails → Answers (.lcmToReturn m confirm token otaOk wipeOk) s fun u => waits 3 u ∧ u.lcm.challenge = none)
            ∧ (lc = 2 → ¬ fails → ¬ good → (s.lcm.challenge = none ∨ token ≠ none) → Answers (.lcmToReturn m confirm token otaOk wipeOk) s fun u =>
                waits 4 u ∧ u.lcm.challenge = none)
            ∧ (lc = 2 → ¬ fails → s.lcm.challenge ≠ none → token = none → Answers (.lcmToReturn m confirm token otaOk wipeOk) s fun u =>
                waits 6 u ∧ u.lcm.challenge = none)
            ∧ (Settled s → ¬ fails → (lc = 1 → Answers (.lcmToService m confirm otaOk wipeOk) s (moves 1))
              ∧ (lc = 2 → good → Answers (.lcmToReturn m confirm token otaOk wipeOk) s (moves 2))
              ∧ (lc ∈ [1, 2, 3] → Answers (.lcmToEnd m confirm otaOk wipeOk) s (moves 3))))
        ∧ (¬ priv →
            (lc ≠ 1 ∨ fails → Answers (.lcmFuseCkh m hash otaOk) s (waits 3))
            ∧ (lc = 1 → ¬ fails → s.lcm.customerHashes.length = 4 → Answers (.lcmFuseCkh m hash otaOk) s (waits 5))
            ∧ (lc = 1 → ¬ fails → s.lcm.customerHashes.length < 4 →
                (hash = none → Answers (.lcmFuseCkh m hash otaOk) s (waits 6))
                ∧ (hash ≠ none → otaOk = false → Answers (.lcmFuseCkh m hash otaOk) s (waits 7))
                ∧ (∀ h, hash = some h → otaOk = true → Answers (.lcmFuseCkh m hash otaOk) s fun u =>
                    waits 0 u ∧ u.lcm.customerHashes = s.lcm.customerHashes ++ [h.take 48]
                    ∧ (Settled s → u.get LCM_STATE.CKH_USED = s.lcm.customerHashes.length + 1)))))
    ∧ (s.lcm.cmd = none → Ends .lcmCmdEnd s s)
    ∧ (∀ r, s.lcm.cmd = some r → Settled s → Answers .lcmCmdEnd s fun u =>
        u.get LCM_STATUS.BUSY = 0 ∧ u.get LCM_STATUS.RESULT = r % 256 ∧ u.get LCM_STATUS.DONE = 1 ∧ u.lcm.cmd = none ∧ u.get EVT_SRC.STATUS 145 = 1
        ∧ u.kst = s.kst)

/-- R528, R530, R532, R533: the image commands. -/
def Obligations.ImageCommands : Prop :=
  ∀ (slot : Fin 2) (offset : BitVec 17) (pages : BitVec 16) (data : List Byte) (bad : List Nat) (readOk : Bool) (s : State),
    let free := s.get NVJ_IMG_STATUS.BUSY = 0
    let ours := s.nvj.loaded ≠ some slot.val
    let at' := fun (u : State) (a : Nat) => u.nvj.flash.get a 0xFF
    let base := slotBase slot
    let o := offset.toNat
    let n := pages.toNat
    let fits := n ≠ 0 ∧ o + n ≤ 131072
    let wr := Instr.nvjImgWrite slot offset pages data bad
    let ends := fun (r k : Nat) (u : State) => u.nvj.img = some (r, k) ∧ (Settled s → u.get NVJ_IMG_STATUS.BUSY = 1) ∧ u.kst = s.kst
    let kept := fun (u : State) => u.nvj.flash = s.nvj.flash
    (¬ free → ∀ c ∈ [Instr.nvjImgErase slot, wr, .nvjImgCheck slot readOk], Ends c s s)
    ∧ (free → ¬ ours → (∀ c ∈ [Instr.nvjImgErase slot, .nvjImgCheck slot readOk], Answers c s fun u => ends 0xA 0 u ∧ kept u)
        ∧ (fits → Answers wr s fun u => ends 0xA 0 u ∧ kept u))
    ∧ (free → ¬ fits → Answers wr s fun u => ends 0xB 0 u ∧ kept u)
    ∧ (free → ours →
        Answers (.nvjImgErase slot) s (fun u => ends 0 512 u ∧ (∀ i < 0x2000000, at' u (base + i) = 0xFF)
          ∧ ∀ a, a < base ∨ base + 0x2000000 ≤ a → at' u a = at' s a)
        ∧ Answers (.nvjImgCheck slot readOk) s (fun u => ends (s.imgResult slot readOk) 0 u ∧ kept u)
        ∧ (fits →
            (s.blank (base + 256 * o) (256 * n) = true → 256 * n ≤ data.length → (∀ p ∈ bad, p < o ∨ o + n ≤ p) → Answers wr s fun u => ends 0 n u
              ∧ (∀ i < 256 * n, at' u (base + 256 * o + i) = data.getD i 0) ∧ (∀ a, a < base + 256 * o ∨ base + 256 * (o + n) ≤ a → at' u a = at' s a)
              ∧ (Settled s → u.get (if slot = 0 then NVJ_BOOT.BAD_A else NVJ_BOOT.BAD_B) = 0))
            ∧ (data.length < 256 → Answers wr s fun u => ends 0xC 0 u ∧ kept u)
            ∧ (256 ≤ data.length → s.blank (base + 256 * o) 256 = false → Answers wr s fun u => ends 9 0 u ∧ kept u)
            ∧ (256 ≤ data.length → s.blank (base + 256 * o) 256 = true → o ∈ bad → Answers wr s fun u => ends 9 0 u
              ∧ ∀ a, a < base + 256 * o ∨ base + 256 * (o + 1) ≤ a → at' u a = at' s a)))
    ∧ (let h := s.rd base 256
       s.imgResult slot false = 9 ∧ (fieldAt h 0 4 ≠ 0x55544B52 → s.imgResult slot true = 1)
       ∧ (fieldAt h 0 4 = 0x55544B52 → fieldAt h 4 2 ≠ 1 ∨ 1 < fieldAt h 6 1 ∨ fieldAt h 7 1 < 5 → s.imgResult slot true = 2)
       ∧ (s.imgResult slot true = 0 → s.signerKnown slot = true ∧ s.imgSigned slot = true ∧ (fieldAt h 6 1 = 1 → s.lcState = 1 ∨ s.lcState = 2)))
    ∧ (s.nvj.img = none → Ends .nvjImgCmdEnd s s)
    ∧ (∀ r k, s.nvj.img = some (r, k) → Settled s → Answers .nvjImgCmdEnd s fun u =>
        u.get NVJ_IMG_STATUS.BUSY = 0 ∧ u.get NVJ_IMG_STATUS.RESULT = r % 256 ∧ u.get NVJ_IMG_STATUS.PROGRESS = k % 2 ^ 16
        ∧ u.get NVJ_IMG_STATUS.DONE = 1 ∧ u.nvj.img = none ∧ u.get EVT_SRC.STATUS 146 = 1 ∧ kept u)

/-- R509, R527, R534 to R539, R542, R545, R546: the journal and the event log. -/
def Obligations.JournalAppendsCompactsAndFormats : Prop :=
  ∀ s : State,
    let at' := fun (u : State) (a : Nat) => u.nvj.flash.get a 0xFF
    let working := fun (p : JProg) => 256 * s.nvj.active + s.nvj.map.getD p.pos 0
    let ro := s.journalReadOnly = true
    (s.nvj.prog = none → ro ∨ s.nvj.compacting = true ∨ s.nvj.queue = [] ∨ s.nvj.key = none → ∀ ok, Ends (.journalEntryProgram ok) s s)
    ∧ (∀ r rest key, s.nvj.prog = none → ¬ ro → s.nvj.compacting = false → s.nvj.queue = r :: rest → s.nvj.key = some key → (s.entryPlace r.payload.length).1 < 192 →
        Answers (.journalEntryProgram true) s fun u => ∃ p, u.nvj.prog = some p ∧ p.req = r ∧ p.seq = s.nvj.seq ∧ (p.pos, p.boundary) = s.entryPlace r.payload.length
          ∧ u.nvj.queue = rest ∧ u.nvj.seq = s.nvj.seq + 1 ∧ u.nvj.committing = !s.nvj.stopped ∧ p.bytes.length = entryC r.payload.length
          ∧ (let h := entryHead r.typ r.payload.length s.nvj.seq s.lcState; let x := gcmEncrypt key s.nvj.seq h r.payload
             p.bytes.take (48 + r.payload.length) = h ++ x.1 ++ blockBytes x.2)
          ∧ u.rd (s.placeBase p.pos p.boundary) p.bytes.length = p.bytes)
    ∧ (∀ p, s.nvj.prog = some p → s.nvj.committing = false → s.nvj.stopped = false →
        (Answers (.journalEntryProgram true) s fun u => u.nvj.prog = some p ∧ u.nvj.committing = true ∧ u.rd (s.placeBase p.pos p.boundary) p.bytes.length = p.bytes)
        ∧ (¬ ro → s.sparesLeft (working p / 256) ≠ 0 → p.pos + 1 < 192 → Answers (.journalEntryProgram false) s fun u =>
            working p ∈ u.nvj.retired ∧ u.nvj.prog = some { p with pos := p.pos + 1, boundary := 1 } ∧ u.nvj.committing = false ∧ u.nvj.queue = s.nvj.queue))
    ∧ (s.nvj.prog = none ∨ s.nvj.committing = false → ∀ ok, Ends (.journalCommitDone ok) s s)
    ∧ (∀ p, s.nvj.prog = some p → s.nvj.committing = true → let a := s.placeBase p.pos p.boundary + entryC p.req.payload.length
        Answers (.journalCommitDone true) s (fun u => u.rd a 8 = commitOf p.seq ∧ u.nvj.prog = none ∧ (∀ b, b < a ∨ a + 8 ≤ b → at' u b = at' s b)
          ∧ (Settled s → ¬ ro → p.req.typ ∉ [1, 2, 3, 5, 6] → 75 * 256 * 192 ≤ (256 * p.pos + (p.boundary + entrySpan p.req.payload.length) - 1) * 100 →
              u.nvj.compacting = true)
          ∧ (let kh := fieldAt p.req.payload 0 4
             p.req.typ = 1 → s.kst.hostPort = .idle → s.kst.mcuPort = .idle → ∀ k host rest, (s.slot kh).changes = ⟨some k, host⟩ :: rest →
               u.key? kh = some k ∧ (u.slot kh).changes = rest ∧ u.kstWait (if host then .host else .mcu) = none ∧ (∀ x, x ≠ kh → u.slot x = s.slot x)))
        ∧ (¬ ro → s.sparesLeft (working p / 256) ≠ 0 → p.pos + 1 < 192 → Answers (.journalCommitDone false) s fun u =>
            working p ∈ u.nvj.retired ∧ u.nvj.prog = some { p with pos := p.pos + 1, boundary := 1 } ∧ u.kst = s.kst))
    ∧ (∀ bad, (s.nvj.key = none ∨ s.nvj.compacting = false ∨ s.nvj.prog ≠ none → Ends (.compactionSwitch bad) s s)
        ∧ (s.nvj.key ≠ none → s.nvj.compacting = true → s.nvj.prog = none → ¬ ro → s.nvj.gen + 1 < 2 ^ 64 →
            (s.forL s.nvj.preErase fun k t => t.eraseSector k).journalReadOnly = false → Answers (.compactionSwitch []) s fun u =>
            u.nvj.active = 1 - s.nvj.active ∧ u.nvj.gen = s.nvj.gen + 1 ∧ u.nvj.compacting = false ∧ u.regionValid (1 - s.nvj.active) = true
            ∧ u.regionGen (1 - s.nvj.active) = s.nvj.gen + 1 ∧ (Settled s → u.get NVJ_JSTATUS.COMPACTING = 0) ∧ u.kst = s.kst))
    ∧ (s.nvj.preErase = [] → Ends .journalPreErase s s)
    ∧ (∀ k rest, s.nvj.preErase = k :: rest → s.eraseCount k + 1 < 95000 → Answers .journalPreErase s fun u => u.nvj.preErase = rest
        ∧ u.rd (sectorBase k) 16 = sectorHeader k (s.eraseCount k + 1) (k ∈ s.nvj.retired) ∧ (∀ i, 16 ≤ i → i < 65536 → at' u (sectorBase k + i) = 0xFF)
        ∧ ∀ a, a < sectorBase k ∨ sectorBase k + 65536 ≤ a → at' u a = at' s a)
    ∧ (∀ (n : BitVec 8) (m : Master) (confirm : BitVec 32) (l : List Byte) (ok : Bool),
        let free := s.get NVJ_JSTATUS.BUSY = 0
        let ends := fun (r : Nat) (u : State) => (Settled s → u.get NVJ_JSTATUS.BUSY = 0 ∧ u.get NVJ_JSTATUS.RESULT = r ∧ u.get NVJ_JSTATUS.DONE = 1) ∧ u.nvj.jcmd = none
        let waits := fun (op : Nat) (q : List JReq) (u : State) => (Settled s → u.get NVJ_JSTATUS.BUSY = 1) ∧ u.nvj.jcmd = some op ∧ u.nvj.queue = s.nvj.queue ++ q
        let append := Instr.nvjAppendConfig n (some l)
        let taken := s.mayWrite m .NVJ_JCTRL = true
        (¬ free → ∀ c ∈ [Instr.nvjCompact, append, .nvjConfigReset], Ends c s s)
        ∧ (taken → ¬ free → Ends (.nvjFormat m confirm ok) s s) ∧ (¬ taken → Ends (.nvjFormat m confirm ok) s (s.turnAway .NVJ_JCTRL 0))
        ∧ (free → ro → ∀ c ∈ [Instr.nvjCompact, append, .nvjConfigReset], Answers c s fun u => ends 0xD u ∧ u.nvj.queue = s.nvj.queue)
        ∧ (free → ¬ ro →
            Answers .nvjCompact s (fun u => waits 1 [] u ∧ u.nvj.compacting = true)
            ∧ Answers .nvjConfigReset s (waits 3 [⟨6, []⟩])
            ∧ Answers (.nvjAppendConfig n none) s (ends 0xC)
            ∧ (let k := 16 * (n.toNat + 1)
               (l.length < k → Answers append s (ends 0xC)) ∧ (k ≤ l.length → configOk (l.take k) = false → Answers append s (ends 7))
               ∧ (k ≤ l.length → configOk (l.take k) = true → Answers append s (waits 2 [⟨5, l.take k⟩]))))
        ∧ (taken → m = .host → s.get KST_CTRL.PF0_KEYWR = 0 → Ends (.nvjFormat m confirm ok) s s)
        ∧ (taken → free → m = .mcu ∨ s.get KST_CTRL.PF0_KEYWR = 1 →
            (confirm.toNat ≠ 0x464D5430 → Answers (.nvjFormat m confirm ok) s fun u => ends 0xB u ∧ u.nvj.flash = s.nvj.flash ∧ u.kst = s.kst)
            ∧ (confirm.toNat = 0x464D5430 → Answers (.nvjFormat m confirm ok) s fun u => ends (if ok then 0 else 9) u
                ∧ u.nvj.active = 0 ∧ u.nvj.gen = 1 ∧ u.regionValid 0 = true ∧ u.regionValid 1 = false ∧ (∀ kh k, u.key? kh = some k → k.vol = true)
                ∧ (Settled s → ok = true → u.get NVJ_JSTATUS.CORRUPT = 0 ∧ u.get NVJ_JSTATUS.READ_ONLY = 0))))
    ∧ (s.evt.logQueue = [] → Ends .eventLogWrite s s)
    ∧ (∀ e rest, s.evt.logQueue = e :: rest → let a := 0x6000000 + s.nvj.logAt
        Answers .eventLogWrite s fun u => u.rd a 32 = e.octets ∧ u.nvj.logAt = (s.nvj.logAt + 32) % 0x800000 ∧ (Settled s → u.evt.logQueue = rest)
          ∧ (∀ b, b < a ∨ a + 65536 ≤ b → at' u b = at' s b)
          ∧ (∀ b, a + 32 ≤ b → b < a + 65536 → at' u b = if s.nvj.logAt % 65536 = 0 then 0xFF else at' s b))

/-- R549 to R555, R566 to R570: the time base. -/
def Obligations.TimeBaseCommands : Prop :=
  ∀ (m : Master) (s : State),
    let runs := s.get TMB_STATUS.RUNNING = 1
    let time := fun (u : State) => (u.clk.tbSec, u.clk.tbNs, u.clk.tbFrac)
    let sets := fun (sec ns : Nat) (u : State) => time u = (sec, ns, 0)
    let stepped := fun (u : State) => sets (s.get TMB_STEP.SEC) (s.get TMB_STEP.NS) u ∧ u.clk.slew = 0 ∧ u.krw.stepped = true
      ∧ (Settled s → u.get TMB_STATUS.STEP_USED = 1 ∧ u.get TMB_STATUS.STEPPED = 1 ∧ u.get TMB_STATUS.STEP_WAIT = 0 ∧ u.get TMB_STATUS.SLEWING = 0
          ∧ u.get TMB_SLEW_LEFT.LEFT = 0)
    let owned := s.get TMB_STATUS.OWNED = 1 ∧ m = .host
    let takes := fun (r : Reg) => s.mayWrite m r = true
    let refused := ¬ runs ∨ s.get TMB_STATUS.STEP_USED = 1 ∨ s.get TMB_STATUS.STEP_WAIT = 1 ∨ 999999999 < s.get TMB_STEP.NS ∨ owned
    let sec := if s.clk.tbNs ≤ 1000 then s.clk.tbSec else s.clk.tbSec + 1
    let accepts := (s.get TMB_PPS_CFG.WIN_EN = 0 ∨ s.get TMB_STATUS.STEP_USED = 0) ∨ ((s.clk.tbNs ≤ 1000 ∨ 999999000 ≤ s.clk.tbNs) ∧ s.clk.ppsWindow ≠ some sec)
    (s.domOn 369 = true → runs → Ends .timeBaseStart s s)
    ∧ (s.domOn 369 = true → ¬ runs → Answers .timeBaseStart s fun u => sets 0 0 u ∧ (Settled s → u.get TMB_STATUS.RUNNING = 1 ∧ u.get TMB_CTRL.EN = 1))
    ∧ (s.domOn 369 = false → Settled s → Answers .timeBaseStart s fun u => time u = time s ∧ u.get TMB_CTRL.EN = 1 ∧ u.get TMB_STATUS.RUNNING = s.get TMB_STATUS.RUNNING)
    ∧ (s.get TMB_STATUS.HOLDOVER = 1 → Ends .timerefLoss s s)
    ∧ (s.get TMB_STATUS.HOLDOVER = 0 → Settled s → Answers .timerefLoss s fun u => u.get TMB_STATUS.HOLDOVER = 1 ∧ u.get EVT_SRC.STATUS 147 = 1 ∧ time u = time s)
    ∧ Ends .timerefRelock s (s.set TMB_STATUS.HOLDOVER 0 0)
    ∧ (¬ takes .TMB_STEP_CMD → ∀ c ∈ [Instr.stepNow m, .stepAtPps m, .stepCancel m], Ends c s (s.turnAway .TMB_STEP_CMD 0))
    ∧ (takes .TMB_STEP_CMD → refused → ∀ c ∈ [Instr.stepNow m, .stepAtPps m], Answers c s fun u => time u = time s ∧ (Settled s → u.get TMB_STATUS.STEP_REJ = 1
        ∧ u.get TMB_CNT.STEP_REFUSED = satAdd 8 (s.get TMB_CNT.STEP_REFUSED) 1 ∧ u.get EVT_SRC.STATUS 147 = 1))
    ∧ (takes .TMB_STEP_CMD → ¬ refused → Answers (.stepNow m) s stepped ∧ Ends (.stepAtPps m) s (s.set TMB_STATUS.STEP_WAIT 0 1))
    ∧ (takes .TMB_STEP_CMD → Ends (.stepCancel m) s (s.set TMB_STATUS.STEP_WAIT 0 0))
    ∧ (∀ (rate : BitVec 40) (offset : BitVec 32) (ppb : BitVec 20),
        (¬ takes .TMB_RATE → Ends (.tmbRateWrite m rate) s (s.turnAway .TMB_RATE 0) ∧ Ends (.tmbSlewWrite m offset ppb) s (s.turnAway .TMB_SLEW 0))
        ∧ (takes .TMB_RATE → owned → Ends (.tmbRateWrite m rate) s s ∧ Ends (.tmbSlewWrite m offset ppb) s s)
        ∧ (takes .TMB_RATE → ¬ owned → Settled s →
            Answers (.tmbRateWrite m rate) s (fun u => signed 40 (u.get TMB_RATE.RATE) = max (-281474976711) (min 281474976711 rate.toInt)
              ∧ OnlyTheRegs [.TMB_RATE] s u)
            ∧ (offset = 0 → Answers (.tmbSlewWrite m offset ppb) s fun u => u.get TMB_STATUS.SLEWING = 0 ∧ u.clk.slew = 0 ∧ u.get TMB_SLEW_LEFT.LEFT = 0)
            ∧ (offset ≠ 0 → Answers (.tmbSlewWrite m offset ppb) s fun u => u.get TMB_STATUS.SLEWING = 1 ∧ u.clk.slew = offset.toInt * 2 ^ 48
                ∧ u.get TMB_SLEW_LEFT.LEFT = offset.toNat ∧ u.get TMB_SLEW.SLEW_PPB = min ppb.toNat 1000000 ∧ time u = time s)))
    ∧ (Answers .slewEnd s fun u => u.clk.slew = 0 ∧ time u = time s ∧ (Settled s → u.get TMB_STATUS.SLEWING = 0 ∧ u.get TMB_SLEW_LEFT.LEFT = 0))
    ∧ (¬ accepts → Ends .ppsInEdge s (s.inc TMB_CNT.PPS_REJECTED 0))
    ∧ (accepts → Answers .ppsInEdge s fun u => u.clk.ppsWindow = some sec
        ∧ (Settled s → u.get TMB_PPS_IN.SEC = s.clk.tbSec % 2 ^ 48 ∧ u.get TMB_PPS_IN.NS = s.clk.tbNs % 2 ^ 32 ∧ u.get TMB_PPS_IN.FRAC = s.clk.tbFrac / 2 ^ 32 % 2 ^ 16
            ∧ u.get TMB_CNT.PPS_ACCEPTED = satAdd 32 (s.get TMB_CNT.PPS_ACCEPTED) 1)
        ∧ (s.get TMB_STATUS.STEP_WAIT = 1 → stepped u) ∧ (s.get TMB_STATUS.STEP_WAIT = 0 → time u = time s))
    ∧ (let due := s.get TMB_PPS_CFG.OUT_EN = 1 ∧ runs ∧ s.clk.ppsSec ≠ some s.ppsSecond
       (¬ due → Ends .ppsOutRise s s) ∧ (due → Ends .ppsOutRise s { s with clk := { s.clk with ppsOut := true, ppsSec := some s.ppsSecond } }))
    ∧ Ends .ppsOutFall s { s with clk := { s.clk with ppsOut := false } }
    ∧ (∀ (p : Fin 32) (l : List Byte), let bad := l.length ≠ 44 ∨ octet l 0 ≠ 1 ∨ 4 ≤ octet l 1 ∨ beAt l 2 2 ≠ 0
        (s.get LPX_PORT_CTRL.KRAOW p = 0 → Ends (.timeTransferMsgRx p l) s s)
        ∧ (s.get LPX_PORT_CTRL.KRAOW p = 1 → bad → Ends (.timeTransferMsgRx p l) s (s.inc KFR_EC_STAT.T_BAD p))
        ∧ (∀ f1 f2 t1 t4, s.get LPX_PORT_CTRL.KRAOW p = 1 → ¬ bad → Settled s → (s.krwPort p).ttTx.find? (·.1 == beAt l 24 8) = some (f1, t1) →
            (s.krwPort p).ttRx.find? (·.1 == beAt l 4 8) = some (f2, t4) → Answers (.timeTransferMsgRx p l) s fun u =>
              let a : Int := (ttTime l 32 : Int) - t1
              let b : Int := (t4 : Int) - ttTime l 12
              u.word .TMB_TT_RESULT p 0 = BitVec.ofInt 64 ((a - b) / 2) ∧ u.word .TMB_TT_RESULT p 1 = BitVec.ofInt 64 ((a + b) / 2)
              ∧ u.get TMB_TT_RESULT.SAMPLES p = satAdd 32 (s.get TMB_TT_RESULT.SAMPLES p) 1 ∧ u.get TMB_TT_RESULT.VALID p = octet l 1 % 2
              ∧ u.get TMB_TT_RESULT.FC p = beAt l 24 8
              ∧ (let follows := s.get TMB_PORT.TT_ROLE (32 + p) = 2 ∧ octet l 1 % 2 = 1
                 let o := (a - b) / 2
                 (¬ follows → OnlyTheRegs [.TMB_TT_RESULT] s u)
                 ∧ (follows → s.get TMB_STATUS.STEP_USED = 1 → time u = time s)
                 ∧ (follows → s.get TMB_STATUS.STEP_USED = 0 → s.get TMB_STATUS.STEP_WAIT = 0 → runs → 65536000000 < o.natAbs →
                    let t := (((s.clk.tbSec * 1000000000 + s.clk.tbNs : Nat) : Int) + o / 65536).toNat
                    sets (t / 1000000000 % 2 ^ 48) (t % 1000000000) u ∧ u.get TMB_STATUS.STEP_USED = 1))))

/-- R572 to R577, R579 to R584, R586 to R588, R593, R595, R596, R598, R692: the tamper block. -/
def Obligations.TamperSourcesAndResponses : Prop :=
  ∀ (w : Bool) (m : Master) (s : State), Settled s →
    let svc := s.pwr.power = 3
    let quiet := svc ∧ s.tmp.resp = 0 ∧ s.get TMP_STATUS.HOLD = 0
    let bsk := fun (u : State) => u.tmp.bsk
    let logged := fun (src : Nat) (u : State) => u.tmp.aoNext = s.tmp.aoNext + 1 ∧ u.get TMP_AOLOG.SOURCE (s.tmp.aoNext % 16) = src
    let alarm := fun (src : Nat) (u : State) => (u.word .TMP_ALARM 0 0).flag src = true
    let resets := fun (src : Nat) (u : State) => alarm src u ∧ logged src u ∧ u.get MTL_PAIR_STATUS.ACTIVE_OUT = 0 ∧ u.tmp.squelched = true ∧ u.nvj.stopped = true
    let found : List (Instr × Nat) := [(.clkBGlitch w, 1), (.bicMismatch w, 2), (.tamperLoopMismatch 0 w, 12), (.tamperLoopMismatch 1 w, 13), (.monitorFault w, 14),
      (.vbatOutOfRange w, 15)]
    let declares := fun (c : Instr) (src : Nat) =>
      (s.respOf src = 1 → Answers c s fun u => alarm src u ∧ u.kst = s.kst ∧ bsk u = bsk s ∧ u.tmp.resp = 0 ∧ u.get TMP_STATUS.LAST_RESP = 1
          ∧ ((s.word .TMP_ALARM 0 0).flag src = false → u.get EVT_SRC.STATUS 148 = 1))
      ∧ (s.respOf src = 2 → Answers c s fun u => resets src u ∧ u.tmp.resp = 2 ∧ u.kst.slots = s.kst.slots ∧ bsk u = bsk s)
      ∧ (s.respOf src = 3 → Answers c s fun u => resets src u ∧ u.tmp.resp = 3 ∧ u.kst.slots = [] ∧ bsk u = none)
      ∧ (s.respOf src = 0 → Answers c s fun u => u.tmp = s.tmp ∧ u.kst = s.kst ∧ u.word .TMP_ALARM 0 0 = s.word .TMP_ALARM 0 0)
    (quiet → ∀ c ∈ found, declares c.1 c.2)
    ∧ (∀ count : BitVec 14, (¬ svc → Ends (.clkAWindow count w) s s)
        ∧ (quiet → count.toNat < 6016 ∨ 6784 < count.toNat → declares (.clkAWindow count w) 0)
        ∧ (svc → 6016 ≤ count.toNat → count.toNat ≤ 6784 → Ends (.clkAWindow count w) s (s.rawSet 0 false)))
    ∧ (∀ (r : Fin 6) (mv : BitVec 12), let o := railOut r mv.toNat
        let c := Instr.railOutOfWindow r mv w
        (s.monitored (3 + r) = false → Ends c s s)
        ∧ (quiet → s.get PWR_STATE.TRANSIT = 0 → o.1 = true ∨ o.2 = true → declares c (3 + r))
        ∧ (s.monitored (3 + r) = true → o.1 = false → o.2 = false → Ends c s ((s.set (voltField r) 0 (mv.toNat / 4)).rawSet (3 + r) false))
        ∧ (s.monitored (3 + r) = true → s.get PWR_STATE.TRANSIT = 1 → r.val < 5 → o.2 = false → Ends c s ((s.set (voltField r) 0 (mv.toNat / 4)).rawSet (3 + r) false)))
    ∧ (s.pwr.power = 2 → ∀ c ∈ [(Instr.tamperLoopMismatch 0 w, 12), (.tamperLoopMismatch 1 w, 13), (.vbatOutOfRange w, 15)],
        (s.respOf c.2 = 1 → Answers c.1 s fun u => alarm c.2 u ∧ logged c.2 u ∧ bsk u = bsk s
          ∧ ((s.word .TMP_ALARM 0 0).flag c.2 = false → u.get EVT_SRC.STATUS 148 = 1))
        ∧ (s.respOf c.2 = 2 → Answers c.1 s fun u => alarm c.2 u ∧ logged c.2 u ∧ bsk u = bsk s)
        ∧ (s.respOf c.2 = 3 → Answers c.1 s fun u => alarm c.2 u ∧ logged c.2 u ∧ bsk u = none))
    ∧ (s.pwr.power ≠ 1 → ∀ l0 l1 t t' v, Ends (.aoSamplingWindow l0 l1 t t' v) s s)
    ∧ (s.pwr.power = 1 → s.respOf 12 ≠ 0 → ∀ t t', signed8 (s.get TMP_CTRL.TEMP_LOW) < t → t < signed8 (s.get TMP_CTRL.TEMP_HIGH) →
        Answers (.aoSamplingWindow true false t t' false) s (fun u => logged 12 u ∧ bsk u = (if 2 ≤ s.respOf 12 then none else bsk s))
        ∧ Ends (.aoSamplingWindow false false t t' false) s (s.loopBits 125))
    ∧ (∀ t0 t1 : Int, let hi := signed8 (s.get TMP_CTRL.TEMP_HIGH); let lo := signed8 (s.get TMP_CTRL.TEMP_LOW)
        (s.pwr.power < 2 → Ends (.tempSample t0 t1 w) s s)
        ∧ (2 ≤ s.pwr.power → -60 ≤ t0 → t0 ≤ 150 → lo < t0 → t0 < hi → lo < t1 → t1 < hi → t0 - t1 ≤ 10 → t1 - t0 ≤ 10 → -60 ≤ t1 → t1 ≤ 150 → Answers (.tempSample t0 t1 w) s fun u =>
            (svc → u.get TMP_TEMP.TEMP0 = (t0 % 256).toNat) ∧ u.get TMP_TEMP.TEMP1 = (t1 % 256).toNat ∧ u.tmp.hi0 = 0 ∧ u.tmp.lo1 = 0 ∧ u.kst = s.kst
            ∧ u.word .TMP_ALARM 0 0 = s.word .TMP_ALARM 0 0
            ∧ (svc → s.get GLB_THERM.STAGE = 0 → 1 ≤ s.tmp.up1 → 107 ≤ max t0 t1 → max t0 t1 < 110 → u.get GLB_THERM.STAGE = 1 ∧ u.get GLB_THERM.CHANGED = 1))
        ∧ (quiet → hi ≤ t0 → 1 ≤ s.tmp.hi0 → s.respOf 9 = 3 → Answers (.tempSample t0 t1 w) s fun u => alarm 9 u ∧ u.kst.slots = [] ∧ bsk u = none ∧ u.tmp.resp = 3))
    ∧ (s.tmp.resp = 0 → Ends .tamperResetRelease s s)
    ∧ (s.tmp.resp ≠ 0 → Answers .tamperResetRelease s fun u => u.tmp.resp = 0 ∧ u.tmp.squelched = false ∧ u.nvj.stopped = false
        ∧ u.kst.slots = keptSlots s.pwr.railLost s.kst.slots ∧ (∀ j < 16, u.get TMP_AOLOG.SOURCE j = s.get TMP_AOLOG.SOURCE j)
        ∧ u.pwr.power = (if s.pwr.railLost then 2 else s.pwr.power))
    ∧ (let taken := s.mayWrite m .TMP_RESP = true
       let keyed := m = .mcu ∨ s.get KST_CTRL.PF0_KEYWR = 1
       let may := taken ∧ keyed
       (¬ taken → Ends (.tmpZeroiseWrite m w) s (s.turnAway .TMP_CTRL 0) ∧ Ends (.aologClear m) s (s.turnAway .TMP_AOLOG_STATUS 0)
          ∧ ∀ d, Ends (.tmpRespWrite m d) s (s.turnAway .TMP_RESP 0))
       ∧ (taken → ¬ keyed → Ends (.tmpZeroiseWrite m w) s s ∧ Ends (.aologClear m) s s ∧ ∀ d, Ends (.tmpRespWrite m d) s s)
       ∧ (may → quiet → Answers (.tmpZeroiseWrite m w) s fun u => resets 16 u ∧ u.tmp.resp = 3 ∧ u.kst.slots = [] ∧ bsk u = none)
       ∧ (may → Answers (.aologClear m) s fun u => u.get TMP_AOLOG_STATUS.COUNT = 0 ∧ u.get TMP_AOLOG_STATUS.TOTAL = 0 ∧ u.tmp.aoNext = 0
            ∧ (∀ j < 16, u.get TMP_AOLOG.SOURCE j = 0) ∧ OnlyTheRegs [.TMP_AOLOG, .TMP_AOLOG_STATUS] s { u with tmp := s.tmp })
       ∧ (∀ d : Word, may → let x : Word := BitVec.ofNat 64 (d.toNat % 2 ^ 32 ||| 0x3C)
           let low := ∃ i < 16, x.bits (2 * i) 2 < respMin s.lcState i ∨ (s.get TMP_CTRL.LOCK = 1 ∧ x.bits (2 * i) 2 < (s.word .TMP_RESP 0 0).bits (2 * i) 2)
           (low → Ends (.tmpRespWrite m d) s (s.set TMP_STATUS.REJ 0 1))
           ∧ (¬ low → Answers (.tmpRespWrite m d) s fun u => u.word .TMP_RESP 0 0 = x ∧ u.tmp.aoResp = x ∧ u.get TMP_RESP.RESP1 = 3 ∧ u.get TMP_RESP.RESP2 = 3
                ∧ OnlyTheRegs [.TMP_RESP] s { u with tmp := s.tmp })))
    ∧ (let held := s.get TMP_STATUS.HOLD = 1 ∧ s.get TMP_STATUS.HOLD_CAUSE = 1
       (¬ held → Ends .tamperHoldEnd s s)
       ∧ (held → Answers .tamperHoldEnd s fun u => u.get TMP_STATUS.HOLD = 0 ∧ u.get TMP_STATUS.HOLD_CAUSE = 0 ∧ u.pwr.startAt = s.clk.sinceReset
            ∧ u.get PWR_START_STATUS.STOPPED = 0 ∧ u.kst = s.kst))

/-- R3, R606, R608 to R616, R620, R621: rings, translations and event sources. -/
def Obligations.RingsTranslationsAndEventSources : Prop :=
  ∀ s : State, Settled s →
    (∀ (r : Fin 512) (tail : BitVec 17), let beyond := 2 ^ s.get HIF_RING_CFG.SIZE r < (tail.toNat + 131072 - (s.ring r).head) % 131072
        (beyond → Ends (.ringDoorbell r (.tail tail)) s (s.onRing r fun x => { x with err := true }))
        ∧ (¬ beyond → Ends (.ringDoorbell r (.tail tail)) s (s.onRing r fun x => { x with tail := tail.toNat })))
    ∧ (∀ (r : Fin 512) (off : BitVec 12), let x := s.ring r
        Ends (.ringDoorbell r (.status true)) s (s.onRing r fun x => { x with err := false }) ∧ Ends (.ringDoorbell r (.status false)) s s
        ∧ Answers (.ringDoorbell r (.read off)) s fun u => { u with bus := s.bus } = s ∧ ∃ w, u.bus = .data w
          ∧ (off = 0x000 → w = BitVec.ofNat 64 x.tail) ∧ (off = 0x008 → w = BitVec.ofNat 64 x.head)
          ∧ (off = 0x010 → Word.bits w 0 2 = s.get HIF_RING_CFG.STATE r ∧ Word.flag w 2 = x.stalled ∧ Word.flag w 3 = x.err ∧ Word.bits w 4 60 = 0)
          ∧ (off ∉ [0x000, 0x008, 0x010] → w = 0))
    ∧ (∀ (r : Fin 256) (descs : List (List Word)) (data : List Byte) (bad : Bool),
        let x := s.ring r
        let c := Instr.txFrameDmaDone r descs data bad
        let due := s.get HIF_RING_CFG.STATE r ≠ 0 ∧ x.stalled = false ∧ descChain descs = true ∧ descs.length ≤ x.posted
          ∧ (descLengthsOk descs = true → bad = false → data.length = sumOf descs descLen)
        let s1 := (s.txFetch r descs).2
        let it := s1.txItem r x.nextId descs data
        let st := s1.txStatus descs bad it
        (¬ due → Ends c s s)
        ∧ (due → st = 0 → (it.scFields = none → Ends c s (((s1.dmaOctets data.length).chargeRing it true).route it))
            ∧ (∀ sc, it.scFields = some sc → it.ts.op < 2 → Answers c s fun u => (u.seq (seqOf sc.inPort)).fifo = (s.seq (seqOf sc.inPort)).fifo ++ [it]
                ∧ (u.ring r).fetched = (x.fetched + descs.length) % 131072 ∧ (u.ring r).wbs = x.wbs ∧ u.tbl = s.tbl))
        ∧ (due → st ≠ 0 → x.txq = [] → Answers c s fun u => (u.ring r).txq = [] ∧ (u.ring r).head = (x.fetched + descs.length) % 131072
            ∧ (u.ring r).wbs.length = x.wbs.length + descs.length ∧ (∀ wb ∈ (u.ring r).wbs.drop x.wbs.length, (wb.words.getD 3 0).bits 16 8 = st ∧ (wb.words.getD 3 0).bits 32 1 = 1)
            ∧ u.get HIF_RING_STAT.ERRORS r = satAdd 16 (s.get HIF_RING_STAT.ERRORS r) 1 ∧ u.path = s.path ∧ u.tbl = s.tbl)
        ∧ (descLengthsOk descs = false → st = 4) ∧ (descLengthsOk descs = true → bad = true → st = 2))
    ∧ (∀ (r : Fin 256) (buf : Fin 64) (how : DmaEnd), let k := 256 + r.val
        let x := s.ring k
        let due := fun (q : Nat) (it : Item) => s.rxHead k = some (q, it) ∧ s.get HIF_RING_CFG.STATE k ≠ 0 ∧ x.stalled = false ∧ s.rxBuffers k it ≤ x.posted
        ((∀ q it, ¬ due q it) → Ends (.rxFrameWrite r buf how) s s)
        ∧ (∀ q it, due q it → 0 < s.ringBuf k → let n := s.rxBuffers k it; let m := min n (buf + 1)
            Answers (.rxFrameWrite r buf .ok) s (fun u => let new := (u.ring k).wbs.drop x.wbs.length
              new.length = n ∧ new.flatMap (·.data) = it.data ∧ (∀ wb ∈ new, (wb.words.getD 3 0).bits 16 8 = 0) ∧ (u.ring k).head = (x.head + n) % 131072
              ∧ (u.queue q).entries = (s.queue q).entries.drop 1 ∧ u.get HIF_RING_STAT.FRAMES k = satAdd 32 (s.get HIF_RING_STAT.FRAMES k) 1)
            ∧ (∀ e ∈ [(DmaEnd.hostErr, 2), (.memErr, 3)], Answers (.rxFrameWrite r buf e.1) s fun u => let new := (u.ring k).wbs.drop x.wbs.length
              new.length = m ∧ (∀ wb ∈ new, (wb.words.getD 3 0).bits 16 8 = e.2) ∧ (0 < m → ((new.getD (m - 1) ⟨0, [], []⟩).words.getD 2 0).bits 0 14 = 0)
              ∧ (u.queue q).entries = (s.queue q).entries.drop 1 ∧ u.get HIF_RING_STAT.ERRORS k = satAdd 16 (s.get HIF_RING_STAT.ERRORS k) 1)))
    ∧ (∀ (fn : Fin 2) (page : BitVec 52) (granted pri : Bool) (x : DmaXfer), let c := Instr.atsTranslationCompletion fn page granted pri x
        let r := (xferRing x).getD 0
        (granted = true → s.hif.atc.length < 4096 → Answers c s fun u => (page.toNat, fn.val) ∈ u.hif.atc ∧ u.regs = s.regs
            ∧ (xferRing x ≠ none → (u.ring r).stalled = false ∧ (u.ring r).wait = none))
        ∧ (granted = false → s.xferOk x = false → Ends c s s)
        ∧ (granted = false → s.xferOk x = true → xferRing x ≠ none → pri = true → s.get (priOff fn) = 0 → Answers c s fun u => (u.ring r).stalled = true ∧ (u.ring r).paging = true
            ∧ u.get HIF_DMA_STATUS.PRI_REQ = satAdd 16 (s.get HIF_DMA_STATUS.PRI_REQ) 1 ∧ u.get HIF_RING_STAT.STALLS r = satAdd 16 (s.get HIF_RING_STAT.STALLS r) 1
            ∧ u.get EVT_SRC.STATUS (ringSource r) = 1)
        ∧ (∀ (q : Fin 256) descs, x = .tx q descs → granted = false → s.xferOk x = true → pri = false → (s.ring q).txq = [] → Answers c s fun u =>
            (u.ring q).txq = [] ∧ (u.ring q).wbs.length = (s.ring q).wbs.length + descs.length
            ∧ (∀ wb ∈ (u.ring q).wbs.drop (s.ring q).wbs.length, (wb.words.getD 3 0).bits 16 8 = 1) ∧ u.get EVT_SRC.STATUS (ringSource q) = 1)
        ∧ Ends (.atsInvalidationRequest fn page) s { s with hif := { s.hif with atc := s.hif.atc.filter (· != (page.toNat, fn.val)), invDone := s.hif.invDone + 1 } })
    ∧ (∀ (fn : Fin 2) (r : Option (Fin 512)), let waits := ∀ k, r = some k → (s.ring k).paging = true
        let fails := fun (u : State) => u.get HIF_DMA_STATUS.PRI_FAIL = satAdd 16 (s.get HIF_DMA_STATUS.PRI_FAIL) 1 ∧ u.get EVT_SRC.STATUS 152 = 1
          ∧ ∀ k, r = some k → (s.ring k).wait ≠ none → (u.ring k).stalled = false ∧ (u.ring k).paging = false
        (¬ waits → (∀ how, Ends (.pageRequestResponse fn r how) s s) ∧ Ends (.pageRequestTimeout r) s s)
        ∧ (waits → (r = none → Ends (.pageRequestResponse fn r .success) s s)
            ∧ (∀ k, r = some k → Ends (.pageRequestResponse fn r .success) s (s.onRing k fun x => { x with paging := false }))
            ∧ Answers (.pageRequestResponse fn r .invalidRequest) s fails ∧ Answers (.pageRequestTimeout r) s fails
            ∧ Answers (.pageRequestResponse fn r .responseFailure) s fun u => fails u ∧ u.get (priOff fn) = 1))
    ∧ (∀ r : Fin 512, let un := (s.ring r).unreported
        (un = 0 ∨ s.get HIF_RING_CFG.COAL_US r = 0 → Ends (.ringCoalTimer r) s s)
        ∧ (un ≠ 0 → s.get HIF_RING_CFG.COAL_US r ≠ 0 → Answers (.ringCoalTimer r) s fun u => (u.ring r).unreported = 0 ∧ u.get EVT_SRC.STATUS (ringSource r) = 1))
    ∧ (∀ (i : Fin 512) (clear mask ring log : Bool) (v : BitVec 9), Answers (.evtSrcWrite i clear mask ring log v) s fun u =>
        let status := if clear then 0 else s.get EVT_SRC.STATUS i
        u.get EVT_SRC.STATUS i = status ∧ u.get EVT_SRC.MASK i = (if mask then 1 else 0) ∧ u.get EVT_SRC.RING i = (if ring then 1 else 0)
        ∧ u.get EVT_SRC.VECTOR i = v.toNat ∧ (i.val < 256 → u.get EVT_SRC.LOG i = (if log then 1 else 0)) ∧ OnlyTheRegs [.EVT_SRC] s { u with evt := s.evt }
        ∧ (s.get EVT_SRC.MASK i = 1 → mask = false → status = 1 → v.toNat ∉ s.evt.vecMasked → u.evt.msixSent = s.evt.msixSent ++ [v.toNat])
        ∧ (s.get EVT_SRC.MASK i = 1 → mask = false → status = 1 → v.toNat ∈ s.evt.vecMasked → v.toNat ∈ u.evt.pba)
        ∧ (mask = true ∨ status = 0 ∨ s.get EVT_SRC.MASK i = 0 → u.evt = s.evt))

/-- R618, R623, R626: PCIe resets, ownership, the mailbox. -/
def Obligations.PcieResetsOwnershipAndMailbox : Prop :=
  ∀ s : State, Settled s →
    let owner := s.get GLB_OWNER.OWNER
    let req := s.get GLB_OWNER.REQ
    let released := fun (u : State) => u.get GLB_OWNER.OWNER = (if owner = 1 then (if req = 1 then 2 else 0) else owner) ∧ (owner = 1 → u.get GLB_OWNER.REQ = 0)
    let ringsDown := fun (u : State) => ∀ r : Fin 512, u.get HIF_RING_CFG.STATE r = (if s.get HIF_RING_CFG.STATE r = 0 then 0 else 2)
      ∧ (s.get HIF_RING_CFG.STATE r ≠ 0 → u.get HIF_RING_CFG.EN r = 0)
    let rest := fun (u : State) => u.kst = s.kst ∧ u.lets = s.lets ∧ u.q = s.q
    (∀ c ∈ [Instr.perstAssert, .pcieHotReset, .pcieLinkDown], Answers c s fun u =>
      ringsDown u ∧ released u ∧ rest u ∧ u.tbl = s.tbl ∧ u.get EVT_RING_CFG.STATE = 0 ∧ u.get EVT_RING_CFG.EN = 0 ∧ u.evt.vecMasked = [] ∧ u.evt.pba = []
      ∧ (∀ e ∈ u.hif.atc, e.2 ≠ 0 ∧ e.2 ≠ 1) ∧ u.hif.doe = { out := s.hif.doe.out } ∧ u.get HIF_DMA_STATUS.PRI_OFF0 = 0 ∧ u.get HIF_DMA_STATUS.PRI_OFF1 = 0)
    ∧ (Answers .flrPf0 s fun u => released u ∧ rest u ∧ (∀ i, u.sa? i = s.sa? i ∧ u.sc? i = s.sc? i) ∧ u.word .EVT_RING_CFG 0 0 = Reg.EVT_RING_CFG.resetWord 0 0
        ∧ u.word .EVT_RING_BASE 0 0 = 0 ∧ u.evt.vecMasked = [] ∧ (∀ e ∈ u.hif.atc, e.2 ≠ 0) ∧ u.hif.doe = { out := s.hif.doe.out }
        ∧ u.get HIF_DMA_STATUS.PRI_OFF0 = 0 ∧ u.hif.rings = s.hif.rings)
    ∧ (Answers .flrPf1 s fun u => ringsDown u ∧ rest u ∧ u.tbl = s.tbl ∧ (∀ e ∈ u.hif.atc, e.2 ≠ 1) ∧ u.get HIF_DMA_STATUS.PRI_OFF1 = 0
        ∧ u.get GLB_OWNER.OWNER = owner ∧ u.hif.doe = s.hif.doe)
    ∧ (owner = 0 → Ends .ownerTake s (s.set GLB_OWNER.OWNER 0 1)) ∧ (owner ≠ 0 → Ends .ownerTake s s)
    ∧ (owner ≠ 1 → Ends .ownerRelease s s ∧ Ends .ownerKeep s s ∧ Ends .ownerForceTimeout s s)
    ∧ (owner = 1 → Answers .ownerRelease s (fun u => released u ∧ OnlyTheRegs [.GLB_OWNER, .SBM_STATUS] s { u with sb := s.sb }))
    ∧ (owner = 1 → req = 0 → Ends .ownerKeep s s ∧ Ends .ownerForceTimeout s s)
    ∧ (owner = 1 → req = 1 → Answers .ownerKeep s (fun u => u.get GLB_OWNER.OWNER = 1 ∧ u.get GLB_OWNER.REQ = 0)
        ∧ Answers .ownerForceTimeout s fun u => u.get GLB_OWNER.OWNER = 2 ∧ u.get GLB_OWNER.REQ = 0 ∧ u.get GLB_OWNER.FORCED = 1 ∧ u.get EVT_SRC.STATUS 152 = 1)
    ∧ (∀ n : BitVec 16, Answers (.mboxGo n) s fun u => u.get HIF_MBOX_CTRL.REQ_LEN = n.toNat ∧ u.get HIF_MBOX_CTRL.BUSY = 1 ∧ OnlyTheRegs [.HIF_MBOX_CTRL] s u)
    ∧ (∀ (r : VendorReq) (w : Bool), let res := s.vendorResult true r
        let sent := fun (data : List Word) (u : State) => u.hif.mboxOut = s.hif.mboxOut ++ [.vendor (vendorCode r) res data] ∧ u.get HIF_MBOX_CTRL.BUSY = 0
          ∧ u.get HIF_MBOX_CTRL.DONE = 1 ∧ u.get HIF_MBOX_CTRL.RESULT = res ∧ u.get EVT_SRC.STATUS 152 = 1
        (s.get HIF_MBOX_CTRL.BUSY = 0 → Ends (.mboxDone r w) s s)
        ∧ (s.get HIF_MBOX_CTRL.BUSY = 1 → (res ≠ 0 → Answers (.mboxDone r w) s fun u => sent [] u ∧ u.kst = s.kst ∧ u.get GLB_OWNER.OWNER = owner)
            ∧ (∀ d ∈ [VendorReq.getIdentity, .getHealth, .getAlarms, .readAoLog], r = d → Answers (.mboxDone r w) s (sent (s.vendorData d)))
            ∧ (r = .take → res = 0 → Answers (.mboxDone r w) s fun u => u.get HIF_MBOX_CTRL.DONE = 1 ∧ u.get GLB_OWNER.OWNER = (if owner = 0 then 1 else owner))
            ∧ (∀ slot, r = .selectSlot slot → res = 0 → Answers (.mboxDone r w) s fun u => u.get HIF_MBOX_CTRL.DONE = 1 ∧ u.get NVJ_BOOT.PIN = slot.toNat)))

/-- R627, R628: the seven SPDM requests, over DOE or MCTP. The layouts of the messages are the model's reading of DSP0274
(notes/assumptions/71.md). -/
def Obligations.SpdmRequests : Prop :=
  ∀ (s : State) (m : Bool) (req : List Byte),
    let c := s.conn m
    let sends := fun (i : Instr) (v u : State) (rsp : List Byte) (x : SpdmConn) => Ends i s (u.setConn m { x with out := c.out ++ [rsp] })
    let fails := fun (i : Instr) (code : Nat) => sends i s s (spdmError code) c
    let later := [Instr.spdmNegotiateAlgorithms m req, .spdmGetDigests m req, .spdmGetCertificate m req, .spdmChallenge m req, .spdmGetMeasurements m req]
    let version : List Byte := [0x10, 0x04, 0, 0, 0, 1, 0x00, 0x12]
    let digests : List Byte := [0x12, 0x01, 0, 0]
    let ours := req.headD 0 = 0x12
    ((m = true ∧ s.pwr.power < 2) → ∀ i ∈ [Instr.spdmGetVersion m req, .spdmGetCapabilities m req] ++ later, Ends i s s)
    ∧ (¬ (m = true ∧ s.pwr.power < 2) →
    (req.length < 4 → fails (.spdmGetVersion m req) 1)
    ∧ (4 ≤ req.length → sends (.spdmGetVersion m req) s s version { stage := 1, a := req ++ version })
    ∧ (req.length < 12 → fails (.spdmGetCapabilities m req) 1)
    ∧ (12 ≤ req.length → ¬ ours → fails (.spdmGetCapabilities m req) 0x41)
    ∧ (12 ≤ req.length → ours → c.stage ≠ 1 → fails (.spdmGetCapabilities m req) 4)
    ∧ (12 ≤ req.length → ours → c.stage = 1 → ∃ rsp : List Byte, rsp.length = 20 ∧ rsp.take 2 = [0x12, 0x61] ∧ (rsp.drop 8).take 4 = leBytes 4 0x10014
        ∧ sends (.spdmGetCapabilities m req) s s rsp { c with stage := 2, a := c.a ++ req ++ rsp })
    ∧ (s.idKey = none → ∀ i ∈ later, fails i 5)
    ∧ (s.idKey ≠ none → req.length < 4 → ∀ i ∈ later, fails i 1)
    ∧ (s.idKey ≠ none → 37 ≤ req.length → ¬ ours → ∀ i ∈ later, fails i 0x41)
    ∧ (s.idKey ≠ none → 37 ≤ req.length → ours → c.stage < 2 → ∀ i ∈ later, fails i 4)
    ∧ (s.idKey ≠ none → 32 ≤ req.length → ours → 2 < c.stage → fails (.spdmNegotiateAlgorithms m req) 4)
    ∧ (s.idKey ≠ none → 32 ≤ req.length → ours → c.stage = 2 →
        (∃ rsp : List Byte, rsp.length = 36 ∧ rsp.take 2 = [0x12, 0x63] ∧ (rsp.drop 12).take 4 = leBytes 4 (offered req 8 7) ∧ (rsp.drop 16).take 4 = leBytes 4 (offered req 12 1)
          ∧ sends (.spdmNegotiateAlgorithms m req) s s rsp { c with stage := 3, a := c.a ++ req ++ rsp })
        ∧ (37 ≤ req.length → ∀ i ∈ later.drop 1, fails i 4))
    ∧ (s.idKey ≠ none → ours → 3 ≤ c.stage →
        (4 ≤ req.length → sends (.spdmGetDigests m req) s s digests { c with b := c.b ++ req ++ digests, l := [] })
        ∧ (8 ≤ req.length → fails (.spdmGetCertificate m req) 1))
    ∧ (∀ d, s.idKey = some d → ours → 3 ≤ c.stage →
        let nonce := s.drbg 32
        let typ := req.getD 3 0
        let summary := if typ = 0 then [] else if typ = 1 then sha384 (s.measBlock 1 ++ s.measBlock 2) else sha384 (s.measBlock 1 ++ s.measBlock 2 ++ s.measBlock 3 ++ s.measBlock 4)
        let auth : List Byte := [0x12, 0x03, 0x0F, 0] ++ sha384 (p384Public d) ++ nonce.1 ++ summary ++ [0, 0]
        let signed := nonce.2.spdmSign d "responder-challenge_auth signing" (c.a ++ c.b ++ req ++ auth)
        let known := req.getD 2 0 = 0xFF ∧ (typ = 0 ∨ typ = 1 ∨ typ = 0xFF)
        (36 ≤ req.length → ¬ known → fails (.spdmChallenge m req) 1)
        ∧ (36 ≤ req.length → known → s.drbgRefuses = true → fails (.spdmChallenge m req) 5)
        ∧ (36 ≤ req.length → known → s.drbgRefuses = false → nonce.1.length = 32 ∧ signed.1.length = 96 ∧ OnlyTheRegs [.PMC_CHIP_CNT, .PMC_OVF, .PMC_CTRL] s { signed.2 with free := s.free }
            ∧ sends (.spdmChallenge m req) s signed.2 (auth ++ signed.1) { c with b := [], l := [] }))
    ∧ (∀ d, s.idKey = some d → ours → 3 ≤ c.stage →
        let nonce := s.drbg 32
        let op := (req.getD 3 0).toNat
        let sig := (req.getD 2 0).getLsbD 0
        let long := (if sig = true then 37 else 4) ≤ req.length
        let body := fun (n : Nat) (r : List Byte) => ([0x12, 0x60, if op = 0 then 4 else 0, if sig = true then 0x0F else 0, BitVec.ofNat 8 n] ++ leBytes 3 r.length ++ r ++ nonce.1 ++ [0, 0] : List Byte)
        let answer := fun (n : Nat) (r : List Byte) => let l := (if c.l = [] then c.a else c.l) ++ req ++ body n r
          let x := nonce.2.spdmSign d "responder-measurements signing" l
          (sig = false → sends (.spdmGetMeasurements m req) s nonce.2 (body n r) { c with b := [], l := l })
          ∧ (sig = true → sends (.spdmGetMeasurements m req) s x.2 (body n r ++ x.1) { c with b := [], l := [] })
        (long → 4 < op → op ≠ 255 → fails (.spdmGetMeasurements m req) 1)
        ∧ (long → op ≤ 4 ∨ op = 255 → s.drbgRefuses = true → fails (.spdmGetMeasurements m req) 5)
        ∧ (long → op ≤ 4 ∨ op = 255 → s.drbgRefuses = false → sig = true → req.getD 36 0 ≠ 0x0F → fails (.spdmGetMeasurements m req) 1)
        ∧ (long → s.drbgRefuses = false → (sig = true → req.getD 36 0 = 0x0F) →
            (op = 0 → answer 0 []) ∧ (1 ≤ op → op ≤ 4 → answer 1 (s.measBlock op))
            ∧ (op = 255 → answer 4 (s.measBlock 1 ++ s.measBlock 2 ++ s.measBlock 3 ++ s.measBlock 4)))))
    ∧ (s.measurement 1).length = 48 ∧ s.measurement 1 = beBytes 48 Config.romHash.toNat ∧ (s.measurement 3).length = 24 ∧ (s.measurement 4).length = 16
    ∧ (∀ slot, s.nvj.loaded = some slot → let h := s.rd (slotBase slot) 256
        s.measurement 2 = sha384 (s.rd (slotBase slot) (fieldAt h 16 4)) ++ measWord (fieldAt h 8 8))

/-- R36, R518, R629 to R631, R698: the rungs of recovery. -/
def Obligations.FunctionDeviceAndPowerResets : Prop :=
  ∀ s : State, Settled s →
    let free := s.get GLB_FRESET_STATUS.BUSY = 0
    let shows := fun (typ index : Nat) (u : State) => u.get GLB_FRESET_STATUS.TYPE = typ ∧ u.get GLB_FRESET_STATUS.INDEX = index
    let busy := fun (u : State) => u.get GLB_FRESET_STATUS.BUSY
    let ofFn := fun (c : Instr) (f : Fn) => let k := fnFreset f
      (free → s.disableDiscarded f = false → s.fnState f = 0 → Answers c s fun u => shows k.1 k.2 u ∧ busy u = 0 ∧ u.get GLB_FRESET_STATUS.DONE = 1 ∧ u.fnState f = 0)
    let stops := fun (c : Instr) (f : Fn) => let k := fnFreset f
      (free → s.disableDiscarded f = false → s.fnState f = 3 → Answers c s fun u => shows k.1 k.2 u ∧ busy u = 1 ∧ u.fnState f = 2 ∧ u.get (fnEn f).1 (fnEn f).2 = 0)
    (∀ i : BitVec 16,
      (¬ free → ∀ c ∈ [Instr.fresetPort i, .fresetSa i, .fresetQueue i, .fresetRing i, .fresetPod i, .fresetTableUnit i], Ends c s s)
      ∧ (64 ≤ i.toNat → Ends (.fresetPort i) s s) ∧ (4096 ≤ i.toNat ∨ i.toNat % 1024 < 104 → Ends (.fresetQueue i) s s)
      ∧ (512 ≤ i.toNat → Ends (.fresetRing i) s s) ∧ (24 ≤ i.toNat → Ends (.fresetPod i) s s) ∧ (4 ≤ i.toNat → Ends (.fresetTableUnit i) s s))
    ∧ (∀ p : Fin 64, ofFn (.fresetPort (BitVec.ofNat 16 p)) (.port p) ∧ stops (.fresetPort (BitVec.ofNat 16 p)) (.port p))
    ∧ (∀ q : Fin 4096, ofFn (.fresetQueue (BitVec.ofNat 16 q)) (.queue q) ∧ stops (.fresetQueue (BitVec.ofNat 16 q)) (.queue q))
    ∧ (∀ r : Fin 512, ofFn (.fresetRing (BitVec.ofNat 16 r)) (.ring r) ∧ stops (.fresetRing (BitVec.ofNat 16 r)) (.ring r)
        ∧ (free → s.get HIF_RING_CFG.STATE r = 1 → Answers (.fresetRing (BitVec.ofNat 16 r)) s fun u =>
            busy u = 1 ∧ u.get HIF_RING_CFG.STATE r = 2 ∧ u.get HIF_RING_CFG.EN r = 0 ∧ u.hif = s.hif))
    ∧ (∀ (n : Fin 4) (p : Fin 6), ofFn (.fresetPod (BitVec.ofNat 16 (6 * n + p))) (.pod n p) ∧ stops (.fresetPod (BitVec.ofNat 16 (6 * n + p))) (.pod n p))
    ∧ (∀ i : BitVec 16, free →
        ((s.sa? i.toNat).all (fun a => a.state == 0 && !a.en) = true → Answers (.fresetSa i) s fun u =>
          shows 2 i.toNat u ∧ busy u = 0 ∧ u.get GLB_FRESET_STATUS.DONE = 1 ∧ u.tbl = s.tbl)
        ∧ (∀ a, s.sa? i.toNat = some a → a.en = true → a.live = false → Answers (.fresetSa i) s fun u =>
            shows 2 i.toNat u ∧ busy u = 1 ∧ u.sa? i.toNat = some { a with en := false, state := 2 }))
    ∧ (∀ n : Fin 4, free → s.tblPort n .host = .idle → s.tblPort n .mcu = .idle → Answers (.fresetTableUnit (BitVec.ofNat 16 n)) s fun u =>
        shows 6 n u ∧ busy u = 0 ∧ u.get GLB_FRESET_STATUS.DONE = 1 ∧ ∀ i, u.sa? i = s.sa? i ∧ u.sc? i = s.sc? i)
    ∧ (let due := s.get GLB_FRESET_STATUS.BUSY = 1 ∧ s.get GLB_FRESET_STATUS.TIMEOUT = 0
       (¬ due → Ends .fresetTimeout s s)
       ∧ (due → Answers .fresetTimeout s fun u => u.get GLB_FRESET_STATUS.TIMEOUT = 1 ∧ busy u = 1 ∧ u.get EVT_SRC.STATUS 152 = 1))
    ∧ (∀ confirm : BitVec 32, let ok := confirm = 0x44525354#32
        let held := s.tmp.resp ≠ 0 ∨ s.pwr.resetHeld = true
        (¬ ok → Ends (.deviceReset confirm) s s ∧ Ends (.powerCycle confirm) s s)
        ∧ (ok → Ends (.powerCycle confirm) s { s with pwr := { s.pwr with cycling := true } })
        ∧ (ok → held → Ends (.deviceReset confirm) s s)
        ∧ (ok → ¬ held → s.nvj.prog = none → Answers (.deviceReset confirm) s fun u =>
            u.nvj.flash = s.nvj.flash ∧ u.lcm.rootA = s.lcm.rootA ∧ u.lcm.rootB = s.lcm.rootB ∧ u.lcm.lcBits = s.lcm.lcBits ∧ u.lcm.customerHashes = s.lcm.customerHashes
            ∧ u.tmp.bsk = s.tmp.bsk ∧ u.tbl = State.reset.tbl ∧ u.path = State.reset.path ∧ u.q = State.reset.q ∧ u.lets = State.reset.lets ∧ u.dram = State.reset.dram
            ∧ u.kst.slots = keptSlots false s.kst.slots
            ∧ (∀ r ∈ keptRegs, ∀ i w, i < 8192 → w < 8 → u.word r i w = s.word r i w)
            ∧ (∀ r ∉ keptRegs, r ∉ [Reg.NVJ_BOOT, .GLB_RESET, .SBM_STATUS, .MTL_PAIR_STATUS] → ∀ i w, i < 8192 → w < 8 → u.word r i w = r.resetWord i w)))
    ∧ (s.pwr.cycling = false → ∀ d, Ends (.powerCyclePulseEnd d) s s)
    ∧ (s.pwr.cycling = true → Ends (.powerCyclePulseEnd true) s { s with pwr := { s.pwr with cycling := false } }
        ∧ Answers (.powerCyclePulseEnd false) s fun u => u.get GLB_RESET.PC_FAIL = 1 ∧ u.pwr.cycling = false
          ∧ (s.tmp.resp = 0 → s.pwr.resetHeld = false → u.tbl = State.reset.tbl))

/-- R635 to R639, R641, Tables 20-3 and 20-4: the side-band's vendor commands. That the lowest code is answered where several apply, and
which words carry the data, are the model's choices (notes/assumptions/70.md). -/
def Obligations.SideBandVendorCommands : Prop :=
  ∀ (first : BitVec 64) (seq : BitVec 64) (count port bin slot : BitVec 8) (k : BitVec 32) (w : Bool) (s : State),
    let said := fun (res : Nat) (r : VendorReq) (data : List Word) (x : State) => (x.sbAnswer (.vendor (vendorCode r) res data)).inc SBM_STATUS.COMMANDS 0
    let confirm : BitVec 32 := 0x44525354
    let owned := s.get GLB_OWNER.OWNER = 2
    let up := 2 ≤ s.pwr.power
    let hold := s.get TMP_STATUS.HOLD = 1
    let owns : List (Instr × VendorReq) := [(.sbRelease, .release), (.sbSetPowerStandby, .setPower 1), (.sbSetPowerService, .setPower 2), (.sbDeviceReset confirm, .deviceReset confirm),
      (.sbPowerCycle confirm, .powerCycle confirm), (.sbSelectSlot 2, .selectSlot 2), (.sbReleaseHold, .releaseHold)]
    let reads : List (Instr × VendorReq) := [(.sbGetIdentity, .getIdentity), (.sbGetHealth, .getHealth), (.sbGetAlarms, .getAlarms), (.sbReadAoLog, .readAoLog)]
    let badly : List (Instr × VendorReq × Bool) := [(.sbReadEventLog first count, .readEventLog first count, count == 0 || 64 < count.toNat),
      (.sbGetPm port bin, .getPm port bin, 32 ≤ port.toNat || 100 ≤ bin.toNat), (.sbDeviceReset k, .deviceReset k, k != confirm), (.sbPowerCycle k, .powerCycle k, k != confirm),
      (.sbSelectSlot slot, .selectSlot slot, 2 < slot.toNat), (.sbZeroise k w, .zeroise k, k != 0x5A45524F)]
    (¬ up → (∀ c ∈ owns ++ reads, Ends c.1 s s) ∧ (∀ c ∈ badly, Ends c.1 s s) ∧ Ends (.sbAckAlert seq) s s ∧ Ends .sbTake s s)
    ∧ (up → ∀ c ∈ badly, c.2.2 = true → Ends c.1 s (said 1 c.2.1 [] s))
    ∧ (up → ¬ owned → (∀ c ∈ owns, Ends c.1 s (said 2 c.2 [] s)) ∧ (slot.toNat ≤ 2 → Ends (.sbSelectSlot slot) s (said 2 (.selectSlot slot) [] s)))
    ∧ (up → port.toNat < 32 → bin.toNat < 100 → s.pwr.power ≠ 3 ∨ hold → Ends (.sbGetPm port bin) s (said 3 (.getPm port bin) [] s))
    ∧ (up → owned → ¬ hold → Ends .sbReleaseHold s (said 3 .releaseHold [] s))
    ∧ (up → owned → hold → s.get TMP_STATUS.HOLD_CAUSE ≠ 2 → Ends .sbReleaseHold s (said 5 .releaseHold [] s))
    ∧ (up → (∀ c ∈ reads, Ends c.1 s (said 0 c.2 (s.vendorData c.2) s))
        ∧ (1 ≤ count.toNat → count.toNat ≤ 64 → Ends (.sbReadEventLog first count) s (said 0 (.readEventLog first count) (s.eventLog first.toNat count.toNat) s))
        ∧ (port.toNat < 32 → bin.toNat < 100 → s.pwr.power = 3 → ¬ hold → Ends (.sbGetPm port bin) s (said 0 (.getPm port bin) (s.pmAnswer port.toNat bin.toNat) s)))
    ∧ (s.vendorData .getIdentity = [s.word .LCM_DEVICE_ID 0 0, s.word .LCM_STATE 0 0, Config.orderingCode, s.word .NVJ_BOOT 0 0]
        ∧ (hold → s.vendorData .getAlarms = [s.word .TMP_ALARM 0 0, s.word .TMP_RAW 0 0] ++ List.replicate 32 0)
        ∧ (s.pmAnswer port.toNat 99 = (List.range 8).map fun i => s.word .KFR_PM_SNAP port.toNat i))
    ∧ (up → Settled s → Answers (.sbAckAlert seq) s fun u => u.sb.ackSeq = some seq.toNat ∧ u.get SBM_STATUS.ALERT = (if u.alerting = true then 1 else 0)
        ∧ u.sb.answers = s.sb.answers ++ [.vendor 7 0 []] ∧ OnlyTheRegs [.SBM_STATUS] s { u with sb := s.sb })
    ∧ (up → (s.get GLB_OWNER.OWNER = 0 → let x := s.set GLB_OWNER.OWNER 0 2; Ends .sbTake s (said 0 .take [x.word .GLB_OWNER 0 0] x))
        ∧ (owned ∨ (s.get GLB_OWNER.OWNER = 1 ∧ s.get GLB_OWNER.REQ = 1) → Ends .sbTake s (said 0 .take [s.word .GLB_OWNER 0 0] s))
        ∧ (Settled s → s.get GLB_OWNER.OWNER = 1 → s.get GLB_OWNER.REQ = 0 → Answers .sbTake s fun u =>
            u.get GLB_OWNER.OWNER = 1 ∧ u.get GLB_OWNER.REQ = 1 ∧ u.get EVT_SRC.STATUS 152 = 1 ∧ u.sb.answers = s.sb.answers ++ [.vendor 16 0 [u.word .GLB_OWNER 0 0]]))
    ∧ (up → owned →
        (Settled s → Answers .sbRelease s fun u => u.get GLB_OWNER.OWNER = 0 ∧ u.get GLB_OWNER.REQ = 0 ∧ u.sb.answers = s.sb.answers ++ [.vendor 17 0 [u.word .GLB_OWNER 0 0]])
        ∧ Ends .sbSetPowerStandby s (said 0 (.setPower 1) [] s).standbyBegin
        ∧ (s.pwr.power = 2 → Ends .sbSetPowerService s ((said 0 (.setPower 2) [] s).set PWR_STATE.MAIN_EN 0 1))
        ∧ (s.pwr.power ≠ 2 → Ends .sbSetPowerService s (said 0 (.setPower 2) [] s))
        ∧ (s.tmp.resp ≠ 0 ∨ s.pwr.resetHeld = true → Ends (.sbDeviceReset confirm) s (said 0 (.deviceReset confirm) [] s))
        ∧ (s.tmp.resp = 0 → s.pwr.resetHeld = false → Answers (.sbDeviceReset confirm) s fun u => u.sb.answers = s.sb.answers ++ [.vendor 33 0 []]
            ∧ u.tbl = State.reset.tbl ∧ u.path = State.reset.path ∧ u.get GLB_OWNER.OWNER = 0)
        ∧ (let x := said 0 (.powerCycle confirm) [] s; Ends (.sbPowerCycle confirm) s { x with pwr := { x.pwr with cycling := true } })
        ∧ (slot.toNat ≤ 2 → let x := s.set NVJ_BOOT.PIN 0 slot.toNat; Ends (.sbSelectSlot slot) s (said 0 (.selectSlot slot) [x.word .NVJ_BOOT 0 0] x))
        ∧ (Settled s → hold → s.get TMP_STATUS.HOLD_CAUSE = 2 → Answers .sbReleaseHold s fun u => u.get TMP_STATUS.HOLD = 0 ∧ u.get TMP_STATUS.HOLD_CAUSE = 0
            ∧ u.get TMP_STATUS.TAMPER_STARTS = 0 ∧ u.get PWR_START_STATUS.STEP = 1 ∧ u.pwr.startAt = s.clk.sinceReset ∧ u.sb.answers = s.sb.answers ++ [.vendor 37 0 []]))
    ∧ (up → Ends (.sbZeroise 0x5A45524F w) s ((said 0 (.zeroise 0x5A45524F) [] s).declare [17] w))
    ∧ (Settled s → s.pwr.power = 2 → Answers (.sbZeroise 0x5A45524F w) s fun u => u.tmp.bsk = none ∧ u.sb.answers = s.sb.answers ++ [.vendor 36 0 []])

/-- R632 to R634, R685: the side-band's standard protocols. The completion codes, the identifiers and which sensors stay available in
STANDBY are the model's reading (notes/assumptions/70.md). -/
def Obligations.SideBandProtocols : Prop :=
  ∀ (eid typ sel ev : BitVec 8) (addr static : BitVec 7) (len : BitVec 16) (handle : BitVec 32) (sensor : BitVec 16) (s : State),
    let up := 2 ≤ s.pwr.power
    let mode := s.get SBM_STATUS.MODE
    let mine := s.get SBM_STATUS.STATIC_ADDR
    let answers := fun (c : Instr) (a : SbAnswer) => up → Ends c s (s.sbAnswer a)
    let assigned := fun (a : Nat) => (s.set SBM_STATUS.MODE 0 1).set SBM_STATUS.DYN_ADDR 0 a
    let sets : List Instr := [.i3cSetnewda addr, .i3cSetmwl len, .i3cSetmrl len, .i3cEnec ev, .i3cDisec ev, .i3cGetstatus]
    let reads : List (Instr × SbAnswer) := [(.i3cGetpid, .ccc 0x8D Config.i3cPid.toNat), (.i3cGetbcr, .ccc 0x8E Config.i3cBcr.toNat), (.i3cGetdcr, .ccc 0x8F Config.i3cDcr.toNat),
      (.i3cGetmwl, .ccc 0x8B s.sb.mwl), (.i3cGetmrl, .ccc 0x8C s.sb.mrl)]
    (¬ up → ∀ c ∈ [Instr.mctpSetEndpointId eid, .mctpGetEndpointId, .mctpGetVersionSupport typ, .mctpGetMessageTypeSupport, .mctpGetVendorMsgSupport sel, .pldmGettid,
        .pldmGetpldmversion typ, .pldmGetpldmtypes, .pldmGetpldmcommands typ, .pldmGetpdr handle, .pldmGetsensorreading sensor, .i3cEntdaa addr, .i3cSetdasa static addr,
        .i3cSetaasa, .i3cRstdaa] ++ sets ++ reads.map (·.1), Ends c s s)
    ∧ (up → (8 ≤ eid.toNat → eid.toNat ≤ 254 → Ends (.mctpSetEndpointId eid) s ({ s with sb := { s.sb with eid := eid.toNat } }.sbAnswer (.mctp 1 0 [0, eid.toNat, 0])))
        ∧ (eid.toNat < 8 ∨ eid.toNat = 255 → Ends (.mctpSetEndpointId eid) s (s.sbAnswer (.mctp 1 2 []))))
    ∧ answers .mctpGetEndpointId (.mctp 2 0 [s.sb.eid, Config.mctpEndpointType.toNat])
    ∧ answers (.mctpGetVersionSupport typ) (if typ.toNat ∈ [0, 1, 5, 0x7E, 0xFF] then .mctp 4 0 [(Config.mctpVersion typ.toNat).toNat] else .mctp 4 0x80 [])
    ∧ answers .mctpGetMessageTypeSupport (.mctp 5 0 [0, 1, 5, 0x7E])
    ∧ answers (.mctpGetVendorMsgSupport sel) (if sel = 0 then .mctp 6 0 [0xFF, 0, Config.vendorId.toNat] else .mctp 6 2 [])
    ∧ answers .pldmGettid (.pldm 0 2 0 [Config.pldmTid.toNat]) ∧ answers .pldmGetpldmtypes (.pldm 0 4 0 [0, 2])
    ∧ answers (.pldmGetpldmversion typ) (if typ.toNat = 0 ∨ typ.toNat = 2 then .pldm 0 3 0 [(Config.pldmVersion typ.toNat).toNat] else .pldm 0 3 0x83 [])
    ∧ answers (.pldmGetpldmcommands typ) (if typ.toNat = 0 then .pldm 0 5 0 [2, 3, 4, 5] else if typ.toNat = 2 then .pldm 0 5 0 [0x11, 0x51] else .pldm 0 5 0x83 [])
    ∧ (let is := fun (i : Nat) => Config.sensorRecord i = handle ∨ (i = 0 ∧ handle = 0)
       (∀ i < 9, is i → (∀ j < i, ¬ is j) → answers (.pldmGetpdr handle) (.pdr i)) ∧ ((∀ i < 9, ¬ is i) → answers (.pldmGetpdr handle) (.pldm 2 0x51 0x82 [])))
    ∧ (let is := fun (i : Nat) => Config.sensorId i = sensor
       (∀ i < 9, is i → (∀ j < i, ¬ is j) → answers (.pldmGetsensorreading sensor) (.reading i (s.sensorValue i)))
        ∧ ((∀ i < 9, ¬ is i) → answers (.pldmGetsensorreading sensor) (.pldm 2 0x11 0x80 [])))
    ∧ (s.sensorValue 1 = some (signed8 (s.get TMP_TEMP.TEMP1)) ∧ s.sensorValue 7 = some (s.get (voltField 5) : Int)
        ∧ (s.pwr.power = 3 → s.sensorValue 0 = some (signed8 (s.get TMP_TEMP.TEMP0)) ∧ s.sensorValue 8 = some (s.get PWR_EST.POWER : Int)
            ∧ ∀ r < 6, s.sensorValue (2 + r) = some (s.get (voltField r) : Int))
        ∧ (s.pwr.power = 2 → ∀ i < 9, i ≠ 1 → i ≠ 7 → s.sensorValue i = none))
    ∧ (up → mode = 0 → Ends (.i3cEntdaa addr) s (assigned addr.toNat) ∧ (mine = static.toNat → Ends (.i3cSetdasa static addr) s (assigned addr.toNat))
        ∧ (mine ≠ static.toNat → Ends (.i3cSetdasa static addr) s s) ∧ Ends .i3cSetaasa s (assigned mine) ∧ ∀ c ∈ sets ++ reads.map (·.1), Ends c s s)
    ∧ (up → mode ≠ 0 → Ends (.i3cEntdaa addr) s s ∧ Ends (.i3cSetdasa static addr) s s ∧ Ends .i3cSetaasa s s)
    ∧ (up → Ends .i3cRstdaa s ((s.set SBM_STATUS.MODE 0 0).set SBM_STATUS.DYN_ADDR 0 0))
    ∧ (up → mode = 1 → Ends (.i3cSetnewda addr) s (assigned addr.toNat) ∧ (∀ c ∈ reads, Ends c.1 s (s.sbAnswer c.2))
        ∧ Ends (.i3cSetmwl len) s { s with sb := { s.sb with mwl := len.toNat } } ∧ Ends (.i3cSetmrl len) s { s with sb := { s.sb with mrl := len.toNat } }
        ∧ Ends (.i3cEnec ev) s (if ev.getLsbD 0 = true then { s with sb := { s.sb with ibi := true } } else s)
        ∧ Ends (.i3cDisec ev) s (if ev.getLsbD 0 = true then { s with sb := { s.sb with ibi := false } } else s)
        ∧ ∃ v < 65536, Ends .i3cGetstatus s ({ s with free := s.free + 1 }.sbAnswer (.ccc 0x90 v)))
    ∧ Ends .sbBusTimeout s s

/-- R642 to R655, R682, R684, R685, Tables 21-2 to 21-4: the device power states and start-up. The source of POWER_FAIL's record is a
free value (notes/assumptions/3.md). -/
def Obligations.PowerStatesAndStartUp : Prop :=
  ∀ (w auto a b : Bool) (addr : BitVec 2) (k : BitVec 32) (r : Fin 5) (mv : BitVec 12) (present : BitVec 16) (s : State), Settled s → s.nvj.prog = none →
    let p := s.pwr.power
    let kept := fun (u : State) => u.nvj.flash = s.nvj.flash ∧ u.lcm.rootA = s.lcm.rootA ∧ u.lcm.rootB = s.lcm.rootB ∧ u.lcm.lcBits = s.lcm.lcBits
    let fresh := fun (u : State) => u.tbl = State.reset.tbl ∧ u.path = State.reset.path ∧ u.kst.slots = [] ∧ u.dram = State.reset.dram
    let noAo := fun (u : State) => u.tmp.bsk = none ∧ u.get TMP_AOLOG_STATUS.COUNT = 0 ∧ u.get TMP_ACLK.COUNT = 0 ∧ u.pwr.power = 0
    let begins := fun (u : State) => u.get PWR_START_STATUS.STEP = 1 ∧ u.get PWR_START_STATUS.STOPPED = 0 ∧ u.get PWR_START_STATUS.TRAFFIC = 0 ∧ u.pwr.startAt = u.clk.sinceReset
    let stops := fun (c : Nat) (u : State) => u.get PWR_START_STATUS.STOPPED = 1 ∧ u.get PWR_START_STATUS.CAUSE = c ∧ u.kst.slots = [] ∧ u.get MTL_PAIR_STATUS.ACTIVE_OUT = 0
      ∧ ∀ i < 32, u.get CPX_PORT_CTRL.STATE i = 0 ∧ u.get LPX_PORT_CTRL.STATE i = 0
    let done := fun (h : StepEnd) => Instr.startupStepDone h
    let at_ := fun (i : Nat) => s.starting = true ∧ s.startStep = i
    let ends : List (Nat × StepEnd) := [(1, .supplies a b), (2, .rom a), (3, .selfCheck present a w), (4, .roots a b), (5, .image a b), (6, .journal), (7, .memory [] [] []), (8, .ports),
      (9, .keys), (10, .traffic)]
    ((let u := { s with pwr := { s.pwr with vbat := true, power := if p = 0 then 1 else p } };
        Ends .vbatRise s (if p = 0 then u.loopSeed else u))
      ∧ (p ≠ 1 → Ends .vbatFall s { s with pwr := { s.pwr with vbat := false } }) ∧ (p = 1 → Answers .vbatFall s fun u => noAo u ∧ kept u ∧ u.pwr.vbat = false))
    ∧ ((2 ≤ p → Ends .vddAuxRise s s) ∧ (p < 2 → Answers .vddAuxRise s fun u => u.pwr.power = 2 ∧ kept u ∧ fresh u ∧ u.tmp.bsk = s.tmp.bsk ∧ u.pwr.vbat = s.pwr.vbat
        ∧ u.get TMP_AOLOG_STATUS.COUNT = s.get TMP_AOLOG_STATUS.COUNT))
    ∧ ((p ≠ 2 → Ends (.pwrAutoSample auto addr) s s) ∧ (p = 2 → Answers (.pwrAutoSample auto addr) s fun u => u.get GLB_PIN_STATUS.SB_ADDR = addr.toNat
        ∧ u.get SBM_STATUS.STATIC_ADDR = 0x58 + addr.toNat ∧ u.get PWR_STATE.AUTO_ON = natOfBool auto ∧ u.get PWR_STATE.MAIN_EN = (if auto = true then 1 else s.get PWR_STATE.MAIN_EN)
        ∧ OnlyTheRegs [.GLB_PIN_STATUS, .PWR_STATE, .SBM_STATUS] s u))
    ∧ ((p < 2 → Ends .vddAuxLoss s s) ∧ (2 ≤ p → s.pwr.vbat = true → Answers .vddAuxLoss s fun u => u.pwr.power = 1 ∧ kept u ∧ fresh u ∧ u.tmp.bsk = s.tmp.bsk)
        ∧ (2 ≤ p → s.pwr.vbat = false → Answers .vddAuxLoss s fun u => noAo u ∧ kept u ∧ fresh u))
    ∧ (let due := p = 2 ∧ s.get PWR_STATE.MAIN_EN = 1
       (¬ due → Ends .powerGood s s ∧ Ends .powerGoodTimeout s s)
       ∧ (due → Answers .powerGood s (fun u => u.pwr.power = 3 ∧ u.get PWR_STATE.STATE = 3 ∧ u.get PWR_STATE.PG = 1 ∧ begins u ∧ u.pwr.startAt = s.clk.sinceReset)
          ∧ Answers .powerGoodTimeout s fun u => u.get PWR_STATE.MAIN_EN = 0 ∧ u.pwr.power = 2 ∧ u.tmp.aoNext = s.tmp.aoNext + 1 ∧ u.tmp.bsk = s.tmp.bsk ∧ u.kst = s.kst))
    ∧ (let o := railOut r mv.toNat
       (p ≠ 3 → Ends (.mainRailLoss r mv w) s s)
       ∧ (p = 3 → s.tmp.resp = 0 → o.1 = false → o.2 = false → Answers (.mainRailLoss r mv w) s fun u => u.pwr.power = 2 ∧ u.get PWR_STATE.STATE = 2 ∧ u.get PWR_STATE.PG = 0
            ∧ u.get PWR_STATE.MAIN_EN = s.get PWR_STATE.MAIN_EN ∧ fresh u ∧ kept u ∧ u.tmp.bsk = s.tmp.bsk)
       ∧ (p = 3 → s.tmp.resp = 0 → s.get TMP_STATUS.HOLD = 0 → s.get PWR_STATE.TRANSIT = 0 → o.1 = true ∨ o.2 = true → 2 ≤ s.respOf (3 + r) →
            Answers (.mainRailLoss r mv w) s fun u => u.tmp.resp = s.respOf (3 + r) ∧ u.pwr.railLost = true ∧ u.pwr.power = 3 ∧ (s.respOf (3 + r) = 3 → u.kst.slots = [])))
    ∧ ((k ≠ 0x50575244 ∨ p ≠ 3 ∨ s.get PWR_STATE.TRANSIT = 1 → Ends (.pwrCtrlStandby k) s s)
        ∧ (p = 3 → s.get PWR_STATE.TRANSIT = 0 → (∀ i < 64, s.bstate i ≠ 5) → Answers (.pwrCtrlStandby 0x50575244) s fun u => u.get PWR_STATE.TRANSIT = 1
            ∧ u.pwr.transitAt = s.clk.sinceReset ∧ u.pwr.power = 3 ∧ ∀ i < 64, s.portExists i = true → u.portState i = (if s.portState i = 0 then 0 else 2)))
    ∧ (Answers .resetNAssert s fun u => u.pwr.resetHeld = true ∧ u.get GLB_PIN_STATUS.RESET_N = 0 ∧ kept u
        ∧ (p < 2 ∨ s.tmp.resp ≠ 0 → u.tbl = s.tbl ∧ u.tmp = s.tmp) ∧ (2 ≤ p → s.tmp.resp = 0 → u.tbl = State.reset.tbl ∧ u.path = State.reset.path ∧ u.tmp.bsk = s.tmp.bsk))
    ∧ (Answers .resetNRelease s fun u => u.pwr.resetHeld = false ∧ u.get GLB_PIN_STATUS.RESET_N = 1 ∧ u.tap.driven = none ∧ u.tbl = s.tbl
        ∧ (s.pwr.resetHeld = true → p = 3 → begins u))
    ∧ (∀ e ∈ ends, (s.starting = false ∨ s.startStep ≠ e.1 → Ends (done e.2) s s))
    ∧ ((at_ 8 ∨ at_ 9 → Ends .startupStepTimeout s (s.stepNext s.startStep)) ∧ (¬ at_ 8 → ¬ at_ 9 → Ends .startupStepTimeout s s))
    ∧ (∀ i, 1 ≤ i → i ≤ 10 → let u := s.stepNext i
        u.get PWR_STEP_END.MS (i - 1) = s.elapsedMs % 2 ^ 32 ∧ (i < 10 → u.get PWR_START_STATUS.STEP = i + 1) ∧ OnlyTheRegs [.PWR_STEP_END, .PWR_START_STATUS] s u)
    ∧ (at_ 1 → Answers (done (.supplies false b)) s (stops 1)
        ∧ Answers (done (.supplies true b)) s fun u => u.get PWR_START_STATUS.STEP = 2 ∧ (∀ d < 374, u.get PWR_DOM.STATE d = 1 ∧ u.get PWR_DOM.EN d = 1)
          ∧ u.get GLB_AVS.APPLIED = (if b = true then s.lcm.setpoint else 800) % 2 ^ GLB_AVS.APPLIED.width ∧ u.get TMP_STATUS.STARTS = satAdd 32 (s.get TMP_STATUS.STARTS) 1)
    ∧ (at_ 2 → Ends (done (.rom true)) s (s.stepNext 2) ∧ Answers (done (.rom false)) s (stops 2))
    ∧ (at_ 3 → (8 ≤ s.get TMP_STATUS.TAMPER_STARTS → Answers (done (.selfCheck present false w)) s fun u => u.get TMP_STATUS.HOLD = 1 ∧ u.get TMP_STATUS.HOLD_CAUSE = 2
              ∧ u.get PWR_START_STATUS.STOPPED = 0 ∧ u.get PWR_START_STATUS.CAUSE = 3)
        ∧ (s.get TMP_STATUS.TAMPER_STARTS < 8 →
            ((∃ i < 16, present.getLsbD i = true ∧ 2 ≤ s.respOf i) → Answers (done (.selfCheck present false w)) s fun u => u.get TMP_STATUS.HOLD = 1 ∧ u.get TMP_STATUS.HOLD_CAUSE = 1)
            ∧ ((∀ i < 16, present.getLsbD i = true → s.respOf i < 2) → Answers (done (.selfCheck present false w)) s fun u => u.get PWR_START_STATUS.STEP = 4
                ∧ u.get TMP_STATUS.HOLD = 0 ∧ u.get TMP_RAW.COND = present.toNat ∧ (s.tmp.bsk = none → s.aoErased = true → u.get TMP_STATUS.TAMPER_RECORDED = 1))))
    ∧ (at_ 4 → (lcOf s.lcm.lcBits = 4 → Answers (done (.roots a b)) s (stops 5))
        ∧ (lcOf s.lcm.lcBits ∈ [1, 2, 3] → (s.deviceRoot = none → s.lcm.lcBits.testBit 0 = true → Answers (done (.roots a b)) s (stops 4))
            ∧ (∀ root isB, s.deviceRoot = some (root, isB) → Answers (done (.roots a b)) s fun u => u.get PWR_START_STATUS.STEP = 5 ∧ u.get LCM_STATE.ROOT_B = natOfBool isB
                ∧ u.get LCM_STATE.STATE = lcOf s.lcm.lcBits ∧ u.lcm.stateRoot ≠ none ∧ u.lcm.lcBits = s.lcm.lcBits))
        ∧ (lcOf s.lcm.lcBits = 0 → s.deviceRoot = none → s.drbgRefuses = false → Answers (done (.roots false false)) s fun u => stops 6 u ∧ u.lcm.lcBits = s.lcm.lcBits))
    ∧ (at_ 5 → let x := s.chooseSlot a b
        (x.1 = none → Answers (done (.image a b)) s fun u => stops 7 u ∧ u.pwr.recovery = true)
        ∧ (∀ slot, x.1 = some slot →
            let s1 := (x.2.set NVJ_BOOT.LOADED 0 slot).set NVJ_BOOT.SEQ 0 (s.slotSeq slot)
            let y := ({ s1 with nvj := { s1.nvj with loaded := some slot } }).applyImage slot
            let again := (y.1.set (badField slot) 0 1).deviceReset false
            Ends (done (.image a b)) s (if y.2 = true then y.1.stepNext 5 else again) ∧ again.get (badField slot) = 1 ∧ again.get PWR_START_STATUS.STEP = 1))
    ∧ (at_ 6 → (s.tmp.bsk ≠ none ∨ s.get NVJ_JCTRL.BSK_MODE = 1 → Ends (done .journal) s (s.journalReplay.stepNext 6))
        ∧ (s.tmp.bsk = none → s.get NVJ_JCTRL.BSK_MODE = 0 → (s.get KST_CTRL.DRBG_FAIL = 1 → Answers (done .journal) s (stops 9))
            ∧ (s.get KST_CTRL.DRBG_FAIL = 0 → s.drbgRefuses = true → Ends (done .journal) s s)
            ∧ (s.drbgRefuses = false → let x := s.drbg 32; x.1.length = 32
                ∧ Ends (done .journal) s (({ x.2 with tmp := { x.2.tmp with bsk := some x.1 } }).journalReplay.stepNext 6))))
    ∧ (at_ 7 → (s.get KST_CTRL.DRBG_FAIL = 1 → Answers (done (.memory [] [] [])) s (stops 9))
        ∧ (s.drbgRefuses = false → Answers (done (.memory [] [] [])) s fun u => stops 8 u ∨ u.get PWR_START_STATUS.STEP = 8))
    ∧ ((at_ 8 → Ends (done .ports) s (if s.portsUp = true then s.stepNext 8 else s)) ∧ (at_ 9 → Ends (done .keys) s (if s.keysUp = true then s.stepNext 9 else s)))
    ∧ (at_ 10 → Answers (done .traffic) s fun u => u.get PWR_START_STATUS.TRAFFIC = 1 ∧ u.get TMP_STATUS.TAMPER_STARTS = 0
        ∧ u.get TMP_CTRL.LOCK = (if s.lcState = 2 then 1 else s.get TMP_CTRL.LOCK) ∧ (s.get TMP_STATUS.TAMPER_RECORDED = 1 → u.get EVT_SRC.STATUS 148 = 1))

/-- R656 to R659, R661, R663, R665 to R671, R673, R684 to R686: power domains, performance counters, TAP and input filters. The estimate
and what a sample finds on the balls are free values (notes/assumptions/3.md). -/
def Obligations.DomainsCountersAndPins : Prop :=
  ∀ s : State, Settled s →
    (∀ (d : Fin 374) (en rej fail : Bool),
        let st := s.get PWR_DOM.STATE d
        let bank := s.get PWR_DOM.KIND d = 3
        let c := Instr.pwrDomWrite d en rej fail
        let cleared := (if rej = true then 0 else s.get PWR_DOM.REJ d)
        let others := s.pwr.waking.filter (· != d.val)
        let wakes := fun (l : List Nat) (x : State) => ({ x with pwr := { x.pwr with waking := l } } : State)
        let waking := d.val ∈ s.pwr.waking ∧ s.get PWR_DOM.KIND d ≠ 6 ∧ s.get PWR_DOM.KIND d ≠ 7
        Answers c s (fun u => OnlyTheRegs [.PWR_DOM] s (wakes s.pwr.waking u) ∧ (fail = true → u.get PWR_DOM.WAKE_FAIL d = 0)
          ∧ (∀ e < 374, e ≠ d.val → u.word .PWR_DOM e 0 = s.word .PWR_DOM e 0)
          ∧ (bank → u.get PWR_DOM.EN d = s.get PWR_DOM.EN d ∧ u.get PWR_DOM.STATE d = st ∧ u.pwr = s.pwr)
          ∧ (¬ bank → en = true → u.get PWR_DOM.EN d = 1 ∧ u.get PWR_DOM.STATE d = (if st = 0 then 1 else if st = 2 then 3 else st) ∧ u.get PWR_DOM.REJ d = cleared
              ∧ u.pwr.waking = if st = 0 then others ++ [d.val] else s.pwr.waking)
          ∧ (¬ bank → en = false → s.domMayOff d = false → u.get PWR_DOM.REJ d = 1 ∧ u.get PWR_DOM.EN d = s.get PWR_DOM.EN d ∧ u.get PWR_DOM.STATE d = st ∧ u.pwr = s.pwr)
          ∧ (¬ bank → en = false → s.domMayOff d = true → u.get PWR_DOM.EN d = 0 ∧ u.get PWR_DOM.STATE d = (if s.get PWR_DOM.EN d = 1 then 2 else st) ∧ u.get PWR_DOM.REJ d = cleared
              ∧ u.pwr.waking = if s.get PWR_DOM.EN d = 1 then others else s.pwr.waking))
        ∧ (¬ bank → d.val ∉ [369] → waking → (∀ p : Fin 64, s.fnState (.port p) ≠ 1) → s.fnState .pair ≠ 1 → Ends (.pwrDomWakeDone d) s (wakes others s))
        ∧ (¬ waking ∨ bank → Ends (.pwrDomWakeDone d) s s) ∧ (¬ waking → Ends (.pwrDomWakeFail d) s s)
        ∧ (waking → ¬ bank → Answers (.pwrDomWakeFail d) s fun u => u.get PWR_DOM.WAKE_FAIL d = 1 ∧ u.get PWR_DOM.EN d = 0 ∧ u.get PWR_DOM.STATE d = 0
            ∧ d.val ∉ u.pwr.waking)
        ∧ (¬ bank → (st = 2 → Ends (.pwrDomOffDone d) s (s.set PWR_DOM.STATE d 0))
            ∧ (st = 3 → Ends (.pwrDomOffDone d) s (wakes (others ++ [d.val]) (s.set PWR_DOM.STATE d 1))))
        ∧ (bank ∨ st < 2 → Ends (.pwrDomOffDone d) s s))
    ∧ (Answers .powerEstimate s fun u => u.get PWR_EST.PEAK = max (u.get PWR_EST.POWER) (s.get PWR_EST.PEAK) ∧ u.free = s.free + 1
        ∧ OnlyTheRegs [.PWR_EST] s { u with free := s.free })
    ∧ (∀ (c : Fin 80) (data : Word), let chip := decide (64 ≤ c.val)
        let reg := if c.val < 64 then Reg.PMC_SEL else .PMC_CHIP_SEL
        let i := if c.val < 64 then c.val else c.val - 64
        (pmcRefused chip (s.word reg i 0) data = true → Ends (.pmcSelWrite c data) s (s.set PMC_STATUS.REJ 0 1))
        ∧ (pmcRefused chip (s.word reg i 0) data = false → Answers (.pmcSelWrite c data) s fun u => (u.word reg i 0).bits 0 1 = data.bits 0 1
            ∧ pmcFields (u.word reg i 0) = pmcFields data ∧ OnlyTheRegs [reg, .PWR_DOM] s { u with pwr := { u.pwr with waking := s.pwr.waking } } ∧ (data.flag 0 = true → s.get PWR_DOM.KIND (pmcDomain c) ≠ 3 →
              u.get PWR_DOM.STATE (pmcDomain c) = 1 ∨ u.get PWR_DOM.EN (pmcDomain c) = 1))
        ∧ (∀ event inst, pmcInstances chip event = none → data.bits 8 8 = event → data.bits 16 12 = inst → pmcRefused chip (s.word reg i 0) data = true))
    ∧ (∀ (c : Fin 80) (v : BitVec 48), Answers (.pmcCntWrite c v) s fun u => u.pmcCount c = v.toNat ∧ (∀ x < 80, x ≠ c.val → u.pmcCount x = s.pmcCount x)
        ∧ OnlyTheRegs [.PMC_CNT, .PMC_CHIP_CNT] s u)
    ∧ (∀ b : Bool, Ends (.pmcFreeze b) s (s.set PMC_CTRL.FREEZE 0 (natOfBool b))) ∧ Ends .pmcSnapDone s (s.set PMC_STATUS.SNAP_BUSY 0 0)
    ∧ (∀ clear : Bool, let goes := s.get PMC_STATUS.SNAP_BUSY = 0 ∧ s.get PWR_DOM.STATE 372 = 1 ∧ 372 ∉ s.pwr.waking
        (¬ goes → Ends (.pmcSnap clear) s s)
        ∧ (goes → Answers (.pmcSnap clear) s fun u => u.get PMC_STATUS.SNAP_BUSY = 1 ∧ u.get PMC_STATUS.SNAP_SEQ = (s.get PMC_STATUS.SNAP_SEQ + 1) % 2 ^ PMC_STATUS.SNAP_SEQ.width
            ∧ (∀ c < 64, u.get PMC_SNAP.COUNT c = s.pmcCount c) ∧ (∀ c < 16, u.get PMC_CHIP_SNAP.COUNT c = s.pmcCount (64 + c))
            ∧ ∀ c < 80, u.pmcCount c = (if clear = true then 0 else s.pmcCount c)))
    ∧ (∀ (c : Fin 80) (d : BitVec 48), let sum := s.pmcCount c + d.toNat
        let due := s.pmcRuns c = true ∧ s.pmcChained c = false ∧ 2 ^ 48 ≤ sum
        let feeds := c.val % 2 = 0 ∧ s.pmcChained (c + 1) = true ∧ s.pmcSel PMC_SEL.EN PMC_CHIP_SEL.EN (c + 1) = 1
        (¬ due → Ends (.pmcCounterWrap c d) s s)
        ∧ (due → Answers (.pmcCounterWrap c d) s fun u => u.pmcCount c = sum - 2 ^ 48
            ∧ (feeds → s.pmcCount (c + 1) + 1 < 2 ^ 48 → u.pmcCount (c + 1) = s.pmcCount (c + 1) + 1 ∧ u.get PMC_OVF.OVF (c / 64) = s.get PMC_OVF.OVF (c / 64))
            ∧ (¬ feeds → s.get PWR_DOM.STATE 372 = 1 → 372 ∉ s.pwr.waking → (u.get PMC_OVF.OVF (c / 64)).testBit (c % 64) = true
                ∧ u.get PMC_CTRL.FREEZE = (if s.get PMC_CTRL.FRZ_OVF = 1 then 1 else s.get PMC_CTRL.FREEZE))))
    ∧ (Ends .tapBypass s { s with tap := { s.tap with instr := 1, captured := [false], driven := none } }
        ∧ Ends .tapIdcode s { s with tap := { s.tap with instr := 2, captured := (List.range 32).map fun i => Config.tapIdcode.getLsbD i, driven := none } }
        ∧ (∀ cells : List Bool, Answers (.tapSamplePreload cells) s fun u => u.tap.instr = 3 ∧ u.tap.captured.length = cells.length ∧ u.tap.boundary = cells ∧ u.tap.driven = none
            ∧ { u with tap := s.tap, free := s.free } = s)
        ∧ (∀ e ∈ [(Instr.tapExtest, 4), (.tapExtestPulse, 5), (.tapExtestTrain, 6)],
            (s.pwr.resetHeld = true → Ends e.1 s { s with tap := { s.tap with instr := e.2, driven := some s.tap.boundary } }) ∧ (s.pwr.resetHeld = false → Ends e.1 s s)))
    ∧ (∀ i : Fin 7, let now := s.clk.sinceReset
        let recent := (s.pwr.pulses.get i []).filter fun t => now < t + 1000000
        let counts := fun (u : State) => u.get (glitchField i) = satAdd (glitchField i).width (s.get (glitchField i)) 1
        Answers (.inputPulseRejected i) s (fun u => counts u ∧ OnlyTheRegs [.GLB_PIN_GLITCH, .GLB_PIN_STATUS] s { u with pwr := s.pwr })
        ∧ (∀ f, unstField i = some f → Answers (.inputPulseRejected i) s fun u => u.get f = (if 15 ≤ recent.length then 1 else s.get f)))

/-- R606: the doorbell. -/
def Obligations.DoorbellKeepsTheRingWithinItsSize : Prop :=
  ∀ (r : Fin 512) (tail : BitVec 17) (s : State), Settled s →
    let held : Nat := (((tail.toNat : Int) - (s.ring r).head) % 2 ^ 17).toNat
    let size := 2 ^ s.get HIF_RING_CFG.SIZE r
    Answers (.ringDoorbell r (.tail tail)) s fun u =>
      (u.ring r).tail = (if held ≤ size then tail.toNat else (s.ring r).tail) ∧ (u.ring r).err = (if held ≤ size then (s.ring r).err else true)
      ∧ (held ≤ size → (((u.ring r).tail : Int) - (u.ring r).head) % 2 ^ 17 = held)
      ∧ { u.ring r with tail := (s.ring r).tail, err := (s.ring r).err } = s.ring r
      ∧ (∀ x, x ≠ r.val → u.ring x = s.ring x) ∧ { u with hif := s.hif } = s ∧ { u.hif with rings := s.hif.rings } = s.hif

/-- R554: the rate. -/
def Obligations.RateAppliesFromTheNextCycle : Prop :=
  ∀ (m : Master) (rate : BitVec 40) (s : State), Settled s → ¬ (s.get TMB_STATUS.OWNED = 1 ∧ m = .host) → s.mayWrite m .TMB_RATE = true →
    let limit : Int := 281474976711
    let taken : Int := if limit < rate.toInt then limit else if rate.toInt < -limit then -limit else rate.toInt
    let time := fun (u : State) => ((u.clk.tbSec * 1000000000 + u.clk.tbNs) * 2 ^ 48 + u.clk.tbFrac : Int)
    Answers (.tmbRateWrite m rate) s fun u =>
      u.get TMB_RATE.RATE = (BitVec.ofInt 40 taken).toNat ∧ OnlyTheRegs [.TMB_RATE] s u
      ∧ (s.get TMB_STATUS.RUNNING = 1 → s.clk.tbSec < 2 ^ 48 - 1 → s.clk.tbNs < 1000000000 → s.clk.tbFrac < 2 ^ 48 →
          time u.tclk = time s + 2 ^ 48 + taken + (if s.get TMB_STATUS.SLEWING = 1 then u.slewTerm else 0))
end

