-- ==== Sys2Proof/Laws/Crypto.lean ====
section
/-!
SUPPORT. Lemmas on octets, blocks, the counter mode and GCM.
-/

namespace Sys2Proof.Machine

/-- `n + 1` octets of a number: those of its upper part, then the least significant one. -/
theorem beBytes_succ (n v : Nat) : beBytes (n + 1) v = beBytes n (v / 256) ++ [BitVec.ofNat 8 v] := by
  rw [beBytes, List.range_succ, List.map_append]
  congr 1
  · apply List.map_congr_left
    intro i hi
    rw [List.mem_range] at hi
    rw [show 8 * (n + 1 - 1 - i) = 8 + 8 * (n - 1 - i) by omega, Nat.shiftRight_add, Nat.shiftRight_eq_div_pow v 8]
  · simp

/-- The number that `n` octets of a number spell. -/
theorem beNat_beBytes (n v : Nat) : beNat (beBytes n v) = v % 256 ^ n := by
  induction n generalizing v with
  | zero => simp [beBytes, beNat, Nat.mod_one]
  | succ n ih =>
    have h : beNat (beBytes n (v / 256) ++ [BitVec.ofNat 8 v]) = beNat (beBytes n (v / 256)) * 256 + v % 256 := by
      simp [beNat, List.foldl_append]
    rw [beBytes_succ, h, ih, Nat.pow_succ', Nat.mod_mul]
    omega

/-- A block survives its sixteen octets. -/
theorem blockOf_blockBytes (b : Block) : blockOf (blockBytes b) = b := by
  have h : blockBytes b = beBytes 16 b.toNat := by
    simp only [blockBytes, beBytes]
    apply List.map_congr_left
    intro i hi
    rw [show 120 - 8 * i = 8 * (16 - 1 - i) by omega]
  rw [blockOf, h]
  simp only [beBytes, List.length_map, List.length_range, Nat.sub_self, List.replicate_zero, List.append_nil]
  have k := beNat_beBytes 16 b.toNat
  simp only [beBytes] at k
  rw [k, Nat.mod_eq_of_lt (by have := b.isLt; omega), BitVec.ofNat_toNat, BitVec.setWidth_eq]

/-- A block has sixteen octets. -/
@[simp] theorem blockBytes_length (b : Block) : (blockBytes b).length = 16 := by simp [blockBytes]

/-- `n` octets of a number are `n`. -/
@[simp] theorem beBytes_length (n v : Nat) : (beBytes n v).length = n := by simp [beBytes]

/-- The tag that GCM encryption answers is the one that decryption of its ciphertext expects. -/
theorem gcmDecrypt_tag (key : List Byte) (iv : Nat) (aad ct : List Byte) : (gcmDecrypt key iv aad ct (gcmTag key iv aad ct)).2 = true := by
  simp [gcmDecrypt]

end Sys2Proof.Machine
end

