-- ==== Sys2Proof/Laws/KMap.lean ====
section
/-!
SUPPORT. Sparse tables: a read after a write, and that every operation keeps the canonical form.
-/

namespace Sys2Proof.Machine

variable {α : Type}

/-- Keys that rise from a bound rise from any lower bound. -/
theorem KMap.risesFrom_mono (m : KMap α) (a b : Nat) (hab : a ≤ b) (h : m.risesFrom b = true) : m.risesFrom a = true := by
  cases m with
  | nil => rfl
  | cons e r =>
    obtain ⟨k', v⟩ := e
    simp only [KMap.risesFrom, Bool.and_eq_true, decide_eq_true_eq] at h ⊢
    exact ⟨by omega, h.2⟩

/-- The inserted key reads as its value. -/
theorem KMap.get_insert_same (m : KMap α) (k : Nat) (v d : α) : (m.insert k v).get k d = v := by
  induction m with
  | nil => simp [KMap.insert, KMap.get]
  | cons e r ih =>
    obtain ⟨k', v'⟩ := e
    simp only [KMap.insert]
    split
    · simp [KMap.get]
    · split
      · simp [KMap.get]
      · rename_i h _
        simp [KMap.get, h, ih]

/-- Every other key reads as before an insertion. -/
theorem KMap.get_insert_ne (m : KMap α) (k j : Nat) (v d : α) (h : j ≠ k) : (m.insert k v).get j d = m.get j d := by
  induction m with
  | nil => simp [KMap.insert, KMap.get, Ne.symm h]
  | cons e r ih =>
    obtain ⟨k', v'⟩ := e
    simp only [KMap.insert]
    split
    · rename_i hk
      subst hk
      simp [KMap.get, Ne.symm h]
    · split
      · simp [KMap.get, Ne.symm h]
      · simp only [KMap.get, ih]

/-- Every other key reads as before an erasure. -/
theorem KMap.get_erase_ne (m : KMap α) (k j : Nat) (d : α) (h : j ≠ k) : (m.erase k).get j d = m.get j d := by
  induction m with
  | nil => rfl
  | cons e r ih =>
    obtain ⟨k', v'⟩ := e
    simp only [KMap.erase]
    split
    · rename_i hk
      subst hk
      simp [KMap.get, Ne.symm h, ih]
    · simp only [KMap.get, ih]

/-- An erased key reads as an unlisted one. -/
theorem KMap.get_erase_same (m : KMap α) (k : Nat) (d : α) : (m.erase k).get k d = d := by
  induction m with
  | nil => rfl
  | cons e r ih =>
    obtain ⟨k', v'⟩ := e
    simp only [KMap.erase]
    split
    · exact ih
    · rename_i hk
      simp [KMap.get, hk, ih]

/-- An insertion keeps the keys rising. -/
theorem KMap.risesFrom_insert (m : KMap α) (k b : Nat) (v : α) (h : m.risesFrom b = true) (hb : b ≤ k) :
    (m.insert k v).risesFrom b = true := by
  induction m generalizing b with
  | nil => simp [KMap.insert, KMap.risesFrom, hb]
  | cons e r ih =>
    obtain ⟨k', v'⟩ := e
    simp only [KMap.risesFrom, Bool.and_eq_true, decide_eq_true_eq] at h
    simp only [KMap.insert]
    split
    · rename_i hk
      subst hk
      simp [KMap.risesFrom, h.1, h.2]
    · split
      · rename_i hk hlt
        simp only [KMap.risesFrom, Bool.and_eq_true, decide_eq_true_eq]
        exact ⟨hb, by omega, h.2⟩
      · rename_i hk hlt
        simp only [KMap.risesFrom, Bool.and_eq_true, decide_eq_true_eq]
        exact ⟨h.1, ih (k' + 1) h.2 (by omega)⟩

/-- An erasure keeps the keys rising. -/
theorem KMap.risesFrom_erase (m : KMap α) (k b : Nat) (h : m.risesFrom b = true) : (m.erase k).risesFrom b = true := by
  induction m generalizing b with
  | nil => rfl
  | cons e r ih =>
    obtain ⟨k', v'⟩ := e
    simp only [KMap.risesFrom, Bool.and_eq_true, decide_eq_true_eq] at h
    simp only [KMap.erase]
    split
    · exact KMap.risesFrom_mono _ b (k' + 1) (by omega) (ih (k' + 1) h.2)
    · simp only [KMap.risesFrom, Bool.and_eq_true, decide_eq_true_eq]
      exact ⟨h.1, ih (k' + 1) h.2⟩

/-- What holds of the entries of a table holds of the entries after an erasure. -/
theorem KMap.all_erase (m : KMap α) (k : Nat) (p : Nat × α → Bool) (h : m.all p = true) : (m.erase k).all p = true := by
  induction m with
  | nil => rfl
  | cons e r ih =>
    obtain ⟨k', v'⟩ := e
    simp only [List.all_cons, Bool.and_eq_true] at h
    simp only [KMap.erase]
    split
    · exact ih h.2
    · simp [h.1, ih h.2]

/-- What holds of the entries of a table and of a new entry holds after its insertion. -/
theorem KMap.all_insert (m : KMap α) (k : Nat) (v : α) (p : Nat × α → Bool) (h : m.all p = true) (hv : p (k, v) = true) :
    (m.insert k v).all p = true := by
  induction m with
  | nil => simp [KMap.insert, hv]
  | cons e r ih =>
    obtain ⟨k', v'⟩ := e
    simp only [List.all_cons, Bool.and_eq_true] at h
    simp only [KMap.insert]
    split
    · simp [hv, h.2]
    · split
      · simp [hv, h.1, h.2]
      · simp [h.1, ih h.2]

/-- Every other key reads as before a write. -/
@[simp] theorem KMap.get_set_ne [DecidableEq α] (m : KMap α) (k j : Nat) (v d d' : α) (h : j ≠ k) :
    (m.set k v d).get j d' = m.get j d' := by
  unfold KMap.set
  split
  · exact KMap.get_erase_ne m k j d' h
  · exact KMap.get_insert_ne m k j v d' h

/-- A key reads as it was written. -/
@[simp] theorem KMap.get_set_same [DecidableEq α] (m : KMap α) (k : Nat) (v d : α) : (m.set k v d).get k d = v := by
  unfold KMap.set
  split
  · rename_i hv
    rw [hv]
    exact KMap.get_erase_same m k d
  · exact KMap.get_insert_same m k v d

/-- A write keeps the canonical form, where it is told what the key reads as when unlisted. -/
theorem KMap.wf_set [DecidableEq α] (m : KMap α) (k : Nat) (v : α) (dflt : Nat → α) (h : m.wf dflt = true) :
    (m.set k v (dflt k)).wf dflt = true := by
  simp only [KMap.wf, Bool.and_eq_true] at h ⊢
  unfold KMap.set
  split
  · exact ⟨KMap.risesFrom_erase m k 0 h.1, KMap.all_erase m k _ h.2⟩
  · rename_i hv
    exact ⟨KMap.risesFrom_insert m k 0 v h.1 (Nat.zero_le k), KMap.all_insert m k v _ h.2 (by simpa using hv)⟩

/-- An erasure keeps the canonical form. -/
theorem KMap.wf_erase [DecidableEq α] (m : KMap α) (k : Nat) (dflt : Nat → α) (h : m.wf dflt = true) :
    (m.erase k).wf dflt = true := by
  simp only [KMap.wf, Bool.and_eq_true] at h ⊢
  exact ⟨KMap.risesFrom_erase m k 0 h.1, KMap.all_erase m k _ h.2⟩

end Sys2Proof.Machine
end

