-- ==== Sys2Proof/Laws/Word.lean ====
section
/-!
SUPPORT. The bits of a word: what a replaced field reads as, and that every other field keeps its value.
-/

namespace Sys2Proof

/-- A bit of a replaced word. -/
theorem Word.getLsbD_setBits (x : Word) (lo w v i : Nat) (h : lo + w ≤ 64) :
    (x.setBits lo w v).getLsbD i = if lo ≤ i ∧ i < lo + w then v.testBit (i - lo) else x.getLsbD i := by
  unfold Word.setBits
  simp only [BitVec.getLsbD_or, BitVec.getLsbD_and, BitVec.getLsbD_not, BitVec.getLsbD_shiftLeft, BitVec.getLsbD_ofNat,
    Nat.testBit_mod_two_pow, Nat.testBit_two_pow_sub_one]
  by_cases hi : i < 64
  · by_cases hl : lo ≤ i
    · by_cases hw : i < lo + w
      · simp [hi, hl, hw, Nat.not_lt.mpr hl, show i - lo < w by omega, show i - lo < 64 by omega]
      · simp [hi, hl, hw, Nat.not_lt.mpr hl, show ¬ i - lo < w by omega]
    · simp [hi, hl, show i < lo by omega]
  · rw [if_neg (by omega), BitVec.getLsbD_of_ge x i (by omega)]
    simp [hi]

/-- A bit of a field. -/
theorem Word.testBit_bits (x : Word) (lo w i : Nat) : (x.bits lo w).testBit i = (decide (i < w) && x.getLsbD (lo + i)) := by
  unfold Word.bits
  rw [Nat.testBit_mod_two_pow, Nat.testBit_div_two_pow, Nat.add_comm, BitVec.testBit_toNat]

/-- A replaced field reads as the low bits of its new value. -/
theorem Word.bits_setBits_same (x : Word) (lo w v : Nat) (h : lo + w ≤ 64) : (x.setBits lo w v).bits lo w = v % 2 ^ w := by
  apply Nat.eq_of_testBit_eq
  intro i
  rw [Word.testBit_bits, Word.getLsbD_setBits x lo w v (lo + i) h, Nat.testBit_mod_two_pow]
  by_cases hi : i < w
  · simp [hi]
  · simp [hi]

/-- A field apart from a replaced one keeps its value. -/
theorem Word.bits_setBits_ne (x : Word) (lo w v lo' w' : Nat) (h : lo + w ≤ 64) (hd : lo' + w' ≤ lo ∨ lo + w ≤ lo') :
    (x.setBits lo w v).bits lo' w' = x.bits lo' w' := by
  apply Nat.eq_of_testBit_eq
  intro i
  rw [Word.testBit_bits, Word.testBit_bits, Word.getLsbD_setBits x lo w v (lo' + i) h]
  by_cases hi : i < w'
  · rw [if_neg (by omega)]
  · simp [hi]

/-- A field lies below its power of two. -/
theorem Word.bits_lt (x : Word) (lo w : Nat) : x.bits lo w < 2 ^ w := Nat.mod_lt _ (Nat.two_pow_pos w)

end Sys2Proof
end

