-- ==== Sys2Proof/Laws/Regs.lean ====
section
/-!
SUPPORT. The register file: a read of a field after a write of it, and that a write leaves every other field alone.
-/

namespace Sys2Proof.Machine

/-- A field lies within its word, and its word within the eight of a register. -/
def Field.fits (f : Field) : Bool := decide (f.lo + f.width ≤ 64) && decide (f.word < 8)

/-- Two words of the register file have one key only when they are the same word. -/
theorem regKey_inj {r r' : Reg} {i i' w w' : Nat} (hi : i < 8192) (hi' : i' < 8192) (hw : w < 8) (hw' : w' < 8)
    (h : regKey r i w = regKey r' i' w') : r.ctorIdx = r'.ctorIdx ∧ i = i' ∧ w = w' := by
  unfold regKey at h
  omega

/-- A register stands in the list of registers at its number. -/
theorem Reg.all_ctorIdx (r : Reg) : Reg.all[r.ctorIdx]? = some r := by cases r <;> rfl

/-- Registers have numbers of their own. -/
theorem Reg.ctorIdx_inj {r r' : Reg} (h : r.ctorIdx = r'.ctorIdx) : r = r' := by
  have h1 := Reg.all_ctorIdx r
  rw [h, Reg.all_ctorIdx r'] at h1
  exact (Option.some.inj h1).symm

/-- The register file lists a word at its own reset value (R7). -/
theorem regDefault_key (r : Reg) (i w : Nat) (hi : i < 8192) (hw : w < 8) : regDefault (regKey r i w) = r.resetWord i w := by
  unfold regDefault regKey
  rw [show ((r.ctorIdx * 8192 + i) * 8 + w) / 65536 = r.ctorIdx by omega, Reg.all_ctorIdx,
    show ((r.ctorIdx * 8192 + i) * 8 + w) / 8 % 8192 = i by omega, show ((r.ctorIdx * 8192 + i) * 8 + w) % 8 = w by omega]

/-- A word reads as it was written. -/
@[simp] theorem word_setWord_same (s : State) (r : Reg) (i w : Nat) (v : Word) : (s.setWord r i w v).word r i w = v := by
  simp [State.word, State.setWord]

/-- Any other word reads as before. -/
theorem word_setWord_ne (s : State) (r r' : Reg) (i i' w w' : Nat) (v : Word) (hi : i < 8192) (hi' : i' < 8192) (hw : w < 8)
    (hw' : w' < 8) (h : ¬ (r' = r ∧ i' = i ∧ w' = w)) : (s.setWord r i w v).word r' i' w' = s.word r' i' w' := by
  unfold State.word State.setWord
  apply KMap.get_set_ne
  intro he
  have := regKey_inj hi' hi hw' hw he
  exact h ⟨Reg.ctorIdx_inj this.1, this.2⟩

/-- A word of another register reads as before. -/
theorem word_setWord_reg (s : State) (r r' : Reg) (i i' w w' : Nat) (v : Word) (hi : i < 8192) (hi' : i' < 8192) (hw : w < 8)
    (hw' : w' < 8) (h : r' ≠ r) : (s.setWord r i w v).word r' i' w' = s.word r' i' w' :=
  word_setWord_ne s r r' i i' w w' v hi hi' hw hw' fun x => h x.1

/-- A field reads as it was written. -/
theorem get_set_same (s : State) (f : Field) (i v : Nat) (h : f.lo + f.width ≤ 64) : (s.set f i v).get f i = v % 2 ^ f.width := by
  simp only [State.get, State.set, word_setWord_same]
  exact Word.bits_setBits_same _ _ _ _ h

/-- A field that shares no bit with a written one reads as before. -/
theorem get_set_ne (s : State) (f g : Field) (i j v : Nat) (hi : i < 8192) (hj : j < 8192) (hf : f.fits = true) (hg : g.fits = true)
    (h : ¬ (g.reg = f.reg ∧ j = i ∧ g.word = f.word) ∨ g.lo + g.width ≤ f.lo ∨ f.lo + f.width ≤ g.lo) :
    (s.set f i v).get g j = s.get g j := by
  simp only [Field.fits, Bool.and_eq_true, decide_eq_true_eq] at hf hg
  by_cases he : g.reg = f.reg ∧ j = i ∧ g.word = f.word
  · obtain ⟨h1, h2, h3⟩ := he
    subst h2
    simp only [State.get, State.set, h1, h3, word_setWord_same]
    exact Word.bits_setBits_ne _ _ _ _ _ _ hf.1 (by simpa [h1, h3] using h)
  · simp only [State.get, State.set]
    rw [word_setWord_ne s f.reg g.reg i j f.word g.word _ hi hj hf.2 hg.2 he]

/-- A word of another register reads as before a write of a field. -/
theorem word_set_reg (s : State) (f : Field) (r : Reg) (i j w v : Nat) (hi : i < 8192) (hj : j < 8192) (hf : f.fits = true) (hw : w < 8)
    (h : r ≠ f.reg) : (s.set f i v).word r j w = s.word r j w := by
  simp only [Field.fits, Bool.and_eq_true, decide_eq_true_eq] at hf
  exact word_setWord_reg s f.reg r i j f.word w _ hi hj hf.2 hw h

/-- A write to the register file keeps its canonical form. -/
theorem regs_wf_setWord (s : State) (r : Reg) (i w : Nat) (v : Word) (h : s.regs.wf regDefault = true) :
    (s.setWord r i w v).regs.wf regDefault = true := KMap.wf_set _ _ _ _ h

/-- Every field of every register fits its word. -/
theorem fields_fit (r : Reg) : (r.fields.all Field.fits) = true := by cases r <;> decide

end Sys2Proof.Machine
end

