-- ==== Sys2Proof/Laws/State.lean ====
section
/-!
SUPPORT. What each basic update leaves of the state: one lemma per update and part, true by definition.
-/

namespace Sys2Proof.Machine

/-! ### A register word replaced -/

@[simp] theorem setWord_evt (s : State) (r : Reg) (i w : Nat) (v : Word) : (s.setWord r i w v).evt = s.evt := rfl
@[simp] theorem setWord_clk (s : State) (r : Reg) (i w : Nat) (v : Word) : (s.setWord r i w v).clk = s.clk := rfl
@[simp] theorem setWord_tbl (s : State) (r : Reg) (i w : Nat) (v : Word) : (s.setWord r i w v).tbl = s.tbl := rfl
@[simp] theorem setWord_path (s : State) (r : Reg) (i w : Nat) (v : Word) : (s.setWord r i w v).path = s.path := rfl
@[simp] theorem setWord_fen (s : State) (r : Reg) (i w : Nat) (v : Word) : (s.setWord r i w v).fen = s.fen := rfl
@[simp] theorem setWord_q (s : State) (r : Reg) (i w : Nat) (v : Word) : (s.setWord r i w v).q = s.q := rfl
@[simp] theorem setWord_lets (s : State) (r : Reg) (i w : Nat) (v : Word) : (s.setWord r i w v).lets = s.lets := rfl
@[simp] theorem setWord_kst (s : State) (r : Reg) (i w : Nat) (v : Word) : (s.setWord r i w v).kst = s.kst := rfl
@[simp] theorem setWord_lcm (s : State) (r : Reg) (i w : Nat) (v : Word) : (s.setWord r i w v).lcm = s.lcm := rfl
@[simp] theorem setWord_nvj (s : State) (r : Reg) (i w : Nat) (v : Word) : (s.setWord r i w v).nvj = s.nvj := rfl
@[simp] theorem setWord_krw (s : State) (r : Reg) (i w : Nat) (v : Word) : (s.setWord r i w v).krw = s.krw := rfl
@[simp] theorem setWord_srb (s : State) (r : Reg) (i w : Nat) (v : Word) : (s.setWord r i w v).srb = s.srb := rfl
@[simp] theorem setWord_dram (s : State) (r : Reg) (i w : Nat) (v : Word) : (s.setWord r i w v).dram = s.dram := rfl
@[simp] theorem setWord_tmp (s : State) (r : Reg) (i w : Nat) (v : Word) : (s.setWord r i w v).tmp = s.tmp := rfl
@[simp] theorem setWord_pwr (s : State) (r : Reg) (i w : Nat) (v : Word) : (s.setWord r i w v).pwr = s.pwr := rfl
@[simp] theorem setWord_sb (s : State) (r : Reg) (i w : Nat) (v : Word) : (s.setWord r i w v).sb = s.sb := rfl
@[simp] theorem setWord_tap (s : State) (r : Reg) (i w : Nat) (v : Word) : (s.setWord r i w v).tap = s.tap := rfl
@[simp] theorem setWord_mtl (s : State) (r : Reg) (i w : Nat) (v : Word) : (s.setWord r i w v).mtl = s.mtl := rfl
@[simp] theorem setWord_hif (s : State) (r : Reg) (i w : Nat) (v : Word) : (s.setWord r i w v).hif = s.hif := rfl
@[simp] theorem setWord_agt (s : State) (r : Reg) (i w : Nat) (v : Word) : (s.setWord r i w v).agt = s.agt := rfl
@[simp] theorem setWord_ports (s : State) (r : Reg) (i w : Nat) (v : Word) : (s.setWord r i w v).ports = s.ports := rfl
@[simp] theorem setWord_laneTests (s : State) (r : Reg) (i w : Nat) (v : Word) : (s.setWord r i w v).laneTests = s.laneTests := rfl
@[simp] theorem setWord_service (s : State) (r : Reg) (i w : Nat) (v : Word) : (s.setWord r i w v).service = s.service := rfl
@[simp] theorem setWord_free (s : State) (r : Reg) (i w : Nat) (v : Word) : (s.setWord r i w v).free = s.free := rfl
@[simp] theorem setWord_bus (s : State) (r : Reg) (i w : Nat) (v : Word) : (s.setWord r i w v).bus = s.bus := rfl
@[simp] theorem setWord_pending (s : State) (r : Reg) (i w : Nat) (v : Word) : (s.setWord r i w v).pending = s.pending := rfl

/-! ### A field replaced -/

@[simp] theorem set_evt (s : State) (f : Field) (i v : Nat) : (s.set f i v).evt = s.evt := rfl
@[simp] theorem set_clk (s : State) (f : Field) (i v : Nat) : (s.set f i v).clk = s.clk := rfl
@[simp] theorem set_tbl (s : State) (f : Field) (i v : Nat) : (s.set f i v).tbl = s.tbl := rfl
@[simp] theorem set_path (s : State) (f : Field) (i v : Nat) : (s.set f i v).path = s.path := rfl
@[simp] theorem set_fen (s : State) (f : Field) (i v : Nat) : (s.set f i v).fen = s.fen := rfl
@[simp] theorem set_q (s : State) (f : Field) (i v : Nat) : (s.set f i v).q = s.q := rfl
@[simp] theorem set_lets (s : State) (f : Field) (i v : Nat) : (s.set f i v).lets = s.lets := rfl
@[simp] theorem set_kst (s : State) (f : Field) (i v : Nat) : (s.set f i v).kst = s.kst := rfl
@[simp] theorem set_lcm (s : State) (f : Field) (i v : Nat) : (s.set f i v).lcm = s.lcm := rfl
@[simp] theorem set_nvj (s : State) (f : Field) (i v : Nat) : (s.set f i v).nvj = s.nvj := rfl
@[simp] theorem set_krw (s : State) (f : Field) (i v : Nat) : (s.set f i v).krw = s.krw := rfl
@[simp] theorem set_srb (s : State) (f : Field) (i v : Nat) : (s.set f i v).srb = s.srb := rfl
@[simp] theorem set_dram (s : State) (f : Field) (i v : Nat) : (s.set f i v).dram = s.dram := rfl
@[simp] theorem set_tmp (s : State) (f : Field) (i v : Nat) : (s.set f i v).tmp = s.tmp := rfl
@[simp] theorem set_pwr (s : State) (f : Field) (i v : Nat) : (s.set f i v).pwr = s.pwr := rfl
@[simp] theorem set_sb (s : State) (f : Field) (i v : Nat) : (s.set f i v).sb = s.sb := rfl
@[simp] theorem set_tap (s : State) (f : Field) (i v : Nat) : (s.set f i v).tap = s.tap := rfl
@[simp] theorem set_mtl (s : State) (f : Field) (i v : Nat) : (s.set f i v).mtl = s.mtl := rfl
@[simp] theorem set_hif (s : State) (f : Field) (i v : Nat) : (s.set f i v).hif = s.hif := rfl
@[simp] theorem set_agt (s : State) (f : Field) (i v : Nat) : (s.set f i v).agt = s.agt := rfl
@[simp] theorem set_ports (s : State) (f : Field) (i v : Nat) : (s.set f i v).ports = s.ports := rfl
@[simp] theorem set_laneTests (s : State) (f : Field) (i v : Nat) : (s.set f i v).laneTests = s.laneTests := rfl
@[simp] theorem set_service (s : State) (f : Field) (i v : Nat) : (s.set f i v).service = s.service := rfl
@[simp] theorem set_free (s : State) (f : Field) (i v : Nat) : (s.set f i v).free = s.free := rfl
@[simp] theorem set_bus (s : State) (f : Field) (i v : Nat) : (s.set f i v).bus = s.bus := rfl
@[simp] theorem set_pending (s : State) (f : Field) (i v : Nat) : (s.set f i v).pending = s.pending := rfl

/-! ### A counter raised -/

@[simp] theorem inc_evt (s : State) (f : Field) (i d : Nat) : (s.inc f i d).evt = s.evt := rfl
@[simp] theorem inc_clk (s : State) (f : Field) (i d : Nat) : (s.inc f i d).clk = s.clk := rfl
@[simp] theorem inc_tbl (s : State) (f : Field) (i d : Nat) : (s.inc f i d).tbl = s.tbl := rfl
@[simp] theorem inc_path (s : State) (f : Field) (i d : Nat) : (s.inc f i d).path = s.path := rfl
@[simp] theorem inc_fen (s : State) (f : Field) (i d : Nat) : (s.inc f i d).fen = s.fen := rfl
@[simp] theorem inc_q (s : State) (f : Field) (i d : Nat) : (s.inc f i d).q = s.q := rfl
@[simp] theorem inc_lets (s : State) (f : Field) (i d : Nat) : (s.inc f i d).lets = s.lets := rfl
@[simp] theorem inc_kst (s : State) (f : Field) (i d : Nat) : (s.inc f i d).kst = s.kst := rfl
@[simp] theorem inc_lcm (s : State) (f : Field) (i d : Nat) : (s.inc f i d).lcm = s.lcm := rfl
@[simp] theorem inc_nvj (s : State) (f : Field) (i d : Nat) : (s.inc f i d).nvj = s.nvj := rfl
@[simp] theorem inc_krw (s : State) (f : Field) (i d : Nat) : (s.inc f i d).krw = s.krw := rfl
@[simp] theorem inc_srb (s : State) (f : Field) (i d : Nat) : (s.inc f i d).srb = s.srb := rfl
@[simp] theorem inc_dram (s : State) (f : Field) (i d : Nat) : (s.inc f i d).dram = s.dram := rfl
@[simp] theorem inc_tmp (s : State) (f : Field) (i d : Nat) : (s.inc f i d).tmp = s.tmp := rfl
@[simp] theorem inc_pwr (s : State) (f : Field) (i d : Nat) : (s.inc f i d).pwr = s.pwr := rfl
@[simp] theorem inc_sb (s : State) (f : Field) (i d : Nat) : (s.inc f i d).sb = s.sb := rfl
@[simp] theorem inc_tap (s : State) (f : Field) (i d : Nat) : (s.inc f i d).tap = s.tap := rfl
@[simp] theorem inc_mtl (s : State) (f : Field) (i d : Nat) : (s.inc f i d).mtl = s.mtl := rfl
@[simp] theorem inc_hif (s : State) (f : Field) (i d : Nat) : (s.inc f i d).hif = s.hif := rfl
@[simp] theorem inc_agt (s : State) (f : Field) (i d : Nat) : (s.inc f i d).agt = s.agt := rfl
@[simp] theorem inc_ports (s : State) (f : Field) (i d : Nat) : (s.inc f i d).ports = s.ports := rfl
@[simp] theorem inc_laneTests (s : State) (f : Field) (i d : Nat) : (s.inc f i d).laneTests = s.laneTests := rfl
@[simp] theorem inc_service (s : State) (f : Field) (i d : Nat) : (s.inc f i d).service = s.service := rfl
@[simp] theorem inc_free (s : State) (f : Field) (i d : Nat) : (s.inc f i d).free = s.free := rfl
@[simp] theorem inc_bus (s : State) (f : Field) (i d : Nat) : (s.inc f i d).bus = s.bus := rfl
@[simp] theorem inc_pending (s : State) (f : Field) (i d : Nat) : (s.inc f i d).pending = s.pending := rfl

/-! ### A counter raised modulo its width -/

@[simp] theorem incWrap_evt (s : State) (f : Field) (i d : Nat) : (s.incWrap f i d).evt = s.evt := rfl
@[simp] theorem incWrap_clk (s : State) (f : Field) (i d : Nat) : (s.incWrap f i d).clk = s.clk := rfl
@[simp] theorem incWrap_tbl (s : State) (f : Field) (i d : Nat) : (s.incWrap f i d).tbl = s.tbl := rfl
@[simp] theorem incWrap_path (s : State) (f : Field) (i d : Nat) : (s.incWrap f i d).path = s.path := rfl
@[simp] theorem incWrap_fen (s : State) (f : Field) (i d : Nat) : (s.incWrap f i d).fen = s.fen := rfl
@[simp] theorem incWrap_q (s : State) (f : Field) (i d : Nat) : (s.incWrap f i d).q = s.q := rfl
@[simp] theorem incWrap_lets (s : State) (f : Field) (i d : Nat) : (s.incWrap f i d).lets = s.lets := rfl
@[simp] theorem incWrap_kst (s : State) (f : Field) (i d : Nat) : (s.incWrap f i d).kst = s.kst := rfl
@[simp] theorem incWrap_lcm (s : State) (f : Field) (i d : Nat) : (s.incWrap f i d).lcm = s.lcm := rfl
@[simp] theorem incWrap_nvj (s : State) (f : Field) (i d : Nat) : (s.incWrap f i d).nvj = s.nvj := rfl
@[simp] theorem incWrap_krw (s : State) (f : Field) (i d : Nat) : (s.incWrap f i d).krw = s.krw := rfl
@[simp] theorem incWrap_srb (s : State) (f : Field) (i d : Nat) : (s.incWrap f i d).srb = s.srb := rfl
@[simp] theorem incWrap_dram (s : State) (f : Field) (i d : Nat) : (s.incWrap f i d).dram = s.dram := rfl
@[simp] theorem incWrap_tmp (s : State) (f : Field) (i d : Nat) : (s.incWrap f i d).tmp = s.tmp := rfl
@[simp] theorem incWrap_pwr (s : State) (f : Field) (i d : Nat) : (s.incWrap f i d).pwr = s.pwr := rfl
@[simp] theorem incWrap_sb (s : State) (f : Field) (i d : Nat) : (s.incWrap f i d).sb = s.sb := rfl
@[simp] theorem incWrap_tap (s : State) (f : Field) (i d : Nat) : (s.incWrap f i d).tap = s.tap := rfl
@[simp] theorem incWrap_mtl (s : State) (f : Field) (i d : Nat) : (s.incWrap f i d).mtl = s.mtl := rfl
@[simp] theorem incWrap_hif (s : State) (f : Field) (i d : Nat) : (s.incWrap f i d).hif = s.hif := rfl
@[simp] theorem incWrap_agt (s : State) (f : Field) (i d : Nat) : (s.incWrap f i d).agt = s.agt := rfl
@[simp] theorem incWrap_ports (s : State) (f : Field) (i d : Nat) : (s.incWrap f i d).ports = s.ports := rfl
@[simp] theorem incWrap_laneTests (s : State) (f : Field) (i d : Nat) : (s.incWrap f i d).laneTests = s.laneTests := rfl
@[simp] theorem incWrap_service (s : State) (f : Field) (i d : Nat) : (s.incWrap f i d).service = s.service := rfl
@[simp] theorem incWrap_free (s : State) (f : Field) (i d : Nat) : (s.incWrap f i d).free = s.free := rfl
@[simp] theorem incWrap_bus (s : State) (f : Field) (i d : Nat) : (s.incWrap f i d).bus = s.bus := rfl
@[simp] theorem incWrap_pending (s : State) (f : Field) (i d : Nat) : (s.incWrap f i d).pending = s.pending := rfl

/-! ### An event raised -/

@[simp] theorem raise_clk (s : State) (a b c d e : Nat) : (s.raise a b c d e).clk = s.clk := rfl
@[simp] theorem raise_tbl (s : State) (a b c d e : Nat) : (s.raise a b c d e).tbl = s.tbl := rfl
@[simp] theorem raise_path (s : State) (a b c d e : Nat) : (s.raise a b c d e).path = s.path := rfl
@[simp] theorem raise_fen (s : State) (a b c d e : Nat) : (s.raise a b c d e).fen = s.fen := rfl
@[simp] theorem raise_q (s : State) (a b c d e : Nat) : (s.raise a b c d e).q = s.q := rfl
@[simp] theorem raise_lets (s : State) (a b c d e : Nat) : (s.raise a b c d e).lets = s.lets := rfl
@[simp] theorem raise_kst (s : State) (a b c d e : Nat) : (s.raise a b c d e).kst = s.kst := rfl
@[simp] theorem raise_lcm (s : State) (a b c d e : Nat) : (s.raise a b c d e).lcm = s.lcm := rfl
@[simp] theorem raise_nvj (s : State) (a b c d e : Nat) : (s.raise a b c d e).nvj = s.nvj := rfl
@[simp] theorem raise_krw (s : State) (a b c d e : Nat) : (s.raise a b c d e).krw = s.krw := rfl
@[simp] theorem raise_srb (s : State) (a b c d e : Nat) : (s.raise a b c d e).srb = s.srb := rfl
@[simp] theorem raise_dram (s : State) (a b c d e : Nat) : (s.raise a b c d e).dram = s.dram := rfl
@[simp] theorem raise_tmp (s : State) (a b c d e : Nat) : (s.raise a b c d e).tmp = s.tmp := rfl
@[simp] theorem raise_pwr (s : State) (a b c d e : Nat) : (s.raise a b c d e).pwr = s.pwr := rfl
@[simp] theorem raise_sb (s : State) (a b c d e : Nat) : (s.raise a b c d e).sb = s.sb := rfl
@[simp] theorem raise_tap (s : State) (a b c d e : Nat) : (s.raise a b c d e).tap = s.tap := rfl
@[simp] theorem raise_mtl (s : State) (a b c d e : Nat) : (s.raise a b c d e).mtl = s.mtl := rfl
@[simp] theorem raise_hif (s : State) (a b c d e : Nat) : (s.raise a b c d e).hif = s.hif := rfl
@[simp] theorem raise_agt (s : State) (a b c d e : Nat) : (s.raise a b c d e).agt = s.agt := rfl
@[simp] theorem raise_ports (s : State) (a b c d e : Nat) : (s.raise a b c d e).ports = s.ports := rfl
@[simp] theorem raise_laneTests (s : State) (a b c d e : Nat) : (s.raise a b c d e).laneTests = s.laneTests := rfl
@[simp] theorem raise_service (s : State) (a b c d e : Nat) : (s.raise a b c d e).service = s.service := rfl
@[simp] theorem raise_free (s : State) (a b c d e : Nat) : (s.raise a b c d e).free = s.free := rfl
@[simp] theorem raise_bus (s : State) (a b c d e : Nat) : (s.raise a b c d e).bus = s.bus := rfl
@[simp] theorem raise_pending (s : State) (a b c d e : Nat) : (s.raise a b c d e).pending = s.pending := rfl
@[simp] theorem raise_regs (s : State) (a b c d e : Nat) : (s.raise a b c d e).regs = s.regs := rfl
@[simp] theorem raise_word (s : State) (a b c d e : Nat) (r : Reg) (i w : Nat) : (s.raise a b c d e).word r i w = s.word r i w := rfl
@[simp] theorem raise_get (s : State) (a b c d e : Nat) (f : Field) (i : Nat) : (s.raise a b c d e).get f i = s.get f i := rfl

/-! ### A free value drawn -/

@[simp] theorem draw_evt (s : State) : s.draw.2.evt = s.evt := rfl
@[simp] theorem draw_clk (s : State) : s.draw.2.clk = s.clk := rfl
@[simp] theorem draw_tbl (s : State) : s.draw.2.tbl = s.tbl := rfl
@[simp] theorem draw_path (s : State) : s.draw.2.path = s.path := rfl
@[simp] theorem draw_fen (s : State) : s.draw.2.fen = s.fen := rfl
@[simp] theorem draw_q (s : State) : s.draw.2.q = s.q := rfl
@[simp] theorem draw_lets (s : State) : s.draw.2.lets = s.lets := rfl
@[simp] theorem draw_kst (s : State) : s.draw.2.kst = s.kst := rfl
@[simp] theorem draw_lcm (s : State) : s.draw.2.lcm = s.lcm := rfl
@[simp] theorem draw_nvj (s : State) : s.draw.2.nvj = s.nvj := rfl
@[simp] theorem draw_krw (s : State) : s.draw.2.krw = s.krw := rfl
@[simp] theorem draw_srb (s : State) : s.draw.2.srb = s.srb := rfl
@[simp] theorem draw_dram (s : State) : s.draw.2.dram = s.dram := rfl
@[simp] theorem draw_tmp (s : State) : s.draw.2.tmp = s.tmp := rfl
@[simp] theorem draw_pwr (s : State) : s.draw.2.pwr = s.pwr := rfl
@[simp] theorem draw_sb (s : State) : s.draw.2.sb = s.sb := rfl
@[simp] theorem draw_tap (s : State) : s.draw.2.tap = s.tap := rfl
@[simp] theorem draw_mtl (s : State) : s.draw.2.mtl = s.mtl := rfl
@[simp] theorem draw_hif (s : State) : s.draw.2.hif = s.hif := rfl
@[simp] theorem draw_agt (s : State) : s.draw.2.agt = s.agt := rfl
@[simp] theorem draw_ports (s : State) : s.draw.2.ports = s.ports := rfl
@[simp] theorem draw_laneTests (s : State) : s.draw.2.laneTests = s.laneTests := rfl
@[simp] theorem draw_service (s : State) : s.draw.2.service = s.service := rfl
@[simp] theorem draw_bus (s : State) : s.draw.2.bus = s.bus := rfl
@[simp] theorem draw_pending (s : State) : s.draw.2.pending = s.pending := rfl
@[simp] theorem draw_regs (s : State) : s.draw.2.regs = s.regs := rfl
@[simp] theorem draw_word (s : State) (r : Reg) (i w : Nat) : s.draw.2.word r i w = s.word r i w := rfl
@[simp] theorem draw_get (s : State) (f : Field) (i : Nat) : s.draw.2.get f i = s.get f i := rfl

@[simp] theorem raise_raised (s : State) (a b c d e : Nat) : (s.raise a b c d e).evt.raised = s.evt.raised ++ [⟨a, b, c, d, e⟩] := rfl
@[simp] theorem draw_fst (s : State) : s.draw.1 = Config.freeWord s.free := rfl
@[simp] theorem draw_free (s : State) : s.draw.2.free = s.free + 1 := rfl

/-! ### Updates made under a condition and in turn -/

@[simp] theorem when_true (s : State) (f : State → State) : s.when true f = f s := rfl
@[simp] theorem when_false (s : State) (f : State → State) : s.when false f = s := rfl

/-- What each update of a list keeps, all of them keep. -/
theorem forL_keeps {α β : Type} (g : State → β) (f : α → State → State) (h : ∀ a s, g (f a s) = g s) (l : List α) (s : State) :
    g (s.forL l f) = g s := by
  induction l generalizing s with
  | nil => rfl
  | cons a r ih =>
    have := ih (f a s)
    simp only [State.forL, List.foldl_cons] at this ⊢
    rw [this, h]

/-- What each update for a number keeps, all of them keep. -/
theorem forN_keeps {β : Type} (g : State → β) (f : Nat → State → State) (h : ∀ n s, g (f n s) = g s) (n : Nat) (s : State) :
    g (s.forN n f) = g s := forL_keeps g f h (List.range n) s

/-- What each update of a list keeps true, all of them keep true. -/
theorem forL_holds {α : Type} (p : State → Prop) (f : α → State → State) (l : List α) (h : ∀ a ∈ l, ∀ s, p s → p (f a s)) (s : State)
    (hs : p s) : p (s.forL l f) := by
  induction l generalizing s with
  | nil => exact hs
  | cons a r ih =>
    simp only [State.forL, List.foldl_cons]
    exact ih (fun b hb => h b (List.mem_cons_of_mem a hb)) _ (h a List.mem_cons_self s hs)

/-- What each update for a number below `n` keeps true, all of them keep true. -/
theorem forN_holds (p : State → Prop) (f : Nat → State → State) (n : Nat) (h : ∀ k, k < n → ∀ s, p s → p (f k s)) (s : State)
    (hs : p s) : p (s.forN n f) :=
  forL_holds p f (List.range n) (fun k hk => h k (List.mem_range.mp hk)) s hs

end Sys2Proof.Machine
end

