-- ==== Sys2Proof/Laws/Events.lean ====
section
/-!
SUPPORT. The end of a command: what recording the events of a cycle may change (R619 to R622), and what it leaves.
-/

namespace Sys2Proof.Machine

/-- The registers that recording an event may change: its source's, the event ring's status, and the performance counters. -/
def evtRegs : List Reg := [.EVT_SRC, .EVT_RING_STATUS, .PMC_CNT, .PMC_CHIP_CNT, .PMC_OVF, .PMC_CTRL]

/-- `t` differs from `s` in nothing but the event state and the registers of `evtRegs`. -/
def EvtOnly (s t : State) : Prop :=
  { t with regs := s.regs, evt := s.evt } = s ∧ ∀ r i w, r ∉ evtRegs → i < 8192 → w < 8 → t.word r i w = s.word r i w

theorem EvtOnly.refl (s : State) : EvtOnly s s := ⟨rfl, fun _ _ _ _ _ _ => rfl⟩

theorem EvtOnly.trans {s t u : State} (h : EvtOnly s t) (k : EvtOnly t u) : EvtOnly s u := by
  refine ⟨?_, fun r i w hr hi hw => (k.2 r i w hr hi hw).trans (h.2 r i w hr hi hw)⟩
  have h1 := h.1
  have k1 := k.1
  rw [← h1]
  rw [← k1]

/-- A field of an event register replaced. -/
theorem EvtOnly.set (s : State) (f : Field) (i v : Nat) (hf : f.reg ∈ evtRegs) (hfit : f.fits = true) (hi : i < 8192) :
    EvtOnly s (s.set f i v) := by
  refine ⟨rfl, fun r j w hr hj hw => ?_⟩
  exact word_set_reg s f r i j w v hi hj hfit hw fun h => hr (h ▸ hf)

/-- The event state replaced. -/
theorem EvtOnly.evt (s : State) (e : EvtState) : EvtOnly s { s with evt := e } := ⟨rfl, fun _ _ _ _ _ _ => rfl⟩

/-- An update made under a condition. -/
theorem EvtOnly.when (s : State) (c : Bool) (f : State → State) (h : EvtOnly s (f s)) : EvtOnly s (s.when c f) := by
  cases c
  · exact EvtOnly.refl s
  · exact h

theorem EvtOnly.pmcPut (s : State) (c v : Nat) (hc : c < 80) : EvtOnly s (s.pmcPut c v) := by
  unfold State.pmcPut
  split
  · exact EvtOnly.set s _ c v (by decide) (by decide) (by omega)
  · exact EvtOnly.set s _ (c - 64) v (by decide) (by decide) (by omega)

theorem EvtOnly.pmcOverflow (s : State) (c : Nat) (hc : c < 80) : EvtOnly s (s.pmcOverflow c) := by
  unfold State.pmcOverflow
  split
  · exact EvtOnly.refl s
  · dsimp only
    have h := EvtOnly.set s PMC_OVF.OVF (c / 64) (s.get PMC_OVF.OVF (c / 64) ||| 2 ^ (c % 64)) (by decide) (by decide) (by omega)
    split
    · exact h.trans (EvtOnly.set _ _ 0 1 (by decide) (by decide) (by omega))
    · exact h

theorem EvtOnly.pmcWrap (s : State) (c : Nat) (hc : c < 80) : EvtOnly s (s.pmcWrap c) := by
  unfold State.pmcWrap
  split
  · rename_i h
    have h2 : c % 2 = 0 := by
      simp only [Bool.and_eq_true, beq_iff_eq] at h
      exact h.1.1
    dsimp only
    have k := EvtOnly.pmcPut s (c + 1) (s.pmcCount (c + 1) + 1) (by omega)
    split
    · exact k
    · exact k.trans (EvtOnly.pmcOverflow _ _ (by omega))
  · exact EvtOnly.pmcOverflow s c hc

theorem EvtOnly.pmcAdd (s : State) (c d : Nat) (hc : c < 80) : EvtOnly s (s.pmcAdd c d) := by
  unfold State.pmcAdd
  dsimp only
  have k := EvtOnly.pmcPut s c (s.pmcCount c + d) hc
  split
  · exact k
  · exact k.trans (EvtOnly.pmcWrap _ _ hc)

theorem EvtOnly.pmcEvent (s : State) (level event inst d : Nat) (hl : level < 5) : EvtOnly s (s.pmcEvent level event inst d) := by
  unfold State.pmcEvent
  refine forN_holds (EvtOnly s) _ 16 (fun k hk t ht => ?_) s (EvtOnly.refl s)
  dsimp only
  split
  · exact ht.trans (EvtOnly.pmcAdd t _ d (by omega))
  · exact ht

theorem EvtOnly.inc (s : State) (f : Field) (i d : Nat) (hf : f.reg ∈ evtRegs) (hfit : f.fits = true) (hi : i < 8192) :
    EvtOnly s (s.inc f i d) := EvtOnly.set s f i _ hf hfit hi

theorem EvtOnly.sendMsix (s : State) (i : Nat) : EvtOnly s (s.sendMsix i) := by
  unfold State.sendMsix
  dsimp only
  split <;> exact EvtOnly.evt s _

theorem EvtOnly.ringAppend (s : State) (r : EventRec) : EvtOnly s (s.ringAppend r) := by
  unfold State.ringAppend
  split
  · split
    · exact ((EvtOnly.evt s _).trans (EvtOnly.set _ EVT_RING_STATUS.TAIL 0 _ (by decide) (by decide) (by omega))).trans
        (EvtOnly.pmcEvent _ 4 21 0 32 (by omega))
    · exact (EvtOnly.inc s _ 0 1 (by decide) (by decide) (by omega)).trans (EvtOnly.set _ _ 0 _ (by decide) (by decide) (by omega))
  · exact EvtOnly.refl s

theorem EvtOnly.evtNote (s : State) (i : Nat) (hi : i < 512) : EvtOnly s (s.evtNote i) := by
  unfold State.evtNote
  dsimp only
  have h1 : EvtOnly s ((s.inc EVT_SRC.COUNT i).pmcEvent 4 20 0 1) :=
    (EvtOnly.inc s _ _ 1 (by decide) (by decide) (by omega)).trans (EvtOnly.pmcEvent _ 4 20 0 1 (by omega))
  split
  · exact (h1.trans (EvtOnly.set _ _ _ _ (by decide) (by decide) (by omega))).trans (EvtOnly.when _ _ _ (EvtOnly.sendMsix _ _))
  · exact h1

theorem EvtOnly.writeEvent (s : State) (e : Raised) (he : e.source < 512) : EvtOnly s (s.writeEvent e) := by
  unfold State.writeEvent
  dsimp only
  refine EvtOnly.trans ?_ (EvtOnly.evt _ _)
  refine EvtOnly.trans ?_ (EvtOnly.when _ _ (fun t => t.logAppend (s.record e)) (EvtOnly.evt _ _))
  exact (EvtOnly.evtNote s e.source he).trans (EvtOnly.when _ _ (fun t => t.ringAppend (s.record e)) (EvtOnly.ringAppend _ _))

theorem mem_insertRaised (e x : Raised) (l : List Raised) : x ∈ insertRaised e l ↔ x = e ∨ x ∈ l := by
  induction l with
  | nil => simp [insertRaised]
  | cons a r ih =>
    simp only [insertRaised]
    split
    · simp only [List.mem_cons, ih]
      constructor <;> rintro (h | h | h) <;> simp [h]
    · simp [List.mem_cons]

theorem mem_sortRaised (x : Raised) (l : List Raised) : x ∈ sortRaised l ↔ x ∈ l := by
  induction l with
  | nil => simp [sortRaised]
  | cons a r ih => simp [sortRaised, mem_insertRaised, ih, List.mem_cons]

/-- Recording the events of a cycle changes nothing but the event state and the registers of `evtRegs`. -/
theorem EvtOnly.flushEvents (s : State) (h : ∀ e ∈ s.evt.raised, e.source < 512) : EvtOnly s s.flushEvents := by
  unfold State.flushEvents
  dsimp only
  refine EvtOnly.trans ?_ (EvtOnly.evt _ _)
  refine forL_holds (EvtOnly s) _ _ (fun e he t ht => ht.trans (EvtOnly.writeEvent t e ?_)) s (EvtOnly.refl s)
  exact h e ((mem_sortRaised e s.evt.raised).mp he)

/-- Nothing raised, nothing changed. -/
theorem flushEvents_quiet (s : State) (h : s.evt.raised = []) : s.flushEvents = s := by
  have : { s.evt with raised := [] } = s.evt := by rw [← h]
  simp [State.flushEvents, h, sortRaised, State.forL, this]

/-- No event is left to record when a command has ended. -/
@[simp] theorem flushEvents_raised (s : State) : s.flushEvents.evt.raised = [] := rfl

/-- A command that raises nothing ends in its own effect. -/
theorem finish_quiet (s : State) (h : s.evt.raised = []) : finish s = .next s := by
  simp [finish, flushEvents_quiet s h]

/-- A field outside the event registers, after the events of a command have been recorded. -/
theorem flushEvents_get (s : State) (f : Field) (i : Nat) (h : ∀ e ∈ s.evt.raised, e.source < 512) (hf : f.reg ∉ evtRegs)
    (hw : f.word < 8) (hi : i < 8192) : s.flushEvents.get f i = s.get f i := by
  unfold State.get
  rw [(EvtOnly.flushEvents s h).2 f.reg i f.word hf hi hw]

/-! ### The order of the records (R619) -/

/-- A list of events in the order of R619. -/
def Ordered : List Raised → Prop
  | [] => True
  | [_] => True
  | a :: b :: r => Raised.le a b = true ∧ Ordered (b :: r)

theorem Raised.le_total (a b : Raised) (h : ¬ Raised.le a b = true) : Raised.le b a = true := by
  unfold Raised.le at h ⊢
  by_cases h1 : a.source = b.source
  · by_cases h2 : a.code = b.code
    · simp [h1, h2] at h ⊢; omega
    · simp [h1, h2, Ne.symm h2] at h ⊢; omega
  · simp [h1, Ne.symm h1] at h ⊢; omega

theorem ordered_insertRaised (e : Raised) (l : List Raised) (h : Ordered l) : Ordered (insertRaised e l) := by
  induction l with
  | nil => trivial
  | cons a r ih =>
    simp only [insertRaised]
    split
    · rename_i hle
      cases r with
      | nil => exact ⟨hle, trivial⟩
      | cons b r' =>
        have hi := ih h.2
        simp only [insertRaised] at hi ⊢
        split
        · rename_i hbe
          rw [if_pos hbe] at hi
          exact ⟨h.1, hi⟩
        · rename_i hbe
          rw [if_neg hbe] at hi
          exact ⟨hle, hi⟩
    · rename_i hle
      exact ⟨Raised.le_total a e hle, h⟩

end Sys2Proof.Machine
end

