-- ==== Sys2Proof/Laws/Memory.lean ====
section
/-!
SUPPORT. The addressed memories: every operation keeps their canonical form, a read after a write gives what was written, and every other
place reads as before.
-/

namespace Sys2Proof.Machine

/-! ### The flash device -/

/-- `prog` seen as one write after another. -/
theorem State.prog_foldl (s : State) (a : Nat) (l : List Byte) :
    (s.prog a l).nvj.flash = (l.zip (List.range l.length)).foldl (fun m x => KMap.set m (a + x.2) x.1 0xFF) s.nvj.flash := rfl

theorem flash_foldl_wf (a : Nat) (l : List (Byte × Nat)) (m : KMap Byte) (h : m.wf (fun _ => 0xFF) = true) :
    (l.foldl (fun m x => KMap.set m (a + x.2) x.1 0xFF) m).wf (fun _ => 0xFF) = true := by
  induction l generalizing m with
  | nil => exact h
  | cons x r ih => exact ih _ (KMap.wf_set m (a + x.2) x.1 (fun _ => 0xFF) h)

theorem flash_foldl_ne (a b : Nat) (l : List (Byte × Nat)) (m : KMap Byte) (h : ∀ x ∈ l, b ≠ a + x.2) :
    (l.foldl (fun m x => KMap.set m (a + x.2) x.1 0xFF) m).get b 0xFF = m.get b 0xFF := by
  induction l generalizing m with
  | nil => rfl
  | cons x r ih =>
    rw [List.foldl_cons, ih _ fun y hy => h y (List.mem_cons_of_mem _ hy)]
    exact KMap.get_set_ne _ _ _ _ _ _ (h x List.mem_cons_self)

/-- An octet outside the programmed ones reads as before. -/
theorem prog_outside (s : State) (a b : Nat) (l : List Byte) (h : b < a ∨ a + l.length ≤ b) :
    (s.prog a l).nvj.flash.get b 0xFF = s.nvj.flash.get b 0xFF := by
  rw [State.prog_foldl]
  refine flash_foldl_ne a b _ _ fun x hx => ?_
  have := List.mem_range.mp (List.of_mem_zip hx).2
  omega

/-- An erase leaves every octet outside its range. -/
theorem erase_outside (m : KMap Byte) (a n b : Nat) (h : b < a ∨ a + n ≤ b) :
    KMap.get (m.filter fun e => !(a ≤ e.1 && e.1 < a + n)) b 0xFF = KMap.get m b 0xFF := by
  induction m with
  | nil => rfl
  | cons e r ih =>
    rw [List.filter_cons]
    split
    · simp only [KMap.get, ih]
    · rename_i hc
      have : e.1 ≠ b := by
        simp only [Bool.not_eq_true', Bool.and_eq_false_iff, decide_eq_false_iff_not] at hc
        omega
      simp only [KMap.get, if_neg this, ih]

/-- An erased octet reads 0xFF. -/
theorem erase_inside (m : KMap Byte) (a n b : Nat) (h : a ≤ b ∧ b < a + n) :
    KMap.get (m.filter fun e => !(a ≤ e.1 && e.1 < a + n)) b 0xFF = 0xFF := by
  induction m with
  | nil => rfl
  | cons e r ih =>
    rw [List.filter_cons]
    split
    · rename_i hc
      have : e.1 ≠ b := by
        rintro rfl
        simp [h.1, h.2] at hc
      simp only [KMap.get, if_neg this, ih]
    · exact ih

theorem risesFrom_filter (m : KMap Byte) (p : Nat × Byte → Bool) (b : Nat) (h : m.risesFrom b = true) :
    KMap.risesFrom (m.filter p) b = true := by
  induction m generalizing b with
  | nil => rfl
  | cons e r ih =>
    simp only [KMap.risesFrom, Bool.and_eq_true, decide_eq_true_eq] at h
    rw [List.filter_cons]
    split
    · simp only [KMap.risesFrom, Bool.and_eq_true, decide_eq_true_eq]
      exact ⟨h.1, ih _ h.2⟩
    · exact KMap.risesFrom_mono _ b _ (by omega) (ih _ h.2)

/-! ### The canonical form -/

/-- Programming the flash keeps the canonical form. -/
theorem memory_wf_prog (s : State) (a : Nat) (l : List Byte) (h : Memory.wf s = true) : Memory.wf (s.prog a l) = true := by
  simp only [Memory.wf, Bool.and_eq_true] at h ⊢
  exact ⟨⟨flash_foldl_wf a _ _ h.1.1, h.1.2⟩, h.2⟩

/-- Erasing keeps it. -/
theorem memory_wf_flashErase (s : State) (a n : Nat) (h : Memory.wf s = true) : Memory.wf (s.flashErase a n) = true := by
  simp only [Memory.wf, Bool.and_eq_true] at h ⊢
  refine ⟨⟨?_, h.1.2⟩, h.2⟩
  have h1 := h.1.1
  simp only [KMap.wf, Bool.and_eq_true] at h1 ⊢
  refine ⟨risesFrom_filter _ _ _ h1.1, ?_⟩
  rw [List.all_eq_true] at h1 ⊢
  exact fun x hx => h1.2 x (List.mem_filter.mp hx).1

/-- A line put into a stack keeps it. -/
theorem memory_wf_putLine (s : State) (a : Nat) (x : DramLine) (h : Memory.wf s = true) : Memory.wf (s.putLine a x) = true := by
  simp only [Memory.wf, Bool.and_eq_true] at h ⊢
  exact ⟨⟨h.1.1, KMap.wf_set s.dram.lines (a / 128) (some x) (fun _ => none) h.1.2⟩, h.2⟩

/-- An update of one engine that keeps its data memory canonical keeps it. -/
theorem memory_wf_onEng (s : State) (g : Nat) (f : Engine → Engine) (hf : (s.eng g).dmem.wf (fun _ => 0) = true → (f (s.eng g)).dmem.wf (fun _ => 0) = true)
    (h : Memory.wf s = true) : Memory.wf (s.onEng g f) = true := by
  simp only [Memory.wf, Bool.and_eq_true] at h ⊢
  refine ⟨h.1, ?_⟩
  have hg : (s.eng g).dmem.wf (fun _ => 0) = true := by
    unfold State.eng
    have key (m : KMap Engine) (hm : m.all (fun e => e.2.dmem.wf fun _ => 0) = true) : (m.get g {}).dmem.wf (fun _ => 0) = true := by
      induction m with
      | nil => rfl
      | cons e r ih =>
        simp only [List.all_cons, Bool.and_eq_true] at hm
        simp only [KMap.get]
        split
        · exact hm.1
        · exact ih hm.2
    exact key _ h.2
  unfold State.onEng KMap.set
  dsimp only
  split
  · exact KMap.all_erase _ _ _ h.2
  · exact KMap.all_insert _ _ _ _ h.2 (hf hg)

/-- A store of an engine keeps it. -/
theorem memory_wf_dmemWrite (s : State) (g a : Nat) (l : List Byte) (h : Memory.wf s = true) : Memory.wf (s.dmemWrite g a l) = true := by
  unfold State.dmemWrite
  refine forN_holds (fun t => Memory.wf t = true) _ _ (fun i _ t ht => ?_) s h
  exact memory_wf_onEng t g _ (fun hd => KMap.wf_set _ _ _ (fun _ => 0) hd) ht

/-- The memories are canonical after reset. -/
theorem memory_wf_reset : Memory.wf State.reset = true := rfl

end Sys2Proof.Machine
end

