-- ==== Sys2Proof/Laws/Rally.lean ====
section
/-!
SUPPORT. A rally message that one device of a pair forms is one that the other takes (R348, R349).
-/

namespace Sys2Proof.Machine

/-- A big-endian number is read back where it stands among other octets. -/
theorem beAt_append (a c : List Byte) (n v i : Nat) (hi : i = a.length) : beAt (a ++ (beBytes n v ++ c)) i n = v % 256 ^ n := by
  subst hi
  have h : (beBytes n v ++ c).length = n + c.length := by simp
  simp [beAt, h, beNat_beBytes]

/-- R348, R349: a frame gives back the message that it was made of. -/
@[simp] theorem rallyUnframe_rallyFrame (m : List Byte) : rallyUnframe (rallyFrame m) = some m := by
  have hn : (rallyFrame m).length - 4 = (rallyHead ++ m).length := by
    have h4 : (fcsBytes (rallyHead ++ m) false).length = 4 := rfl
    simp only [rallyFrame, List.length_append] at h4 ⊢
    omega
  have ht : (rallyFrame m).take (rallyHead ++ m).length = rallyHead ++ m := by rw [rallyFrame, List.take_left' rfl]
  have hd : (rallyFrame m).drop (rallyHead ++ m).length = fcsBytes (rallyHead ++ m) false := by rw [rallyFrame, List.drop_left' rfl]
  have hh : (rallyFrame m).take 14 = rallyHead := by 
    rw [rallyFrame, List.append_assoc]
    exact List.take_left' rfl
  simp only [rallyUnframe, hn, ht, hd, hh]
  simp [List.drop_left' (show rallyHead.length = 14 from rfl)]

/-- R349: what a device of the pair forms, the device that shares its key and PAIR_ID reads back, if the sequence number is new. -/
theorem messageBody_rallyMessage (s t : State) (typ : Nat) (body : List Byte) (htyp : typ < 256) (hlen : body.length < 65536)
    (hkey : s.rallyKey "RALLY-MAC" = t.rallyKey "RALLY-MAC") (hid : s.get MTL_PAIR_ID.PAIR_ID = t.get MTL_PAIR_ID.PAIR_ID)
    (hseq : s.mtl.rseqRx < t.mtl.rseqTx) (hrange : t.mtl.rseqTx < 2 ^ 32) : s.messageBody typ (t.rallyMessage typ body) = some body := by
  have hidlt : t.get MTL_PAIR_ID.PAIR_ID < 256 ^ 8 := by
    refine Nat.lt_of_lt_of_le (Nat.mod_lt _ (Nat.two_pow_pos _)) ?_
    decide
  generalize hm : [0xA1#8, BitVec.ofNat 8 typ] ++ beBytes 2 body.length ++ beBytes 4 t.mtl.rseqTx ++ beBytes 8 (t.get MTL_PAIR_ID.PAIR_ID) ++ body = m
  have hml : m.length = 16 + body.length := by subst hm; simp; omega
  generalize htg : blockBytes (cmac (t.rallyKey "RALLY-MAC") m) = tag
  have htl : tag.length = 16 := by subst htg; simp
  have e : t.rallyMessage typ body = m ++ tag := by subst htg; subst hm; rfl
  have h2 : beAt (m ++ tag) 2 2 = body.length := by
    subst hm
    have := beAt_append [0xA1#8, BitVec.ofNat 8 typ] (beBytes 4 t.mtl.rseqTx ++ beBytes 8 (t.get MTL_PAIR_ID.PAIR_ID) ++ body ++ tag) 2 body.length 2 rfl
    simp only [List.append_assoc] at this ⊢
    rw [this]; exact Nat.mod_eq_of_lt hlen
  have h4 : beAt (m ++ tag) 4 4 = t.mtl.rseqTx := by
    subst hm
    have := beAt_append ([0xA1#8, BitVec.ofNat 8 typ] ++ beBytes 2 body.length) (beBytes 8 (t.get MTL_PAIR_ID.PAIR_ID) ++ body ++ tag) 4
      t.mtl.rseqTx 4 (by simp)
    simp only [List.append_assoc] at this ⊢
    rw [this]; exact Nat.mod_eq_of_lt (by omega)
  have h8 : beAt (m ++ tag) 8 8 = t.get MTL_PAIR_ID.PAIR_ID := by
    subst hm
    have := beAt_append ([0xA1#8, BitVec.ofNat 8 typ] ++ beBytes 2 body.length ++ beBytes 4 t.mtl.rseqTx) (body ++ tag) 8
      (t.get MTL_PAIR_ID.PAIR_ID) 8 (by simp)
    simp only [List.append_assoc] at this ⊢
    rw [this]; exact Nat.mod_eq_of_lt hidlt
  have hd : (m ++ tag).drop (16 + body.length) = tag := by rw [← hml]; simp
  have ht : (m ++ tag).take (16 + body.length) = m := by rw [← hml]; simp
  have hb : ((m ++ tag).drop 16).take body.length = body := by
    subst hm
    simp only [List.append_assoc]
    rw [show [0xA1#8, BitVec.ofNat 8 typ] ++ (beBytes 2 body.length ++ (beBytes 4 t.mtl.rseqTx ++ (beBytes 8 (t.get MTL_PAIR_ID.PAIR_ID) ++ (body ++ tag))))
      = ([0xA1#8, BitVec.ofNat 8 typ] ++ (beBytes 2 body.length ++ (beBytes 4 t.mtl.rseqTx ++ beBytes 8 (t.get MTL_PAIR_ID.PAIR_ID)))) ++ (body ++ tag)
      by simp, List.drop_left' (by simp), List.take_left' rfl]
  have ho : octet (m ++ tag) 0 = 0xA1 ∧ octet (m ++ tag) 1 = typ := by
    subst hm
    simp [octet, Nat.mod_eq_of_lt htyp]
  rw [e]
  simp only [State.messageBody, h2, h4, h8, hd, ht, hb, ho.1, ho.2, hkey, hid, htg]
  rw [if_pos]
  simp [hseq, hml, htl]
  omega

/-- R348, R349: the same of the frame that carries the message. -/
theorem rallyBody_rallyFrame (s t : State) (typ : Nat) (body : List Byte) (htyp : typ < 256) (hlen : body.length < 65536)
    (hkey : s.rallyKey "RALLY-MAC" = t.rallyKey "RALLY-MAC") (hid : s.get MTL_PAIR_ID.PAIR_ID = t.get MTL_PAIR_ID.PAIR_ID)
    (hseq : s.mtl.rseqRx < t.mtl.rseqTx) (hrange : t.mtl.rseqTx < 2 ^ 32) :
    s.rallyBody typ (rallyFrame (t.rallyMessage typ body)) = some body := by
  simp only [State.rallyBody, rallyUnframe_rallyFrame, Option.bind_some,
    messageBody_rallyMessage s t typ body htyp hlen hkey hid hseq hrange]

end Sys2Proof.Machine
end

