-- ==== Sys2Proof/WellFormed.lean ====
section
/-!
DEFINITION. Well-formed commands: the bounds of operands that their types leave open. Every other operand has a type of its exact range.
-/

namespace Sys2Proof

/-- A reading of a sensor: eight bits, signed (R576). -/
def signed8Range (t : Int) : Bool := -128 ≤ t && t ≤ 127

/-- The rows that fail at start-up lie in their banks: 64 tiles of 1,024 rows (R474). -/
def stepEndWf : StepEnd → Bool
  | .memory rows _ _ => rows.all fun r => r.2 < 65536
  | _ => true

/-- A command is well formed. -/
def Instr.wf : Instr → Bool
  | .registerWrite _ _ _ _ => true
  | .rcRead _ _ _ => true
  | .unmappedAccess _ _ _ => true
  | .unsupportedAccess _ _ => true
  | .functionEnable _ => true
  | .functionDisable _ => true
  | .functionStartupDone _ _ => true
  | .functionShutdownDone _ => true
  | .tblInsert _ _ _ _ _ => true
  | .tblDelete _ _ _ _ _ => true
  | .tblModify _ _ _ _ _ => true
  | .tblRead _ _ _ _ _ => true
  | .tblSearch _ _ _ _ => true
  | .tblCmdEnd _ _ => true
  | .saRetireDone _ => true
  | .tblRefStall _ => true
  | .tblSeedWrite _ _ _ _ => true
  | .shadowItemCompare _ _ => true
  | .shadowConfirm _ _ => true
  | .shadowDmaFault _ => true
  | .shadowLogClr _ => true
  | .clientFrameRx _ data _ _ => !data.isEmpty
  | .lineFrameRx _ data _ _ => !data.isEmpty
  | .sequencerDispatch _ _ => true
  | .ksaPrecharge _ => true
  | .ksaCtrlWrite _ _ _ _ => true
  | .reorderRelease _ _ _ => true
  | .fabricCreditGrant _ _ => true
  | .fabricTransfer _ _ _ => true
  | .egressSelect _ _ _ _ => true
  | .addE _ _ _ _ _ => true
  | .subE _ _ _ _ _ => true
  | .andE _ _ _ _ _ => true
  | .orE _ _ _ _ _ => true
  | .xorE _ _ _ _ _ => true
  | .shl _ _ _ _ _ => true
  | .shr _ _ _ _ _ => true
  | .sar _ _ _ _ _ => true
  | .rot _ _ _ _ _ => true
  | .cmp _ _ _ _ _ => true
  | .addi _ _ _ _ _ => true
  | .andi _ _ _ _ _ => true
  | .ori _ _ _ _ _ => true
  | .xori _ _ _ _ _ => true
  | .lui _ _ _ _ => true
  | .mul _ _ _ _ _ => true
  | .ld _ _ _ _ _ _ _ => true
  | .st _ _ _ _ _ _ _ => true
  | .ldc _ _ _ _ => true
  | .beq _ _ _ _ _ => true
  | .bne _ _ _ _ _ => true
  | .blt _ _ _ _ _ => true
  | .bge _ _ _ _ _ => true
  | .jal _ _ _ => true
  | .jr _ _ _ => true
  | .fld _ _ _ _ _ _ => true
  | .fst _ _ _ _ _ _ => true
  | .bldf _ _ _ _ _ _ => true
  | .bstf _ _ _ _ _ _ => true
  | .bxor _ _ _ _ _ => true
  | .bmov _ _ _ _ => true
  | .brev _ _ _ _ => true
  | .binc32 _ _ _ _ => true
  | .bins _ _ _ _ _ => true
  | .bext _ _ _ _ _ => true
  | .kld _ _ _ => true
  | .knonce _ _ _ _ => true
  | .cenc _ _ _ _ _ _ => true
  | .cdec _ _ _ _ _ _ => true
  | .gfmul _ _ _ _ _ => true
  | .gfacc _ _ _ _ _ => true
  | .ksget _ _ _ _ => true
  | .tagcmp _ _ _ _ => true
  | .waitE _ _ _ => true
  | .fend _ _ _ => true
  | .erls _ _ _ => true
  | .fenFence _ _ _ => true
  | .fenRestore _ _ => true
  | .engineFenceDone _ _ => true
  | .engineRestoreDone _ _ _ => true
  | .engineWatchdog _ _ _ => true
  | .engineMemoryFence _ _ => true
  | .katCoreTest _ _ => true
  | .katForcedTake _ _ => true
  | .keyWipeAck _ _ => true
  | .fenMpLoad _ _ _ _ _ _ => true
  | .fenMpUnload _ _ _ => true
  | .fenMpLoadUcode _ _ _ _ _ => true
  | .fenMpCmdEnd _ => true
  | .satStatCmd _ _ _ => true
  | .satStatEnd _ => true
  | .deuceWindowExpiry _ => true
  | .deuceIdleExpiry _ => true
  | .kraowFrameTx _ _ => true
  | .kraowFrameRx _ octets => octets.length % 8 == 0
  | .testClearWrite _ _ => true
  | .tribStartupBegin _ _ => true
  | .mkpduRx _ _ => true
  | .mkaHelloTimer _ => true
  | .mkaLifeExpiry _ => true
  | .agentRekeyTimer _ => true
  | .agentRekey => true
  | .agentRetireOldAn _ => true
  | .noFreshSakTimeout _ => true
  | .agtPortWrite _ _ => true
  | .defectIntegrationExpiry _ _ => true
  | .protectionSwitch _ => true
  | .wtrExpiry _ => true
  | .protectionMismatchTimer _ => true
  | .pgCmdNone _ => true
  | .pgCmdLockout _ => true
  | .pgCmdForceP _ => true
  | .pgCmdManualW _ => true
  | .pgCmdManualP _ => true
  | .pmSecondBoundary _ => true
  | .laneSignalChange _ _ => true
  | .detectSignalTimer _ => true
  | .trainComplete _ => true
  | .trainTimeout _ => true
  | .lockAchieved _ => true
  | .lockTimeout _ => true
  | .lockLoss _ _ _ => true
  | .holdTimeout _ => true
  | .huddleMsgTx _ => true
  | .huddleMsgRx _ _ => true
  | .huddleTimeout _ => true
  | .linkFaultRx _ _ => true
  | .pfcFrameRx _ _ _ => true
  | .pfcRefresh _ => true
  | .pfcPauseExpiry _ _ => true
  | .preemptVerifyEnd _ _ => true
  | .laneRestore _ => true
  | .laneRestoreDone _ _ => true
  | .prbsWrite _ _ _ => true
  | .portComplexFence _ _ => true
  | .pmodeWrite _ _ _ => true
  | .letReplaySend _ => true
  | .letAckRx _ _ _ _ _ => true
  | .letNakRx _ _ _ _ _ _ => true
  | .letHelloRx _ _ _ _ _ _ _ => true
  | .letAckTimer _ => true
  | .letHelloTimer _ => true
  | .letSkewExpiry _ _ => true
  | .letNakRepeat _ => true
  | .letLossExpiry _ _ _ => true
  | .letAckTimeout _ => true
  | .letResume _ => true
  | .letShutdownDrainEnd _ => true
  | .letShutdownQuiet _ => true
  | .pairRoleTimer => true
  | .activeInChange _ => true
  | .dualActiveDetect => true
  | .matePresentChange _ => true
  | .heartbeatLoss => true
  | .rallyHealthTx => true
  | .rallyDeliveryTx => true
  | .rallyHealthRx _ _ _ => true
  | .rallyDeliveryRx _ => true
  | .rallyCheckpointRx _ => true
  | .rallyLeaseReqRx _ => true
  | .rallyLeaseAckRx _ => true
  | .rallyAnchorRx _ => true
  | .rallyAnchorReqRx _ => true
  | .rallyMirrorRx _ => true
  | .rallyAlertRx _ => true
  | .rallyTakeoverRx _ => true
  | .rallyTakeoverAckRx _ => true
  | .rallyMissed => true
  | .takeoverWindowExpiry => true
  | .checkpointTimeout _ _ => true
  | .anchorRetry _ => true
  | .mtlYield _ => true
  | .mtlTake _ => true
  | .liberoLaneTest _ => true
  | .marrowSpill _ => true
  | .marrowRefill _ _ => true
  | .flushComplete _ => true
  | .auditObjectCheck _ _ _ _ _ _ _ => true
  | .auditLogClr => true
  | .latDepthSample => true
  | .latQueueSnapshot _ _ => true
  | .latHistSnapshot _ _ => true
  | .latSnapshotEnd => true
  | .latHcfgWrite _ _ _ => true
  | .qshapeWrite _ _ _ _ => true
  | .meterWrite _ _ _ => true
  | .imeLineRead _ _ _ _ => true
  | .imeLineWrite _ data => data.length ≤ 128
  | .imePartialWrite _ data _ _ _ => !data.isEmpty && data.length ≤ 128
  | .rekeyLineMove _ _ _ _ => true
  | .patrolRead _ _ _ _ => true
  | .dramRowTest _ _ _ _ _ _ => true
  | .srbPreqWrite _ _ _ => true
  | .srbPowerTransitionDone _ => true
  | .srbRegionTest _ fails => fails.all fun x => x.1 < 12 && x.2 < 64
  | .kstWrite _ _ _ _ => true
  | .kstErase _ _ _ => true
  | .kstInfo _ _ _ => true
  | .kstCmdEnd _ => true
  | .drbgReseed => true
  | .trngHealthFail => true
  | .drbgDrawTimeout _ => true
  | .keyStorageFault _ => true
  | .lcmChallenge _ => true
  | .lcmToService _ _ _ _ => true
  | .lcmToReturn _ _ token _ _ => token.all fun t => t.length == 240
  | .lcmToEnd _ _ _ _ => true
  | .lcmFuseCkh _ hash _ => hash.all fun h => h.length == 48
  | .lcmCmdEnd => true
  | .nvjImgErase _ => true
  | .nvjImgWrite _ offset pages data bad =>
    data.length ≤ 256 * pages.toNat && bad.all fun b => offset.toNat ≤ b && b < offset.toNat + pages.toNat
  | .nvjImgCheck _ _ => true
  | .nvjImgCmdEnd => true
  | .nvjCompact => true
  | .nvjAppendConfig _ _ => true
  | .nvjConfigReset => true
  | .nvjFormat _ _ _ => true
  | .journalEntryProgram _ => true
  | .journalCommitDone _ => true
  | .compactionSwitch bad => bad.all fun b => b < 256
  | .journalPreErase => true
  | .eventLogWrite => true
  | .timeBaseStart => true
  | .timerefLoss => true
  | .timerefRelock => true
  | .stepNow _ => true
  | .stepAtPps _ => true
  | .stepCancel _ => true
  | .ppsInEdge => true
  | .tmbRateWrite _ _ => true
  | .tmbSlewWrite _ _ _ => true
  | .slewEnd => true
  | .ppsOutRise => true
  | .ppsOutFall => true
  | .timeTransferMsgRx _ _ => true
  | .clkAWindow _ _ => true
  | .clkBGlitch _ => true
  | .bicMismatch _ => true
  | .railOutOfWindow _ _ _ => true
  | .tempSample t u _ => signed8Range t && signed8Range u
  | .tamperLoopMismatch _ _ => true
  | .monitorFault _ => true
  | .vbatOutOfRange _ => true
  | .tamperResetRelease => true
  | .tmpZeroiseWrite _ _ => true
  | .tmpRespWrite _ _ => true
  | .aologClear _ => true
  | .tamperHoldEnd => true
  | .aoSamplingWindow _ _ t u _ => signed8Range t && signed8Range u
  | .ringDoorbell _ _ => true
  | .txFrameDmaDone _ _ _ _ => true
  | .rxFrameWrite _ _ _ => true
  | .atsTranslationCompletion _ _ _ _ _ => true
  | .atsInvalidationRequest _ _ => true
  | .pageRequestResponse _ _ _ => true
  | .pageRequestTimeout _ => true
  | .ringCoalTimer _ => true
  | .evtSrcWrite _ _ _ _ _ _ => true
  | .perstAssert => true
  | .pcieHotReset => true
  | .pcieLinkDown => true
  | .flrPf0 => true
  | .flrPf1 => true
  | .ownerTake => true
  | .ownerRelease => true
  | .ownerKeep => true
  | .ownerForceTimeout => true
  | .mboxGo _ => true
  | .mboxDone _ _ => true
  | .spdmGetVersion _ req => req.length ≤ 4096
  | .spdmGetCapabilities _ req => req.length ≤ 4096
  | .spdmNegotiateAlgorithms _ req => req.length ≤ 4096
  | .spdmGetDigests _ req => req.length ≤ 4096
  | .spdmGetCertificate _ req => req.length ≤ 4096
  | .spdmChallenge _ req => req.length ≤ 4096
  | .spdmGetMeasurements _ req => req.length ≤ 4096
  | .fresetPort _ => true
  | .fresetSa _ => true
  | .fresetQueue _ => true
  | .fresetRing _ => true
  | .fresetPod _ => true
  | .fresetTableUnit _ => true
  | .fresetTimeout => true
  | .deviceReset _ => true
  | .powerCycle _ => true
  | .powerCyclePulseEnd _ => true
  | .sbGetIdentity => true
  | .sbGetHealth => true
  | .sbGetAlarms => true
  | .sbReadEventLog _ _ => true
  | .sbReadAoLog => true
  | .sbGetPm _ _ => true
  | .sbAckAlert _ => true
  | .sbTake => true
  | .sbRelease => true
  | .sbSetPowerStandby => true
  | .sbSetPowerService => true
  | .sbDeviceReset _ => true
  | .sbPowerCycle _ => true
  | .sbSelectSlot _ => true
  | .sbZeroise _ _ => true
  | .sbReleaseHold => true
  | .mctpSetEndpointId _ => true
  | .mctpGetEndpointId => true
  | .mctpGetVersionSupport _ => true
  | .mctpGetMessageTypeSupport => true
  | .mctpGetVendorMsgSupport _ => true
  | .pldmGettid => true
  | .pldmGetpldmversion _ => true
  | .pldmGetpldmtypes => true
  | .pldmGetpldmcommands _ => true
  | .pldmGetpdr _ => true
  | .pldmGetsensorreading _ => true
  | .i3cEntdaa _ => true
  | .i3cSetdasa _ _ => true
  | .i3cSetaasa => true
  | .i3cSetnewda _ => true
  | .i3cRstdaa => true
  | .i3cGetpid => true
  | .i3cGetbcr => true
  | .i3cGetdcr => true
  | .i3cGetstatus => true
  | .i3cGetmwl => true
  | .i3cSetmwl _ => true
  | .i3cGetmrl => true
  | .i3cSetmrl _ => true
  | .i3cEnec _ => true
  | .i3cDisec _ => true
  | .sbBusTimeout => true
  | .vbatRise => true
  | .vbatFall => true
  | .vddAuxRise => true
  | .pwrAutoSample _ _ => true
  | .vddAuxLoss => true
  | .powerGood => true
  | .powerGoodTimeout => true
  | .mainRailLoss _ _ _ => true
  | .pwrCtrlStandby _ => true
  | .startupStepDone how => stepEndWf how
  | .startupStepTimeout => true
  | .resetNAssert => true
  | .resetNRelease => true
  | .pwrDomWrite _ _ _ _ => true
  | .pwrDomWakeDone _ => true
  | .pwrDomWakeFail _ => true
  | .pwrDomOffDone _ => true
  | .powerEstimate => true
  | .pmcSelWrite _ _ => true
  | .pmcCntWrite _ _ => true
  | .pmcFreeze _ => true
  | .pmcSnap _ => true
  | .pmcSnapDone => true
  | .pmcCounterWrap _ _ => true
  | .tapBypass => true
  | .tapIdcode => true
  | .tapSamplePreload _ => true
  | .tapExtest => true
  | .tapExtestPulse => true
  | .tapExtestTrain => true
  | .inputPulseRejected _ => true

end Sys2Proof
end

