-- ==== Sys2Proof/Tests/Slice0.lean ====
section
/-!
SUPPORT. The author's tests: that the well-formedness check refuses ill-formed commands, single steps whose outcome is worked out from the
spec, and for each statement with hypotheses a state and operands that meet them all.
-/

namespace Sys2Proof.Tests

open Sys2Proof.Machine

-- One theorem is checked after the other: checked side by side they take more memory than there is.
set_option Elab.async false

theorem hyps_StepCarriesOutFrontCommand : ∃ (s : State) (c : Instr) (rest : List Instr), s.pending = c :: rest :=
  ⟨{ pending := [.tapBypass, .tapIdcode] }, .tapBypass, [.tapIdcode], rfl⟩

theorem hyps_IdleStepOnlyPassesTime :
    ∃ s : State, s.pending = [] ∧ Settled s ∧ s.get PWR_STATE.TRANSIT = 0 ∧ s.get TMB_STATUS.RUNNING = 0 :=
  ⟨State.reset, by decide +kernel⟩

theorem hyps_StepKeepsRegistersCanonical : RegsCanonical (State.reset.set FEN_WDOG.LIMIT 3 7) := by decide +kernel

theorem hyps_RecordsAreOrdered :
    ∃ s : State, s.evt.raised ≠ [] ∧ ∀ e ∈ s.evt.raised, e.source < 512 ∧ e.inst < 65536 :=
  ⟨(State.reset.raise 511 1 65535).raise 3 2, by decide +kernel⟩

theorem hyps_RegisterWriteFollowsAccessCodes :
    Settled State.reset ∧ State.reset.busAt .host 0x04400280 = some (.FEN_WDOG, 3, 0) ∧ State.reset.get GLB_OWNER.OWNER ≠ 2
      ∧ mcuPort .FEN_WDOG 0x04400280 = false := by decide +kernel

theorem hyps_BusReadsAndRefusedAccesses :
    (State.reset.busAt .mcu 0x04400280 = some (.FEN_WDOG, 3, 0) ∧ State.reset.regAbsent .FEN_WDOG 3 = false)
      ∧ (∃ off : BitVec 27, ∃ i, State.reset.busAt .mcu off.toNat = some (.TMB_TIME, i, 0))
      ∧ State.reset.busAt .host 0x7FFFFF8 = none :=
  ⟨by decide +kernel, ⟨BitVec.ofNat 27 Reg.TMB_TIME.place.base, 0, by decide +kernel⟩, by decide +kernel⟩

theorem hyps_FunctionStateTransitions :
    ∃ s0 s1 s2 s3 : State, (Settled s0 ∧ s0.fnState .audit = 0) ∧ (s1.enableDiscarded .pair = false ∧ s1.fnState .pair = 1)
      ∧ (s2.disableDiscarded .pair = false ∧ s2.fnState .pair = 2 ∧ s2.get GLB_FRESET_STATUS.BUSY = 0)
      ∧ Settled s3 ∧ s3.fnState .audit = 3 :=
  ⟨State.reset.fnSet .audit 0 0, State.reset.fnSet .pair 1 1, State.reset.fnSet .pair 0 2, State.reset.fnSet .audit 1 3, by decide +kernel⟩

theorem hyps_StartUpEndsInService :
    (∃ s : State, Settled s ∧ s.fnState (.pod 3 5) = 1 ∧ s.inService (.pod 3 5) = false ∧ s.fnAwake (.pod 3 5) = true ∧ s.bootHolds = false)
    ∧ (∃ s : State, Settled s ∧ 2 ≤ s.fnState (.pod 3 5) ∧ s.inService (.pod 3 5) = false ∧ s.fnAwake (.pod 3 5) = true)
    ∧ (∃ s : State, Settled s ∧ s.fnState .pair = 1 ∧ s.inService .pair = false ∧ s.fnAwake .pair = true ∧ s.bootHolds = false)
    ∧ (∃ s : State, Settled s ∧ s.fnState (.ring 511) = 2 ∧ s.get GLB_FRESET_STATUS.BUSY = 0)
    ∧ ∃ s : State, s.fnAwake (.pod 0 0) = false :=
  ⟨⟨(State.reset.fnSet (.pod 3 5) 1 1), by decide +kernel⟩, ⟨(State.reset.fnSet (.pod 3 5) 0 2), by decide +kernel⟩, ⟨(State.reset.fnSet .pair 1 1), by decide +kernel⟩,
    ⟨State.reset.fnSet (.ring 511) 0 2, by decide +kernel⟩, ⟨State.reset.set PWR_DOM.STATE 192 0, by decide +kernel⟩⟩

/-- An SC of client port 0 with no field set. -/
def plainSc : ScEntry := ScEntry.ofWords []

/-- The port-0 RX classification key of SCI 0, staged on the MCU port of region 0. -/
def staged : State := State.reset.setWord .TBL_DATA 8 0 2

/-- The classification entry that `staged` names. -/
def plainCls : ClsEntry := ClsEntry.ofWords (staged.tblData 0 .mcu)

/-- `staged` with that entry in the first way of its bucket. -/
def found : State := staged.putCls 0 ⟨false, 4 * staged.bucket 0 plainCls.key⟩ (some plainCls)

theorem hyps_TableCommandsActOnTheirEntry :
    (∃ s : State, Settled s ∧ s.get TBL_STATUS.BUSY (tblIdx 0 .mcu) = 0 ∧ s.tblPort 0 .host = .idle ∧ s.isLibero = false
      ∧ scBad (s.tblData 0 .mcu) = false ∧ (4095 : BitVec 16).toNat / 4096 = 0 ∧ (ScEntry.ofWords (s.tblData 0 .mcu)).inPort / 8 = 0
      ∧ s.sc? 4095 = none ∧ s.keyScClash 4095 (ScEntry.ofWords (s.tblData 0 .mcu)) = false)
    ∧ (∃ s : State, Settled s ∧ s.get TBL_STATUS.BUSY (tblIdx 0 .mcu) = 0 ∧ s.tblPort 0 .host = .idle
      ∧ s.sc? 4095 = some plainSc ∧ s.scInUse 4095 plainSc = false ∧ scBad (s.tblData 0 .mcu) = false
      ∧ ((ScEntry.ofWords (s.tblData 0 .mcu)).locked == plainSc.locked) = true ∧ s.keyScClash 4095 plainSc = false ∧ s.scServesLet 4095 = false
      ∧ plainSc.state < 2)
    ∧ (∃ l, Settled found ∧ found.get TBL_STATUS.BUSY (tblIdx 0 .mcu) = 0 ∧ found.tblPort 0 .host = .idle
      ∧ found.keyBad plainCls.key = false ∧ keyPort plainCls.key / 8 = 0 ∧ found.clsFind 0 plainCls.key = some l
      ∧ found.clsAt 0 l = some plainCls ∧ (ClsEntry.ofWords (found.tblData 0 .mcu)).key = plainCls.key)
    ∧ (State.reset.set TBL_STATUS.BUSY (tblIdx 3 .host) 1).get TBL_STATUS.BUSY (tblIdx 3 .host) = 1 :=
  ⟨⟨State.reset, by decide +kernel⟩, ⟨State.reset.putSc 4095 (some plainSc), by decide +kernel⟩,
    ⟨⟨false, 4 * staged.bucket 0 plainCls.key⟩, by decide +kernel⟩, by decide +kernel⟩

/-- An SA with every field 0. -/
def plainSa : SaEntry :=
  { en := false, state := 0, life := 0, early := false, modeProg := 0, kcv := 0, pn := 1, ssci := 0, softLimit := 0, refs := 0
    leaseEnd := 0, rx := true, deleting := false, softSeen := false }

/-- A state in which SA 65,535 stands as given. -/
def withSa (a : SaEntry) : State := State.reset.putSa 65535 (some a)

theorem hyps_TableCommandsAndSaLivesEnd :
    (∃ s : State, Settled s ∧ s.tblPort 3 .host = .executed 0 1 65535 65535 (some []) ⟨3, 1, 1, 0, []⟩ ∧ s.tblPort 3 .mcu = .idle
      ∧ s.isActivePaired = false ∧ s.get GLB_FRESET_STATUS.BUSY = 0)
    ∧ (∀ a ∈ [{ plainSa with life := 3, deleting := true }, { plainSa with life := 3, state := 3 }, { plainSa with life := 3, state := 2 }],
      Settled (withSa a) ∧ (withSa a).sa? 65535 = some a ∧ a.life = 3 ∧ a.refs = 0 ∧ (withSa a).wiping 65535 = false
        ∧ (withSa a).get GLB_FRESET_STATUS.BUSY = 0 ∧ (withSa a).mtl.mirrorHeld = none ∧ (withSa a).sc? (scOfSa 65535) = none)
    ∧ (withSa { plainSa with life := 3, refs := 1 }).sa? 65535 = some { plainSa with life := 3, refs := 1 }
    ∧ ∃ s : State, ∃ c : ScEntry, Settled s ∧ s.sa? 65535 = some { plainSa with life := 2 } ∧ s.sc? (65535 / 4) = some c ∧ c.rx = true
      ∧ c.kraow = false ∧ s.get SAT_DEUCE_CFG.IDLE (65535 / 16384) ≠ 0 :=
  ⟨⟨State.reset.setTblPort 3 .host (.executed 0 1 65535 65535 (some []) ⟨3, 1, 1, 0, []⟩), by decide +kernel⟩, by decide +kernel, by decide +kernel,
    ⟨(withSa { plainSa with life := 2 }).putSc 16383 (some { plainSc with rx := true }), { plainSc with rx := true }, by decide +kernel⟩⟩

theorem hyps_SeedChangesOnlyInAnEmptyTable :
    (State.reset.get TBL_OCCUPANCY.BUCKET_ENTRIES 3 = 0 ∧ State.reset.get TBL_OCCUPANCY.OVF_ENTRIES 3 = 0)
    ∧ (State.reset.set TBL_OCCUPANCY.OVF_ENTRIES 3 1).get TBL_OCCUPANCY.BUCKET_ENTRIES 3
      + (State.reset.set TBL_OCCUPANCY.OVF_ENTRIES 3 1).get TBL_OCCUPANCY.OVF_ENTRIES 3 ≠ 0 := by decide +kernel

/-- Region 3 with a shadow item that waits for its confirming read. -/
def waits (w : ShadowWait) : State := State.reset.putUnit 3 { shadowWaits := [w] }

/-- The 32 words of an item, the first differing from the empty table in its lowest bit. -/
def differs : List Word := 1 :: List.replicate 31 0

theorem hyps_ShadowCompareConfirmsAndLogs :
    (∃ s : State, Settled s ∧ s.get TBL_SHADOW_CTRL.STATE 3 = 1 ∧ s.get GLB_THERM.STAGE = 0 ∧ s.get TBL_SHADOW_STATUS.POS 3 = 21759)
    ∧ ((waits ⟨0, true⟩).unit 3).shadowWaits = [⟨0, true⟩]
    ∧ (((waits ⟨0, false⟩).unit 3).shadowWaits = [⟨0, false⟩] ∧ (waits ⟨0, false⟩).shadowDiff 3 0 (List.replicate 32 0) = none
      ∧ (waits ⟨0, false⟩).shadowDiff 3 0 differs = some (0, 0, 1) ∧ Settled (waits ⟨0, false⟩)
      ∧ (waits ⟨0, false⟩).get TBL_SHADOW_STATUS.LOG_COUNT 3 < 64
      ∧ 64 ≤ ((waits ⟨0, false⟩).set TBL_SHADOW_STATUS.LOG_COUNT 3 64).get TBL_SHADOW_STATUS.LOG_COUNT 3)
    ∧ (State.reset.set TBL_SHADOW_CTRL.STATE 3 1).get TBL_SHADOW_CTRL.STATE 3 ≠ 0 :=
  ⟨⟨(State.reset.set TBL_SHADOW_CTRL.STATE 3 1).set TBL_SHADOW_STATUS.POS 3 21759, by decide +kernel⟩, by decide +kernel,
    by decide +kernel, by decide +kernel⟩

/-- A classification entry that protects with SC 16,383 in class 7, under a key. -/
def protectCls (key : BitVec 256) : ClsEntry :=
  { key := key, action := 0, sc := 16383, cls := 7, letEn := false, letStream := 0, volley := false, mirror := false, mirrorQ := 0, gen := 0
    cookie := 0 }

/-- A state with an entry for a key of region 3, an SC 16,383 and an SA 65,535 whose slot holds a key. -/
def served (key : BitVec 256) (c : ScEntry) (a : SaEntry) : State :=
  let s := ((State.reset.putSc 16383 (some c)).putSa 65535 (some a)).putSlot 65535 { key := some (KeyRec.mk0 0 3 0 true (List.replicate 16 7) 0) }
  s.putCls 3 ⟨false, 4 * s.bucket 3 key⟩ (some (protectCls key))

/-- A TX SC that is ON, and an SA that is ACTIVE. -/
def onSc : ScEntry := { plainSc with state := 1, egPort := 31, curAn := 3 }
def activeSa : SaEntry := { plainSa with en := true, state := 1, life := 1, rx := false, pn := 5, leaseEnd := 2 ^ 20 - 1 }

/-- The frame of 60 octets that both tests of reception send, and its protected form with PN 5 under AN 3. -/
def shortFrame : List Byte := List.replicate 60 0
def secured : List Byte :=
  List.replicate 12 0 ++ [0x88, 0xE5, 0x2F, 0, 0, 0, 0, 5] ++ List.replicate 8 1 ++ List.replicate 72 0

/-- Client port 31 up, and line port 31 up. -/
def clientUp : State :=
  ((served (State.reset.maskedTxKey 31 false 0 0 0) onSc activeSa).set CPX_PORT_STATUS.BSTATE 31 5).set CPX_PORT_CTRL.STATE 31 1
def rxSc : ScEntry := { onSc with rx := true, validate := 1 }
def lineUp : State :=
  ((served (rxEthKey 31 0x0101010101010101) rxSc { activeSa with rx := true }).set LPX_PORT_STATUS.BSTATE 31 5).set
    LPX_PORT_CTRL.STATE 31 1

theorem hyps_ReceivedFramesJoinTheirSequencer :
    (State.reset.portUp 31 = false ∧ State.reset.portUp 63 = false)
    ∧ (Settled clientUp ∧ clientUp.portUp 31 = true ∧ clientUp.transparent 31 = none ∧ 64 ≤ shortFrame.length + 4
      ∧ typeAt shortFrame 12 ≠ 0x8808
      ∧ clientUp.lookup 3 (clientUp.maskedTxKey 31 (outerTag shortFrame).1 (outerTag shortFrame).2.1 (outerTag shortFrame).2.2
          (clientUp.etClass 3 (frameEtherType shortFrame))) = some (protectCls (State.reset.maskedTxKey 31 false 0 0 0))
      ∧ clientUp.sc? 16383 = some onSc ∧ onSc.state = 1 ∧ onSc.kraow = false ∧ clientUp.isLibero = false
      ∧ secureLength onSc shortFrame false ≤ clientUp.get LPX_PORT_CTRL.MAX_FRAME 31 ∧ clientUp.get SCH_METER.EN (accountOf 31 7) = 0
      ∧ clientUp.ingressRoom 31 7 = true)
    ∧ (lineUp.portUp 63 = true ∧ lineUp.isKraow 63 = false ∧ lineUp.get LPX_PORT_CTRL.MAX_FRAME 31 < (List.replicate 16384 (0 : Byte)).length)
    ∧ (∃ tag, Settled lineUp ∧ secured.length + 4 ≤ lineUp.get LPX_PORT_CTRL.MAX_FRAME 31 ∧ typeAt secured 12 ≠ 0x8808
      ∧ typeAt secured 12 ≠ 0x88B6 ∧ parseSecTag secured = some tag ∧ tag.an = 3 ∧ tag.pn = 5 ∧ tag.wellFormed secured.length = true
      ∧ lineUp.sciOfRx 31 tag secured = some 0x0101010101010101
      ∧ lineUp.lookup 3 (rxEthKey 31 0x0101010101010101) = some (protectCls (rxEthKey 31 0x0101010101010101))
      ∧ lineUp.sc? 16383 = some rxSc ∧ lineUp.sa? 65535 = some { activeSa with rx := true }
      ∧ lineUp.rxSaOk rxSc 65535 = true ∧ lineUp.get SCH_METER.EN (accountOf 63 7) = 0
      ∧ lineUp.ingressRoom 63 7 = true) :=
  ⟨by decide +kernel, by decide +kernel, by decide +kernel, (parseSecTag secured).get (by decide +kernel), by decide +kernel⟩

/-- A frame for SC 16,383 at client port 31's sequencer, and the sequencer of client port 31 with frames waiting. -/
def waiting : Item := { inPort := 31, cls := 7, data := shortFrame, sc := 16383, scFields := some onSc, dest := .egress 63 7 }
def queued (s : State) (it : Item) : State := s.onSeq (16 * 3 + 7) fun x => { x with fifo := [it] }

/-- Engine 7 of region 3 in rotation, with keystream ahead off. -/
def sending : State := queued ((clientUp.set FEN_POD_CTRL.ENG_MASK 18 0x80).set FEN_KSA_CTRL.EN 3 0) waiting

theorem hyps_DispatchTakesThePnAndReleaseKeepsOrder :
    (Settled (queued State.reset { waiting with scFields := none })
      ∧ ((queued State.reset { waiting with scFields := none }).seq 55).fifo = [{ waiting with scFields := none }]
      ∧ ((queued State.reset { waiting with scFields := none }).seq 55).redo = [] ∧ ((queued State.reset { waiting with scFields := none }).seq 55).dev = []
      ∧ (queued State.reset { waiting with scFields := none }).isLibero = false)
    ∧ (queued State.reset waiting).classHeld { waiting with scFields := none } = false
    ∧ (Settled sending ∧ (sending.seq 55).redo = [] ∧ (sending.seq 55).dev = [] ∧ sending.path.holds = [] ∧ (sending.seq 55).fifo = [waiting]
      ∧ onSc.rx = false ∧ onSc.kraow = false ∧ (waiting.res.bind (·.stream)) = none ∧ sending.classHeld waiting = false ∧ sending.isLibero = false
      ∧ sending.isExpress waiting = false
      ∧ sending.readyEngine 3 7 false = some 7 ∧ sending.sc? 16383 = some onSc ∧ sending.saBinds 65535 onSc.suite = true
      ∧ sending.sa? 65535 = some activeSa ∧ activeSa.life = 1 ∧ activeSa.pn ≤ activeSa.leaseEnd ∧ activeSa.pn % 2 ^ 20 ≠ 2 ^ 19
      ∧ sending.ksaOn 3 = false ∧ (sending.eng (48 * 3 + 7)).threads = [])
    ∧ (State.reset.putRo 55 7 [⟨3, .dropped⟩]).ro 55 7 = [⟨3, .dropped⟩]
    ∧ ((State.reset.putRo 55 7 [⟨3, .done waiting⟩]).ro 55 7 = [⟨3, .done waiting⟩] ∧ waiting.isRx = false ∧ waiting.dest = .egress 63 7
      ∧ (((State.reset.set QMG_QCFG.ROLE 104 1).set QMG_QCFG.STATE 104 1).set QMG_QCFG.OWNER 104 63 |>.set QMG_QCFG.CLASS 104 7).egressQueue 63 7
        = some 104) :=
  ⟨by decide +kernel, by decide +kernel, by decide +kernel, by decide +kernel, by decide +kernel⟩

/-- Queue 4,095, a port queue of region 3 for the express class of line port 31, which is up; `it` waits for it from region 3. -/
def carried : State :=
  ((((((lineUp.set QMG_QCFG.ROLE 4095 1).set QMG_QCFG.STATE 4095 1).set QMG_QCFG.OWNER 4095 63).set QMG_QCFG.CLASS 4095 7).set
    QMG_QCFG.MIN 4095 1).set LPX_PORT_CTRL.EXPRESS 31 1).putFabric 4095 [(3, waiting)]

/-- The same port with queue 104 holding a frame. -/
def ready : State :=
  (((((lineUp.set QMG_QCFG.ROLE 104 1).set QMG_QCFG.STATE 104 1).set QMG_QCFG.OWNER 104 63).set QMG_QCFG.CLASS 104 7).set
    LPX_PORT_CTRL.EXPRESS 31 1).putQueue 104 { head := [.frame waiting] }

theorem hyps_FramesCrossTheFabricAndLeave :
    ((takeFrom 2 ((carried.putFabric 4095 [(2, waiting)]).fabricList 4095) = some (waiting, []) ∧ carried.credits 4095 2 = 0
        ∧ carried.taken 4095 waiting = true ∧ (carried.putFabric 4095 [(2, waiting)]).wrrNext 4095 2 waiting = true)
      ∧ carried.wrrNext 4095 2 waiting = false)
    ∧ ((∃ y, carried.crossbar 3 waiting = some y) ∧ takeFrom 3 (carried.fabricList 4095) = some (waiting, []) ∧ Settled carried ∧ waiting.stream = none ∧ waiting.ring = none ∧ carried.get QMG_QCFG.LOSSLESS 4095 = 0
      ∧ carried.queueServes 4095 waiting = true ∧ carried.queueDown 4095 = false ∧ carried.get QMG_QCFG.QMAX 4095 = 0
      ∧ (carried.queue 4095).cells < 4 * carried.get QMG_QCFG.MIN 4095 ∧ (carried.queue 4095).tail.length + 4 * (carried.queue 4095).tailLost < 128)
    ∧ (∃ x, Settled ready ∧ ready.macSends (ready.servePort 63) = true ∧ ready.portBusy 63 waiting.cls = false
      ∧ ready.chooseMac 63 = some (104, waiting, x) ∧ (ready.queue 104).head = [.frame waiting] ∧ ready.isKraow 63 = false
      ∧ waiting.ts.op = 0 ∧ waiting.stomp = false ∧ waiting.enc = none)
    ∧ State.reset.macSends (State.reset.servePort 63) = false :=
  ⟨by decide +kernel, ⟨⟨(carried.crossbar 3 waiting).get (by decide +kernel), by decide +kernel⟩, by decide +kernel⟩,
    ⟨ready.sched 63, by decide +kernel⟩, by decide +kernel⟩

/-- Engine 191 ON, its thread 3 as given. -/
def issuing (x : Thread) : State := (State.reset.set FEN_ENG.STATE 191 1).onThr 191 3 fun _ => x

/-- A work item of the frame under SA 65,535 with PN 5, with its frame as window. -/
def working : WorkItem := { it := { waiting with sa := some 65535, pn := 5 }, q := 7, num := 3, window := shortFrame }

/-- A mode program of one suite. -/
def someProg : ModeProg := ⟨1, true, 0, 1, 64, 128, 192, List.replicate 512 0⟩

theorem hyps_EngineInstructions :
    (Settled (issuing {}) ∧ (issuing {}).get FEN_ENG.STATE 191 ≠ 0 ∧ ((issuing {}).thr 191 3).stalled = false
      ∧ ((issuing {}).ereg 191 3 0).toNat < 64 ∧ (issuing { stalled := true }).get FEN_ENG.STATE 191 = 1
      ∧ ((issuing { stalled := true }).thr 191 3).stalled = true ∧ State.reset.get FEN_ENG.STATE 191 = 0)
    ∧ ((issuing {}).set SRB_BANK.PSTATE 43 0).bankState (((issuing {}).set SRB_BANK.PSTATE 43 0).dataBank 3) = 0
    ∧ (inPrivate 3 0x7FF8 8 = true ∧ inConstants 0xFFF8 8 = true ∧ inPrivate 3 0x7FF9 8 = false ∧ inConstants 0x7FF9 8 = false)
    ∧ (∃ p, ({ issuing { work := some working } with fen := { (issuing { work := some working }).fen with progs := [(384, some someProg)] } } :
        State).thrProg 191 3 = some p ∧ p.code.length = 512)
    ∧ ((issuing { work := some working }).window 191 3).length = 60 :=
  ⟨by decide +kernel, by decide +kernel, by decide +kernel, ⟨someProg, by decide +kernel⟩, by decide +kernel⟩

/-- The thread holding the item, the key of its SA in force, core 5 loaded, and a keystream-ahead slot that serves it. -/
def ciphering : State :=
  let s := (sending.set FEN_ENG.STATE 191 1).onThr 191 3 fun _ => { work := some working, mask := 32, slot := some (7, 65535, 5) }
  (s.set FEN_ENG.CORES_IN 191 63).onEng 191 fun e =>
    { e with cores := [(5, { kh := some 65535, key := List.replicate 16 7 })], slots := [⟨7, 65535, 5, 0, 1, [1, 2, 3], true, none⟩] }

theorem hyps_EnginesCipherUnderTheBoundKey :
    (∃ k, Settled ciphering ∧ ciphering.get FEN_ENG.STATE 191 ≠ 0 ∧ (ciphering.thr 191 3).stalled = false
      ∧ (ciphering.thr 191 3).work = some working ∧ working.key = some 65535 ∧ ciphering.usableKey? 65535 = some k ∧ k.limitEn = false)
    ∧ (issuing { work := some working }).usableKey? 65535 = none
    ∧ (ciphering.takesBlock 191 3 5 = true ∧ ((ciphering.eng 191).cores.get 5 {}).kh = some 65535 ∧ (ciphering.thr 191 3).failed = none
      ∧ (ciphering.parityRun 3 ((ciphering.eng 191).cores.get 5 {})).length < 15 ∧ ciphering.coreIn 191 0 = true)
    ∧ (∃ y, ciphering.thrSlot 191 3 = some y ∧ (y.blocks[2]? <|> ciphering.slotBlock y 2) = some 3) ∧ 44 + 16 ≤ (ciphering.window 191 3).length :=
  ⟨⟨KeyRec.mk0 0 3 0 true (List.replicate 16 7) 0, by decide +kernel⟩, by decide +kernel, by decide +kernel,
    ⟨⟨7, 65535, 5, 0, 1, [1, 2, 3], true, none⟩, by decide +kernel⟩, by decide +kernel⟩

/-- A thread that is to take the item from its express inbox, with the program of slot 0 installed. -/
def taking : State :=
  let s := (sending.set FEN_ENG.STATE 191 1).onEng 191 fun e => { e with inboxX := [{ working with window := [] }] }
  { s with fen := { s.fen with progs := [(384, some someProg)] } }

/-- A thread that holds an item whose number is outstanding. -/
def ending (c : ScEntry) (a : SaEntry) : State :=
  ((sending.putSa 65535 (some a)).set FEN_ENG.STATE 191 1).onThr 191 3 (fun _ => { work := some { working with it :=
    { working.it with scFields := some c } } }) |>.putRo 55 7 [⟨3, .outstanding⟩]

theorem hyps_ThreadsTakeAndEndWorkItems :
    ((issuing { work := some working }).thr 191 3).work = some working
    ∧ (((issuing {}).thr 191 3).work = none ∧ ((issuing {}).eng 191).inboxX = [] ∧ (issuing {}).fen.jobs.get 3 [] = []
      ∧ taking.fen.jobs.get 3 [] = [])
    ∧ (Settled taking ∧ taking.get FEN_ENG.STATE 191 ≠ 0 ∧ (taking.thr 191 3).stalled = false ∧ (taking.thr 191 3).work = none
      ∧ (taking.eng 191).inboxX = [{ working with window := [] }] ∧ working.job = none ∧ taking.progOf 191 (taking.itemSlot working) = some someProg
      ∧ someProg.suites.testBit onSc.suite = true ∧ someProg.form = 0)
    ∧ (Settled (ending onSc activeSa) ∧ working.it.isRx = false ∧ working.it.ring = none
      ∧ (ending onSc activeSa).roGet (16 * 3 + 7) 7 3 = some .outstanding)
    ∧ ({ working.it with scFields := some { onSc with rx := true } }.isRx = true
      ∧ (ending { onSc with rx := true } { activeSa with early := true }).sa? 65535 = some { activeSa with early := true }
      ∧ (ending { onSc with rx := true } { activeSa with early := true }).roGet 55 7 3 = some .outstanding) :=
  ⟨by decide +kernel, by decide +kernel, by decide +kernel, by decide +kernel, by decide +kernel⟩

theorem hyps_ProgramFaultEndsTheWorkItem :
    ((issuing {}).thr 191 3).work = none ∧ ((ending onSc activeSa).thr 191 3).work = some working
      ∧ (ending onSc activeSa).roGet (16 * (191 / 48) + 7) 7 3 = some .outstanding ∧ working.it.isRx = false
      ∧ (ending { onSc with rx := true } activeSa).openItem { working.it with scFields := some { onSc with rx := true } } = none := by
  decide +kernel

/-- Engine 47 of region 3 in a STATE. -/
def engineAt (st : Nat) : State := State.reset.set FEN_ENG.STATE 191 st

/-- Engine 47 of region 3 restoring. -/
def restoringState : State := ((engineAt 1).set FEN_POD_CTRL.ENG_MASK 23 0)

theorem hyps_EngineFencesAndRestores :
    ((engineAt 1).get FEN_ENG.STATE (48 * 3 + 47) = 1 ∧ ((engineAt 1).eng 191).items = [])
    ∧ ({ (engineAt 0).set FEN_POD_CTRL.STATE 23 1 with service := [23] } : State).podServes 3 47 = true
    ∧ (engineAt 2).podServes 3 47 = false
    ∧ ({ (engineAt 2).set FEN_POD_CTRL.STATE 23 1 with service := [23] } : State).podServes 3 47 = true
    ∧ ((engineAt 2).get FEN_ENG.STATE 191 = 2 ∧ ((engineAt 2).eng 191).items = [] ∧ (engineAt 2).get FEN_ENG.CAUSE 191 ≠ 5)
    ∧ (engineAt 3).get FEN_ENG.STATE 191 = 3 ∧ (engineAt 0).get FEN_ENG.STATE 191 = 0
    ∧ (restoringState.restoring 3 47 = true ∧ (engineDomains 3 47).all restoringState.domOn = true)
    ∧ ((issuing {}).thr (48 * 3 + 47) 3).work = none
    ∧ ((ending onSc activeSa).get FEN_ENG.STATE 191 = 1 ∧ ((ending onSc activeSa).thr 191 3).work = some working ∧ working.job = none
      ∧ ((ending onSc activeSa).eng 191).items = [working] ∧ (ending onSc activeSa).roGet (16 * 3 + 7) 7 3 = some .outstanding) := by
  decide +kernel

/-- The known-answer test of region 3 at its last core, in service with core 0. -/
def katLast : State :=
  let s := ((State.reset.set FEN_KAT_CTRL.EN 3 1).set FEN_POD_CTRL.STATE 23 1).set FEN_ENG.CORES_IN 191 0x21
  { s with fen := { s.fen with katPos := [(3, 287)] } }

/-- A wipe of key 69,631 that waits for engine 191. -/
def wiping : State := { State.reset with fen := { State.reset.fen with wipes := [⟨69631, [191]⟩] } }

/-- A slot that serves an item, and one behind it with one block still to compute. -/
def charging : State :=
  ciphering.onEng 191 fun e => { e with slots := [⟨6, 65535, 4, 0, 2, [1], true, none⟩, ⟨7, 65535, 5, 0, 2, [1, 2, 3], false, none⟩] }

/-- The known-answer test at the only core left of an engine that is ON. -/
def katOnly : State := (katLast.set FEN_ENG.CORES_IN 191 0x20).set FEN_ENG.STATE 191 1

theorem hyps_EngineTestsWipesAndKeystreamAhead :
    (State.reset.set FEN_KAT_CTRL.EN 0 0).flag FEN_KAT_CTRL.EN 0 = false
    ∧ (katLast.flag FEN_KAT_CTRL.EN 3 = true ∧ katLast.thermPaused = false ∧ katLast.fen.katPos.get 3 0 < 288
      ∧ katLast.get FEN_POD_CTRL.STATE (6 * 3 + 287 / 48) = 1 ∧ katLast.coreIn (48 * 3 + 287 / 6) (287 % 6) = true
      ∧ katLast.get FEN_ENG.CORES_IN 191 ≠ 2 ^ (287 % 6))
    ∧ ((∀ w ∈ State.reset.fen.wipes, w.kh = 69631 → 191 ∉ w.waiting)
      ∧ (∃ w ∈ wiping.fen.wipes, w.kh = 69631 ∧ 191 ∈ w.waiting) ∧ Settled wiping)
    ∧ (∃ y p r k a c, Settled charging ∧ (charging.eng 191).slots = p ++ y :: r ∧ y ∉ r
      ∧ (∀ x ∈ p, x.serving = true ∨ x.want + 2 ≤ x.blocks.length) ∧ y.serving = false ∧ y.blocks.length < y.want + 2
      ∧ y.failed.elim (charging.coreIn 191 5) (fun f => charging.reissues 191 5 f) = true
      ∧ (charging.parityRun 3 ((charging.eng 191).cores.get 5 {})).length < 15
      ∧ charging.key? y.sa = some k ∧ charging.sa? y.sa = some a ∧ charging.sc? (y.sa / 4) = some c)
    ∧ ((∀ x ∈ (ciphering.eng 191).slots, x.serving = true ∨ x.want + 2 ≤ x.blocks.length)
      ∧ (charging.set FEN_ENG.CORES_IN 191 0).coreIn 191 5 = false) :=
  ⟨by decide +kernel, by decide +kernel, by decide +kernel, ⟨⟨7, 65535, 5, 0, 2, [1, 2, 3], false, none⟩,
    [⟨6, 65535, 4, 0, 2, [1], true, none⟩], [], KeyRec.mk0 0 3 0 true (List.replicate 16 7) 0, activeSa, onSc, by decide +kernel⟩,
    by decide +kernel⟩

theorem hyps_EngineFencesAndRestores_tests :
    (katOnly.flag FEN_KAT_CTRL.EN 3 = true ∧ katOnly.thermPaused = false ∧ katOnly.fen.katPos.get 3 0 = 6 * 47 + 5
      ∧ katOnly.get FEN_POD_CTRL.STATE (6 * 3 + 47 / 8) = 1 ∧ katOnly.get FEN_ENG.STATE 191 = 1 ∧ (katOnly.eng 191).items = []
      ∧ katOnly.get FEN_ENG.CORES_IN 191 = 2 ^ 5)
    ∧ (∃ w ∈ wiping.fen.wipes, w.kh = 69631 ∧ 191 ∈ w.waiting) := by decide +kernel

theorem hyps_EnginesCipherUnderTheBoundKey_slots :
    let y : KsaSlot := ⟨7, 65535, 5, 0, 2, [1, 2, 3], false, none⟩
    let s := ciphering.onEng 191 fun e => { e with slots := [y] }
    (s.thr 191 3).work = some working ∧ (s.eng 191).slots = [y] ∧ s.coreIn 191 5 = true ∧ (∃ b, s.slotBlock y y.blocks.length = some b) := by
  refine ⟨by decide +kernel, by decide +kernel, by decide +kernel, Option.isSome_iff_exists.mp ?_⟩
  decide +kernel

/-- An Oroas image of four bytes of code, of a KIND, signed under the private key 5 with the nonce 7. -/
def imageOf (kind : Byte) (sig : Nat) : List Byte :=
  beBytes 16 0x4D505247000100010000000100000004 |>.mapIdx (fun i b => if i = 8 then kind else if i = 11 then 1 else if i = 10 then 0 else b)
    |> (· ++ List.replicate 64 0 ++ sha384 [0, 0, 0, 0] ++ beBytes 96 sig ++ List.replicate 36 0)

/-- The public key of the private key 5. -/
def testPub : List Byte := beBytes 96 0x11de24a2c251c777573cac5ea025e467f208e51dbff98fc54f6661cbe56583b037882f4a1ca297e60abcdbc3836d84bc8fa696c77440f92d0f5837e90a00e7c5284b447754d5dee88c986533b6901aeb3177686d0ae8fb33184414abe6c1713a

/-- A device that trusts it. -/
def trusting : State := { State.reset with lcm := { State.reset.lcm with oroasHashes := [sha384 testPub] } }

def programImage : List Byte := imageOf 1
  0x283c1d7365ce4788f29f8ebf234edffead6fe997fbea5ffa2d58cc9dfa7b1c508b05526f55b9ebb2040f05b48fb6d0e188b825ee73cd14caeb6bc1489c92c046147c0064794897fc5e5f227d009900fcd67295a0aa8a577cac99913cab5bb4e9
def ucodeImage : List Byte := imageOf 2
  0x283c1d7365ce4788f29f8ebf234edffead6fe997fbea5ffa2d58cc9dfa7b1c508b05526f55b9ebb2040f05b48fb6d0e1f7ef6d208002cc8ebb32fa2de29c6832135e692f18026c68462bd4545b0baad8a54ce19a607dc1cea2e9ef1be3361df1

theorem test_programImage_accepted : mpSigner programImage = 0 ∧ 256 + beNat ((programImage.drop 12).take 4) ≤ programImage.length
    ∧ trusting.lcm.oroasHashes.contains (sha384 testPub) = true ∧ mpSigned programImage testPub = true ∧ mpHeaderBad 1 programImage = false
    ∧ mpTooLarge 1 programImage = false ∧ trusting.fen.progs.get 511 none = none := by
  decide +kernel

theorem test_ucodeImage_accepted : mpSigner ucodeImage = 0 ∧ 256 + beNat ((ucodeImage.drop 12).take 4) ≤ ucodeImage.length
    ∧ mpSigned ucodeImage testPub = true ∧ mpHeaderBad 2 ucodeImage = false ∧ mpTooLarge 2 ucodeImage = false ∧ trusting.setRuns 3 1 = false := by
  decide +kernel

/-- A region-3 command about to end. -/
def mpEnding (c : MpCmd) : State :=
  { State.reset.set FEN_MP_STATUS.BUSY 3 1 with fen := { State.reset.fen with mpCmd := [(3, some c)] } }

theorem hyps_ModeProgramCommands :
    (mpEnding ⟨2, none, none, none, none⟩).flag FEN_MP_STATUS.BUSY 3 = true ∧ trusting.flag FEN_MP_STATUS.BUSY 3 = false
    ∧ (∃ sa a, (sa, some a) ∈ (State.reset.putSa 65535 (some { activeSa with modeProg := 63 })).tbl.sa ∧ sa / 16384 = 3 ∧ a.life ≠ 4 ∧ a.modeProg = 63)
    ∧ (∀ x ∈ (State.reset.putSa 65535 (some { activeSa with life := 4, modeProg := 63 })).tbl.sa, x.2.all (·.life == 4) = true)
    ∧ (∀ c ∈ [(⟨8, none, none, none, none⟩ : MpCmd), ⟨0, some (511, someProg), none, none, none⟩, ⟨0, none, some 511, none, none⟩,
        ⟨0, none, none, some (7, someProg), none⟩], Settled (mpEnding c) ∧ (mpEnding c).fen.mpCmd.get 3 none = some c ∧ c.use = none ∧ c.result < 16) :=
  ⟨by decide +kernel, by decide +kernel, ⟨65535, { activeSa with modeProg := 63 }, by decide +kernel⟩, by decide +kernel, by decide +kernel⟩

/-- A record of SA 65,535, received, with every counter full. -/
def counted : State := { State.reset with tbl := { State.reset.tbl with stat := [(65535, { rx := true, c0 := 2 ^ 64 - 1, c7 := 1 })] } }

theorem hyps_ModeProgramCommands_statistics :
    (State.reset.set SAT_STAT_STATUS.BUSY 3 1).flag SAT_STAT_STATUS.BUSY 3 = true ∧ (65535 : Nat) / 16384 ≠ 0
    ∧ (Settled counted ∧ counted.flag SAT_STAT_STATUS.BUSY 3 = false ∧ (counted.tbl.stat.get 65535 {}).rx = true) := by
  decide +kernel

/-- Line port 31 in Kraow mode and ACTIVE, with key SCs 16,382 (TX) and 16,383 (RX) and their SAs of AN 3 with keys. -/
def kraowUp : State :=
  let s := ((State.reset.set LPX_PORT_CTRL.KRAOW 31 1).set LPX_PORT_STATUS.BSTATE 31 5).set LPX_PORT_CTRL.STATE 31 1
  let c := { onSc with kraow := true, trib := 0, egPort := 31, inPort := 31, validate := 1 }
  let k := { key := some (KeyRec.mk0 0 3 0 true (List.replicate 16 7) 0) }
  let t := ((((((s.putSc 16382 (some c)).putSa 65531 (some activeSa)).putSlot 65531 k).putSc 16383 (some { c with rx := true })).putSa 65535
    (some { activeSa with rx := true })).putSlot 65535 k).set KFR_ALIGN.FSTATE 31 2 |>.set KFR_ALIGN.FN 31 255
  let u := (t.onKrw 31 fun k => { k with aligned := true }).forL (t.portLanes 63) fun j s => (s.set LNS_LANE.SIG j 1).set LNS_LANE.BLOCK_LOCK j 1
  { u.set FEN_POD_CTRL.ENG_MASK 18 0x80 with fen := { u.fen with progs := [(384, some someProg)] } }

/-- The same port without SCs. -/
def kraowBare : State := ((State.reset.set LPX_PORT_CTRL.KRAOW 31 1).set LPX_PORT_STATUS.BSTATE 31 5).set LPX_PORT_CTRL.STATE 31 1

/-- Overhead with CUR 3, FRAME_COUNT 5. -/
def kraowOh : List Byte := [0, 0, 0xC0] ++ List.replicate 33 0 ++ [5, 0, 0, 0]

/-- A Kraow frame with that overhead, FN 255, a ciphertext of zeros and its tag under the key of SA 65,535. -/
def kraowFrame : List Byte :=
  [0x4B, 0x3C, 0xA5, 0x96, 0x0A, 0xE1, 255, 0] ++ (kraowOh ++ (List.replicate 8128 0
    ++ blockBytes (gcmTag (List.replicate 16 7) (ivOf 3 0 0 5 0) kraowOh (List.replicate 8128 0))))

theorem hyps_KraowFramesSent :
    State.reset.judged 31 = false
    ∧ (kraowBare.judged 31 = true ∧ kraowBare.isLibero = false ∧ kraowBare.krwLeased 31 1 = true
      ∧ (kraowBare.txBoundary 31 1).flag KFR_CFG.TEST_CLEAR 31 = false ∧ (kraowBare.txBoundary 31 1).krwTxSa 31 = none)
    ∧ ((kraowBare.set MTL_PAIR_STATUS.ROLE 0 1).onKrw 31 fun k => { k with frameCount := 2 ^ 20 }).krwLeased 31 (2 ^ 20) = false
    ∧ ((kraowBare.krwPort 31).waited = false ∧ ((kraowBare.onKrw 31 fun k => { k with waited := true }).krwPort 31).waited = true)
    ∧ (kraowUp.judged 31 = true ∧ (kraowUp.krwPort 31).frameCount = 1 ∧ (kraowUp.txBoundary 31 1).krwTxSa 31 = some 65531
      ∧ (kraowUp.txBoundary 31 1).krwEngine 31 = some 7
      ∧ (kraowUp.txBoundary 31 1).usableKey? 65531 = some (KeyRec.mk0 0 3 0 true (List.replicate 16 7) 0)
      ∧ ((kraowUp.set FEN_POD_CTRL.ENG_MASK 18 0).txBoundary 31 1).krwTxSa 31 = some 65531
      ∧ ((kraowUp.set FEN_POD_CTRL.ENG_MASK 18 0).txBoundary 31 1).krwEngine 31 = none) := by
  decide +kernel

theorem hyps_KraowFramesSent_program (pay : List Byte) :
    (kraowUp.txBoundary 31 1).progServes (48 * 3 + 7) ((kraowUp.txBoundary 31 1).krwWork 31 65531 1 pay) = true := by
  have h : (kraowUp.txBoundary 31 1).progServes (48 * 3 + 7) ((kraowUp.txBoundary 31 1).krwWork 31 65531 1 []) = true := by decide +kernel
  exact h

theorem kraowFrame_tag_accepted :
    (gcmDecrypt (List.replicate 16 7) (ivOf 3 0 0 (beAt kraowFrame 37 8) 0) ((kraowFrame.drop 8).take 40) ((kraowFrame.drop 48).take 8128)
      (blockOf (kraowFrame.drop 8176))).2 = true := by
  have h1 : beAt kraowFrame 37 8 = 5 := by decide +kernel
  have h2 : (kraowFrame.drop 8).take 40 = kraowOh := (congrArg (List.take 40) (List.drop_left' (by rfl))).trans (List.take_left' (by rfl))
  have h3 : (kraowFrame.drop 48).take 8128 = List.replicate 8128 0 := by
    rw [kraowFrame, ← List.append_assoc]
    exact (congrArg (List.take 8128) (List.drop_left' (by rfl))).trans (List.take_left' List.length_replicate)
  have h4 : kraowFrame.drop 8176 = blockBytes (gcmTag (List.replicate 16 7) (ivOf 3 0 0 5 0) kraowOh (List.replicate 8128 0)) := by
    rw [kraowFrame, ← List.append_assoc, ← List.append_assoc, List.drop_left']
    rw [List.length_append, List.length_replicate]; rfl
  rw [h1, h2, h3, h4, blockOf_blockBytes]
  exact gcmDecrypt_tag _ _ _ _

theorem hyps_KraowFramesReceived :
    State.reset.judged 31 = false ∧ (kraowUp.krwPort 31).rxBuf.length + 8191 / 8 * 8 < 8192 ∧ kraowBare.krwDeaf 31 = true
    ∧ (kraowUp.krwDeaf 31 = false ∧ kraowUp.krwVerifies 31 = true ∧ kraowUp.krwEngine 31 = some 7
      ∧ kraowUp.progServes (48 * 3 + 7) (kraowUp.krwWork 31 65535 5 (List.replicate 8128 0)) = true)
    ∧ (beAt kraowFrame 37 8 = 5 ∧ kraowUp.get KFR_ALIGN.FN 31 = 255 ∧ kraowUp.judged 31 = true ∧ kraowUp.get KFR_ALIGN.FSTATE 31 ≠ 0
      ∧ (kraowUp.krwPort 31).rxBuf = [] ∧ kraowFrame.length = 8192 ∧ kraowFrame.take 8 = [0x4B, 0x3C, 0xA5, 0x96, 0x0A, 0xE1, BitVec.ofNat 8 255, 0]
      ∧ kraowUp.flag KFR_CFG.TEST_CLEAR 31 = false ∧ (kraowFrame.getD 11 0).toNat / 2 % 2 = 0
      ∧ (kraowUp.keyScOf 31 true).map (·.1) = some (65535 / 4) ∧ 65535 % 4 = (kraowFrame.getD 10 0).toNat / 64
      ∧ kraowUp.sa? 65535 = some { activeSa with rx := true } ∧ ({ activeSa with rx := true } : SaEntry).live = true
      ∧ kraowUp.usableKey? 65535 = some (KeyRec.mk0 0 3 0 true (List.replicate 16 7) 0) ∧ activeSa.pn ≤ 5 ∧ activeSa.life = 1
      ∧ (kraowUp.krwPort 31).pm.length = 9) := by
  decide +kernel

theorem hyps_TestClearAndTributaryStartUp :
    kraowUp.keyScLive 31 = true ∧ kraowBare.keyScLive 31 = false ∧ State.reset.judged 31 = false
    ∧ (let s := (((kraowBare.onKrw 31 fun k => { k with frameCount := 256 }).set KFR_TRIB.STATE 1023 1).set KFR_TRIB.TYPE 1023 1).onTrib 1023
        fun x => { x with wait := 0 }
      Settled s ∧ s.judged 31 = true ∧ (s.krwPort 31).frameCount % 256 = 0 ∧ s.get KFR_TRIB.STATE (32 * 31 + 31) = 1
        ∧ (s.tribSt 1023).begun = false ∧ (s.tribSt 1023).wait = 0 ∧ s.get KFR_TRIB.TYPE 1023 = 1) := by
  decide +kernel

/-- The agent ON, line port 31 up, its participant running under an ICK. -/
def agentUp : State :=
  let s := ((State.reset.set GLB_AGT_CTRL.STATE 0 1).set LPX_PORT_STATUS.BSTATE 31 5).set LPX_PORT_CTRL.STATE 31 1
  (s.putSlot 69630 { key := some (KeyRec.mk0 2 3 0 true (List.replicate 16 7) 0) }).onAgt 31 fun _ => { on := true, mi := 3, mn := 4 }

/-- An MKPDU of another member of the same association. -/
def otherPdu : List Byte := (agentUp.onAgt 31 fun a => { a with mi := 9, mn := 1 }).mkaFrame 31

/-- The participant as key server, with a CAK slot's DRBG in order. -/
def agentServer : State := (agentUp.set GLB_AGT_PORT.ROLE 31 1).set GLB_AGT_CTRL.REKEY_S 0 3600

theorem hyps_KeyAgentParticipants :
    State.reset.agentOn = false ∧ (agentUp.agentOn = true ∧ (agentUp.agtPort 30).on = false)
    ∧ agentUp.mkaGood 31 [] = none ∧ (agentUp.mkaGood 31 otherPdu).isSome = true ∧ (agentUp.agtPort 31).peer = none
    ∧ (Settled agentUp ∧ (agentUp.agtPort 31).on = true ∧ agentUp.isLibero = false ∧ agentUp.portUp (32 + 31) = true
      ∧ agentUp.isKraow (32 + 31) = false)
    ∧ ((agentUp.onAgt 31 fun a => { a with peer := some ⟨9, 1, 0, 0, true⟩ }).agtPort 31).peer ≠ none
    ∧ (agentUp.set GLB_AGT_CTRL.REKEY_S 0 0).get GLB_AGT_CTRL.REKEY_S = 0
    ∧ (agentServer.agentOn = true ∧ (agentServer.agtPort 31).on = true ∧ agentServer.get GLB_AGT_PORT.ROLE 31 = 1
      ∧ agentServer.flag KST_CTRL.DRBG_FAIL = false ∧ agentServer.drbgRefuses = false ∧ agentServer.agtFree 31 0 = true
      ∧ agentServer.get GLB_AGT_CTRL.REKEY_S ≠ 0) ∧ (∀ q : Fin 32, q ≠ 31 → (agentServer.agtPort q).on = false) := by
  decide +kernel

/-- The participant's SCs set to 16,383 and 16,382, AN 3 old, and its TX SA RETIRED. -/
def agentRetiring : State :=
  let s := (agentUp.set GLB_AGT_PORT.TX_SC 31 16383).set GLB_AGT_PORT.RX_SC 31 16382
  (s.putSa 65535 (some { activeSa with life := 4 })).onAgt 31 fun a => { a with old := [3] }

/-- Port 31's participant may be enabled: TX SC 16,383, RX SC 16,382 and a CAK in slot 4,031. -/
def agentReady : State :=
  let c := { onSc with egPort := 31, inPort := 31 }
  let s := ((agentUp.onAgt 31 fun _ => {}).putSc 16383 (some c)).putSc 16382 (some { c with rx := true })
  s.putSlot 69567 { key := some (KeyRec.mk0 1 3 0 true (List.replicate 16 9) 0) }

/-- EN, SUITE 0, TX SC, RX SC and CAK slot as `agentReady` has them. -/
def agentWord : Word := BitVec.ofNat 64 (1 + 16383 * 2 ^ 16 + 16382 * 2 ^ 32 + 4031 * 2 ^ 46)

theorem hyps_KeyAgentRetiresAndConfigures :
    State.reset.agentOn = false ∧ (agentUp.agtPort 31).old = []
    ∧ ((agentUp.onAgt 31 fun a => { a with old := [3] }).agtFree 31 3 = true)
    ∧ (agentRetiring.putSa 65531 (some { activeSa with life := 2 })).sa? (4 * agentRetiring.agtRx 31 + 3) = some { activeSa with life := 2 }
    ∧ (agentRetiring.agentOn = true ∧ (agentRetiring.agtPort 31).old = [3] ∧ agentRetiring.sa? (4 * agentRetiring.agtTx 31 + 3)
        = some { activeSa with life := 4 } ∧ activeSa.deleting = false ∧ agentRetiring.saDeleteCode (65535 / 16384) 65535 = 0
      ∧ agentRetiring.agtTx 31 ≠ agentRetiring.agtRx 31 ∧ agentRetiring.sa? (4 * agentRetiring.agtRx 31 + 3) = none)
    ∧ ((agentReady.setWord .GLB_AGT_PORT 31 0 1).flag GLB_AGT_PORT.EN 31 = true
      ∧ agtPortFields agentWord ≠ agtPortFields ((agentReady.setWord .GLB_AGT_PORT 31 0 1).word .GLB_AGT_PORT 31 0)
      ∧ agtPortFields 0 = agtPortFields ((agentReady.setWord .GLB_AGT_PORT 31 0 1).word .GLB_AGT_PORT 31 0) ∧ Settled agentReady
      ∧ agentReady.flag GLB_AGT_PORT.EN 31 = false ∧ agentReady.agentOn = true ∧ agentWord.flag 0 = true)
    ∧ (let old := agentReady.word .GLB_AGT_PORT 31 0
       (agentReady.setWord .GLB_AGT_PORT 31 0
          ((((agentWord.setBits 1 3 (old.bits 1 3)).setBits 15 1 0).setBits 30 2 0).setBits 58 1 0)).agtConfigOk 31 = true
       ∧ (agentReady.setWord .GLB_AGT_PORT 31 0 (((((1 : Word).setBits 1 3 (old.bits 1 3)).setBits 15 1 0).setBits 30 2 0).setBits 58 1 0)).agtConfigOk
          31 = false) := by
  decide +kernel

theorem hyps_DefectsAndSeconds :
    State.reset.judged 31 = false ∧ (kraowBare.judged 31 = true ∧ kraowBare.defectPresent 31 3 = true ∧ kraowUp.judged 31 = true
      ∧ kraowUp.defectPresent 31 3 = false) ∧ (kraowBare.defectPresent 31 2 = true ∧ kraowUp.defectPresent 31 4 = false)
    ∧ ((kraowUp.krwPort 31).pm.length = 9 ∧ (∀ c ∈ (kraowUp.krwPort 31).pm, c < 2 ^ 32)) := by
  decide +kernel

/-- Group 15 ON, of ports 30 (W) and 31 (P), both usable. -/
def group : State :=
  let s := ((((kraowUp.set LPX_PORT_CTRL.KRAOW 30 1).set LPX_PORT_STATUS.BSTATE 30 5).set LPX_PORT_CTRL.STATE 30 1).set FAB_PG_CFG.STATE 15 1)
  (s.set FAB_PG_CFG.W_PORT 15 30).set FAB_PG_CFG.P_PORT 15 31

theorem hyps_ProtectionGroups :
    State.reset.get FAB_PG_CFG.STATE 15 ≠ 1
    ∧ (Settled group ∧ group.get FAB_PG_CFG.STATE 15 = 1 ∧ group.krwUnusable (group.pgW 15) = false ∧ group.krwUnusable (group.pgP 15) = false
      ∧ group.get KFR_DEFECT.SD (group.pgW 15) = 0 ∧ (group.set FAB_PG_CFG.REVERT 15 0).get FAB_PG_CFG.REVERT 15 = 0)
    ∧ (State.reset.get FAB_PG_CFG.STATE 15 = 0 ∧ group.flag FAB_PG_STATUS.SEL 15 ≠ ((group.onPg 15 fun x => { x with want := true }).pg 15).want
      ∧ group.pgW 15 ≠ group.pgP 15)
    ∧ (group.flag FAB_PG_STATUS.WTR 15 = false ∧ (group.set FAB_PG_STATUS.WTR 15 1).flag FAB_PG_STATUS.WTR 15 = true
      ∧ group.get FAB_PG_CFG.CMD 15 = 0 ∧ (group.set FAB_PG_CFG.REVERT 15 1).get FAB_PG_CFG.REVERT 15 = 1)
    ∧ ((group.krwPort (group.pgW 15)).selRx = group.flag FAB_PG_STATUS.SEL 15 ∧ group.flag FAB_PG_STATUS.UNUSE_W 15 = false
      ∧ group.flag FAB_PG_STATUS.UNUSE_P 15 = false) := by
  decide +kernel

/-- Line port 31 ON with a BSTATE. -/
def portAt (b : Nat) : State := (State.reset.setBst 63 b).set LPX_PORT_CTRL.STATE 31 1

theorem hyps_BringUpFollowsItsStates :
    ((portAt 1).phase 63 = 1 ∧ (((portAt 1).lanesOf 63).foldl (fun s j => s.set LNS_LANE.SIG j 1) (portAt 1)).allSignal 63 = true
      ∧ (portAt 1).allSignal 63 = false) ∧ (State.reset.phase 63 = 0 ∧ (portAt 4).phase 63 = 4 ∧ (portAt 2).phase 63 = 2 ∧ (portAt 3).phase 63 = 3 ∧ (portAt 3).loopMode 63 ≠ 3)
    ∧ ((portAt 3).huddles 63 = false ∧ (kraowBare.setBst 63 3).huddles 63 = true ∧ (kraowBare.setBst 63 3).phase 63 = 3)
    ∧ ((portAt 5).phase 63 = 5 ∧ (portAt 5).isKraow 63 = false ∧ ((portAt 5).lanesOf 63)[0]? ≠ none)
    ∧ ((portAt 5).onPort 63 fun x => { x with lockLost := true }).path.reorder = []
    ∧ (((portAt 5).onPort 63 fun x => { x with lockLost := true }).portSt 63).lockLost = true ∧ ((portAt 5).portSt 63).lockLost = false := by
  decide +kernel

theorem hyps_BringUpFollowsItsStates_queues :
    ∀ q < 4096, ((portAt 5).onPort 63 fun x => { x with lockLost := true }).get QMG_QCFG.ROLE q ≠ 1 := by
  have h : ∀ a b : Fin 64, ((portAt 5).onPort 63 fun x => { x with lockLost := true }).get QMG_QCFG.ROLE (64 * a + b) ≠ 1 := by decide +kernel
  intro q hq
  have := h ⟨q / 64, by omega⟩ ⟨q % 64, by omega⟩
  rwa [show 64 * (q / 64) + q % 64 = q by omega] at this

/-- Line port 31, which huddles, in HUDDLE, after three messages with ACK. -/
def huddling : State := (kraowBare.setBst 63 4).onPort 63 fun x => { x with hudMatch := true, hudAcks := 2, hudAcked := true }

/-- A valid message whose mode, rate and FEC are those of the huddling port, and one of a device of another mode. -/
def hudMsg (mode : Nat) : List Byte :=
  let body := [1#8, 128, BitVec.ofNat 8 mode, BitVec.ofNat 8 (huddling.hudOwn 63).2.1, 1] ++ List.replicate 55 0
  body ++ beBytes 4 (crc32c 0xFFFFFFFF body)

theorem hyps_HuddleEndsWhenBothSidesAgree :
    ((portAt 3).phase 63 ≠ 4 ∧ huddling.phase 63 = 4 ∧ huddling.transmits 63 = true ∧ hudValid [] = false)
    ∧ (hudValid ((hudMsg 1).take 64) = true ∧ (octet (hudMsg 1) 2, octet (hudMsg 1) 3, octet (hudMsg 1) 4) = huddling.hudOwn 63)
    ∧ (hudValid ((hudMsg 0).take 64) = true ∧ (octet (hudMsg 0) 2, octet (hudMsg 0) 3, octet (hudMsg 0) 4) ≠ huddling.hudOwn 63)
    ∧ (let s := ((State.reset.setBst 65 4).set MTL_PAIR_ID.PAIR_ID 0 7 |>.set MTL_PAIR_CFG.EN 0 1).set MTL_PAIR_CFG.STATE 0 1
       s.phase 65 = 4 ∧ beAt ((hudMsg 0).take 64) 8 8 ≠ s.pairId) := by
  decide +kernel

theorem hyps_EthernetSupportActsOnItsPort :
    (State.reset.portUp 63 = false ∧ clientUp.portUp 31 = true ∧ clientUp.isKraow 31 = false ∧ lineUp.portUp 63 = true
      ∧ lineUp.isKraow 63 = false ∧ Settled lineUp)
    ∧ (State.reset.pausedMask 63 = 0 ∧ ((lineUp.set LPX_PORT_CTRL.PFC_TX 31 0x80).putAccount (accountOf 63 7) { paused := true }).pausedMask 63 ≠ 0
      ∧ ((lineUp.set LPX_PORT_CTRL.PFC_TX 31 0x80).putAccount (accountOf 63 7) { paused := true }).macSends 63 = true)
    ∧ (let s := ((((portAt 5).set LPX_PORT_CTRL.HUD_EN 31 1).set LPX_PORT_CTRL.KRAOW 31 0))
       s.phase 63 = 5 ∧ s.isKraow 63 = false ∧ s.flag LPX_PORT_CTRL.HUD_EN 31 = true)
    ∧ (State.reset.get LPX_PORT_STATUS.PE 31 ≠ 1 ∧ (State.reset.set LPX_PORT_STATUS.PE 31 1).get LPX_PORT_STATUS.PE 31 = 1) := by
  decide +kernel

theorem hyps_LanesAndPortComplexes :
    (lineUp.portState (lineUp.lanePort 63) ≠ 0 ∨ State.reset.portState (State.reset.lanePort 63) = 0)
    ∧ (∃ s : State, s.portState (s.lanePort 60) ≠ 0)
    ∧ ((State.reset.set LNS_LANE.RETIRED 63 1).portState ((State.reset.set LNS_LANE.RETIRED 63 1).lanePort 63) = 0
      ∧ (State.reset.set LNS_LANE.RETIRED 63 1).get LNS_LANE.RETIRED 63 = 1 ∧ 63 ∉ State.reset.laneTests
      ∧ 63 ∈ ({ State.reset with laneTests := [63] } : State).laneTests)
    ∧ (∀ p ∈ complexPorts true 3, (State.reset.set LPX_PORT_CTRL.STATE 31 1).bstate p ≠ 5)
    ∧ (∃ p ∈ complexPorts true 3, (State.reset.set LPX_PORT_CTRL.STATE 31 1).portState p ≠ 0)
    ∧ ((∀ p ∈ complexPorts true 3, State.reset.portState p = 0) ∧ 0 ≤ (State.reset.set LPX_CFG.PMODE 3 8).poolSize 3) := by
  refine ⟨by decide +kernel, ⟨(State.reset.set LPX_PORT_CTRL.STATE 24 1).set LPX_PORT_CTRL.STATE 28 1, by decide +kernel⟩, by decide +kernel,
    by decide +kernel, by decide +kernel, by decide +kernel⟩

/-- All cells of region 3's shared pool lost to bad rows. -/
def poolGone : State := { State.reset with q := { State.reset.q with lostCells := [(3, 98304)] } }

theorem hyps_LanesAndPortComplexes_pool : (poolGone.set LPX_CFG.PMODE 3 0).poolSize 3 < 0 ∧ ∀ p ∈ complexPorts true 3, poolGone.portState p = 0 := by
  decide +kernel

/-- Stream 255, ON and in service, of client port 31 over line ports 30 and 31 as a volley, which are up; it has sent up to 9. -/
def letOn : State :=
  let s := ((((State.reset.set LET_STREAM_CFG.STATE 255 1).set LET_STREAM_CFG.VOLLEY 255 1).set LET_STREAM_CFG.RETAIN 255 1).set
    LET_STREAM_CFG.PORT_W 255 30).set LET_STREAM_CFG.PORT_P 255 31 |>.set LET_STREAM_CFG.CLIENT_PORT 255 31
  let s1 := (s.set LET_STREAM_STATUS.NEXT 255 10).set LET_STREAM_STATUS.INSTANCE 255 7 |>.set LET_STREAM_RXSC.RX_W 255 16383
  let s2 := (((s1.set LPX_PORT_STATUS.BSTATE 31 5).set LPX_PORT_CTRL.STATE 31 1).set LPX_PORT_STATUS.BSTATE 30 5).set LPX_PORT_CTRL.STATE 30 1
  { s2 with service := [1655] }

/-- The same stream with a record of number 9. -/
def letHeld : State := letOn.onLet 255 fun x => { x with records := [⟨9, waiting, none⟩], peer := some 5 }

/-- The stream with one gap. -/
def letGapped (g : LetGap) : State := (letOn.set LET_STREAM_STATUS.RX_NEXT 255 3).onLet 255 fun x => { x with gaps := [g], peer := some 5 }

/-- The stream's replay SCs ON, with an SA that can bind. -/
def letReplaying : State :=
  let s := ((clientUp.set FEN_POD_CTRL.ENG_MASK 18 0x80).set FEN_KSA_CTRL.EN 3 0)
  let s1 := { s with regs := (letOn.regs ++ s.regs.filter fun (e : Nat × Word) => !(letOn.regs.any fun x => x.1 == e.1)), service := [1655] }
  ((s1.set LET_STREAM_SC.RPL_W 255 16383).set LET_STREAM_STATUS.MODE 255 2).onLet 255 fun x => { x with records := [⟨9, waiting, none⟩] }

theorem hyps_LetStreamsAcknowledgeAndReplay :
    (letHeld.letViaOk 255 (some 16383) 31 = true ∧ letHeld.get LET_STREAM_STATUS.INSTANCE 255 = 7 ∧ 8 < letHeld.get LET_STREAM_STATUS.NEXT 255
      ∧ (letHeld.letAckApply 255 8).get LET_STREAM_STATUS.MODE 255 = 0)
    ∧ (State.reset.letViaOk 255 (some 16383) 31 = false ∧ letHeld.isLibero = false ∧ (letHeld.letS 255).peer = some 5
      ∧ (letOn.letS 255).peer ≠ some 5 ∧ State.reset.letServes 255 = false ∧ letHeld.letServes 255 = true)
    ∧ ((letGapped ⟨3, 5, false, false⟩).letServes 255 = true ∧ (letGapped ⟨3, 5, true, true⟩).letServes 255 = true
      ∧ (letGapped ⟨3, 5, true, true⟩).get LET_STREAM_STATUS.RX_NEXT 255 = 3 ∧ ((letGapped ⟨3, 5, true, true⟩).letS 255).held = []
      ∧ ((letGapped ⟨3, 5, true, true⟩).letS 255).lost = [] ∧ Settled (letGapped ⟨3, 5, true, true⟩))
    ∧ (letHeld.get LET_STREAM_STATUS.MODE 255 = 0 ∧ letHeld.get LET_STREAM_CFG.RETAIN 255 = 1
      ∧ letHeld.get LET_STREAM_STATUS.CUM 255 < letHeld.get LET_STREAM_STATUS.NEXT 255 - 1 ∧ letHeld.letAnyUsable 255 = true)
    ∧ (letReplaying.letServes 255 = true ∧ letReplaying.isLibero = false ∧ letReplaying.letReplayPorts 255 ≠ []
      ∧ letReplaying.get LET_STREAM_STATUS.MODE 255 = 2 ∧ letReplaying.letReplayReady 255 = true
      ∧ (letReplaying.onSeq (seqOf 31) fun x => { x with dev := [{ waiting with stream := some 255 }] }).letReplayReady 255 = false
      ∧ (letReplaying.letS 255).records.find? (fun y => (letReplaying.letS 255).replayPoint ≤ y.number && letReplaying.get LET_STREAM_STATUS.CUM 255 < y.number)
          = some ⟨9, waiting, none⟩)
    ∧ (letHeld.letIsFull 255 = true ∧ ((letHeld.set LET_STREAM_CFG.RETAIN 255 0).letIsFull 255 = false))
    ∧ ((letHeld.set LET_STREAM_CFG.STATE 255 2).get LET_STREAM_CFG.STATE 255 = 2 ∧ (letHeld.letS 255).closeStep < 3
      ∧ ((letHeld.set LET_STREAM_CFG.STATE 255 2).onLet 255 fun x => { x with closeStep := 3 }).fnState (.stream 255) = 2
      ∧ letHeld.fnState (.stream 255) < 2) := by
  decide +kernel

/-- A device of a pair with a role, its mate link ACTIVE, under a transfer key in slot 4,095. -/
def paired (role : Nat) : State :=
  let s := ((State.reset.set MTL_PAIR_CFG.STATE 0 1).set MTL_LANE_STATUS.BSTATE 1 5).set MTL_PAIR_STATUS.ROLE 0 role
  (s.set MTL_PAIR_CFG.PTK_SLOT 0 4095).putSlot 69631 { key := some (KeyRec.mk0 2 3 0 true (List.replicate 16 7) 0) }

/-- A message as the other device would send it. -/
def rally (typ : Nat) (body : List Byte) : List Byte :=
  rallyFrame ({ paired 1 with mtl := { (paired 1).mtl with rseqTx := 1 } }.rallyMessage typ body)

/-- No queue of such a device belongs to a client port. -/
theorem noQueues_paired (r : Nat) : ∀ q < 4096, (paired r).get QMG_QCFG.ROLE q ≠ 1 := by
  intro q hq
  have hb : q < 8192 := by omega
  have h0 : State.reset.get QMG_QCFG.ROLE q ≠ 1 := by
    show (regDefault (regKey .QMG_QCFG q 0)).bits 4 3 ≠ 1
    rw [regDefault_key _ _ _ hb (by omega)]
    change Word.bits (if q % 1024 < 96 then 0x35#64 else if q % 1024 < 104 then 0x55#64 else 0#64) 4 3 ≠ 1
    split
    · decide
    · split <;> decide
  have hs (s : State) (f : Field) (v : Nat) (hf : f.fits = true) (hr : QMG_QCFG.ROLE.reg ≠ f.reg) :
      (s.set f 0 v).get QMG_QCFG.ROLE q = s.get QMG_QCFG.ROLE q :=
    get_set_ne _ _ _ _ _ _ (by omega) hb hf (by decide) (.inl fun h => hr h.1)
  have hp (s : State) (kh : Nat) (sl : KeySlot) : (s.putSlot kh sl).get QMG_QCFG.ROLE q = s.get QMG_QCFG.ROLE q := by
    simp only [State.putSlot, State.get, State.word]
  unfold paired
  simp only [hp]
  rw [hs _ _ _ (by decide) (by decide), hs _ _ _ (by decide) (by decide)]
  rw [get_set_ne _ _ _ _ _ _ (by omega) hb (by decide) (by decide) (.inl fun h => absurd h.1 (by decide)), hs _ _ _ (by decide) (by decide)]
  exact h0

theorem hyps_PairRolesAndTimers :
    (State.reset.mtl.roleWait = 0 ∧ (paired 1).mateActive = true ∧ (paired 1).get MTL_PAIR_STATUS.ACTIVE_IN = 0 ∧ State.reset.get MTL_PAIR_CFG.PREFER = 0 ∧ (State.reset.set MTL_PAIR_CFG.PREFER 0 1).get MTL_PAIR_CFG.PREFER = 1
      ∧ State.reset.get MTL_PAIR_STATUS.ACTIVE_IN = 0)
    ∧ ((paired 1).get MTL_PAIR_STATUS.ROLE = 1 ∧ (paired 1).mateActive = true ∧ (paired 1).get MTL_PAIR_CFG.STATE ≠ 0 ∧ State.reset.mateActive = false)
    ∧ (let s := ((paired 1).set MTL_PAIR_STATUS.ACTIVE_OUT 0 3).set MTL_PAIR_STATUS.ACTIVE_IN 0 1
       s.get MTL_PAIR_STATUS.ACTIVE_OUT = 3 ∧ s.get MTL_PAIR_STATUS.ACTIVE_IN = 1 ∧ s.preferred s.mtl.peerPrefer = false ∧ Settled s)
    ∧ (let s := { paired 5 with mtl := { (paired 5).mtl with missed := 2, window := true } }
       Settled s ∧ s.isLibero = true ∧ s.mtl.missed = 2 ∧ s.mtl.window = true ∧ s.pairStreams = [] ∧ s.tbl.sa.risesFrom 0 = true)
    ∧ (let s := (paired 5).onMtl 255 fun x => { x with wants := [(4096, 0)], retryAt := some 0 }
       (∃ w ∈ (s.mtlS 255).wants, w.1 = 4096) ∧ (s.mtlS 255).retryAt = some 0 ∧ s.isLibero = true)
    ∧ ((paired 5).get MTL_PAIR_STATUS.ROLE = 5 ∧ (paired 5).mtl.window = false
      ∧ ([63] : List (Fin 64)).any (fun j => (paired 5).portState ((paired 5).lanePort j.val) == 0) = true) := by
  decide +kernel

/-- A device with the pair's key that has taken no message yet takes what the other forms. -/
theorem rally_taken (s : State) (typ : Nat) (body : List Byte) (ht : typ < 256) (hb : body.length < 65536) (hs : s.get MTL_PAIR_CFG.PTK_SLOT = 4095
    ∧ (s.usableKey? 69631).map (·.key) = some (List.replicate 16 7) ∧ s.get MTL_PAIR_ID.PAIR_ID = 0 ∧ s.mtl.rseqRx = 0) :
    s.rallyBody typ (rally typ body) = some body := by
  obtain ⟨h1, h2, h3, h4⟩ := hs
  have hk (t : State) (h : t.get MTL_PAIR_CFG.PTK_SLOT = 4095) (h' : (t.usableKey? 69631).map (·.key) = some (List.replicate 16 7)) :
      t.rallyKey "RALLY-MAC" = kdf (List.replicate 16 7) (ascii "RALLY-MAC") [] 256 := by
    unfold State.rallyKey
    rw [h]
    obtain ⟨k, hk, hk'⟩ := Option.map_eq_some_iff.mp h'
    rw [hk]
    exact congrArg (fun x => kdf x (ascii "RALLY-MAC") [] 256) hk'
  refine rallyBody_rallyFrame _ _ _ _ ht hb ((hk s h1 h2).trans (hk _ ?_ ?_).symm) (h3.trans ?_) (h4 ▸ Nat.zero_lt_one) (by decide) <;> decide +kernel

theorem hyps_RallyMessagesReceived_valid :
    (paired 1).rallyBody 1 (rally 1 (1 :: List.replicate 15 0)) = some (1 :: List.replicate 15 0)
    ∧ (paired 5).rallyBody 2 (rally 2 (List.replicate 10 3)) = some (List.replicate 10 3)
    ∧ (paired 5).rallyBody 3 (rally 3 (checkBody 255 4096 7)) = some (checkBody 255 4096 7)
    ∧ (paired 5).rallyBody 4 (rally 4 (leaseBody 65535 3)) = some (leaseBody 65535 3) ∧ beAt (leaseBody 65535 3) 2 2 = 65535
    ∧ (paired 1).rallyBody 5 (rally 5 (leaseBody 65535 3)) = some (leaseBody 65535 3) ∧ leaseWho (leaseBody 65535 3) = 65535
    ∧ (paired 5).rallyBody 8 (rally 8 [4]) = some [4] ∧ ((paired 5).set MTL_PAIR_STATUS.STALE 0 1).rallyBody 8 (rally 8 [2]) = some [2] ∧ (paired 1).rallyBody 9 (rally 9 []) = some []
    ∧ (paired 5).rallyBody 10 (rally 10 []) = some [] ∧ (paired 1).rallyBody 1 [] = none := by
  refine ⟨rally_taken _ _ _ ?_ ?_ ?_, rally_taken _ _ _ ?_ ?_ ?_, rally_taken _ _ _ ?_ ?_ ?_, rally_taken _ _ _ ?_ ?_ ?_, ?_,
    rally_taken _ _ _ ?_ ?_ ?_, ?_, rally_taken _ _ _ ?_ ?_ ?_, rally_taken _ _ _ ?_ ?_ ?_, rally_taken _ _ _ ?_ ?_ ?_, rally_taken _ _ _ ?_ ?_ ?_, ?_⟩ <;> decide +kernel

/-- Body of the ANCHOR of stream 255 at 4,096 with eight frames of one octet, and of a mirrored DELETE of SA 65,535. -/
def anchorOct : List Byte := [255, 0, 0, 0, 0, 0, 0, 1] ++ beBytes 8 4096 ++ ((List.range 8).map fun i => beBytes 4 (fcrc [BitVec.ofNat 8 i])).flatten
def mirrorOct : List Byte := List.replicate 8 0 ++ [0, 3, 0, 2, 0, 2, 255, 255] ++ List.replicate 64 0

/-- The libero's stream 255 in service, with the same eight frames as numbers 1 to 8. -/
def anchoring : State :=
  let s := (paired 5).set LET_STREAM_CFG.STATE 255 1
  { s.onMtl 255 fun x => { x with hist := ((List.range 8).map fun i => (i + 1, [BitVec.ofNat 8 i])).reverse } with service := [1655] }

theorem hyps_RallyMessagesReceived :
    (anchoring.rallyBody 6 (rally 6 anchorOct) = some anchorOct ∧ octet anchorOct 0 = 255 ∧ anchoring.isLibero = true ∧ anchoring.letServes 255 = true
      ∧ (anchoring.mtlS 255).anchorMatch ((List.range 8).map fun i => beAt anchorOct (16 + 4 * i) 4) = some 1
      ∧ ((paired 5).mtlS 255).anchorMatch ((List.range 8).map fun i => beAt anchorOct (16 + 4 * i) 4) = none)
    ∧ (((paired 5).putSa 65535 (some activeSa)).rallyBody 7 (rally 7 mirrorOct) = some mirrorOct
      ∧ ((paired 5).putSa 65535 (some activeSa)).saDeleteCode (beAt mirrorOct 8 2) (beAt mirrorOct 14 2) = 0
      ∧ ((paired 5).putSa 65535 (some activeSa)).namesDeleted 2 (beAt mirrorOct 14 2) = false
      ∧ ((paired 5).putSa 65535 (some activeSa)).mtl.mirrorHeld = none ∧ (paired 5).mtl.mirrorHeld = none
      ∧ ({ paired 5 with mtl := { (paired 5).mtl with mirrorHeld := some 7 } } : State).rallyBody 4 (rally 4 (leaseBody 65535 3)) = some (leaseBody 65535 3)
      ∧ ({ paired 5 with mtl := { (paired 5).mtl with mirrorHeld := some 7 } } : State).rallyBody 7 (rally 7 mirrorOct) = some mirrorOct
      ∧ octet mirrorOct 0 ≠ 1 ∧ beAt mirrorOct 10 2 = 2 ∧ beAt mirrorOct 12 2 = 2)
    ∧ ((paired 5).rallyBody 7 (rally 7 [1]) = some [1] ∧ ((paired 5).mirrorKey [1]).1 = false)
    ∧ ((paired 5).putSa 65535 (some activeSa)).sa? 65535 = some activeSa
    ∧ ((paired 1).rallyBody 11 (rally 11 [255]) = some [255]
      ∧ ({ (paired 1).set LET_STREAM_CFG.STATE 255 1 with service := [1655] } : State).letServes 255 = true) := by
  refine ⟨⟨rally_taken _ _ _ ?_ ?_ ?_, ?_⟩, ⟨rally_taken _ _ _ ?_ ?_ ?_, ?_⟩, ⟨rally_taken _ _ _ ?_ ?_ ?_, ?_⟩, ?_, rally_taken _ _ _ ?_ ?_ ?_, ?_⟩
    <;> decide +kernel

/-- Queue 4,095 of a let stream, with the descriptors given in its tail and one chunk. -/
def laden (tail : List QEntry) (c : List Chunk) : State :=
  ((State.reset.set QMG_QCFG.ROLE 4095 4).set DMC_CAP.MARROW_CHUNKS 3 5).putQueue 4095 { tail := tail, marrow := c, flush := some 0 }

theorem hyps_QueuesSpillRefillAndAreMeasured :
    (State.reset.spillDue 4095 = false ∧ (laden (List.replicate 128 (.letRec 255 9)) []).spillDue 4095 = true
      ∧ packChunk (65536 - 64) ((laden (List.replicate 128 (.letRec 255 9)) []).queue 4095).tail ≠ [])
    ∧ (State.reset.queue 4095).marrow = [] ∧ (State.reset.queue 4095).flush = none
    ∧ (let s := laden [] [⟨0, [.letRec 255 9], false⟩]
       (s.queue 4095).head.length < 32 ∧ (s.queue 4095).headLost = 0 ∧ (s.queue 4095).marrow = [⟨0, [.letRec 255 9], false⟩] ∧ Settled s ∧ (s.queue 4095).flush ≠ none)
    ∧ (let s := laden [] []
       s.get QMG_AUDIT_CTRL.STATE ≠ 0 ∧ s.thermPaused = false ∧ Settled s ∧ (s.set QMG_AUDIT_CTRL.STATE 0 0).get QMG_AUDIT_CTRL.STATE = 0
       ∧ (⟨3, 2, 5, 255, 7, true⟩ : Orphan) ∈ { s with q := { s.q with orphans := [⟨3, 2, 5, 255, 7, true⟩] } }.q.orphans)
    ∧ (State.reset.get SCH_LAT_CFG.EN = 1 ∧ (State.reset.set SCH_LAT_CFG.EN 0 0).get SCH_LAT_CFG.EN = 0
      ∧ State.reset.get SCH_QSHAPE.LAT_EN 4095 = 0 ∧ (State.reset.set SCH_QSHAPE.LAT_EN 4095 1).get SCH_QSHAPE.LAT_EN 4095 = 1)
    ∧ (State.reset.get SCH_LAT_STATUS.BUSY = 0 ∧ (State.reset.set SCH_LAT_STATUS.BUSY 0 1).get SCH_LAT_STATUS.BUSY = 1 ∧ Settled State.reset)
    ∧ (State.reset.putLat 4095 { delayN := 2, delaySum := 9 }).latStat 4095 ≠ {} := by
  decide +kernel

/-- A device whose ranges 0, 4 and 31 have their keys, and 31 the new one of a re-key that has begun. -/
def keyed : State :=
  let k := fun (b : Byte) => ({ key := some (KeyRec.mk0 4 3 1 true (List.replicate 32 b) 0) } : KeySlot)
  let s := (((State.reset.putSlot (rangeSlot 31 0) (k 1)).putSlot (rangeSlot 31 1) (k 2)).putSlot (rangeSlot 0 0) (k 3)).putSlot (rangeSlot 4 0) (k 4)
  (s.set IME_RKEY_CTRL.STATE 31 1).set IME_RKEY_CTRL.SPLIT 31 1

/-- Its highest line written. -/
def lined (poison : Bool) : State := (keyed.lineWrite 0x1FFFFFFFF80 (List.replicate 128 9)) |>.putLine 0x1FFFFFFFF80
  { ((keyed.lineWrite 0x1FFFFFFFF80 (List.replicate 128 9)).line? 0x1FFFFFFFF80).getD ⟨[], 0, false⟩ with poison := poison }

theorem hyps_MemoryLines_plain :
    (State.reset.rangeReady 0x1FFFFFFFFFF = false ∧ (keyed.usableKey? (keyed.lineKey 0x1FFFFFFFFFF).1).isSome = true ∧ keyed.pcIn 255 = true
      ∧ keyed.line? 0x1FFFFFFFFFF = none ∧ keyed.mirrorAddr 0x1FFFFFFFFFF = 0x1FFFFFFFFFF ∧ keyed.isPoisoned 0x1FFFFFFFFFF = false ∧ Settled keyed)
    ∧ (keyed.mirrorAddr 0 = 2 ^ 38 ∧ keyed.copyRead (2 ^ 38) .ok = some (List.replicate 128 0) ∧ (keyed.usableKey? (keyed.lineKey 0).1).isSome = true
      ∧ keyed.pcIn 0 = true)
    ∧ ((keyed.putLine 0x1FFFFFFFFFF ⟨[], 0, true⟩).rangeReady 0x1FFFFFFFFFF = true ∧ (keyed.putLine 0x1FFFFFFFFFF ⟨[], 0, true⟩).poisonedBefore 0x1FFFFFFFFFF = true)
    ∧ (keyed.get IME_RKEY_CTRL.STATE 31 = 1 ∧ 31 ∉ keyed.dram.passed ∧ keyed.nextLine 31 (keyed.get IME_RANGE_BOUND.BOUND 31) ≠ none
      ∧ (let s := ((keyed.set IME_RKEY_CTRL.STATE 30 3).set IME_RKEY_CTRL.SPLIT 30 1).set IME_RANGE_BOUND.BOUND 30 (2 ^ 41 - 1)
        s.get IME_RKEY_CTRL.STATE 30 = 3 ∧ s.get IME_RKEY_CTRL.SPLIT 30 = 1 ∧ s.nextLine 30 (s.get IME_RANGE_BOUND.BOUND 30) = none))
    ∧ (keyed.get DMC_SCRUB_CFG.PATROL_EN 7 = 1 ∧ keyed.get DMC_SCRUB_CFG.TEST_EN 7 = 1 ∧ keyed.thermPaused = false ∧ 0 < (keyed.set DMC_PC.SPARES 255 3).get DMC_PC.SPARES 255
      ∧ (keyed.set DMC_PC.SPARES 255 0).get DMC_PC.SPARES 255 = 0 ∧ (keyed.set DMC_SCRUB_CFG.PATROL_EN 7 0).get DMC_SCRUB_CFG.PATROL_EN 7 = 0) := by
  decide +kernel

theorem hyps_MemoryLines_moved :
    ((lined false).set IME_RANGE_BOUND.BOUND 31 0x1FFFFFFFF80).nextLine 31 0x1FFFFFFFF80 = some 0x1FFFFFFFF80
    ∧ ((lined false).line? 0x1FFFFFFFF80).isSome = true ∧ ((lined true).line? 0x1FFFFFFFF80).any (·.poison) = true
    ∧ ((lined false).usableKey? (rangeSlot 31 (1 - (lined false).get IME_RKEY_CTRL.KEYSEL 31))).isSome = true := by
  decide +kernel

/-- A bank that changes to a state. -/
def changingTo (b v preq : Nat) : State :=
  let s := (State.reset.bankSet SRB_BANK.PSTATE SRB_CHIP_BANK.PSTATE b 3).bankSet SRB_BANK.PREQ SRB_CHIP_BANK.PREQ b preq
  { s with srb := { s.srb with changing := s.srb.changing.set b (v + 1) 0 } }

theorem hyps_BanksChangePowerStateAndAreTested :
    (State.reset.preqAllowed 51 2 = false ∧ State.reset.preqAllowed 47 1 = true ∧ Settled State.reset ∧ State.reset.bankState 47 = 0)
    ∧ (State.reset.srb.changing.get 47 0 = 0 ∧ (changingTo 47 1 1).srb.changing.get 47 0 = 2 ∧ (changingTo 47 1 1).bankState 47 = 3 ∧ Settled (changingTo 47 1 2)
      ∧ (changingTo 47 1 2).bankGet SRB_BANK.PREQ SRB_CHIP_BANK.PREQ 47 = 2)
    ∧ (State.reset.get SRB_TEST_CFG.STATE 0 = 1 ∧ State.reset.thermPaused = false ∧ State.reset.get SRB_TEST_STATUS.POS 0 ≠ 1023
      ∧ (State.reset.set SRB_TEST_STATUS.POS 0 1023).get SRB_TEST_STATUS.POS 0 = 1023 ∧ 51 ∈ testBanks 0 ∧ State.reset.bankState 51 = 0
      ∧ (State.reset.set SRB_TEST_CFG.STATE 3 0).get SRB_TEST_CFG.STATE 3 ≠ 1 ∧ State.reset.bankMaster 48 = 7 ∧ State.reset.bankMaster 51 ≠ 7)
    ∧ (let s := { State.reset.bankSet SRB_BANK.SPARE_TILES SRB_CHIP_BANK.SPARE_TILES 51 0 with srb := { spareRows := [(64 * 51, 8)] } }
       8 ≤ s.srb.spareRows.get (64 * 51 + s.get SRB_TEST_STATUS.POS 0 / 16) 0 ∧ s.bankGet SRB_BANK.SPARE_TILES SRB_CHIP_BANK.SPARE_TILES 51 = 0) := by
  decide +kernel

/-- A device that the host may write keys of, with a command keyStaged: attributes and key handle's slot as given. -/
def keyStaged (attr : Word) (kh : Nat) (k : Option KeyRec) : State :=
  (((State.reset.set KST_CTRL.PF0_KEYWR 0 1).setWord .KST_ATTR 1 0 attr).setWord .KST_ATTR 0 0 attr).putSlot kh { key := k, gen := 5 }

/-- A key as the device itself would store it. -/
def someKey (vol : Bool) : KeyRec := KeyRec.mk0 0 1 0 vol (List.replicate 16 7) 0

theorem hyps_KeyStoreCommandsAndGenerator :
    (State.reset.get KST_STATUS.BUSY 1 = 0 ∧ (State.reset.set KST_STATUS.BUSY 1 1).get KST_STATUS.BUSY 1 ≠ 0 ∧ State.reset.kstPort .host = .idle
      ∧ State.reset.kstWait .mcu = none ∧ Settled State.reset ∧ (KstPort.executed 0 0 false none).holds = true)
    ∧ ((keyStaged 0x88 65535 none).kstWriteResult .mcu 0 65535 false = 0 ∧ ((keyStaged 0x88 65535 none).kstAttr .mcu 0 65535).len = 0
      ∧ ((keyStaged 0x88 65535 none).kstAttr .mcu 0 65535).vol = true)
    ∧ (let s := (keyStaged 0x09 69000 none).set LCM_STATE.STATE 0 2
       s.kstWriteResult .mcu 0 69000 false = 0 ∧ (s.kstAttr .mcu 0 69000).vol = false)
    ∧ (let s := (keyStaged 0xC3 69000 none).set LCM_STATE.STATE 0 2
       s.kstWriteResult .mcu 0 69000 false = 0 ∧ (s.kstAttr .mcu 0 69000).len = 2)
    ∧ ((keyStaged 0x88 65535 (some (someKey true))).kstWriteResult .mcu 0 65535 true = 1 ∧ (keyStaged 0x88 65535 (some (someKey true))).kstEraseResult .mcu 65535 false = 0
      ∧ (keyStaged 0x88 65535 none).kstEraseResult .mcu 65535 false = 4 ∧ (keyStaged 0x88 65535 none).kstInfoResult 65535 false = 0
      ∧ (keyStaged 0x88 65535 (some (someKey true))).key? 65535 ≠ none)
    ∧ (let s := State.reset.setKstPort .mcu (.executed 3 69631 false none)
       s.kstPort .mcu = .executed 3 69631 false none ∧ s.kstPort .host = .idle ∧ s.isActivePaired = false ∧ Settled s)
    ∧ (let s := State.reset.setKstPort .host (.erasing 69631 true none)
       s.kstPort .host = .erasing 69631 true none ∧ s.wiping 69631 = false ∧ { s with fen := { s.fen with wipes := [⟨69631, [191]⟩] } }.wiping 69631 = true)
    ∧ (let s := { (State.reset.set LET_STREAM_CFG.STATE 255 1).set IME_RKEY_CTRL.STATE 31 1 with kst := { State.reset.kst with drbgStopped := true } }
       s.drbgRefuses = true ∧ s.fnState (.stream 255) = 1 ∧ s.inService (.stream 255) = false ∧ s.fnState (.rekey 3 7) = 1 ∧ s.inService (.rekey 3 7) = false
       ∧ (s.set GLB_AGT_CTRL.STATE 0 1).agentOn = true ∧ { s with pwr := { s.pwr with power := 3 } }.starting = true)
    ∧ (State.reset.get KST_CTRL.DRBG_FAIL = 0 ∧ (∀ st, State.reset.fnState (.stream st) ≠ 1) ∧ (∀ n j, State.reset.fnState (.rekey n j) ≠ 1)
      ∧ State.reset.drbgRefuses = false ∧ (State.reset.set KST_CTRL.DRBG_FAIL 0 1).get KST_CTRL.DRBG_FAIL = 1) := by
  decide +kernel

/-- A device in a life-cycle state, with a challenge. -/
def inLc (bits : Nat) : State := { State.reset with lcm := { State.reset.lcm with lcBits := bits, challenge := some (List.replicate 32 9) } }.lcShow

theorem hyps_LifeCycleCommands :
    (State.reset.get LCM_STATUS.BUSY = 0 ∧ (State.reset.set LCM_STATUS.BUSY 0 1).get LCM_STATUS.BUSY = 1 ∧ State.reset.get KST_CTRL.PF0_KEYWR = 0
      ∧ State.reset.drbgRefuses = false ∧ ({ State.reset with kst := { State.reset.kst with drbgStopped := true } } : State).drbgRefuses = true)
    ∧ (0x4C435430#32).toNat = 0x4C435430
    ∧ ((inLc 1).get LCM_STATE.ROOT_FAIL ≠ 1 ∧ (inLc 3).get LCM_STATE.ROOT_FAIL ≠ 1 ∧ ((inLc 3).set LCM_STATE.ROOT_FAIL 0 1).get LCM_STATE.ROOT_FAIL = 1)
    ∧ ((inLc 1).get LCM_STATE.STATE = 1 ∧ (inLc 3).get LCM_STATE.STATE = 2 ∧ (inLc 7).get LCM_STATE.STATE = 3 ∧ (inLc 8).get LCM_STATE.STATE = 4
      ∧ State.reset.get LCM_STATE.STATE = 0 ∧ Settled (inLc 3) ∧ (inLc 3).lcm.challenge ≠ none)
    ∧ ((inLc 3).tokenOk [] = false ∧ (inLc 1).lcm.customerHashes.length < 4
      ∧ ({ inLc 1 with lcm := { (inLc 1).lcm with customerHashes := [[], [], [], []] } } : State).lcm.customerHashes.length = 4)
    ∧ ({ inLc 1 with lcm := { (inLc 1).lcm with cmd := some 7 } } : State).lcm.cmd = some 7 := by
  decide +kernel

/-- A return token for the device of DEVICE_ID 0 that issued the challenge, signed under the private key 5 with the nonce 7. -/
def returnToken : List Byte := beBytes 8 0x52544F4B00010300 ++ List.replicate 8 0 ++ List.replicate 32 9 ++ testPub ++ beBytes 96
  0x283c1d7365ce4788f29f8ebf234edffead6fe997fbea5ffa2d58cc9dfa7b1c508b05526f55b9ebb2040f05b48fb6d0e1523453c167379cbf347b9b33715804f94a94dafade48870067435fc2b0dad70b06f6c4a8b80008ef42ef8777754cf7b8

theorem hyps_LifeCycleCommands_token : let s : State := { inLc 3 with lcm := { (inLc 3).lcm with oroasHashes := [sha384 testPub] } }
    s.tokenOk returnToken = true ∧ s.get LCM_STATE.STATE = 2 ∧ s.get LCM_STATE.ROOT_FAIL ≠ 1 := by
  decide +kernel

theorem hyps_ImageCommands :
    (State.reset.get NVJ_IMG_STATUS.BUSY = 0 ∧ (State.reset.set NVJ_IMG_STATUS.BUSY 0 1).get NVJ_IMG_STATUS.BUSY = 1 ∧ State.reset.nvj.loaded ≠ some 1
      ∧ ({ State.reset with nvj := { State.reset.nvj with loaded := some 1 } } : State).nvj.loaded = some 1)
    ∧ ((1 ≠ 0 ∧ 131071 + 1 ≤ 131072) ∧ State.reset.blank (slotBase 1 + 256 * 131071) 256 = true
      ∧ (State.reset.prog 0x3FFFFFF [7]).blank (slotBase 1 + 256 * 131071) 256 = false ∧ (List.replicate 256 (5 : Byte)).length = 256)
    ∧ (fieldAt (State.reset.rd (slotBase 1) 256) 0 4 ≠ 0x55544B52
      ∧ (let s := State.reset.prog (slotBase 1) (beBytes 4 0x55544B52)
         fieldAt (s.rd (slotBase 1) 256) 0 4 = 0x55544B52 ∧ fieldAt (s.rd (slotBase 1) 256) 4 2 ≠ 1))
    ∧ ({ State.reset with nvj := { State.reset.nvj with img := some (3, 7) } } : State).nvj.img = some (3, 7) ∧ Settled State.reset := by
  decide +kernel

/-- A journal under a key, with requests waiting. -/
def journalled (q : List JReq) (p : Option JProg) : State :=
  { State.reset with nvj := { State.reset.nvj with key := some (List.replicate 32 1), queue := q, prog := p, map := (List.range 192).map (· + 1), pos := 190, boundary := 255 } }

/-- An entry in work at the last place of a sector. -/
def inWork (typ : Nat) (payload : List Byte) : JProg := ⟨⟨typ, payload⟩, List.replicate 48 7, 9, 190, 255⟩

theorem hyps_JournalAppendsCompactsAndFormats :
    (State.reset.nvj.prog = none ∧ State.reset.nvj.queue = [] ∧ State.reset.journalReadOnly = false
      ∧ ((State.reset.set NVJ_JSTATUS.READ_ONLY 0 1).journalReadOnly = true))
    ∧ (let s := journalled [⟨8, List.replicate 8 0⟩] none
       s.nvj.compacting = false ∧ s.nvj.key ≠ none ∧ (s.entryPlace 8).1 < 192)
    ∧ (let s := journalled [] (some (inWork 8 []))
       s.nvj.committing = false ∧ s.nvj.stopped = false ∧ s.sparesLeft ((256 * s.nvj.active + s.nvj.map.getD 190 0) / 256) ≠ 0 ∧ (inWork 8 []).pos + 1 < 192
       ∧ 75 * 256 * 192 ≤ (256 * (inWork 8 []).pos + ((inWork 8 []).boundary + entrySpan 0) - 1) * 100 ∧ (inWork 8 []).req.typ ∉ [1, 2, 3, 5, 6] ∧ Settled s)
    ∧ (let s := ({ journalled [] (some (inWork 1 (beBytes 4 69631))) with nvj := { (journalled [] (some (inWork 1 (beBytes 4 69631)))).nvj with committing := true } } : State).putSlot
         69631 { changes := [⟨some (KeyRec.mk0 1 3 0 false (List.replicate 16 7) 0), true⟩] }
       s.nvj.committing = true ∧ fieldAt (beBytes 4 69631) 0 4 = 69631 ∧ s.kst.hostPort = .idle ∧ s.kst.mcuPort = .idle
       ∧ (s.slot 69631).changes = [⟨some (KeyRec.mk0 1 3 0 false (List.replicate 16 7) 0), true⟩])
    ∧ ((State.reset.forL State.reset.nvj.preErase fun k t => t.eraseSector k).journalReadOnly = false ∧ State.reset.nvj.preErase = [] ∧ State.reset.nvj.compacting = false ∧ State.reset.eraseCount 511 + 1 < 95000 ∧ State.reset.nvj.gen + 1 < 2 ^ 64)
    ∧ (State.reset.get NVJ_JSTATUS.BUSY = 0 ∧ (State.reset.set NVJ_JSTATUS.BUSY 0 1).get NVJ_JSTATUS.BUSY = 1 ∧ configOk (List.replicate 16 0xFF) = false
      ∧ configOk (beBytes 4 0x01800100 ++ beBytes 12 0) = true ∧ State.reset.get KST_CTRL.PF0_KEYWR = 0 ∧ (0x464D5430#32).toNat = 0x464D5430)
    ∧ (State.reset.evt.logQueue = [] ∧ ({ State.reset with nvj := { State.reset.nvj with logAt := 0x7FFFE0 } } : State).nvj.logAt % 65536 ≠ 0) := by
  decide +kernel

/-- A time base that runs, with a time. -/
def running : State :=
  { ((State.reset.set TMB_STATUS.RUNNING 0 1).set TMB_CTRL.EN 0 1) with clk := { State.reset.clk with tbSec := 7, tbNs := 999999999 } }

/-- A Kraow port with a transmit and a receive time kept. -/
def kept : State := (State.reset.set LPX_PORT_CTRL.KRAOW 31 1).onKrw 31 fun k => { k with ttTx := [(9, 100)], ttRx := [(8, 500)] }

/-- A time-transfer message. -/
def ttMessage : List Byte := [1, 1, 0, 0] ++ beBytes 8 8 ++ ttBytes 350 ++ beBytes 8 9 ++ ttBytes 200

/-- The same port follows, its step unused, and a valid message from a peer that is far ahead; and one from a peer that is not. -/
def following : State :=
  { ((running.set LPX_PORT_CTRL.KRAOW 31 1).set TMB_PORT.TT_ROLE 63 2).onKrw 31 (fun k => { k with ttTx := [(9, 100)], ttRx := [(8, 500)] }) with clk := running.clk }
def farMessage : List Byte := [1, 1, 0, 0] ++ beBytes 8 8 ++ ttBytes 200000000000 ++ beBytes 8 9 ++ ttBytes 200000000000

theorem hyps_TimeBaseCommands_follows :
    Settled following ∧ following.get TMB_PORT.TT_ROLE 63 = 2 ∧ following.get LPX_PORT_CTRL.KRAOW 31 = 1 ∧ octet farMessage 1 % 2 = 1 ∧ ttBad farMessage = false
    ∧ following.get TMB_STATUS.STEP_USED = 0 ∧ following.get TMB_STATUS.STEP_WAIT = 0 ∧ following.get TMB_STATUS.RUNNING = 1
    ∧ (following.krwPort 31).ttTx.find? (·.1 == beAt farMessage 24 8) = some (9, 100) ∧ (following.krwPort 31).ttRx.find? (·.1 == beAt farMessage 4 8) = some (8, 500)
    ∧ 65536000000 < ((((ttTime farMessage 32 : Int) - 100) - (500 - ttTime farMessage 12)) / 2).natAbs
    ∧ (following.set TMB_STATUS.STEP_USED 0 1).get TMB_STATUS.STEP_USED = 1 ∧ Settled (following.set TMB_STATUS.STEP_USED 0 1) := by
  decide +kernel

theorem hyps_TimeBaseCommands :
    (State.reset.domOn 369 = true ∧ (State.reset.set PWR_DOM.STATE 369 0).domOn 369 = false ∧ running.get TMB_STATUS.RUNNING = 1
      ∧ State.reset.get TMB_STATUS.RUNNING ≠ 1 ∧ State.reset.get TMB_STATUS.HOLDOVER = 0 ∧ (State.reset.set TMB_STATUS.HOLDOVER 0 1).get TMB_STATUS.HOLDOVER = 1
      ∧ Settled running)
    ∧ (running.get TMB_STATUS.STEP_USED = 0 ∧ running.get TMB_STATUS.STEP_WAIT = 0 ∧ running.get TMB_STEP.NS ≤ 999999999 ∧ running.get TMB_STATUS.OWNED = 0
      ∧ (running.set TMB_STEP.NS 0 1000000000).get TMB_STEP.NS > 999999999 ∧ (running.set TMB_STATUS.OWNED 0 1).get TMB_STATUS.OWNED = 1)
    ∧ (running.get TMB_PPS_CFG.WIN_EN = 0 ∨ running.get TMB_STATUS.STEP_USED = 0)
    ∧ (let s := { ((running.set TMB_PPS_CFG.WIN_EN 0 1).set TMB_STATUS.STEP_USED 0 1) with clk := { running.clk with tbNs := 1001 } }
       s.get TMB_PPS_CFG.WIN_EN ≠ 0 ∧ s.get TMB_STATUS.STEP_USED ≠ 0 ∧ ¬ (s.clk.tbNs ≤ 1000 ∨ 999999000 ≤ s.clk.tbNs)
       ∧ { s with clk := { s.clk with tbNs := 1000 } }.clk.ppsWindow ≠ some 7)
    ∧ ((running.set TMB_STATUS.STEP_WAIT 0 1).get TMB_STATUS.STEP_WAIT = 1
      ∧ (running.set TMB_PPS_CFG.OUT_EN 0 1).get TMB_PPS_CFG.OUT_EN = 1 ∧ running.clk.ppsSec ≠ some running.ppsSecond)
    ∧ (kept.get LPX_PORT_CTRL.KRAOW 31 = 1 ∧ State.reset.get LPX_PORT_CTRL.KRAOW 31 = 0 ∧ Settled kept ∧ ttBad ttMessage = false
      ∧ (kept.krwPort 31).ttTx.find? (·.1 == beAt ttMessage 24 8) = some (9, 100) ∧ (kept.krwPort 31).ttRx.find? (·.1 == beAt ttMessage 4 8) = some (8, 500)) := by
  decide +kernel

/-- The host's write is taken at reset, discarded while the side-band holds ownership, and unassigned in recovery; the MCU's is taken. -/
theorem hyps_writes_of_the_host : let s := State.reset
    let owned := s.set GLB_OWNER.OWNER 0 2
    let recovers : State := { s with pwr := { s.pwr with recovery := true } }
    ∀ r ∈ [Reg.TBL_CMD, .KST_CMD, .LCM_CMD, .NVJ_JCTRL, .TMB_STEP_CMD, .TMB_RATE, .TMB_SLEW, .TMP_CTRL, .TMP_RESP, .TMP_AOLOG_STATUS],
      s.mayWrite .host r = true ∧ owned.mayWrite .host r = false ∧ recovers.mayWrite .host r = false ∧ owned.mayWrite .mcu r = true
      ∧ ((owned.turnAway r 0).get GLB_OWNER.DISCARDS = 1) ∧ (recovers.turnAway r 0).get GLB_UNMAPPED_CNT.COUNT = 1 := by
  decide +kernel

/-- The offset that an access to a register counts at is the one at which it lies (R38). -/
theorem test_offset_of_an_instance : Reg.offset .TBL_CMD 7 = 0xF30840 ∧ regAt 0xF30840 = some (.TBL_CMD, 7, 0) := by
  decide +kernel

/-- A device in SERVICE whose sources all carry a response, with a BSK and a key. -/
def guarded (r : Nat) : State :=
  let w : Word := match r with
    | 1 => 0x55555555
    | 2 => 0xAAAAAAAA
    | _ => 0xFFFFFFFF
  let s := (State.reset.setWord .TMP_RESP 0 0 w).putSlot 69631 { key := some (KeyRec.mk0 1 3 0 false (List.replicate 16 7) 0) }
  { s with pwr := { s.pwr with power := 3 }, tmp := { s.tmp with bsk := some (List.replicate 32 1), aoResp := w, hi0 := 1, up1 := 1 } }

theorem hyps_TamperSourcesAndResponses :
    (∀ r ∈ [1, 2, 3], (guarded r).pwr.power = 3 ∧ (guarded r).tmp.resp = 0 ∧ (guarded r).get TMP_STATUS.HOLD = 0 ∧ Settled (guarded r)
      ∧ (guarded r).respOf 15 = r ∧ (guarded r).respOf 0 = r ∧ (guarded r).respOf 8 = r ∧ (guarded r).respOf 12 = r)
    ∧ ((guarded 3).respOf 9 = 3 ∧ signed8 ((guarded 3).get TMP_CTRL.TEMP_HIGH) ≤ 125 ∧ (State.reset.setWord .TMP_RESP 0 0 0).respOf 15 = 1
      ∧ ({ guarded 1 with pwr := { State.reset.pwr with power := 3 } }.setWord .TMP_RESP 0 0 0).respOf 15 = 0)
    ∧ ((guarded 1).monitored 3 = true ∧ State.reset.monitored 3 = false) ∧ (railOut 5 2969 = (true, false) ∧ railOut 0 861 = (false, true) ∧ railOut 5 2970 = (false, false) ∧ (guarded 1).get PWR_STATE.TRANSIT = 0)
    ∧ (State.reset.pwr.power = 2 ∧ { guarded 2 with pwr := { (guarded 2).pwr with power := 1 } }.respOf 12 = 2
      ∧ signed8 (State.reset.get TMP_CTRL.TEMP_LOW) < 25 ∧ 110 ≤ signed8 (State.reset.get TMP_CTRL.TEMP_HIGH) ∧ State.reset.get GLB_THERM.STAGE = 0)
    ∧ ({ guarded 2 with tmp := { (guarded 2).tmp with resp := 2 } }.tmp.resp ≠ 0 ∧ State.reset.get KST_CTRL.PF0_KEYWR = 0)
    ∧ (Word.bits 0 0 2 < respMin 2 0 ∧ (∀ i < 16, ¬ (Word.bits (BitVec.ofNat 64 (0xFFFFFFFF ||| 0x3C)) (2 * i) 2 < respMin State.reset.lcState i
        ∨ (State.reset.get TMP_CTRL.LOCK = 1 ∧ Word.bits (BitVec.ofNat 64 (0xFFFFFFFF ||| 0x3C)) (2 * i) 2 < (State.reset.word .TMP_RESP 0 0).bits (2 * i) 2))))
    ∧ ((State.reset.set TMP_STATUS.HOLD 0 1).set TMP_STATUS.HOLD_CAUSE 0 1).get TMP_STATUS.HOLD = 1 := by
  decide +kernel

/-- Ring 255 and receive ring 511, ON, with a frame of 60 octets waiting for the latter. -/
def ringing : State :=
  let s := ((State.reset.set HIF_RING_CFG.STATE 255 1).set HIF_RING_CFG.STATE 511 1).set HIF_RING_CFG.QUEUE 511 4095 |>.set HIF_RING_CFG.BUF 511 1
  let it : Item := { waiting with data := List.replicate 300 7 }
  ((s.onRing 255 fun x => { x with tail := 4 }).onRing 511 fun x => { x with tail := 2 }).putQueue 4095 { head := [.frame it] }

/-- A descriptor of a frame of 60 octets for line port 31, class 7. -/
def oneDesc : List Word := [0, BitVec.ofNat 64 (60 + 2 ^ 16 * 31 + 2 ^ 21 + 2 ^ 22 * 7), 0, 0]

/-- The same with PROTECT, under SC 16,383. -/
def sealDesc : List Word := [0, BitVec.ofNat 64 (60 + 2 ^ 16 * 31 + 2 ^ 21 + 2 ^ 22 * 7 + 2 ^ 25 + 2 ^ 27 * 16383), 0, 0]

/-- The rings with that SC ON. -/
def sealing : State := ringing.putSc 16383 (some { plainSc with rx := false, state := 1, egPort := 31, clsRefs := 0 })

theorem hyps_Rings_tx :
    (2 ^ State.reset.get HIF_RING_CFG.SIZE 511 < (131071 + 131072 - (State.reset.ring 511).head) % 131072
      ∧ ¬ 2 ^ State.reset.get HIF_RING_CFG.SIZE 511 < (1 + 131072 - (State.reset.ring 511).head) % 131072)
    ∧ (Settled ringing ∧ ringing.get HIF_RING_CFG.STATE 255 ≠ 0 ∧ (ringing.ring 255).stalled = false ∧ descChain [oneDesc] = true ∧ descLengthsOk [oneDesc] = true
      ∧ [oneDesc].length ≤ (ringing.ring 255).posted ∧ sumOf [oneDesc] descLen = 60 ∧ (ringing.ring 255).txq = [])
    ∧ (let s1 := (ringing.txFetch 255 [oneDesc]).2; let it := s1.txItem 255 (ringing.ring 255).nextId [oneDesc] (List.replicate 60 7)
       s1.txStatus [oneDesc] false it = 0 ∧ it.scFields = none ∧ s1.txStatus [oneDesc] true it = 2 ∧ descLengthsOk [[0, 59, 0, 0]] = false)
    ∧ (let s1 := (sealing.txFetch 255 [sealDesc]).2; let it := s1.txItem 255 (sealing.ring 255).nextId [sealDesc] (List.replicate 60 7)
       s1.txStatus [sealDesc] false it = 0 ∧ it.scFields ≠ none ∧ it.ts.op < 2) := by
  decide +kernel

theorem hyps_Rings_rx :
    (ringing.rxHead 511 = some (4095, { waiting with data := List.replicate 300 7 }) ∧ ringing.get HIF_RING_CFG.STATE 511 ≠ 0 ∧ (ringing.ring 511).stalled = false
      ∧ ringing.rxBuffers 511 { waiting with data := List.replicate 300 7 } = 2 ∧ 2 ≤ (ringing.ring 511).posted ∧ 0 < ringing.ringBuf 511)
    ∧ (State.reset.hif.atc.length < 4096 ∧ State.reset.xferOk (.rx 255 0) = false ∧ ringing.xferOk (.rx 255 1) = true ∧ ringing.xferOk (.tx 255 [oneDesc]) = true
      ∧ ringing.get (priOff 1) = 0 ∧ (ringing.set HIF_DMA_STATUS.PRI_OFF1 0 1).get (priOff 1) = 1)
    ∧ (let s := ringing.onRing 511 fun x => { x with paging := true, wait := some ([], 0), unreported := 3 }
       (s.ring 511).paging = true ∧ (s.ring 511).wait ≠ none ∧ (s.ring 511).unreported ≠ 0 ∧ (s.set HIF_RING_CFG.COAL_US 511 1).get HIF_RING_CFG.COAL_US 511 ≠ 0
       ∧ (s.set HIF_RING_CFG.COAL_US 511 0).get HIF_RING_CFG.COAL_US 511 = 0)
    ∧ ((State.reset.set EVT_SRC.MASK 511 1).get EVT_SRC.MASK 511 = 1 ∧ (State.reset.set EVT_SRC.STATUS 511 1).get EVT_SRC.STATUS 511 = 1
      ∧ 511 ∉ State.reset.evt.vecMasked) := by
  decide +kernel

/-- Ring 511 ON, the event ring ON, a translation cached, the host owning with a request pending, and a mailbox request under way. -/
def hosted : State :=
  let s := (((State.reset.set HIF_RING_CFG.STATE 511 1).set HIF_RING_CFG.EN 511 1).set EVT_RING_CFG.STATE 0 1).set GLB_OWNER.OWNER 0 1 |>.set GLB_OWNER.REQ 0 1
  { s.set HIF_MBOX_CTRL.BUSY 0 1 with hif := { s.hif with atc := [(5, 0), (6, 1)] }, evt := { s.evt with vecMasked := [511] } }

theorem hyps_PcieResetsOwnershipAndMailbox :
    (Settled hosted ∧ hosted.get GLB_OWNER.OWNER = 1 ∧ hosted.get GLB_OWNER.REQ = 1 ∧ State.reset.get GLB_OWNER.OWNER = 0 ∧ hosted.get HIF_RING_CFG.STATE 511 ≠ 0
      ∧ (hosted.set GLB_OWNER.REQ 0 0).get GLB_OWNER.REQ = 0 ∧ State.reset.get HIF_MBOX_CTRL.BUSY = 0 ∧ hosted.get HIF_MBOX_CTRL.BUSY = 1)
    ∧ (hosted.vendorResult true .take = 0 ∧ hosted.vendorResult true (.selectSlot 2) = 0 ∧ hosted.vendorResult true (.bad 9) ≠ 0) := by
  decide +kernel

/-- A device with a state root, its MCTP conversation at a stage. -/
def knownTo (stage : Nat) : State :=
  { State.reset with lcm := { State.reset.lcm with stateRoot := some (List.replicate 32 1) }, sb := { State.reset.sb with spdm := { stage := stage } } }

/-- A CHALLENGE of 36 octets, and a signed GET_MEASUREMENTS of 37. -/
def challengeReq : List Byte := [0x12, 0x83, 0xFF, 1] ++ List.replicate 32 7
def measuresReq : List Byte := [0x12, 0xE0, 1, 255] ++ List.replicate 32 7 ++ [0x0F]

theorem knownTo_key (n : Nat) : (knownTo n).idKey ≠ none := by
  have h : (knownTo n).lcm.stateRoot = some (List.replicate 32 1) := rfl
  rw [State.idKey, h, Option.map_some]
  exact Option.some_ne_none _

theorem hyps_SpdmRequests :
    ((knownTo 3).idKey ≠ none ∧ State.reset.idKey = none ∧ State.reset.pwr.power = 2 ∧ { State.reset with pwr := { State.reset.pwr with power := 1 } }.pwr.power < 2) ∧
    (((knownTo 1).conn true).stage = 1 ∧ ((knownTo 2).conn true).stage = 2 ∧ 3 ≤ ((knownTo 3).conn true).stage ∧ challengeReq.headD 0 = 0x12 ∧ challengeReq.length = 36
      ∧ challengeReq.getD 2 0 = 0xFF ∧ challengeReq.getD 3 0 = 1 ∧ (knownTo 3).drbgRefuses = false
      ∧ ((knownTo 3).set KST_CTRL.DRBG_FAIL 0 1).drbgRefuses = true ∧ measuresReq.headD 0 = 0x12 ∧ measuresReq.length = 37 ∧ (measuresReq.getD 3 0).toNat = 255
      ∧ (measuresReq.getD 2 0).getLsbD 0 = true ∧ measuresReq.getD 36 0 = 0x0F ∧ (challengeReq.set 2 0).getD 2 0 ≠ 0xFF
      ∧ { State.reset with nvj := { State.reset.nvj with loaded := some 1 } }.nvj.loaded = some 1) := by
  exact ⟨⟨knownTo_key 3, rfl, rfl, by decide +kernel⟩, by decide +kernel⟩

theorem hyps_FunctionDeviceAndPowerResets :
    (Settled State.reset ∧ State.reset.get GLB_FRESET_STATUS.BUSY = 0 ∧ (State.reset.set GLB_FRESET_STATUS.BUSY 0 1).get GLB_FRESET_STATUS.BUSY ≠ 0
      ∧ State.reset.disableDiscarded (.port 56) = false ∧ State.reset.fnState (.port 56) = 0 ∧ (State.reset.set LPX_PORT_CTRL.STATE 24 3).fnState (.port 56) = 3
      ∧ (State.reset.set LPX_PORT_CTRL.STATE 24 3).disableDiscarded (.port 56) = false
      ∧ State.reset.disableDiscarded (.queue 4095) = false ∧ State.reset.fnState (.queue 4095) = 0 ∧ (State.reset.set QMG_QCFG.STATE 4095 3).fnState (.queue 4095) = 3
      ∧ (State.reset.set QMG_QCFG.STATE 4095 3).disableDiscarded (.queue 4095) = false)
    ∧ (State.reset.disableDiscarded (.ring 511) = false ∧ State.reset.fnState (.ring 511) = 0 ∧ (State.reset.set HIF_RING_CFG.STATE 511 3).fnState (.ring 511) = 3
      ∧ (State.reset.set HIF_RING_CFG.STATE 511 1).get HIF_RING_CFG.STATE 511 = 1
      ∧ State.reset.disableDiscarded (.pod 3 5) = false ∧ State.reset.fnState (.pod 3 5) = 0 ∧ (State.reset.set FEN_POD_CTRL.STATE 23 3).fnState (.pod 3 5) = 3)
    ∧ ((State.reset.sa? 65535).all (fun a => a.state == 0 && !a.en) = true
      ∧ (let s := State.reset.putSa 65535 (some { activeSa with en := true, state := 1, life := 4 })
         ∃ a, s.sa? 65535 = some a ∧ a.en = true ∧ a.live = false)
      ∧ State.reset.tblPort 3 .host = .idle ∧ State.reset.tblPort 3 .mcu = .idle)
    ∧ ((let s := State.reset.set GLB_FRESET_STATUS.BUSY 0 1; s.get GLB_FRESET_STATUS.BUSY = 1 ∧ s.get GLB_FRESET_STATUS.TIMEOUT = 0)
      ∧ State.reset.tmp.resp = 0 ∧ State.reset.pwr.resetHeld = false ∧ State.reset.nvj.prog = none ∧ State.reset.pwr.cycling = false
      ∧ (State.reset.cyclePower).pwr.cycling = true) := by
  refine ⟨by decide +kernel, by decide +kernel, ⟨by decide +kernel, ⟨_, rfl, by decide +kernel⟩, by decide +kernel, by decide +kernel⟩, by decide +kernel⟩

/-- The side-band owns, in STANDBY; and in SERVICE under a hold of a cause. -/
def sbOwned : State := State.reset.set GLB_OWNER.OWNER 0 2
def sbHeld (cause : Nat) : State :=
  let s := (sbOwned.set TMP_STATUS.HOLD 0 1).set TMP_STATUS.HOLD_CAUSE 0 cause
  { s with pwr := { s.pwr with power := 3 } }

theorem hyps_SideBandVendorCommands :
    (2 ≤ State.reset.pwr.power ∧ State.reset.pwr.power = 2 ∧ Settled State.reset ∧ State.reset.get GLB_OWNER.OWNER = 0 ∧ sbOwned.get GLB_OWNER.OWNER = 2
      ∧ sbOwned.get TMP_STATUS.HOLD ≠ 1 ∧ sbOwned.tmp.resp = 0 ∧ sbOwned.pwr.resetHeld = false ∧ (sbOwned.resetHold).pwr.resetHeld = true
      ∧ ¬ 2 ≤ State.reset.aoLost.pwr.power)
    ∧ ((sbHeld 1).get TMP_STATUS.HOLD = 1 ∧ (sbHeld 1).get TMP_STATUS.HOLD_CAUSE ≠ 2 ∧ (sbHeld 2).get TMP_STATUS.HOLD_CAUSE = 2 ∧ (sbHeld 2).pwr.power = 3 ∧ Settled (sbHeld 2)
      ∧ 2 ≤ (sbHeld 2).pwr.power ∧ (sbHeld 2).get GLB_OWNER.OWNER = 2)
    ∧ (let s := State.reset.set GLB_OWNER.OWNER 0 1; s.get GLB_OWNER.OWNER = 1 ∧ s.get GLB_OWNER.REQ = 0 ∧ (s.set GLB_OWNER.REQ 0 1).get GLB_OWNER.REQ = 1)
    ∧ ((64 : BitVec 8).toNat ≤ 64 ∧ (31 : BitVec 8).toNat < 32 ∧ (99 : BitVec 8).toNat < 100 ∧ (2 : BitVec 8).toNat ≤ 2 ∧ ((100 : BitVec 8).toNat < 100) = False) := by
  decide +kernel

/-- Of eleven different words one is none of nine given words and not 0. -/
theorem word_apart {w : Nat} (f : Nat → BitVec w) (h : ((Finset.range 11).image (BitVec.ofNat w)).card = 11) : ∃ x : BitVec w, x ≠ 0 ∧ ∀ i < 9, f i ≠ x := by
  have hc : (insert 0 ((Finset.range 9).image f)).card < ((Finset.range 11).image (BitVec.ofNat w)).card := by
    have := Finset.card_insert_le (0 : BitVec w) ((Finset.range 9).image f)
    have := Finset.card_image_le (s := Finset.range 9) (f := f)
    simp at *; omega
  obtain ⟨x, -, hx⟩ := Finset.exists_mem_notMem_of_card_lt_card hc
  simp only [Finset.mem_insert, Finset.mem_image, Finset.mem_range, not_or, not_exists, not_and] at hx
  exact ⟨x, hx.1, hx.2⟩

/-- I3C mode, in SERVICE. -/
def i3cUp : State := let s := State.reset.i3cAssign 9; { s with pwr := { s.pwr with power := 3 } }

theorem hyps_SideBandProtocols :
    (2 ≤ State.reset.pwr.power ∧ State.reset.get SBM_STATUS.MODE = 0 ∧ State.reset.get SBM_STATUS.STATIC_ADDR = (0 : BitVec 7).toNat
      ∧ State.reset.get SBM_STATUS.STATIC_ADDR ≠ (89 : BitVec 7).toNat ∧ 2 ≤ i3cUp.pwr.power ∧ i3cUp.get SBM_STATUS.MODE = 1 ∧ i3cUp.pwr.power = 3
      ∧ State.reset.pwr.power = 2 ∧ ¬ 2 ≤ State.reset.aoLost.pwr.power ∧ (254 : BitVec 8).toNat ≤ 254 ∧ (7 : BitVec 8).toNat < 8)
    ∧ (∃ handle sensor, Config.sensorRecord 0 = handle ∧ Config.sensorId 0 = sensor)
    ∧ (∃ handle, ∀ i < 9, ¬ (Config.sensorRecord i = handle ∨ (i = 0 ∧ handle = 0))) ∧ (∃ sensor, ∀ i < 9, ¬ Config.sensorId i = sensor) := by
  refine ⟨by decide +kernel, ⟨_, _, rfl, rfl⟩, ?_, ?_⟩
  · obtain ⟨x, h0, h⟩ := word_apart Config.sensorRecord (by decide)
    exact ⟨x, fun i hi hh => hh.elim (h i hi) fun e => h0 e.2⟩
  · obtain ⟨x, -, h⟩ := word_apart Config.sensorId (by decide)
    exact ⟨x, h⟩

/-- The device at a step of start-up, with a life-cycle state's bits programmed. -/
def starts (step bits : Nat) : State :=
  let s := State.reset.set PWR_START_STATUS.STEP 0 step
  { s with pwr := { s.pwr with power := 3 }, lcm := { s.lcm with lcBits := bits } }

theorem hyps_PowerStatesAndStartUp :
    (Settled State.reset ∧ State.reset.nvj.prog = none ∧ State.reset.pwr.power = 2 ∧ State.reset.pwr.vbat = false ∧ State.reset.auxLost.pwr.power = 2
      ∧ { State.reset.pwr with power := 1 }.power = 1 ∧ (State.reset.set PWR_STATE.MAIN_EN 0 1).get PWR_STATE.MAIN_EN = 1 ∧ State.reset.get PWR_STATE.MAIN_EN ≠ 1
      ∧ railOut (4 : Fin 5) (1800 : BitVec 12).toNat = (false, false) ∧ (railOut (4 : Fin 5) (0 : BitVec 12).toNat).1 = true ∧ (starts 1 0).pwr.power = 3 ∧ (starts 1 0).tmp.resp = 0
      ∧ (starts 1 0).get TMP_STATUS.HOLD = 0 ∧ (starts 1 0).get PWR_STATE.TRANSIT = 0 ∧ 2 ≤ ((starts 1 0).setWord .TMP_RESP 0 0 0xFFFFFFFF).respOf (3 + (4 : Fin 5))
      ∧ (∀ i < 64, (starts 1 0).bstate i ≠ 5) ∧ (starts 1 0).portExists 56 = true ∧ (starts 1 0).resetHold.pwr.resetHeld = true ∧ (starts 1 0).resetHold.pwr.power = 3)
    ∧ (∀ i < 11, 1 ≤ i → (starts i 1).starting = true ∧ (starts i 1).startStep = i ∧ Settled (starts i 1) ∧ (starts i 1).nvj.prog = none)
    ∧ (((starts 3 1).set TMP_STATUS.TAMPER_STARTS 0 8).get TMP_STATUS.TAMPER_STARTS = 8 ∧ (starts 3 1).get TMP_STATUS.TAMPER_STARTS < 8
      ∧ ((32768#16).getLsbD 15 = true ∧ 2 ≤ ((starts 3 1).setWord .TMP_RESP 0 0 0xFFFFFFFF).respOf 15) ∧ (∀ i < 16, (0#16).getLsbD i = true → (starts 3 1).respOf i < 2))
    ∧ (lcOf (starts 4 15).lcm.lcBits = 4 ∧ lcOf (starts 4 3).lcm.lcBits ∈ [1, 2, 3] ∧ (starts 4 3).deviceRoot = none ∧ (starts 4 3).lcm.lcBits.testBit 0 = true
      ∧ ({ starts 4 3 with lcm := { (starts 4 3).lcm with rootA := { bytes := List.replicate 32 5, valid := true, eccOk := true } } }.deviceRoot = some (List.replicate 32 5, false))
      ∧ lcOf (starts 4 0).lcm.lcBits = 0 ∧ (starts 4 0).drbgRefuses = false)
    ∧ ((starts 6 3).tmp.bsk = none ∧ (starts 6 3).get NVJ_JCTRL.BSK_MODE = 0 ∧ ((starts 6 3).set NVJ_JCTRL.BSK_MODE 0 1).get NVJ_JCTRL.BSK_MODE = 1 ∧ (starts 6 3).drbgRefuses = false
      ∧ (let s := (starts 6 3).set KST_CTRL.DRBG_FAIL 0 1; s.get KST_CTRL.DRBG_FAIL = 1)
      ∧ (let s := { starts 6 3 with kst := { (starts 6 3).kst with drbgStopped := true } }; s.get KST_CTRL.DRBG_FAIL = 0 ∧ s.drbgRefuses = true)) := by
  refine ⟨?_, ?_, ?_, ?_, ?_⟩ <;> decide +kernel

/-- An image of 964 octets: the sections LAYOUT and UCODE, the others empty, signed under the private key 5 with the nonce 7. -/
def bootImage : List Byte :=
  let ff := fun n => List.replicate n (0xFF : Byte)
  let head := beBytes 24 0x55544B52000100050000000000000009000003C400000000 ++ List.replicate 40 0
    ++ beBytes 80 0x100000000010000000060ca5d32f500020000000001000000000000000000000300000000010000000000000000000005000000000200000001048774def900070000000001000000000000000000
    ++ List.replicate 112 0
  let layout := (List.replicate 4 ([1, 1, 1, 1, 1, 1, 2, 3, 4, 4, 5, 6] : List Byte)).flatten ++ [7, 7, 8, 8] ++ List.replicate 12 0
    ++ (List.replicate 8 ([1, 29, 1, 1] : List Byte)).flatten
  let ucode := ff 12 ++ [0, 0, 0, 4] ++ ff 64
    ++ beBytes 48 0x394341b7182cd227c5c6b07ef8000cdfd86136c4292b8e576573ad7ed9ae41019f5818b4b971c9effc60e1ad9f1289f0 ++ ff 128 ++ [0, 0, 0, 0]
  head ++ layout ++ ff 160 ++ ucode ++ testPub ++ beBytes 96
    0x283c1d7365ce4788f29f8ebf234edffead6fe997fbea5ffa2d58cc9dfa7b1c508b05526f55b9ebb2040f05b48fb6d0e1eafbdbe02ec7343a8c7b515e1f503981771d5273868dc604665ef995b4de77e4c045998a9fb6b813cda6bb46e5c5ab42

/-- The cells of octets programmed from an address on. -/
def cellsFrom (a : Nat) : List Byte → KMap Byte
  | [] => []
  | b :: l => if b = 0xFF then cellsFrom (a + 1) l else (a, b) :: cellsFrom (a + 1) l

theorem cellsFrom_low (l : List Byte) (a k : Nat) (h : k < a) : (cellsFrom a l).get k 0xFF = 0xFF := by
  induction l generalizing a with
  | nil => rfl
  | cons b l ih =>
    rw [cellsFrom]; split
    · exact ih _ (by omega)
    · rw [KMap.get, if_neg (by omega)]; exact ih _ (by omega)

theorem cellsFrom_get (l : List Byte) (a i : Nat) : (cellsFrom a l).get (a + i) 0xFF = l.getD i 0xFF := by
  induction l generalizing a i with
  | nil => rfl
  | cons b l ih =>
    have hi : ∀ j, i = j + 1 → (cellsFrom (a + 1) l).get (a + i) 0xFF = l.getD j 0xFF := by
      rintro j rfl; rw [← ih (a + 1) j]; congr 1; omega
    rw [cellsFrom]
    rcases i with _ | j
    · split
      · rename_i hb; rw [cellsFrom_low _ _ _ (by omega), hb]; rfl
      · rw [KMap.get, if_pos (by omega)]; rfl
    · split
      · rw [hi j rfl]; rfl
      · rw [KMap.get, if_neg (by omega), hi j rfl]; rfl

/-- What is read back lies in the octets programmed. -/
theorem rd_cells (s : State) (l : List Byte) (h : s.nvj.flash = cellsFrom 0 l) (a n : Nat) (hn : a + n ≤ l.length) :
    s.rd a n = (l.drop a).take n := by
  apply List.ext_getElem
  · simp [State.rd]; omega
  · intro i h1 h2
    have := cellsFrom_get l 0 (a + i)
    rw [Nat.zero_add] at this
    simp only [State.rd, List.getElem_map, List.getElem_range, h, this, List.getElem_take, List.getElem_drop, List.getD_eq_getElem?_getD]
    rw [List.getElem?_eq_getElem (by simp [State.rd] at h1; omega)]; rfl

/-- A device that trusts its signer and holds it in slot A, with any registers; and the same at step 5. -/
def bootOn (regs : KMap Word) : State :=
  { starts 5 3 with regs := regs, lcm := trusting.lcm, nvj := { State.reset.nvj with flash := cellsFrom 0 bootImage } }
def booting : State := bootOn (starts 5 3).regs

theorem bootImage_length : bootImage.length = 964 := by decide +kernel

theorem booting_rd (regs : KMap Word) (a n : Nat) (h : a + n ≤ 964) : (bootOn regs).rd a n = (bootImage.drop a).take n :=
  rd_cells (bootOn regs) bootImage rfl a n (bootImage_length ▸ h)

/-- The sections of the image. -/
def bootSects : List ImgSect :=
  [⟨1, 256, 96, 0xca5d32f5, true⟩, ⟨2, 256, 0, 0, true⟩, ⟨3, 256, 0, 0, true⟩, ⟨5, 512, 260, 0x8774def9, true⟩, ⟨7, 256, 0, 0, true⟩]

theorem bootImage_header : headerResult (bootImage.take 256) = 0 ∧ imgSects (bootImage.take 256) = bootSects ∧ fieldAt (bootImage.take 256) 16 4 = 964
    ∧ fieldAt (bootImage.take 256) 6 1 = 0 := by decide +kernel

set_option maxRecDepth 20000 in
theorem bootImage_crcs : ∀ x ∈ bootSects, flashCrc ((bootImage.drop x.off).take x.len) = x.crc := by decide +kernel

theorem bootImage_content : layoutOk ((bootImage.drop 256).take 96) = true ∧ codeOk 2 ((bootImage.drop 512).take 260) = true := by
  refine ⟨by decide +kernel, ?_⟩
  have h1 : fieldAt ((bootImage.drop 512).take 260) 12 4 = 4 ∧ (((bootImage.drop 512).take 260).drop 256).take 4 = [0, 0, 0, 0]
      ∧ mpTooLarge 2 ((bootImage.drop 512).take 260) = false ∧ 256 + 4 ≤ ((bootImage.drop 512).take 260).length := by decide +kernel
  have h2 : (((bootImage.drop 512).take 260).drop 80).take 48 = sha384 [0, 0, 0, 0] := by decide +kernel
  simp only [codeOk, h1.1, h1.2.1, h1.2.2.1, h1.2.2.2, h2, beq_self_eq_true]
  rfl

set_option maxRecDepth 20000 in
theorem bootImage_digest : sha384 (bootImage.take 772) = beBytes 48
    0xa3b66fe04a6b07ed1a416fd72aa73290de9db130c24c8a3d04ec50784899d451d24a522245ea28a9eaa7835379fbcb2a := by
  decide +kernel

theorem bootImage_signed : ecdsaVerify ((bootImage.drop 772).take 96) (sha384 (bootImage.take 772)) (bootImage.drop 868) = true := by
  rw [bootImage_digest]; decide +kernel

theorem bootImage_signer : trusting.lcm.oroasHashes.contains (sha384 ((bootImage.drop 772).take 96)) = true := by decide +kernel

theorem booting_header (regs : KMap Word) : (bootOn regs).rd (slotBase 0) 256 = bootImage.take 256 := booting_rd regs 0 256 (by decide)

theorem booting_section (regs : KMap Word) (typ a n : Nat) (h : (bootSects.find? fun x => x.typ == typ).map (fun x => (x.off, x.len)) = some (a, n)) (hn : a + n ≤ 964) :
    (bootOn regs).section? 0 typ = some ((bootImage.drop a).take n) := by
  obtain ⟨x, hx, he⟩ := Option.map_eq_some_iff.mp h
  simp only [Prod.mk.injEq] at he
  obtain ⟨rfl, rfl⟩ := he
  rw [State.section?, booting_header, bootImage_header.2.1, hx, Option.map_some, State.sectBytes, show slotBase 0 + x.off = x.off from Nat.zero_add _,
    booting_rd regs _ _ hn]

theorem booting_mprogs (regs : KMap Word) : (bootOn regs).imgMprogs 0 = some [] := by
  have : (bootOn regs).section? 0 6 = none := by rw [State.section?, booting_header, bootImage_header.2.1]; rfl
  rw [State.imgMprogs, this]

theorem booting_sections (regs : KMap Word) : (bootOn regs).sectionsOk 0 = true := by
  have hb : ∀ x ∈ bootSects, (bootOn regs).sectBytes 0 x = (bootImage.drop x.off).take x.len := fun x hx => by
    have : x.off + x.len ≤ 964 := by revert x; decide
    rw [State.sectBytes, show slotBase 0 + x.off = x.off from Nat.zero_add _, booting_rd regs _ _ this]
  have hc : (bootSects.all fun x => flashCrc ((bootOn regs).sectBytes 0 x) == x.crc) = true :=
    List.all_eq_true.mpr fun x hx => by rw [hb x hx, bootImage_crcs x hx, beq_self_eq_true]
  simp only [State.sectionsOk, booting_header, bootImage_header.2.1, bootImage_header.2.2.1, booting_mprogs, hc]
  decide

/-- R528, Table 16-6: an image whose header, sections, signer, signature and content are as the chapter lays them out verifies. -/
theorem test_bootImage_accepted (regs : KMap Word) : (bootOn regs).imgResult 0 true = 0 := by
  have hp : (bootOn regs).rd (slotBase 0 + 964 - 192) 96 = (bootImage.drop 772).take 96 := booting_rd regs 772 96 (by decide)
  have hi : (bootOn regs).rd (slotBase 0) 964 = bootImage := by
    rw [show slotBase 0 = 0 from rfl, booting_rd regs 0 964 (by decide), List.drop_zero, ← bootImage_length, List.take_length]
  have hs : (bootOn regs).imgSigned 0 = true := by
    rw [State.imgSigned, booting_header, bootImage_header.2.2.1, hi]; exact bootImage_signed
  have hk : (bootOn regs).signerKnown 0 = true := by
    rw [State.signerKnown]; simp only [booting_header, bootImage_header.2.2.1, bootImage_header.2.2.2, hp]; exact bootImage_signer
  have hc : (bootOn regs).contentOk 0 = true := by
    rw [State.contentOk, booting_section regs 1 256 96 (by decide) (by decide), booting_section regs 5 512 260 (by decide) (by decide), booting_mprogs]
    simp only [Option.any_some, bootImage_content.1, bootImage_content.2]; rfl
  rw [State.imgResult]
  simp only [booting_header, bootImage_header.1, bootImage_header.2.2.2, booting_sections, hs, hk, hc]
  rfl

/-- With both slots blank none is chosen; with the image in slot A, slot A is. -/
theorem hyps_PowerStatesAndStartUp_image : ((starts 5 3).chooseSlot true true).1 = none ∧ (booting.chooseSlot true true).1 = some 0
    ∧ booting.starting = true ∧ booting.startStep = 5 ∧ booting.nvj.prog = none ∧ Settled booting := by
  have hB : booting.slotEligible 1 = false := by
    have hr : booting.rd (slotBase 1) 256 = List.replicate 256 0xFF := by
      apply List.ext_getElem
      · rw [State.rd, List.length_map, List.length_range, List.length_replicate]
      · intro i h1 h2
        have := cellsFrom_get bootImage 0 (slotBase 1 + i)
        rw [Nat.zero_add] at this
        simp only [State.rd, List.getElem_map, List.getElem_range, List.getElem_replicate]
        rw [show booting.nvj.flash = cellsFrom 0 bootImage from rfl, this, List.getD_eq_default]
        rw [bootImage_length]; simp [slotBase]; omega
    rw [State.slotEligible, hr]
    decide +kernel
  have hA : booting.slotEligible 0 = true := by
    rw [State.slotEligible, show booting.rd (slotBase 0) 256 = bootImage.take 256 from booting_header _, bootImage_header.1]
    decide +kernel
  have hf : booting.firstSlot = some 0 := by
    rw [State.firstSlot, hA, hB]
    decide +kernel
  have ht : ((booting.set NVJ_BOOT.PIN 0 0).trySlot 0 true).1 = true := by
    rw [State.trySlot, show (booting.set NVJ_BOOT.PIN 0 0).imgResult 0 true = 0 from test_bootImage_accepted _]
    decide +kernel
  refine ⟨by decide +kernel, ?_, by decide +kernel, by decide +kernel, by decide +kernel, by decide +kernel⟩
  rw [State.chooseSlot, hf]
  simp only [beq_self_eq_true, if_true, ht]

/-- A domain that wakes, counter 79 beside a chained counter 78, and domain 372 ON. -/
def waking (d : Nat) : State := { State.reset.set PWR_DOM.STATE d 1 with pwr := { State.reset.pwr with waking := [d] } }
def counting : State :=
  let s := ((((State.reset.set PWR_DOM.STATE 372 1).set PMC_CHIP_SEL.EN 14 1).set PMC_CHIP_SEL.EN 15 1).set PMC_CHIP_SEL.CHAIN 15 1)
  (s.set PMC_CHIP_CNT.COUNT 14 (2 ^ 48 - 1)).set PMC_CHIP_CNT.COUNT 13 (2 ^ 48 - 1) |>.set PMC_CHIP_SEL.EN 13 1

theorem hyps_DomainsCountersAndPins :
    (Settled State.reset ∧ State.reset.get PWR_DOM.KIND 216 = 3 ∧ State.reset.get PWR_DOM.KIND 373 ≠ 3 ∧ State.reset.domMayOff 373 = false ∧ State.reset.domMayOff 0 = true
      ∧ State.reset.get PWR_DOM.KIND 0 ≠ 3 ∧ (∀ p : Fin 64, (waking 373).fnState (.port p) ≠ 1) ∧ 2 ≤ (State.reset.set PWR_DOM.STATE 373 2).get PWR_DOM.STATE 373)
    ∧ (∀ d : Fin 374, d = 0 ∨ d = 373 → let s := waking d; d.val ∈ s.pwr.waking ∧ s.fnState .pair ≠ 1 ∧ s.get PWR_DOM.KIND d ≠ 6 ∧ s.get PWR_DOM.KIND d ≠ 7
        ∧ s.get PWR_DOM.KIND d ≠ 3 ∧ d.val ∉ [369])
    ∧ (pmcRefused true (State.reset.word .PMC_CHIP_SEL 15 0) 0x1600 = true ∧ pmcInstances true 0x16 = none ∧ pmcRefused true (State.reset.word .PMC_CHIP_SEL 15 0) 0x31001 = false
      ∧ (0x31001 : Word).flag 0 = true ∧ State.reset.get PWR_DOM.KIND (pmcDomain 79) ≠ 3)
    ∧ (State.reset.get PMC_STATUS.SNAP_BUSY = 0 ∧ counting.get PMC_STATUS.SNAP_BUSY = 0 ∧ counting.get PWR_DOM.STATE 372 = 1 ∧ 372 ∉ counting.pwr.waking)
    ∧ (counting.pmcRuns 78 = true ∧ counting.pmcChained 78 = false ∧ 2 ^ 48 ≤ counting.pmcCount 78 + 1 ∧ counting.pmcChained 79 = true
      ∧ counting.pmcSel PMC_SEL.EN PMC_CHIP_SEL.EN 79 = 1 ∧ counting.pmcCount 79 + 1 < 2 ^ 48)
    ∧ (counting.pmcRuns 77 = true ∧ counting.pmcChained 77 = false ∧ 2 ^ 48 ≤ counting.pmcCount 77 + 1)
    ∧ (State.reset.resetHold.pwr.resetHeld = true ∧ State.reset.pwr.resetHeld = false ∧ unstField (4 : Fin 7) = some GLB_PIN_STATUS.UNST_PPS) := by
  refine ⟨?_, ?_, ?_, ?_, ?_, ?_, ?_⟩ <;> decide +kernel

theorem hyps_DoorbellAndRate :
    (Settled State.reset ∧ ¬ (State.reset.get TMB_STATUS.OWNED = 1 ∧ Master.host = .host)
      ∧ (let s := State.reset.set TMB_STATUS.RUNNING 0 1; s.get TMB_STATUS.RUNNING = 1 ∧ s.clk.tbSec < 2 ^ 48 - 1 ∧ s.clk.tbNs < 1000000000 ∧ s.clk.tbFrac < 2 ^ 48)) := by
  decide +kernel

/-! ### The well-formedness check refuses an ill-formed command of each kind, and takes a well-formed one -/

theorem test_wf_refuses_frames : (Instr.clientFrameRx 0 [] .good false).wf = false ∧ (Instr.lineFrameRx 0 [] .good false).wf = false
    ∧ (Instr.kraowFrameRx 0 [0, 0, 0, 0, 0, 0, 0]).wf = false ∧ (Instr.kraowFrameRx 0 [0, 0, 0, 0, 0, 0, 0, 0]).wf = true := by decide +kernel

theorem test_wf_refuses_memory_accesses : (Instr.imeLineWrite 0 (List.replicate 129 0)).wf = false ∧ (Instr.imePartialWrite 0 [] .ok .ok []).wf = false
    ∧ (Instr.srbRegionTest 0 [(12, 0)]).wf = false ∧ (Instr.srbRegionTest 0 [(11, 64)]).wf = false ∧ (Instr.srbRegionTest 0 [(11, 63)]).wf = true := by
  decide +kernel

theorem test_wf_refuses_keys_and_flash : (Instr.lcmToReturn .host 0 (some [0]) true true).wf = false ∧ (Instr.lcmFuseCkh .host (some [0]) true).wf = false
    ∧ (Instr.nvjImgWrite 0 0 0 [0] []).wf = false ∧ (Instr.nvjImgWrite 0 4 1 [] [3]).wf = false ∧ (Instr.nvjImgWrite 0 4 1 [] [4]).wf = true
    ∧ (Instr.compactionSwitch [256]).wf = false := by decide +kernel

theorem test_wf_refuses_samples_and_steps : (Instr.tempSample 128 0 true).wf = false ∧ (Instr.aoSamplingWindow true true 0 (-129) false).wf = false
    ∧ (Instr.startupStepDone (.memory [(0, 65536)] [] [])).wf = false ∧ (Instr.startupStepDone (.memory [(51, 65535)] [] [])).wf = true := by decide +kernel

theorem test_wf_refuses_long_requests : ∀ c ∈ [Instr.spdmGetVersion true (List.replicate 4097 0), .spdmGetCapabilities true (List.replicate 4097 0),
    .spdmNegotiateAlgorithms true (List.replicate 4097 0), .spdmGetDigests true (List.replicate 4097 0), .spdmGetCertificate true (List.replicate 4097 0),
    .spdmChallenge true (List.replicate 4097 0), .spdmGetMeasurements true (List.replicate 4097 0)], c.wf = false := by
  intro c hc
  simp only [List.mem_cons, List.not_mem_nil, or_false] at hc
  rcases hc with rfl | rfl | rfl | rfl | rfl | rfl | rfl <;> decide +kernel

/-! ### Published answers of the cryptographic functions that the spec names -/

/-- FIPS 197, appendix C.1 and C.3. -/
theorem test_aes_published : aesEncrypt (beBytes 16 0x000102030405060708090a0b0c0d0e0f) 0x00112233445566778899aabbccddeeff = 0x69c4e0d86a7b0430d8cdb78070b4c55a
    ∧ aesDecrypt (beBytes 16 0x000102030405060708090a0b0c0d0e0f) 0x69c4e0d86a7b0430d8cdb78070b4c55a = 0x00112233445566778899aabbccddeeff
    ∧ aesEncrypt (beBytes 32 0x000102030405060708090a0b0c0d0e0f101112131415161718191a1b1c1d1e1f) 0x00112233445566778899aabbccddeeff
      = 0x8ea2b7ca516745bfeafc49904b496089 := by decide +kernel

/-- The GCM specification's test case 2 (an all-zero key, nonce and block), and FIPS 180-4's SHA-384 of "abc". -/
theorem test_gcm_and_sha_published :
    gcmEncrypt (List.replicate 16 0) 0 [] (List.replicate 16 0) = (beBytes 16 0x0388dace60b6a392f328c2b971b2fe78, 0xab6e47d42cec13bdf53a67b21257bddf)
    ∧ sha384 (ascii "abc") = beBytes 48
      0xcb00753f45a35e8bb5a03d699ac65007272c32ab0eded1631a8b605a43ff5bed8086072ba1e7cc2358baeca134c825a7 := by decide +kernel

/-- IEEE 1619, vector 1: XTS over two blocks of zeros, and back. -/
theorem test_xts_published :
    let e := aesEncrypt (List.replicate 16 0)
    let c := beBytes 32 0x917cf69ebd68b2ec9b9fe9a3eadda692cd43d2f59598ed858c02c2652fbf922e
    xtsBlocks e 2 (e 0) (List.replicate 32 0) = c ∧ xtsBlocks (aesDecrypt (List.replicate 16 0)) 2 (e 0) c = List.replicate 32 0 := by
  decide +kernel

/-- The published check values of CRC-32C (R52) and CRC-32. -/
theorem test_crc_published : crc32c 0xFFFFFFFF (ascii "123456789") = 0xE3069283 ∧ crc32 (ascii "123456789") = 0xCBF43926 := by decide +kernel

/-! ### Worked examples of the spec -/

/-- Chapter 1: 46 engines with all six cores give 4,037 Gb/s and FRATE 460, below the load of 64-byte frames. -/
theorem test_region_capacity_example :
    let s := (State.reset.forN 46 fun e s => ((s.set FEN_ENG.STATE (48 + e) 1).set FEN_ENG.CORES_IN (48 + e) 63).setRotation 1 e true).regionUpdate 1
    s.get GLB_REGION_STATUS.ENG_IN 1 = 46 ∧ s.get GLB_REGION_STATUS.CAP_GBPS 1 = 4037 ∧ s.get GLB_REGION_STATUS.FRATE 1 = 460
      ∧ s.get GLB_REGION_STATUS.BELOW_LOAD 1 = 1 := by decide +kernel

/-- Chapter 10: with lease 38 acknowledged an SA starts at 40,894,464 after a takeover. -/
theorem test_lease_example : (38 + 1) * 2 ^ 20 = 40894464 ∧ leaseAlone 38797312 = 40894463 := by decide

/-- Table 12-3: eight frames of 1,500 bytes, one every microsecond, are marked green twice, yellow three times and red three times. -/
theorem test_trtcm_example :
    let s := ((((State.reset.set SCH_METER.EN 29 1).set SCH_METER.MODE 29 1).set SCH_METER.CIR 29 1000).set SCH_METER.PIR 29 2000).set SCH_METER.CBS 29 3000
      |>.set SCH_METER.EBS_PBS 29 6000
    let s1 := { s with q := { s.q with meters := [(29, { tc := 256 * 3000, tp := 256 * 6000, last := 0 })] } }
    let t := s1.forN 8 fun i s => ({ s with clk := { s.clk with sinceReset := 1000 * i } }.meterJudge 29 1500 false false).2
    t.get SCH_METER_CNT.GREEN 29 = 2 ∧ t.get SCH_METER_CNT.YELLOW 29 = 3 ∧ t.get SCH_METER_CNT.RED 29 = 3 ∧ (t.q.meters.get 29 {}).tc = 256 * 875
      ∧ (t.q.meters.get 29 {}).tp = 256 * 250 := by decide +kernel

/-- Chapter 13: with one pseudo-channel retired LET_MIB reads 387,072, and a window of 30,720 MiB becomes 30,240. -/
theorem test_let_partition_example :
    let s := ((State.reset.set DMC_STACK_STATUS.PC_IN 0 31).set DMC_STACK_STATUS.PC_IN 1 32).capShow 0
    s.get DMC_CAP.LET_MIB 0 = 387072 ∧ 30720 * 387072 / 393216 = 30240 := by decide +kernel

/-- Chapter 16: a KEY entry with LENGTH 120 has C = 168. -/
theorem test_journal_entry_example : entryC 120 = 168 := by decide

/-- Chapter 19: a frame of 9,000 bytes takes three buffers of 4 KiB of receive ring 261. -/
theorem test_receive_buffers_example : (State.reset.set HIF_RING_CFG.BUF 261 16).rxBuffers 261 { waiting with data := List.replicate 9000 0 } = 3 := by
  simp only [State.rxBuffers, List.length_replicate]
  decide +kernel

/-- Table 15-9: USED = 768 of a limit of 10,000 asks for the checkpoint 1,792. -/
theorem test_use_checkpoint_example : min (768 + 1024) 10000 = 1792 := by decide

end Sys2Proof.Tests
end

section
/-!
PROOFS. Frames of the shared operations: what recording events, counting for the performance counters and showing a queue leave of the
state, and the relation `Within` that carries such a frame through a sequence of updates.
-/

namespace Sys2Proof.Machine

/-! ### The parts beside the register file and the event state -/

/-- The state without its register file. -/
def State.noRegs (s : State) : State := { s with regs := [] }

/-- The state without its register file and its event state. -/
def State.beside (s : State) : State := { s with regs := [], evt := {} }

/-- A part beside the register file is kept where the state without its register file is. -/
theorem part_of_noRegs {β : Type} (g : State → β) (hg : ∀ s, g s.noRegs = g s) {s t : State} (h : t.noRegs = s.noRegs) : g t = g s := by
  rw [← hg t, h, hg]

/-- A part beside the register file and the event state is kept where the state without them is. -/
theorem part_of_beside {β : Type} (g : State → β) (hg : ∀ s, g s.beside = g s) {s t : State} (h : t.beside = s.beside) : g t = g s := by
  rw [← hg t, h, hg]

theorem beside_of_noRegs {s t : State} (h : t.noRegs = s.noRegs) : t.beside = s.beside := congrArg (fun x : State => { x with evt := {} }) h

@[simp] theorem setWord_noRegs (s : State) (r : Reg) (i w : Nat) (v : Word) : (s.setWord r i w v).noRegs = s.noRegs := rfl
@[simp] theorem set_noRegs (s : State) (f : Field) (i v : Nat) : (s.set f i v).noRegs = s.noRegs := rfl
@[simp] theorem inc_noRegs (s : State) (f : Field) (i d : Nat) : (s.inc f i d).noRegs = s.noRegs := rfl
@[simp] theorem incWrap_noRegs (s : State) (f : Field) (i d : Nat) : (s.incWrap f i d).noRegs = s.noRegs := rfl

/-- What an update keeps, it keeps under a condition. -/
theorem when_keeps {β : Type} (g : State → β) (s : State) (c : Bool) (f : State → State) (h : g (f s) = g s) : g (s.when c f) = g s := by
  cases c
  · rfl
  · exact h

@[simp] theorem pmcPut_noRegs (s : State) (c v : Nat) : (s.pmcPut c v).noRegs = s.noRegs := by
  unfold State.pmcPut
  split <;> rfl

@[simp] theorem pmcOverflow_noRegs (s : State) (c : Nat) : (s.pmcOverflow c).noRegs = s.noRegs := by
  unfold State.pmcOverflow
  split
  · rfl
  · dsimp only
    split <;> simp only [set_noRegs]

@[simp] theorem pmcWrap_noRegs (s : State) (c : Nat) : (s.pmcWrap c).noRegs = s.noRegs := by
  unfold State.pmcWrap
  split
  · dsimp only
    split <;> simp
  · simp

@[simp] theorem pmcAdd_noRegs (s : State) (c d : Nat) : (s.pmcAdd c d).noRegs = s.noRegs := by
  unfold State.pmcAdd
  dsimp only
  split <;> simp

@[simp] theorem pmcEvent_noRegs (s : State) (level event inst d : Nat) : (s.pmcEvent level event inst d).noRegs = s.noRegs := by
  refine forN_keeps State.noRegs _ (fun k t => ?_) 16 s
  dsimp only
  split <;> simp

@[simp] theorem dmaOctets_noRegs (s : State) (n : Nat) : (s.dmaOctets n).noRegs = s.noRegs := pmcEvent_noRegs s 4 0x15 0 n

@[simp] theorem sendMsix_beside (s : State) (i : Nat) : (s.sendMsix i).beside = s.beside := by
  unfold State.sendMsix
  dsimp only
  split <;> rfl

@[simp] theorem evtNote_beside (s : State) (i : Nat) : (s.evtNote i).beside = s.beside := by
  have hcount : ((s.inc EVT_SRC.COUNT i).pmcEvent 4 0x14 0 1).beside = s.beside := beside_of_noRegs (by simp)
  unfold State.evtNote
  dsimp only
  split
  · exact (when_keeps State.beside _ _ (fun s => s.sendMsix i) (sendMsix_beside _ i)).trans hcount
  · exact hcount

@[simp] theorem ringAppend_beside (s : State) (r : EventRec) : (s.ringAppend r).beside = s.beside := by
  have hfull : ((s.inc EVT_RING_STATUS.LOST 0).set EVT_RING_STATUS.OVERFLOW 0 1).beside = s.beside := beside_of_noRegs (by simp)
  have htail (t : State) : ((t.incWrap EVT_RING_STATUS.TAIL 0).dmaOctets 32).beside = t.beside := beside_of_noRegs (by simp)
  unfold State.ringAppend
  split
  · split
    · exact htail { s with evt := { s.evt with ringRecs := s.evt.ringRecs ++ [r] } }
    · exact hfull
  · rfl

@[simp] theorem writeEvent_beside (s : State) (e : Raised) : (s.writeEvent e).beside = s.beside := by
  have hring (t : State) : (t.when (t.flag EVT_SRC.RING e.source) fun t => t.ringAppend (s.record e)).beside = t.beside :=
    when_keeps State.beside _ _ _ (ringAppend_beside t _)
  have hlog (t : State) : (t.when (t.flag EVT_SRC.LOG e.source) fun t => t.logAppend (s.record e)).beside = t.beside :=
    when_keeps State.beside _ _ _ rfl
  exact (hlog _).trans ((hring _).trans (evtNote_beside s e.source))

/-- Recording the events of a command leaves everything beside the register file and the event state, whatever was raised. -/
@[simp] theorem flushEvents_beside (s : State) : s.flushEvents.beside = s.beside :=
  forL_keeps State.beside (fun e t => t.writeEvent e) (fun e t => writeEvent_beside t e) (sortRaised s.evt.raised) s

@[simp] theorem flushEvents_clk (s : State) : s.flushEvents.clk = s.clk := part_of_beside State.clk (fun _ => rfl) (flushEvents_beside s)
@[simp] theorem flushEvents_tbl (s : State) : s.flushEvents.tbl = s.tbl := part_of_beside State.tbl (fun _ => rfl) (flushEvents_beside s)
@[simp] theorem flushEvents_path (s : State) : s.flushEvents.path = s.path := part_of_beside State.path (fun _ => rfl) (flushEvents_beside s)
@[simp] theorem flushEvents_hif (s : State) : s.flushEvents.hif = s.hif := part_of_beside State.hif (fun _ => rfl) (flushEvents_beside s)

/-! ### Words kept and events raised -/

/-- `t` comes from `s` by updates that write no register outside `rs` (as far as the register file reaches), forget no raised event and
raise events of existing sources only. -/
structure Within (rs : List Reg) (s t : State) : Prop where
  word : ∀ r i w, r ∉ rs → i < 8192 → w < 8 → t.word r i w = s.word r i w
  raised : ∀ e ∈ s.evt.raised, e ∈ t.evt.raised
  sources : ∀ e ∈ t.evt.raised, e ∈ s.evt.raised ∨ e.source < 512

theorem Within.refl (rs : List Reg) (s : State) : Within rs s s := ⟨fun _ _ _ _ _ _ => rfl, fun _ h => h, fun _ => Or.inl⟩

theorem Within.trans {rs : List Reg} {s t u : State} (h : Within rs s t) (k : Within rs t u) : Within rs s u where
  word r i w hr hi hw := (k.word r i w hr hi hw).trans (h.word r i w hr hi hw)
  raised e he := k.raised e (h.raised e he)
  sources e he := (k.sources e he).elim (h.sources e) Or.inr

theorem Within.mono {rs rs' : List Reg} {s t : State} (h : Within rs s t) (hsub : ∀ r ∈ rs, r ∈ rs') : Within rs' s t :=
  { h with word := fun r i w hr => h.word r i w fun hm => hr (hsub r hm) }

theorem Within.append {rs rs' : List Reg} {s t u : State} (h : Within rs s t) (k : Within rs' t u) : Within (rs ++ rs') s u :=
  (h.mono fun _ => List.mem_append_left rs').trans (k.mono fun _ => List.mem_append_right rs)

/-- From a settled state on, every event raised has an existing source. -/
theorem Within.source_lt {rs : List Reg} {s t : State} (h : Within rs s t) (hs : s.evt.raised = []) : ∀ e ∈ t.evt.raised, e.source < 512 :=
  fun e he => (h.sources e he).resolve_left (by simp [hs])

/-- A field of a register outside the list reads as before. -/
theorem Within.get {rs : List Reg} {s t : State} (h : Within rs s t) (f : Field) (i : Nat) (hf : f.reg ∉ rs) (hw : f.word < 8)
    (hi : i < 8192) : t.get f i = s.get f i := by
  rw [State.get, h.word f.reg i f.word hf hi hw, State.get]

/-- An update that leaves the register file and the raised events. -/
theorem Within.of_parts {s t : State} (rs : List Reg) (hr : t.regs = s.regs) (he : t.evt = s.evt) : Within rs s t where
  word r i w _ _ _ := by rw [State.word, hr, State.word]
  raised e h := by rwa [he]
  sources e h := Or.inl (by rwa [he] at h)

theorem Within.setWord {rs : List Reg} (s : State) (r : Reg) (i w : Nat) (v : Word) (hr : r ∈ rs) (hi : i < 8192) (hw : w < 8) :
    Within rs s (s.setWord r i w v) where
  word r' i' w' hr' hi' hw' := word_setWord_reg s r r' i i' w w' v hi hi' hw hw' fun h => hr' (h ▸ hr)
  raised _ h := h
  sources _ := Or.inl

theorem Within.set {rs : List Reg} (s : State) (f : Field) (i v : Nat) (hf : f.reg ∈ rs) (hw : f.word < 8) (hi : i < 8192) :
    Within rs s (s.set f i v) := Within.setWord s f.reg i f.word _ hf hi hw

/-- One more field written. -/
theorem Within.thenSet {rs : List Reg} {s t : State} (h : Within rs s t) (f : Field) (i v : Nat) (hf : f.reg ∈ rs ∧ f.word < 8)
    (hi : i < 8192) : Within rs s (t.set f i v) := h.trans (.set t f i v hf.1 hf.2 hi)

theorem Within.inc {rs : List Reg} (s : State) (f : Field) (i d : Nat) (hf : f.reg ∈ rs) (hw : f.word < 8) (hi : i < 8192) :
    Within rs s (s.inc f i d) := Within.set s f i _ hf hw hi

theorem Within.raise {rs : List Reg} (s : State) (a b c d e : Nat) (ha : a < 512) : Within rs s (s.raise a b c d e) where
  word _ _ _ _ _ _ := rfl
  raised x hx := by simp [hx]
  sources x hx := by
    rw [raise_raised, List.mem_append, List.mem_singleton] at hx
    exact hx.imp_right fun h => by rw [h]; exact ha

theorem Within.when {rs : List Reg} {s : State} (c : Bool) {f : State → State} (h : Within rs s (f s)) : Within rs s (s.when c f) := by
  cases c
  · exact Within.refl rs s
  · exact h

theorem Within.forN {rs : List Reg} (s : State) (n : Nat) (f : Nat → State → State) (h : ∀ k < n, ∀ t, Within rs t (f k t)) :
    Within rs s (s.forN n f) :=
  forN_holds (Within rs s) f n (fun k hk t ht => ht.trans (h k hk t)) s (Within.refl rs s)

/-! ### Performance counters -/

/-- The registers that counting for the performance counters may change. -/
def pmcRegs : List Reg := [.PMC_CNT, .PMC_CHIP_CNT, .PMC_OVF, .PMC_CTRL]

theorem Within.pmcPut (s : State) (c v : Nat) (hc : c < 80) : Within pmcRegs s (s.pmcPut c v) := by
  unfold State.pmcPut
  split
  · exact .set s _ c v (by decide) (by decide) (by omega)
  · exact .set s _ (c - 64) v (by decide) (by decide) (by omega)

theorem Within.pmcOverflow (s : State) (c : Nat) (hc : c < 80) : Within pmcRegs s (s.pmcOverflow c) := by
  have hovf (v : Nat) : Within pmcRegs s (s.set PMC_OVF.OVF (c / 64) v) := .set s _ _ v (by decide) (by decide) (by omega)
  unfold State.pmcOverflow
  split
  · exact .refl _ s
  · dsimp only
    split
    · exact (hovf _).trans (.set _ _ 0 1 (by decide) (by decide) (by omega))
    · exact hovf _

theorem Within.pmcWrap (s : State) (c : Nat) (hc : c < 80) : Within pmcRegs s (s.pmcWrap c) := by
  unfold State.pmcWrap
  split
  · next hchain =>
    have heven : c % 2 = 0 := by
      simp only [Bool.and_eq_true, beq_iff_eq] at hchain
      exact hchain.1.1
    have hput := Within.pmcPut s (c + 1) (s.pmcCount (c + 1) + 1) (by omega)
    dsimp only
    split
    · exact hput
    · exact hput.trans (.pmcOverflow _ _ (by omega))
  · exact .pmcOverflow s c hc

theorem Within.pmcAdd (s : State) (c d : Nat) (hc : c < 80) : Within pmcRegs s (s.pmcAdd c d) := by
  have hput := Within.pmcPut s c (s.pmcCount c + d) hc
  unfold State.pmcAdd
  dsimp only
  split
  · exact hput
  · exact hput.trans (.pmcWrap _ _ hc)

theorem Within.pmcEvent (s : State) (level event inst d : Nat) (hl : level < 5) : Within pmcRegs s (s.pmcEvent level event inst d) := by
  refine Within.forN s 16 _ fun k hk t => ?_
  dsimp only
  split
  · exact .pmcAdd t _ d (by omega)
  · exact .refl _ t

theorem Within.dmaOctets (s : State) (n : Nat) : Within pmcRegs s (s.dmaOctets n) := .pmcEvent s 4 0x15 0 n (by omega)

/-! ### The end of a command -/

/-- Recording the events of a command whose events have existing sources keeps every field outside the event registers. -/
theorem Within.flushEvents_get {rs : List Reg} {s t : State} (h : Within rs s t) (hs : s.evt.raised = []) (f : Field) (i : Nat)
    (hf : f.reg ∉ evtRegs) (hw : f.word < 8) (hi : i < 8192) : t.flushEvents.get f i = t.get f i :=
  Machine.flushEvents_get t f i (h.source_lt hs) hf hw hi

theorem get_bit_of_ne_zero (s : State) (f : Field) (i : Nat) (hf : f.width = 1) (h : s.get f i ≠ 0) : s.get f i = 1 := by
  have := Word.bits_lt (s.word f.reg i f.word) f.lo f.width
  rw [← State.get, hf] at this
  omega

/-- The word of a source is its own: counting and the event ring leave it. -/
theorem ringAppend_get_src (s : State) (r : EventRec) (f : Field) (i : Nat) (hf : f.reg = .EVT_SRC) (hw : f.word < 8) (hi : i < 512) :
    (s.ringAppend r).get f i = s.get f i := by
  have h : Within (.EVT_RING_STATUS :: pmcRegs) s (s.ringAppend r) := by
    unfold State.ringAppend
    split
    · split
      · have htail (s1 : State) (v : Nat) : Within (.EVT_RING_STATUS :: pmcRegs) s1 (s1.set EVT_RING_STATUS.TAIL 0 v) :=
          .set s1 _ 0 v (by decide) (by decide) (by omega)
        have hrec : Within (.EVT_RING_STATUS :: pmcRegs) s { s with evt := { s.evt with ringRecs := s.evt.ringRecs ++ [r] } } :=
          ⟨fun _ _ _ _ _ _ => rfl, fun _ h => h, fun _ => Or.inl⟩
        exact hrec.trans ((htail _ _).trans ((Within.dmaOctets _ 32).mono fun r => List.mem_cons_of_mem _))
      · exact (Within.inc s EVT_RING_STATUS.LOST 0 1 (by decide) (by decide) (by omega)).trans
          (.set _ EVT_RING_STATUS.OVERFLOW 0 1 (by decide) (by decide) (by omega))
    · exact .refl _ s
  exact h.get f i (by rw [hf]; decide) hw (by omega)

theorem sendMsix_regs (s : State) (i : Nat) : (s.sendMsix i).regs = s.regs := by
  unfold State.sendMsix
  dsimp only
  split <;> rfl

theorem satAdd_mod (w a d : Nat) : satAdd w a d % 2 ^ w = satAdd w a d := by
  have := Nat.two_pow_pos w
  exact Nat.mod_eq_of_lt (by unfold satAdd; omega)

/-- A counter raised. -/
theorem inc_get (s : State) (f : Field) (i : Nat) (hf : f.lo + f.width ≤ 64) : (s.inc f i).get f i = satAdd f.width (s.get f i) 1 := by
  rw [State.inc, get_set_same s f i _ hf, satAdd_mod]

theorem get_of_regs {s t : State} (h : t.regs = s.regs) (f : Field) (i : Nat) : t.get f i = s.get f i := by
  simp only [State.get, State.word, h]

/-- R620: an event sets STATUS of its source and leaves STATUS of every other. -/
theorem evtNote_get_status (s : State) (i j : Nat) (hi : i < 512) (hj : j < 512) :
    (s.evtNote i).get EVT_SRC.STATUS j = if j = i then 1 else s.get EVT_SRC.STATUS j := by
  have hcount : ((s.inc EVT_SRC.COUNT i).pmcEvent 4 0x14 0 1).get EVT_SRC.STATUS j = s.get EVT_SRC.STATUS j :=
    ((Within.pmcEvent _ 4 0x14 0 1 (by omega)).get EVT_SRC.STATUS j (by decide) (by decide) (by omega)).trans
      (get_set_ne s EVT_SRC.COUNT EVT_SRC.STATUS i j _ (by omega) (by omega) (by decide) (by decide) (by right; left; decide))
  unfold State.evtNote
  dsimp only
  generalize (s.inc EVT_SRC.COUNT i).pmcEvent 4 0x14 0 1 = t at hcount ⊢
  split
  · have hmsix (t1 : State) (c : Bool) : (t1.when c fun s => s.sendMsix i).get EVT_SRC.STATUS j = t1.get EVT_SRC.STATUS j :=
      when_keeps (State.get · EVT_SRC.STATUS j) t1 c _ (get_of_regs (sendMsix_regs t1 i) _ _)
    rw [hmsix]
    split
    · next heq => rw [heq, get_set_same t EVT_SRC.STATUS i 1 (by decide)]; decide
    · next hne =>
      rw [← hcount]
      exact get_set_ne t EVT_SRC.STATUS EVT_SRC.STATUS i j 1 (by omega) (by omega) (by decide) (by decide) (by left; simp [hne])
  · next hset =>
    split
    · next heq =>
      subst heq
      exact get_bit_of_ne_zero t _ _ rfl (by simpa using hset)
    · exact hcount

theorem writeEvent_get_status (s : State) (e : Raised) (j : Nat) (he : e.source < 512) (hj : j < 512) :
    (s.writeEvent e).get EVT_SRC.STATUS j = if j = e.source then 1 else s.get EVT_SRC.STATUS j := by
  have hring (t : State) : (t.when (t.flag EVT_SRC.RING e.source) fun t => t.ringAppend (s.record e)).get EVT_SRC.STATUS j
      = t.get EVT_SRC.STATUS j :=
    when_keeps (State.get · EVT_SRC.STATUS j) t _ _ (ringAppend_get_src t _ _ j rfl (by decide) hj)
  have hlog (t : State) : (t.when (t.flag EVT_SRC.LOG e.source) fun t => t.logAppend (s.record e)).get EVT_SRC.STATUS j
      = t.get EVT_SRC.STATUS j :=
    when_keeps (State.get · EVT_SRC.STATUS j) t _ _ rfl
  calc (s.writeEvent e).get EVT_SRC.STATUS j = (s.evtNote e.source).get EVT_SRC.STATUS j := (hlog _).trans (hring _)
    _ = _ := evtNote_get_status s e.source j he hj

/-- Once a source's STATUS is set, or one of its events is still to be written, it reads 1 when the events have been written. -/
theorem writeEvents_get_status (l : List Raised) (s : State) (j : Nat) (hj : j < 512) (hl : ∀ e ∈ l, e.source < 512)
    (h : s.get EVT_SRC.STATUS j = 1 ∨ ∃ e ∈ l, e.source = j) : (s.forL l fun e s => s.writeEvent e).get EVT_SRC.STATUS j = 1 := by
  induction l generalizing s with
  | nil => simpa [State.forL] using h
  | cons a l ih =>
    refine ih (s.writeEvent a) (fun e he => hl e (List.mem_cons_of_mem a he)) ?_
    rw [writeEvent_get_status s a j (hl a List.mem_cons_self) hj]
    split
    · exact Or.inl rfl
    · next hne =>
      refine h.imp_right fun ⟨e, he, hej⟩ => ⟨e, (List.mem_cons.mp he).resolve_left fun hea => hne ?_, hej⟩
      rw [← hej, hea]

/-- R620: STATUS of the source of every event raised in a command reads 1 when the command has ended. -/
theorem flushEvents_get_status (s : State) (h : ∀ e ∈ s.evt.raised, e.source < 512) (i : Nat) (he : ∃ e ∈ s.evt.raised, e.source = i) :
    s.flushEvents.get EVT_SRC.STATUS i = 1 := by
  obtain ⟨e, hmem, rfl⟩ := he
  exact writeEvents_get_status (sortRaised s.evt.raised) s e.source (h e hmem) (fun x hx => h x ((mem_sortRaised x _).mp hx))
    (Or.inr ⟨e, (mem_sortRaised e _).mpr hmem, rfl⟩)

end Sys2Proof.Machine
end

section
/-!
PROOFS. Reset values and bus reads (R3, R4, R6, R7, R40, R601, R602): what a read answers and clears, and accesses at which no register
answers.
-/

namespace Sys2Proof.Machine

/-- R7: at reset a register word reads its reset value. -/
theorem reset_word (r : Reg) (i w : Nat) (hi : i < 8192) (hw : w < 8) : State.reset.word r i w = r.resetWord i w :=
  regDefault_key r i w hi hw

/-- At reset a field reads its bits of the reset value of its register word. -/
theorem reset_get (f : Field) (i : Nat) (hi : i < 8192) (hw : f.word < 8) :
    State.reset.get f i = Word.bits (f.reg.resetWord i f.word) f.lo f.width := by
  rw [State.get, reset_word f.reg i f.word hi hw]

/-- Table 19-10: a source's entry begins with MASK 1 and STATUS 0, in whatever source. -/
theorem evtSrc_resetWord_bits (i : Nat) (hi : i < 512) :
    Word.bits (Reg.EVT_SRC.resetWord i 0) 1 1 = 1 ∧ Word.bits (Reg.EVT_SRC.resetWord i 0) 0 1 = 0 := by
  have hword : (Reg.EVT_SRC.resetWord i 0).toNat = (if i < 160 then 0x0E else 0x06) + i * 256 := by
    rw [Reg.resetWord, BitVec.toNat_ofNat]
    split <;> omega
  rw [Word.bits, Word.bits, hword]
  split <;> omega

/-- The words that the hardware does not compute as they are read are read as stored. -/
theorem liveWord_stored (s : State) (r : Reg) (i w : Nat) (h : r ∉ [Reg.TMB_TIME, .TMB_PPS_IN, .SCH_QCREDIT, .LNS_EYE]) :
    s.liveWord r i w = s.word r i w := by
  unfold State.liveWord
  split
  case h_6 => rfl
  all_goals simp at h

/-- A read that latches nothing clears the RC bits that it returns. -/
theorem readEffect_stored (s : State) (r : Reg) (i w : Nat) (mask : Word) (h : r ∉ [Reg.TMB_TIME, .TMB_PPS_IN, .SCH_QCREDIT, .LNS_EYE]) :
    s.readEffect r i w mask = if r.accBits w (· == .rc) &&& mask = 0 then s
      else s.setWord r i w (s.word r i w &&& ~~~(r.accBits w (· == .rc) &&& mask)) := by
  unfold State.readEffect
  split
  · simp at h
  · simp at h
  · simp only [beq_iff_eq]

/-- R550: a read of word 0 of `TMB_TIME` latches the seconds; the register has no RC bit to clear. -/
theorem readEffect_tmbTime (s : State) (i : Nat) (mask : Word) :
    s.readEffect .TMB_TIME i 0 mask = { s with clk := { s.clk with timeLatch := s.clk.tbSec } } := by
  have hrc : Reg.TMB_TIME.accBits 0 (· == .rc) = 0 := by decide
  simp [State.readEffect, hrc]

/-- R40: what an access at which no register answers leaves. -/
theorem unmapped_eq (s : State) (off : Nat) (write : Bool) : s.unmapped off write =
    ((s.set GLB_UNMAPPED_CNT.COUNT 0 (min (s.get GLB_UNMAPPED_CNT.COUNT + 1) (2 ^ GLB_UNMAPPED_CNT.COUNT.width - 1))).set
      GLB_UNMAPPED_ADDR.OFFSET 0 off).set GLB_UNMAPPED_ADDR.WRITE 0 (if write then 1 else 0) := rfl

/-- What a command that ends in `x` answers. -/
theorem answers_of_exec {c : Instr} {s x : State} {P : State → Prop} (h : exec c s = finish x) (hp : P x.flushEvents) : Answers c s P :=
  ⟨_, h, hp⟩

/-- What a command that raises nothing answers. -/
theorem answers_of_exec_quiet {c : Instr} {s x : State} {P : State → Prop} (h : exec c s = finish x) (hx : Settled x) (hp : P x) :
    Answers c s P :=
  answers_of_exec h (by rwa [flushEvents_quiet x hx])

end Sys2Proof.Machine

namespace Sys2Proof

open Machine

/-- Settles O5: `State.reset` lists nothing, so its register file is canonical and nothing waits. -/
theorem resetMeetsTheInvariant : Obligations.ResetMeetsTheInvariant := by
  unfold Obligations.ResetMeetsTheInvariant
  exact ⟨rfl, rfl, rfl, rfl, rfl⟩

/-- Settles O6: every word of the empty register file reads its own default, and each named field the bits of that default. -/
theorem resetValuesOfRegisters : Obligations.ResetValuesOfRegisters := by
  unfold Obligations.ResetValuesOfRegisters
  have value {f : Field} {i v : Nat} (hi : i < 8192) (hw : f.word < 8)
      (hv : Word.bits (f.reg.resetWord i f.word) f.lo f.width = v) : State.reset.get f i = v := by
    rw [reset_get f i hi hw, hv]
  refine ⟨reset_word, fun n => ⟨?_, ?_⟩, fun m => ⟨?_, ?_, ?_, ?_⟩, ?_, ?_, ?_, ?_, ?_, fun i => ?_⟩
  case refine_12 =>
    obtain ⟨hmask, hstatus⟩ := evtSrc_resetWord_bits i i.isLt
    exact ⟨value (by omega) (by decide) hmask, value (by omega) (by decide) hstatus⟩
  all_goals exact value (by omega) (by decide) (by decide +revert)

/-- Settles O9: the four kinds of access, each by what `busRead`, `unmapped` or the refusal makes of the state. -/
theorem busReadsAndRefusedAccesses : Obligations.BusReadsAndRefusedAccesses := by
  unfold Obligations.BusReadsAndRefusedAccesses
  refine ⟨fun m off lanes s r i w hat habs hr => ?stored, fun off s i hat => ?time, fun m off write s hat => ⟨?unmapped, ?written⟩,
    fun off write s => rfl⟩
  case stored =>
    refine congrArg finish (?_ : s.busRead m off.toNat (lanesMask lanes) = _)
    simp only [State.busRead, hat, habs, liveWord_stored s r i w hr, readEffect_stored s r i w _ hr]
    rfl
  case time =>
    have hread : s.busRead .mcu off.toNat (lanesMask .full) = { s with
        clk := { s.clk with timeLatch := s.clk.tbSec }
        bus := .data (Reg.TMB_TIME.readable 0 (s.liveWord .TMB_TIME i 0) &&& lanesMask .full) } := by
      simp only [State.busRead, hat, readEffect_tmbTime]
      rfl
    refine answers_of_exec (congrArg finish hread) ?_
    simp only [flushEvents_clk, and_self]
  case unmapped =>
    refine congrArg finish ?_
    simp only [hat, Option.isSome_none, Bool.false_eq_true, if_false, unmapped_eq]
  case written =>
    rintro rfl lanes data
    refine congrArg finish ?_
    simp only [State.busWrite, hat, unmapped_eq]

end Sys2Proof
end

section
/-!
PROOFS. Writes on the register bus (R3, R601 to R603): what each access code makes of the bits of a field, and the registers whose write
does nothing else.
-/

namespace Sys2Proof.Machine

/-! ### The fields of a register -/

/-- Two fields share no bit. -/
def Field.apart (f g : Field) : Bool := decide (f.word ≠ g.word ∨ f.lo + f.width ≤ g.lo ∨ g.lo + g.width ≤ f.lo)

theorem Field.apart_comm (f g : Field) : f.apart g = g.apart f := by
  simp only [Field.apart, ne_comm (a := f.word), or_comm (a := f.lo + f.width ≤ g.lo)]

/-- The fields of a register share no bit. -/
theorem fields_pairwise_apart (r : Reg) : r.fields.Pairwise fun f g => f.apart g = true := by cases r <;> decide

theorem fields_apart {r : Reg} {f g : Field} (hf : f ∈ r.fields) (hg : g ∈ r.fields) (hne : f ≠ g) : f.apart g = true := by
  have : Std.Symm fun f g : Field => f.apart g = true := ⟨fun f g h => by rwa [Field.apart_comm]⟩
  exact (fields_pairwise_apart r).forall hf hg hne

theorem field_fits {r : Reg} {f : Field} (hf : f ∈ r.fields) : f.lo + f.width ≤ 64 ∧ f.word < 8 := by
  have h := List.all_eq_true.mp (fields_fit r) f hf
  simpa [Field.fits] using h

/-- The mask of a field has exactly the bits of the field. -/
theorem Field.getLsbD_bits (f : Field) (k : Nat) (hf : f.lo + f.width ≤ 64) :
    f.bits.getLsbD k = decide (f.lo ≤ k ∧ k < f.lo + f.width) := by
  rw [Field.bits, BitVec.getLsbD_ofNat, Nat.testBit_mul_two_pow, Nat.testBit_two_pow_sub_one]
  by_cases h : f.lo ≤ k ∧ k < f.lo + f.width
  · simp [h]; omega
  · simp [h]; omega

/-- A bit of a field lies in the mask of an access code exactly when the field's access code is meant. -/
theorem accBits_getLsbD {r : Reg} {f : Field} (hf : f ∈ r.fields) (p : Access → Bool) (j : Nat) (hj : j < f.width) :
    (r.accBits f.word p).getLsbD (f.lo + j) = p f.acc := by
  have hfold (l : List Field) (m : Word) (hl : ∀ g ∈ l, g ∈ r.fields) :
      (l.foldl (fun m g => if g.word == f.word && p g.acc then m ||| g.bits else m) m).getLsbD (f.lo + j)
        = (m.getLsbD (f.lo + j) || (decide (f ∈ l) && p f.acc)) := by
    induction l generalizing m with
    | nil => simp
    | cons g l ih =>
      have hg := hl g List.mem_cons_self
      rw [List.foldl_cons, ih _ fun x hx => hl x (List.mem_cons_of_mem g hx)]
      by_cases hgf : g = f
      · subst hgf
        cases p g.acc <;> simp [Field.getLsbD_bits g _ (field_fits hg).1, hj]
      · have hap := fields_apart hg hf hgf
        simp only [Field.apart, decide_eq_true_eq] at hap
        have hbit : g.word = f.word → g.bits.getLsbD (f.lo + j) = false := fun hw => by
          rw [Field.getLsbD_bits g _ (field_fits hg).1]
          simp
          omega
        by_cases hc : g.word == f.word && p g.acc
        · have hw : g.word = f.word := by simp at hc; exact hc.1
          simp [hc, hbit hw, Ne.symm hgf]
        · simp [hc, Ne.symm hgf]
  rw [Reg.accBits, hfold _ _ fun _ h => h]
  simp [hf]

/-! ### Access codes -/

/-- R3, R603: a bit of a field after a write: `m` is whether the access touches it. -/
def Access.mergeBit (a : Access) (old data m : Bool) : Bool :=
  match a with
  | .rw => if m then data else old
  | .wo => if m then data else old
  | .w1c => old && !(m && data)
  | .w1s => old || (m && data)
  | .ro => old
  | .rc => old

theorem merge_getLsbD {r : Reg} {f : Field} (hf : f ∈ r.fields) (old data mask : Word) (j : Nat) (hj : j < f.width) :
    (r.merge f.word old data mask).getLsbD (f.lo + j)
      = f.acc.mergeBit (old.getLsbD (f.lo + j)) (data.getLsbD (f.lo + j)) (mask.getLsbD (f.lo + j)) := by
  have hlt : f.lo + j < 64 := by have := (field_fits hf).1; omega
  simp only [Reg.merge, BitVec.getLsbD_or, BitVec.getLsbD_and, BitVec.getLsbD_not, accBits_getLsbD hf _ j hj, hlt, decide_true, Bool.true_and]
  cases f.acc <;> cases mask.getLsbD (f.lo + j) <;> simp [Access.mergeBit, beq_eq_decide]

/-- A field that a write does not touch keeps its bits in the merged word. -/
theorem merge_bits_untouched {r : Reg} {f : Field} (hf : f ∈ r.fields) (old data mask : Word)
    (hmask : ∀ j < f.width, mask.getLsbD (f.lo + j) = false) :
    (r.merge f.word old data mask).bits f.lo f.width = old.bits f.lo f.width := by
  apply Nat.eq_of_testBit_eq
  intro j
  rw [Word.testBit_bits, Word.testBit_bits]
  by_cases hj : j < f.width
  · rw [merge_getLsbD hf old data mask j hj, hmask j hj]
    cases f.acc <;> simp [Access.mergeBit]
  · simp [hj]

/-- R3: what a write of all its bits makes of a field. -/
def Access.mergeBits (a : Access) (width old new : Nat) : Nat :=
  match a with
  | .rw => new
  | .wo => new
  | .w1c => old &&& (2 ^ width - 1 - new)
  | .w1s => old ||| new
  | .ro => old
  | .rc => old

theorem merge_bits_touched {r : Reg} {f : Field} (hf : f ∈ r.fields) (old data mask : Word)
    (hmask : ∀ j < f.width, mask.getLsbD (f.lo + j) = true) :
    (r.merge f.word old data mask).bits f.lo f.width = f.acc.mergeBits f.width (old.bits f.lo f.width) (data.bits f.lo f.width) := by
  have hcompl (j : Nat) : (2 ^ f.width - 1 - data.bits f.lo f.width).testBit j = (decide (j < f.width) && !(data.bits f.lo f.width).testBit j) := by
    rw [Nat.sub_sub, Nat.add_comm 1]
    exact Nat.testBit_two_pow_sub_succ (Word.bits_lt data f.lo f.width) j
  apply Nat.eq_of_testBit_eq
  intro j
  rw [Word.testBit_bits]
  by_cases hj : j < f.width
  · rw [merge_getLsbD hf old data mask j hj, hmask j hj]
    cases f.acc <;> simp [Access.mergeBit, Access.mergeBits, hcompl, Word.testBit_bits, hj]
  · cases f.acc <;> simp [Access.mergeBits, Word.testBit_bits, hj]

/-! ### Registers whose write does nothing else -/

/-- Registers without an effect of their own, none of whose fields keeps its value or discards one. -/
def plainRegs : List Reg :=
  [.FEN_WDOG, .TBL_ETCLASS, .FEN_KAT_CTRL, .SAT_DEUCE_CFG, .GLB_AGT_CKN, .LET_TIMING, .LET_CTL_DA, .KST_KEYDATA, .HIF_MBOX_ADDR,
    .FEN_MP_STATUS, .SAT_PN_STATUS, .SCH_PORT_QUANTUM, .PMC_USER_EN, .GLB_THERM]

theorem plain_reg {r : Reg} (hr : r ∈ plainRegs) {f : Field} (hf : f ∈ r.fields) : f.reg = r := by
  have h : ∀ r ∈ plainRegs, ∀ f ∈ r.fields, f.reg = r := by decide
  exact h r hr f hf

/-- A field of a plain register can change, and takes every value. -/
theorem plain_free {r : Reg} (hr : r ∈ plainRegs) {f : Field} (hf : f ∈ r.fields) (s : State) (m : Master) (i x : Nat) :
    s.fieldHeld m f i = false ∧ (reservedFrom.any fun y => y.1 == f && y.2 ≤ x) = false := by
  have h : ∀ r ∈ plainRegs, ∀ f ∈ r.fields, (∀ y ∈ heldWhile, y.1 ≠ f) ∧ (∀ y ∈ reservedFrom, y.1 ≠ f)
      ∧ f ≠ KST_CTRL.PF0_KEYWR ∧ f ≠ NVJ_JCTRL.BSK_MODE ∧ f ≠ QMG_QCFG.ROLE := by decide
  obtain ⟨hheld, hres, hkey, hbsk, hrole⟩ := h r hr f hf
  have hheld' : (heldWhile.any fun y => y.1 == f && s.get y.2 i != 0) = false :=
    List.any_eq_false.mpr fun y hy => by simp [hheld y hy]
  refine ⟨?_, List.any_eq_false.mpr fun y hy => by simp [hres y hy]⟩
  simp [State.fieldHeld, hheld', hkey, hbsk, hrole]

/-- The limits of a plain register's field lie within its width. -/
theorem plain_limited_lt {r : Reg} (hr : r ∈ plainRegs) {f : Field} (hf : f ∈ r.fields) (v : Nat) (hv : v < 2 ^ f.width) :
    limited f v < 2 ^ f.width := by
  have h : ∀ r ∈ plainRegs, ∀ f ∈ r.fields, (fieldLimits.find? (·.1 == f)).all (fun y => y.2.1 < 2 ^ f.width && y.2.2 < 2 ^ f.width)
      ∧ signedLimits.find? (·.1 == f) = none ∧ f ≠ KFR_MON_CFG.TIM_LEN := by decide
  obtain ⟨hfind, hsigned, htim⟩ := h r hr f hf
  have hlim : limited f v = unsignedLimit f v := by simp [limited, signedLimit, hsigned, htim]
  rw [hlim]
  cases hy : fieldLimits.find? (·.1 == f) with
  | none => simpa [unsignedLimit, hy] using hv
  | some y =>
    obtain ⟨g, lo, hi⟩ := y
    simp only [hy, Option.all_some, Bool.and_eq_true, decide_eq_true_eq] at hfind
    simp only [unsignedLimit, hy]
    omega

/-- The value that a field of a merged word `x` takes where the register held `o`. -/
def Field.settled (f : Field) (o x : Nat) : Nat := if x = o then o else limited f x

theorem regulate_plain {r : Reg} (hr : r ∈ plainRegs) {f : Field} (hf : f ∈ r.fields) (s : State) (m : Master) (i : Nat) (old v : Word) :
    s.regulate m i old v f = if v.bits f.lo f.width = old.bits f.lo f.width then v
      else v.setBits f.lo f.width (limited f (v.bits f.lo f.width)) := by
  obtain ⟨hheld, hres⟩ := plain_free hr hf s m i (v.bits f.lo f.width)
  simp only [State.regulate, hheld, hres, Bool.and_false, Bool.or_self, Bool.false_eq_true, if_false, beq_iff_eq]

theorem regulate_bits_same {r : Reg} (hr : r ∈ plainRegs) {f : Field} (hf : f ∈ r.fields) (s : State) (m : Master) (i : Nat) (old v : Word) :
    (s.regulate m i old v f).bits f.lo f.width = f.settled (old.bits f.lo f.width) (v.bits f.lo f.width) := by
  rw [regulate_plain hr hf, Field.settled]
  split
  · next heq => exact heq
  · rw [Word.bits_setBits_same _ _ _ _ (field_fits hf).1,
      Nat.mod_eq_of_lt (plain_limited_lt hr hf _ (Word.bits_lt v f.lo f.width))]

theorem regulate_bits_apart {r : Reg} (hr : r ∈ plainRegs) {f g : Field} (hf : f ∈ r.fields) (hw : g.word = f.word)
    (hap : f.apart g = true) (s : State) (m : Master) (i : Nat) (old v : Word) :
    (s.regulate m i old v f).bits g.lo g.width = v.bits g.lo g.width := by
  rw [regulate_plain hr hf]
  split
  · rfl
  · simp only [Field.apart, decide_eq_true_eq] at hap
    exact Word.bits_setBits_ne _ _ _ _ _ _ (field_fits hf).1 (by omega)

/-- Regulating fields apart from `g` leaves `g`. -/
theorem regulated_bits_apart {r : Reg} (hr : r ∈ plainRegs) (g : Field) (s : State) (m : Master) (i : Nat) (old : Word) (l : List Field)
    (hl : ∀ f ∈ l, f ∈ r.fields ∧ g.word = f.word ∧ f.apart g = true) (v : Word) :
    (l.foldl (s.regulate m i old) v).bits g.lo g.width = v.bits g.lo g.width := by
  induction l generalizing v with
  | nil => rfl
  | cons f l ih =>
    obtain ⟨hf, hw, hap⟩ := hl f List.mem_cons_self
    rw [List.foldl_cons, ih (fun x hx => hl x (List.mem_cons_of_mem f hx)), regulate_bits_apart hr hf hw hap]

/-- Regulating a list of fields apart from each other settles each of them. -/
theorem regulated_bits_mem {r : Reg} (hr : r ∈ plainRegs) (s : State) (m : Master) (i : Nat) (old : Word) (l : List Field) (w : Nat)
    (hl : ∀ f ∈ l, f ∈ r.fields ∧ f.word = w) (hpw : l.Pairwise fun f g => f.apart g = true) (v : Word) (g : Field) (hg : g ∈ l) :
    (l.foldl (s.regulate m i old) v).bits g.lo g.width = g.settled (old.bits g.lo g.width) (v.bits g.lo g.width) := by
  induction l generalizing v with
  | nil => simp at hg
  | cons f l ih =>
    obtain ⟨hf, hfw⟩ := hl f List.mem_cons_self
    have htail (x : Field) (hx : x ∈ l) := hl x (List.mem_cons_of_mem f hx)
    obtain ⟨hhead, hrest⟩ := List.pairwise_cons.mp hpw
    rw [List.foldl_cons]
    rcases List.mem_cons.mp hg with rfl | hgl
    · rw [regulated_bits_apart hr g s m i old l fun x hx =>
        ⟨(htail x hx).1, hfw.trans (htail x hx).2.symm, by rw [Field.apart_comm]; exact hhead x hx⟩]
      exact regulate_bits_same hr hf s m i old v
    · rw [ih htail hrest _ hgl, regulate_bits_apart hr hf ((htail g hgl).2.trans hfw.symm) (hhead g hgl)]

/-- A field of a plain register's word after a write: an RW field is settled from the merged word, any other is as merged. -/
theorem writtenWord_bits {r : Reg} (hr : r ∈ plainRegs) {f : Field} (hf : f ∈ r.fields) (s : State) (m : Master) (i : Nat)
    (data mask : Word) :
    (s.writtenWord m r i f.word data mask).bits f.lo f.width =
      let x := (r.merge f.word (s.word r i f.word) data mask).bits f.lo f.width
      if f.acc = .rw then f.settled ((s.word r i f.word).bits f.lo f.width) x else x := by
  have hmem (g : Field) : g ∈ r.rwFields f.word ↔ g ∈ r.fields ∧ g.word = f.word ∧ g.acc = .rw := by simp [Reg.rwFields]
  simp only [State.writtenWord]
  split
  · next hacc =>
    exact regulated_bits_mem hr s m i _ _ f.word (fun g hg => ⟨((hmem g).mp hg).1, ((hmem g).mp hg).2.1⟩)
      ((fields_pairwise_apart r).filter _) _ f ((hmem f).mpr ⟨hf, rfl, hacc⟩)
  · next hacc =>
    refine regulated_bits_apart hr f s m i _ _ (fun g hg => ?_) _
    obtain ⟨hgr, hgw, hga⟩ := (hmem g).mp hg
    exact ⟨hgr, hgw.symm, fields_apart hgr hf fun h => hacc (h ▸ hga)⟩

/-- A write of a plain register stores the written word and does nothing else. -/
theorem regWrite_plain {r : Reg} (hr : r ∈ plainRegs) (s : State) (m : Master) (i w : Nat) (data mask : Word) :
    (s.regWrite m r i w data mask).1 = s.setWord r i w (s.writtenWord m r i w data mask) := by
  simp only [plainRegs, List.mem_cons, List.not_mem_nil, or_false] at hr
  rcases hr with rfl | rfl | rfl | rfl | rfl | rfl | rfl | rfl | rfl | rfl | rfl | rfl | rfl | rfl <;> rfl

theorem exec_registerWrite (m : Master) (off : BitVec 27) (lanes : Lanes) (data : Word) (s : State) :
    exec (.registerWrite m off lanes data) s = finish (s.busWrite m off.toNat data (lanesMask lanes)).1 := rfl

/-- A write that PF0 takes reaches its register. -/
theorem busWrite_taken {s : State} {m : Master} {off : Nat} {r : Reg} {i w : Nat} (hat : s.busAt m off = some (r, i, w))
    (hhost : m = .host → s.get GLB_OWNER.OWNER ≠ 2 ∧ mcuPort r off = false) (habs : s.regAbsent r i = false) (data mask : Word) :
    s.busWrite m off data mask = s.regWrite m r i w data mask := by
  cases m with
  | mcu => simp [State.busWrite, hat, habs]
  | host =>
    obtain ⟨howner, hport⟩ := hhost rfl
    simp [State.busWrite, hat, habs, howner, hport]

theorem lanesMask_getLsbD (lanes : Lanes) (k : Nat) (hk : k < 64) :
    (lanesMask lanes).getLsbD k = match lanes with
      | .full => true
      | .low => decide (k < 32)
      | .high => decide (32 ≤ k) := by
  have h : ∀ k : Fin 64, (lanesMask lanes).getLsbD k = match lanes with
      | .full => true
      | .low => decide (k.val < 32)
      | .high => decide (32 ≤ k.val) := by cases lanes <;> decide
  exact h ⟨k, hk⟩

end Sys2Proof.Machine

namespace Sys2Proof

open Machine

/-- Settles O8: the written word field by field, by the access code and the limits of each. -/
theorem registerWriteFollowsAccessCodes : Obligations.RegisterWriteFollowsAccessCodes := by
  unfold Obligations.RegisterWriteFollowsAccessCodes
  intro m off lanes data s r i w hset hat hi hw hr hhost habs
  have hplain : r ∈ plainRegs := hr
  have hexec : exec (.registerWrite m off lanes data) s = finish (s.setWord r i w (s.writtenWord m r i w data (lanesMask lanes))) := by
    rw [exec_registerWrite, busWrite_taken hat hhost habs, regWrite_plain hplain]
  have hget {f : Field} (hf : f ∈ r.fields) (hfw : f.word = w) :
      (s.setWord r i w (s.writtenWord m r i w data (lanesMask lanes))).get f i
        = (s.writtenWord m r i f.word data (lanesMask lanes)).bits f.lo f.width := by
    rw [State.get, plain_reg hplain hf, hfw, word_setWord_same]
  refine answers_of_exec_quiet hexec hset ⟨?full, ?half, ?frame, rfl⟩
  case full =>
    rintro f hf hfw rfl
    have hmask (j : Nat) (hj : j < f.width) : (lanesMask .full).getLsbD (f.lo + j) = true :=
      lanesMask_getLsbD .full _ (by have := (field_fits hf).1; omega)
    rw [hget hf hfw, writtenWord_bits hplain hf, merge_bits_touched hf _ _ _ hmask]
    have hold : (s.word r i f.word).bits f.lo f.width = s.get f i := by rw [State.get, plain_reg hplain hf]
    rw [hold]
    cases f.acc <;> rfl
  case half =>
    intro f hf hfw hlow hhigh hlanes
    have hmask (j : Nat) (hj : j < f.width) : (lanesMask lanes).getLsbD (f.lo + j) = false := by
      have hfit := (field_fits hf).1
      rw [lanesMask_getLsbD lanes _ (by omega)]
      cases lanes with
      | full => exact absurd rfl hlanes
      | low => have := hlow rfl; simp; omega
      | high => have := hhigh rfl; simp; omega
    rw [hget hf hfw, writtenWord_bits hplain hf, merge_bits_untouched hf _ _ _ hmask]
    simp [Field.settled, State.get, plain_reg hplain hf]
  case frame =>
    intro r' i' w' hne hi' hw'
    exact word_setWord_ne s r r' i i' w w' _ hi hi' hw hw' hne

end Sys2Proof
end

section
/-!
PROOFS. Ring completions (R607, R609, R611, R621): what fetching a frame's descriptors, writing them back and reporting them change, and
what they leave.
-/

namespace Sys2Proof.Machine

/-- The state without its register file, its event state and the host interface: what ring completions leave. -/
def State.besideHif (s : State) : State := { s with regs := [], evt := {}, hif := {} }

theorem besideHif_of_noRegs {s t : State} (h : t.noRegs = s.noRegs) : t.besideHif = s.besideHif :=
  congrArg (fun x : State => { x with evt := {}, hif := {} }) h

theorem part_of_besideHif {β : Type} (g : State → β) (hg : ∀ s, g s.besideHif = g s) {s t : State} (h : t.besideHif = s.besideHif) :
    g t = g s := by
  rw [← hg t, h, hg]

/-! ### One ring -/

theorem ring_of_hif {s t : State} (h : t.hif = s.hif) (r : Nat) : t.ring r = s.ring r := by rw [State.ring, h, State.ring]

@[simp] theorem onRing_ring_same (s : State) (r : Nat) (f : Ring → Ring) : (s.onRing r f).ring r = f (s.ring r) :=
  KMap.get_set_same _ _ _ _

@[simp] theorem onRing_evt (s : State) (r : Nat) (f : Ring → Ring) : (s.onRing r f).evt = s.evt := rfl
@[simp] theorem onRing_get (s : State) (r : Nat) (f : Ring → Ring) (g : Field) (i : Nat) : (s.onRing r f).get g i = s.get g i := rfl
@[simp] theorem onRing_besideHif (s : State) (r : Nat) (f : Ring → Ring) : (s.onRing r f).besideHif = s.besideHif := rfl
@[simp] theorem inc_ring (s : State) (f : Field) (i d r : Nat) : (s.inc f i d).ring r = s.ring r := rfl
@[simp] theorem raise_ring (s : State) (a b c d e r : Nat) : (s.raise a b c d e).ring r = s.ring r := rfl
@[simp] theorem raise_besideHif (s : State) (a b c d e : Nat) : (s.raise a b c d e).besideHif = s.besideHif := rfl
@[simp] theorem inc_besideHif (s : State) (f : Field) (i d : Nat) : (s.inc f i d).besideHif = s.besideHif := rfl
@[simp] theorem ringCountFrame_ring (s : State) (r k : Nat) (ok : Bool) : (s.ringCountFrame r ok).ring k = s.ring k := rfl
@[simp] theorem ringCountFrame_besideHif (s : State) (r : Nat) (ok : Bool) : (s.ringCountFrame r ok).besideHif = s.besideHif := rfl

@[simp] theorem dmaOctets_ring (s : State) (n r : Nat) : (s.dmaOctets n).ring r = s.ring r :=
  part_of_noRegs (State.ring · r) (fun _ => rfl) (dmaOctets_noRegs s n)

@[simp] theorem dmaOctets_besideHif (s : State) (n : Nat) : (s.dmaOctets n).besideHif = s.besideHif := besideHif_of_noRegs (dmaOctets_noRegs s n)

@[simp] theorem dmaOctets_evt (s : State) (n : Nat) : (s.dmaOctets n).evt = s.evt :=
  part_of_noRegs State.evt (fun _ => rfl) (dmaOctets_noRegs s n)

@[simp] theorem flushEvents_ring (s : State) (r : Nat) : s.flushEvents.ring r = s.ring r := ring_of_hif (flushEvents_hif s) r

theorem Within.onRing (rs : List Reg) (s : State) (r : Nat) (f : Ring → Ring) : Within rs s (s.onRing r f) := .of_parts rs rfl rfl

theorem ringSource_lt (r : Nat) : ringSource r < 512 := by unfold ringSource; omega

/-! ### Completions reported (R621) -/

/-- The registers that a completion may change. -/
def ringRegs : List Reg := .HIF_RING_STAT :: pmcRegs

theorem Within.dmaOctets_ringRegs (s : State) (n : Nat) : Within ringRegs s (s.dmaOctets n) :=
  (Within.dmaOctets s n).mono fun _ => List.mem_cons_of_mem _

/-- R621: the state in which the completions are counted: DMA counted, an error raised at once. -/
def State.ringErred (r n : Nat) (ok : Bool) (s : State) : State := (s.dmaOctets (32 * n)).when (!ok) fun s => s.raise (ringSource r) 3 r n

theorem ringReport_eq (s : State) (r n : Nat) (ok : Bool) : s.ringReport r n ok =
    if s.get HIF_RING_CFG.COAL_N r ≤ (s.ring r).unreported + n then
      ((s.ringErred r n ok).onRing r fun x => { x with unreported := 0 }).raise (ringSource r) (if r < 256 then 1 else 2) r
        ((s.ring r).unreported + n)
    else (s.ringErred r n ok).onRing r fun x => { x with unreported := (s.ring r).unreported + n } := rfl

@[simp] theorem ringErred_besideHif (s : State) (r n : Nat) (ok : Bool) : (s.ringErred r n ok).besideHif = s.besideHif :=
  (when_keeps State.besideHif _ _ (fun s => s.raise (ringSource r) 3 r n) rfl).trans (dmaOctets_besideHif s _)

@[simp] theorem ringErred_ring (s : State) (r n k : Nat) (ok : Bool) : (s.ringErred r n ok).ring k = s.ring k :=
  (when_keeps (State.ring · k) _ _ (fun s => s.raise (ringSource r) 3 r n) rfl).trans (dmaOctets_ring s _ k)

theorem Within.ringErred (s : State) (r n : Nat) (ok : Bool) : Within pmcRegs s (s.ringErred r n ok) :=
  (Within.dmaOctets s _).trans (.when _ (.raise _ _ _ _ _ _ (ringSource_lt r)))

theorem Within.ringReport (s : State) (r n : Nat) (ok : Bool) : Within pmcRegs s (s.ringReport r n ok) := by
  have herr := Within.ringErred s r n ok
  rw [ringReport_eq]
  split
  · exact (herr.trans (.onRing _ _ r _)).trans (.raise _ _ _ _ _ _ (ringSource_lt r))
  · exact herr.trans (.onRing _ _ r _)

@[simp] theorem ringReport_besideHif (s : State) (r n : Nat) (ok : Bool) : (s.ringReport r n ok).besideHif = s.besideHif := by
  rw [ringReport_eq]
  split <;> simp

/-- Reporting changes only what is unreported of a ring. -/
theorem ringReport_ring (s : State) (r n : Nat) (ok : Bool) : ∃ un, (s.ringReport r n ok).ring r = { s.ring r with unreported := un } := by
  rw [ringReport_eq]
  split
  · exact ⟨0, by simp⟩
  · exact ⟨(s.ring r).unreported + n, by simp⟩

/-- R611: a frame that ends with an error raises its ring's error event. -/
theorem ringReport_raises_error (s : State) (r n : Nat) : ⟨ringSource r, 3, r, n, 0⟩ ∈ (s.ringReport r n false).evt.raised := by
  have herr : ⟨ringSource r, 3, r, n, 0⟩ ∈ (s.ringErred r n false).evt.raised := by simp [State.ringErred]
  rw [ringReport_eq]
  split <;> simp [herr]

theorem Within.ringCountFrame (s : State) (r : Nat) (ok : Bool) (hr : r < 512) : Within [.HIF_RING_STAT] s (s.ringCountFrame r ok) :=
  .inc s _ r 1 (by cases ok <;> decide) (by cases ok <;> decide) (by omega)

/-- A frame counts once in FRAMES or ERRORS of its ring. -/
theorem ringCountFrame_get (s : State) (r : Nat) (ok : Bool) :
    (s.ringCountFrame r ok).get (if ok then HIF_RING_STAT.FRAMES else HIF_RING_STAT.ERRORS) r
      = satAdd (if ok then 32 else 16) (s.get (if ok then HIF_RING_STAT.FRAMES else HIF_RING_STAT.ERRORS) r) 1 := by
  cases ok
  · exact inc_get s HIF_RING_STAT.ERRORS r (by decide)
  · exact inc_get s HIF_RING_STAT.FRAMES r (by decide)

/-- The end of a frame of a ring: it is counted and its descriptors are reported. -/
theorem Within.ringEnd (s : State) (r n : Nat) (ok : Bool) (hr : r < 512) :
    Within ringRegs s ((s.ringCountFrame r ok).ringReport r n ok) :=
  ((Within.ringCountFrame s r ok hr).mono (by decide)).trans ((Within.ringReport _ r n ok).mono (by decide))

theorem ringEnd_get (s : State) (r n : Nat) (ok : Bool) (hr : r < 512) :
    ((s.ringCountFrame r ok).ringReport r n ok).get (if ok then HIF_RING_STAT.FRAMES else HIF_RING_STAT.ERRORS) r
      = satAdd (if ok then 32 else 16) (s.get (if ok then HIF_RING_STAT.FRAMES else HIF_RING_STAT.ERRORS) r) 1 := by
  rw [(Within.ringReport _ r n ok).get _ r (by cases ok <;> decide) (by cases ok <;> decide) (by omega), ringCountFrame_get]

/-- The same of a frame that ends with an error. -/
theorem ringEnd_get_errors (s : State) (r n : Nat) (hr : r < 512) :
    ((s.ringCountFrame r false).ringReport r n false).get HIF_RING_STAT.ERRORS r = satAdd 16 (s.get HIF_RING_STAT.ERRORS r) 1 :=
  ringEnd_get s r n false hr

/-! ### Write-backs (R607) -/

/-- What a ring keeps of its waiting transfer (R615). -/
def Ring.waiting (x : Ring) : Bool × Bool × Option (List (List Word) × Nat) := (x.stalled, x.paging, x.wait)

/-- The write-backs of a transmit frame (R607). -/
def txBacks (first : Nat) (descs : List (List Word)) (status : Nat) (time : Option Word) : List RingWb :=
  (List.range descs.length).map fun i =>
    { idx := ringCount (first + i), words := txBack (descs.getD i []) status (if i == 0 then time else none), data := [] }

/-- The ring after the frame at its front has been written back. -/
def Ring.afterFront (x : Ring) (f : TxFrame) (rest : List TxFrame) (status : Nat) (time : Option Word) : Ring :=
  { x with txq := rest, head := ringCount (f.first + f.descs.length), wbs := x.wbs ++ txBacks f.first f.descs status time }

theorem ringSettle_nil (s : State) (k r : Nat) (h : (s.ring r).txq = []) : s.ringSettle k r = s := by
  cases k with
  | zero => rfl
  | succ k => simp [State.ringSettle, h]

theorem ringSettle_waits (s : State) (k r : Nat) (f : TxFrame) (rest : List TxFrame) (h : (s.ring r).txq = f :: rest)
    (hd : f.done = none) : s.ringSettle k r = s := by
  cases k with
  | zero => rfl
  | succ k => simp [State.ringSettle, h, hd]

theorem ringSettle_front (s : State) (k r : Nat) (f : TxFrame) (rest : List TxFrame) (status : Nat) (time : Option Word)
    (h : (s.ring r).txq = f :: rest) (hd : f.done = some (status, time)) :
    s.ringSettle (k + 1) r = (((s.onRing r fun x => x.afterFront f rest status time).ringCountFrame r (status == 0)).ringReport r
      f.descs.length (status == 0)).ringSettle k r := by
  simp only [State.ringSettle, h, hd]
  rfl

/-- What one write-back keeps, all of them keep. -/
theorem ringSettle_holds (p : State → Prop) (r : Nat)
    (hstep : ∀ s f rest status time ok n, p s →
      p (((s.onRing r fun x => x.afterFront f rest status time).ringCountFrame r ok).ringReport r n ok))
    (k : Nat) (s : State) (hs : p s) : p (s.ringSettle k r) := by
  induction k generalizing s with
  | zero => exact hs
  | succ k ih =>
    cases hq : (s.ring r).txq with
    | nil => rwa [ringSettle_nil s _ r hq]
    | cons f rest =>
      cases hd : f.done with
      | none => rwa [ringSettle_waits s _ r f rest hq hd]
      | some d =>
        rw [ringSettle_front s k r f rest d.1 d.2 hq hd]
        exact ih _ (hstep s f rest d.1 d.2 _ _ hs)

theorem Within.ringSettle (s : State) (k r : Nat) (hr : r < 512) : Within ringRegs s (s.ringSettle k r) :=
  ringSettle_holds (Within ringRegs s) r (fun _ _ _ _ _ ok n h => (h.trans (.onRing _ _ r _)).trans (.ringEnd _ r n ok hr)) k s (.refl _ s)

theorem ringSettle_besideHif (s : State) (k r : Nat) : (s.ringSettle k r).besideHif = s.besideHif :=
  ringSettle_holds (fun t => t.besideHif = s.besideHif) r (fun t f rest status time ok n h => by simpa using h) k s rfl

theorem ringSettle_waiting (s : State) (k r : Nat) : ((s.ringSettle k r).ring r).waiting = (s.ring r).waiting := by
  refine ringSettle_holds (fun t => (t.ring r).waiting = (s.ring r).waiting) r (fun t f rest status time ok n h => ?_) k s rfl
  obtain ⟨un, hun⟩ := ringReport_ring ((t.onRing r fun x => x.afterFront f rest status time).ringCountFrame r ok) r n ok
  rw [hun]
  simpa [Ring.waiting, Ring.afterFront] using h

/-- A transmit frame marked as ended. -/
def TxFrame.mark (id status : Nat) (time : Option Word) (f : TxFrame) : TxFrame :=
  if f.id == id && f.done.isNone then { f with done := some (status, time) } else f

/-- The frame numbered `id` marked as ended. -/
def State.ringMark (r id status : Nat) (time : Option Word) (s : State) : State :=
  s.onRing r fun x => { x with txq := x.txq.map (TxFrame.mark id status time) }

theorem ringComplete_eq (s : State) (r id status : Nat) (time : Option Word) :
    s.ringComplete r id status time = (s.ringMark r id status time).ringSettle ((s.ringMark r id status time).ring r).txq.length r := rfl

theorem Within.ringComplete (s : State) (r id status : Nat) (time : Option Word) (hr : r < 512) :
    Within ringRegs s (s.ringComplete r id status time) :=
  (Within.onRing ringRegs s r _).trans (.ringSettle (s.ringMark r id status time) _ r hr)

theorem ringComplete_besideHif (s : State) (r id status : Nat) (time : Option Word) :
    (s.ringComplete r id status time).besideHif = s.besideHif :=
  (ringSettle_besideHif (s.ringMark r id status time) _ r).trans rfl

theorem ringComplete_waiting (s : State) (r id status : Nat) (time : Option Word) :
    ((s.ringComplete r id status time).ring r).waiting = (s.ring r).waiting := by
  rw [ringComplete_eq, ringSettle_waiting, State.ringMark, onRing_ring_same]
  rfl

/-- R607, R611: the only frame of a ring ends: its descriptors are written back at once, and it is counted. -/
theorem ringComplete_alone (s : State) (r id first status : Nat) (descs : List (List Word)) (time : Option Word)
    (hq : (s.ring r).txq = [{ id := id, first := first, descs := descs }]) :
    ∃ t : State, s.ringComplete r id status time = (t.ringCountFrame r (status == 0)).ringReport r descs.length (status == 0)
      ∧ (∀ f i, t.get f i = s.get f i)
      ∧ t.ring r = { s.ring r with txq := [], head := ringCount (first + descs.length)
                                   wbs := (s.ring r).wbs ++ txBacks first descs status time } := by
  have hmark : ((s.ringMark r id status time).ring r).txq = [{ id := id, first := first, descs := descs, done := some (status, time) }] := by
    simp [State.ringMark, hq, TxFrame.mark]
  refine ⟨(s.ringMark r id status time).onRing r fun x => x.afterFront { id := id, first := first, descs := descs, done := some (status, time) } []
    status time, ?_, fun f i => rfl, ?_⟩
  · rw [ringComplete_eq, hmark, List.length_singleton, ringSettle_front _ 0 r _ _ status time hmark rfl]
    rfl
  · simp [Ring.afterFront, State.ringMark]

/-! ### Descriptors fetched (R609) -/

theorem txFetch_ring (s : State) (r : Nat) (descs : List (List Word)) : (s.txFetch r descs).2.ring r =
    { s.ring r with fetched := ringCount ((s.ring r).fetched + descs.length), nextId := (s.ring r).nextId + 1
                    txq := (s.ring r).txq ++ [{ id := (s.ring r).nextId, first := (s.ring r).fetched, descs := descs }] } := by
  simp [State.txFetch]

theorem Within.txFetch (s : State) (r : Nat) (descs : List (List Word)) : Within pmcRegs s (s.txFetch r descs).2 :=
  (Within.onRing pmcRegs s r _).trans (.dmaOctets _ _)

theorem txFetch_besideHif (s : State) (r : Nat) (descs : List (List Word)) : (s.txFetch r descs).2.besideHif = s.besideHif := by
  simp [State.txFetch]

@[simp] theorem txFetch_evt (s : State) (r : Nat) (descs : List (List Word)) : (s.txFetch r descs).2.evt = s.evt := by
  simp [State.txFetch]

/-- STATUS and the written-back mark of a transmit frame's write-backs. -/
theorem txBacks_status {first status : Nat} {descs : List (List Word)} {time : Option Word} (hst : status < 256) {wb : RingWb}
    (h : wb ∈ txBacks first descs status time) : (wb.words.getD 3 0).bits 16 8 = status ∧ (wb.words.getD 3 0).bits 32 1 = 1 := by
  obtain ⟨i, -, rfl⟩ := List.mem_map.mp h
  have h3 (d : List Word) (t : Option Word) : (txBack d status t).getD 3 0 = ((d.getD 3 0).setBits 16 8 status).setBits 32 1 1 := rfl
  simp only [h3]
  constructor
  · rw [Word.bits_setBits_ne _ _ _ _ _ _ (by omega) (by omega), Word.bits_setBits_same _ _ _ _ (by omega)]
    exact Nat.mod_eq_of_lt hst
  · exact Word.bits_setBits_same _ _ _ _ (by omega)

theorem txBacks_length (first status : Nat) (descs : List (List Word)) (time : Option Word) :
    (txBacks first descs status time).length = descs.length := by simp [txBacks]

/-- What stands written back of a transmit frame that is alone on its ring once it has been fetched and has ended with an error. -/
structure TxFailed (s u : State) (r : Nat) (descs : List (List Word)) (status : Nat) : Prop where
  txq : (u.ring r).txq = []
  head : (u.ring r).head = ((s.ring r).fetched + descs.length) % 131072
  wbs : (u.ring r).wbs.length = (s.ring r).wbs.length + descs.length
  status : ∀ wb ∈ (u.ring r).wbs.drop (s.ring r).wbs.length, (wb.words.getD 3 0).bits 16 8 = status ∧ (wb.words.getD 3 0).bits 32 1 = 1
  errors : u.get HIF_RING_STAT.ERRORS r = satAdd 16 (s.get HIF_RING_STAT.ERRORS r) 1
  event : u.get EVT_SRC.STATUS (ringSource r) = 1

/-- R607, R611: a frame that joins an idle ring and ends with an error at once is written back with its STATUS, counts in ERRORS and
raises its ring's error event. `s'` is `s` but for counters that the ring's statistics do not share. -/
theorem txFailed_ringComplete {rs : List Reg} {s s' : State} {r status : Nat} {descs : List (List Word)} (hr : r < 512) (hs : Settled s)
    (hw : Within rs s s') (hrs : Reg.HIF_RING_STAT ∉ rs) (hq : (s.ring r).txq = []) (hring : s'.ring r = (s.txFetch r descs).2.ring r)
    (hst : status ≠ 0) (hlt : status < 256) :
    TxFailed s (s'.ringComplete r (s.ring r).nextId status none).flushEvents r descs status := by
  have hring' := hring
  rw [txFetch_ring, hq, List.nil_append] at hring'
  obtain ⟨t, hu, hget, ht⟩ := ringComplete_alone s' r (s.ring r).nextId (s.ring r).fetched status descs none (by rw [hring'])
  have hok : (status == 0) = false := by simpa using hst
  rw [hok] at hu
  obtain ⟨un, hun⟩ := ringReport_ring (t.ringCountFrame r false) r descs.length false
  rw [← hu, ringCountFrame_ring, ht, hring'] at hun
  have hsrc := (hw.append (Within.ringComplete s' r (s.ring r).nextId status none hr)).source_lt hs
  constructor
  case txq => simp [hun]
  case head => simp [hun, ringCount]
  case wbs => simp [hun, txBacks_length]
  case status =>
    intro wb hwb
    rw [flushEvents_ring, hun, List.drop_left] at hwb
    exact txBacks_status hlt hwb
  case errors =>
    rw [flushEvents_get _ _ r hsrc (by decide) (by decide) (by omega), hu, ringEnd_get_errors t r _ hr, hget,
      hw.get HIF_RING_STAT.ERRORS r hrs (by decide) (by omega)]
  case event =>
    have he : ⟨ringSource r, 3, r, descs.length, 0⟩ ∈ (s'.ringComplete r (s.ring r).nextId status none).evt.raised := by
      rw [hu]
      exact ringReport_raises_error _ r descs.length
    exact flushEvents_get_status _ hsrc _ ⟨_, he, rfl⟩

end Sys2Proof.Machine
end

section
/-!
PROOFS. Receive rings (R612, R613): taking a frame off its queue, writing it into buffers, and what both leave.
-/

namespace Sys2Proof.Machine

/-! ### A queue replaced -/

/-- The registers that follow a queue's contents. -/
def queueRegs : List Reg := [.QMG_QSTAT, .FAB_BUF_STATUS, .LET_STREAM_STATUS, .SCH_LAT_STATUS]

/-- The state without what follows a queue's contents: the register file, the events, the queues and the let streams. -/
def State.besideQueues (s : State) : State := { s with regs := [], evt := {}, q := {}, lets := {} }

theorem besideQueues_of_noRegs {s t : State} (h : t.noRegs = s.noRegs) : t.besideQueues = s.besideQueues :=
  congrArg (fun x : State => { x with evt := {}, q := {}, lets := {} }) h

theorem part_of_besideQueues {β : Type} (g : State → β) (hg : ∀ s, g s.besideQueues = g s) {s t : State}
    (h : t.besideQueues = s.besideQueues) : g t = g s := by
  rw [← hg t, h, hg]

@[simp] theorem bufShow_noRegs (s : State) (n : Nat) : (s.bufShow n).noRegs = s.noRegs := rfl

theorem Within.bufShow (s : State) (n : Nat) (hn : n < 8192) : Within queueRegs s (s.bufShow n) := by
  unfold State.bufShow
  exact (((((Within.refl _ s).thenSet FAB_BUF_STATUS.FREE n _ (by decide) hn).thenSet FAB_BUF_STATUS.POOL_FREE n _ (by decide) hn).thenSet
    FAB_BUF_STATUS.GUAR n _ (by decide) hn).thenSet FAB_BUF_STATUS.HDRM_RSV n _ (by decide) hn).thenSet FAB_BUF_STATUS.COMPL_RSV n _
    (by decide) hn

/-- R331: judging a stream's window touches its registers, its working state and its event. -/
theorem letWindow_keeps {β : Type} (g : State → β) (hset : ∀ s f i v, g (State.set s f i v) = g s)
    (hraise : ∀ s a b c, g (State.raise s a b c) = g s) (hlet : ∀ s i f, g (State.onLet i f s) = g s)
    (s : State) (st : Nat) : g (s.letWindow st) = g s := by
  unfold State.letWindow
  dsimp only
  rw [when_keeps g _ _ _ (hlet _ _ _), when_keeps g _ _ _ (hlet _ _ _), when_keeps g _ _ _ (hset _ _ _ _), when_keeps g _ _ _ (hraise _ _ _ _),
    hset]

/-- What judging windows keeps, showing a queue keeps. -/
theorem letQueueShow_keeps {β : Type} (g : State → β) (hwin : ∀ s st, g (State.letWindow st s) = g s) (s : State) (q : Nat) (free : Bool) :
    g (s.letQueueShow q free) = g s := by
  have hof (t : State) (st : Nat) : g (t.letWindowOf st) = g t := by
    unfold State.letWindowOf
    split
    · rfl
    · exact hwin t st
  unfold State.letQueueShow
  split
  · refine forN_keeps g _ (fun st t => ?_) 256 s
    split
    · exact hof t st
    · rfl
  · split
    · exact hof s _
    · rfl

@[simp] theorem letQueueShow_besideQueues (s : State) (q : Nat) (free : Bool) : (s.letQueueShow q free).besideQueues = s.besideQueues :=
  letQueueShow_keeps State.besideQueues
    (letWindow_keeps State.besideQueues (fun _ _ _ _ => rfl) (fun _ _ _ _ => rfl) (fun _ _ _ => rfl)) s q free

@[simp] theorem letQueueShow_q (s : State) (q : Nat) (free : Bool) : (s.letQueueShow q free).q = s.q :=
  letQueueShow_keeps State.q (letWindow_keeps State.q (fun _ _ _ _ => rfl) (fun _ _ _ _ => rfl) (fun _ _ _ => rfl)) s q free

theorem Within.letWindow (s : State) (st : Nat) (hst : st < 256) : Within queueRegs s (s.letWindow st) := by
  have hlet (t : State) (f : LetStream → LetStream) : Within queueRegs t (t.onLet st f) := .of_parts _ rfl rfl
  unfold State.letWindow
  dsimp only
  refine Within.trans (Within.trans (Within.trans (Within.trans ((Within.refl _ s).thenSet LET_STREAM_STATUS.FULL st _ (by decide)
    (by omega)) (.when _ ?event)) (.when _ ?suspend)) (.when _ (hlet _ _))) (.when _ (hlet _ _))
  case event => exact .raise _ _ _ _ _ _ (by omega)
  case suspend => exact (Within.refl _ _).thenSet _ _ _ (by decide) (by omega)

theorem Within.letWindowOf (s : State) (st : Nat) (hst : st < 256) : Within queueRegs s (s.letWindowOf st) := by
  unfold State.letWindowOf
  split
  · exact .refl _ s
  · exact .letWindow s st hst

theorem Within.letQueueShow (s : State) (q : Nat) (free : Bool) : Within queueRegs s (s.letQueueShow q free) := by
  unfold State.letQueueShow
  split
  · refine Within.forN s 256 _ fun st hst t => ?_
    split
    · exact .letWindowOf t st hst
    · exact .refl _ t
  · split
    · exact .letWindowOf s _ (by omega)
    · exact .refl _ s

/-- The queues after one of them has been replaced. -/
theorem putQueue_queue_same (s : State) (q : Nat) (x : Queue) : (s.putQueue q x).queue q = x := by
  unfold State.putQueue
  simp only [State.queue, letQueueShow_q]
  exact KMap.get_set_same _ _ _ _

theorem putQueue_besideQueues (s : State) (q : Nat) (x : Queue) : (s.putQueue q x).besideQueues = s.besideQueues := by
  unfold State.putQueue
  simp only [letQueueShow_besideQueues]
  rfl

theorem Within.putQueue (s : State) (q : Nat) (x : Queue) (hq : q < 4096) : Within queueRegs s (s.putQueue q x) := by
  have hq' : q < 8192 := by omega
  have hn : queueRegion q < 8192 := by unfold queueRegion; omega
  have hstat (t : State) (a b c d e f : Nat) : Within queueRegs t ((((((t.set QMG_QSTAT.CELLS q a).set QMG_QSTAT.HEAD q b).set
      QMG_QSTAT.TAIL q c).set QMG_QSTAT.CHUNKS q d).set QMG_QSTAT.FLUSHING q e).set FAB_BUF_STATUS.CHUNKS_FREE (queueRegion q) f) :=
    ((((((Within.refl _ t).thenSet _ q a (by decide) hq').thenSet _ q b (by decide) hq').thenSet _ q c (by decide) hq').thenSet
      _ q d (by decide) hq').thenSet _ q e (by decide) hq').thenSet _ _ f (by decide) hn
  have hq (x : QState) : Within queueRegs s { s with q := x } := .of_parts _ rfl rfl
  unfold State.putQueue
  exact (((hq _).trans (hstat _ _ _ _ _ _ _)).trans (.bufShow _ _ hn)).trans (.letQueueShow _ q _)

/-! ### A frame taken off its queue -/

theorem Queue.entries_settle (x : Queue) : x.settle.entries = x.entries := by
  unfold Queue.settle
  split
  · next hm => simp [Queue.entries, List.isEmpty_iff.mp hm]
  · rfl

/-- Without its head item a queue holds what followed it. -/
theorem Queue.entries_dropHead (x : Queue) (h : x.head ≠ []) : ({ x with head := x.head.drop 1 } : Queue).entries = x.entries.drop 1 := by
  cases hh : x.head with
  | nil => exact absurd hh h
  | cons e rest => simp [Queue.entries, hh]

theorem headItem_head {s : State} {q : Nat} {it : Item} (h : s.headItem q = some it) : (s.queue q).head ≠ [] := by
  intro hnil
  simp [State.headItem, hnil] at h

/-- R612: the frame at the head of a queue leaves it for a receive ring, and takes its delay sample. -/
def State.rxTake (q : Nat) (it : Item) (s : State) : State :=
  (s.putQueue q ({ s.queue q with head := (s.queue q).head.drop 1 }).settle).delayTake q it

/-- R432, R433: a delay sample changes the latency statistics, or counts one spoiled by a time step. -/
theorem delayTake_eq (s : State) (q : Nat) (it : Item) : ∃ lat hist disc,
    s.delayTake q it = ({ s with q := { s.q with lat := lat, hist := hist } } : State).when disc fun t => t.inc SCH_LAT_STATUS.STEP_DISC 0 := by
  unfold State.delayTake
  split
  · exact ⟨s.q.lat, s.q.hist, false, rfl⟩
  · exact ⟨_, s.q.hist, true, rfl⟩
  · unfold State.delaySample
    dsimp only [State.putLat]
    exact ⟨_, _, false, rfl⟩

theorem delayTake_besideQueues (s : State) (q : Nat) (it : Item) : (s.delayTake q it).besideQueues = s.besideQueues := by
  obtain ⟨lat, hist, disc, h⟩ := delayTake_eq s q it
  rw [h, when_keeps State.besideQueues _ _ _ (besideQueues_of_noRegs (inc_noRegs _ _ _ _))]
  rfl

theorem delayTake_queue (s : State) (q k : Nat) (it : Item) : (s.delayTake q it).queue k = s.queue k := by
  obtain ⟨lat, hist, disc, h⟩ := delayTake_eq s q it
  rw [h, when_keeps (State.queue · k) _ _ _ (part_of_noRegs (State.queue · k) (fun _ => rfl) (inc_noRegs _ _ _ _))]
  rfl

theorem Within.delayTake (s : State) (q : Nat) (it : Item) : Within queueRegs s (s.delayTake q it) := by
  obtain ⟨lat, hist, disc, h⟩ := delayTake_eq s q it
  have hlat : Within queueRegs s { s with q := { s.q with lat := lat, hist := hist } } := .of_parts _ rfl rfl
  rw [h]
  exact hlat.trans (.when _ (.inc _ SCH_LAT_STATUS.STEP_DISC 0 1 (by decide) (by decide) (by omega)))

theorem Within.rxTake (s : State) (q : Nat) (it : Item) (hq : q < 4096) : Within queueRegs s (s.rxTake q it) :=
  (Within.putQueue s q _ hq).trans (.delayTake _ q it)

theorem rxTake_ring (s : State) (q r : Nat) (it : Item) : (s.rxTake q it).ring r = s.ring r :=
  part_of_besideQueues (State.ring · r) (fun _ => rfl) ((delayTake_besideQueues _ q it).trans (putQueue_besideQueues s q _))

theorem rxTake_entries {s : State} {q : Nat} {it : Item} (h : s.headItem q = some it) :
    ((s.rxTake q it).queue q).entries = (s.queue q).entries.drop 1 := by
  rw [State.rxTake, delayTake_queue, putQueue_queue_same, Queue.entries_settle, Queue.entries_dropHead _ (headItem_head h)]

theorem rxHead_some {s : State} {r q : Nat} {it : Item} (h : s.rxHead r = some (q, it)) : s.headItem q = some it ∧ q < 4096 := by
  simp only [State.rxHead, Option.map_eq_some_iff, Prod.mk.injEq] at h
  obtain ⟨it', hit, rfl, rfl⟩ := h
  exact ⟨hit, Word.bits_lt _ _ _⟩

/-! ### Write-backs of a received frame (R612, R613) -/

/-- The write-backs of a received frame. -/
def State.rxBacks (s : State) (r k status : Nat) (it : Item) : List RingWb := (List.range k).map fun i => s.rxBack r i k status it

theorem rxBacks_length (s : State) (r k status : Nat) (it : Item) : (s.rxBacks r k status it).length = k := by simp [State.rxBacks]

theorem rxBacks_status {s : State} {r k status : Nat} {it : Item} (hst : status < 256) {wb : RingWb} (h : wb ∈ s.rxBacks r k status it) :
    (wb.words.getD 3 0).bits 16 8 = status := by
  obtain ⟨i, -, rfl⟩ := List.mem_map.mp h
  have h3 : (s.rxBack r i k status it).words.getD 3 0 = BitVec.ofNat 64 (2 ^ 16 * status + 2 ^ 32) := rfl
  rw [h3, Word.bits, BitVec.toNat_ofNat]
  omega

/-- R613: the last buffer of a frame that ends with an error has LEN 0. -/
theorem rxBacks_last_len (s : State) (r k status : Nat) (it : Item) (hk : 0 < k) (hst : status ≠ 0) (d : RingWb) :
    (((s.rxBacks r k status it).getD (k - 1) d).words.getD 2 0).bits 0 14 = 0 := by
  have hlast : (s.rxBacks r k status it).getD (k - 1) d = s.rxBack r (k - 1) k status it := by
    simp [State.rxBacks, List.getD_eq_getElem?_getD, List.getElem?_map, List.getElem?_range (show k - 1 < k by omega)]
  have hone : k - 1 + 1 = k := by omega
  have hlen : (s.rxBack r (k - 1) k status it).words.getD 2 0 = BitVec.ofNat 64 (0 + 2 ^ 14 * natOfBool false + 2 ^ 16 * it.inPort
      + 2 ^ 22 * it.reason + 2 ^ 32 * (if it.isRx then it.sa else none).getD 0 + 2 ^ 48 * natOfBool (if it.isRx then it.sa else none).isSome) := by
    simp [State.rxBack, hone, hst]
  rw [hlast, hlen, Word.bits, BitVec.toNat_ofNat]
  omega

/-- Consecutive pieces of a list, put together. -/
theorem flatMap_pieces {α : Type} (l : List α) (b k : Nat) : ((List.range k).flatMap fun i => (l.drop (i * b)).take b) = l.take (k * b) := by
  induction k with
  | zero => simp
  | succ k ih => rw [List.range_succ, List.flatMap_append, ih, Nat.succ_mul, List.take_add]; simp

theorem rxBacks_data (s : State) (r : Nat) (it : Item) (hb : 0 < s.ringBuf r) :
    (s.rxBacks r (s.rxBuffers r it) 0 it).flatMap (·.data) = it.data := by
  have hdata (i : Nat) : (s.rxBack r i (s.rxBuffers r it) 0 it).data = (it.data.drop (i * s.ringBuf r)).take (s.ringBuf r) := by
    simp [State.rxBack]
  have hcover : it.data.length ≤ s.rxBuffers r it * s.ringBuf r := by
    have hmod := Nat.div_add_mod (it.data.length + s.ringBuf r - 1) (s.ringBuf r)
    have hlt := Nat.mod_lt (it.data.length + s.ringBuf r - 1) hb
    rw [State.rxBuffers, ceilDiv, Nat.mul_comm]
    omega
  rw [State.rxBacks, List.flatMap_map]
  simp only [hdata]
  rw [flatMap_pieces, List.take_of_length_le hcover]

/-! ### A received frame written (R612, R613) -/

/-- The ring after a frame has taken `k` of its buffers. -/
def Ring.afterRx (x : Ring) (k : Nat) (wbs : List RingWb) : Ring :=
  { x with head := ringCount (x.head + k), fetched := ringCount (x.head + k), wbs := x.wbs ++ wbs }

theorem rxWrite_eq (s : State) (r q k status : Nat) (it : Item) : s.rxWrite r q k status it =
    (((((s.rxTake q it).onRing r fun x => x.afterRx k (s.rxBacks r k status it)).dmaOctets
      (32 * k + sumOf (s.rxBacks r k status it) fun w => w.data.length)).ringCountFrame r (status == 0)).ringReport r k (status == 0)) := rfl

/-- The registers that the end of a transfer may change. -/
def hifRegs : List Reg := queueRegs ++ ringRegs

theorem Within.rxWrite (s : State) (r q k status : Nat) (it : Item) (hr : r < 512) (hq : q < 4096) :
    Within hifRegs s (s.rxWrite r q k status it) := by
  rw [rxWrite_eq]
  exact (Within.rxTake s q it hq).append (((Within.onRing ringRegs _ r _).trans (.dmaOctets_ringRegs _ _)).trans (.ringEnd _ r k _ hr))

theorem rxWrite_ring (s : State) (r q k status : Nat) (it : Item) :
    ∃ un, (s.rxWrite r q k status it).ring r = { (s.ring r).afterRx k (s.rxBacks r k status it) with unreported := un } := by
  rw [rxWrite_eq]
  obtain ⟨un, hun⟩ := ringReport_ring ((((s.rxTake q it).onRing r fun x => x.afterRx k (s.rxBacks r k status it)).dmaOctets
    (32 * k + sumOf (s.rxBacks r k status it) fun w => w.data.length)).ringCountFrame r (status == 0)) r k (status == 0)
  exact ⟨un, by rw [hun]; simp [rxTake_ring]⟩

theorem rxWrite_queue (s : State) (r q k status n : Nat) (it : Item) : (s.rxWrite r q k status it).queue n = (s.rxTake q it).queue n := by
  rw [rxWrite_eq]
  exact part_of_besideHif (State.queue · n) (fun _ => rfl) (by simp)

theorem rxWrite_get (s : State) (r q k status : Nat) (it : Item) (hr : r < 512) (hq : q < 4096) :
    (s.rxWrite r q k status it).get (if status == 0 then HIF_RING_STAT.FRAMES else HIF_RING_STAT.ERRORS) r
      = satAdd (if status == 0 then 32 else 16) (s.get (if status == 0 then HIF_RING_STAT.FRAMES else HIF_RING_STAT.ERRORS) r) 1 := by
  have hbefore (n : Nat) : Within (queueRegs ++ pmcRegs) s (((s.rxTake q it).onRing r fun x => x.afterRx k (s.rxBacks r k status it)).dmaOctets n) :=
    (Within.rxTake s q it hq).append ((Within.onRing pmcRegs _ r _).trans (.dmaOctets _ n))
  rw [rxWrite_eq, ringEnd_get _ r k _ hr, (hbefore _).get _ r (by cases status == 0 <;> decide) (by cases status == 0 <;> decide) (by omega)]

/-- What stands after the frame at the head of a queue has been written into `k` buffers of a receive ring with a STATUS. -/
structure RxWritten (s u : State) (r q k status : Nat) (it : Item) : Prop where
  wbs : (u.ring r).wbs.drop (s.ring r).wbs.length = s.rxBacks r k status it
  head : (u.ring r).head = ((s.ring r).head + k) % 131072
  queue : (u.queue q).entries = (s.queue q).entries.drop 1
  count : u.get (if status == 0 then HIF_RING_STAT.FRAMES else HIF_RING_STAT.ERRORS) r
    = satAdd (if status == 0 then 32 else 16) (s.get (if status == 0 then HIF_RING_STAT.FRAMES else HIF_RING_STAT.ERRORS) r) 1

theorem rxWritten_rxWrite {s : State} {r q : Nat} {it : Item} (k status : Nat) (hs : Settled s) (hr : r < 512)
    (hit : s.headItem q = some it) (hq : q < 4096) : RxWritten s (s.rxWrite r q k status it).flushEvents r q k status it := by
  have hw := Within.rxWrite s r q k status it hr hq
  obtain ⟨un, hun⟩ := rxWrite_ring s r q k status it
  constructor
  case wbs => simp [hun, Ring.afterRx]
  case head => simp [hun, Ring.afterRx, ringCount]
  case queue =>
    rw [part_of_beside (State.queue · q) (fun _ => rfl) (flushEvents_beside _), rxWrite_queue, rxTake_entries hit]
  case count =>
    rw [hw.flushEvents_get hs _ r (by cases status == 0 <;> decide) (by cases status == 0 <;> decide) (by omega),
      rxWrite_get s r q k status it hr hq]

end Sys2Proof.Machine
end

section
/-!
PROOFS. Translations and page requests (R614 to R616), and the entries of the event sources (R620).
-/

namespace Sys2Proof.Machine

/-! ### A transfer whose page cannot be had (R616) -/

theorem dmaFault_tx (s : State) (r : Fin 256) (descs : List (List Word)) (h : descs ≠ []) :
    s.dmaFault (.tx r descs) = (s.txFetch r descs).2.ringComplete r (s.ring r).nextId 1 none := by
  simp [State.dmaFault, h, State.txFetch]

theorem Within.dmaFault (s : State) (x : DmaXfer) : Within hifRegs s (s.dmaFault x) := by
  cases x with
  | tx r descs =>
    by_cases h : descs = []
    · simpa [State.dmaFault, h] using Within.refl hifRegs s
    · rw [dmaFault_tx s r descs h]
      exact ((Within.txFetch s r descs).mono (by decide)).trans ((Within.ringComplete _ r _ 1 none (by omega)).mono (by decide))
  | rx r buf =>
    unfold State.dmaFault
    dsimp only
    split
    · next q it hhead => exact .rxWrite s _ q _ 1 it (by omega) (rxHead_some hhead).2
    · exact .refl _ s
  | other => exact .refl _ s

/-- A transfer that ends leaves what its ring keeps of a waiting transfer. -/
theorem dmaFault_waiting (s : State) (x : DmaXfer) (k : Nat) (hk : xferRing x = some k) :
    ((s.dmaFault x).ring k).waiting = (s.ring k).waiting := by
  cases x with
  | tx r descs =>
    obtain rfl : r.val = k := by simpa [xferRing] using hk
    by_cases h : descs = []
    · simp [State.dmaFault, h]
    · rw [dmaFault_tx s r descs h, ringComplete_waiting, txFetch_ring]
      rfl
  | rx r buf =>
    obtain rfl : 256 + r.val = k := by simpa [xferRing] using hk
    unfold State.dmaFault
    dsimp only
    split
    · next q it _ =>
      obtain ⟨un, hun⟩ := rxWrite_ring s (256 + r) q (min (s.rxBuffers (256 + r) it) (buf + 1)) 1 it
      rw [hun]
      rfl
    · rfl
  | other => simp [xferRing] at hk

/-- The transfer that waits on a ring is the ring's own. -/
theorem waitXfer_ring (s : State) (r : Nat) (hr : r < 512) (h : (s.ring r).wait ≠ none) : xferRing (s.waitXfer r) = some r := by
  obtain ⟨⟨descs, buf⟩, hwait⟩ := Option.ne_none_iff_exists'.mp h
  rw [State.waitXfer, hwait]
  dsimp only
  split
  · exact congrArg some (show r % 256 = r by omega)
  · exact congrArg some (show 256 + (r - 256) % 256 = r by omega)

/-! ### Page requests (R615, R616) -/

theorem priOff_reg (fn : Nat) : (priOff fn).reg = .HIF_DMA_STATUS ∧ (priOff fn).word = 0 ∧ (priOff fn).width = 1 ∧ (priOff fn).lo ≤ 1
    ∧ (priOff fn).fits = true := by
  unfold priOff
  split <;> decide

/-- R616: the state in which the failure of a page request has been counted and raised. -/
def State.pageFailed (s : State) : State := (s.inc HIF_DMA_STATUS.PRI_FAIL 0).raise 152 3

theorem Within.pageFailed (s : State) : Within [.HIF_DMA_STATUS] s s.pageFailed :=
  (Within.inc s HIF_DMA_STATUS.PRI_FAIL 0 1 (by decide) (by decide) (by omega)).trans (.raise _ _ _ _ _ _ (by omega))

theorem pageFail_eq (s : State) (r : Option Nat) : s.pageFail r = match r with
    | some r => if (s.ring r).wait.isSome then (s.pageFailed.unstall r).dmaFault (s.waitXfer r) else s.pageFailed
    | none => s.pageFailed := rfl

theorem Within.pageFail (s : State) (r : Option Nat) : Within hifRegs s.pageFailed (s.pageFail r) := by
  rw [pageFail_eq]
  split
  · split
    · exact (Within.onRing hifRegs _ _ _).trans (.dmaFault _ _)
    · exact .refl _ _
  · exact .refl _ _

/-- R616: a transfer that waited for the page no longer does. -/
theorem pageFail_waiting (s : State) (r : Nat) (hr : r < 512) (h : (s.ring r).wait ≠ none) :
    ((s.pageFail (some r)).ring r).stalled = false ∧ ((s.pageFail (some r)).ring r).paging = false := by
  have hw : ((s.pageFail (some r)).ring r).waiting = (false, false, none) := by
    rw [pageFail_eq]
    simp only [Option.isSome_iff_ne_none.mpr h, if_true]
    rw [dmaFault_waiting _ _ r (waitXfer_ring s r hr h), State.unstall, onRing_ring_same]
    rfl
  simp only [Ring.waiting, Prod.mk.injEq] at hw
  exact ⟨hw.1, hw.2.1⟩

/-- What stands once a page request has failed. -/
structure PageFailed (s u : State) (r : Option (Fin 512)) : Prop where
  count : u.get HIF_DMA_STATUS.PRI_FAIL = satAdd 16 (s.get HIF_DMA_STATUS.PRI_FAIL) 1
  event : u.get EVT_SRC.STATUS 152 = 1
  ring : ∀ k, r = some k → (s.ring k).wait ≠ none → (u.ring k).stalled = false ∧ (u.ring k).paging = false

theorem pageFailed_pageFail (s : State) (r : Option (Fin 512)) (hs : Settled s) : PageFailed s (s.pageFail (r.map (·.val))).flushEvents r := by
  have hw := Within.pageFail s (r.map (·.val))
  have hall := (Within.pageFailed s).append hw
  constructor
  case count =>
    rw [hall.flushEvents_get hs _ 0 (by decide) (by decide) (by omega), hw.get _ 0 (by decide) (by decide) (by omega), State.pageFailed,
      raise_get, inc_get s _ 0 (by decide)]
    rfl
  case event =>
    refine flushEvents_get_status _ (hall.source_lt hs) 152 ⟨⟨152, 3, 0, 0, 0⟩, hw.raised _ ?_, rfl⟩
    simp [State.pageFailed]
  case ring =>
    rintro k rfl hwait
    simp only [flushEvents_ring]
    exact pageFail_waiting s k k.isLt hwait

/-- A failed page request leaves `PRI_OFF`. -/
theorem pageFail_get_priOff (s : State) (r : Option Nat) (fn : Nat) (hs : Settled s) :
    (s.pageFail r).flushEvents.get (priOff fn) = s.get (priOff fn) := by
  obtain ⟨hreg, hword, hwidth, hlo, hfits⟩ := priOff_reg fn
  have hw := Within.pageFail s r
  rw [((Within.pageFailed s).append hw).flushEvents_get hs _ 0 (by rw [hreg]; decide) (by omega) (by omega),
    hw.get _ 0 (by rw [hreg]; decide) (by omega) (by omega), State.pageFailed, raise_get, State.inc]
  exact get_set_ne s HIF_DMA_STATUS.PRI_FAIL (priOff fn) 0 0 _ (by omega) (by omega) (by decide) hfits
    (Or.inr (Or.inl (by rw [hwidth]; exact Nat.le_trans (Nat.add_le_add_right hlo 1) (by decide))))

/-- R615: what stands once a page request has been sent for the ring `k` of a transfer. -/
theorem pageRequest_ring (s : State) (x : DmaXfer) (k : Nat) (hk : xferRing x = some k) : s.pageRequest x =
    (((s.inc HIF_DMA_STATUS.PRI_REQ 0).onRing k fun y => { y with stalled := true, paging := true, wait := some (xferWait x) }).inc
      HIF_RING_STAT.STALLS k).raise (ringSource k) 4 k := by
  simp only [State.pageRequest, hk]

theorem xferRing_lt {x : DmaXfer} {k : Nat} (h : xferRing x = some k) : k < 512 := by
  cases x <;> simp [xferRing] at h <;> omega

/-! ### Event sources (R620) -/

/-- A field of an event source after a write of one of its fields. -/
theorem evtSrc_set_get {f g : Field} (hf : f ∈ Reg.EVT_SRC.fields) (hg : g ∈ Reg.EVT_SRC.fields) (s : State) (i v : Nat) (hi : i < 512) :
    (s.set f i v).get g i = if g = f then v % 2 ^ g.width else s.get g i := by
  have hreg : ∀ f ∈ Reg.EVT_SRC.fields, f.fits = true ∧ f.reg = .EVT_SRC ∧ f.word = 0 := by decide
  obtain ⟨hffit, hfreg, hfword⟩ := hreg f hf
  obtain ⟨hgfit, hgreg, hgword⟩ := hreg g hg
  split
  · next h => rw [h, get_set_same s f i v (field_fits hf).1]
  · next h =>
    refine get_set_ne s f g i i v (by omega) (by omega) hffit hgfit (Or.inr ?_)
    simpa [Field.apart, hfword, hgword] using fields_apart hg hf h

end Sys2Proof.Machine
end

section
/-!
PROOFS. The commands of the rings, of the translations and page requests and of the event sources (R606 to R616, R620, R621), and the
obligation on them.
-/

namespace Sys2Proof.Machine

theorem ends_of_exec {c : Instr} {s x y : State} (h : exec c s = finish y) (hy : y = x) : Ends c s x := by rw [Ends, h, hy]; rfl

/-! ### The doorbell page (R606, Table 19-3) -/

theorem exec_ringDoorbell_tail (r : Fin 512) (tail : BitVec 17) (s : State) :
    exec (.ringDoorbell r (.tail tail)) s = finish (s.tailWrite r tail.toNat) := rfl

theorem exec_ringDoorbell_read (r : Fin 512) (off : BitVec 12) (s : State) :
    exec (.ringDoorbell r (.read off)) s = finish { s with bus := .data (s.ringPage r off.toNat) } := rfl

/-- The status word of a doorbell page. -/
theorem ringPage_status (s : State) (r : Nat) :
    Word.bits (s.ringPage r 0x010) 0 2 = s.get HIF_RING_CFG.STATE r ∧ Word.flag (s.ringPage r 0x010) 2 = (s.ring r).stalled
      ∧ Word.flag (s.ringPage r 0x010) 3 = (s.ring r).err ∧ Word.bits (s.ringPage r 0x010) 4 60 = 0 := by
  have hst : s.get HIF_RING_CFG.STATE r < 4 := Word.bits_lt _ _ _
  have hpage : s.ringPage r 0x010 = mkWord [(0, s.get HIF_RING_CFG.STATE r), (2, natOfBool (s.ring r).stalled), (3, natOfBool (s.ring r).err)] := rfl
  rw [hpage]
  generalize s.get HIF_RING_CFG.STATE r = st at hst
  cases (s.ring r).stalled <;> cases (s.ring r).err <;> interval_cases st <;> decide

/-- The other offsets of a doorbell page read 0. -/
theorem ringPage_other (s : State) (r : Nat) (off : BitVec 12) (h : off ∉ [0x000, 0x008, 0x010]) : s.ringPage r off.toNat = 0 := by
  have hne (v : BitVec 12) (hv : v ∈ [0x000#12, 0x008, 0x010]) : off.toNat ≠ v.toNat := fun heq => h (BitVec.eq_of_toNat_eq heq ▸ hv)
  unfold State.ringPage
  dsimp only
  split
  · next heq => exact absurd heq (hne 0x000 (by decide))
  · next heq => exact absurd heq (hne 0x008 (by decide))
  · next heq => exact absurd heq (hne 0x010 (by decide))
  · rfl

/-! ### Transmit (R609, R610) -/

/-- The next frame of a transmit ring is posted and makes a frame. -/
def State.txDue (s : State) (r : Nat) (descs : List (List Word)) (data : List Byte) (bad : Bool) : Prop :=
  s.get HIF_RING_CFG.STATE r ≠ 0 ∧ (s.ring r).stalled = false ∧ descChain descs = true ∧ descs.length ≤ (s.ring r).posted
    ∧ (descLengthsOk descs = true → bad = false → data.length = sumOf descs descLen)

/-- The STATUS that the checks of a fetched frame give. -/
def State.txVerdict (s : State) (r : Nat) (descs : List (List Word)) (data : List Byte) (bad : Bool) : Nat :=
  (s.txFetch r descs).2.txStatus descs bad ((s.txFetch r descs).2.txItem r (s.ring r).nextId descs data)

section
variable (s : State) (r : Fin 256) (descs : List (List Word)) (data : List Byte) (bad : Bool)

theorem exec_tx_notDue (h : ¬ s.txDue r descs data bad) : exec (.txFrameDmaDone r descs data bad) s = finish s := by
  refine congrArg finish (if_pos ?_)
  by_contra hc
  apply h
  simp only [Bool.or_eq_true, Bool.and_eq_true, beq_iff_eq, Bool.not_eq_true', decide_eq_true_eq, bne_iff_ne, not_or, not_and,
    Nat.not_lt, Decidable.not_not, Bool.not_eq_true, Bool.not_eq_false] at hc
  obtain ⟨⟨⟨⟨hstate, hstall⟩, hchain⟩, hposted⟩, hlen⟩ := hc
  exact ⟨hstate, hstall, hchain, hposted, fun hok hbad => hlen ⟨hok, hbad⟩⟩

/-- A due frame is fetched, and enters or completes as its checks say. -/
theorem exec_tx_due (h : s.txDue r descs data bad) : exec (.txFrameDmaDone r descs data bad) s = finish
    (match s.txVerdict r descs data bad with
      | 0 => ((s.txFetch r descs).2.dmaOctets data.length).txEnter ((s.txFetch r descs).2.txItem r (s.ring r).nextId descs data)
      | st => ((s.txFetch r descs).2.when (st == 2) fun s => s.inc HIF_DMA_STATUS.HOST_ERR 0).ringComplete r (s.ring r).nextId st none) := by
  obtain ⟨hstate, hstall, hchain, hposted, hlen⟩ := h
  refine congrArg finish (if_neg ?_)
  simp only [Bool.or_eq_true, Bool.and_eq_true, beq_iff_eq, Bool.not_eq_true', decide_eq_true_eq, bne_iff_ne, not_or, not_and,
    Nat.not_lt, Decidable.not_not, Bool.not_eq_true, Bool.not_eq_false]
  exact ⟨⟨⟨⟨hstate, hstall⟩, hchain⟩, hposted⟩, fun hc => hlen hc.1 hc.2⟩

theorem exec_tx_accepted (h : s.txDue r descs data bad) (hst : s.txVerdict r descs data bad = 0) :
    exec (.txFrameDmaDone r descs data bad) s =
      finish (((s.txFetch r descs).2.dmaOctets data.length).txEnter ((s.txFetch r descs).2.txItem r (s.ring r).nextId descs data)) := by
  rw [exec_tx_due s r descs data bad h, hst]
  rfl

theorem exec_tx_failed (h : s.txDue r descs data bad) (hst : s.txVerdict r descs data bad ≠ 0) :
    exec (.txFrameDmaDone r descs data bad) s =
      finish (((s.txFetch r descs).2.when (s.txVerdict r descs data bad == 2) fun s => s.inc HIF_DMA_STATUS.HOST_ERR 0).ringComplete r
        (s.ring r).nextId (s.txVerdict r descs data bad) none) := by
  rw [exec_tx_due s r descs data bad h]
  split
  · next h0 => exact absurd h0 hst
  · rfl

end

theorem txStatus_le (s : State) (descs : List (List Word)) (bad : Bool) (it : Item) : s.txStatus descs bad it ≤ 4 := by
  unfold State.txStatus
  dsimp only
  repeat' split
  all_goals omega

theorem chargeRing_keeps (s : State) (it : Item) (add : Bool) :
    (s.chargeRing it add).besideQueues = s.besideQueues ∧ (s.chargeRing it add).evt = s.evt := by
  unfold State.chargeRing
  split
  · exact ⟨rfl, rfl⟩
  · exact ⟨(besideQueues_of_noRegs (bufShow_noRegs _ _)).trans rfl, (part_of_noRegs State.evt (fun _ => rfl) (bufShow_noRegs _ _)).trans rfl⟩

/-- R610: an accepted frame under an SC without a one-step operation joins the sequencer of the SC's port. -/
theorem txEnter_protected (s : State) (it : Item) (sc : ScEntry) (hsc : it.scFields = some sc) (hop : it.ts.op < 2) :
    s.txEnter it = (s.chargeRing it true).onSeq (seqOf sc.inPort) fun x => { x with fifo := x.fifo ++ [it] } := by
  simp only [State.txEnter, hsc, hop, if_true]

/-- What stands when an accepted frame has been fetched and has joined its sequencer. -/
theorem txEnter_protected_parts (s : State) (r n : Nat) (descs : List (List Word)) (it : Item) (sc : ScEntry) (hsc : it.scFields = some sc)
    (hop : it.ts.op < 2) :
    let u := ((s.txFetch r descs).2.dmaOctets n).txEnter it
    u.evt = s.evt ∧ (u.seq (seqOf sc.inPort)).fifo = (s.seq (seqOf sc.inPort)).fifo ++ [it]
      ∧ (u.ring r).fetched = ((s.ring r).fetched + descs.length) % 131072 ∧ (u.ring r).wbs = (s.ring r).wbs ∧ u.tbl = s.tbl := by
  obtain ⟨hcharge, hevt⟩ := chargeRing_keeps ((s.txFetch r descs).2.dmaOctets n) it true
  have hdma : ((s.txFetch r descs).2.dmaOctets n).besideHif = s.besideHif := (dmaOctets_besideHif _ n).trans (txFetch_besideHif s r descs)
  rw [txEnter_protected _ it sc hsc hop]
  generalize ((s.txFetch r descs).2.dmaOctets n).chargeRing it true = t at hcharge hevt
  have hpath : t.path = s.path :=
    (part_of_besideQueues State.path (fun _ => rfl) hcharge).trans (part_of_besideHif State.path (fun _ => rfl) hdma)
  have htbl : t.tbl = s.tbl :=
    (part_of_besideQueues State.tbl (fun _ => rfl) hcharge).trans (part_of_besideHif State.tbl (fun _ => rfl) hdma)
  have hring : t.ring r = (s.txFetch r descs).2.ring r :=
    (part_of_besideQueues (State.ring · r) (fun _ => rfl) hcharge).trans (dmaOctets_ring _ n r)
  rw [txFetch_ring] at hring
  have hseq : ((t.onSeq (seqOf sc.inPort) fun x => { x with fifo := x.fifo ++ [it] }).seq (seqOf sc.inPort))
      = { s.seq (seqOf sc.inPort) with fifo := (s.seq (seqOf sc.inPort)).fifo ++ [it] } := by
    simp only [State.seq, State.onSeq, KMap.get_set_same, hpath]
  have hring' : (t.onSeq (seqOf sc.inPort) fun x => { x with fifo := x.fifo ++ [it] }).ring r = t.ring r := rfl
  refine ⟨hevt.trans (by simp), ?_, ?_, ?_, htbl⟩
  · rw [hseq]
  · rw [hring', hring, ringCount]
  · rw [hring', hring]

theorem txEnter_plain (s : State) (it : Item) (hsc : it.scFields = none) : s.txEnter it = (s.chargeRing it true).route it := by
  simp only [State.txEnter, hsc]

/-! ### Receive (R612, R613) -/

/-- The frame at the head of a receive ring's queue fits the posted buffers of the ring. -/
def State.rxDue (s : State) (k q : Nat) (it : Item) : Prop :=
  s.rxHead k = some (q, it) ∧ s.get HIF_RING_CFG.STATE k ≠ 0 ∧ (s.ring k).stalled = false ∧ s.rxBuffers k it ≤ (s.ring k).posted

theorem exec_rx_head (s : State) (r : Fin 256) (buf : Fin 64) (how : DmaEnd) (q : Nat) (it : Item) (h : s.rxHead (256 + r) = some (q, it)) :
    exec (.rxFrameWrite r buf how) s = finish
      (if s.get HIF_RING_CFG.STATE (256 + r) == 0 || (s.ring (256 + r)).stalled || (s.ring (256 + r)).posted < s.rxBuffers (256 + r) it then s
      else match how with
        | .ok => s.rxWrite (256 + r) q (s.rxBuffers (256 + r) it) 0 it
        | .hostErr => (s.inc HIF_DMA_STATUS.HOST_ERR 0).rxWrite (256 + r) q (min (s.rxBuffers (256 + r) it) (buf + 1)) 2 it
        | .memErr => s.rxWrite (256 + r) q (min (s.rxBuffers (256 + r) it) (buf + 1)) 3 it) := by
  refine congrArg finish ?_
  cases how <;> simp only [h]

theorem exec_rx_notDue (s : State) (r : Fin 256) (buf : Fin 64) (how : DmaEnd) (h : ∀ q it, ¬ s.rxDue (256 + r) q it) :
    exec (.rxFrameWrite r buf how) s = finish s := by
  cases hhead : s.rxHead (256 + r) with
  | none =>
    refine congrArg finish ?_
    simp only [hhead]
  | some x =>
    obtain ⟨q, it⟩ := x
    rw [exec_rx_head s r buf how q it hhead, if_pos]
    by_contra hc
    simp only [Bool.or_eq_true, beq_iff_eq, decide_eq_true_eq, not_or, Nat.not_lt, Bool.not_eq_true] at hc
    exact h q it ⟨hhead, hc.1.1, hc.1.2, hc.2⟩

theorem exec_rx_due {s : State} {r : Fin 256} (buf : Fin 64) (how : DmaEnd) {q : Nat} {it : Item} (h : s.rxDue (256 + r) q it) :
    exec (.rxFrameWrite r buf how) s = finish (match how with
        | .ok => s.rxWrite (256 + r) q (s.rxBuffers (256 + r) it) 0 it
        | .hostErr => (s.inc HIF_DMA_STATUS.HOST_ERR 0).rxWrite (256 + r) q (min (s.rxBuffers (256 + r) it) (buf + 1)) 2 it
        | .memErr => s.rxWrite (256 + r) q (min (s.rxBuffers (256 + r) it) (buf + 1)) 3 it) := by
  obtain ⟨hhead, hstate, hstall, hposted⟩ := h
  rw [exec_rx_head s r buf how q it hhead, if_neg (by simp [hstate, hstall, hposted])]

/-- R613: what stands after a received frame has ended with an error. -/
theorem rxWritten_error {s u : State} {r q k status : Nat} {it : Item} (h : RxWritten s u r q k status it) (hst : status ≠ 0) (hlt : status < 256) :
    ((u.ring r).wbs.drop (s.ring r).wbs.length).length = k
    ∧ (∀ wb ∈ (u.ring r).wbs.drop (s.ring r).wbs.length, (wb.words.getD 3 0).bits 16 8 = status)
    ∧ (0 < k → ((((u.ring r).wbs.drop (s.ring r).wbs.length).getD (k - 1) ⟨0, [], []⟩).words.getD 2 0).bits 0 14 = 0)
    ∧ (u.queue q).entries = (s.queue q).entries.drop 1
    ∧ u.get HIF_RING_STAT.ERRORS r = satAdd 16 (s.get HIF_RING_STAT.ERRORS r) 1 := by
  have hok : (status == 0) = false := by simpa using hst
  have hcount := h.count
  simp only [hok, Bool.false_eq_true, if_false] at hcount
  rw [h.wbs]
  exact ⟨rxBacks_length s r k status it, fun wb hwb => rxBacks_status hlt hwb, fun hk => rxBacks_last_len s r k status it hk hst _, h.queue,
    hcount⟩

/-! ### Event sources (R620) -/

/-- R620: the writable fields of an event source written. -/
def State.evtSrcFields (i : Nat) (clear mask ring log : Bool) (vector : Nat) (s : State) : State :=
  ((((s.when clear fun s => s.set EVT_SRC.STATUS i 0).set EVT_SRC.MASK i (natOfBool mask)).set EVT_SRC.RING i (natOfBool ring)).when
    (i < 256) fun s => s.set EVT_SRC.LOG i (natOfBool log)).set EVT_SRC.VECTOR i vector

theorem exec_evtSrcWrite (i : Fin 512) (clear mask ring log : Bool) (v : BitVec 9) (s : State) :
    exec (.evtSrcWrite i clear mask ring log v) s = finish ((s.evtSrcFields i clear mask ring log v.toNat).when
      (s.flag EVT_SRC.MASK i && !mask && (s.evtSrcFields i clear mask ring log v.toNat).flag EVT_SRC.STATUS i) fun s => s.sendMsix i) := rfl

section
variable (s : State) (i : Nat) (clear mask ring log : Bool) (v : Nat)

@[simp] theorem evtSrcFields_noRegs : (s.evtSrcFields i clear mask ring log v).noRegs = s.noRegs := by
  rw [State.evtSrcFields, set_noRegs, when_keeps State.noRegs _ _ _ (set_noRegs _ _ _ _), set_noRegs, set_noRegs,
    when_keeps State.noRegs _ _ _ (set_noRegs _ _ _ _)]

theorem Within.evtSrcFields (hi : i < 512) : Within [.EVT_SRC] s (s.evtSrcFields i clear mask ring log v) :=
  ((((Within.when clear (.set s EVT_SRC.STATUS i 0 (by decide) (by decide) (by omega))).thenSet EVT_SRC.MASK i _ (by decide) (by omega)).thenSet
    EVT_SRC.RING i _ (by decide) (by omega)).trans (.when _ (.set _ EVT_SRC.LOG i _ (by decide) (by decide) (by omega)))).thenSet
    EVT_SRC.VECTOR i v (by decide) (by omega)

/-- What the fields of an event source read after the write. -/
theorem evtSrcFields_get (hi : i < 512) (hv : v < 512) :
    let t := s.evtSrcFields i clear mask ring log v
    t.get EVT_SRC.STATUS i = (if clear then 0 else s.get EVT_SRC.STATUS i) ∧ t.get EVT_SRC.MASK i = (if mask then 1 else 0)
      ∧ t.get EVT_SRC.RING i = (if ring then 1 else 0) ∧ t.get EVT_SRC.VECTOR i = v
      ∧ (i < 256 → t.get EVT_SRC.LOG i = (if log then 1 else 0)) := by
  have hset (f : Field) (hf : f ∈ Reg.EVT_SRC.fields) (g : Field) (hg : g ∈ Reg.EVT_SRC.fields) (t : State) (x : Nat) :=
    evtSrc_set_get hf hg t i x hi
  have hwhen (c : Bool) (t : State) (u : State → State) (g : Field) : (t.when c u).get g i = if c then (u t).get g i else t.get g i := by
    cases c <;> rfl
  have hbit (g : Field) (hg : g.width = 1) (b : Bool) : natOfBool b % 2 ^ g.width = if b then 1 else 0 := by
    rw [hg]
    cases b <;> rfl
  intro t
  refine ⟨?status, ?mask, ?ring, ?vector, fun hlog => ?log⟩
  all_goals
    simp (disch := decide) only [t, State.evtSrcFields, hset, hwhen]
    simp +decide
  case mask => exact hbit EVT_SRC.MASK rfl mask
  case ring => exact hbit EVT_SRC.RING rfl ring
  case vector => exact Nat.mod_eq_of_lt hv
  case log => exact (if_pos hlog).trans (hbit EVT_SRC.LOG rfl log)

end

/-- R620: the message of a source, sent or pending behind the vector mask. -/
theorem sendMsix_evt (s : State) (i : Nat) : (s.sendMsix i).evt.raised = s.evt.raised
    ∧ (s.get EVT_SRC.VECTOR i ∉ s.evt.vecMasked → (s.sendMsix i).evt.msixSent = s.evt.msixSent ++ [s.get EVT_SRC.VECTOR i])
    ∧ (s.get EVT_SRC.VECTOR i ∈ s.evt.vecMasked → s.get EVT_SRC.VECTOR i ∈ (s.sendMsix i).evt.pba) := by
  unfold State.sendMsix
  dsimp only
  split
  · next hmasked =>
    refine ⟨rfl, fun h => absurd hmasked h, fun _ => ?_⟩
    dsimp only
    split
    · assumption
    · simp
  · next hmasked => exact ⟨rfl, fun _ => rfl, fun h => absurd h hmasked⟩

/-- R620: whether a write of an event source sends its message: it unmasks a source whose STATUS stays set. -/
def State.evtSrcSends (s : State) (i : Nat) (clear mask : Bool) : Bool :=
  s.flag EVT_SRC.MASK i && !mask && !clear && s.flag EVT_SRC.STATUS i

/-- R620: the state after a write of an event source. -/
theorem exec_evtSrcWrite_sends (i : Fin 512) (clear mask ring log : Bool) (v : BitVec 9) (s : State) :
    exec (.evtSrcWrite i clear mask ring log v) s = finish ((s.evtSrcFields i clear mask ring log v.toNat).when (s.evtSrcSends i clear mask)
      fun s => s.sendMsix i) := by
  obtain ⟨hstatus, -⟩ := evtSrcFields_get s i clear mask ring log v.toNat (by omega) v.isLt
  have hflag : (s.evtSrcFields i clear mask ring log v.toNat).flag EVT_SRC.STATUS i = (!clear && s.flag EVT_SRC.STATUS i) := by
    rw [State.flag, hstatus]
    cases clear <;> simp [State.flag]
  rw [exec_evtSrcWrite, hflag, State.evtSrcSends]
  simp only [Bool.and_assoc]

/-- R620: what a write of an event source leaves: its fields written and, where it sends, its message. -/
structure EvtSrcWritten (s u : State) (i : Nat) (clear mask ring log : Bool) (v : Nat) : Prop where
  getStatus : u.get EVT_SRC.STATUS i = if clear then 0 else s.get EVT_SRC.STATUS i
  getMask : u.get EVT_SRC.MASK i = if mask then 1 else 0
  getRing : u.get EVT_SRC.RING i = if ring then 1 else 0
  getVector : u.get EVT_SRC.VECTOR i = v
  getLog : i < 256 → u.get EVT_SRC.LOG i = if log then 1 else 0
  frame : OnlyTheRegs [.EVT_SRC] s { u with evt := s.evt }
  sent : s.evtSrcSends i clear mask = true → v ∉ s.evt.vecMasked → u.evt.msixSent = s.evt.msixSent ++ [v]
  pending : s.evtSrcSends i clear mask = true → v ∈ s.evt.vecMasked → v ∈ u.evt.pba
  silent : s.evtSrcSends i clear mask = false → u.evt = s.evt

theorem answers_evtSrcWrite {s : State} (hs : Settled s) (i : Fin 512) (clear mask ring log : Bool) (v : BitVec 9) :
    Answers (.evtSrcWrite i clear mask ring log v) s fun u => EvtSrcWritten s u i clear mask ring log v.toNat := by
  have hexec := exec_evtSrcWrite_sends i clear mask ring log v s
  obtain ⟨hstatus, hmask, hring, hvector, hlog⟩ := evtSrcFields_get s i clear mask ring log v.toNat (by omega) v.isLt
  have hwords := (Within.evtSrcFields s i clear mask ring log v.toNat (by omega)).word
  have hparts := evtSrcFields_noRegs s i clear mask ring log v.toNat
  generalize s.evtSrcFields i clear mask ring log v.toNat = t at hexec hstatus hmask hring hvector hlog hwords hparts
  have hevt : t.evt = s.evt := part_of_noRegs State.evt (fun _ => rfl) hparts
  obtain ⟨hraised, hsent, hpending⟩ := sendMsix_evt t i
  rw [hvector, hevt] at hsent hpending
  generalize hu : (t.when (s.evtSrcSends i clear mask) fun s => s.sendMsix i) = u at hexec
  have hregs : u.regs = t.regs := hu ▸ when_keeps State.regs t _ _ (sendMsix_regs t i)
  have hbeside : u.beside = s.beside := (hu ▸ when_keeps State.beside t _ _ (sendMsix_beside t i)).trans (beside_of_noRegs hparts)
  have hquiet : Settled u := by
    rw [Settled, ← hu, when_keeps (fun s => s.evt.raised) t _ _ hraised, hevt]
    exact hs
  have hget (f : Field) := get_of_regs hregs f i
  refine answers_of_exec_quiet hexec hquiet ?_
  constructor
  case getStatus => rw [hget, hstatus]
  case getMask => rw [hget, hmask]
  case getRing => rw [hget, hring]
  case getVector => rw [hget, hvector]
  case getLog => exact fun h => by rw [hget, hlog h]
  case frame =>
    have honly := congrArg (fun x : State => { x with regs := s.regs, evt := s.evt }) hbeside
    refine ⟨honly, fun r j w hr hj hw => ?_⟩
    rw [← hwords r j w hr hj hw]
    simp only [State.word, hregs]
  case sent =>
    intro h hv
    rw [← hu, h, when_true, hsent hv]
  case pending =>
    intro h hv
    rw [← hu, h, when_true]
    exact hpending hv
  case silent =>
    intro h
    rw [← hu, h, when_false, hevt]

/-! ### Translations and page requests (R614 to R616) -/

/-- R614: the translation cache with an entry, the oldest given up where there is no room. -/
def atcAdd (e : Nat × Nat) (atc : List (Nat × Nat)) : List (Nat × Nat) := ((atc.filter (· != e)) ++ [e]).drop (atc.length + 1 - 4096)

theorem mem_atcAdd (e : Nat × Nat) (atc : List (Nat × Nat)) (h : atc.length < 4096) : e ∈ atcAdd e atc := by
  have hzero : atc.length + 1 - 4096 = 0 := by omega
  rw [atcAdd, hzero]
  simp

/-- The translation cache replaced. -/
def State.withAtc (l : List (Nat × Nat)) (s : State) : State := { s with hif := { s.hif with atc := l } }

/-- R614: a granted translation is cached, and the ring of its transfer no longer waits. -/
def State.atsGrant (e : Nat × Nat) (x : DmaXfer) (s : State) : State :=
  match xferRing x with
  | some r => (s.withAtc (atcAdd e s.hif.atc)).unstall r
  | none => s.withAtc (atcAdd e s.hif.atc)

theorem withAtc_parts (s : State) (l : List (Nat × Nat)) :
    (s.withAtc l).evt = s.evt ∧ (s.withAtc l).regs = s.regs ∧ (s.withAtc l).hif.atc = l := ⟨rfl, rfl, rfl⟩

theorem unstall_parts (s : State) (r : Nat) :
    (s.unstall r).evt = s.evt ∧ (s.unstall r).regs = s.regs ∧ (s.unstall r).hif.atc = s.hif.atc := ⟨rfl, rfl, rfl⟩

theorem atsGrant_parts (s : State) (e : Nat × Nat) (x : DmaXfer) :
    (s.atsGrant e x).evt = s.evt ∧ (s.atsGrant e x).regs = s.regs ∧ (s.atsGrant e x).hif.atc = atcAdd e s.hif.atc := by
  obtain ⟨hevt, hregs, hatc⟩ := withAtc_parts s (atcAdd e s.hif.atc)
  unfold State.atsGrant
  split
  · obtain ⟨hevt', hregs', hatc'⟩ := unstall_parts (s.withAtc (atcAdd e s.hif.atc)) ‹Nat›
    exact ⟨hevt'.trans hevt, hregs'.trans hregs, hatc'.trans hatc⟩
  · exact ⟨hevt, hregs, hatc⟩

theorem atsGrant_ring (s : State) (e : Nat × Nat) (x : DmaXfer) (k : Nat) (hk : xferRing x = some k) :
    ((s.atsGrant e x).ring k).stalled = false ∧ ((s.atsGrant e x).ring k).wait = none := by
  simp only [State.atsGrant, hk, State.unstall, onRing_ring_same, and_self]

theorem exec_ats (fn : Fin 2) (page : BitVec 52) (granted pri : Bool) (x : DmaXfer) (s : State) :
    exec (.atsTranslationCompletion fn page granted pri x) s = finish (if granted then s.atsGrant (page.toNat, fn.val) x
      else if !s.xferOk x then s
      else if pri && !s.flag (priOff fn) then s.pageRequest x
      else match xferRing x with
        | some r => (s.unstall r).dmaFault x
        | none => s) := by
  unfold State.atsGrant State.withAtc atcAdd
  rfl

theorem exec_pageResponse (fn : Fin 2) (r : Option (Fin 512)) (how : PageResponse) (s : State) :
    exec (.pageRequestResponse fn r how) s = finish (if !s.pageWaits r then s
      else match how with
        | .success => match r with
          | some r => s.onRing r fun x => { x with paging := false }
          | none => s
        | .invalidRequest => s.pageFail (r.map (·.val))
        | .responseFailure => (s.set (priOff fn) 0 1).pageFail (r.map (·.val))) := rfl

theorem exec_pageTimeout (r : Option (Fin 512)) (s : State) :
    exec (.pageRequestTimeout r) s = finish (if s.pageWaits r then s.pageFail (r.map (·.val)) else s) := rfl

theorem pageWaits_iff (s : State) (r : Option (Fin 512)) : s.pageWaits r = true ↔ ∀ k, r = some k → (s.ring k).paging = true := by
  cases r <;> simp [State.pageWaits]

/-- A transfer of a transmit ring that its ring has comes with descriptors. -/
theorem xferOk_tx {s : State} {r : Fin 256} {descs : List (List Word)} (h : s.xferOk (.tx r descs) = true) : descs ≠ [] := by
  rintro rfl
  simp [State.xferOk, descChain] at h

/-! ### Coalescing (R621) -/

theorem exec_ringCoalTimer (r : Fin 512) (s : State) : exec (.ringCoalTimer r) s = finish
    (if (s.ring r).unreported == 0 || s.get HIF_RING_CFG.COAL_US r == 0 then s
      else (s.onRing r fun x => { x with unreported := 0 }).raise (ringSource r) (if r < 256 then 1 else 2) r (s.ring r).unreported) := rfl

/-- R611: a due frame whose checks fail, on a ring with nothing open. -/
theorem answers_tx_failed {s : State} {r : Fin 256} {descs : List (List Word)} {data : List Byte} {bad : Bool} (hs : Settled s)
    (h : s.txDue r descs data bad) (hst : s.txVerdict r descs data bad ≠ 0) (hq : (s.ring r).txq = []) :
    Answers (.txFrameDmaDone r descs data bad) s fun u =>
      TxFailed s u r descs (s.txVerdict r descs data bad) ∧ u.path = s.path ∧ u.tbl = s.tbl := by
  have hr : r.val < 512 := by omega
  have hlt : s.txVerdict r descs data bad < 256 := Nat.lt_of_le_of_lt (txStatus_le _ _ _ _) (by omega)
  have hexec := exec_tx_failed s r descs data bad h hst
  generalize s.txVerdict r descs data bad = st at hst hlt hexec ⊢
  have herr : Within (.HIF_DMA_STATUS :: pmcRegs) s ((s.txFetch r descs).2.when (st == 2) fun s => s.inc HIF_DMA_STATUS.HOST_ERR 0) :=
    ((Within.txFetch s r descs).mono fun _ => List.mem_cons_of_mem _).trans
      (.when _ (.inc _ HIF_DMA_STATUS.HOST_ERR 0 1 (by decide) (by decide) (by omega)))
  have hring := when_keeps (State.ring · r) (s.txFetch r descs).2 (st == 2) (fun s => s.inc HIF_DMA_STATUS.HOST_ERR 0) (inc_ring _ _ _ _ _)
  have hbeside := ((ringComplete_besideHif _ r (s.ring r).nextId st none).trans (when_keeps State.besideHif (s.txFetch r descs).2 (st == 2)
    (fun s => s.inc HIF_DMA_STATUS.HOST_ERR 0) (inc_besideHif _ _ _ _))).trans (txFetch_besideHif s r descs)
  refine answers_of_exec hexec ⟨txFailed_ringComplete hr hs herr (by decide) hq hring hst hlt, ?_, ?_⟩
  · rw [flushEvents_path]
    exact part_of_besideHif State.path (fun _ => rfl) hbeside
  · rw [flushEvents_tbl]
    exact part_of_besideHif State.tbl (fun _ => rfl) hbeside

/-- R612: a due frame written without an error. -/
theorem answers_rx_ok {s : State} {r : Fin 256} {q : Nat} {it : Item} (buf : Fin 64) (hs : Settled s) (h : s.rxDue (256 + r) q it) :
    Answers (.rxFrameWrite r buf .ok) s fun u => RxWritten s u (256 + r) q (s.rxBuffers (256 + r) it) 0 it := by
  obtain ⟨hit, hq⟩ := rxHead_some h.1
  exact answers_of_exec (exec_rx_due buf .ok h) (rxWritten_rxWrite _ 0 hs (by omega) hit hq)

/-- What is written from a state that differs in the count of host errors alone. -/
theorem rxWritten_of_inc {s u : State} {r q k status : Nat} {it : Item} (hr : r < 512)
    (h : RxWritten (s.inc HIF_DMA_STATUS.HOST_ERR 0) u r q k status it) : RxWritten s u r q k status it := by
  have hw := Within.inc (rs := [.HIF_DMA_STATUS]) s HIF_DMA_STATUS.HOST_ERR 0 1 (by decide) (by decide) (by omega)
  have hbuf : (s.inc HIF_DMA_STATUS.HOST_ERR 0).ringBuf r = s.ringBuf r := by
    rw [State.ringBuf, hw.get HIF_RING_CFG.BUF r (by decide) (by decide) (by omega), State.ringBuf]
  constructor
  case wbs =>
    have hwbs := h.wbs
    simp only [State.rxBacks, State.rxBack, hbuf, inc_ring] at hwbs ⊢
    exact hwbs
  case head => rw [h.head, inc_ring]
  case queue =>
    have hqueue : (s.inc HIF_DMA_STATUS.HOST_ERR 0).queue q = s.queue q :=
      part_of_noRegs (State.queue · q) (fun _ => rfl) (inc_noRegs _ _ _ _)
    rw [h.queue, hqueue]
  case count =>
    rw [h.count, hw.get _ r (by cases status == 0 <;> decide) (by cases status == 0 <;> decide) (by omega)]

/-- R613: a due frame whose write ends with an error in its buffer `buf`. -/
theorem answers_rx_error {s : State} {r : Fin 256} {q : Nat} {it : Item} (buf : Fin 64) (hs : Settled s) (h : s.rxDue (256 + r) q it)
    {how : DmaEnd} {status : Nat} (hhow : (how, status) ∈ [(DmaEnd.hostErr, 2), (.memErr, 3)]) :
    Answers (.rxFrameWrite r buf how) s fun u => RxWritten s u (256 + r) q (min (s.rxBuffers (256 + r) it) (buf + 1)) status it := by
  obtain ⟨hit, hq⟩ := rxHead_some h.1
  have hr : 256 + r.val < 512 := by omega
  simp only [List.mem_cons, List.not_mem_nil, or_false, Prod.mk.injEq] at hhow
  rcases hhow with ⟨rfl, rfl⟩ | ⟨rfl, rfl⟩
  · have hit' : (s.inc HIF_DMA_STATUS.HOST_ERR 0).headItem q = some it :=
      (part_of_noRegs (State.headItem · q) (fun _ => rfl) (inc_noRegs _ _ _ _)).trans hit
    exact answers_of_exec (exec_rx_due buf .hostErr h) (rxWritten_of_inc hr (rxWritten_rxWrite _ 2 hs hr hit' hq))
  · exact answers_of_exec (exec_rx_due buf .memErr h) (rxWritten_rxWrite _ 3 hs hr hit hq)

/-- R614: a granted translation. -/
theorem answers_ats_granted {s : State} (fn : Fin 2) (page : BitVec 52) (pri : Bool) (x : DmaXfer) (hs : Settled s)
    (hroom : s.hif.atc.length < 4096) :
    Answers (.atsTranslationCompletion fn page true pri x) s fun u => (page.toNat, fn.val) ∈ u.hif.atc ∧ u.regs = s.regs
      ∧ ∀ k, xferRing x = some k → (u.ring k).stalled = false ∧ (u.ring k).wait = none := by
  obtain ⟨hevt, hregs, hatc⟩ := atsGrant_parts s (page.toNat, fn.val) x
  refine answers_of_exec_quiet (exec_ats fn page true pri x s) (by rw [if_pos rfl, Settled, hevt]; exact hs) ?_
  rw [if_pos rfl]
  exact ⟨hatc ▸ mem_atcAdd _ _ hroom, hregs, atsGrant_ring s _ x⟩

/-- R615: a translation not granted, with PRI enabled: a page request is sent and the ring stalls. -/
theorem answers_ats_pri {s : State} (fn : Fin 2) (page : BitVec 52) {x : DmaXfer} {k : Nat} (hs : Settled s) (hok : s.xferOk x = true)
    (hk : xferRing x = some k) (hoff : s.get (priOff fn) = 0) :
    Answers (.atsTranslationCompletion fn page false true x) s fun u => (u.ring k).stalled = true ∧ (u.ring k).paging = true
      ∧ u.get HIF_DMA_STATUS.PRI_REQ = satAdd 16 (s.get HIF_DMA_STATUS.PRI_REQ) 1
      ∧ u.get HIF_RING_STAT.STALLS k = satAdd 16 (s.get HIF_RING_STAT.STALLS k) 1 ∧ u.get EVT_SRC.STATUS (ringSource k) = 1 := by
  have hkl := xferRing_lt hk
  have hexec : exec (.atsTranslationCompletion fn page false true x) s = finish (s.pageRequest x) := by
    rw [exec_ats]
    simp [hok, State.flag, hoff]
  rw [pageRequest_ring s x k hk] at hexec
  have hreq := Within.inc (rs := [.HIF_DMA_STATUS, .HIF_RING_STAT]) s HIF_DMA_STATUS.PRI_REQ 0 1 (by decide) (by decide) (by omega)
  have hreq' := Within.inc (rs := [.HIF_DMA_STATUS]) s HIF_DMA_STATUS.PRI_REQ 0 1 (by decide) (by decide) (by omega)
  have hring := Within.onRing [.HIF_DMA_STATUS, .HIF_RING_STAT] (s.inc HIF_DMA_STATUS.PRI_REQ 0) k
    fun y => { y with stalled := true, paging := true, wait := some (xferWait x) }
  generalize ht : ((s.inc HIF_DMA_STATUS.PRI_REQ 0).onRing k fun y => { y with stalled := true, paging := true, wait := some (xferWait x) }) = t
    at hexec hring
  have hstall := Within.inc (rs := [.HIF_RING_STAT]) t HIF_RING_STAT.STALLS k 1 (by decide) (by decide) (by omega)
  have hraise := Within.raise (rs := [.HIF_DMA_STATUS, .HIF_RING_STAT]) (t.inc HIF_RING_STAT.STALLS k) (ringSource k) 4 k 0 0 (ringSource_lt k)
  have hall := ((hreq.trans hring).trans (hstall.mono (by decide))).trans hraise
  have htget (f : Field) (i : Nat) : t.get f i = (s.inc HIF_DMA_STATUS.PRI_REQ 0).get f i := by rw [← ht, onRing_get]
  refine answers_of_exec hexec ⟨?_, ?_, ?_, ?_, ?_⟩
  · simp [← ht]
  · simp [← ht]
  · rw [hall.flushEvents_get hs _ 0 (by decide) (by decide) (by omega), raise_get, hstall.get _ 0 (by decide) (by decide) (by omega), htget,
      inc_get s _ 0 (by decide)]
    rfl
  · rw [hall.flushEvents_get hs _ k (by decide) (by decide) (by omega), raise_get, inc_get t _ k (by decide), htget,
      hreq'.get _ k (by decide) (by decide) (by omega)]
    rfl
  · exact flushEvents_get_status _ (hall.source_lt hs) _ ⟨⟨ringSource k, 4, k, 0, 0⟩, by simp, rfl⟩

/-- R616: a translation not granted, without PRI: the frame of a transmit ring with nothing open ends with FAULT. -/
theorem answers_ats_fault {s : State} (fn : Fin 2) (page : BitVec 52) {q : Fin 256} {descs : List (List Word)} (hs : Settled s)
    (hok : s.xferOk (.tx q descs) = true) (hq : (s.ring q).txq = []) :
    Answers (.atsTranslationCompletion fn page false false (.tx q descs)) s fun u => TxFailed (s.unstall q) u q descs 1 := by
  have hr : q.val < 512 := by omega
  have hexec : exec (.atsTranslationCompletion fn page false false (.tx q descs)) s = finish ((s.unstall q).dmaFault (.tx q descs)) := by
    rw [exec_ats]
    simp [hok, xferRing]
  rw [dmaFault_tx _ q descs (xferOk_tx hok)] at hexec
  refine answers_of_exec hexec (txFailed_ringComplete hr (s := s.unstall q) hs (Within.txFetch _ q descs) (by decide) ?_ rfl (by decide) (by decide))
  simpa [State.unstall] using hq

/-- R616: a page request that waits for its response fails, by its response or by its timeout. -/
theorem answers_pageFail {s : State} {c : Instr} {r : Option (Fin 512)} (hs : Settled s) (hexec : exec c s = finish (s.pageFail (r.map (·.val)))) :
    Answers c s fun u => PageFailed s u r := answers_of_exec hexec (pageFailed_pageFail s r hs)

/-- R616: Response Failure also sets `PRI_OFF` of the function. -/
theorem answers_responseFailure {s : State} (fn : Fin 2) {r : Option (Fin 512)} (hs : Settled s) (hw : s.pageWaits r = true) :
    Answers (.pageRequestResponse fn r .responseFailure) s fun u => PageFailed s u r ∧ u.get (priOff fn) = 1 := by
  obtain ⟨hreg, hword, hwidth, hlo, hfits⟩ := priOff_reg fn
  have hbit : (priOff fn).lo + (priOff fn).width ≤ 64 := by omega
  have hexec : exec (.pageRequestResponse fn r .responseFailure) s = finish ((s.set (priOff fn) 0 1).pageFail (r.map (·.val))) := by
    rw [exec_pageResponse, hw]
    rfl
  have hfail := pageFailed_pageFail (s.set (priOff fn) 0 1) r hs
  refine answers_of_exec hexec ⟨⟨?_, hfail.event, hfail.ring⟩, ?_⟩
  · rw [hfail.count, get_set_ne s (priOff fn) HIF_DMA_STATUS.PRI_FAIL 0 0 1 (by omega) (by omega) hfits (by decide)
      (Or.inr (Or.inr (by rw [hwidth]; exact Nat.le_trans (Nat.add_le_add_right hlo 1) (by decide))))]
  · calc
      _ = (s.set (priOff fn) 0 1).get (priOff fn) := pageFail_get_priOff _ _ fn hs
      _ = 1 % 2 ^ (priOff fn).width := get_set_same s _ 0 1 hbit
      _ = 1 := Nat.mod_eq_of_lt (Nat.one_lt_two_pow (by omega))

/-- R621: completions not yet reported are reported once COAL_US have passed. -/
theorem answers_coal {s : State} {r : Fin 512} (hs : Settled s) (hun : (s.ring r).unreported ≠ 0) (hus : s.get HIF_RING_CFG.COAL_US r ≠ 0) :
    Answers (.ringCoalTimer r) s fun u => (u.ring r).unreported = 0 ∧ u.get EVT_SRC.STATUS (ringSource r) = 1 := by
  have hexec := exec_ringCoalTimer r s
  rw [if_neg (by simp [hun, hus])] at hexec
  have hw : Within [] s ((s.onRing r fun x => { x with unreported := 0 }).raise (ringSource r) (if r < 256 then 1 else 2) r
      (s.ring r).unreported) := (Within.onRing [] s r _).trans (.raise _ _ _ _ _ _ (ringSource_lt r))
  exact answers_of_exec hexec ⟨by simp, flushEvents_get_status _ (hw.source_lt hs) _ ⟨_, by simp; exact Or.inr rfl, rfl⟩⟩

end Sys2Proof.Machine
end

section
/-!
PROOFS. The rings, the translations and the event sources: the obligation assembled from what each command answers.
-/

namespace Sys2Proof

open Machine

/-- Settles O51: each command by what its effect makes of its ring, its queue, its counters and its event source. -/
theorem ringsTranslationsAndEventSources : Obligations.RingsTranslationsAndEventSources := by
  unfold Obligations.RingsTranslationsAndEventSources
  intro s hs
  refine ⟨fun r tail => ?doorbell, fun r off => ?page, fun r descs data bad => ?tx, fun r buf how => ?rx, fun fn page granted pri x => ?ats,
    fun fn r => ?request, fun r => ?coal, fun i clear mask ring log v => ?source⟩
  case doorbell =>
    exact ⟨fun h => ends_of_exec (exec_ringDoorbell_tail r tail s) (if_pos h), fun h => ends_of_exec (exec_ringDoorbell_tail r tail s) (if_neg h)⟩
  case page =>
    refine ⟨ends_of_exec rfl rfl, ends_of_exec rfl rfl,
      answers_of_exec_quiet (exec_ringDoorbell_read r off s) hs ⟨rfl, _, rfl, ?_, ?_, ?_, ringPage_other s r off⟩⟩
    · rintro rfl; rfl
    · rintro rfl; rfl
    · rintro rfl; exact ringPage_status s r
  case tx =>
    intro x c due s1 it st
    refine ⟨fun h => ends_of_exec (exec_tx_notDue s r descs data bad h) rfl, fun h h0 => ⟨fun hsc => ?plain, fun sc hsc hop => ?sequenced⟩,
      fun h hst hq => ?failed, fun h => ?lengths, fun h hb => ?hostErr⟩
    case plain => exact ends_of_exec (exec_tx_accepted s r descs data bad h h0) (txEnter_plain _ it hsc)
    case sequenced =>
      obtain ⟨hevt, hparts⟩ := txEnter_protected_parts s r data.length descs it sc hsc hop
      exact answers_of_exec_quiet (exec_tx_accepted s r descs data bad h h0) ((congrArg EvtState.raised hevt).trans hs) hparts
    case failed =>
      obtain ⟨u, hu, hfail, hpath, htbl⟩ := answers_tx_failed hs h hst hq
      exact ⟨u, hu, hfail.txq, hfail.head, hfail.wbs, hfail.status, hfail.errors, hpath, htbl⟩
    case lengths => simp [st, State.txStatus, h]
    case hostErr => simp [st, State.txStatus, h, hb]
  case rx =>
    intro k x due
    refine ⟨fun h => ends_of_exec (exec_rx_notDue s r buf how h) rfl, fun q it h hb => ⟨?written, fun e he => ?error⟩⟩
    case written =>
      obtain ⟨u, hu, hrx⟩ := answers_rx_ok buf hs h
      refine ⟨u, hu, ?_⟩
      dsimp only
      rw [hrx.wbs]
      exact ⟨rxBacks_length s k _ 0 it, rxBacks_data s k it hb, fun wb hwb => rxBacks_status (by decide) hwb, hrx.head, hrx.queue, hrx.count⟩
    case error =>
      obtain ⟨u, hu, hrx⟩ := answers_rx_error buf hs h he
      have hst : ∀ e ∈ [(DmaEnd.hostErr, 2), (.memErr, 3)], e.2 ≠ 0 ∧ e.2 < 256 := by decide
      exact ⟨u, hu, rxWritten_error hrx (hst e he).1 (hst e he).2⟩
  case ats =>
    intro c k
    have hk (hx : xferRing x ≠ none) : xferRing x = some k := by
      obtain ⟨j, hj⟩ := Option.ne_none_iff_exists'.mp hx
      simp [k, hj]
    refine ⟨?granted, ?notPosted, ?pri, ?fault, ends_of_exec rfl rfl⟩
    case granted =>
      rintro rfl hroom
      obtain ⟨u, hu, hatc, hregs, hring⟩ := answers_ats_granted fn page pri x hs hroom
      exact ⟨u, hu, hatc, hregs, fun hx => hring k (hk hx)⟩
    case notPosted =>
      rintro rfl hok
      exact ends_of_exec (exec_ats fn page false pri x s) (by simp [hok])
    case pri =>
      rintro rfl hok hx rfl hoff
      exact answers_ats_pri fn page hs hok (hk hx) hoff
    case fault =>
      rintro q descs rfl rfl hok rfl hq
      obtain ⟨u, hu, hfail⟩ := answers_ats_fault fn page hs hok hq
      refine ⟨u, hu, hfail.txq, ?_, ?_, hfail.event⟩
      · simpa [State.unstall] using hfail.wbs
      · simpa [State.unstall] using fun wb hwb => (hfail.status wb hwb).1
  case request =>
    intro waits fails
    refine ⟨fun h => ?still, fun h => ?waiting⟩
    case still =>
      have hw : s.pageWaits r = false := by
        rw [← Bool.not_eq_true, pageWaits_iff]
        exact h
      exact ⟨fun how => ends_of_exec (exec_pageResponse fn r how s) (by simp [hw]), ends_of_exec (exec_pageTimeout r s) (by simp [hw])⟩
    case waiting =>
      have hw : s.pageWaits r = true := (pageWaits_iff s r).mpr h
      have hresp (how : PageResponse) := exec_pageResponse fn r how s
      have htmo := exec_pageTimeout r s
      simp only [hw, Bool.not_true, Bool.false_eq_true, if_false, if_true] at hresp htmo
      refine ⟨?_, ?_, ?_, ?_, ?_⟩
      · rintro rfl
        exact ends_of_exec (hresp .success) rfl
      · rintro k rfl
        exact ends_of_exec (hresp .success) rfl
      · obtain ⟨u, hu, hfail⟩ := answers_pageFail hs (hresp .invalidRequest)
        exact ⟨u, hu, hfail.count, hfail.event, hfail.ring⟩
      · obtain ⟨u, hu, hfail⟩ := answers_pageFail hs htmo
        exact ⟨u, hu, hfail.count, hfail.event, hfail.ring⟩
      · obtain ⟨u, hu, hfail, hoff⟩ := answers_responseFailure fn hs hw
        exact ⟨u, hu, ⟨hfail.count, hfail.event, hfail.ring⟩, hoff⟩
  case coal =>
    exact ⟨fun h => ends_of_exec (exec_ringCoalTimer r s) (if_pos (by simpa using h)), fun hun hus => answers_coal hs hun hus⟩
  case source =>
    obtain ⟨u, hu, hw⟩ := answers_evtSrcWrite hs i clear mask ring log v
    have hsends : s.evtSrcSends i clear mask = true ↔
        s.get EVT_SRC.MASK i = 1 ∧ mask = false ∧ (if clear then 0 else s.get EVT_SRC.STATUS i) = 1 := by
      cases clear <;> simp [State.evtSrcSends, State.flag, and_assoc]
    refine ⟨u, hu, hw.getStatus, hw.getMask, hw.getRing, hw.getVector, hw.getLog, hw.frame,
      fun hmask hm hst => hw.sent (hsends.mpr ⟨hmask, hm, hst⟩),
      fun hmask hm hst => hw.pending (hsends.mpr ⟨hmask, hm, hst⟩),
      fun h => hw.silent ?_⟩
    rw [← Bool.not_eq_true, hsends]
    rintro ⟨hmask, rfl, hst⟩
    rcases h with h | h | h
    · exact absurd h (by decide)
    · omega
    · omega

end Sys2Proof
end

section
/-!
PROOFS. Registers ahead of the event registers: recording events leaves their words whatever was raised, so a field of theirs reads at the
end of a command as its effect left it.
-/

namespace Sys2Proof.Machine

/-- A register stands ahead of the event sources in the register file. -/
def Reg.early (r : Reg) : Bool := decide (r.ctorIdx < Reg.EVT_SRC.ctorIdx)

/-- A write of a later register, of whatever index, leaves the words of an earlier one. -/
theorem word_setWord_later (s : State) {r r' : Reg} (i j w w' : Nat) (v : Word) (h : r'.ctorIdx < r.ctorIdx) (hj : j < 8192) (hw : w' < 8) :
    (s.setWord r i w v).word r' j w' = s.word r' j w' := by
  unfold State.word State.setWord
  apply KMap.get_set_ne
  unfold regKey
  omega

theorem EvtOnly.word {s t : State} (h : EvtOnly s t) {r : Reg} (hr : r.early = true) {i w : Nat} (hi : i < 8192) (hw : w < 8) :
    t.word r i w = s.word r i w := by
  refine h.2 r i w (fun hmem => ?_) hi hw
  have hnone : ∀ r ∈ evtRegs, r.early = false := by decide
  rw [hnone r hmem] at hr
  cases hr

theorem evtNote_word (s : State) (k : Nat) {r : Reg} (hr : r.early = true) {i w : Nat} (hi : i < 8192) (hw : w < 8) :
    (s.evtNote k).word r i w = s.word r i w := by
  have hlater (t : State) (f : Field) (v : Nat) (hf : f.reg = .EVT_SRC) : (t.set f k v).word r i w = t.word r i w :=
    word_setWord_later t _ _ _ _ _ (by rw [hf]; simpa [Reg.early] using hr) hi hw
  have hcount : ((s.inc EVT_SRC.COUNT k).pmcEvent 4 0x14 0 1).word r i w = s.word r i w :=
    ((EvtOnly.pmcEvent _ 4 0x14 0 1 (by omega)).word hr hi hw).trans (hlater s EVT_SRC.COUNT _ rfl)
  unfold State.evtNote
  dsimp only
  split
  · exact ((when_keeps (State.word · r i w) _ _ (fun s => s.sendMsix k) ((EvtOnly.sendMsix _ k).word hr hi hw)).trans
      (hlater _ EVT_SRC.STATUS 1 rfl)).trans hcount
  · exact hcount

theorem writeEvent_word (s : State) (e : Raised) {r : Reg} (hr : r.early = true) {i w : Nat} (hi : i < 8192) (hw : w < 8) :
    (s.writeEvent e).word r i w = s.word r i w := by
  have hring (t : State) : (t.when (t.flag EVT_SRC.RING e.source) fun t => t.ringAppend (s.record e)).word r i w = t.word r i w :=
    when_keeps (State.word · r i w) t _ _ ((EvtOnly.ringAppend t _).word hr hi hw)
  have hlog (t : State) : (t.when (t.flag EVT_SRC.LOG e.source) fun t => t.logAppend (s.record e)).word r i w = t.word r i w :=
    when_keeps (State.word · r i w) t _ _ rfl
  exact ((hlog _).trans (hring _)).trans (evtNote_word s e.source hr hi hw)

/-- Recording the events of a command leaves the words of every early register. -/
theorem flushEvents_word_early (s : State) {r : Reg} (hr : r.early = true) {i w : Nat} (hi : i < 8192) (hw : w < 8) :
    s.flushEvents.word r i w = s.word r i w :=
  forL_keeps (State.word · r i w) (fun e t => t.writeEvent e) (fun e t => writeEvent_word t e hr hi hw) (sortRaised s.evt.raised) s

theorem flushEvents_get_early (s : State) (f : Field) (i : Nat) (hf : (f.reg.early && f.fits) = true) (hi : i < 8192) :
    s.flushEvents.get f i = s.get f i := by
  simp only [Field.fits, Bool.and_eq_true, decide_eq_true_eq] at hf
  rw [State.get, flushEvents_word_early s hf.1 hi hf.2.2, State.get]

@[simp] theorem flushEvents_fen (s : State) : s.flushEvents.fen = s.fen := part_of_beside State.fen (fun _ => rfl) (flushEvents_beside s)
@[simp] theorem flushEvents_service (s : State) : s.flushEvents.service = s.service :=
  part_of_beside State.service (fun _ => rfl) (flushEvents_beside s)
@[simp] theorem flushEvents_inService (s : State) (f : Fn) : s.flushEvents.inService f = s.inService f := by
  rw [State.inService, flushEvents_service, State.inService]

/-! ### Fields that share no bit -/

/-- Two fields lie in their words and share no bit, whatever the instances. -/
def Field.disjoint (f g : Field) : Bool := f.fits && g.fits && (decide (f.reg ≠ g.reg) || f.apart g)

theorem get_set_disjoint (s : State) {f g : Field} {i j v : Nat} (h : f.disjoint g = true) (hi : i < 8192) (hj : j < 8192) :
    (s.set f i v).get g j = s.get g j := by
  simp only [Field.disjoint, Field.apart, Bool.and_eq_true, Bool.or_eq_true, decide_eq_true_eq] at h
  obtain ⟨⟨hf, hg⟩, hdis⟩ := h
  refine get_set_ne s f g i j v hi hj hf hg ?_
  by_cases hreg : g.reg = f.reg ∧ j = i ∧ g.word = f.word
  · obtain ⟨hr, -, hw⟩ := hreg
    rcases hdis with hne | hw' | hlo | hlo
    · exact absurd hr.symm hne
    · exact absurd hw.symm hw'
    · exact Or.inr (Or.inr hlo)
    · exact Or.inr (Or.inl hlo)
  · exact Or.inl hreg

/-- The same field at another index. -/
theorem get_set_instance (s : State) {f g : Field} {i j v : Nat} (h : (f.fits && g.fits) = true) (hi : i < 8192) (hj : j < 8192)
    (hne : j ≠ i) : (s.set f i v).get g j = s.get g j := by
  rw [Bool.and_eq_true] at h
  exact get_set_ne s f g i j v hi hj h.1 h.2 (Or.inl fun hx => hne hx.2.1)

/-- A field reads the value written to it, where the value fits. -/
theorem get_set_eq (s : State) {f : Field} {i v : Nat} (h : f.fits = true) (hv : v < 2 ^ f.width) : (s.set f i v).get f i = v := by
  simp only [Field.fits, Bool.and_eq_true, decide_eq_true_eq] at h
  rw [get_set_same s f i v h.1, Nat.mod_eq_of_lt hv]

theorem get_lt (s : State) (f : Field) (i : Nat) : s.get f i < 2 ^ f.width := Word.bits_lt _ _ _

end Sys2Proof.Machine
end

section
/-!
PROOFS. The states of Table 1-8 (R31 to R37): EN and STATE as they are written, what an enable, a disable and the end of a shut-down make of
a function in each state, and service.
-/

namespace Sys2Proof.Machine

/-! ### EN and STATE -/

/-- The EN fields of the functions. -/
def enFields : List Field :=
  [FEN_POD_CTRL.EN, CPX_PORT_CTRL.EN, LPX_PORT_CTRL.EN, KFR_TRIB.EN, FAB_PG_CFG.EN, LET_STREAM_CFG.EN, MTL_PAIR_CFG.EN, GLB_AGT_CTRL.EN,
    QMG_QCFG.EN, IME_RKEY_CTRL.EN, HIF_RING_CFG.EN, EVT_RING_CFG.EN, TBL_SHADOW_CTRL.EN, QMG_AUDIT_CTRL.EN, SRB_TEST_CFG.EN]

theorem fnEn_mem (f : Fn) : (fnEn f).1 ∈ enFields := by
  cases f with
  | port p =>
    simp only [fnEn]
    split <;> simp [enFields]
  | _ => simp [fnEn, enFields]

theorem fnEn_index (f : Fn) : (fnEn f).2 < 8192 := by
  cases f with
  | port p =>
    simp only [fnEn]
    split <;> dsimp only <;> omega
  | _ => simp only [fnEn]; omega

/-- EN of a function is one bit apart from its STATE; neither lies in `GLB_FRESET_STATUS`. -/
theorem enField_parts {g : Field} (hg : g ∈ enFields) :
    g.disjoint { g with lo := 2, width := 2, acc := .ro } = true ∧ Field.disjoint { g with lo := 2, width := 2, acc := .ro } g = true
      ∧ g.width = 1 ∧ g.fits = true ∧ Field.fits { g with lo := 2, width := 2, acc := .ro } = true ∧ g.reg ≠ .GLB_FRESET_STATUS
      ∧ (g.reg ≠ .EVT_RING_CFG → g.reg.early = true) := by
  have h : ∀ g ∈ enFields, g.disjoint { g with lo := 2, width := 2, acc := .ro } = true
      ∧ Field.disjoint { g with lo := 2, width := 2, acc := .ro } g = true
      ∧ g.width = 1 ∧ g.fits = true ∧ Field.fits { g with lo := 2, width := 2, acc := .ro } = true ∧ g.reg ≠ .GLB_FRESET_STATUS
      ∧ (g.reg ≠ .EVT_RING_CFG → g.reg.early = true) := by decide
  exact h g hg

theorem fnEn_disjoint (f : Fn) : (fnEn f).1.disjoint (fnStateField f) = true := (enField_parts (fnEn_mem f)).1
theorem fnState_disjoint (f : Fn) : (fnStateField f).disjoint (fnEn f).1 = true := (enField_parts (fnEn_mem f)).2.1
theorem fnEn_width (f : Fn) : (fnEn f).1.width = 1 := (enField_parts (fnEn_mem f)).2.2.1
theorem fnEn_fits (f : Fn) : (fnEn f).1.fits = true := (enField_parts (fnEn_mem f)).2.2.2.1
theorem fnState_fits (f : Fn) : (fnStateField f).fits = true := (enField_parts (fnEn_mem f)).2.2.2.2.1
theorem fnEn_not_freset (f : Fn) : (fnEn f).1.reg ≠ .GLB_FRESET_STATUS := (enField_parts (fnEn_mem f)).2.2.2.2.2.1

/-- The registers of every function but the event ring stand ahead of the event registers. -/
theorem fnEn_early {f : Fn} (hf : f ≠ .eventRing) : (fnEn f).1.reg.early = true := by
  refine (enField_parts (fnEn_mem f)).2.2.2.2.2.2 ?_
  cases f with
  | eventRing => exact absurd rfl hf
  | port p =>
    simp only [fnEn]
    split <;> exact nofun
  | _ => exact nofun

theorem fits_word {f : Field} (h : f.fits = true) : f.word < 8 := by
  simp only [Field.fits, Bool.and_eq_true, decide_eq_true_eq] at h
  exact h.2

theorem fnState_fnSet (s : State) (f : Fn) (en : Nat) {st : Nat} (h : st < 4) : (s.fnSet f en st).fnState f = st :=
  get_set_eq _ (fnState_fits f) h

theorem fnEn_fnSet (s : State) (f : Fn) {en : Nat} (st : Nat) (h : en < 2) : (s.fnSet f en st).get (fnEn f).1 (fnEn f).2 = en := by
  rw [State.fnSet, get_set_disjoint _ (fnState_disjoint f) (fnEn_index f) (fnEn_index f)]
  exact get_set_eq _ (fnEn_fits f) (by rw [fnEn_width]; exact h)

theorem flushEvents_fnState (s : State) {f : Fn} (hf : f ≠ .eventRing) : s.flushEvents.fnState f = s.fnState f :=
  flushEvents_get_early s _ _ (Bool.and_eq_true_iff.mpr ⟨fnEn_early hf, fnState_fits f⟩) (fnEn_index f)

theorem flushEvents_fnEn (s : State) {f : Fn} (hf : f ≠ .eventRing) :
    s.flushEvents.get (fnEn f).1 (fnEn f).2 = s.get (fnEn f).1 (fnEn f).2 :=
  flushEvents_get_early s _ _ (Bool.and_eq_true_iff.mpr ⟨fnEn_early hf, fnEn_fits f⟩) (fnEn_index f)

/-! ### Service (R694) -/

@[simp] theorem fnSet_service (s : State) (f : Fn) (en st : Nat) : (s.fnSet f en st).service = s.service := rfl
@[simp] theorem fnSet_evt (s : State) (f : Fn) (en st : Nat) : (s.fnSet f en st).evt = s.evt := rfl
@[simp] theorem set_inService (s : State) (f : Field) (i v : Nat) (g : Fn) : (s.set f i v).inService g = s.inService g := rfl
@[simp] theorem fnSet_inService (s : State) (f g : Fn) (en st : Nat) : (s.fnSet f en st).inService g = s.inService g := rfl
@[simp] theorem leaveService_get (s : State) (f : Fn) (g : Field) (i : Nat) : (s.leaveService f).get g i = s.get g i := rfl
@[simp] theorem leaveService_evt (s : State) (f : Fn) : (s.leaveService f).evt = s.evt := rfl

theorem leaveService_inService_same (s : State) (f : Fn) : (s.leaveService f).inService f = false := by
  simp [State.leaveService, State.inService]

theorem leaveService_inService_ne (s : State) {f g : Fn} (h : g.code ≠ f.code) : (s.leaveService f).inService g = s.inService g := by
  simp [State.leaveService, State.inService, List.contains_eq_mem, h]

@[simp] theorem enterService_regs (s : State) (f : Fn) : (s.enterService f).regs = s.regs := by
  unfold State.enterService
  split <;> rfl

@[simp] theorem enterService_get (s : State) (f : Fn) (g : Field) (i : Nat) : (s.enterService f).get g i = s.get g i :=
  get_of_regs (enterService_regs s f) g i

@[simp] theorem enterService_evt (s : State) (f : Fn) : (s.enterService f).evt = s.evt := by
  unfold State.enterService
  split <;> rfl

theorem enterService_inService_same (s : State) (f : Fn) : (s.enterService f).inService f = true := by
  unfold State.enterService
  split
  · assumption
  · simp [State.inService]

theorem enterService_inService_ne (s : State) {f g : Fn} (h : g.code ≠ f.code) : (s.enterService f).inService g = s.inService g := by
  unfold State.enterService
  split
  · rfl
  · simp [State.inService, h]

/-! ### Enable and disable (R32) -/

theorem fnEnable_on (s : State) {f : Fn} (hd : s.enableDiscarded f = false) (h : s.fnState f = 1) : s.fnEnable f = s := by
  simp [State.fnEnable, hd, h]

theorem fnEnable_changing (s : State) {f : Fn} (hd : s.enableDiscarded f = false) (h : 2 ≤ s.fnState f) :
    s.fnEnable f = s.fnSet f 1 3 := by
  obtain ⟨k, hk⟩ := Nat.exists_eq_add_of_le' h
  simp [State.fnEnable, hd, hk]

theorem fnEnable_off (s : State) {f : Fn} (hd : s.enableDiscarded f = false) (h : s.fnState f = 0) :
    s.fnEnable f = s.fnStartGuarded f := by
  simp [State.fnEnable, hd, h]

theorem fnDisable_off (s : State) {f : Fn} (hd : s.disableDiscarded f = false) (h : s.fnState f = 0) : s.fnDisable f = s := by
  simp [State.fnDisable, hd, h]

theorem fnDisable_on (s : State) {f : Fn} (hd : s.disableDiscarded f = false) (h : s.fnState f = 1) :
    s.fnDisable f = (s.fnSet f 0 2).shutDown f := by
  simp [State.fnDisable, hd, h]

theorem fnDisable_changing (s : State) {f : Fn} (hd : s.disableDiscarded f = false) (h : 2 ≤ s.fnState f) :
    s.fnDisable f = s.fnSet f 0 2 := by
  obtain ⟨k, hk⟩ := Nat.exists_eq_add_of_le' h
  simp [State.fnDisable, hd, hk]

/-! ### The end of a function reset (R630) -/

/-- Only `GLB_FRESET_STATUS` changes where a reset ends. -/
theorem fresetOff_noRegs (s : State) (typ index : Nat) : (s.fresetOff typ index).noRegs = s.noRegs := by
  unfold State.fresetOff
  split <;> simp

theorem Within.fresetOff (s : State) (typ index : Nat) : Within [.GLB_FRESET_STATUS] s (s.fresetOff typ index) := by
  unfold State.fresetOff
  split
  · exact (Within.set s GLB_FRESET_STATUS.BUSY 0 0 (by decide) (by decide) (by omega)).trans
      (.set _ GLB_FRESET_STATUS.DONE 0 1 (by decide) (by decide) (by omega))
  · exact .refl _ s

theorem fresetOff_fnState (s : State) (typ index : Nat) (f : Fn) : (s.fresetOff typ index).fnState f = s.fnState f :=
  (Within.fresetOff s typ index).get _ _ (List.mem_singleton.not.mpr (fnEn_not_freset f)) (fits_word (fnState_fits f)) (fnEn_index f)

theorem fresetOff_fnEn (s : State) (typ index : Nat) (f : Fn) :
    (s.fresetOff typ index).get (fnEn f).1 (fnEn f).2 = s.get (fnEn f).1 (fnEn f).2 :=
  (Within.fresetOff s typ index).get _ _ (by simpa using fnEn_not_freset f) (fits_word (fnEn_fits f)) (fnEn_index f)

@[simp] theorem fresetOff_inService (s : State) (typ index : Nat) (f : Fn) : (s.fresetOff typ index).inService f = s.inService f :=
  part_of_noRegs (State.inService · f) (fun _ => rfl) (fresetOff_noRegs s typ index)

/-! ### The end of a shut-down -/

/-- A function is OFF: STATE and EN read 0, and it is out of service. -/
structure FnOff (s : State) (f : Fn) : Prop where
  state : s.fnState f = 0
  en : s.get (fnEn f).1 (fnEn f).2 = 0
  service : s.inService f = false

/-- A function is ON and in service, with EN = 1. -/
structure FnServes (s : State) (f : Fn) : Prop where
  state : s.fnState f = 1
  en : s.get (fnEn f).1 (fnEn f).2 = 1
  service : s.inService f = true

theorem FnOff.flushEvents {s : State} {f : Fn} (h : FnOff s f) (hf : f ≠ .eventRing) : FnOff s.flushEvents f where
  state := (flushEvents_fnState s hf).trans h.state
  en := (flushEvents_fnEn s hf).trans h.en
  service := (flushEvents_inService s f).trans h.service

theorem FnServes.flushEvents {s : State} {f : Fn} (h : FnServes s f) (hf : f ≠ .eventRing) : FnServes s.flushEvents f where
  state := (flushEvents_fnState s hf).trans h.state
  en := (flushEvents_fnEn s hf).trans h.en
  service := (flushEvents_inService s f).trans h.service

/-- A function written OFF after it has left service. -/
theorem fnOff_fnSet_leaveService (s : State) (f : Fn) : FnOff ((s.leaveService f).fnSet f 0 0) f where
  state := fnState_fnSet _ f 0 (by omega)
  en := fnEn_fnSet _ f 0 (by omega)
  service := leaveService_inService_same s f

theorem FnOff.fresetOff {s : State} {f : Fn} (h : FnOff s f) (typ index : Nat) : FnOff (s.fresetOff typ index) f where
  state := (fresetOff_fnState s typ index f).trans h.state
  en := (fresetOff_fnEn s typ index f).trans h.en
  service := (fresetOff_inService s typ index f).trans h.service

/-- What the end of a shut-down makes of a function, a queue's buffers apart. -/
theorem fnDone_eq (s : State) {f : Fn} (hq : ∀ q, f ≠ .queue q) : s.fnDone f =
    if s.fnState f == 3 then (((s.fnOff f).leaveService f).fnSet f 0 0).fnStartGuarded f
    else (((s.fnOff f).leaveService f).fnSet f 0 0).fresetOff (fnFreset f).1 (fnFreset f).2 := by
  cases f with
  | queue q => exact absurd rfl (hq q)
  | _ => rfl

/-- R34: a shut-down that completes with no enable pending leaves its function OFF. -/
theorem fnOff_fnDone (s : State) {f : Fn} (hq : ∀ q, f ≠ .queue q) (h : s.fnState f = 2) : FnOff (s.fnDone f) f := by
  rw [fnDone_eq s hq, h]
  exact (fnOff_fnSet_leaveService (s.fnOff f) f).fresetOff _ _

theorem exec_functionShutdownDone (f : Fn) (s : State) :
    exec (.functionShutdownDone f) s = finish (if 2 ≤ s.fnState f && s.fnStopped f then s.fnDone f else s) := rfl

/-- R32: FUNCTION_SHUTDOWN_DONE of a STOPPING function whose work is done. -/
theorem answers_shutdownDone_off {s : State} {f : Fn} (hq : ∀ q, f ≠ .queue q) (he : f ≠ .eventRing) (hstop : s.fnStopped f = true)
    (h : s.fnState f = 2) : Answers (.functionShutdownDone f) s fun t => FnOff t f := by
  refine answers_of_exec ?_ ((fnOff_fnDone s hq h).flushEvents he)
  rw [exec_functionShutdownDone, h, hstop]
  rfl

/-! ### Functions whose start-up and shut-down need nothing -/

/-- A shadow compare, the audit or a background SRAM test. -/
def PlainFn (f : Fn) : Prop := ∃ n, f ∈ [Fn.shadow n, .audit, .sramTest n]

theorem PlainFn.cases {f : Fn} (hf : PlainFn f) : (∃ n, f = .shadow n) ∨ f = .audit ∨ ∃ n, f = .sramTest n := by
  obtain ⟨n, h⟩ := hf
  simp only [List.mem_cons, List.not_mem_nil, or_false] at h
  exact h.imp (⟨n, ·⟩) (Or.imp id (⟨n, ·⟩))

variable {f : Fn} (hf : PlainFn f)
include hf

theorem plain_unchecked (s : State) : s.enableDiscarded f = false ∧ s.disableDiscarded f = false ∧ s.fnStopped f = true := by
  rcases hf.cases with ⟨n, rfl⟩ | rfl | ⟨n, rfl⟩ <;> exact ⟨rfl, rfl, rfl⟩

theorem plain_fnStartGuarded (s : State) : s.fnStartGuarded f = ((s.fnSet f 1 1).leaveService f).enterService f := by
  rcases hf.cases with ⟨n, rfl⟩ | rfl | ⟨n, rfl⟩ <;> rfl

theorem plain_shutDown (s : State) : s.shutDown f = s := by
  rcases hf.cases with ⟨n, rfl⟩ | rfl | ⟨n, rfl⟩ <;> rfl

theorem plain_ne : f ≠ .eventRing ∧ ∀ q, f ≠ .queue q := by
  rcases hf.cases with ⟨n, rfl⟩ | rfl | ⟨n, rfl⟩ <;> exact ⟨nofun, nofun⟩

theorem plain_start_serves (s : State) : FnServes (s.fnStartGuarded f) f := by
  rw [plain_fnStartGuarded hf]
  exact ⟨(enterService_get ..).trans (fnState_fnSet s f 1 (by omega)), (enterService_get ..).trans (fnEn_fnSet s f 1 (by omega)),
    enterService_inService_same _ f⟩

theorem plain_start_inService (s : State) {g : Fn} (h : g.code ≠ f.code) : (s.fnStartGuarded f).inService g = s.inService g := by
  rw [plain_fnStartGuarded hf, enterService_inService_ne _ h, leaveService_inService_ne _ h, fnSet_inService]

/-- R34: a pending enable starts the function again when its shut-down completes. -/
theorem plain_fnDone_pending (s : State) (h : s.fnState f = 3) : FnServes (s.fnDone f) f := by
  rw [fnDone_eq s (plain_ne hf).2, h]
  exact plain_start_serves hf _

end Sys2Proof.Machine
end

section
/-!
PROOFS. The transitions of Table 1-8, assembled from what an enable, a disable and a completed shut-down make of a function.
-/

namespace Sys2Proof

open Machine

/-- Settles O10: each transition by the state that the command finds the function in. -/
theorem functionStateTransitions : Obligations.FunctionStateTransitions := by
  unfold Obligations.FunctionStateTransitions
  have enable {f : Fn} {s x : State} (h : s.fnEnable f = x) : Ends (.functionEnable f) s x := ends_of_exec rfl h
  have disable {f : Fn} {s x : State} (h : s.fnDisable f = x) : Ends (.functionDisable f) s x := ends_of_exec rfl h
  refine ⟨fun f s hd => ⟨fun h => enable (fnEnable_on s hd h), fun h => enable (fnEnable_changing s hd h)⟩,
    fun f s hd => ⟨fun h => disable (fnDisable_off s hd h), fun h => disable (fnDisable_changing s hd h)⟩,
    fun f n s hs hmem => ?plain⟩
  have hf : PlainFn f := ⟨n, hmem⟩
  obtain ⟨hen, hdis, hstop⟩ := plain_unchecked hf s
  obtain ⟨hring, hqueue⟩ := plain_ne hf
  refine ⟨fun h => ?start, fun h => ?stop, fun h _ => ?off, fun h => ?again⟩
  case start =>
    obtain ⟨hstate, hEn, hserv⟩ := (plain_start_serves hf s).flushEvents hring
    refine answers_of_exec (congrArg finish (fnEnable_off s hen h)) ⟨hstate, hEn, hserv, fun g hg => ?_⟩
    rw [flushEvents_inService, plain_start_inService hf s hg]
  case stop =>
    refine disable ?_
    rw [fnDisable_on s hdis h, plain_shutDown hf, State.fnSet]
  case off =>
    obtain ⟨u, hu, hstate, hEn, hserv⟩ := answers_shutdownDone_off hqueue hring hstop h
    exact ⟨u, hu, hstate, hEn, hserv⟩
  case again =>
    have hexec : exec (.functionShutdownDone f) s = finish (s.fnDone f) := by
      rw [exec_functionShutdownDone, h, hstop]
      rfl
    obtain ⟨hstate, hEn, hserv⟩ := (plain_fnDone_pending hf s h).flushEvents hring
    exact answers_of_exec hexec ⟨hstate, hEn, hserv⟩

end Sys2Proof
end

section
/-!
PROOFS. The dispatch rotation and the region status (R13, R105, R106): what entering and leaving the rotation, a rotation epoch and the
recomputed status leave of the state.
-/

namespace Sys2Proof.Machine

/-! ### Bits of a mask -/

/-- A bit taken out of a mask leaves the others. -/
theorem testBit_sub_two_pow {m k : Nat} (h : m.testBit k = true) (j : Nat) : (m - 2 ^ k).testBit j = (m.testBit j && decide (j ≠ k)) := by
  induction k generalizing m j with
  | zero =>
    rw [Nat.testBit_zero, decide_eq_true_eq] at h
    cases j with
    | zero => simp [Nat.testBit_zero]; omega
    | succ j =>
      have hdiv : (m - 1) / 2 = m / 2 := by omega
      simp [Nat.testBit_add_one, hdiv]
  | succ k ih =>
    rw [Nat.testBit_add_one] at h
    have hle := Nat.ge_two_pow_of_testBit h
    have hpow : 2 ^ (k + 1) = 2 * 2 ^ k := by rw [Nat.pow_succ, Nat.mul_comm]
    cases j with
    | zero =>
      have hmod : (m - 2 ^ (k + 1)) % 2 = m % 2 := by omega
      simp [Nat.testBit_zero, hmod]
    | succ j =>
      have hdiv : (m - 2 ^ (k + 1)) / 2 = m / 2 - 2 ^ k := by omega
      simp [Nat.testBit_add_one, hdiv, ih h]

/-! ### Engines -/

@[simp] theorem onEng_eng_same (s : State) (g : Nat) (f : Engine → Engine) : (s.onEng g f).eng g = f (s.eng g) := KMap.get_set_same _ _ _ _

theorem onEng_eng_ne (s : State) {g h : Nat} (f : Engine → Engine) (hne : h ≠ g) : (s.onEng g f).eng h = s.eng h :=
  KMap.get_set_ne _ _ _ _ _ _ hne

theorem eng_of_engines {s t : State} (h : t.fen.engines = s.fen.engines) (g : Nat) : t.eng g = s.eng g := by rw [State.eng, h, State.eng]

@[simp] theorem set_eng (s : State) (f : Field) (i v g : Nat) : (s.set f i v).eng g = s.eng g := rfl

theorem Within.onEng (rs : List Reg) (s : State) (g : Nat) (f : Engine → Engine) : Within rs s (s.onEng g f) := .of_parts rs rfl rfl

theorem Within.onSeq (rs : List Reg) (s : State) (k : Nat) (f : SeqPort → SeqPort) : Within rs s (s.onSeq k f) := .of_parts rs rfl rfl

@[simp] theorem onSeq_seq_same (s : State) (k : Nat) (f : SeqPort → SeqPort) : (s.onSeq k f).seq k = f (s.seq k) := KMap.get_set_same _ _ _ _

theorem onSeq_seq_ne (s : State) {k j : Nat} (f : SeqPort → SeqPort) (hne : j ≠ k) : (s.onSeq k f).seq j = s.seq j :=
  KMap.get_set_ne _ _ _ _ _ _ hne

/-! ### The rotation -/

/-- An engine of a region is in rotation exactly where its bit of its pod's mask is set. -/
theorem mem_rotation {s : State} {n e : Nat} (he : e < 48) :
    e ∈ s.rotation n ↔ (s.get FEN_POD_CTRL.ENG_MASK (6 * n + e / 8)).testBit (e % 8) = true := by
  simp [State.rotation, he]

theorem rotation_lt {s : State} {n e : Nat} (h : e ∈ s.rotation n) : e < 48 := by
  simp only [State.rotation, List.mem_filter, List.mem_range] at h
  exact h.1

/-- The rotation is read off the pods' masks. -/
theorem rotation_of_masks {s t : State} {n : Nat}
    (h : ∀ p < 6, t.get FEN_POD_CTRL.ENG_MASK (6 * n + p) = s.get FEN_POD_CTRL.ENG_MASK (6 * n + p)) : t.rotation n = s.rotation n := by
  unfold State.rotation
  refine List.filter_congr fun e he => ?_
  rw [h (e / 8) (by have := List.mem_range.mp he; omega)]

theorem Within.rotation {rs : List Reg} {s t : State} (h : Within rs s t) (hrs : Reg.FEN_POD_CTRL ∉ rs) {n : Nat} (hn : n < 4) :
    t.rotation n = s.rotation n := rotation_of_masks fun p hp => h.get FEN_POD_CTRL.ENG_MASK _ hrs (by decide) (by omega)

/-- Entering or leaving the rotation writes at most the pod's mask. -/
theorem setRotation_cases (s : State) (n e : Nat) (b : Bool) :
    s.setRotation n e b = s ∨ ∃ v, s.setRotation n e b = s.set FEN_POD_CTRL.ENG_MASK (6 * n + e / 8) v := by
  unfold State.setRotation
  dsimp only
  split
  · exact Or.inl rfl
  · exact Or.inr ⟨_, rfl⟩

@[simp] theorem setRotation_noRegs (s : State) (n e : Nat) (b : Bool) : (s.setRotation n e b).noRegs = s.noRegs := by
  rcases setRotation_cases s n e b with h | ⟨v, h⟩
  · rw [h]
  · rw [h, set_noRegs]

theorem Within.setRotation (s : State) {n e : Nat} (b : Bool) (hn : n < 4) (he : e < 48) :
    Within [.FEN_POD_CTRL] s (s.setRotation n e b) := by
  rcases setRotation_cases s n e b with h | ⟨v, h⟩
  · rw [h]
    exact .refl _ s
  · rw [h]
    exact .set s FEN_POD_CTRL.ENG_MASK _ v (by decide) (by decide) (by omega)

/-- A field of `FEN_POD_CTRL` other than the mask reads as before. -/
theorem setRotation_get_pod (s : State) {n e : Nat} (b : Bool) (hn : n < 4) (he : e < 48) {f : Field}
    (hf : FEN_POD_CTRL.ENG_MASK.disjoint f = true) {i : Nat} (hi : i < 8192) : (s.setRotation n e b).get f i = s.get f i := by
  rcases setRotation_cases s n e b with h | ⟨v, h⟩
  · rw [h]
  · rw [h, get_set_disjoint s hf (by omega) hi]

/-- An engine that enters the rotation is in it, and one that leaves it is not. -/
theorem setRotation_testBit (s : State) {n e : Nat} (b : Bool) :
    ((s.setRotation n e b).get FEN_POD_CTRL.ENG_MASK (6 * n + e / 8)).testBit (e % 8) = b := by
  have hlt : e % 8 < 8 := Nat.mod_lt _ (by omega)
  have hread (v : Nat) : ((s.set FEN_POD_CTRL.ENG_MASK (6 * n + e / 8) v).get FEN_POD_CTRL.ENG_MASK (6 * n + e / 8)).testBit (e % 8)
      = v.testBit (e % 8) := by
    rw [get_set_same _ _ _ _ (by decide), show FEN_POD_CTRL.ENG_MASK.width = 8 from rfl, Nat.testBit_mod_two_pow]
    simp [hlt]
  unfold State.setRotation
  dsimp only
  split
  · next h => simpa using h
  · next h =>
    rw [hread]
    cases b with
    | true => simpa [Nat.add_comm, Nat.testBit_two_pow_add_eq] using h
    | false =>
      have hset : (s.get FEN_POD_CTRL.ENG_MASK (6 * n + e / 8)).testBit (e % 8) = true := by simpa using h
      simp [testBit_sub_two_pow hset]

theorem mem_rotation_setRotation (s : State) {n e : Nat} (b : Bool) (he : e < 48) : e ∈ (s.setRotation n e b).rotation n ↔ b = true := by
  rw [mem_rotation he, setRotation_testBit]

/-! ### A rotation epoch (R105, R106, R115) -/

/-- The state without its register file, its sequencers, its engines and the jobs that wait: what a rotation epoch leaves. -/
def State.besideDispatch (s : State) : State :=
  { s with regs := [], path := { s.path with seqs := [] }, fen := { s.fen with engines := [], jobs := [] } }

theorem besideDispatch_of_noRegs {s t : State} (h : t.noRegs = s.noRegs) : t.besideDispatch = s.besideDispatch :=
  congrArg (fun x : State => { x with path := { x.path with seqs := [] }, fen := { x.fen with engines := [], jobs := [] } }) h

theorem part_of_besideDispatch {β : Type} (g : State → β) (hg : ∀ s, g s.besideDispatch = g s) {s t : State}
    (h : t.besideDispatch = s.besideDispatch) : g t = g s := by
  rw [← hg t, h, hg]

/-- The registers that a rotation epoch may change. -/
def epochRegs : List Reg := .FEN_KSA_CNT :: pmcRegs

@[simp] theorem pmcEvent_eng (s : State) (l e i d g : Nat) : (s.pmcEvent l e i d).eng g = s.eng g :=
  part_of_noRegs (State.eng · g) (fun _ => rfl) (pmcEvent_noRegs s l e i d)

@[simp] theorem pmcEvent_seq (s : State) (l e i d k : Nat) : (s.pmcEvent l e i d).seq k = s.seq k :=
  part_of_noRegs (State.seq · k) (fun _ => rfl) (pmcEvent_noRegs s l e i d)

theorem dropSlots_keeps {β : Type} (g : State → β) (s : State) (n h : Nat) (p : KsaSlot → Bool)
    (heng : g (s.onEng h fun e => { e with slots := e.slots.filter fun x => !p x }) = g s)
    (hregs : ∀ s t : State, t.noRegs = s.noRegs → g t = g s) : g (s.dropSlots n h p) = g s := by
  unfold State.dropSlots
  dsimp only
  rw [when_keeps g _ _ (fun s => s.pmcEvent n 6 0 _) (hregs _ _ (pmcEvent_noRegs ..)), hregs _ _ (inc_noRegs ..), heng]

theorem Within.dropSlots (s : State) {n : Nat} (h : Nat) (p : KsaSlot → Bool) (hn : n < 4) : Within epochRegs s (s.dropSlots n h p) := by
  unfold State.dropSlots
  exact ((Within.onEng _ s h _).trans (.inc _ FEN_KSA_CNT.WRONG n _ (by decide) (by decide) (by omega))).trans
    (.when _ ((Within.pmcEvent _ n 6 0 _ (by omega)).mono fun _ => List.mem_cons_of_mem _))

/-- Waking a thread changes its engine alone, and not the work that the engine holds. -/
theorem threadWake_cases (s : State) (g : Nat) :
    s.threadWake g = s ∨ ∃ t, (s.thr g t).work = none ∧ s.threadWake g = s.onThr g t fun x => { x with stalled := false } := by
  unfold State.threadWake
  split
  · next t ht =>
    have h := List.find?_some ht
    simp only [Bool.and_eq_true, Option.isNone_iff_eq_none] at h
    exact Or.inr ⟨t, h.2, rfl⟩
  · exact Or.inl rfl

theorem threadWake_keeps {β : Type} (g : State → β) (k : Nat) (heng : ∀ s f, g (State.onEng k f s) = g s) (s : State) :
    g (s.threadWake k) = g s := by
  rcases threadWake_cases s k with h | ⟨t, -, h⟩
  · rw [h]
  · rw [h]
    exact heng s _

/-- R83: the job at the front of those that wait goes to an engine's inbox. -/
def State.placeJob (n e : Nat) (w : WorkItem) (rest : List WorkItem) (s : State) : State :=
  ({ s with fen := { s.fen with jobs := s.fen.jobs.set n rest [] } }.onEng (48 * n + e) fun x =>
    { x with inboxN := x.inboxN ++ [w] }).threadWake (48 * n + e)

@[simp] theorem placeJob_regs (s : State) (n e : Nat) (w : WorkItem) (rest : List WorkItem) : (s.placeJob n e w rest).regs = s.regs :=
  threadWake_keeps State.regs _ (fun _ _ => rfl) _

@[simp] theorem placeJob_besideDispatch (s : State) (n e : Nat) (w : WorkItem) (rest : List WorkItem) :
    (s.placeJob n e w rest).besideDispatch = s.besideDispatch := threadWake_keeps State.besideDispatch _ (fun _ _ => rfl) _

@[simp] theorem placeJob_path (s : State) (n e : Nat) (w : WorkItem) (rest : List WorkItem) : (s.placeJob n e w rest).path = s.path :=
  threadWake_keeps State.path _ (fun _ _ => rfl) _

theorem placeJob_eng_ne (s : State) {n e g : Nat} (w : WorkItem) (rest : List WorkItem) (hne : g ≠ 48 * n + e) :
    (s.placeJob n e w rest).eng g = s.eng g :=
  (threadWake_keeps (State.eng · g) _ (fun t f => onEng_eng_ne t f hne) _).trans (onEng_eng_ne _ _ hne)

/-- What placing a job keeps true, placing the jobs that wait keeps true; a job goes to an engine in rotation. -/
theorem drainJobs_holds (p : State → Prop) (n : Nat)
    (hstep : ∀ s e w rest, e ∈ State.rotation s n → p s → p (s.placeJob n e w rest)) (s : State) (hs : p s) : p (s.drainJobs n) := by
  have hplace (k : Nat) (t : State) (ht : p t) : p (t.placeJobs n k) := by
    induction k generalizing t with
    | zero => exact ht
    | succ k ih =>
      unfold State.placeJobs
      split
      · next w rest e _ he => exact ih _ (hstep t e w rest (List.mem_of_find?_eq_some he) ht)
      · exact ht
  exact hplace _ s hs

theorem drainJobs_regs (s : State) (n : Nat) : (s.drainJobs n).regs = s.regs :=
  drainJobs_holds (fun t => t.regs = s.regs) n (fun t e w rest _ h => (placeJob_regs t n e w rest).trans h) s rfl

theorem drainJobs_besideDispatch (s : State) (n : Nat) : (s.drainJobs n).besideDispatch = s.besideDispatch :=
  drainJobs_holds (fun t => t.besideDispatch = s.besideDispatch) n (fun t e w rest _ h => (placeJob_besideDispatch t n e w rest).trans h) s rfl

theorem drainJobs_path (s : State) (n : Nat) : (s.drainJobs n).path = s.path :=
  drainJobs_holds (fun t => t.path = s.path) n (fun t e w rest _ h => (placeJob_path t n e w rest).trans h) s rfl

/-- An engine that is not in rotation is given no job. -/
theorem drainJobs_eng (s : State) {n e : Nat} (h : e ∉ s.rotation n) : (s.drainJobs n).eng (48 * n + e) = s.eng (48 * n + e) := by
  refine (drainJobs_holds (fun t => t.regs = s.regs ∧ t.eng (48 * n + e) = s.eng (48 * n + e)) n (fun t k w rest hk ht => ?_) s ⟨rfl, rfl⟩).2
  have hne : k ≠ e := by
    rintro rfl
    exact h (by rwa [rotation_of_masks fun p _ => get_of_regs ht.1 ..] at hk)
  exact ⟨(placeJob_regs ..).trans ht.1, (placeJob_eng_ne t w rest (by omega)).trans ht.2⟩

theorem Within.drainJobs (rs : List Reg) (s : State) (n : Nat) : Within rs s (s.drainJobs n) :=
  .of_parts rs (drainJobs_regs s n) (part_of_besideDispatch State.evt (fun _ => rfl) (drainJobs_besideDispatch s n))

/-- R106, R115: the sequencers restart and the pre-charges are discarded, before the jobs that wait are placed. -/
def State.epochStart (n : Nat) (s : State) : State :=
  let len := (s.rotation n).length
  (s.forN 16 fun q s => s.onSeq (16 * n + q) fun x => { x with ptr := if len == 0 then 0 else 3 * q % len, reqs := [] }).forN 48
    fun e s => s.dropSlots n (48 * n + e) fun _ => true

theorem epoch_eq (s : State) (n : Nat) : s.epoch n = (s.epochStart n).drainJobs n := rfl

theorem epochStart_keeps {β : Type} (g : State → β) (s : State) (n : Nat)
    (hseq : ∀ s q p, g (State.onSeq (16 * n + q) (fun x => { x with ptr := p, reqs := [] }) s) = g s)
    (hslots : ∀ s e, g (State.dropSlots n (48 * n + e) (fun _ => true) s) = g s) : g (s.epochStart n) = g s :=
  (forN_keeps g _ (fun e t => hslots t e) 48 _).trans (forN_keeps g _ (fun q t => hseq t q _) 16 s)

theorem Within.epochStart (s : State) {n : Nat} (hn : n < 4) : Within epochRegs s (s.epochStart n) :=
  (Within.forN s 16 _ fun _ _ t => .onSeq epochRegs t _ _).trans (.forN _ 48 _ fun _ _ t => .dropSlots t _ _ hn)

theorem Within.epoch (s : State) {n : Nat} (hn : n < 4) : Within epochRegs s (s.epoch n) :=
  (Within.epochStart s hn).trans (.drainJobs epochRegs _ n)

theorem epoch_besideDispatch (s : State) (n : Nat) : (s.epoch n).besideDispatch = s.besideDispatch :=
  (drainJobs_besideDispatch _ n).trans (epochStart_keeps State.besideDispatch s n (fun _ _ _ => rfl)
    fun t _ => dropSlots_keeps State.besideDispatch t n _ _ rfl fun _ _ => besideDispatch_of_noRegs)

/-- What a sequencer is to dispatch again outlasts a rotation epoch. -/
theorem epoch_redo (s : State) (n k : Nat) : ((s.epoch n).seq k).redo = (s.seq k).redo := by
  have hseq (t : State) (q p : Nat) : ((t.onSeq (16 * n + q) fun x => { x with ptr := p, reqs := [] }).seq k).redo = (t.seq k).redo := by
    by_cases h : k = 16 * n + q
    · subst h
      rw [onSeq_seq_same]
    · rw [onSeq_seq_ne t _ h]
  calc ((s.epoch n).seq k).redo = ((s.epochStart n).seq k).redo := by rw [epoch_eq, State.seq, drainJobs_path, State.seq]
    _ = (s.seq k).redo := epochStart_keeps (fun t => (t.seq k).redo) s n hseq fun t e =>
      dropSlots_keeps (fun t => (t.seq k).redo) t n _ _ rfl fun _ _ => part_of_noRegs (fun t => (t.seq k).redo) fun _ => rfl

/-- An engine that is not in rotation holds the same work after a rotation epoch. -/
theorem epoch_items (s : State) {n e : Nat} (hn : n < 4) (h : e ∉ s.rotation n) :
    ((s.epoch n).eng (48 * n + e)).items = (s.eng (48 * n + e)).items := by
  have hslots (t : State) (k : Nat) : ((t.onEng (48 * n + k) fun x => { x with slots := x.slots.filter fun _ => !true }).eng (48 * n + e)).items
      = (t.eng (48 * n + e)).items := by
    by_cases hk : e = k
    · subst hk
      rw [onEng_eng_same]
      rfl
    · rw [onEng_eng_ne t _ (by omega)]
  calc ((s.epoch n).eng (48 * n + e)).items = ((s.epochStart n).eng (48 * n + e)).items := by
        rw [epoch_eq, drainJobs_eng]
        rwa [(Within.epochStart s hn).rotation (by decide) hn]
    _ = (s.eng (48 * n + e)).items := epochStart_keeps (fun t => (t.eng (48 * n + e)).items) s n (fun _ _ _ => rfl) fun t k =>
      dropSlots_keeps (fun t => (t.eng (48 * n + e)).items) t n _ _ (hslots t k) fun _ _ =>
        part_of_noRegs (fun t => (t.eng (48 * n + e)).items) fun _ => rfl

/-! ### The region status (R9, R13) -/

/-- The state without its register file, its events, the pair's messages and the chip alarm: what the region status leaves. -/
def State.besideStatus (s : State) : State := { s with regs := [], evt := {}, mtl := {}, fen := { s.fen with chipAlarm := false } }

theorem part_of_besideStatus {β : Type} (g : State → β) (hg : ∀ s, g s.besideStatus = g s) {s t : State}
    (h : t.besideStatus = s.besideStatus) : g t = g s := by
  rw [← hg t, h, hg]

/-- A rally message changes the pair's messages alone. -/
theorem rallySend_keeps {β : Type} (g : State → β) (hmtl : ∀ s m, g { s with mtl := m } = g s) (s : State) (typ : Nat) (body : List Byte) :
    g (s.rallySend typ body) = g s := by
  unfold State.rallySend
  split
  · exact (hmtl _ _).trans (hmtl _ _)
  · rfl

theorem pairAlert_keeps {β : Type} (g : State → β) (hmtl : ∀ s m, g { s with mtl := m } = g s) (s : State) (cause : Nat) :
    g (s.pairAlert cause) = g s := by
  unfold State.pairAlert
  split
  · exact rallySend_keeps g hmtl s _ _
  · rfl

theorem pairFail_keeps {β : Type} (g : State → β) (hmtl : ∀ s m, g { s with mtl := m } = g s) (s : State) (bit : Nat) :
    g (s.pairFail bit) = g s := by
  unfold State.pairFail
  split
  · exact hmtl _ _
  · exact pairAlert_keeps g hmtl s 3

theorem Within.pairAlert (rs : List Reg) (s : State) (cause : Nat) : Within rs s (s.pairAlert cause) :=
  .of_parts rs (pairAlert_keeps State.regs (fun _ _ => rfl) s cause) (pairAlert_keeps State.evt (fun _ _ => rfl) s cause)

theorem Within.pairFail (rs : List Reg) (s : State) (bit : Nat) : Within rs s (s.pairFail bit) :=
  .of_parts rs (pairFail_keeps State.regs (fun _ _ => rfl) s bit) (pairFail_keeps State.evt (fun _ _ => rfl) s bit)

theorem Within.raiseAlarm (rs : List Reg) (s : State) : Within rs s s.raiseAlarm := by
  unfold State.raiseAlarm
  split
  · exact .refl rs s
  · exact (Within.of_parts (s := s) (t := { s with fen := { s.fen with chipAlarm := true } }) rs rfl rfl).trans (.pairAlert rs _ 1)

@[simp] theorem raiseAlarm_besideStatus (s : State) : s.raiseAlarm.besideStatus = s.besideStatus := by
  unfold State.raiseAlarm
  split
  · rfl
  · exact pairAlert_keeps State.besideStatus (fun _ _ => rfl) _ 1

/-- R13: the fields of the region status written. -/
def State.regionFields (n : Nat) (s : State) : State :=
  let engs := (s.rotation n).length
  let cap := s.coresIn n * 1463 / 100
  (((((s.set GLB_REGION_STATUS.LEVEL n (s.regionLevel n)).set GLB_REGION_STATUS.ENG_IN n engs).set GLB_REGION_STATUS.CORES_OUT n
    (s.coresOut n)).set GLB_REGION_STATUS.CAP_GBPS n cap).set GLB_REGION_STATUS.FRATE n (10 * engs)).set GLB_REGION_STATUS.BELOW_LOAD n
    (natOfBool (cap < 3200 || 10 * engs < 476))

/-- R13: the region-capacity event. -/
def State.regionEvent (n : Nat) (s : State) : State := (s.set GLB_REGION_STATUS.CHANGED n 1).raise (112 + 8 * n) 1

/-- R13: LEVEL, ENG_IN or CORES_OUT changes. -/
def State.regionChanges (s : State) (n : Nat) : Bool :=
  s.regionLevel n != s.get GLB_REGION_STATUS.LEVEL n || (s.rotation n).length != s.get GLB_REGION_STATUS.ENG_IN n
    || s.coresOut n != s.get GLB_REGION_STATUS.CORES_OUT n

/-- R13: the region status written, and the region-capacity event where it changed. -/
def State.regionShown (n : Nat) (s : State) : State := (s.regionFields n).when (s.regionChanges n) fun s => s.regionEvent n

theorem regionUpdate_eq (s : State) (n : Nat) : s.regionUpdate n =
    if s.regionLevel n == 2 && s.get GLB_REGION_STATUS.LEVEL n != 2 then ((s.regionShown n).pairAlert 2).raiseAlarm else s.regionShown n := rfl

theorem Within.regionShown (s : State) {n : Nat} (hn : n < 4) : Within [.GLB_REGION_STATUS] s (s.regionShown n) := by
  have hset (t : State) (f : Field) (v : Nat) (hf : f.reg = .GLB_REGION_STATUS ∧ f.word < 8) : Within [.GLB_REGION_STATUS] t (t.set f n v) :=
    .set t f n v (by simp [hf.1]) hf.2 (by omega)
  have hfields : Within [.GLB_REGION_STATUS] s (s.regionFields n) :=
    (((((hset s GLB_REGION_STATUS.LEVEL _ (by decide)).trans (hset _ GLB_REGION_STATUS.ENG_IN _ (by decide))).trans
      (hset _ GLB_REGION_STATUS.CORES_OUT _ (by decide))).trans (hset _ GLB_REGION_STATUS.CAP_GBPS _ (by decide))).trans
      (hset _ GLB_REGION_STATUS.FRATE _ (by decide))).trans (hset _ GLB_REGION_STATUS.BELOW_LOAD _ (by decide))
  have hevent (t : State) : Within [.GLB_REGION_STATUS] t (t.regionEvent n) :=
    (hset t GLB_REGION_STATUS.CHANGED 1 (by decide)).trans (.raise _ (112 + 8 * n) 1 0 0 0 (by omega))
  exact hfields.trans (.when _ (hevent _))

theorem Within.regionUpdate (s : State) {n : Nat} (hn : n < 4) : Within [.GLB_REGION_STATUS] s (s.regionUpdate n) := by
  rw [regionUpdate_eq]
  split
  · exact ((Within.regionShown s hn).trans (.pairAlert _ _ 2)).trans (.raiseAlarm _ _)
  · exact .regionShown s hn

theorem besideStatus_of_noRegs {s t : State} (h : t.noRegs = s.noRegs) : t.besideStatus = s.besideStatus :=
  congrArg (fun x : State => { x with evt := {}, mtl := {}, fen := { x.fen with chipAlarm := false } }) h

theorem regionEvent_besideStatus (s : State) (n : Nat) : (s.regionEvent n).besideStatus = s.besideStatus := rfl

theorem regionShown_besideStatus (s : State) (n : Nat) : (s.regionShown n).besideStatus = s.besideStatus := by
  have hfields : (s.regionFields n).noRegs = s.noRegs := by simp only [State.regionFields, set_noRegs]
  rw [State.regionShown, when_keeps State.besideStatus _ _ (fun s => s.regionEvent n) (regionEvent_besideStatus _ n),
    besideStatus_of_noRegs hfields]

theorem regionUpdate_besideStatus (s : State) (n : Nat) : (s.regionUpdate n).besideStatus = s.besideStatus := by
  rw [regionUpdate_eq]
  split
  · rw [raiseAlarm_besideStatus, pairAlert_keeps State.besideStatus (fun _ _ => rfl), regionShown_besideStatus]
  · exact regionShown_besideStatus s n

@[simp] theorem regionUpdate_tbl (s : State) (n : Nat) : (s.regionUpdate n).tbl = s.tbl :=
  part_of_besideStatus State.tbl (fun _ => rfl) (regionUpdate_besideStatus s n)
@[simp] theorem regionUpdate_eng (s : State) (n g : Nat) : (s.regionUpdate n).eng g = s.eng g :=
  part_of_besideStatus (State.eng · g) (fun _ => rfl) (regionUpdate_besideStatus s n)
@[simp] theorem regionUpdate_seq (s : State) (n k : Nat) : (s.regionUpdate n).seq k = s.seq k :=
  part_of_besideStatus (State.seq · k) (fun _ => rfl) (regionUpdate_besideStatus s n)
@[simp] theorem regionUpdate_wipes (s : State) (n : Nat) : (s.regionUpdate n).fen.wipes = s.fen.wipes :=
  part_of_besideStatus (·.fen.wipes) (fun _ => rfl) (regionUpdate_besideStatus s n)
@[simp] theorem regionUpdate_service (s : State) (n : Nat) : (s.regionUpdate n).service = s.service :=
  part_of_besideStatus State.service (fun _ => rfl) (regionUpdate_besideStatus s n)

end Sys2Proof.Machine
end

section
/-!
PROOFS. Fences and restores of an engine (R10, R11, R124, R125, R696): what a fence of an engine whose work can be dispatched again leaves,
and what clearing an engine leaves of it.
-/

namespace Sys2Proof.Machine

/-! ### Work dispatched again (R10) -/

/-- A work item that its engine has not ended and no port transmits: a fence dispatches it again. -/
def State.requeues (s : State) (n : Nat) (w : WorkItem) : Prop :=
  w.job = none ∧ s.roGet (w.seqKey n) w.it.cls w.num = some .outstanding

/-- R10: a work item joins those that its sequencer dispatches again. -/
def State.requeue (n : Nat) (w : WorkItem) (s : State) : State :=
  s.onSeq (w.seqKey n) fun x => { x with redo := x.redo ++ [{ w with ksaHit := false }] }

theorem fenceItem_requeues {s : State} {n : Nat} {w : WorkItem} (h : s.requeues n w) : s.fenceItem n w = s.requeue n w := by
  obtain ⟨hjob, hro⟩ := h
  rw [State.fenceItem, if_neg (by rw [hjob]; exact Bool.false_ne_true), hro]
  rfl

/-- The state without its sequencers. -/
def State.noSeqs (s : State) : State := { s with path := { s.path with seqs := [] } }

theorem part_of_noSeqs {β : Type} (g : State → β) (hg : ∀ s, g s.noSeqs = g s) {s t : State} (h : t.noSeqs = s.noSeqs) : g t = g s := by
  rw [← hg t, h, hg]

/-- An engine that gives up its work: its threads stall and its inboxes are empty. -/
def Engine.emptied (x : Engine) : Engine :=
  { x with threads := x.threads.map fun t => (t.1, { t.2 with work := none, slot := none, failed := none, stalled := true })
           inboxN := [], inboxX := [] }

theorem Engine.items_emptied (x : Engine) : x.emptied.items = [] := by
  simp [Engine.items, Engine.emptied, List.filterMap_map]

/-- R10: the engine leaves the rotation and gives up its work. -/
def State.emptyEngine (n e : Nat) (s : State) : State := (s.setRotation n e false).onEng (48 * n + e) Engine.emptied

theorem emptyEngine_path (s : State) (n e : Nat) : (s.emptyEngine n e).path = s.path :=
  calc (s.emptyEngine n e).path = (s.setRotation n e false).path := rfl
    _ = s.path := part_of_noRegs State.path (fun _ => rfl) (setRotation_noRegs s n e false)

theorem takeOut_eq (s : State) (n e : Nat) :
    s.takeOut n e = (s.emptyEngine n e).forL (s.eng (48 * n + e)).items fun w s => s.fenceItem n w := rfl

theorem takeOut_noSeqs {s : State} {n e : Nat} (h : ∀ w ∈ (s.eng (48 * n + e)).items, s.requeues n w) :
    (s.takeOut n e).noSeqs = (s.emptyEngine n e).noSeqs := by
  rw [takeOut_eq]
  refine forL_holds (fun t => t.noSeqs = (s.emptyEngine n e).noSeqs) _ _ (fun w hw t ht => ?_) _ rfl
  have hro : t.path.reorder = s.path.reorder := (part_of_noSeqs (·.path.reorder) (fun _ => rfl) ht).trans (congrArg (·.reorder) (emptyEngine_path s n e))
  have hw' : t.requeues n w := by
    obtain ⟨hjob, hget⟩ := h w hw
    exact ⟨hjob, by rw [State.roGet, State.ro, hro]; exact hget⟩
  rw [fenceItem_requeues hw']
  exact ht

/-- The only work item of an engine joins those that its sequencer dispatches again. -/
theorem takeOut_redo {s : State} {n e : Nat} {w : WorkItem} (hitems : (s.eng (48 * n + e)).items = [w]) (h : s.requeues n w) :
    ((s.takeOut n e).seq (w.seqKey n)).redo = (s.seq (w.seqKey n)).redo ++ [{ w with ksaHit := false }] := by
  have hw' : (s.emptyEngine n e).requeues n w := ⟨h.1, by rw [State.roGet, State.ro, emptyEngine_path]; exact h.2⟩
  rw [takeOut_eq, hitems]
  change (((s.emptyEngine n e).fenceItem n w).seq (w.seqKey n)).redo = _
  rw [fenceItem_requeues hw', State.requeue, onSeq_seq_same, State.seq, emptyEngine_path]
  rfl

/-! ### A fence (R124) -/

/-- R124: STATE and CAUSE of a fenced engine written, and its work taken. -/
def State.fenceTaken (n e cause : Nat) (s : State) : State :=
  ((s.set FEN_ENG.STATE (48 * n + e) 2).set FEN_ENG.CAUSE (48 * n + e) cause).takeOut n e

/-- The registers that a fence may change. -/
def fenceRegs : List Reg := .FEN_POD_CTRL :: .FEN_ENG :: epochRegs

/-- What a fence of an engine leaves. -/
structure Fenced (s u : State) (n e cause : Nat) : Prop where
  state : u.get FEN_ENG.STATE (48 * n + e) = 2
  cause : u.get FEN_ENG.CAUSE (48 * n + e) = cause
  cores : u.get FEN_ENG.CORES_IN (48 * n + e) = s.get FEN_ENG.CORES_IN (48 * n + e)
  out : e ∉ u.rotation n
  items : (u.eng (48 * n + e)).items = []
  podServes : u.podServes n e = s.podServes n e
  tbl : u.tbl = s.tbl

/-- The fields of the engines and the pods read the same in two states. -/
def FenSame (u v : State) : Prop :=
  ∀ (f : Field) (i : Nat), (f.reg = .FEN_ENG ∨ f.reg = .FEN_POD_CTRL) → f.fits = true → i < 8192 → v.get f i = u.get f i

theorem Within.fenSame {rs : List Reg} {u v : State} (h : Within rs u v) (he : Reg.FEN_ENG ∉ rs) (hp : Reg.FEN_POD_CTRL ∉ rs) : FenSame u v := by
  rintro f i (hf | hf) hfit hi
  · exact h.get f i (hf ▸ he) (fits_word hfit) hi
  · exact h.get f i (hf ▸ hp) (fits_word hfit) hi

theorem flushEvents_fenSame (u : State) : FenSame u u.flushEvents := by
  rintro f i (hf | hf) hfit hi
  · exact flushEvents_get_early u f i (by rw [hf, hfit]; rfl) hi
  · exact flushEvents_get_early u f i (by rw [hf, hfit]; rfl) hi

theorem FenSame.rotation {u v : State} (h : FenSame u v) {n : Nat} (hn : n < 4) : v.rotation n = u.rotation n :=
  rotation_of_masks fun p hp => h _ _ (Or.inr rfl) (by decide) (by omega)

theorem FenSame.podServes {u v : State} (h : FenSame u v) (hs : v.service = u.service) {n e : Nat} (hn : n < 4) (he : e < 48) :
    v.podServes n e = u.podServes n e := by
  rw [State.podServes, State.podServes, h _ _ (Or.inr rfl) (by decide) (by omega), hs]

/-- What keeps the engine's fields, its work, service and the tables keeps a fence. -/
theorem Fenced.keep {s u v : State} {n e cause : Nat} (h : Fenced s u n e cause) (hn : n < 4) (he : e < 48) (hsame : FenSame u v)
    (hitems : (v.eng (48 * n + e)).items = (u.eng (48 * n + e)).items) (hservice : v.service = u.service) (htbl : v.tbl = u.tbl) :
    Fenced s v n e cause where
  state := (hsame _ _ (Or.inl rfl) (by decide) (by omega)).trans h.state
  cause := (hsame _ _ (Or.inl rfl) (by decide) (by omega)).trans h.cause
  cores := (hsame _ _ (Or.inl rfl) (by decide) (by omega)).trans h.cores
  out := by rw [hsame.rotation hn]; exact h.out
  items := hitems.trans h.items
  podServes := (hsame.podServes hservice hn he).trans h.podServes
  tbl := htbl.trans h.tbl

theorem Fenced.flushEvents {s u : State} {n e cause : Nat} (h : Fenced s u n e cause) (hn : n < 4) (he : e < 48) :
    Fenced s u.flushEvents n e cause :=
  h.keep hn he (flushEvents_fenSame u) (by rw [eng_of_engines (congrArg FenState.engines (flushEvents_fen u))]) (flushEvents_service u) (flushEvents_tbl u)

theorem Fenced.regionUpdate {s u : State} {n e cause : Nat} (h : Fenced s u n e cause) (hn : n < 4) (he : e < 48) :
    Fenced s (u.regionUpdate n) n e cause :=
  h.keep hn he ((Within.regionUpdate u hn).fenSame (by decide) (by decide)) (by rw [regionUpdate_eng]) (regionUpdate_service u n)
    (regionUpdate_tbl u n)

theorem Fenced.epoch {s u : State} {n e cause : Nat} (h : Fenced s u n e cause) (hn : n < 4) (he : e < 48) : Fenced s (u.epoch n) n e cause :=
  h.keep hn he ((Within.epoch u hn).fenSame (by decide) (by decide)) (epoch_items u hn h.out)
    (part_of_besideDispatch State.service (fun _ => rfl) (epoch_besideDispatch u n))
    (part_of_besideDispatch State.tbl (fun _ => rfl) (epoch_besideDispatch u n))

theorem Fenced.raise {s u : State} {n e cause : Nat} (h : Fenced s u n e cause) (a b c : Nat) : Fenced s (u.raise a b c) n e cause :=
  ⟨h.state, h.cause, h.cores, h.out, h.items, h.podServes, h.tbl⟩

theorem Fenced.pairFail {s u : State} {n e cause : Nat} (h : Fenced s u n e cause) (hn : n < 4) (he : e < 48) (bit : Nat) :
    Fenced s (u.pairFail bit) n e cause :=
  h.keep hn he ((Within.pairFail [] u bit).fenSame (by decide) (by decide))
    (pairFail_keeps (fun t => (t.eng (48 * n + e)).items) (fun _ _ => rfl) u bit) (pairFail_keeps State.service (fun _ _ => rfl) u bit)
    (pairFail_keeps State.tbl (fun _ _ => rfl) u bit)

/-- What holds of an update made under a condition, and without it. -/
theorem when_holds (p : State → Prop) (s : State) (c : Bool) (f : State → State) (hs : p s) (hf : p (f s)) : p (s.when c f) := by
  cases c
  · exact hs
  · exact hf

variable {s : State} {n e cause : Nat} (hn : n < 4) (he : e < 48) (hcause : cause < 16)
  (hitems : ∀ w ∈ (s.eng (48 * n + e)).items, s.requeues n w)

include hn he hcause hitems

theorem fenced_fenceTaken : Fenced s (s.fenceTaken n e cause) n e cause := by
  have hg : 48 * n + e < 8192 := by omega
  generalize hs1 : (s.set FEN_ENG.STATE (48 * n + e) 2).set FEN_ENG.CAUSE (48 * n + e) cause = s1
  have hnoRegs : s1.noRegs = s.noRegs := by rw [← hs1, set_noRegs, set_noRegs]
  have heng : s1.eng (48 * n + e) = s.eng (48 * n + e) := part_of_noRegs (State.eng · _) (fun _ => rfl) hnoRegs
  have hreq : ∀ w ∈ (s1.eng (48 * n + e)).items, s1.requeues n w := by
    intro w hw
    obtain ⟨hjob, hro⟩ := hitems w (by rwa [heng] at hw)
    exact ⟨hjob, (part_of_noRegs (fun t => t.roGet (w.seqKey n) w.it.cls w.num) (fun _ => rfl) hnoRegs).trans hro⟩
  have hpart {β : Type} (g : State → β) (hgs : ∀ s, g s.noSeqs = g s) : g (s.fenceTaken n e cause) = g (s1.emptyEngine n e) := by
    rw [State.fenceTaken, hs1]
    exact part_of_noSeqs g hgs (takeOut_noSeqs hreq)
  have hget (f : Field) (i : Nat) : (s.fenceTaken n e cause).get f i = (s1.setRotation n e false).get f i := hpart (State.get · f i) fun _ => rfl
  have hrot := Within.setRotation s1 false hn he
  constructor
  case state =>
    rw [hget, hrot.get _ _ (by decide) (by decide) hg, ← hs1, get_set_disjoint _ (by decide) hg hg, get_set_eq _ (by decide) (by decide)]
  case cause => rw [hget, hrot.get _ _ (by decide) (by decide) hg, ← hs1, get_set_eq _ (by decide) hcause]
  case cores =>
    rw [hget, hrot.get _ _ (by decide) (by decide) hg, ← hs1, get_set_disjoint _ (by decide) hg hg, get_set_disjoint _ (by decide) hg hg]
  case out =>
    have hrotation : (s.fenceTaken n e cause).rotation n = (s1.setRotation n e false).rotation n := rotation_of_masks fun p _ => hget _ _
    rw [hrotation, mem_rotation_setRotation s1 false he]
    exact Bool.false_ne_true
  case items =>
    rw [hpart (fun t => (t.eng (48 * n + e)).items) fun _ => rfl, State.emptyEngine, onEng_eng_same, Engine.items_emptied]
  case podServes =>
    have hservice : (s1.setRotation n e false).service = s.service :=
      (part_of_noRegs State.service (fun _ => rfl) (setRotation_noRegs s1 n e false)).trans (part_of_noRegs State.service (fun _ => rfl) hnoRegs)
    have hstate : (s1.setRotation n e false).get FEN_POD_CTRL.STATE (6 * n + e / 8) = s.get FEN_POD_CTRL.STATE (6 * n + e / 8) := by
      rw [setRotation_get_pod s1 false hn he (by decide) (by omega), ← hs1, get_set_disjoint _ (by decide) hg (by omega),
        get_set_disjoint _ (by decide) hg (by omega)]
    rw [hpart (State.podServes · n e) fun _ => rfl, State.podServes, State.podServes]
    change ((s1.setRotation n e false).get _ _ == 1 && decide (_ ∈ (s1.setRotation n e false).service)) = _
    rw [hstate, hservice]
  case tbl =>
    rw [hpart State.tbl fun _ => rfl]
    exact (part_of_noRegs State.tbl (fun _ => rfl) (setRotation_noRegs s1 n e false)).trans (part_of_noRegs State.tbl (fun _ => rfl) hnoRegs)

/-- R124: the engine-fence event, which a fence of cause POD does not raise. -/
def State.fenceNoted (n e cause : Nat) (s : State) : State := s.when (cause != 5) fun s => s.raise (112 + 8 * n) 2 e

omit hn he hcause hitems in
theorem fenceEngine_on (h : s.get FEN_ENG.STATE (48 * n + e) = 1) : s.fenceEngine n e cause =
    ((s.fenceTaken n e cause).fenceNoted n e cause).when (s.rotation n != ((s.fenceTaken n e cause).fenceNoted n e cause).rotation n)
      fun s => s.epoch n := by
  rw [State.fenceEngine]
  dsimp only
  rw [if_pos (by rw [h]; rfl)]
  rfl

/-- R124: a fence of an engine that is ON. -/
theorem fenced_fenceEngine (h : s.get FEN_ENG.STATE (48 * n + e) = 1) : Fenced s (s.fenceEngine n e cause) n e cause := by
  have htaken := fenced_fenceTaken hn he hcause hitems
  have hnoted : Fenced s ((s.fenceTaken n e cause).fenceNoted n e cause) n e cause :=
    when_holds (Fenced s · n e cause) _ _ _ htaken (htaken.raise _ _ _)
  rw [fenceEngine_on h]
  exact when_holds (Fenced s · n e cause) _ _ _ hnoted (hnoted.epoch hn he)

omit hn he hcause hitems in
/-- R10: the only work item of a fenced engine is dispatched again. -/
theorem fenceEngine_redo (h : s.get FEN_ENG.STATE (48 * n + e) = 1) {w : WorkItem} (hw : (s.eng (48 * n + e)).items = [w])
    (hreq : s.requeues n w) : ((s.fenceEngine n e cause).seq (w.seqKey n)).redo = (s.seq (w.seqKey n)).redo ++ [{ w with ksaHit := false }] := by
  have hreq' : ((s.set FEN_ENG.STATE (48 * n + e) 2).set FEN_ENG.CAUSE (48 * n + e) cause).requeues n w := hreq
  rw [fenceEngine_on h, when_keeps (fun t => (t.seq (w.seqKey n)).redo) _ _ _ (epoch_redo _ n _),
    State.fenceNoted, when_keeps (fun t => (t.seq (w.seqKey n)).redo) _ _ (fun s => s.raise (112 + 8 * n) 2 e) rfl, State.fenceTaken]
  exact takeOut_redo (s := (s.set FEN_ENG.STATE (48 * n + e) 2).set FEN_ENG.CAUSE (48 * n + e) cause) hw hreq'

end Sys2Proof.Machine
end

section
/-!
PROOFS. Fences, restores, known-answer tests and wipes of the engines (R98, R109, R117, R124 to R128, R696): what each command makes of its
engine.
-/

namespace Sys2Proof.Machine

/-! ### Keys cleared (R128) -/

/-- A core holds no key. -/
def Core.blank (k : Core) : Prop := k.kh = none ∧ k.key = []

/-- Key registers cleared in turn. -/
def clearedCores (l : List Nat) (m : KMap Core) : KMap Core := l.foldl (fun m c => m.set c (m.get c {}).cleared {}) m

theorem clearCores_all (x : Engine) : (x.clearCores fun _ _ => true).cores = clearedCores (List.range 6) x.cores := by
  simp only [Engine.clearCores, clearedCores, if_true]

theorem clearedCores_blank (l : List Nat) (m : KMap Core) (c : Nat) (h : c ∈ l ∨ (m.get c {}).blank) : ((clearedCores l m).get c {}).blank := by
  induction l generalizing m with
  | nil => exact h.resolve_left List.not_mem_nil
  | cons a l ih =>
    refine ih _ ?_
    by_cases hac : c = a
    · subst hac
      exact Or.inr (by simp [Core.blank, Core.cleared])
    · refine h.imp (fun hm => (List.mem_cons.mp hm).resolve_left hac) fun hb => ?_
      rwa [KMap.get_set_ne _ _ _ _ _ _ hac]

theorem clearCores_blank (x : Engine) {c : Nat} (hc : c < 6) : ((x.clearCores fun _ _ => true).cores.get c {}).blank := by
  rw [clearCores_all]
  exact clearedCores_blank _ _ c (Or.inl (List.mem_range.mpr hc))

/-- What clearing an engine leaves of it. -/
structure Cleared (x : Engine) : Prop where
  dmem : x.dmem = []
  slots : x.slots = []
  cores : ∀ c < 6, (x.cores.get c {}).blank

theorem cleared_clearEngine (s : State) (g : Nat) : Cleared ((s.clearEngine g).eng g) := by
  have hcores := fun (c : Nat) (hc : c < 6) => clearCores_blank (s.eng g) hc
  rw [State.clearEngine, onEng_eng_same, State.clearKeys, onEng_eng_same]
  generalize (s.eng g).clearCores (fun _ _ => true) = x at hcores ⊢
  exact ⟨rfl, rfl, hcores⟩

/-! ### Domains woken (R656 to R658) -/

/-- The state without its register file and the domains that wake. -/
def State.besidePower (s : State) : State := { s with regs := [], pwr := {} }

theorem part_of_besidePower {β : Type} (g : State → β) (hg : ∀ s, g s.besidePower = g s) {s t : State} (h : t.besidePower = s.besidePower) :
    g t = g s := by
  rw [← hg t, h, hg]

theorem besidePower_of_noRegs {s t : State} (h : t.noRegs = s.noRegs) : t.besidePower = s.besidePower :=
  congrArg (fun x : State => { x with pwr := {} }) h

theorem domEnable_besidePower (s : State) (d : Nat) : (s.domEnable d).besidePower = s.besidePower := by
  have hset (t : State) (f : Field) (v : Nat) : (t.set f d v).besidePower = t.besidePower := besidePower_of_noRegs (set_noRegs t f d v)
  have hwake (t : State) : (t.wakeBegin d).besidePower = t.besidePower := rfl
  unfold State.domEnable
  split
  · rfl
  · dsimp only
    split
    · rw [hwake, hset, hset]
    · rw [hset, hset]
    · rw [hset]

theorem Within.domEnable (s : State) {d : Nat} (hd : d < 8192) : Within [.PWR_DOM] s (s.domEnable d) := by
  have hset (t : State) (f : Field) (v : Nat) (hf : f.reg = .PWR_DOM ∧ f.word < 8) : Within [.PWR_DOM] t (t.set f d v) :=
    .set t f d v (by simp [hf.1]) hf.2 hd
  have hen := hset s PWR_DOM.EN 1 (by decide)
  unfold State.domEnable
  split
  · exact .refl _ s
  · dsimp only
    split
    · exact (hen.trans (hset _ PWR_DOM.STATE 1 (by decide))).trans (.of_parts _ rfl rfl)
    · exact hen.trans (hset _ PWR_DOM.STATE 3 (by decide))
    · exact hen

theorem domWake_besidePower (s : State) (ds : List Nat) : (s.domWake ds).besidePower = s.besidePower :=
  forL_keeps State.besidePower _ (fun d t => when_keeps State.besidePower t _ (fun t => t.domEnable d) (domEnable_besidePower t d)) ds s

theorem Within.domWake (s : State) {ds : List Nat} (hds : ∀ d ∈ ds, d < 8192) : Within [.PWR_DOM] s (s.domWake ds) :=
  forL_holds (Within [.PWR_DOM] s) _ ds (fun d hd _ ht => ht.trans (.when _ (.domEnable _ (hds d hd)))) s (.refl _ s)

theorem engineDomains_lt {n e : Nat} (hn : n < 4) (he : e < 48) : ∀ d ∈ engineDomains n e, d < 8192 := by
  intro d hd
  simp only [engineDomains, List.mem_cons, List.not_mem_nil, or_false] at hd
  omega

/-! ### FEN_FENCE and FEN_RESTORE -/

section engine

variable {s : State} {n : Fin 4} {e : Fin 48}

theorem fenFence_off (h : s.get FEN_ENG.STATE (48 * n.val + e.val) = 0) : s.fenFence n e false = s.regionUpdate n := by
  simp [State.fenFence, h]

theorem fenFence_on (restore : Bool) (h : s.get FEN_ENG.STATE (48 * n.val + e.val) = 1) :
    s.fenFence n e restore = ((s.fenceEngine n e 1).when restore fun s => s.restoreEngine n e).regionUpdate n := by
  simp [State.fenFence, h]

theorem restoreEngine_off (h : s.get FEN_ENG.STATE (48 * n.val + e.val) = 0) : s.restoreEngine n e = s.restoreStart n e := by
  simp [State.restoreEngine, h]

theorem restoreEngine_stopping (h : s.get FEN_ENG.STATE (48 * n.val + e.val) = 2) :
    s.restoreEngine n e = if s.podServes n e then s.set FEN_ENG.STATE (48 * n + e) 3 else s := by
  simp [State.restoreEngine, h]

/-- R125, R696: a RESTORE that is ignored. -/
theorem restoreEngine_ignored
    (h : s.podServes n e = false ∨ s.get FEN_ENG.STATE (48 * n.val + e.val) = 1 ∨ s.get FEN_ENG.STATE (48 * n.val + e.val) = 3) :
    s.restoreEngine n e = s := by
  rcases h with h | h | h
  · unfold State.restoreEngine
    dsimp only
    split <;> simp [State.restoreStart, h]
  · simp [State.restoreEngine, h]
  · simp [State.restoreEngine, h]

/-- What a fence by FEN_FENCE leaves; `st` is PENDING with a RESTORE in the same write that the pod serves. -/
structure FencedBy (s u : State) (n e st cause : Nat) : Prop where
  state : u.get FEN_ENG.STATE (48 * n + e) = st
  cause : u.get FEN_ENG.CAUSE (48 * n + e) = cause
  out : e ∉ u.rotation n
  tbl : u.tbl = s.tbl

theorem Fenced.by {u : State} {n e cause : Nat} (h : Fenced s u n e cause) : FencedBy s u n e 2 cause := ⟨h.state, h.cause, h.out, h.tbl⟩

/-- A pending restore is the only thing that a RESTORE adds to a fence. -/
theorem Fenced.pending {u : State} {cause : Nat} (h : Fenced s u n e cause) : FencedBy s (u.set FEN_ENG.STATE (48 * n + e) 3) n e 3 cause where
  state := get_set_eq _ (by decide) (by decide)
  cause := (get_set_disjoint _ (by decide) (by omega) (by omega)).trans h.cause
  out := by
    rw [rotation_of_masks fun p hp => get_set_disjoint u (by decide) (by omega) (by omega)]
    exact h.out
  tbl := h.tbl

theorem FencedBy.keep {u v : State} {st cause : Nat} (h : FencedBy s u n e st cause) (hsame : FenSame u v) (htbl : v.tbl = u.tbl) :
    FencedBy s v n e st cause where
  state := (hsame _ _ (Or.inl rfl) (by decide) (by omega)).trans h.state
  cause := (hsame _ _ (Or.inl rfl) (by decide) (by omega)).trans h.cause
  out := by rw [hsame.rotation n.isLt]; exact h.out
  tbl := htbl.trans h.tbl

/-- R124, R696: FEN_FENCE of an engine that is ON and holds no work. -/
theorem answers_fenFence (h : s.get FEN_ENG.STATE (48 * n.val + e.val) = 1) (hitems : (s.eng (48 * n.val + e.val)).items = []) (restore : Bool) :
    Answers (.fenFence n e restore) s fun u => FencedBy s u n e (if restore = true ∧ s.podServes n e = true then 3 else 2) 1 := by
  have hfenced : Fenced s (s.fenceEngine n e 1) n e 1 :=
    fenced_fenceEngine n.isLt e.isLt (by omega) (by simp [hitems]) h
  have hby : FencedBy s ((s.fenceEngine n e 1).when restore fun s => s.restoreEngine n e) n e
      (if restore = true ∧ s.podServes n e = true then 3 else 2) 1 := by
    cases restore with
    | false => simpa using hfenced.by
    | true =>
      rw [when_true, restoreEngine_stopping hfenced.state, hfenced.podServes]
      by_cases hp : s.podServes n e = true
      · simpa [hp] using hfenced.pending
      · simpa [hp] using hfenced.by
  refine answers_of_exec (congrArg finish (fenFence_on restore h)) ?_
  exact (hby.keep ((Within.regionUpdate _ n.isLt).fenSame (by decide) (by decide)) (regionUpdate_tbl _ _)).keep (flushEvents_fenSame _)
    (flushEvents_tbl _)

/-- R125: what the start of a restore leaves. -/
theorem answers_fenRestore (h : s.get FEN_ENG.STATE (48 * n.val + e.val) = 0) (hp : s.podServes n e = true) :
    Answers (.fenRestore n e) s fun u => u.get FEN_ENG.STATE (48 * n.val + e.val) = 1 ∧ (u.eng (48 * n.val + e.val)).dmem = []
      ∧ (u.eng (48 * n.val + e.val)).cores = [] ∧ (u.eng (48 * n.val + e.val)).slots = [] ∧ u.tbl = s.tbl := by
  have hexec : exec (.fenRestore n e) s = finish (s.restoreStart n e) := congrArg finish (restoreEngine_off h)
  rw [State.restoreStart, if_pos hp] at hexec
  generalize hs1 : ((s.set FEN_ENG.STATE (48 * n.val + e.val) 1).clearEngine (48 * n + e)).onEng (48 * n + e)
    (fun x => { x with cores := [] }) = s1 at hexec
  have hwake := domWake_besidePower s1 (engineDomains n e)
  have heng : (s1.domWake (engineDomains n e)).flushEvents.eng (48 * n.val + e.val) = s1.eng (48 * n.val + e.val) :=
    (eng_of_engines (congrArg FenState.engines (flushEvents_fen _)) _).trans (part_of_besidePower (State.eng · _) (fun _ => rfl) hwake)
  have hs1eng : s1.eng (48 * n.val + e.val) = { (s.set FEN_ENG.STATE (48 * n.val + e.val) 1).clearEngine (48 * n + e) |>.eng (48 * n + e) with
      cores := [] } := by
    rw [← hs1]
    exact onEng_eng_same _ _ _
  have hclear := cleared_clearEngine (s.set FEN_ENG.STATE (48 * n.val + e.val) 1) (48 * n + e)
  refine answers_of_exec hexec ⟨?_, ?_, ?_, ?_, ?_⟩
  · rw [flushEvents_fenSame _ _ _ (Or.inl rfl) (by decide) (by omega),
      (Within.domWake s1 (engineDomains_lt n.isLt e.isLt)).get _ _ (by decide) (by decide) (by omega), ← hs1]
    exact get_set_eq _ (by decide) (by decide)
  · rw [heng, hs1eng]
    exact hclear.dmem
  · rw [heng, hs1eng]
  · rw [heng, hs1eng]
    exact hclear.slots
  · rw [flushEvents_tbl, part_of_besidePower State.tbl (fun _ => rfl) hwake, ← hs1]
    rfl

/-! ### The end of a fence and of a restore -/

/-- R117: an engine acknowledges every wipe, and a wipe that no engine has still to acknowledge is over. -/
theorem mem_ackWipes {g : Nat} {l : List KeyWipe} {w : KeyWipe} (h : w ∈ execEngineFenceDone.ackWipes g l) : g ∉ w.waiting ∧ w.waiting ≠ [] := by
  simp only [execEngineFenceDone.ackWipes, List.mem_filter, List.mem_map] at h
  obtain ⟨⟨v, -, rfl⟩, hne⟩ := h
  exact ⟨by simp, by simpa using hne⟩

/-- R124, R128: an engine that is OFF, cleared and awaited by no wipe. -/
def State.fenceEnded (g : Nat) (s : State) : State :=
  ({ s.clearEngine g with fen := { (s.clearEngine g).fen with wipes := execEngineFenceDone.ackWipes g s.fen.wipes } }).set FEN_ENG.STATE g 0

theorem exec_engineFenceDone_stopping (h : s.get FEN_ENG.STATE (48 * n.val + e.val) = 2) (hitems : (s.eng (48 * n.val + e.val)).items = [])
    (hcause : s.get FEN_ENG.CAUSE (48 * n.val + e.val) ≠ 5) :
    exec (.engineFenceDone n e) s = finish ((s.fenceEnded (48 * n + e)).regionUpdate n) := by
  refine congrArg finish ?_
  rw [if_pos (by simp [h, hitems, hcause]), h]
  rfl

theorem exec_engineFenceDone_waiting
    (h : s.get FEN_ENG.STATE (48 * n.val + e.val) < 2 ∨ (s.eng (48 * n.val + e.val)).items ≠ []) :
    exec (.engineFenceDone n e) s = finish s := by
  refine congrArg finish (if_neg ?_)
  simp only [Bool.and_eq_true, decide_eq_true_eq, List.isEmpty_iff]
  rintro ⟨⟨hst, hitems⟩, -⟩
  exact h.elim (fun hlt => by omega) fun hne => hne hitems

/-- ENGINE_FENCE_DONE of a STOPPING engine without work. -/
theorem answers_engineFenceDone (h : s.get FEN_ENG.STATE (48 * n.val + e.val) = 2) (hitems : (s.eng (48 * n.val + e.val)).items = [])
    (hcause : s.get FEN_ENG.CAUSE (48 * n.val + e.val) ≠ 5) :
    Answers (.engineFenceDone n e) s fun u => u.get FEN_ENG.STATE (48 * n.val + e.val) = 0 ∧ Cleared (u.eng (48 * n.val + e.val))
      ∧ (∀ w ∈ u.fen.wipes, 48 * n.val + e.val ∉ w.waiting ∧ w.waiting ≠ []) ∧ u.tbl = s.tbl := by
  refine answers_of_exec (exec_engineFenceDone_stopping h hitems hcause) ⟨?_, ?_, ?_, ?_⟩
  · rw [flushEvents_fenSame _ _ _ (Or.inl rfl) (by decide) (by omega),
      (Within.regionUpdate _ n.isLt).get _ _ (by decide) (by decide) (by omega)]
    exact get_set_eq _ (by decide) (by decide)
  · rw [eng_of_engines (congrArg FenState.engines (flushEvents_fen _)), regionUpdate_eng]
    exact cleared_clearEngine s _
  · rw [flushEvents_fen, regionUpdate_wipes]
    exact fun w hw => mem_ackWipes hw
  · rw [flushEvents_tbl, regionUpdate_tbl]
    rfl

theorem restoring_iff : s.restoring n e = true ↔
    s.get FEN_ENG.STATE (48 * n.val + e.val) = 1 ∧ (s.get FEN_POD_CTRL.ENG_MASK (6 * n.val + e.val / 8)).testBit (e.val % 8) = false := by
  simp [State.restoring]

theorem exec_engineRestoreDone (hr : s.restoring n e = true) (hd : (engineDomains n e).all s.domOn = true) (passed : BitVec 6) :
    exec (.engineRestoreDone n e passed) s = finish (if passed == 0 then
      (((s.set FEN_ENG.CORES_IN (48 * n + e) passed.toNat).set FEN_ENG.STATE (48 * n + e) 0).raise (119 + 8 * n.val) 15 e).regionUpdate n
      else (((s.set FEN_ENG.CORES_IN (48 * n + e) passed.toNat).setRotation n e true).epoch n).regionUpdate n) :=
  congrArg finish (if_pos (by rw [hr, hd]; rfl))

/-- R125: a restored engine returns to the rotation with the cores that passed. -/
theorem answers_engineRestoreDone_passed (hr : s.restoring n e = true) (hd : (engineDomains n e).all s.domOn = true) {passed : BitVec 6}
    (hp : passed ≠ 0) : Answers (.engineRestoreDone n e passed) s fun u =>
      u.get FEN_ENG.CORES_IN (48 * n.val + e.val) = passed.toNat ∧ e.val ∈ u.rotation n ∧ u.get FEN_ENG.STATE (48 * n.val + e.val) = 1 := by
  have hexec := exec_engineRestoreDone hr hd passed
  rw [if_neg (by simpa using hp)] at hexec
  generalize hs1 : (s.set FEN_ENG.CORES_IN (48 * n + e) passed.toNat).setRotation n e true = s1 at hexec
  have hsame : FenSame s1 ((s1.epoch n).regionUpdate n) :=
    ((Within.epoch s1 n.isLt).append (Within.regionUpdate _ n.isLt)).fenSame (by decide) (by decide)
  have hget (f : Field) (hf : f.reg = .FEN_ENG ∧ f.fits = true) : (((s1.epoch n).regionUpdate n).flushEvents).get f (48 * n + e)
      = (s.set FEN_ENG.CORES_IN (48 * n + e) passed.toNat).get f (48 * n + e) := by
    rw [flushEvents_fenSame _ _ _ (Or.inl hf.1) hf.2 (by omega), hsame _ _ (Or.inl hf.1) hf.2 (by omega), ← hs1]
    exact (Within.setRotation _ true n.isLt e.isLt).get _ _ (by rw [hf.1]; decide) (fits_word hf.2) (by omega)
  refine answers_of_exec hexec ⟨?_, ?_, ?_⟩
  · rw [hget _ (by decide)]
    exact get_set_eq _ (by decide) passed.isLt
  · rw [(flushEvents_fenSame _).rotation n.isLt, hsame.rotation n.isLt, ← hs1]
    exact (mem_rotation_setRotation _ true e.isLt).mpr rfl
  · rw [hget _ (by decide), get_set_disjoint _ (by decide) (by omega) (by omega)]
    exact (restoring_iff.mp hr).1

/-- R37, R125: an engine none of whose cores passed is OFF and stays out of the rotation. -/
theorem answers_engineRestoreDone_failed (hr : s.restoring n e = true) (hd : (engineDomains n e).all s.domOn = true) :
    Answers (.engineRestoreDone n e 0) s fun u => u.get FEN_ENG.STATE (48 * n.val + e.val) = 0 ∧ e.val ∉ u.rotation n := by
  have hexec := exec_engineRestoreDone hr hd 0
  rw [if_pos (beq_self_eq_true _)] at hexec
  generalize hs1 : (s.set FEN_ENG.CORES_IN (48 * n + e) (0 : BitVec 6).toNat).set FEN_ENG.STATE (48 * n + e) 0 = s1 at hexec
  have hsame : FenSame s1 ((s1.raise (119 + 8 * n.val) 15 e).regionUpdate n) :=
    ((Within.raise s1 _ _ _ _ _ (by omega)).trans (Within.regionUpdate _ n.isLt)).fenSame (by decide) (by decide)
  refine answers_of_exec hexec ⟨?_, ?_⟩
  · rw [flushEvents_fenSame _ _ _ (Or.inl rfl) (by decide) (by omega), hsame _ _ (Or.inl rfl) (by decide) (by omega), ← hs1]
    exact get_set_eq _ (by decide) (by decide)
  · rw [(flushEvents_fenSame _).rotation n.isLt, hsame.rotation n.isLt, mem_rotation e.isLt, ← hs1,
      get_set_disjoint _ (by decide) (by omega) (by omega), get_set_disjoint _ (by decide) (by omega) (by omega), (restoring_iff.mp hr).2]
    exact Bool.false_ne_true

end engine

end Sys2Proof.Machine
end

section
/-!
PROOFS. Engines fenced by themselves (R98, R109, R124, R126) and wipes acknowledged (R117), and the obligation on fences and restores
assembled.
-/

namespace Sys2Proof.Machine

variable {s : State} {n : Fin 4} {e : Fin 48}

/-- R124: ENGINE_MEMORY_FENCE of an engine that is ON and holds no work. -/
theorem answers_engineMemoryFence (h : s.get FEN_ENG.STATE (48 * n.val + e.val) = 1) (hitems : (s.eng (48 * n.val + e.val)).items = []) :
    Answers (.engineMemoryFence n e) s fun u => Fenced s u n e 4 :=
  answers_of_exec rfl (((fenced_fenceEngine n.isLt e.isLt (by omega) (by simp [hitems]) h).regionUpdate n.isLt e.isLt).flushEvents n.isLt e.isLt)

theorem exec_engineWatchdog (t : Fin 4) :
    exec (.engineWatchdog n e t) s = finish (if (s.thr (48 * n + e) t).work.isSome then (s.fenceEngine n e 2).regionUpdate n else s) := rfl

/-- R10, R109: the watchdog of the only work item of an engine, which no port transmits yet. -/
theorem answers_engineWatchdog (h : s.get FEN_ENG.STATE (48 * n.val + e.val) = 1) {t : Fin 4} {w : WorkItem}
    (hw : (s.thr (48 * n.val + e.val) t).work = some w) (hitems : (s.eng (48 * n.val + e.val)).items = [w]) (hreq : s.requeues n w) :
    Answers (.engineWatchdog n e t) s fun u => Fenced s u n e 2
      ∧ (u.seq (16 * n.val + w.q)).redo = (s.seq (16 * n.val + w.q)).redo ++ [{ w with ksaHit := false }] := by
  have hexec := exec_engineWatchdog (s := s) (n := n) (e := e) t
  rw [if_pos (by rw [hw]; rfl)] at hexec
  have hfenced : Fenced s (s.fenceEngine n e 2) n e 2 := fenced_fenceEngine n.isLt e.isLt (by omega) (by simp [hitems, hreq]) h
  refine answers_of_exec hexec ⟨(hfenced.regionUpdate n.isLt e.isLt).flushEvents n.isLt e.isLt, ?_⟩
  have hseq : (((s.fenceEngine n e 2).regionUpdate n).flushEvents).seq (16 * n.val + w.q) = (s.fenceEngine n e 2).seq (16 * n.val + w.q) := by
    rw [State.seq, flushEvents_path]
    exact regionUpdate_seq ..
  rw [hseq]
  exact fenceEngine_redo h hitems hreq

/-! ### The last core of an engine (R98, R126) -/

/-- A core out of service, its key register cleared. -/
def State.coreOut (n e c : Nat) (s : State) : State :=
  (s.set FEN_ENG.CORES_IN (48 * n + e) (s.get FEN_ENG.CORES_IN (48 * n + e) - 2 ^ c)).clearCore (48 * n + e) c

/-- R98: the last core of an engine that is ON and holds no work is taken out of service: the engine is fenced. -/
theorem fenced_retireCore {c : Nat} (h : s.get FEN_ENG.STATE (48 * n.val + e.val) = 1)
    (hitems : (s.eng (48 * n.val + e.val)).items = []) (hcores : s.get FEN_ENG.CORES_IN (48 * n.val + e.val) = 2 ^ c) :
    Fenced (s.coreOut n e c) (s.retireCore n e c) n e 3 ∧ (s.retireCore n e c).get FEN_ENG.CORES_IN (48 * n.val + e.val) = 0 := by
  have hnone : (s.coreOut n e c).get FEN_ENG.CORES_IN (48 * n.val + e.val) = 0 := by
    change (s.set FEN_ENG.CORES_IN _ _).get _ _ = 0
    rw [hcores, Nat.sub_self]
    exact get_set_eq _ (by decide) (by decide)
  have hstate : (s.coreOut n e c).get FEN_ENG.STATE (48 * n.val + e.val) = 1 :=
    (get_set_disjoint s (by decide) (by omega) (by omega)).trans h
  have hidle : ((s.coreOut n e c).eng (48 * n.val + e.val)).items = [] := by
    rw [State.coreOut, State.clearCore, onEng_eng_same]
    exact hitems
  have hretire : s.retireCore n e c = ((s.coreOut n e c).fenceEngine n e 3).regionUpdate n := by
    have hin : s.coreIn (48 * n.val + e.val) c = true := by rw [State.coreIn, hcores, Nat.testBit_two_pow_self]
    rw [State.retireCore]
    dsimp only
    rw [if_pos hin]
    exact congrArg (State.regionUpdate n) (if_pos (by rw [beq_iff_eq]; exact hnone))
  have hfenced : Fenced (s.coreOut n e c) (s.retireCore n e c) n e 3 := by
    rw [hretire]
    exact (fenced_fenceEngine n.isLt e.isLt (by omega) (by simp [hidle]) hstate).regionUpdate n.isLt e.isLt
  exact ⟨hfenced, hfenced.cores.trans hnone⟩

/-- R126: the position of the test moves on, and a full pass is counted. -/
def State.katStep (n : Nat) (s : State) : State :=
  let x := s.fen.katPos.get n 0
  let s1 := { s with fen := { s.fen with katPos := s.fen.katPos.set n ((x + 1) % 288) 0 } }
  if x + 1 == 288 then s1.incWrap FEN_KAT_STATUS.PASSES n else s1

/-- R126: a failed test is counted and raises its event. -/
def State.katFailed (n e x : Nat) (s : State) : State :=
  ((s.inc FEN_KAT_STATUS.FAILS n).set FEN_KAT_STATUS.CORE n x).raise (112 + 8 * n) 3 e

theorem katTest_failed {x : Nat} (hx : s.fen.katPos.get n 0 = x) (hpod : s.get FEN_POD_CTRL.STATE (6 * n + x / 6 / 8) = 1)
    (hin : s.coreIn (48 * n + x / 6) (x % 6) = true) : s.katTest n false =
      ((((s.katStep n).clearCore (48 * n + x / 6) (x % 6)).katFailed n (x / 6) x).retireCore n (x / 6) (x % 6)).pairFail 2 := by
  rw [State.katTest, hx]
  dsimp only
  rw [if_pos (by rw [hpod, hin]; rfl)]
  subst hx
  rfl

theorem Within.katStep (s : State) (n : Fin 4) : Within [.FEN_KAT_STATUS] s (s.katStep n) := by
  have hpos (l : KMap Nat) : Within [.FEN_KAT_STATUS] s { s with fen := { s.fen with katPos := l } } := .of_parts _ rfl rfl
  unfold State.katStep
  dsimp only
  split
  · exact (hpos _).trans (.set _ FEN_KAT_STATUS.PASSES n _ (by decide) (by decide) (by omega))
  · exact hpos _

theorem katStep_eng (s : State) (n g : Nat) : (s.katStep n).eng g = s.eng g := by
  unfold State.katStep
  dsimp only
  split <;> rfl

theorem Within.katFailed (s : State) (n : Fin 4) (x y : Nat) : Within [.FEN_KAT_STATUS] s (s.katFailed n x y) :=
  ((Within.inc s FEN_KAT_STATUS.FAILS n 1 (by decide) (by decide) (by omega)).trans
    (.set _ FEN_KAT_STATUS.CORE n y (by decide) (by decide) (by omega))).trans (.raise _ _ _ _ _ _ (by omega))

/-- R98, R126: a failed test of the last core of an engine that is ON and holds no work fences the engine. -/
theorem katTest_fences {c : Fin 6} (hpos : s.fen.katPos.get n 0 = 6 * e.val + c)
    (hpod : s.get FEN_POD_CTRL.STATE (6 * n + e / 8) = 1) (h : s.get FEN_ENG.STATE (48 * n.val + e.val) = 1)
    (hitems : (s.eng (48 * n.val + e.val)).items = []) (hcores : s.get FEN_ENG.CORES_IN (48 * n.val + e.val) = 2 ^ c.val) :
    let u := (s.katTest n false).flushEvents
    u.get FEN_ENG.STATE (48 * n.val + e.val) = 2 ∧ u.get FEN_ENG.CAUSE (48 * n.val + e.val) = 3
      ∧ u.get FEN_ENG.CORES_IN (48 * n.val + e.val) = 0 ∧ e.val ∉ u.rotation n := by
  have hdiv : (6 * e.val + c.val) / 6 = e := by omega
  have hmod : (6 * e.val + c.val) % 6 = c := by omega
  have hin : s.coreIn (48 * n + (6 * e.val + c.val) / 6) ((6 * e.val + c.val) % 6) = true := by
    rw [hdiv, hmod, State.coreIn, hcores, Nat.testBit_two_pow_self]
  have htest := katTest_failed hpos (by rw [hdiv]; exact hpod) hin
  rw [hdiv, hmod] at htest
  generalize hs1 : ((s.katStep n).clearCore (48 * n + e) c).katFailed n e (6 * e.val + c) = s1 at htest
  have hsame : FenSame s s1 := by
    rw [← hs1]
    exact (((Within.katStep s n).trans (.onEng _ _ _ _)).trans (.katFailed _ n e _)).fenSame (by decide) (by decide)
  have heng : (s1.eng (48 * n.val + e.val)).items = [] := by
    rw [← hs1]
    change (((s.katStep n).clearCore (48 * n + e) c).eng (48 * n.val + e.val)).items = []
    rw [State.clearCore, onEng_eng_same, katStep_eng]
    exact hitems
  obtain ⟨hfenced, hnone⟩ := fenced_retireCore ((hsame _ _ (Or.inl rfl) (by decide) (by omega)).trans h) heng
    ((hsame _ _ (Or.inl rfl) (by decide) (by omega)).trans hcores)
  have hend := (hfenced.pairFail n.isLt e.isLt 2).flushEvents n.isLt e.isLt
  rw [htest]
  exact ⟨hend.state, hend.cause, (hend.cores.trans hfenced.cores.symm).trans hnone, hend.out⟩

theorem exec_kat (hen : s.flag FEN_KAT_CTRL.EN n = true) (hpause : s.thermPaused = false) (pass : Bool) :
    exec (.katCoreTest n pass) s = finish (s.katTest n pass) ∧ exec (.katForcedTake n pass) s = finish (s.katTest n pass) :=
  ⟨congrArg finish (if_pos (by rw [hen, hpause]; rfl)), congrArg finish (if_pos (by rw [hen, hpause]; rfl))⟩

/-! ### Wipes (R117) -/

/-- R117: once an engine has acknowledged a wipe, no wipe of that key handle waits for it. -/
theorem answers_keyWipeAck (g : Fin 192) (kh : Fin 69632) (h : ∃ w ∈ s.fen.wipes, w.kh = kh ∧ g.val ∈ w.waiting) :
    Answers (.keyWipeAck g kh) s fun u => ∀ w ∈ u.fen.wipes, w.kh = kh → g.val ∉ w.waiting := by
  obtain ⟨v, hv, hkh, hwait⟩ := h
  have hany : (s.fen.wipes.any fun w => w.kh == kh.val && decide (g.val ∈ w.waiting)) = true :=
    List.any_eq_true.mpr ⟨v, hv, by simp [hkh, hwait]⟩
  refine answers_of_exec (congrArg finish (if_pos hany)) ?_
  rw [flushEvents_fen]
  intro w hw hwkh
  obtain ⟨x, -, rfl⟩ := List.mem_map.mp (List.mem_of_mem_filter hw)
  by_cases hx : x.kh == kh.val
  · simp [hx]
  · rw [if_neg hx] at hwkh
    exact absurd (by simpa using hwkh) hx

end Sys2Proof.Machine

namespace Sys2Proof

open Machine

/-- Settles O25: each command by what it makes of an engine in the state that it finds it in. -/
theorem engineFencesAndRestores : Obligations.EngineFencesAndRestores := by
  unfold Obligations.EngineFencesAndRestores
  intro n e s
  refine ⟨fun h hitems restore => ?fence, fun h => ?fenceOff, fun h hp => answers_fenRestore h hp, fun h hp => ?pending, fun h => ?ignored,
    fun h hitems hc => ?done, fun h => ?waiting, fun hr hd passed => ⟨fun hp => answers_engineRestoreDone_passed hr hd hp, ?failed⟩,
    fun h hitems => ?memory, fun t => ⟨fun h => ?quiet, fun w h hw hjob hitems hro => ?watchdog⟩,
    fun c hen hpause hpos hpod h hitems hcores => ?kat, fun a kh h => answers_keyWipeAck a kh h⟩
  case fence =>
    obtain ⟨u, hu, hstate, hcause, hout, htbl⟩ := answers_fenFence h hitems restore
    exact ⟨u, hu, hstate, hcause, hout, htbl⟩
  case fenceOff => exact ends_of_exec rfl (fenFence_off h)
  case pending => exact ends_of_exec rfl ((restoreEngine_stopping h).trans (if_pos hp))
  case ignored => exact ends_of_exec rfl (restoreEngine_ignored h)
  case done =>
    obtain ⟨u, hu, hstate, hclear, hwipes, htbl⟩ := answers_engineFenceDone h hitems hc
    exact ⟨u, hu, hstate, hclear.dmem, hclear.slots, fun c => hclear.cores c c.isLt, hwipes, htbl⟩
  case waiting => exact ends_of_exec (exec_engineFenceDone_waiting h) rfl
  case failed =>
    rintro rfl
    exact answers_engineRestoreDone_failed hr hd
  case memory =>
    obtain ⟨u, hu, hf⟩ := answers_engineMemoryFence h hitems
    exact ⟨u, hu, hf.state, hf.cause, hf.out, hf.tbl⟩
  case quiet => exact ends_of_exec (exec_engineWatchdog t) (if_neg (by rw [h]; exact Bool.false_ne_true))
  case watchdog =>
    obtain ⟨u, hu, hf, hredo⟩ := answers_engineWatchdog h hw hitems ⟨hjob, hro⟩
    exact ⟨u, hu, hf.state, hf.cause, hf.out, hf.items, hredo, hf.tbl⟩
  case kat =>
    obtain ⟨htest, hforced⟩ := exec_kat hen hpause false
    have hfences := katTest_fences hpos hpod h hitems hcores
    exact ⟨answers_of_exec htest hfences, answers_of_exec hforced hfences⟩

end Sys2Proof
end

section
/-!
PROOFS. Start-ups of pods and of the pair (R85, R343, R658, R694): the engines that a pod brings into service, the cores that failed, and
that the choice of a role leaves service.
-/

namespace Sys2Proof.Machine

/-! ### Updates made in turn -/

/-- What one update of many fixes and the others leave reads as that update fixed it. -/
theorem forN_at {β : Type} (g : State → β) (f : Nat → State → State) (n k : Nat) (hk : k < n) (v : β) (hat : ∀ s, g (f k s) = v)
    (hne : ∀ j < n, j ≠ k → ∀ s, g (f j s) = g s) (s : State) : g (s.forN n f) = v := by
  induction n with
  | zero => exact absurd hk (by omega)
  | succ n ih =>
    have hlast : s.forN (n + 1) f = f n (s.forN n f) := by simp [State.forN, List.range_succ]
    rw [hlast]
    by_cases h : n = k
    · rw [h]
      exact hat _
    · rw [hne n (by omega) h]
      exact ih (by omega) fun j hj => hne j (by omega)

/-! ### Masks of cores -/

/-- The mask of the numbers below `n` that `p` picks. -/
theorem foldl_mask (p : Nat → Bool) (n : Nat) :
    let m := (List.range n).foldl (fun m c => if p c then m else m + 2 ^ c) 0
    m < 2 ^ n ∧ ∀ c < n, m.testBit c = !p c := by
  induction n with
  | zero => simp
  | succ n ih =>
    obtain ⟨hlt, hbits⟩ := ih
    generalize hm : (List.range n).foldl (fun m c => if p c then m else m + 2 ^ c) 0 = m at hlt hbits
    simp only [List.range_succ, List.foldl_append, List.foldl_cons, List.foldl_nil, hm, Nat.pow_succ]
    split
    · next hp =>
      refine ⟨by omega, fun c hc => ?_⟩
      rcases Nat.lt_succ_iff_lt_or_eq.mp hc with hcn | rfl
      · exact hbits c hcn
      · rw [Nat.testBit_lt_two_pow hlt, hp]
        rfl
    · next hp =>
      refine ⟨by omega, fun c hc => ?_⟩
      rw [Nat.add_comm]
      rcases Nat.lt_succ_iff_lt_or_eq.mp hc with hcn | rfl
      · rw [Nat.testBit_two_pow_add_gt hcn]
        exact hbits c hcn
      · simp [Nat.testBit_two_pow_add_eq, Nat.testBit_lt_two_pow hlt, hp]

/-! ### A pod enters service (R85) -/

/-- R85: the cores of engine k of a pod that passed. -/
def podCores (fails : List (Nat × Nat)) (k : Nat) : Nat :=
  (List.range 6).foldl (fun m c => if fails.contains (k, c) then m else m + 2 ^ c) 0

/-- R85: engine k of a pod enters service with the cores that passed. -/
def State.engineIn (n p : Nat) (fails : List (Nat × Nat)) (k : Nat) (s : State) : State :=
  let g := 48 * n + 8 * p + k
  let s := (s.onEng g fun x => { x with dmem := [] }).set FEN_ENG.CORES_IN g (podCores fails k)
  if podCores fails k == 0 then s.set FEN_ENG.CAUSE g 3 else (s.set FEN_ENG.STATE g 1).setRotation n (8 * p + k) true

theorem podIn_eq (s : State) (n p : Nat) (fails : List (Nat × Nat)) : s.podIn n p fails =
    (((s.set FEN_POD_CTRL.SET_IN_USE (6 * n + p) (s.get FEN_POD_CTRL.CODE_SET (6 * n + p))).forN 8 fun k s =>
      s.engineIn n p fails k).epoch n).regionUpdate n := rfl

section pod

variable {n p k : Nat} (hn : n < 4) (hp : p < 6) (hk : k < 8) (fails : List (Nat × Nat)) (s : State)
include hn hp hk

/-- Only the mask of engines changes of the pods. -/
theorem engineIn_get_pod {f : Field} (hf : FEN_POD_CTRL.ENG_MASK.disjoint f = true) (hreg : f.reg = .FEN_POD_CTRL) {i : Nat} (hi : i < 8192) :
    (s.engineIn n p fails k).get f i = s.get f i := by
  have hset (t : State) (g : Field) (v : Nat) (hg : g.reg = .FEN_ENG ∧ g.word < 8) : (t.set g (48 * n + 8 * p + k) v).get f i = t.get f i := by
    refine (Within.set t g (48 * n + 8 * p + k) v (rs := [.FEN_ENG]) (by simp [hg.1]) hg.2 (by omega)).get f i ?_ ?_ hi
    · rw [hreg]
      decide
    · simp only [Field.disjoint, Bool.and_eq_true] at hf
      exact fits_word hf.1.2
  unfold State.engineIn
  dsimp only
  split
  · rw [hset _ _ _ (by decide), hset _ _ _ (by decide)]
    rfl
  · rw [setRotation_get_pod _ true hn (by omega) hf hi, hset _ _ _ (by decide), hset _ _ _ (by decide)]
    rfl

theorem engineIn_cores_same : (s.engineIn n p fails k).get FEN_ENG.CORES_IN (48 * n + 8 * p + k) = podCores fails k := by
  have hcores (t : State) : (t.set FEN_ENG.CORES_IN (48 * n + 8 * p + k) (podCores fails k)).get FEN_ENG.CORES_IN (48 * n + 8 * p + k)
      = podCores fails k := get_set_eq _ (by decide) (foldl_mask (fun c => fails.contains (k, c)) 6).1
  unfold State.engineIn
  dsimp only
  split
  · rw [get_set_disjoint _ (by decide) (by omega) (by omega), hcores]
  · rw [(Within.setRotation _ true hn (by omega)).get _ _ (by decide) (by decide) (by omega),
      get_set_disjoint _ (by decide) (by omega) (by omega), hcores]

theorem engineIn_cores_ne {j : Nat} (hj : j < 8) (hne : k ≠ j) :
    (s.engineIn n p fails j).get FEN_ENG.CORES_IN (48 * n + 8 * p + k) = s.get FEN_ENG.CORES_IN (48 * n + 8 * p + k) := by
  have hset (t : State) (v : Nat) (f : Field) (hf : f.fits = true) :
      (t.set f (48 * n + 8 * p + j) v).get FEN_ENG.CORES_IN (48 * n + 8 * p + k) = t.get FEN_ENG.CORES_IN (48 * n + 8 * p + k) :=
    get_set_instance t (by rw [hf]; rfl) (by omega) (by omega) (by omega)
  unfold State.engineIn
  dsimp only
  split
  · rw [hset _ _ _ (by decide), hset _ _ _ (by decide)]
    rfl
  · rw [(Within.setRotation _ true hn (by omega)).get _ _ (by decide) (by decide) (by omega), hset _ _ _ (by decide), hset _ _ _ (by decide)]
    rfl

/-- R85: what a pod that enters service uses, and the cores of its engines. -/
theorem podIn_get : (s.podIn n p fails).get FEN_POD_CTRL.SET_IN_USE (6 * n + p) = s.get FEN_POD_CTRL.CODE_SET (6 * n + p)
    ∧ (s.podIn n p fails).get FEN_ENG.CORES_IN (48 * n + 8 * p + k) = podCores fails k := by
  have hsame (t : State) : FenSame t ((t.epoch n).regionUpdate n) :=
    ((Within.epoch t hn).append (Within.regionUpdate _ hn)).fenSame (by decide) (by decide)
  rw [podIn_eq, hsame _ _ _ (Or.inr rfl) (by decide) (by omega), hsame _ _ _ (Or.inl rfl) (by decide) (by omega)]
  constructor
  · refine (forN_holds (fun t => t.get FEN_POD_CTRL.SET_IN_USE (6 * n + p) = s.get FEN_POD_CTRL.CODE_SET (6 * n + p)) _ 8
      (fun j hj t ht => (engineIn_get_pod hn hp hj fails t (by decide) rfl (by omega)).trans ht) _ ?_)
    exact get_set_eq s (by decide) (get_lt s FEN_POD_CTRL.CODE_SET _)
  · exact forN_at (State.get · FEN_ENG.CORES_IN (48 * n + 8 * p + k)) _ 8 k hk _ (engineIn_cores_same hn hp hk fails)
      (fun j hj hne t => engineIn_cores_ne hn hp hk fails t hj (Ne.symm hne)) _

end pod

theorem contains_vals (fails : List (Fin 8 × Fin 6)) (k : Fin 8) (c : Fin 6) :
    (fails.map fun x => (x.1.val, x.2.val)).contains (k.val, c.val) = fails.contains (k, c) := by
  have hinj : Function.Injective fun x : Fin 8 × Fin 6 => (x.1.val, x.2.val) := fun x y h => by
    simpa [Prod.ext_iff, Fin.ext_iff] using h
  simp only [List.contains_eq_mem]
  exact decide_eq_decide.mpr (List.mem_map_of_injective hinj (a := (k, c)))

theorem exec_functionStartupDone (f : Fn) (fails : List (Fin 8 × Fin 6)) (s : State) : exec (.functionStartupDone f fails) s =
    finish (if 2 ≤ s.fnState f && !s.inService f && s.fnAwake f then s.coresFailed f fails
      else if s.fnState f != 1 || s.inService f || !s.fnAwake f || s.bootHolds then s
      else match f with
        | .pod n p => (s.podIn n p (fails.map fun x => (x.1.val, x.2.val))).enterService f
        | .pair => (s.enterService f).pairSelect
        | _ => s) := rfl

/-- R85: FUNCTION_STARTUP_DONE of a pod that starts. -/
theorem answers_startupDone_pod {s : State} {n : Fin 4} {p : Fin 6} (fails : List (Fin 8 × Fin 6)) (h : s.fnState (.pod n p) = 1)
    (hs : s.inService (.pod n p) = false) (ha : s.fnAwake (.pod n p) = true) (hb : s.bootHolds = false) :
    Answers (.functionStartupDone (.pod n p) fails) s fun t => t.inService (.pod n p) = true
      ∧ t.get FEN_POD_CTRL.SET_IN_USE (6 * n + p) = s.get FEN_POD_CTRL.CODE_SET (6 * n + p)
      ∧ ∀ (k : Fin 8) (c : Fin 6), (t.get FEN_ENG.CORES_IN (48 * n + 8 * p + k)).testBit c = !fails.contains (k, c) := by
  have hexec := exec_functionStartupDone (.pod n p) fails s
  rw [if_neg (by simp [h]), if_neg (by simp [h, hs, ha, hb])] at hexec
  refine answers_of_exec hexec ⟨?_, ?_, fun k c => ?_⟩
  · rw [flushEvents_inService, enterService_inService_same]
  · rw [flushEvents_fenSame _ _ _ (Or.inr rfl) (by decide) (by omega), enterService_get]
    exact (podIn_get n.isLt p.isLt (k := 0) (by omega) _ s).1
  · rw [flushEvents_fenSame _ _ _ (Or.inl rfl) (by decide) (by omega), enterService_get, (podIn_get n.isLt p.isLt k.isLt _ s).2, podCores,
      (foldl_mask (fun c => (fails.map fun x => (x.1.val, x.2.val)).contains (k.val, c)) 6).2 c c.isLt, contains_vals]

/-! ### A start-up that a disable has overtaken (R694) -/

/-- R694: one failed core of a pod taken out of service. -/
def State.coreFailed (n : Fin 4) (p : Fin 6) (x : Fin 8 × Fin 6) (s : State) : State :=
  let g := 48 * n.val + 8 * p.val + x.1.val
  let m := s.get FEN_ENG.CORES_IN g
  s.set FEN_ENG.CORES_IN g (if m.testBit x.2.val then m - 2 ^ x.2.val else m)

theorem coresFailed_eq (s : State) (n : Fin 4) (p : Fin 6) (fails : List (Fin 8 × Fin 6)) :
    s.coresFailed (.pod n p) fails = (s.forL fails fun x s => s.coreFailed n p x).regionUpdate n := rfl

theorem coreFailed_testBit (s : State) (n : Fin 4) (p : Fin 6) (x : Fin 8 × Fin 6) (k : Fin 8) (c : Fin 6) :
    ((s.coreFailed n p x).get FEN_ENG.CORES_IN (48 * n + 8 * p + k)).testBit c =
      ((s.get FEN_ENG.CORES_IN (48 * n + 8 * p + k)).testBit c && decide ((k, c) ≠ x)) := by
  obtain ⟨a, b⟩ := x
  unfold State.coreFailed
  dsimp only
  by_cases hk : k = a
  · subst hk
    have hlt := get_lt s FEN_ENG.CORES_IN (48 * n + 8 * p + k)
    split
    · next hb =>
      rw [get_set_eq _ (by decide) (Nat.lt_of_le_of_lt (Nat.sub_le _ _) hlt), testBit_sub_two_pow hb]
      simp [Fin.ext_iff]
    · next hb =>
      rw [get_set_eq _ (by decide) hlt]
      by_cases hc : c = b
      · subst hc
        simp [hb]
      · simp [hc]
  · rw [get_set_instance _ (by decide) (by omega) (by omega) (by omega)]
    simp [hk]

theorem coresFailed_testBit (fails : List (Fin 8 × Fin 6)) (s : State) (n : Fin 4) (p : Fin 6) (k : Fin 8) (c : Fin 6) :
    ((s.forL fails fun x s => s.coreFailed n p x).get FEN_ENG.CORES_IN (48 * n + 8 * p + k)).testBit c =
      ((s.get FEN_ENG.CORES_IN (48 * n + 8 * p + k)).testBit c && !fails.contains (k, c)) := by
  induction fails generalizing s with
  | nil => simp [State.forL]
  | cons x r ih =>
    have hcons : (s.forL (x :: r) fun x s => s.coreFailed n p x) = (s.coreFailed n p x).forL r fun x s => s.coreFailed n p x := rfl
    rw [hcons, ih, coreFailed_testBit, Bool.and_assoc]
    congr 1
    simp [List.contains_eq_mem, List.mem_cons]

/-- R694: the results of a start-up since abandoned. -/
theorem answers_startupDone_overtaken {s : State} {n : Fin 4} {p : Fin 6} (fails : List (Fin 8 × Fin 6)) (h : 2 ≤ s.fnState (.pod n p))
    (hs : s.inService (.pod n p) = false) (ha : s.fnAwake (.pod n p) = true) :
    Answers (.functionStartupDone (.pod n p) fails) s fun t => t.fnState (.pod n p) = s.fnState (.pod n p) ∧ t.inService (.pod n p) = false
      ∧ ∀ (k : Fin 8) (c : Fin 6), (t.get FEN_ENG.CORES_IN (48 * n + 8 * p + k)).testBit c =
          ((s.get FEN_ENG.CORES_IN (48 * n + 8 * p + k)).testBit c && !fails.contains (k, c)) := by
  have hexec := exec_functionStartupDone (.pod n p) fails s
  rw [if_pos (by simp [h, hs, ha]), coresFailed_eq] at hexec
  have hstep (t : State) (x : Fin 8 × Fin 6) : Within [.FEN_ENG] t (t.coreFailed n p x) :=
    .set t FEN_ENG.CORES_IN _ _ (by decide) (by decide) (by omega)
  have hcores : Within [.FEN_ENG] s (s.forL fails fun x s => s.coreFailed n p x) :=
    forL_holds (Within [.FEN_ENG] s) _ fails (fun x _ t ht => ht.trans (hstep t x)) s (.refl _ s)
  have hservice : ((s.forL fails fun x s => s.coreFailed n p x).regionUpdate n).service = s.service :=
    (regionUpdate_service _ n).trans (forL_keeps State.service (fun x s => s.coreFailed n p x) (fun _ _ => rfl) fails s)
  refine answers_of_exec hexec ⟨?_, ?_, fun k c => ?_⟩
  · rw [flushEvents_fnState _ (f := .pod n p) nofun]
    exact (hcores.append (Within.regionUpdate _ n.isLt)).get FEN_POD_CTRL.STATE (6 * n + p) (by decide) (by decide)
      (by omega)
  · rw [flushEvents_inService, State.inService, hservice]
    exact hs
  · rw [flushEvents_fenSame _ _ _ (Or.inl rfl) (by decide) (by omega),
      (Within.regionUpdate _ n.isLt).get _ _ (by decide) (by decide) (by omega), coresFailed_testBit]

end Sys2Proof.Machine
end

section
/-!
PROOFS. What the loss of frames and the choice of a role leave (R343, R344, R366, R398, R401): neither touches service.
-/

namespace Sys2Proof.Machine

/-- The state without its register file, its events, its queues, its streams, its rings and its tables: what losing frames leaves. -/
def State.besideTraffic (s : State) : State := { s with regs := [], evt := {}, q := {}, lets := {}, hif := {}, tbl := {} }

theorem part_of_besideTraffic {β : Type} (g : State → β) (hg : ∀ s, g s.besideTraffic = g s) {s t : State}
    (h : t.besideTraffic = s.besideTraffic) : g t = g s := by
  rw [← hg t, h, hg]

theorem besideTraffic_of_besideQueues {s t : State} (h : t.besideQueues = s.besideQueues) : t.besideTraffic = s.besideTraffic :=
  congrArg (fun x : State => { x with hif := {}, tbl := {} }) h

theorem besideTraffic_of_besideHif {s t : State} (h : t.besideHif = s.besideHif) : t.besideTraffic = s.besideTraffic :=
  congrArg (fun x : State => { x with q := {}, lets := {}, tbl := {} }) h

@[simp] theorem set_besideTraffic (s : State) (f : Field) (i v : Nat) : (s.set f i v).besideTraffic = s.besideTraffic := rfl
@[simp] theorem onLet_besideTraffic (s : State) (i : Nat) (f : LetStream → LetStream) : (s.onLet i f).besideTraffic = s.besideTraffic := rfl

@[simp] theorem burn_besideTraffic (s : State) (it : Item) : (s.burn it).besideTraffic = s.besideTraffic := by
  unfold State.burn State.stat
  split
  · split
    · split <;> rfl
    · rfl
  · rfl

theorem itemComplete_besideTraffic (s : State) (it : Item) (status : Nat) (time : Option Word) :
    (s.itemComplete it status time).besideTraffic = s.besideTraffic := by
  unfold State.itemComplete
  split
  · exact besideTraffic_of_besideHif (ringComplete_besideHif ..)
  · rfl

theorem dropFrame_besideTraffic (s : State) (it : Item) : (s.dropFrame it).besideTraffic = s.besideTraffic := by
  rw [State.dropFrame, when_keeps State.besideTraffic _ _ (fun s => s.itemComplete it 1 none) (itemComplete_besideTraffic ..), burn_besideTraffic]

theorem letMode_besideTraffic (s : State) (st : Nat) : (s.letMode st).besideTraffic = s.besideTraffic := by
  have hreplay (t : State) : (t.letReplayFrom st).besideTraffic = t.besideTraffic := rfl
  unfold State.letMode
  dsimp only
  split
  · rfl
  · split
    · split
      · split
        · split
          · rw [set_besideTraffic, hreplay]
          · exact hreplay s
        · rfl
      · rfl
    · split
      · rfl
      · split <;> rfl
    · split <;> rfl

theorem letWindowOf_besideTraffic (s : State) (st : Nat) : (s.letWindowOf st).besideTraffic = s.besideTraffic := by
  unfold State.letWindowOf
  split
  · rfl
  · exact letWindow_keeps State.besideTraffic (fun _ _ _ _ => rfl) (fun _ _ _ _ => rfl) (fun _ _ _ => rfl) s st

theorem loseEntry_besideTraffic (s : State) (e : QEntry) : (s.loseEntry e).besideTraffic = s.besideTraffic := by
  cases e with
  | frame it => exact dropFrame_besideTraffic s it
  | letRec st number =>
    change (s.letLose st number).besideTraffic = s.besideTraffic
    rw [State.letLose, letWindowOf_besideTraffic, letMode_besideTraffic]
    rfl

theorem discardAll_besideTraffic (s : State) (q : Nat) (cnt : Field) : (s.discardAll q cnt).besideTraffic = s.besideTraffic := by
  have hput (x : Queue) : (s.putQueue q x).besideTraffic = s.besideTraffic := besideTraffic_of_besideQueues (putQueue_besideQueues s q x)
  unfold State.discardAll
  dsimp only
  rw [forL_keeps State.besideTraffic _ (fun e t => loseEntry_besideTraffic t e), State.inc, set_besideTraffic, hput]

theorem flushPort_besideTraffic (s : State) (p : Nat) : (s.flushPort p).besideTraffic = s.besideTraffic := by
  refine forN_keeps State.besideTraffic _ (fun q t => ?_) 4096 s
  split
  · rw [State.flushQueue, besideTraffic_of_besideQueues (putQueue_besideQueues _ q _), discardAll_besideTraffic]
  · rfl

/-! ### The choice of a role -/

@[simp] theorem roleSet_service (s : State) (r : Nat) : (s.roleSet r).service = s.service := by
  unfold State.roleSet
  dsimp only
  split <;> simp

theorem becomeLibero_service (s : State) (stale : Bool) : (s.becomeLibero stale).service = s.service := by
  have hlost (t : State) (n : Nat) : (t.forN n fun p s => if s.portUp p then s.flushPort p else s).service = t.service := by
    refine forN_keeps State.service _ (fun p u => ?_) n t
    split
    · exact part_of_besideTraffic State.service (fun _ => rfl) (flushPort_besideTraffic u p)
    · rfl
  have hjudge (t : State) : t.pairStreamsJudge.service = t.service :=
    forL_keeps State.service _ (fun st u => part_of_besideTraffic State.service (fun _ => rfl) (letMode_besideTraffic u st)) t.pairStreams t
  unfold State.becomeLibero
  dsimp only
  rw [hjudge, hlost, set_service, roleSet_service]

/-- R343: choosing a role leaves service. -/
theorem pairSelect_service (s : State) : s.pairSelect.service = s.service := by
  unfold State.pairSelect
  split
  · exact roleSet_service _ 2
  · split
    · exact becomeLibero_service _ false
    · rfl

/-- R343: FUNCTION_STARTUP_DONE of the pair. -/
theorem answers_startupDone_pair {s : State} (h : s.fnState .pair = 1) (hs : s.inService .pair = false) (ha : s.fnAwake .pair = true)
    (hb : s.bootHolds = false) : Answers (.functionStartupDone .pair []) s fun t => t.inService .pair = true := by
  have hexec := exec_functionStartupDone .pair [] s
  rw [if_neg (by simp [h]), if_neg (by simp [h, hs, ha, hb])] at hexec
  refine answers_of_exec hexec ?_
  rw [flushEvents_inService, State.inService, pairSelect_service]
  exact enterService_inService_same s .pair

end Sys2Proof.Machine

namespace Sys2Proof

open Machine

/-- Settles O11: the start-up of a pod in time and overtaken, that of the pair, and the shut-down of a ring. -/
theorem startUpEndsInService : Obligations.StartUpEndsInService := by
  unfold Obligations.StartUpEndsInService
  refine ⟨fun n p fails s _ h hs ha hb => answers_startupDone_pod fails h hs ha hb,
    fun n p fails s _ h hs ha => answers_startupDone_overtaken fails h hs ha, fun s _ h hs ha hb => answers_startupDone_pair h hs ha hb,
    fun f fails s ha => ?asleep, fun r s _ h _ => ?ring⟩
  case asleep =>
    refine ends_of_exec (exec_functionStartupDone f fails s) ?_
    rw [if_neg (by simp [ha]), if_pos (by simp [ha])]
  case ring =>
    obtain ⟨u, hu, hoff⟩ := answers_shutdownDone_off (f := .ring r) nofun nofun rfl h
    exact ⟨u, hu, hoff.state, hoff.en, hoff.service⟩

end Sys2Proof
end

section
/-!
PROOFS. Function resets (R630, R698): what `GLB_FRESET_STATUS` shows of a reset, and where the reset of a function, an SA or a table unit stands
at the end of its command.
-/

namespace Sys2Proof.Machine

/-! ### GLB_FRESET_STATUS -/

/-- `GLB_FRESET_STATUS` names a function and shows whether its reset goes on. -/
structure ShowsReset (typ index busy : Nat) (s : State) : Prop where
  typ : s.get GLB_FRESET_STATUS.TYPE = typ
  index : s.get GLB_FRESET_STATUS.INDEX = index
  busy : s.get GLB_FRESET_STATUS.BUSY = busy

theorem ShowsReset.within {typ index busy : Nat} {rs : List Reg} {s t : State} (h : ShowsReset typ index busy s) (hst : Within rs s t)
    (hrs : Reg.GLB_FRESET_STATUS ∉ rs) : ShowsReset typ index busy t where
  typ := (hst.get GLB_FRESET_STATUS.TYPE 0 hrs (by decide) (by omega)).trans h.typ
  index := (hst.get GLB_FRESET_STATUS.INDEX 0 hrs (by decide) (by omega)).trans h.index
  busy := (hst.get GLB_FRESET_STATUS.BUSY 0 hrs (by decide) (by omega)).trans h.busy

theorem ShowsReset.flushEvents {typ index busy : Nat} {s : State} (h : ShowsReset typ index busy s) : ShowsReset typ index busy s.flushEvents where
  typ := (flushEvents_get_early s GLB_FRESET_STATUS.TYPE 0 (by decide) (by omega)).trans h.typ
  index := (flushEvents_get_early s GLB_FRESET_STATUS.INDEX 0 (by decide) (by omega)).trans h.index
  busy := (flushEvents_get_early s GLB_FRESET_STATUS.BUSY 0 (by decide) (by omega)).trans h.busy

/-- The state in which a function's reset begins: BUSY with its TYPE and INDEX. -/
def State.resetMarked (s : State) (typ index : Nat) : State :=
  ((s.set GLB_FRESET_STATUS.BUSY 0 1).set GLB_FRESET_STATUS.TYPE 0 typ).set GLB_FRESET_STATUS.INDEX 0 index

theorem fresetBegin_busy (s : State) (typ index : Nat) (run : State → State) (h : s.get GLB_FRESET_STATUS.BUSY ≠ 0) :
    s.fresetBegin typ index run = s := by
  rw [State.fresetBegin, State.flag, get_bit_of_ne_zero s GLB_FRESET_STATUS.BUSY 0 rfl h]
  rfl

theorem fresetBegin_free (s : State) (typ index : Nat) (run : State → State) (h : s.get GLB_FRESET_STATUS.BUSY = 0) :
    s.fresetBegin typ index run = run (s.resetMarked typ index) := by
  rw [State.fresetBegin, State.flag, h]
  rfl

@[simp] theorem resetMarked_noRegs (s : State) (typ index : Nat) : (s.resetMarked typ index).noRegs = s.noRegs := by
  simp [State.resetMarked]

@[simp] theorem resetMarked_tbl (s : State) (typ index : Nat) : (s.resetMarked typ index).tbl = s.tbl := by simp [State.resetMarked]

theorem Within.resetMarked (s : State) (typ index : Nat) : Within [.GLB_FRESET_STATUS] s (s.resetMarked typ index) :=
  ((Within.set s GLB_FRESET_STATUS.BUSY 0 1 (by decide) (by decide) (by omega)).trans
    (.set _ GLB_FRESET_STATUS.TYPE 0 typ (by decide) (by decide) (by omega))).trans
    (.set _ GLB_FRESET_STATUS.INDEX 0 index (by decide) (by decide) (by omega))

theorem showsReset_resetMarked (s : State) {typ index : Nat} (ht : typ < 16) (hi : index < 65536) :
    ShowsReset typ index 1 (s.resetMarked typ index) where
  typ := by
    rw [State.resetMarked, get_set_disjoint _ (g := GLB_FRESET_STATUS.TYPE) (by decide) (by omega) (by omega)]
    exact get_set_eq _ (by decide) ht
  index := get_set_eq _ (by decide) hi
  busy := by
    rw [State.resetMarked, get_set_disjoint _ (g := GLB_FRESET_STATUS.BUSY) (by decide) (by omega) (by omega),
      get_set_disjoint _ (g := GLB_FRESET_STATUS.BUSY) (by decide) (by omega) (by omega)]
    exact get_set_eq _ (by decide) (by decide)

/-- R630: the reset that `GLB_FRESET_STATUS` names ends with BUSY at 0 and DONE at 1. -/
theorem ShowsReset.fresetOff {typ index : Nat} {s : State} (h : ShowsReset typ index 1 s) :
    ShowsReset typ index 0 (s.fresetOff typ index) ∧ (s.fresetOff typ index).get GLB_FRESET_STATUS.DONE = 1 := by
  have hoff : s.fresetOff typ index = (s.set GLB_FRESET_STATUS.BUSY 0 0).set GLB_FRESET_STATUS.DONE 0 1 := by
    simp [State.fresetOff, State.flag, h.typ, h.index, h.busy]
  have hkeep (g : Field) (hd : GLB_FRESET_STATUS.DONE.disjoint g = true) (hb : GLB_FRESET_STATUS.BUSY.disjoint g = true) :
      (s.fresetOff typ index).get g = s.get g := by
    rw [hoff, get_set_disjoint _ hd (by omega) (by omega), get_set_disjoint _ hb (by omega) (by omega)]
  refine ⟨⟨(hkeep _ (by decide) (by decide)).trans h.typ, (hkeep _ (by decide) (by decide)).trans h.index, ?_⟩, ?_⟩
  · rw [hoff, get_set_disjoint _ (by decide) (by omega) (by omega)]
    exact get_set_eq _ (by decide) (by decide)
  · rw [hoff]
    exact get_set_eq _ (by decide) (by decide)

/-! ### A function of Table 1-8 -/

/-- Marking a reset leaves what a disable depends on. -/
theorem resetMarked_fnState (s : State) (typ index : Nat) (f : Fn) : (s.resetMarked typ index).fnState f = s.fnState f :=
  (Within.resetMarked s typ index).get _ _ (List.mem_singleton.not.mpr (fnEn_not_freset f)) (fits_word (fnState_fits f)) (fnEn_index f)

theorem resetMarked_disableDiscarded (s : State) (typ index : Nat) (f : Fn) :
    (s.resetMarked typ index).disableDiscarded f = s.disableDiscarded f := by
  have hget (g : Field) (i : Nat) (hg : g.reg ≠ .GLB_FRESET_STATUS ∧ g.word < 8) (hi : i < 8192) : (s.resetMarked typ index).get g i = s.get g i :=
    (Within.resetMarked s typ index).get g i (List.mem_singleton.not.mpr hg.1) hg.2 hi
  cases f with
  | port p =>
    simp only [State.disableDiscarded, State.portExists, State.portMode]
    rw [hget CPX_CFG.PMODE _ (by decide) (by omega), hget LPX_CFG.PMODE _ (by decide) (by omega)]
  | queue q =>
    simp only [State.disableDiscarded]
    rw [hget QMG_QCFG.ROLE _ (by decide) (by omega), hget QMG_QCFG.OWNER _ (by decide) (by omega),
      hget LET_STREAM_CFG.STATE _ (by decide) (by omega)]
  | _ => simp only [State.disableDiscarded]

/-- TYPE and INDEX of a function fit their fields. -/
theorem fnFreset_lt (f : Fn) : (fnFreset f).1 < 16 ∧ (fnFreset f).2 < 65536 := by
  cases f <;> simp only [fnFreset] <;> omega

/-- The reset of a function, from the state in which it is marked. -/
def State.resetFn (s : State) (f : Fn) : State := State.fresetFn f (s.resetMarked (fnFreset f).1 (fnFreset f).2)

theorem showsReset_marked (s : State) (f : Fn) :
    ShowsReset (fnFreset f).1 (fnFreset f).2 1 (s.resetMarked (fnFreset f).1 (fnFreset f).2) :=
  showsReset_resetMarked s (fnFreset_lt f).1 (fnFreset_lt f).2

theorem resetFn_off (s : State) {f : Fn} (hd : s.disableDiscarded f = false) (h : s.fnState f = 0) :
    s.resetFn f = (s.resetMarked (fnFreset f).1 (fnFreset f).2).fresetOff (fnFreset f).1 (fnFreset f).2 := by
  rw [State.resetFn, State.fresetFn, State.fnReset, fnDisable_off _ (by rwa [resetMarked_disableDiscarded]) (by rwa [resetMarked_fnState]),
    resetMarked_fnState, h]
  rfl

/-- A reset whose disable leaves the function in STOPPING goes on. -/
theorem resetFn_stopping (s : State) {f : Fn} (h : (s.resetMarked (fnFreset f).1 (fnFreset f).2).fnDisable f
      = (s.resetMarked (fnFreset f).1 (fnFreset f).2).fnSet f 0 2) :
    s.resetFn f = (s.resetMarked (fnFreset f).1 (fnFreset f).2).fnSet f 0 2 := by
  rw [State.resetFn, State.fresetFn, State.fnReset, h, fnState_fnSet _ f 0 (by omega)]
  rfl

@[simp] theorem fnSet_noRegs (s : State) (f : Fn) (en st : Nat) : (s.fnSet f en st).noRegs = s.noRegs := by
  rw [State.fnSet, set_noRegs, set_noRegs]

theorem ShowsReset.fnSet {typ index busy : Nat} {s : State} (h : ShowsReset typ index busy s) (f : Fn) (en st : Nat) :
    ShowsReset typ index busy (s.fnSet f en st) :=
  h.within (rs := [(fnEn f).1.reg]) ((Within.set s (fnEn f).1 (fnEn f).2 en (by simp) (fits_word (fnEn_fits f)) (fnEn_index f)).trans
    (.set _ (fnStateField f) (fnEn f).2 st (by simp [fnStateField]) (fits_word (fnState_fits f)) (fnEn_index f)))
    (List.mem_singleton.not.mpr (fnEn_not_freset f).symm)

/-- R698: the reset of an OFF function ends with its command. -/
theorem answers_reset_off {c : Instr} {s : State} {f : Fn} (hf : f ≠ .eventRing) (hexec : exec c s = finish (s.resetFn f))
    (hd : s.disableDiscarded f = false) (h : s.fnState f = 0) : Answers c s fun u =>
      (u.get GLB_FRESET_STATUS.TYPE = (fnFreset f).1 ∧ u.get GLB_FRESET_STATUS.INDEX = (fnFreset f).2) ∧ u.get GLB_FRESET_STATUS.BUSY = 0
        ∧ u.get GLB_FRESET_STATUS.DONE = 1 ∧ u.fnState f = 0 := by
  obtain ⟨hshow, hdone⟩ := (showsReset_marked s f).fresetOff
  refine answers_of_exec hexec ?_
  rw [resetFn_off s hd h]
  refine ⟨⟨hshow.flushEvents.typ, hshow.flushEvents.index⟩, hshow.flushEvents.busy, ?_, ?_⟩
  · rw [flushEvents_get_early _ GLB_FRESET_STATUS.DONE 0 (by decide) (by omega), hdone]
  · rw [flushEvents_fnState _ hf, fresetOff_fnState, resetMarked_fnState, h]

/-- R698: a reset whose disable leaves the function in STOPPING holds BUSY. -/
theorem resetFn_stopping_shows (s : State) {f : Fn} (hf : f ≠ .eventRing) (h : (s.resetMarked (fnFreset f).1 (fnFreset f).2).fnDisable f
      = (s.resetMarked (fnFreset f).1 (fnFreset f).2).fnSet f 0 2) :
    ShowsReset (fnFreset f).1 (fnFreset f).2 1 (s.resetFn f).flushEvents ∧ (s.resetFn f).flushEvents.fnState f = 2
      ∧ (s.resetFn f).flushEvents.get (fnEn f).1 (fnEn f).2 = 0 := by
  rw [resetFn_stopping s h]
  refine ⟨((showsReset_marked s f).fnSet f 0 2).flushEvents, ?_, ?_⟩
  · rw [flushEvents_fnState _ hf, fnState_fnSet _ f 0 (by omega)]
  · rw [flushEvents_fnEn _ hf, fnEn_fnSet _ f 2 (by omega)]

theorem answers_reset_pending {c : Instr} {s : State} {f : Fn} (hf : f ≠ .eventRing) (hexec : exec c s = finish (s.resetFn f))
    (hd : s.disableDiscarded f = false) (h : s.fnState f = 3) : Answers c s fun u =>
      (u.get GLB_FRESET_STATUS.TYPE = (fnFreset f).1 ∧ u.get GLB_FRESET_STATUS.INDEX = (fnFreset f).2) ∧ u.get GLB_FRESET_STATUS.BUSY = 1
        ∧ u.fnState f = 2 ∧ u.get (fnEn f).1 (fnEn f).2 = 0 := by
  have hstop := fnDisable_changing (s.resetMarked (fnFreset f).1 (fnFreset f).2) (f := f)
    (by rwa [resetMarked_disableDiscarded]) (by rw [resetMarked_fnState, h]; omega)
  obtain ⟨hshow, hstate, hen⟩ := resetFn_stopping_shows s hf hstop
  exact answers_of_exec hexec ⟨⟨hshow.typ, hshow.index⟩, hshow.busy, hstate, hen⟩

/-! ### The commands -/

theorem toNat_ofNat16 {k : Nat} (h : k < 65536) : (BitVec.ofNat 16 k).toNat = k := by
  rw [BitVec.toNat_ofNat, Nat.mod_eq_of_lt h]

theorem exec_fresetPort (s : State) (p : Fin 64) (h : s.get GLB_FRESET_STATUS.BUSY = 0) :
    exec (.fresetPort (BitVec.ofNat 16 p)) s = finish (s.resetFn (.port p)) := by
  have hp : (BitVec.ofNat 16 p).toNat = p := toNat_ofNat16 (by omega)
  have hexec : exec (.fresetPort (BitVec.ofNat 16 p)) s = finish (s.freset 1 (BitVec.ofNat 16 p).toNat) := rfl
  rw [hexec, hp, State.freset, dif_pos p.isLt, fresetBegin_free _ _ _ _ h]
  rfl

theorem exec_fresetQueue (s : State) (q : Fin 4096) (h : s.get GLB_FRESET_STATUS.BUSY = 0) (hd : s.disableDiscarded (.queue q) = false) :
    exec (.fresetQueue (BitVec.ofNat 16 q)) s = finish (s.resetFn (.queue q)) := by
  have hq : (BitVec.ofNat 16 q).toNat = q := toNat_ofNat16 (by omega)
  have hexec : exec (.fresetQueue (BitVec.ofNat 16 q)) s = finish (s.freset 3 (BitVec.ofNat 16 q).toNat) := rfl
  have hfixed : ¬ (q : Nat) % 1024 < 104 := by
    simp only [State.disableDiscarded, Bool.or_eq_false_iff, decide_eq_false_iff_not] at hd
    exact hd.1
  rw [hexec, hq, State.freset, dif_pos q.isLt, if_neg hfixed, fresetBegin_free _ _ _ _ h]
  rfl

theorem exec_fresetRing (s : State) (r : Fin 512) (h : s.get GLB_FRESET_STATUS.BUSY = 0) :
    exec (.fresetRing (BitVec.ofNat 16 r)) s = finish (s.resetFn (.ring r)) := by
  have hr : (BitVec.ofNat 16 r).toNat = r := toNat_ofNat16 (by omega)
  have hexec : exec (.fresetRing (BitVec.ofNat 16 r)) s = finish (s.freset 4 (BitVec.ofNat 16 r).toNat) := rfl
  rw [hexec, hr, State.freset, dif_pos r.isLt, fresetBegin_free _ _ _ _ h]
  rfl

theorem exec_fresetPod (s : State) (n : Fin 4) (p : Fin 6) (h : s.get GLB_FRESET_STATUS.BUSY = 0) :
    exec (.fresetPod (BitVec.ofNat 16 (6 * n + p))) s = finish (s.resetFn (.pod n p)) := by
  have hi : (BitVec.ofNat 16 (6 * n + p)).toNat = 6 * n + p := toNat_ofNat16 (by omega)
  have hexec : exec (.fresetPod (BitVec.ofNat 16 (6 * n + p))) s = finish (s.freset 5 (BitVec.ofNat 16 (6 * n + p)).toNat) := rfl
  have hn : Fin.ofNat 4 ((6 * n + p : Nat) / 6) = n := Fin.ext (by simp only [Fin.val_ofNat]; omega)
  have hp : Fin.ofNat 6 ((6 * n + p : Nat) % 6) = p := Fin.ext (by simp only [Fin.val_ofNat]; omega)
  rw [hexec, hi, State.freset, if_pos (by omega), fresetBegin_free _ _ _ _ h, hn, hp]
  rfl

theorem exec_fresetSa (s : State) (i : BitVec 16) (h : s.get GLB_FRESET_STATUS.BUSY = 0) :
    exec (.fresetSa i) s = finish (State.fresetSa i.toNat (s.resetMarked 2 i.toNat)) := by
  have hexec : exec (.fresetSa i) s = finish (s.freset 2 i.toNat) := rfl
  rw [hexec, State.freset, if_pos i.isLt, fresetBegin_free _ _ _ _ h]

theorem exec_fresetTableUnit (s : State) (n : Fin 4) (h : s.get GLB_FRESET_STATUS.BUSY = 0) :
    exec (.fresetTableUnit (BitVec.ofNat 16 n)) s = finish ((s.resetMarked 6 n).tblReset n) := by
  have hn : (BitVec.ofNat 16 n).toNat = n := toNat_ofNat16 (by omega)
  have hexec : exec (.fresetTableUnit (BitVec.ofNat 16 n)) s = finish (s.freset 6 (BitVec.ofNat 16 n).toNat) := rfl
  rw [hexec, hn, State.freset, if_pos n.isLt, fresetBegin_free _ _ _ _ h]

/-- R630: a write while BUSY does nothing. -/
theorem freset_busy (s : State) (typ index : Nat) (h : s.get GLB_FRESET_STATUS.BUSY ≠ 0) : s.freset typ index = s := by
  unfold State.freset
  split <;> simp [fresetBegin_busy s _ _ _ h]

/-! ### An SA -/

theorem saEnWrite_off (s : State) (i : Nat) (h : (s.sa? i).all (fun a => a.state == 0 && !a.en) = true) : s.saEnWrite i false = s := by
  unfold State.saEnWrite
  split
  next a ha =>
    simp only [ha, Option.all_some, Bool.and_eq_true, Bool.not_eq_true'] at h
    simp [h.2]
  next => rfl

/-- R698: the reset of an SA that is not enabled ends at once. -/
theorem fresetSa_off (s : State) (i : Nat) (h : (s.sa? i).all (fun a => a.state == 0 && !a.en) = true) :
    State.fresetSa i s = s.fresetOff 2 i := by
  have hoff : (s.sa? i).all (fun a => a.state == 0) = true := by
    cases ha : s.sa? i with
    | none => rfl
    | some a =>
      simp only [ha, Option.all_some, Bool.and_eq_true] at h
      simp [h.1]
  rw [State.fresetSa, saEnWrite_off s i h, hoff]
  rfl

theorem Within.putSa (rs : List Reg) (s : State) (i : Nat) (e : Option SaEntry) : Within rs s (s.putSa i e) := .of_parts rs rfl rfl

@[simp] theorem putSa_sa?_same (s : State) (i : Nat) (e : Option SaEntry) : (s.putSa i e).sa? i = e := KMap.get_set_same _ _ _ _

/-- R698: the reset of an SA that is enabled and no longer live disables it. -/
theorem fresetSa_enabled (s : State) (i : Nat) {a : SaEntry} (ha : s.sa? i = some a) (hen : a.en = true) (hlive : a.live = false) :
    State.fresetSa i s = s.putSa i (some { a with en := false, state := 2 }) := by
  have hwrite : s.saEnWrite i false = s.putSa i (some { a with en := false, state := 2 }) := by
    simp [State.saEnWrite, ha, hen, hlive]
  rw [State.fresetSa, hwrite]
  simp

/-! ### A table unit -/

theorem words_le (r : Reg) : r.place.words ≤ 8 := by cases r <;> decide

theorem Within.resetReg {rs : List Reg} (s : State) (r : Reg) (i : Nat) (hr : r ∈ rs) (hi : i < 8192) : Within rs s (s.resetReg r i) :=
  Within.forN s r.place.words (fun w s => s.setWord r i w (r.resetWord i w)) fun w hw t =>
    .setWord t r i w _ hr hi (by have := words_le r; omega)

/-- The registers that the reset of an idle command port returns to their reset values (R698). -/
def State.portCleared (s : State) (i : Nat) : State :=
  ((((s.forN 8 fun k s => s.resetReg .TBL_DATA (8 * i + k)).set TBL_STATUS.OVERRUN i 0).set TBL_STATUS.IN_OVF i 0).set TBL_STATUS.LOC i 0).set
    TBL_STATUS.GEN i 0

theorem tblPortReset_idle (s : State) (n : Nat) (m : Master) (h : s.tblPort n m = .idle) :
    s.tblPortReset n m = s.portCleared (tblIdx n m) := by
  unfold State.tblPortReset
  dsimp only
  rw [h]
  rfl

theorem resetReg_noRegs (s : State) (r : Reg) (i : Nat) : (s.resetReg r i).noRegs = s.noRegs :=
  forN_keeps State.noRegs (fun w s => s.setWord r i w (r.resetWord i w)) (fun _ _ => rfl) r.place.words s

theorem portCleared_noRegs (s : State) (i : Nat) : (s.portCleared i).noRegs = s.noRegs := by
  simp only [State.portCleared, set_noRegs]
  exact forN_keeps State.noRegs _ (fun k t => resetReg_noRegs t .TBL_DATA (8 * i + k)) 8 s

theorem Within.portCleared (s : State) {i : Nat} (hi : i < 8) : Within [.TBL_DATA, .TBL_STATUS] s (s.portCleared i) := by
  have hdata : Within [.TBL_DATA, .TBL_STATUS] s (s.forN 8 fun k s => s.resetReg .TBL_DATA (8 * i + k)) :=
    .forN s 8 _ fun k hk t => .resetReg t .TBL_DATA _ (by decide) (by omega)
  exact (((hdata.trans (.set _ TBL_STATUS.OVERRUN i 0 (by decide) (by decide) (by omega))).trans
    (.set _ TBL_STATUS.IN_OVF i 0 (by decide) (by decide) (by omega))).trans
    (.set _ TBL_STATUS.LOC i 0 (by decide) (by decide) (by omega))).trans (.set _ TBL_STATUS.GEN i 0 (by decide) (by decide) (by omega))

theorem tblIdx_lt {n : Nat} (hn : n < 4) (m : Master) : tblIdx n m < 8 := by
  cases m <;> simp only [tblIdx, Master.idx] <;> omega

theorem tblPort_of_noRegs {s t : State} (h : t.noRegs = s.noRegs) (n : Nat) (m : Master) : t.tblPort n m = s.tblPort n m :=
  part_of_noRegs (State.tblPort · n m) (fun _ => by cases m <;> rfl) h

/-- R698: the reset of a table unit whose command ports are idle clears their registers and ends at once. -/
theorem tblReset_idle (s : State) (n : Nat) (hh : s.tblPort n .host = .idle) (hm : s.tblPort n .mcu = .idle) :
    s.tblReset n = ((s.portCleared (tblIdx n .host)).portCleared (tblIdx n .mcu)).fresetOff 6 n := by
  have hport (t : State) (h : t.noRegs = s.noRegs) : (t.unit n).hostPort = .idle ∧ (t.unit n).mcuPort = .idle :=
    ⟨(tblPort_of_noRegs h n .host).trans hh, (tblPort_of_noRegs h n .mcu).trans hm⟩
  have hfirst := portCleared_noRegs s (tblIdx n .host)
  obtain ⟨hhost, hmcu⟩ := hport _ ((portCleared_noRegs (s.portCleared (tblIdx n .host)) (tblIdx n .mcu)).trans hfirst)
  rw [State.tblReset, tblPortReset_idle s n .host hh, tblPortReset_idle _ n .mcu ((tblPort_of_noRegs hfirst n .mcu).trans hm),
    State.fresetUnit, hhost, hmcu]
  rfl

/-! ### The timeout -/

theorem exec_fresetTimeout (s : State) : exec .fresetTimeout s =
    finish (if s.flag GLB_FRESET_STATUS.BUSY && !s.flag GLB_FRESET_STATUS.TIMEOUT then (s.set GLB_FRESET_STATUS.TIMEOUT 0 1).raise 152 4 else s) :=
  rfl

end Sys2Proof.Machine
end

section
/-!
PROOFS. The device reset (R36, R518, R631): the words that it keeps and those that it returns to their reset values; the reset functions assembled.
-/

namespace Sys2Proof.Machine

/-! ### What a device reset keeps of the register file -/

theorem get_filter_key {α : Type} (p : Nat → Bool) (m : KMap α) (k : Nat) (d : α) :
    KMap.get (m.filter fun e => p e.1) k d = if p k then m.get k d else d := by
  induction m with
  | nil => simp [KMap.get]
  | cons e m ih =>
    obtain ⟨j, v⟩ := e
    by_cases hj : p j = true <;> by_cases hk : j = k
    · subst hk
      simp [KMap.get, hj]
    · simp [KMap.get, hj, hk, ih]
    · subst hk
      simp [hj, ih]
    · simp [KMap.get, hj, hk, ih]

/-- The registers of the reset state, those that a reset keeps apart. -/
def State.keptWords (s : State) : State := { regs := s.regs.filter fun e => keptRegs.any fun r => r.ctorIdx == e.1 / 65536 }

theorem keptWords_word (s : State) (r : Reg) {i w : Nat} (hi : i < 8192) (hw : w < 8) :
    s.keptWords.word r i w = if r ∈ keptRegs then s.word r i w else r.resetWord i w := by
  have hkey : regKey r i w / 65536 = r.ctorIdx := by
    unfold regKey
    omega
  have hmem : (keptRegs.any fun q => q.ctorIdx == regKey r i w / 65536) = true ↔ r ∈ keptRegs := by
    rw [hkey, List.any_eq_true]
    exact ⟨fun ⟨q, hq, he⟩ => Reg.ctorIdx_inj (eq_of_beq he) ▸ hq, fun h => ⟨r, h, beq_self_eq_true _⟩⟩
  have hget : s.keptWords.word r i w = if keptRegs.any (fun q => q.ctorIdx == regKey r i w / 65536) then s.word r i w
      else regDefault (regKey r i w) :=
    get_filter_key (fun k => keptRegs.any fun q => q.ctorIdx == k / 65536) s.regs (regKey r i w) _
  rw [hget, regDefault_key r i w hi hw]
  simp only [hmem]

/-- The registers of the fields that a device reset writes. -/
def resetFieldRegs : List Reg := [.NVJ_BOOT, .GLB_RESET, .SBM_STATUS, .MTL_PAIR_STATUS]

/-- The fields that a device reset takes over from the state `s` and from the pins. -/
def State.keptFieldsOf (s r : State) : State :=
  ((r.forL keptFields fun f r => r.set f 0 (s.get f)).set MTL_PAIR_STATUS.ACTIVE_IN 0 (s.get GLB_PIN_STATUS.ACTIVE_IN)).set
    MTL_PAIR_STATUS.MATE_PRESENT 0 (s.get GLB_PIN_STATUS.MATE_PRESENT)

theorem Within.keptFieldsOf (s r : State) : Within resetFieldRegs r (s.keptFieldsOf r) := by
  have hregs : ∀ f ∈ keptFields, f.reg ∈ resetFieldRegs ∧ f.word < 8 := by decide
  have hfields : Within resetFieldRegs r (r.forL keptFields fun f r => r.set f 0 (s.get f)) :=
    forL_holds (Within resetFieldRegs r) _ keptFields (fun f hf t ht => ht.trans (.set t f 0 _ (hregs f hf).1 (hregs f hf).2 (by omega))) r
      (.refl _ r)
  exact (hfields.trans (.set _ MTL_PAIR_STATUS.ACTIVE_IN 0 _ (by decide) (by decide) (by omega))).trans
    (.set _ MTL_PAIR_STATUS.MATE_PRESENT 0 _ (by decide) (by decide) (by omega))

theorem commitFinish_quiet (s : State) (h : s.nvj.prog = none) : s.commitFinish = s := by rw [State.commitFinish, h]

theorem commitFinish_pwr (s : State) : s.commitFinish.pwr = s.pwr := by
  unfold State.commitFinish
  split
  · split <;> rfl
  · rfl

theorem deviceReset_regs (s : State) (lost : Bool) :
    (s.deviceReset lost).regs = (s.commitFinish.keptFieldsOf s.commitFinish.keptWords).regs := by
  simp only [State.deviceReset, State.keptFieldsOf, State.keptWords, State.forL]

theorem deviceReset_word (s : State) (lost : Bool) (h : s.nvj.prog = none) {r : Reg} (hr : r ∉ resetFieldRegs) {i w : Nat} (hi : i < 8192)
    (hw : w < 8) : (s.deviceReset lost).word r i w = if r ∈ keptRegs then s.word r i w else r.resetWord i w := by
  rw [State.word, deviceReset_regs, commitFinish_quiet s h, ← State.word, (Within.keptFieldsOf s s.keptWords).word r i w hr hi hw,
    keptWords_word s r hi hw]

@[simp] theorem deviceReset_raised (s : State) (lost : Bool) : (s.deviceReset lost).evt.raised = [] := rfl
@[simp] theorem deviceReset_tbl (s : State) (lost : Bool) : (s.deviceReset lost).tbl = State.reset.tbl := rfl
theorem deviceReset_cycling (s : State) (lost : Bool) : (s.deviceReset lost).pwr.cycling = s.pwr.cycling := by
  unfold State.deviceReset
  dsimp only
  rw [commitFinish_pwr]

/-- R36: the flash, the one-time array, the key of the always-on domain and the keys that are not VOLATILE outlast a device reset. -/
theorem deviceReset_kept (s : State) (lost : Bool) (h : s.nvj.prog = none) :
    (s.deviceReset lost).nvj.flash = s.nvj.flash ∧ (s.deviceReset lost).lcm.rootA = s.lcm.rootA ∧ (s.deviceReset lost).lcm.rootB = s.lcm.rootB
      ∧ (s.deviceReset lost).lcm.lcBits = s.lcm.lcBits ∧ (s.deviceReset lost).lcm.customerHashes = s.lcm.customerHashes
      ∧ (s.deviceReset lost).tmp.bsk = s.tmp.bsk ∧ (s.deviceReset lost).kst.slots = keptSlots lost s.kst.slots := by
  unfold State.deviceReset
  rw [commitFinish_quiet s h]
  exact ⟨rfl, rfl, rfl, rfl, rfl, rfl, rfl⟩

/-! ### When a device reset takes place -/

theorem resetDevice_held (s : State) (h : s.tmp.resp ≠ 0 ∨ s.pwr.resetHeld = true) : s.resetDevice = s := by
  rw [State.resetDevice, if_pos (by simpa using h)]

theorem resetDevice_free (s : State) (h : s.tmp.resp = 0) (hr : s.pwr.resetHeld = false) : s.resetDevice = s.deviceReset false := by
  simp [State.resetDevice, h, hr]

theorem resetDevice_tbl (s : State) (h : s.tmp.resp = 0) (hr : s.pwr.resetHeld = false) : s.resetDevice.tbl = State.reset.tbl := by
  rw [resetDevice_free s h hr, deviceReset_tbl]

theorem resetDevice_cycling (s : State) : s.resetDevice.pwr.cycling = s.pwr.cycling := by
  unfold State.resetDevice
  split
  · rfl
  · exact deviceReset_cycling s false

@[simp] theorem flushEvents_pwr (s : State) : s.flushEvents.pwr = s.pwr := part_of_beside State.pwr (fun _ => rfl) (flushEvents_beside s)

end Sys2Proof.Machine

namespace Sys2Proof

open Machine

/-- A write of GLB_FRESET that names no function, or comes while BUSY, changes nothing. -/
theorem freset_refused (s : State) (i : BitVec 16) :
    (¬ s.get GLB_FRESET_STATUS.BUSY = 0 →
        ∀ c ∈ [Instr.fresetPort i, .fresetSa i, .fresetQueue i, .fresetRing i, .fresetPod i, .fresetTableUnit i], Ends c s s)
      ∧ (64 ≤ i.toNat → Ends (.fresetPort i) s s) ∧ (4096 ≤ i.toNat ∨ i.toNat % 1024 < 104 → Ends (.fresetQueue i) s s)
      ∧ (512 ≤ i.toNat → Ends (.fresetRing i) s s) ∧ (24 ≤ i.toNat → Ends (.fresetPod i) s s)
      ∧ (4 ≤ i.toNat → Ends (.fresetTableUnit i) s s) := by
  have ends {c : Instr} (k : Nat) (hexec : exec c s = finish (s.freset k i.toNat)) (h : s.freset k i.toNat = s) : Ends c s s :=
    ends_of_exec hexec h
  refine ⟨fun hbusy c hc => ?busy, fun h => ends 1 rfl ?port, fun h => ends 3 rfl ?queue, fun h => ends 4 rfl ?ring, fun h => ends 5 rfl ?pod,
    fun h => ends 6 rfl ?unit⟩
  case busy =>
    simp only [List.mem_cons, List.not_mem_nil, or_false] at hc
    rcases hc with rfl | rfl | rfl | rfl | rfl | rfl
    exacts [ends 1 rfl (freset_busy s _ _ hbusy), ends 2 rfl (freset_busy s _ _ hbusy), ends 3 rfl (freset_busy s _ _ hbusy),
      ends 4 rfl (freset_busy s _ _ hbusy), ends 5 rfl (freset_busy s _ _ hbusy), ends 6 rfl (freset_busy s _ _ hbusy)]
  case port => rw [State.freset, dif_neg (Nat.not_lt.mpr h)]
  case queue =>
    rw [State.freset]
    rcases h with h | h
    · rw [dif_neg (Nat.not_lt.mpr h)]
    · simp [h]
  case ring => rw [State.freset, dif_neg (Nat.not_lt.mpr h)]
  case pod => rw [State.freset, if_neg (Nat.not_lt.mpr h)]
  case unit => rw [State.freset, if_neg (Nat.not_lt.mpr h)]

/-- R698: the reset of a ring that is ON disables it and leaves its frames. -/
theorem answers_resetRing_on (s : State) (r : Fin 512) (hfree : s.get GLB_FRESET_STATUS.BUSY = 0) (hon : s.get HIF_RING_CFG.STATE r = 1) :
    Answers (.fresetRing (BitVec.ofNat 16 r)) s fun u =>
      u.get GLB_FRESET_STATUS.BUSY = 1 ∧ u.get HIF_RING_CFG.STATE r = 2 ∧ u.get HIF_RING_CFG.EN r = 0 ∧ u.hif = s.hif := by
  have hstop := fnDisable_on (s.resetMarked 4 r) (f := .ring r) rfl ((resetMarked_fnState s 4 r (.ring r)).trans hon)
  obtain ⟨hshow, hstate, hen⟩ := resetFn_stopping_shows s (f := .ring r) nofun hstop
  refine answers_of_exec (exec_fresetRing s r hfree) ⟨hshow.busy, hstate, hen, ?_⟩
  rw [flushEvents_hif, resetFn_stopping s hstop]
  exact part_of_noRegs State.hif (fun _ => rfl) ((fnSet_noRegs ..).trans (resetMarked_noRegs ..))

theorem answers_resetSa_off (s : State) (i : BitVec 16) (hfree : s.get GLB_FRESET_STATUS.BUSY = 0)
    (hoff : (s.sa? i.toNat).all (fun a => a.state == 0 && !a.en) = true) : Answers (.fresetSa i) s fun u =>
      (u.get GLB_FRESET_STATUS.TYPE = 2 ∧ u.get GLB_FRESET_STATUS.INDEX = i.toNat) ∧ u.get GLB_FRESET_STATUS.BUSY = 0
        ∧ u.get GLB_FRESET_STATUS.DONE = 1 ∧ u.tbl = s.tbl := by
  obtain ⟨hshow, hdone⟩ := (showsReset_resetMarked s (typ := 2) (by omega) i.isLt).fresetOff
  refine answers_of_exec (exec_fresetSa s i hfree) ?_
  rw [fresetSa_off _ _ (by rwa [State.sa?, resetMarked_tbl])]
  refine ⟨⟨hshow.flushEvents.typ, hshow.flushEvents.index⟩, hshow.flushEvents.busy, ?_, ?_⟩
  · rw [flushEvents_get_early _ GLB_FRESET_STATUS.DONE 0 (by decide) (by omega), hdone]
  · rw [flushEvents_tbl]
    exact part_of_noRegs State.tbl (fun _ => rfl) ((fresetOff_noRegs _ _ _).trans (resetMarked_noRegs s 2 i.toNat))

theorem answers_resetSa_enabled (s : State) (i : BitVec 16) (hfree : s.get GLB_FRESET_STATUS.BUSY = 0) {a : SaEntry}
    (ha : s.sa? i.toNat = some a) (hen : a.en = true) (hlive : a.live = false) : Answers (.fresetSa i) s fun u =>
      (u.get GLB_FRESET_STATUS.TYPE = 2 ∧ u.get GLB_FRESET_STATUS.INDEX = i.toNat) ∧ u.get GLB_FRESET_STATUS.BUSY = 1
        ∧ u.sa? i.toNat = some { a with en := false, state := 2 } := by
  refine answers_of_exec (exec_fresetSa s i hfree) ?_
  rw [fresetSa_enabled (s.resetMarked 2 i.toNat) i.toNat (by rwa [State.sa?, resetMarked_tbl]) hen hlive]
  have hshow := ((showsReset_resetMarked s (typ := 2) (by omega) i.isLt).within
    (Within.putSa [] _ i.toNat (some { a with en := false, state := 2 })) (by simp)).flushEvents
  refine ⟨⟨hshow.typ, hshow.index⟩, hshow.busy, ?_⟩
  rw [State.sa?, flushEvents_tbl, ← State.sa?, putSa_sa?_same]

theorem answers_resetTableUnit (s : State) (n : Fin 4) (hfree : s.get GLB_FRESET_STATUS.BUSY = 0) (hhost : s.tblPort n .host = .idle)
    (hmcu : s.tblPort n .mcu = .idle) : Answers (.fresetTableUnit (BitVec.ofNat 16 n)) s fun u =>
      (u.get GLB_FRESET_STATUS.TYPE = 6 ∧ u.get GLB_FRESET_STATUS.INDEX = n) ∧ u.get GLB_FRESET_STATUS.BUSY = 0
        ∧ u.get GLB_FRESET_STATUS.DONE = 1 ∧ ∀ i, u.sa? i = s.sa? i ∧ u.sc? i = s.sc? i := by
  have hmark := resetMarked_noRegs s 6 n
  have hport := fun m : Master => tblPort_of_noRegs hmark n m
  have hcleared : Within [.TBL_DATA, .TBL_STATUS] (s.resetMarked 6 n)
      (((s.resetMarked 6 n).portCleared (tblIdx n .host)).portCleared (tblIdx n .mcu)) :=
    (Within.portCleared _ (tblIdx_lt n.isLt _)).trans (.portCleared _ (tblIdx_lt n.isLt _))
  obtain ⟨hshow, hdone⟩ := ((showsReset_resetMarked s (typ := 6) (index := n) (by omega) (by omega)).within hcleared (by decide)).fresetOff
  refine answers_of_exec (exec_fresetTableUnit s n hfree) ?_
  rw [tblReset_idle _ n ((hport .host).trans hhost) ((hport .mcu).trans hmcu)]
  refine ⟨⟨hshow.flushEvents.typ, hshow.flushEvents.index⟩, hshow.flushEvents.busy, ?_, fun i => ?_⟩
  · rw [flushEvents_get_early _ GLB_FRESET_STATUS.DONE 0 (by decide) (by omega), hdone]
  · have htbl : (((((s.resetMarked 6 n).portCleared (tblIdx n .host)).portCleared (tblIdx n .mcu)).fresetOff 6 n).flushEvents).tbl = s.tbl := by
      rw [flushEvents_tbl]
      exact part_of_noRegs State.tbl (fun _ => rfl)
        ((fresetOff_noRegs ..).trans ((portCleared_noRegs ..).trans ((portCleared_noRegs ..).trans hmark)))
    exact ⟨by rw [State.sa?, htbl, State.sa?], by rw [State.sc?, htbl, State.sc?]⟩

/-- R630: the timeout of a reset that goes on shows once, and raises its event. -/
theorem answers_fresetTimeout {s : State} (hs : Settled s) (hbusy : s.get GLB_FRESET_STATUS.BUSY = 1)
    (htime : s.get GLB_FRESET_STATUS.TIMEOUT = 0) : Answers .fresetTimeout s fun u =>
      u.get GLB_FRESET_STATUS.TIMEOUT = 1 ∧ u.get GLB_FRESET_STATUS.BUSY = 1 ∧ u.get EVT_SRC.STATUS 152 = 1 := by
  have hexec : exec .fresetTimeout s = finish ((s.set GLB_FRESET_STATUS.TIMEOUT 0 1).raise 152 4) := by
    simp [exec_fresetTimeout, State.flag, hbusy, htime]
  have hraised : ((s.set GLB_FRESET_STATUS.TIMEOUT 0 1).raise 152 4).evt.raised = [⟨152, 4, 0, 0, 0⟩] := by
    rw [raise_raised, set_evt, hs]
    rfl
  refine answers_of_exec hexec ⟨?_, ?_, flushEvents_get_status _ (by rw [hraised]; simp) 152 (by rw [hraised]; simp)⟩
  · rw [flushEvents_get_early _ GLB_FRESET_STATUS.TIMEOUT 0 (by decide) (by omega), raise_get]
    exact get_set_eq _ (by decide) (by decide)
  · rw [flushEvents_get_early _ GLB_FRESET_STATUS.BUSY 0 (by decide) (by omega), raise_get,
      get_set_disjoint _ (by decide) (by omega) (by omega), hbusy]

/-- R631: a power cycle whose rails did not drop resets the device and shows PC_FAIL. -/
theorem answers_pulseEnd (s : State) (hcyc : s.pwr.cycling = true) : Answers (.powerCyclePulseEnd false) s fun u =>
    u.get GLB_RESET.PC_FAIL = 1 ∧ u.pwr.cycling = false
      ∧ (s.tmp.resp = 0 → s.pwr.resetHeld = false → u.tbl = State.reset.tbl) := by
  have hexec : exec (.powerCyclePulseEnd false) s =
      finish (({ s with pwr := { s.pwr with cycling := false } } : State).resetDevice.set GLB_RESET.PC_FAIL 0 1) := by
    have h : exec (.powerCyclePulseEnd false) s = finish (if !s.pwr.cycling then s
        else ({ s with pwr := { s.pwr with cycling := false } } : State).resetDevice.set GLB_RESET.PC_FAIL 0 1) := rfl
    rw [h, hcyc]
    rfl
  refine answers_of_exec hexec ⟨?_, ?_, fun hresp hheld => ?_⟩
  · rw [flushEvents_get_early _ GLB_RESET.PC_FAIL 0 (by decide) (by omega)]
    exact get_set_eq _ (by decide) (by decide)
  · rw [flushEvents_pwr, set_pwr, resetDevice_cycling]
  · rw [flushEvents_tbl, set_tbl]
    exact resetDevice_tbl _ hresp hheld

/-- Settles O54: the marked reset followed to the function, SA or table unit it names; the device reset by the words that it keeps. -/
theorem functionDeviceAndPowerResets : Obligations.FunctionDeviceAndPowerResets := by
  unfold Obligations.FunctionDeviceAndPowerResets
  intro s hs
  dsimp only
  refine ⟨freset_refused s, fun p => ?ports, fun q => ?queues, fun r => ?rings, fun n p => ?pods,
    fun i hfree => ⟨answers_resetSa_off s i hfree, fun a ha hen hlive => answers_resetSa_enabled s i hfree ha hen hlive⟩,
    answers_resetTableUnit s, ⟨fun hnot => ?notDue, fun ⟨hbusy, htime⟩ => answers_fresetTimeout hs hbusy htime⟩,
    fun confirm => ⟨fun hne => ?ignored, fun hok => ?cycles, fun hok hheld => ?held, fun hok hfree hprog => ?device⟩,
    fun hidle dropped => ?idle, fun hcyc => ⟨?dropped, ?cycled⟩⟩
  case ports =>
    exact ⟨fun hfree => answers_reset_off nofun (exec_fresetPort s p hfree), fun hfree => answers_reset_pending nofun (exec_fresetPort s p hfree)⟩
  case queues =>
    exact ⟨fun hfree hd => answers_reset_off nofun (exec_fresetQueue s q hfree hd) hd,
      fun hfree hd => answers_reset_pending nofun (exec_fresetQueue s q hfree hd) hd⟩
  case rings =>
    exact ⟨fun hfree => answers_reset_off nofun (exec_fresetRing s r hfree), fun hfree => answers_reset_pending nofun (exec_fresetRing s r hfree),
      answers_resetRing_on s r⟩
  case pods =>
    exact ⟨fun hfree => answers_reset_off nofun (exec_fresetPod s n p hfree), fun hfree => answers_reset_pending nofun (exec_fresetPod s n p hfree)⟩
  case notDue =>
    refine ends_of_exec (exec_fresetTimeout s) (if_neg fun h => hnot ?_)
    simp only [State.flag, Bool.and_eq_true, beq_iff_eq, Bool.not_eq_true', beq_eq_false_iff_ne] at h
    exact ⟨h.1, by_contra fun ht => h.2 (get_bit_of_ne_zero s GLB_FRESET_STATUS.TIMEOUT 0 rfl ht)⟩
  case ignored =>
    have hk : ¬ (confirm == 0x44525354#32) = true := by simpa using hne
    exact ⟨ends_of_exec rfl (if_neg hk), ends_of_exec rfl (if_neg hk)⟩
  case cycles =>
    subst hok
    exact ends_of_exec rfl rfl
  case held =>
    subst hok
    exact ends_of_exec rfl (resetDevice_held s hheld)
  case device =>
    subst hok
    obtain ⟨hresp, hheld⟩ := not_or.mp hfree
    have hreset := resetDevice_free s (not_not.mp hresp) (Bool.eq_false_iff.mpr hheld)
    refine answers_of_exec (congrArg finish hreset) ?_
    rw [flushEvents_quiet _ (deviceReset_raised s false)]
    obtain ⟨hflash, hrootA, hrootB, hbits, hhashes, hbsk, hslots⟩ := deviceReset_kept s false hprog
    refine ⟨hflash, hrootA, hrootB, hbits, hhashes, hbsk, rfl, rfl, rfl, rfl, rfl, hslots, fun r hr i w hi hw => ?_,
      fun r hr hfields i w hi hw => ?_⟩
    · have hfields : ∀ r ∈ keptRegs, r ∉ resetFieldRegs := by decide
      rw [deviceReset_word s false hprog (hfields r hr) hi hw, if_pos hr]
    · rw [deviceReset_word s false hprog hfields hi hw, if_neg hr]
  case idle => exact ends_of_exec rfl (if_pos (by simp [hidle]))
  case dropped =>
    refine ends_of_exec rfl ?_
    simp [hcyc]
  case cycled =>
    exact answers_pulseEnd s hcyc

end Sys2Proof
end

section
/-!
PROOFS. A frame that O16 lets join its sequencer and that the device drops. The statement takes the fields of an SC as they stand in a table entry,
of any size: an EGRESS_PORT beyond its five bits names no line port, and its MAX_FRAME is read from a word of another register. Here that word is
`FAB_BUF_STATUS`, which the ingress admission writes anew before the length check (R56) reads it.
-/

namespace Sys2Proof.Machine

/-- An EGRESS_PORT whose MAX_FRAME lies in `FAB_BUF_STATUS` of region 3. -/
def strayPort : Nat := (Reg.FAB_BUF_STATUS.ctorIdx - Reg.LPX_PORT_CTRL.ctorIdx) * 8192 + 3

/-- An SC that is ON and sends to that port. -/
def straySc : ScEntry := { ScEntry.ofWords [] with state := 1, egPort := strayPort }

/-- The key of an untagged frame of client port 31. -/
def strayKey : BitVec 256 := State.reset.maskedTxKey 31 false 0 0 0

/-- The entry of that key: it protects with SC 0 in class 7. -/
def strayCls : ClsEntry :=
  { key := strayKey, action := 0, sc := 0, cls := 7, letEn := false, letStream := 0, volley := false, mirror := false, mirrorQ := 0, gen := 0
    cookie := 0 }

/-- Client port 31 up, with that entry and that SC; the word read as MAX_FRAME holds 16,000. -/
def strayUp : State :=
  ((((State.reset.putSc 0 (some straySc)).putCls 3 ⟨false, 4 * State.reset.bucket 3 strayKey⟩ (some strayCls)).set CPX_PORT_STATUS.BSTATE 31 5).set
    CPX_PORT_CTRL.STATE 31 1).set LPX_PORT_CTRL.MAX_FRAME strayPort 16000

/-- A frame of 4,200 octets, FCS left out. -/
def strayFrame : List Byte := List.replicate 4200 0

theorem strayUp_port : Settled strayUp ∧ strayUp.portUp 31 = true ∧ strayUp.transparent 31 = none ∧ strayUp.isLibero = false := by
  decide +kernel

theorem strayFrame_whole : 64 ≤ strayFrame.length + 4 ∧ strayFrame.length + 4 ≤ 16000 ∧ typeAt strayFrame 12 ≠ 0x8808 := by decide +kernel

theorem strayFrame_lookup :
    strayUp.lookup 3 (strayUp.maskedTxKey 31 (outerTag strayFrame).1 (outerTag strayFrame).2.1 (outerTag strayFrame).2.2
      (strayUp.etClass 3 (frameEtherType strayFrame))) = some strayCls ∧ strayUp.sc? 0 = some straySc := by
  decide +kernel

/-- Before the admission the frame is within the word read as MAX_FRAME, and there is room for it. -/
theorem strayFrame_admitted :
    secureLength straySc strayFrame false ≤ strayUp.get LPX_PORT_CTRL.MAX_FRAME strayPort ∧ strayUp.get SCH_METER.EN (accountOf 31 7) = 0
      ∧ strayUp.ingressRoom 31 7 = true := by
  decide +kernel

/-- The frame joins no sequencer. -/
theorem strayFrame_dropped : Answers (.clientFrameRx 31 strayFrame .good false) strayUp fun t => (t.seq (seqOf 31)).fifo = [] :=
  answers_of_exec rfl (by decide +kernel)

end Sys2Proof.Machine

namespace Sys2Proof

open Machine

/-- Refutes O16: the clause on a protected client frame fails for an SC whose EGRESS_PORT exceeds its five bits, which the statement does not
exclude; the admission rewrites the word that the length check then reads as MAX_FRAME, and drops the frame (R56). -/
theorem not_receivedFramesJoinTheirSequencer : ¬ Obligations.ReceivedFramesJoinTheirSequencer := by
  unfold Obligations.ReceivedFramesJoinTheirSequencer
  rintro ⟨-, hjoins, -⟩
  obtain ⟨hsettled, hup, htransparent, hlibero⟩ := strayUp_port
  obtain ⟨hmin, hmax, htype⟩ := strayFrame_whole
  obtain ⟨hlookup, hsc⟩ := strayFrame_lookup
  obtain ⟨hfits, hmeter, hroom⟩ := strayFrame_admitted
  obtain ⟨t, hexec, x, hfifo, -⟩ := hjoins 31 strayFrame false strayUp strayCls straySc hsettled hup htransparent hmin hmax htype hlookup rfl
    (by decide) rfl rfl hsc rfl rfl hlibero hfits hmeter hroom
  obtain ⟨u, hexec', hempty⟩ := strayFrame_dropped
  obtain rfl : t = u := Host.Outcome.next.inj (hexec.symm.trans hexec')
  exact List.append_ne_nil_of_right_ne_nil _ (List.cons_ne_nil x []) (hfifo.symm.trans hempty)

end Sys2Proof
end

section
/-!
PROOFS. The seed of a region's hash (R68): what a write of `TBL_SEED` changes, by what it reaches and whether the region holds an entry.
-/

namespace Sys2Proof.Machine

variable (s : State) (n seed : Nat) (clr : Bool)

/-- A 1 written to REJ clears it, whatever else the write reaches. -/
def State.rejCleared (n : Nat) (clr : Bool) (s : State) : State := if clr then s.set TBL_SEED.REJ n 0 else s

theorem seedWrite_upper : s.seedWrite n seed clr false = s.rejCleared n clr := rfl

theorem seedWrite_empty (hb : s.get TBL_OCCUPANCY.BUCKET_ENTRIES n = 0) (ho : s.get TBL_OCCUPANCY.OVF_ENTRIES n = 0) :
    s.seedWrite n seed clr true = (s.rejCleared n clr).set TBL_SEED.SEED n seed := by
  simp [State.seedWrite, hb, ho, State.rejCleared, State.when]

theorem seedWrite_occupied (h : s.get TBL_OCCUPANCY.BUCKET_ENTRIES n + s.get TBL_OCCUPANCY.OVF_ENTRIES n ≠ 0) :
    s.seedWrite n seed clr true =
      if seed = s.get TBL_SEED.SEED n then s.rejCleared n clr else (s.rejCleared n clr).set TBL_SEED.REJ n 1 := by
  have hfull : (s.get TBL_OCCUPANCY.BUCKET_ENTRIES n == 0 && s.get TBL_OCCUPANCY.OVF_ENTRIES n == 0) = false := by
    rw [Bool.eq_false_iff]
    simp only [ne_eq, Bool.and_eq_true, beq_iff_eq]
    omega
  simp [State.seedWrite, hfull, State.rejCleared, State.when]

end Sys2Proof.Machine

namespace Sys2Proof

open Machine

/-- Settles O14, by what the write reaches and whether the region holds an entry. -/
theorem seedChangesOnlyInAnEmptyTable : Obligations.SeedChangesOnlyInAnEmptyTable := by
  unfold Obligations.SeedChangesOnlyInAnEmptyTable
  refine fun n seed clr s => ⟨fun hb ho => ?empty, fun h => ?occupied, ?upper⟩
  case empty => exact ends_of_exec rfl (seedWrite_empty s n seed.toNat clr hb ho)
  case occupied => exact ends_of_exec rfl (seedWrite_occupied s n seed.toNat clr h)
  case upper => exact ends_of_exec rfl (seedWrite_upper s n seed.toNat clr)

end Sys2Proof
end

section
/-!
PROOFS. The shadow compare (R77 to R80): the position, the items that wait for their confirming read, the log of mismatches, and the end
by a read fault.
-/

namespace Sys2Proof.Machine

variable {n : Nat}

/-! ### The unit of a region -/

@[simp] theorem putUnit_unit_same (s : State) (n : Nat) (u : TblUnit) : (s.putUnit n u).unit n = u := KMap.get_set_same _ _ _ _
@[simp] theorem putUnit_evt (s : State) (n : Nat) (u : TblUnit) : (s.putUnit n u).evt = s.evt := rfl

theorem tbl_of_noRegs {s t : State} (h : t.noRegs = s.noRegs) : t.tbl = s.tbl := part_of_noRegs State.tbl (fun _ => rfl) h

theorem onlyRegs_of_noRegs {s t : State} (h : t.noRegs = s.noRegs) : OnlyRegs s t := by
  have hregs := congrArg (fun x : State => { x with regs := s.regs }) h
  exact hregs

/-- A field outside the performance counters reads as before DMA octets are counted. -/
theorem dmaOctets_get (s : State) (k : Nat) (f : Field) (i : Nat) (hf : f.reg ∉ pmcRegs) (hw : f.word < 8) (hi : i < 8192) :
    (s.dmaOctets k).get f i = s.get f i := (Within.dmaOctets s k).get f i hf hw hi

/-- R620: STATUS of the source of an event that a command raises alone reads 1 when the command has ended. -/
theorem raise_flushEvents_status (s : State) (hs : Settled s) {a : Nat} (ha : a < 512) (b c d e : Nat) :
    (s.raise a b c d e).flushEvents.get EVT_SRC.STATUS a = 1 := by
  have hone : (s.raise a b c d e).evt.raised = [⟨a, b, c, d, e⟩] := congrArg (· ++ [(⟨a, b, c, d, e⟩ : Raised)]) hs
  refine flushEvents_get_status _ ?_ a ⟨_, hone ▸ List.mem_singleton_self _, rfl⟩
  rw [hone]
  exact fun x hx => (List.mem_singleton.mp hx) ▸ ha

/-! ### One item (R77, R78) -/

/-- R78: an item that differs as it is read begins to wait for its confirming read. -/
def State.shadowNote (n item : Nat) (read : List Word) (s : State) : State :=
  if (s.shadowDiff n item read).isSome then
    s.putUnit n { s.unit n with shadowWaits := (s.unit n).shadowWaits ++ [⟨item, false⟩] }
  else s

theorem shadowNote_waits (s : State) (item : Nat) (read : List Word) : ((s.shadowNote n item read).unit n).shadowWaits =
    (s.unit n).shadowWaits ++ (if (s.shadowDiff n item read).isSome then [⟨item, false⟩] else []) := by
  unfold State.shadowNote
  split <;> simp

/-- Noting an item changes the units alone. -/
theorem shadowNote_keeps {β : Type} (g : State → β) (s : State) (item : Nat) (read : List Word) (hunit : ∀ u, g (s.putUnit n u) = g s) :
    g (s.shadowNote n item read) = g s := by
  unfold State.shadowNote
  split
  · exact hunit _
  · rfl

/-- Where the compare stands once an item has been compared (R77, R81). -/
theorem shadowAdvance_get (s : State) (hn : n < 4) :
    (s.shadowAdvance n).get TBL_SHADOW_STATUS.POS n =
        (if s.get TBL_SHADOW_STATUS.POS n + 1 < 21760 then s.get TBL_SHADOW_STATUS.POS n + 1 else 0)
      ∧ (s.shadowAdvance n).get TBL_SHADOW_STATUS.PASS n =
        if s.get TBL_SHADOW_STATUS.POS n + 1 < 21760 then s.get TBL_SHADOW_STATUS.PASS n
        else (s.get TBL_SHADOW_STATUS.PASS n + 1) % 2 ^ TBL_SHADOW_STATUS.PASS.width := by
  have hpos (v : Nat) : (s.set TBL_SHADOW_STATUS.POS n v).get TBL_SHADOW_STATUS.PASS n = s.get TBL_SHADOW_STATUS.PASS n :=
    get_set_disjoint s (by decide) (by omega) (by omega)
  unfold State.shadowAdvance
  dsimp only
  split
  · next hlt => exact ⟨get_set_eq s (by decide) (Nat.lt_trans hlt (by decide)), hpos _⟩
  · next =>
    rw [State.incWrap, hpos 0]
    refine ⟨?_, get_set_same _ _ _ _ (by decide)⟩
    rw [get_set_disjoint _ (by decide) (by omega) (by omega)]
    exact get_set_eq s (by decide) (by decide)

theorem shadowAdvance_noRegs (s : State) (n : Nat) : (s.shadowAdvance n).noRegs = s.noRegs := by
  unfold State.shadowAdvance
  dsimp only
  split <;> simp

theorem exec_shadowItemCompare (n : Fin 4) (read : List Word) (s : State) (hon : s.get TBL_SHADOW_CTRL.STATE n = 1)
    (hstage : s.get GLB_THERM.STAGE = 0) : exec (.shadowItemCompare n read) s =
      finish (((s.shadowNote n (s.get TBL_SHADOW_STATUS.POS n) read).shadowAdvance n).dmaOctets 256) := by
  have hrun : (s.get TBL_SHADOW_CTRL.STATE n == 1 && !s.thermPaused) = true := by simp [hon, State.thermPaused, hstage]
  exact congrArg finish (if_pos hrun)

theorem answers_shadowItemCompare (n : Fin 4) (read : List Word) (s : State) (hs : Settled s) (hon : s.get TBL_SHADOW_CTRL.STATE n = 1)
    (hstage : s.get GLB_THERM.STAGE = 0) :
    let pos := s.get TBL_SHADOW_STATUS.POS n
    Answers (.shadowItemCompare n read) s fun t =>
      t.get TBL_SHADOW_STATUS.POS n = (if pos + 1 < 21760 then pos + 1 else 0)
      ∧ t.get TBL_SHADOW_STATUS.PASS n = (if pos + 1 < 21760 then s.get TBL_SHADOW_STATUS.PASS n
          else (s.get TBL_SHADOW_STATUS.PASS n + 1) % 2 ^ TBL_SHADOW_STATUS.PASS.width)
      ∧ (t.unit n).shadowWaits = (s.unit n).shadowWaits ++ (if (s.shadowDiff n pos read).isSome then [⟨pos, false⟩] else [])
      ∧ t.tbl.sc = s.tbl.sc ∧ t.tbl.sa = s.tbl.sa ∧ t.tbl.cls = s.tbl.cls ∧ t.tbl.ovf = s.tbl.ovf := by
  intro pos
  have hadv := shadowAdvance_noRegs (s.shadowNote n pos read) n
  have hregs := (dmaOctets_noRegs ((s.shadowNote n pos read).shadowAdvance n) 256).trans hadv
  have hkeep {β : Type} (g : State → β) (hg : ∀ t, g t.noRegs = g t) (hunit : ∀ u, g (s.putUnit n u) = g s) :
      g (((s.shadowNote n pos read).shadowAdvance n).dmaOctets 256) = g s :=
    (part_of_noRegs g hg hregs).trans (shadowNote_keeps g s pos read hunit)
  have hfield (f : Field) : (s.shadowNote n pos read).get f n = s.get f n := shadowNote_keeps (State.get · f n) s pos read fun _ => rfl
  obtain ⟨hpos, hpass⟩ := shadowAdvance_get (s.shadowNote n pos read) n.isLt
  simp only [hfield] at hpos hpass
  refine answers_of_exec_quiet (exec_shadowItemCompare n read s hon hstage) ?_ ⟨?_, ?_, ?_, ?_, ?_, ?_, ?_⟩
  · rw [Settled, hkeep State.evt (fun _ => rfl) fun _ => rfl]
    exact hs
  · rw [dmaOctets_get _ _ _ _ (by decide) (by decide) (by omega)]
    exact hpos
  · rw [dmaOctets_get _ _ _ _ (by decide) (by decide) (by omega)]
    exact hpass
  · rw [part_of_noRegs (State.unit · n) (fun _ => rfl) hregs]
    exact shadowNote_waits s pos read
  · exact hkeep (State.tbl · |>.sc) (fun _ => rfl) fun _ => rfl
  · exact hkeep (State.tbl · |>.sa) (fun _ => rfl) fun _ => rfl
  · exact hkeep (State.tbl · |>.cls) (fun _ => rfl) fun _ => rfl
  · exact hkeep (State.tbl · |>.ovf) (fun _ => rfl) fun _ => rfl

/-! ### The confirming read (R78, R79) -/

/-- The state in which the item that waited longest has been read again. -/
def State.shadowReread (n : Nat) (r : List ShadowWait) (s : State) : State :=
  (s.putUnit n { s.unit n with shadowWaits := r }).dmaOctets 256

theorem shadowReread_get (s : State) (r : List ShadowWait) (f : Field) (i : Nat) (hf : f.reg ∉ pmcRegs) (hw : f.word < 8) (hi : i < 8192) :
    (s.shadowReread n r).get f i = s.get f i := dmaOctets_get _ _ _ _ hf hw hi

@[simp] theorem shadowReread_evt (s : State) (r : List ShadowWait) : (s.shadowReread n r).evt = s.evt := by simp [State.shadowReread]

theorem shadowReread_cls (s : State) (r : List ShadowWait) : (s.shadowReread n r).tbl.cls = s.tbl.cls := by
  rw [State.shadowReread, tbl_of_noRegs (dmaOctets_noRegs _ 256)]
  rfl

/-- What a confirming read makes of the item `w`. -/
def State.shadowJudge (n : Nat) (w : ShadowWait) (read : List Word) (s s1 : State) : State :=
  if w.changed then s1.inc TBL_SHADOW_STATUS.SKIPS n
  else match s.shadowDiff n w.item read with
    | some x => s1.shadowLog n w.item x
    | none => s1

theorem exec_shadowConfirm (n : Fin 4) (read : List Word) (s : State) {w : ShadowWait} {r : List ShadowWait}
    (h : (s.unit n).shadowWaits = w :: r) : exec (.shadowConfirm n read) s = finish (s.shadowJudge n w read (s.shadowReread n r)) := by
  have hexec : exec (.shadowConfirm n read) s = execShadowConfirm n read s := rfl
  rw [hexec, execShadowConfirm]
  dsimp only
  rw [h]
  rfl

theorem shadowLog_full (s : State) (item : Nat) (x : Nat × Nat × Word) (h : 64 ≤ s.get TBL_SHADOW_STATUS.LOG_COUNT n) :
    s.shadowLog n item x = s.inc TBL_SHADOW_LOST.LOST n := if_neg (by omega)

/-- R79: the record of a confirmed mismatch, in the place `i` of the log. -/
def State.shadowRecord (i item pass : Nat) (x : Nat × Nat × Word) (s : State) : State :=
  let s1 := ((s.set TBL_SHADOW_LOG.TYPE i (shadowType item).1).set TBL_SHADOW_LOG.ITEM i (shadowType item).2).set TBL_SHADOW_LOG.ENTRY i x.1
  ((s1.set TBL_SHADOW_LOG.WORD i x.2.1).set TBL_SHADOW_LOG.PASS i pass).set TBL_SHADOW_LOG.DIFF i x.2.2.toNat

theorem shadowLog_room (s : State) (item : Nat) (x : Nat × Nat × Word) (h : s.get TBL_SHADOW_STATUS.LOG_COUNT n < 64) :
    s.shadowLog n item x =
      (((s.shadowRecord (64 * n + s.get TBL_SHADOW_STATUS.LOG_COUNT n) item (s.get TBL_SHADOW_STATUS.PASS n) x).set
        TBL_SHADOW_STATUS.LOG_COUNT n (s.get TBL_SHADOW_STATUS.LOG_COUNT n + 1)).set TBL_SHADOW_STATUS.MISMATCH n 1).raise (113 + 8 * n) 3 :=
  if_pos h

/-- A field of a record reads as it was written. -/
theorem shadowRecord_get (s : State) (i item pass : Nat) (x : Nat × Nat × Word) (hi : i < 8192) :
    let t := s.shadowRecord i item pass x
    t.get TBL_SHADOW_LOG.TYPE i = (shadowType item).1 % 4 ∧ t.get TBL_SHADOW_LOG.ITEM i = (shadowType item).2 % 2 ^ TBL_SHADOW_LOG.ITEM.width
      ∧ t.get TBL_SHADOW_LOG.ENTRY i = x.1 % 4 ∧ t.get TBL_SHADOW_LOG.WORD i = x.2.1 % 8 ∧ t.get TBL_SHADOW_LOG.DIFF i = x.2.2.toNat := by
  have hother (t : State) {f g : Field} (v : Nat) (h : f.disjoint g = true) : (t.set f i v).get g i = t.get g i := get_set_disjoint t h hi hi
  have hsame (t : State) (f : Field) (v : Nat) (h : f.lo + f.width ≤ 64) : (t.set f i v).get f i = v % 2 ^ f.width := get_set_same t f i v h
  dsimp only [State.shadowRecord]
  simp (disch := decide) only [hother, hsame]
  exact ⟨rfl, trivial, rfl, rfl, Nat.mod_eq_of_lt x.2.2.isLt⟩

theorem Within.shadowRecord (s : State) (i item pass : Nat) (x : Nat × Nat × Word) (hi : i < 8192) :
    Within [.TBL_SHADOW_LOG] s (s.shadowRecord i item pass x) :=
  ((((Within.set s TBL_SHADOW_LOG.TYPE i _ (by decide) (by decide) hi).thenSet TBL_SHADOW_LOG.ITEM i _ (by decide) hi).thenSet
    TBL_SHADOW_LOG.ENTRY i _ (by decide) hi).thenSet TBL_SHADOW_LOG.WORD i _ (by decide) hi).thenSet TBL_SHADOW_LOG.PASS i _ (by decide) hi
    |>.thenSet TBL_SHADOW_LOG.DIFF i _ (by decide) hi

/-- What the end of a command shows of a mismatch `x` of `item` that the log had room for, in the state `s`. -/
structure ShadowLogged (s t : State) (n item : Nat) (x : Nat × Nat × Word) : Prop where
  count : t.get TBL_SHADOW_STATUS.LOG_COUNT n = s.get TBL_SHADOW_STATUS.LOG_COUNT n + 1
  mismatch : t.get TBL_SHADOW_STATUS.MISMATCH n = 1
  type : t.get TBL_SHADOW_LOG.TYPE (64 * n + s.get TBL_SHADOW_STATUS.LOG_COUNT n) = (shadowType item).1 % 4
  item : t.get TBL_SHADOW_LOG.ITEM (64 * n + s.get TBL_SHADOW_STATUS.LOG_COUNT n) = (shadowType item).2 % 2 ^ TBL_SHADOW_LOG.ITEM.width
  entry : t.get TBL_SHADOW_LOG.ENTRY (64 * n + s.get TBL_SHADOW_STATUS.LOG_COUNT n) = x.1 % 4
  word : t.get TBL_SHADOW_LOG.WORD (64 * n + s.get TBL_SHADOW_STATUS.LOG_COUNT n) = x.2.1 % 8
  diff : t.get TBL_SHADOW_LOG.DIFF (64 * n + s.get TBL_SHADOW_STATUS.LOG_COUNT n) = x.2.2.toNat
  status : t.get EVT_SRC.STATUS (113 + 8 * n) = 1
  cls : t.tbl.cls = s.tbl.cls

theorem shadowLogged_shadowLog (s : State) (item : Nat) (x : Nat × Nat × Word) (hn : n < 4) (hs : Settled s)
    (h : s.get TBL_SHADOW_STATUS.LOG_COUNT n < 64) : ShadowLogged s (s.shadowLog n item x).flushEvents n item x := by
  rw [shadowLog_room s item x h]
  generalize hc : s.get TBL_SHADOW_STATUS.LOG_COUNT n = c at h
  have hi : 64 * n + c < 8192 := by omega
  obtain ⟨htype, hitem, hentry, hword, hdiff⟩ := shadowRecord_get s (64 * n + c) item (s.get TBL_SHADOW_STATUS.PASS n) x hi
  have hraised : (s.shadowRecord (64 * n + c) item (s.get TBL_SHADOW_STATUS.PASS n) x).evt.raised = [] := hs
  have htbl : (s.shadowRecord (64 * n + c) item (s.get TBL_SHADOW_STATUS.PASS n) x).tbl = s.tbl := rfl
  generalize s.shadowRecord (64 * n + c) item (s.get TBL_SHADOW_STATUS.PASS n) x = u at *
  have hrecord (f : Field) (hf : (f.reg.early && f.fits) = true) (h1 : TBL_SHADOW_STATUS.LOG_COUNT.disjoint f = true)
      (h2 : TBL_SHADOW_STATUS.MISMATCH.disjoint f = true) :
      (((u.set TBL_SHADOW_STATUS.LOG_COUNT n (c + 1)).set TBL_SHADOW_STATUS.MISMATCH n 1).raise (113 + 8 * n) 3).flushEvents.get f (64 * n + c)
        = u.get f (64 * n + c) := by
    rw [flushEvents_get_early _ f _ hf hi, raise_get, get_set_disjoint _ h2 (by omega) hi, get_set_disjoint _ h1 (by omega) hi]
  constructor
  case count =>
    rw [flushEvents_get_early _ _ _ (by decide) (by omega), raise_get, get_set_disjoint _ (by decide) (by omega) (by omega), hc]
    exact get_set_eq u (by decide) (Nat.lt_of_lt_of_le (Nat.succ_lt_succ h) (by decide))
  case mismatch =>
    rw [flushEvents_get_early _ _ _ (by decide) (by omega), raise_get]
    exact get_set_eq _ (by decide) (by decide)
  case status =>
    refine raise_flushEvents_status _ ?_ (show 113 + 8 * n < 512 by omega) _ _ _ _
    exact hraised
  case cls => simp [htbl]
  all_goals rw [hc, hrecord _ (by decide) (by decide) (by decide)]; assumption

/-! ### A read fault (R80) -/

theorem exec_shadowDmaFault (n : Fin 4) (s : State) (h : s.get TBL_SHADOW_CTRL.STATE n ≠ 0) :
    exec (.shadowDmaFault n) s = finish (s.shadowFault n) := congrArg finish (if_neg (by simpa using h))

/-! ### The log emptied (R79) -/

theorem resetReg_word (s : State) (r : Reg) {i w : Nat} (hi : i < 8192) (hw : w < r.place.words) :
    (s.resetReg r i).word r i w = r.resetWord i w := by
  have h8 := words_le r
  refine forN_at (State.word · r i w) (fun w s => s.setWord r i w (r.resetWord i w)) r.place.words w hw _ (fun t => word_setWord_same t r i w _)
    (fun k hk hne t => ?_) s
  exact word_setWord_ne t r r i i k w _ hi hi (by omega) (by omega) fun h => hne h.2.2.symm

theorem resetReg_word_instance (s : State) (r : Reg) {i j w : Nat} (hi : i < 8192) (hj : j < 8192) (hw : w < 8) (hne : j ≠ i) :
    (s.resetReg r i).word r j w = s.word r j w := by
  have h8 := words_le r
  refine forN_holds (fun t => t.word r j w = s.word r j w) (fun w s => s.setWord r i w (r.resetWord i w)) r.place.words (fun k hk t ht => ?_) s rfl
  exact (word_setWord_ne t r r i j k w _ hi hj (by omega) hw fun h => hne h.2.1).trans ht

theorem shadowLogClr_word (s : State) (hn : n < 4) {j w : Nat} (hj : j < 64) (hw : w < 2) :
    (s.shadowLogClr n).word .TBL_SHADOW_LOG (64 * n + j) w = 0 :=
  forN_at (State.word · .TBL_SHADOW_LOG (64 * n + j) w) (fun j s => s.resetReg .TBL_SHADOW_LOG (64 * n + j)) 64 j hj 0
    (fun t => resetReg_word t .TBL_SHADOW_LOG (by omega) hw)
    (fun _ hk hne t => resetReg_word_instance t .TBL_SHADOW_LOG (by omega) (by omega) (by omega) fun h => hne (by omega)) _

theorem Within.shadowLogReset (s : State) (hn : n < 4) :
    Within [.TBL_SHADOW_LOG] s (s.forN 64 fun j s => s.resetReg .TBL_SHADOW_LOG (64 * n + j)) :=
  .forN s 64 _ fun k hk t => .resetReg t .TBL_SHADOW_LOG _ (by decide) (by omega)

theorem shadowLogClr_get (s : State) (hn : n < 4) {f : Field} (hf : f.reg ≠ .TBL_SHADOW_LOG) (hw : f.word < 8) :
    (s.shadowLogClr n).get f n = (s.set TBL_SHADOW_STATUS.LOG_COUNT n 0).get f n :=
  (Within.shadowLogReset _ hn).get f n (by simpa using hf) hw (by omega)

theorem shadowLogClr_noRegs (s : State) (n : Nat) : (s.shadowLogClr n).noRegs = s.noRegs :=
  forN_keeps State.noRegs _ (fun j t => resetReg_noRegs t .TBL_SHADOW_LOG (64 * n + j)) 64 (s.set TBL_SHADOW_STATUS.LOG_COUNT n 0)

theorem answers_shadowLogClr (n : Fin 4) (s : State) (hs : Settled s) : Answers (.shadowLogClr n) s fun t =>
    t.get TBL_SHADOW_STATUS.LOG_COUNT n = 0 ∧ (∀ j : Fin 64, t.word .TBL_SHADOW_LOG (64 * n + j) 0 = 0 ∧ t.word .TBL_SHADOW_LOG (64 * n + j) 1 = 0)
      ∧ t.get TBL_SHADOW_STATUS.POS n = s.get TBL_SHADOW_STATUS.POS n ∧ OnlyRegs s t := by
  have hregs := shadowLogClr_noRegs s n
  refine answers_of_exec_quiet (x := s.shadowLogClr n) rfl ?_ ⟨?_, fun j => ⟨?_, ?_⟩, ?_, onlyRegs_of_noRegs hregs⟩
  · rw [Settled, part_of_noRegs State.evt (fun _ => rfl) hregs]
    exact hs
  · rw [shadowLogClr_get s n.isLt (by decide) (by decide)]
    exact get_set_eq s (by decide) (by decide)
  · exact shadowLogClr_word s n.isLt j.isLt (by decide)
  · exact shadowLogClr_word s n.isLt j.isLt (by decide)
  · rw [shadowLogClr_get s n.isLt (by decide) (by decide)]
    exact get_set_disjoint s (by decide) (by omega) (by omega)

end Sys2Proof.Machine

namespace Sys2Proof

open Machine

/-- Settles O15: what each of the four commands leaves, by the state of the compare, the item's judgement and the room in the log. -/
theorem shadowCompareConfirmsAndLogs : Obligations.ShadowCompareConfirmsAndLogs := by
  unfold Obligations.ShadowCompareConfirmsAndLogs
  refine ⟨answers_shadowItemCompare, fun n read s w r hwaits => ?confirm, fun n s h => ?fault, answers_shadowLogClr⟩
  case confirm =>
    have hexec := exec_shadowConfirm n read s hwaits
    have hcount : (s.shadowReread n r).get TBL_SHADOW_STATUS.LOG_COUNT n = s.get TBL_SHADOW_STATUS.LOG_COUNT n :=
      shadowReread_get s r _ _ (by decide) (by decide) (by omega)
    refine ⟨fun hc => ends_of_exec hexec ?changed, fun hc hd => ends_of_exec hexec ?same, fun j k d hc hd hs => ⟨fun hroom => ?room, fun hfull => ?full⟩⟩
    case changed => exact if_pos hc
    case same => simp only [State.shadowJudge, hc, hd]; rfl
    case room =>
      have hlog : s.shadowJudge n w read (s.shadowReread n r) = (s.shadowReread n r).shadowLog n w.item (j, k, d) := by
        simp only [State.shadowJudge, hc, hd]; rfl
      have hshown := shadowLogged_shadowLog (s.shadowReread n r) w.item (j, k, d) n.isLt ((congrArg EvtState.raised (shadowReread_evt s r)).trans hs)
        (hcount.trans_lt hroom)
      obtain ⟨hcnt, hmis, htype, hitem, hentry, hword, hdiff, hstatus, hcls⟩ := hshown
      rw [hcount] at hcnt htype hitem hentry hword hdiff
      exact answers_of_exec (hexec.trans (congrArg finish hlog))
        ⟨hcnt, hmis, htype, hitem, hentry, hword, hdiff, hstatus, hcls.trans (shadowReread_cls s r)⟩
    case full =>
      refine ends_of_exec hexec ?_
      simp only [State.shadowJudge, hc, hd]
      exact shadowLog_full _ _ _ (hcount ▸ hfull)
  case fault => exact ends_of_exec (exec_shadowDmaFault n s h) rfl

end Sys2Proof
end

section
/-!
PROOFS. What a table command changes is lost: `State.tblDo` and `State.saGone` write `x.shadowSettle n s`, which takes `x`, the state that the
command has changed, for the old state and answers `s`, the state before the command. So an INSERT leaves its index empty, and a DELETE of an SA
leaves the SA where it was.
-/

namespace Sys2Proof.Machine

/-- Two answers of one command at one state are of one next state. -/
theorem answers_meet {c : Instr} {s : State} {P Q : State → Prop} (hp : Answers c s P) (hq : Answers c s Q) : ∃ t, P t ∧ Q t := by
  obtain ⟨t, hexec, ht⟩ := hp
  obtain ⟨u, hexec', hu⟩ := hq
  obtain rfl : t = u := Host.Outcome.next.inj (hexec.symm.trans hexec')
  exact ⟨t, ht, hu⟩

/-! ### An INSERT of an SC -/

/-- The SC of index 0 that the zeros staged at reset describe. -/
def blankSc : ScEntry := ScEntry.ofWords (State.reset.tblData 0 .mcu)

theorem reset_portFree : Settled State.reset ∧ State.reset.get TBL_STATUS.BUSY (tblIdx 0 .mcu) = 0 ∧ State.reset.tblPort 0 .host = .idle
    ∧ State.reset.mayWrite .mcu .TBL_CMD = true := by
  decide +kernel

/-- The staged words are legal, the index and IN_PORT lie in region 0, the index is free, and no key SC clashes. -/
theorem blankSc_insertable : scBad (State.reset.tblData 0 .mcu) = false ∧ blankSc.inPort / 8 = 0 ∧ State.reset.sc? 0 = none
    ∧ State.reset.keyScClash 0 blankSc = false := by
  decide +kernel

theorem insertedSc_lost : Answers (.tblInsert 0 .mcu 1 0 false) State.reset fun t => t.sc? 0 = none :=
  answers_of_exec rfl (by decide +kernel)

/-! ### A DELETE of an SA -/

/-- An SA in RETIRING under DELETE that holds no reference. -/
def leavingSa : SaEntry :=
  { en := false, state := 2, life := 3, early := false, modeProg := 0, kcv := 0, pn := 1, ssci := 0, softLimit := 0, refs := 0, leaseEnd := 0
    rx := false, deleting := true, softSeen := false }

/-- The SA at index 0, of an SC that no entry describes. -/
def leavingState : State := State.reset.putSa 0 (some leavingSa)

theorem leavingState_ready : Settled leavingState ∧ leavingState.sa? 0 = some leavingSa ∧ leavingState.wiping 0 = false
    ∧ leavingState.get GLB_FRESET_STATUS.BUSY = 0 ∧ leavingState.sc? (scOfSa 0) = none ∧ leavingState.mtl.mirrorHeld = none := by
  decide +kernel

theorem deletedSa_stays : Answers (.saRetireDone 0) leavingState fun t => t.sa? 0 = some leavingSa :=
  answers_of_exec rfl (by decide +kernel)

end Sys2Proof.Machine

namespace Sys2Proof

open Machine

/-- Refutes O12: TBL_INSERT of an SC at reset, by the MCU and with zeros staged, leaves its index empty (R41, R60). -/
theorem not_tableCommandsActOnTheirEntry : ¬ Obligations.TableCommandsActOnTheirEntry := by
  unfold Obligations.TableCommandsActOnTheirEntry
  rintro ⟨hcommands, -⟩
  obtain ⟨hsettled, hbusy, hidle, hmay⟩ := reset_portFree
  obtain ⟨hlegal, hport, hfree, hclash⟩ := blankSc_insertable
  obtain ⟨hinsert, -⟩ := hcommands 0 .mcu 0 State.reset hsettled hbusy hidle nofun hmay
  obtain ⟨t, ⟨hsc, -⟩, hlost⟩ := answers_meet (hinsert hlegal rfl hport hfree hclash) insertedSc_lost
  exact Option.some_ne_none _ (hsc.symm.trans hlost)

/-- Refutes O13: SA_RETIRE_DONE of an SA under DELETE that holds no reference leaves the SA in its entry (R49, R62). -/
theorem not_tableCommandsAndSaLivesEnd : ¬ Obligations.TableCommandsAndSaLivesEnd := by
  unfold Obligations.TableCommandsAndSaLivesEnd
  rintro ⟨-, hretire, -⟩
  obtain ⟨hsettled, hsa, hwiping, hfree, hsc, hmirror⟩ := leavingState_ready
  obtain ⟨hdelete, -⟩ := hretire 0 leavingState leavingSa hsa rfl rfl hwiping hfree
  have hdone := hdelete rfl hsettled (fun c hc => absurd (hsc.symm.trans hc) (Option.some_ne_none c).symm)
    fun hheld => absurd (hmirror.symm.trans hheld) (Option.some_ne_none _).symm
  obtain ⟨t, ⟨hgone, -⟩, hstays⟩ := answers_meet hdone deletedSa_stays
  exact Option.some_ne_none _ (hstays.symm.trans hgone)

end Sys2Proof
end

section
/-!
PROOFS. A frame numbered under an SA of an SC whose CUR_AN exceeds its two bits: crossing the soft limit writes `SAT_PN_STATUS` of a region
that does not exist, and the model's register file has EXPRESS of the frame's own port there.
-/

namespace Sys2Proof.Machine

/-- The region of which `SAT_PN_STATUS` lies, in the register file, where `CPX_PORT_CTRL` of client port 0 lies. -/
def astrayRegion : Nat := (Reg.CPX_PORT_CTRL.ctorIdx - Reg.SAT_PN_STATUS.ctorIdx) * 8192

/-- An SA of that region; bit 6 of its index is set, where `CPX_PORT_CTRL` has EXPRESS. -/
def astraySa : Nat := 16384 * astrayRegion + 64

/-- A TX SC of Ethernet mode, index 0, whose CUR_AN names that SA. -/
def astraySc : ScEntry := { ScEntry.ofWords [] with state := 1, curAn := astraySa }

/-- The SA: ACTIVE, with its next PN at its soft limit and within its lease. -/
def astrayEntry : SaEntry :=
  { en := true, state := 1, life := 1, early := false, modeProg := 0, kcv := 0, pn := 1, ssci := 0, softLimit := 1, refs := 0, leaseEnd := 1
    rx := false, deleting := false, softSeen := false }

/-- A frame of client port 0 in class 7 under the SC. -/
def astrayItem : Item := { cls := 7, scFields := some astraySc }

/-- Engine 0 of region 0 in rotation, keystream ahead off, and the frame first at its sequencer. -/
def astrayState : State :=
  (((((State.reset.putSc 0 (some astraySc)).putSa astraySa (some astrayEntry)).keyInstall astraySa (.mk0 0 1 0 true [] 0)).set
    FEN_POD_CTRL.ENG_MASK 0 1).set FEN_KSA_CTRL.EN 0 0).onSeq 0 fun x => { x with fifo := [astrayItem] }

theorem astrayState_first : Settled astrayState ∧ (astrayState.seq 0).redo = [] ∧ (astrayState.seq 0).dev = [] ∧ astrayState.path.holds = []
    ∧ (astrayState.seq 0).fifo = [astrayItem] ∧ astrayState.classHeld astrayItem = false ∧ astrayState.isLibero = false
    ∧ astrayState.isExpress astrayItem = false := by
  decide +kernel

theorem astrayState_binds : astrayState.sc? astrayItem.sc = some astraySc
    ∧ astrayState.saBinds (4 * astrayItem.sc + astraySc.curAn) astraySc.suite = true
    ∧ astrayState.sa? (4 * astrayItem.sc + astraySc.curAn) = some astrayEntry := by
  decide +kernel

theorem astrayState_engine : astrayState.readyEngine 0 0 false = some 0 ∧ astrayState.ksaOn 0 = false ∧ astrayState.eng 0 = {} := by
  decide +kernel

/-- The frame leaves by the express inbox: the normal inbox of the engine stays empty. -/
theorem astray_express : Answers (.sequencerDispatch 0 0) astrayState fun t => (t.eng 0).inboxN = [] :=
  answers_of_exec rfl (by decide +kernel)

end Sys2Proof.Machine

namespace Sys2Proof

open Machine

/-- Refutes O17: the clause on a protected transmit frame fails for an SC whose CUR_AN exceeds its two bits, which the statement does not
exclude; the soft limit of the SA then sets EXPRESS of the frame's own port, and the frame goes to the engine's express inbox. -/
theorem not_dispatchTakesThePnAndReleaseKeepsOrder : ¬ Obligations.DispatchTakesThePnAndReleaseKeepsOrder := by
  unfold Obligations.DispatchTakesThePnAndReleaseKeepsOrder
  rintro ⟨-, hnumbers, -⟩
  obtain ⟨hsettled, hredo, hdev, hholds, hfifo, hclass, hlibero, hexpress⟩ := astrayState_first
  obtain ⟨hsc, hbinds, hsa⟩ := astrayState_binds
  obtain ⟨hready, hksa, heng⟩ := astrayState_engine
  have hstalls (x : Nat) : (astrayState.thr 0 x).stalled = false := congrArg (fun e : Engine => (e.threads.get x {}).stalled) heng
  have hanswer := hnumbers 0 0 astrayState astrayItem [] astraySc astraySc astrayEntry 0 hsettled hredo hdev hholds hfifo rfl (by decide) rfl rfl
    rfl hclass hlibero (Or.inl (by decide)) hexpress hready hsc hbinds hsa rfl (by decide) (by decide) hksa hstalls
  obtain ⟨t, ⟨-, -, -, -, -, w, hinbox, -⟩, hempty⟩ := answers_meet hanswer astray_express
  exact List.append_ne_nil_of_right_ne_nil _ (List.cons_ne_nil w []) (hinbox.symm.trans hempty)

end Sys2Proof
end

section
/-!
PROOFS. The threads of an engine (Tables 3-1, 3-4): what a write of a register, of the program counter or of the work item leaves of the
thread, and that it leaves everything else; when an instruction issues, faults or does nothing.
-/

namespace Sys2Proof.Machine

/-! ### Threads -/

@[simp] theorem onThr_thr_same (s : State) (g t : Nat) (f : Thread → Thread) : (s.onThr g t f).thr g t = f (s.thr g t) := by
  simp [State.onThr, State.thr]

theorem onThr_thr_ne (s : State) (g : Nat) {t x : Nat} (f : Thread → Thread) (h : x ≠ t) : (s.onThr g t f).thr g x = s.thr g x := by
  simp [State.onThr, State.thr, h]

theorem onThr_eng_same (s : State) (g t : Nat) (f : Thread → Thread) :
    (s.onThr g t f).eng g = { s.eng g with threads := (s.eng g).threads.set t (f (s.thr g t)) {} } := onEng_eng_same s g _

@[simp] theorem onThr_evt (s : State) (g t : Nat) (f : Thread → Thread) : (s.onThr g t f).evt = s.evt := rfl
@[simp] theorem onThr_get (s : State) (g t : Nat) (f : Thread → Thread) (x : Field) (i : Nat) : (s.onThr g t f).get x i = s.get x i := rfl
@[simp] theorem nextPc_evt (s : State) (g t : Nat) : (s.nextPc g t).evt = s.evt := rfl
@[simp] theorem setBreg_evt (s : State) (g t r : Nat) (v : Block) : (s.setBreg g t r v).evt = s.evt := rfl

@[simp] theorem setEreg_evt (s : State) (g t r : Nat) (v : Word) : (s.setEreg g t r v).evt = s.evt := by
  unfold State.setEreg
  split <;> rfl

/-- An update of a thread that leaves its integer registers. -/
theorem ereg_onThr (s : State) (g t : Nat) {f : Thread → Thread} (hf : ∀ x, (f x).e = x.e) (r : Nat) :
    (s.onThr g t f).ereg g t r = s.ereg g t r := by
  simp [State.ereg, hf]

/-- An update of a thread that leaves its block registers. -/
theorem breg_onThr (s : State) (g t : Nat) {f : Thread → Thread} (hf : ∀ x, (f x).b = x.b) (r : Nat) :
    (s.onThr g t f).breg g t r = s.breg g t r := by
  simp [State.breg, hf]

@[simp] theorem nextPc_ereg (s : State) (g t r : Nat) : (s.nextPc g t).ereg g t r = s.ereg g t r := ereg_onThr s g t (fun _ => by rfl) r
@[simp] theorem nextPc_breg (s : State) (g t r : Nat) : (s.nextPc g t).breg g t r = s.breg g t r := breg_onThr s g t (fun _ => by rfl) r
@[simp] theorem nextPc_pc (s : State) (g t : Nat) : ((s.nextPc g t).thr g t).pc = ((s.thr g t).pc + 4) % 2 ^ 64 := by simp [State.nextPc]
@[simp] theorem nextPc_work (s : State) (g t : Nat) : ((s.nextPc g t).thr g t).work = (s.thr g t).work := by simp [State.nextPc]

/-- Writing an integer register leaves the rest of its thread. -/
theorem setEreg_thr (s : State) (g t r : Nat) (v : Word) : ∃ e, (s.setEreg g t r v).thr g t = { s.thr g t with e := e } := by
  unfold State.setEreg
  split
  · exact ⟨_, rfl⟩
  · exact ⟨_, onThr_thr_same s g t _⟩

@[simp] theorem setEreg_pc (s : State) (g t r : Nat) (v : Word) : ((s.setEreg g t r v).thr g t).pc = (s.thr g t).pc := by
  obtain ⟨e, h⟩ := setEreg_thr s g t r v
  rw [h]

@[simp] theorem setEreg_work (s : State) (g t r : Nat) (v : Word) : ((s.setEreg g t r v).thr g t).work = (s.thr g t).work := by
  obtain ⟨e, h⟩ := setEreg_thr s g t r v
  rw [h]

@[simp] theorem setEreg_breg (s : State) (g t r : Nat) (v : Word) (k : Nat) : (s.setEreg g t r v).breg g t k = s.breg g t k := by
  obtain ⟨e, h⟩ := setEreg_thr s g t r v
  rw [State.breg, h, State.breg]

/-- An integer register reads as it was written; e0 reads 0. -/
theorem setEreg_ereg_same (s : State) (g t r : Nat) (v : Word) : (s.setEreg g t r v).ereg g t r = if r = 0 then 0 else v := by
  unfold State.setEreg State.ereg
  by_cases h : r = 0 <;> simp [h]

/-- Every other integer register reads as before. -/
theorem setEreg_ereg_ne (s : State) (g t : Nat) {r k : Nat} (v : Word) (h : k ≠ r) : (s.setEreg g t r v).ereg g t k = s.ereg g t k := by
  unfold State.setEreg State.ereg
  by_cases hr : r = 0 <;> simp [hr, h]

@[simp] theorem setBreg_breg_same (s : State) (g t r : Nat) (v : Block) : (s.setBreg g t r v).breg g t r = v := by
  simp [State.setBreg, State.breg]

theorem setBreg_breg_ne (s : State) (g t : Nat) {r k : Nat} (v : Block) (h : k ≠ r) : (s.setBreg g t r v).breg g t k = s.breg g t k := by
  simp [State.setBreg, State.breg, h]

@[simp] theorem setBreg_ereg (s : State) (g t r : Nat) (v : Block) (k : Nat) : (s.setBreg g t r v).ereg g t k = s.ereg g t k :=
  ereg_onThr s g t (fun _ => by rfl) k

@[simp] theorem setBreg_pc (s : State) (g t r : Nat) (v : Block) : ((s.setBreg g t r v).thr g t).pc = (s.thr g t).pc := by
  simp [State.setBreg]

@[simp] theorem setBreg_work (s : State) (g t r : Nat) (v : Block) : ((s.setBreg g t r v).thr g t).work = (s.thr g t).work := by
  simp [State.setBreg]

/-! ### One thread alone -/

theorem onlyThread_refl (g t : Nat) (s : State) : OnlyThread g t s s := ⟨rfl, rfl, fun _ _ => rfl, fun _ _ => rfl, rfl⟩

theorem onlyThread_trans {g t : Nat} {s u v : State} (h : OnlyThread g t s u) (k : OnlyThread g t u v) : OnlyThread g t s v := by
  obtain ⟨hs, hf, he, ht, hg⟩ := h
  obtain ⟨ks, kf, ke, kt, kg⟩ := k
  refine ⟨?_, ?_, fun x hx => (ke x hx).trans (he x hx), fun x hx => (kt x hx).trans (ht x hx), ?_⟩
  · rw [← hs, ← ks]
  · rw [← hf, ← kf]
  · rw [← hg, ← kg]

theorem onlyThread_onThr (s : State) (g t : Nat) (f : Thread → Thread) : OnlyThread g t s (s.onThr g t f) :=
  ⟨rfl, rfl, fun _ hx => onEng_eng_ne s _ hx, fun _ hx => onThr_thr_ne s g f hx, by rw [onThr_eng_same]⟩

theorem onlyThread_setEreg (s : State) (g t r : Nat) (v : Word) : OnlyThread g t s (s.setEreg g t r v) := by
  unfold State.setEreg
  split
  · exact onlyThread_refl g t s
  · exact onlyThread_onThr s g t _

/-- An instruction that writes an integer register and moves on. -/
theorem writesE_setEreg (s : State) (g t r : Nat) (v : Word) : WritesE g t r v s ((s.setEreg g t r v).nextPc g t) := by
  refine ⟨?_, fun k hk => ?_, fun k => ?_, ?_, ?_, onlyThread_trans (onlyThread_setEreg s g t r v) (onlyThread_onThr _ g t _)⟩
  · rw [nextPc_ereg, setEreg_ereg_same]
  · rw [nextPc_ereg, setEreg_ereg_ne s g t v hk]
  · rw [nextPc_breg, setEreg_breg]
  · rw [nextPc_pc, setEreg_pc]
  · rw [nextPc_work, setEreg_work]

/-- An instruction that writes a block register and moves on. -/
theorem writesB_setBreg (s : State) (g t r : Nat) (v : Block) : WritesB g t r v s ((s.setBreg g t r v).nextPc g t) := by
  refine ⟨?_, fun k hk => ?_, fun k => ?_, ?_, ?_, onlyThread_trans (onlyThread_onThr s g t _) (onlyThread_onThr _ g t _)⟩
  · rw [nextPc_breg, setBreg_breg_same]
  · rw [nextPc_breg, setBreg_breg_ne s g t v hk]
  · rw [nextPc_ereg, setBreg_ereg]
  · rw [nextPc_pc, setBreg_pc]
  · rw [nextPc_work, setBreg_work]

/-- An update of the program counter alone. -/
theorem jumpsTo_onThr (s : State) (g t : Nat) (pc : Thread → Nat) :
    JumpsTo g t (pc (s.thr g t)) s (s.onThr g t fun x => { x with pc := pc x }) := by
  refine ⟨?_, ereg_onThr s g t fun _ => rfl, breg_onThr s g t fun _ => rfl, ?_, onlyThread_onThr s g t _⟩
  all_goals rw [onThr_thr_same]

theorem jumpsTo_nextPc (s : State) (g t : Nat) : JumpsTo g t (((s.thr g t).pc + 4) % 2 ^ 64) s (s.nextPc g t) :=
  jumpsTo_onThr s g t fun x => (x.pc + 4) % 2 ^ 64

/-! ### Issue -/

theorem issues_of {s : State} {g t : Nat} (hon : s.get FEN_ENG.STATE g ≠ 0) (hrun : (s.thr g t).stalled = false) : s.issues g t = true := by
  simp [State.issues, hon, hrun]

theorem not_issues_of {s : State} {g t : Nat} (h : s.get FEN_ENG.STATE g = 0 ∨ (s.thr g t).stalled = true) : s.issues g t = false := by
  rcases h with h | h <;> simp [State.issues, h]

section issue
variable {s : State} {g t : Nat} {f : State → State}

theorem legal_issues (h : s.issues g t = true) : s.legal g t false f = f s := by simp [State.legal, h]
theorem legal_illegal (h : s.issues g t = true) : s.legal g t true f = s.progFault g t 1 := by simp [State.legal, h]
theorem legal_idle (h : s.issues g t = false) (bad : Bool) : s.legal g t bad f = s := by simp [State.legal, h]

theorem eBad_of_lt {r : Nat} (h : r < 30) : eBad r = false := by simp [eBad, h]
theorem eBad_of_ge {r : Nat} (h : 30 ≤ r) : eBad r = true := by simp [eBad, h]
theorem bBad_of_lt {r : Nat} (h : r < 16) : bBad r = false := by simp [bBad, h]
theorem bBad_of_ge {r : Nat} (h : 16 ≤ r) : bBad r = true := by simp [bBad, h]

end issue

/-! ### Instructions of one result -/

section result
variable {s : State} {g t : Nat} {c : Instr}

/-- An instruction whose operands are legal, on a thread that issues. -/
theorem answers_legal {bad : Bool} {f : State → State} {P : State → Prop} (hs : Settled s) (hi : s.issues g t = true)
    (hc : exec c s = finish (s.legal g t bad f)) (hbad : bad = false) (hf : (f s).evt = s.evt) (hP : P (f s)) : Answers c s P := by
  subst hbad
  rw [legal_issues hi] at hc
  exact answers_of_exec_quiet hc ((congrArg EvtState.raised hf).trans hs) hP

/-- An instruction whose operands are illegal. -/
theorem ends_illegal {bad : Bool} {f : State → State} (hi : s.issues g t = true) (hc : exec c s = finish (s.legal g t bad f))
    (hbad : bad = true) : Ends c s (s.progFault g t 1) := by
  subst hbad
  exact ends_of_exec hc (legal_illegal hi)

variable {r : Nat}

/-- An instruction with one integer result. -/
theorem answers_toE {v : Word} (hs : Settled s) (hi : s.issues g t = true) (hr : r < 30) (hc : exec c s = finish (s.toE g t r v)) :
    Answers c s (WritesE g t r v s) :=
  answers_legal hs hi hc (eBad_of_lt hr) (by simp) (writesE_setEreg s g t r v)

theorem ends_toE_illegal {v : Word} (hi : s.issues g t = true) (hr : 30 ≤ r) (hc : exec c s = finish (s.toE g t r v)) :
    Ends c s (s.progFault g t 1) := ends_illegal hi hc (eBad_of_ge hr)

theorem ends_toE_idle {v : Word} (hi : s.issues g t = false) (hc : exec c s = finish (s.toE g t r v)) : Ends c s s :=
  ends_of_exec hc (legal_idle hi _)

/-- An instruction with one block as its result. -/
theorem answers_toB {bad : Bool} {v : Block} (hs : Settled s) (hi : s.issues g t = true) (hr : r < 16) (hbad : bad = false)
    (hc : exec c s = finish (s.toB g t r bad v)) : Answers c s (WritesB g t r v s) :=
  answers_legal hs hi hc (by rw [bBad_of_lt hr, hbad]; rfl) rfl (writesB_setBreg s g t r v)

theorem ends_toB_illegal {bad : Bool} {v : Block} (hi : s.issues g t = true) (hr : 16 ≤ r) (hc : exec c s = finish (s.toB g t r bad v)) :
    Ends c s (s.progFault g t 1) := ends_illegal hi hc (by rw [bBad_of_ge hr]; rfl)

end result

end Sys2Proof.Machine
end

section
/-!
PROOFS. The integer instructions, the branches and the jumps of the engines (R87, Table 3-5).
-/

namespace Sys2Proof.Machine

/-- Where a jump by a signed number of instructions goes from a program counter. -/
def branchTarget (off : Word) (pc : Nat) : Nat := (BitVec.ofNat 64 (pc + if Config.branchFromNext then 4 else 0) + off <<< 2).toNat

theorem jumpsTo_jumpBy (s : State) (g t : Nat) (off : Word) : JumpsTo g t (branchTarget off (s.thr g t).pc) s (s.jumpBy g t off) :=
  jumpsTo_onThr s g t fun x => branchTarget off x.pc

/-- R87: a branch on a thread that issues goes to its target or to the next instruction. -/
theorem answers_branch {s : State} {g t : Nat} {c : Instr} {taken : Bool} {imm : BitVec 16} (hs : Settled s) (hi : s.issues g t = true)
    (hc : exec c s = finish (s.branch g t taken imm)) :
    Answers c s (JumpsTo g t (if taken then branchTarget (imm.signExtend 64) (s.thr g t).pc else ((s.thr g t).pc + 4) % 2 ^ 64) s) := by
  rw [State.branch, if_pos hi] at hc
  cases taken with
  | true => exact answers_of_exec_quiet hc hs (jumpsTo_jumpBy s g t _)
  | false => exact answers_of_exec_quiet hc hs (jumpsTo_nextPc s g t)

/-- A call leaves its link in e28 and jumps. -/
theorem jumpBy_setEreg (s : State) (g t : Nat) (link off : Word) :
    let u := (s.setEreg g t 28 link).jumpBy g t off
    (u.thr g t).pc = branchTarget off (s.thr g t).pc ∧ u.ereg g t 28 = link ∧ (∀ r, r ≠ 28 → u.ereg g t r = s.ereg g t r)
      ∧ OnlyThread g t s u := by
  obtain ⟨hpc, hereg, -, -, honly⟩ := jumpsTo_jumpBy (s.setEreg g t 28 link) g t off
  refine ⟨hpc.trans (by rw [setEreg_pc]), ?_, fun r hr => ?_, onlyThread_trans (onlyThread_setEreg s g t 28 link) honly⟩
  · exact (hereg 28).trans (setEreg_ereg_same s g t 28 link)
  · exact (hereg r).trans (setEreg_ereg_ne s g t link hr)

end Sys2Proof.Machine

namespace Sys2Proof

open Machine

/-- Settles O19: each integer instruction is `State.toE` of its result, each branch `State.branch` of its comparison. -/
theorem integerInstructionsWriteOneRegister : Obligations.IntegerInstructionsWriteOneRegister := by
  unfold Obligations.IntegerInstructionsWriteOneRegister
  intro g t rd rs1 rs2 imm s a b forms shifts
  have hforms : ∀ f ∈ forms, exec f.1 s = finish (s.toE g t rd f.2) := by
    simp only [forms, List.forall_mem_cons, List.not_mem_nil, false_imp_iff, implies_true, and_true]
    exact ⟨rfl, rfl, rfl, rfl, rfl, rfl, rfl, rfl, rfl, rfl, rfl, rfl⟩
  have hshifts : ∀ f ∈ shifts, ∃ op, exec f.1 s = finish (s.toE g t rd (if b.toNat < 64 then f.2 else Config.shiftWide op a b)) := by
    simp only [shifts, List.forall_mem_cons, List.not_mem_nil, false_imp_iff, implies_true, and_true]
    exact ⟨⟨0, rfl⟩, ⟨1, rfl⟩, ⟨2, rfl⟩, ⟨3, rfl⟩⟩
  have hresult : ∀ f ∈ forms ++ shifts, ∃ v, exec f.1 s = finish (s.toE g t rd v) := fun f hf =>
    (List.mem_append.mp hf).elim (fun h => ⟨_, hforms f h⟩) fun h => (hshifts f h).elim fun _ hop => ⟨_, hop⟩
  refine ⟨fun hs hon hrun hrd => ⟨fun f hf => ?form, fun hb f hf => ?shift⟩, fun hon hrun hrd f hf => ?illegal,
    fun hidle f hf => ?idle, ?jumps⟩
  case form => exact answers_toE hs (issues_of hon hrun) hrd (hforms f hf)
  case shift =>
    obtain ⟨op, hop⟩ := hshifts f hf
    rw [if_pos hb] at hop
    exact answers_toE hs (issues_of hon hrun) hrd hop
  case illegal =>
    obtain ⟨v, hv⟩ := hresult f hf
    exact ends_toE_illegal (issues_of hon hrun) hrd hv
  case idle =>
    obtain ⟨v, hv⟩ := hresult f hf
    exact ends_toE_idle (not_issues_of hidle) hv
  case jumps =>
    intro hs hon hrun off x pc target less
    have hi := issues_of hon hrun
    have hne : (x != a) = decide (x ≠ a) := decide_not.symm
    refine ⟨?_, answers_legal hs hi rfl rfl rfl (jumpsTo_onThr s g t fun _ => a.toNat),
      answers_legal hs hi rfl rfl (setEreg_evt s g t 28 (BitVec.ofNat 64 (pc + 4))) (jumpBy_setEreg s g t _ _)⟩
    simp only [List.forall_mem_cons, List.not_mem_nil, false_imp_iff, implies_true, and_true]
    exact ⟨answers_branch hs hi rfl, answers_branch hs hi (congrArg (fun b => finish (s.branch g t b imm)) hne),
      answers_branch hs hi rfl, answers_branch hs hi rfl⟩

end Sys2Proof
end

section
/-!
PROOFS. The memory instructions of the engines (R91): data memory, the program's code and the frame window.
-/

namespace Sys2Proof.Machine

/-! ### Data memory -/

/-- One more update of a numbered sequence. -/
theorem forN_succ (s : State) (n : Nat) (f : Nat → State → State) : s.forN (n + 1) f = f n (s.forN n f) := by
  simp [State.forN, List.range_succ]

@[simp] theorem dataBytes_length (n v : Nat) : (dataBytes n v).length = n := by
  unfold dataBytes
  split <;> simp [leBytes, beBytes]

/-- A byte of data memory after a store: of the stored ones within their range, else as before. -/
theorem dmemWrite_byte (s : State) (g a : Nat) (l : List Byte) (x : Nat) : ((s.dmemWrite g a l).eng g).dmem.get x 0 =
    if a ≤ x ∧ x < a + l.length then l.getD (x - a) 0 else (s.eng g).dmem.get x 0 := by
  have hprefix (n : Nat) : ((s.forN n fun i s => s.onEng g fun e => { e with dmem := e.dmem.set (a + i) (l.getD i 0) 0 }).eng g).dmem.get x 0
      = if a ≤ x ∧ x < a + n then l.getD (x - a) 0 else (s.eng g).dmem.get x 0 := by
    induction n with
    | zero => rw [if_neg (by omega)]; rfl
    | succ n ih =>
      rw [forN_succ, onEng_eng_same]
      by_cases hx : x = a + n
      · subst hx
        simp
      · rw [KMap.get_set_ne _ _ _ _ _ _ hx, ih]
        exact if_congr (by omega) rfl rfl
  exact hprefix l.length

/-- What is stored is read back. -/
theorem dmemRead_dmemWrite_same (s : State) (g a : Nat) (l : List Byte) : (s.dmemWrite g a l).dmemRead g a l.length = l := by
  refine List.ext_getElem (by simp [State.dmemRead]) fun i hi hl => ?_
  simp only [State.dmemRead, List.getElem_map, List.getElem_range]
  rw [dmemWrite_byte, if_pos (by omega), Nat.add_sub_cancel_left, List.getD_eq_getElem l 0 hl]

/-- Every byte outside a store reads as before. -/
theorem dmemRead_dmemWrite_ne (s : State) (g a : Nat) (l : List Byte) {x : Nat} (h : x < a ∨ a + l.length ≤ x) :
    (s.dmemWrite g a l).dmemRead g x 1 = s.dmemRead g x 1 := by
  refine List.map_congr_left fun i hi => ?_
  have hzero : i = 0 := by simpa using hi
  rw [dmemWrite_byte, if_neg (by omega)]

/-- A store changes the data memory of its engine alone. -/
theorem dmemWrite_keeps {β : Type} (p : State → β) (s : State) (g a : Nat) (l : List Byte)
    (hp : ∀ (u : State) d, p (u.onEng g fun e => { e with dmem := d }) = p u) : p (s.dmemWrite g a l) = p s :=
  forN_keeps p _ (fun _ u => hp u _) l.length s

@[simp] theorem dmemWrite_thr (s : State) (g a : Nat) (l : List Byte) (t : Nat) : (s.dmemWrite g a l).thr g t = s.thr g t :=
  dmemWrite_keeps (State.thr · g t) s g a l fun u d => by rw [State.thr, onEng_eng_same, State.thr]

@[simp] theorem nextPc_dmemRead (s : State) (g t a n : Nat) : (s.nextPc g t).dmemRead g a n = s.dmemRead g a n := by
  simp [State.dmemRead, State.nextPc, onThr_eng_same]

/-- A store that moves on. -/
theorem dmemWrite_nextPc (s : State) (g t a : Nat) (l : List Byte) :
    let u := (s.dmemWrite g a l).nextPc g t
    u.dmemRead g a l.length = l ∧ (∀ x, (x < a ∨ a + l.length ≤ x) → u.dmemRead g x 1 = s.dmemRead g x 1)
      ∧ (∀ r, u.ereg g t r = s.ereg g t r) ∧ (u.thr g t).pc = ((s.thr g t).pc + 4) % 2 ^ 64 ∧ { u with fen := s.fen } = s := by
  refine ⟨?_, fun x hx => ?_, fun r => ?_, ?_, ?_⟩
  · rw [nextPc_dmemRead, dmemRead_dmemWrite_same]
  · rw [nextPc_dmemRead, dmemRead_dmemWrite_ne s g a l hx]
  · rw [nextPc_ereg, State.ereg, dmemWrite_thr, State.ereg]
  · rw [nextPc_pc, dmemWrite_thr]
  · exact dmemWrite_keeps (fun u => { u with fen := s.fen }) s g a l fun _ _ => rfl

/-- R478: an access without error of a data bank that is ON. -/
theorem dataAccess_ok {s : State} {g : Nat} (t : Nat) (f : State → State) (h : s.bankState (s.dataBank (g / 48)) = 0) :
    s.dataAccess g t .ok f = (f s).nextPc g t := by
  rw [State.dataAccess]
  dsimp only
  rw [h]
  rfl

/-! ### The frame window -/

theorem windowAccess_inside {s : State} {g t a n : Nat} (f : State → State) (h : a + n ≤ (s.window g t).length) :
    s.windowAccess g t a n false f = (f s).nextPc g t := by
  rw [State.windowAccess, if_neg (by omega)]
  rfl

theorem windowAccess_outside {s : State} {g t a n : Nat} (f : State → State) (h : (s.window g t).length < a + n) :
    s.windowAccess g t a n false f = s.progFault g t 3 := if_pos h

/-- A store to the frame window that moves on. -/
theorem putWindow_nextPc (s : State) (g t a : Nat) (l : List Byte) (hw : (s.thr g t).work ≠ none) :
    let u := (s.putWindow g t a l).nextPc g t
    u.window g t = (s.window g t).take a ++ l ++ (s.window g t).drop (a + l.length) ∧ (∀ r, u.ereg g t r = s.ereg g t r)
      ∧ (∀ r, u.breg g t r = s.breg g t r) ∧ OnlyThread g t s u := by
  refine ⟨?_, fun r => ?_, fun r => ?_, onlyThread_trans (onlyThread_onThr s g t _) (onlyThread_onThr _ g t _)⟩
  · obtain ⟨w, hw⟩ := Option.ne_none_iff_exists'.mp hw
    simp [State.window, State.putWindow, hw]
  · rw [nextPc_ereg]
    exact ereg_onThr s g t (fun _ => by rfl) r
  · rw [nextPc_breg]
    exact breg_onThr s g t (fun _ => by rfl) r

@[simp] theorem frameBytes_length (b : Block) : (frameBytes b).length = 16 := by
  unfold frameBytes
  split <;> simp [leBytes, beBytes]

/-! ### Instructions -/

section access
variable {s : State} {g t : Nat} {c : Instr}

/-- An access of data memory outside its areas. -/
theorem ends_outsideMemory {bad inside : Bool} {f : State → State} (hi : s.issues g t = true) (hbad : bad = false)
    (hc : exec c s = finish (s.legal g t bad fun s => if inside then f s else s.progFault g t 2)) (hout : inside = false) :
    Ends c s (s.progFault g t 2) := by
  subst hbad hout
  exact ends_of_exec hc (legal_issues hi)

/-- An access of the frame window outside the item. -/
theorem ends_outsideWindow {bad : Bool} {a n : Nat} {f : State → State} (hi : s.issues g t = true) (hbad : bad = false)
    (hc : exec c s = finish (s.legal g t bad fun s => s.windowAccess g t a n false f)) (hout : (s.window g t).length < a + n) :
    Ends c s (s.progFault g t 3) := by
  subst hbad
  exact ends_of_exec hc ((legal_issues hi).trans (windowAccess_outside f hout))

/-- An access of data memory within its areas, in a bank that is ON. -/
theorem answers_insideMemory {bad inside : Bool} {f : State → State} {P : State → Prop} (hs : Settled s) (hi : s.issues g t = true)
    (hbad : bad = false) (hon : s.bankState (s.dataBank (g / 48)) = 0)
    (hc : exec c s = finish (s.legal g t bad fun s => if inside then s.dataAccess g t .ok f else s.progFault g t 2)) (hin : inside = true)
    (hf : (f s).evt = s.evt) (hP : P ((f s).nextPc g t)) : Answers c s P := by
  subst hbad hin
  rw [legal_issues hi, if_pos rfl, dataAccess_ok t f hon] at hc
  exact answers_of_exec_quiet hc ((congrArg EvtState.raised hf).trans hs) hP

/-- An access of the frame window within the item. -/
theorem answers_insideWindow {bad : Bool} {a n : Nat} {f : State → State} {P : State → Prop} (hs : Settled s) (hi : s.issues g t = true)
    (hbad : bad = false) (hc : exec c s = finish (s.legal g t bad fun s => s.windowAccess g t a n false f))
    (hin : a + n ≤ (s.window g t).length) (hf : (f s).evt = s.evt) (hP : P ((f s).nextPc g t)) : Answers c s P := by
  subst hbad
  rw [legal_issues hi, windowAccess_inside f hin] at hc
  exact answers_of_exec_quiet hc ((congrArg EvtState.raised hf).trans hs) hP

end access

/-- R91: LDC within the program's code. -/
theorem answers_ldc {s : State} {g : Fin 192} {t : Fin 4} {rd : Fin 32} {imm : BitVec 16} {p : ModeProg} (hs : Settled s)
    (hi : s.issues g t = true) (hrd : rd.val < 30) (hp : s.thrProg g t = some p)
    (hin : (Config.ldcAddr (BitVec.ofNat 64 (s.thr g t).pc) imm).toNat + 8 ≤ p.code.length) :
    Answers (.ldc g t rd imm) s (WritesE g t rd (BitVec.ofNat 64
      (dataNat ((p.code.drop (Config.ldcAddr (BitVec.ofNat 64 (s.thr g t).pc) imm).toNat).take 8))) s) := by
  have hc : exec (.ldc g t rd imm) s = finish (s.legal g t (eBad rd) fun s => (s.setEreg g t rd (BitVec.ofNat 64
      (dataNat ((p.code.drop (Config.ldcAddr (BitVec.ofNat 64 (s.thr g t).pc) imm).toNat).take 8)))).nextPc g t) := by
    refine congrArg finish ?_
    rw [eBad_of_lt hrd, legal_issues hi, legal_issues hi, hp]
    exact if_pos hin
  exact answers_legal hs hi hc (eBad_of_lt hrd) (setEreg_evt ..) (writesE_setEreg ..)

end Sys2Proof.Machine

namespace Sys2Proof

open Machine

/-- Settles O20: each access by where its bytes lie, a data bank that is ON being reached as `dataAccess_ok` says. -/
theorem engineMemoryInstructions : Obligations.EngineMemoryInstructions := by
  unfold Obligations.EngineMemoryInstructions
  intro g t size rd rs1 imm s hs hon hrun n a w
  have hi := issues_of hon hrun
  refine ⟨fun hbank => ⟨fun hrd hin => ?ld, fun hin => ?st⟩, fun p hrd hp => answers_ldc hs hi hrd hp, fun hrd hin => ?fld,
    fun hin hw => ?fst, fun hbd hin => ?bldf, fun hbd hin hw => ?bstf, fun hout => ?stOutside, fun hrd hpriv hconst => ?ldOutside,
    fun hout => ⟨?fstOutside, fun hrd => ?fldOutside⟩⟩
  case ld =>
    exact answers_insideMemory hs hi (eBad_of_lt hrd) hbank rfl (Bool.or_eq_true_iff.mpr hin) (setEreg_evt ..) (writesE_setEreg ..)
  case st =>
    have hstore := dmemWrite_nextPc s g t a (dataBytes n (s.ereg g t rd).toNat)
    rw [dataBytes_length] at hstore
    exact answers_insideMemory hs hi rfl hbank rfl hin (dmemWrite_keeps State.evt s g a _ fun _ _ => rfl) hstore
  case fld => exact answers_insideWindow hs hi (eBad_of_lt hrd) rfl hin (setEreg_evt ..) (writesE_setEreg ..)
  case fst =>
    obtain ⟨hwin, hereg, -, honly⟩ := putWindow_nextPc s g t a (dataBytes 8 (s.ereg g t rd).toNat) hw
    rw [dataBytes_length] at hwin
    exact answers_insideWindow hs hi rfl rfl hin rfl ⟨hwin, hereg, honly⟩
  case bldf => exact answers_insideWindow hs hi (bBad_of_lt hbd) rfl hin rfl (writesB_setBreg ..)
  case bstf =>
    obtain ⟨hwin, -, hbreg, honly⟩ := putWindow_nextPc s g t a (frameBytes (s.breg g t rd)) hw
    rw [frameBytes_length] at hwin
    exact answers_insideWindow hs hi (bBad_of_lt hbd) rfl hin rfl ⟨hwin, hbreg, honly⟩
  case stOutside => exact ends_outsideMemory hi rfl rfl hout
  case ldOutside => exact ends_outsideMemory hi (eBad_of_lt hrd) rfl (Bool.or_eq_false_iff.mpr ⟨hpriv, hconst⟩)
  case fstOutside => exact ends_outsideWindow hi rfl rfl hout
  case fldOutside => exact ends_outsideWindow hi (eBad_of_lt hrd) rfl hout

end Sys2Proof
end

section
/-!
PROOFS. The block instructions of the engines (R87, R90, Table 3-5).
-/

namespace Sys2Proof.Machine

/-- The increment of the low word of a block, in the word's own bits. -/
theorem binc32_eq (b : Block) : binc32 b = BitVec.ofNat 128 (b.toNat / 2 ^ 32 * 2 ^ 32 + (b.toNat % 2 ^ 32 + 1) % 2 ^ 32) := by
  rw [binc32, Nat.mod_add_mod]

end Sys2Proof.Machine

namespace Sys2Proof

open Machine

/-- Settles O21: each block instruction is `State.toB` of its result, and BEXT writes an integer register. -/
theorem blockInstructionsWriteOneRegister : Obligations.BlockInstructionsWriteOneRegister := by
  unfold Obligations.BlockInstructionsWriteOneRegister
  intro g t bd bs1 bs2 rs1 high s hs hon hrun x y d e
  have hi := issues_of hon hrun
  refine ⟨fun hbd hb1 hb2 => ?results, fun hrs hb1 => ?bext, fun hbd => ?illegal⟩
  case results =>
    have hone : bBad bs1 = false := bBad_of_lt hb1
    have htwo : (bBad bs1 || bBad bs2) = false := by rw [hone, bBad_of_lt hb2]; rfl
    simp only [List.forall_mem_cons, List.not_mem_nil, false_imp_iff, implies_true, and_true]
    exact ⟨answers_toB hs hi hbd htwo rfl, answers_toB hs hi hbd hone rfl, answers_toB hs hi hbd hone rfl,
      answers_toB hs hi hbd hone (congrArg (fun v => finish (s.toB g t bd (bBad bs1) v)) (binc32_eq x)), answers_toB hs hi hbd rfl rfl,
      answers_toB hs hi hbd htwo rfl, answers_toB hs hi hbd htwo rfl⟩
  case bext => exact answers_legal hs hi rfl (by rw [eBad_of_lt hrs, bBad_of_lt hb1]; rfl) (setEreg_evt ..) (writesE_setEreg ..)
  case illegal =>
    simp only [List.forall_mem_cons, List.not_mem_nil, false_imp_iff, implies_true, and_true]
    exact ⟨ends_toB_illegal hi hbd rfl, ends_toB_illegal hi hbd rfl, ends_toB_illegal hi hbd rfl, ends_toB_illegal hi hbd rfl,
      ends_toB_illegal hi hbd rfl, ends_toB_illegal hi hbd rfl, ends_toB_illegal hi hbd rfl⟩

end Sys2Proof
end

section
/-!
PROOFS. The key and cipher instructions of the engines (R92 to R97, R110 to R115): loading the bound key, a block through a core, its parity
failure, the blocks of a keystream-ahead slot and the comparison of a tag.
-/

namespace Sys2Proof.Machine

@[simp] theorem pmcEvent_evt (s : State) (l e i d : Nat) : (s.pmcEvent l e i d).evt = s.evt :=
  part_of_noRegs State.evt (fun _ => rfl) (pmcEvent_noRegs s l e i d)

@[simp] theorem pmcEvent_kst (s : State) (l e i d : Nat) : (s.pmcEvent l e i d).kst = s.kst :=
  part_of_noRegs State.kst (fun _ => rfl) (pmcEvent_noRegs s l e i d)

@[simp] theorem pmcEvent_thr (s : State) (l e i d g t : Nat) : (s.pmcEvent l e i d).thr g t = s.thr g t := by
  rw [State.thr, pmcEvent_eng, State.thr]

@[simp] theorem onThr_cores (s : State) (g t : Nat) (f : Thread → Thread) : ((s.onThr g t f).eng g).cores = (s.eng g).cores := by
  rw [onThr_eng_same]

/-! ### KLD (R92, R513) -/

/-- The use of the key is marked in the work item that has not counted it yet. -/
def State.markUsed (g t : Nat) (s : State) : State :=
  if (s.thr g t).work.any (·.used) then s else s.onThr g t fun x => { x with work := x.work.map fun w => { w with used := true } }

/-- A key loaded into the cores in service that `pick` names. -/
def State.loadCores (g kh : Nat) (pick : Nat → Bool) (s : State) : State :=
  s.forN 6 fun c s => if pick c && s.coreIn g c then s.loadCore g c kh else s

theorem usableKey_key {s : State} {kh : Nat} {k : KeyRec} (h : s.usableKey? kh = some k) : s.key? kh = some k :=
  (Option.filter_eq_some_iff.mp h).1

/-- R513: a key without a use limit is used freely. -/
theorem kldUse_unlimited {s : State} {kh : Nat} {k : KeyRec} (g t : Nat) (h : s.usableKey? kh = some k) (hl : k.limitEn = false) :
    s.kldUse g t kh = (.ok, s.markUsed g t) := by
  unfold State.kldUse State.markUsed
  split
  · simp [h]
  · simp [State.keyUse, h, hl]

theorem kldUse_unusable {s : State} {kh : Nat} (g t : Nat) (h : s.usableKey? kh = none) : s.kldUse g t kh = (.refused, s) := by
  unfold State.kldUse
  split
  · simp [h]
  · simp [State.keyUse, h]

theorem markUsed_thr (s : State) (g t : Nat) : ∃ w, (s.markUsed g t).thr g t = { s.thr g t with work := w } := by
  unfold State.markUsed
  split
  · exact ⟨_, rfl⟩
  · exact ⟨_, onThr_thr_same s g t _⟩

@[simp] theorem markUsed_cores (s : State) (g t : Nat) : ((s.markUsed g t).eng g).cores = (s.eng g).cores := by
  unfold State.markUsed
  split
  · rfl
  · exact onThr_cores s g t _

@[simp] theorem markUsed_evt (s : State) (g t : Nat) : (s.markUsed g t).evt = s.evt := by
  unfold State.markUsed
  split <;> rfl

@[simp] theorem markUsed_kst (s : State) (g t : Nat) : (s.markUsed g t).kst = s.kst := by
  unfold State.markUsed
  split <;> rfl

@[simp] theorem markUsed_coreIn (s : State) (g t c : Nat) : (s.markUsed g t).coreIn g c = s.coreIn g c := by
  unfold State.markUsed
  split <;> rfl

/-- Loading cores changes the cores of the engine alone. -/
theorem loadCores_keeps {β : Type} (p : State → β) (s : State) (g kh : Nat) (pick : Nat → Bool)
    (hp : ∀ (u : State) k, p (u.onEng g fun e => { e with cores := k }) = p u) : p (s.loadCores g kh pick) = p s :=
  forN_keeps p _ (fun c u => by split; exacts [hp u _, rfl]) 6 s

@[simp] theorem loadCores_thr (s : State) (g kh t : Nat) (pick : Nat → Bool) : (s.loadCores g kh pick).thr g t = s.thr g t :=
  loadCores_keeps (State.thr · g t) s g kh pick fun u k => by rw [State.thr, onEng_eng_same, State.thr]

/-- A core after a load: under the key where it is picked and in service, else as before. -/
theorem loadCores_core (s : State) (g kh : Nat) (pick : Nat → Bool) {c : Nat} (hc : c < 6) : ((s.loadCores g kh pick).eng g).cores.get c {} =
    if pick c && s.coreIn g c then { (s.eng g).cores.get c {} with kh := some kh, key := (s.key? kh).elim [] (·.key) }
    else (s.eng g).cores.get c {} := by
  have hprefix (n : Nat) : let u := s.forN n fun c s => if pick c && s.coreIn g c then s.loadCore g c kh else s
      u.regs = s.regs ∧ u.kst = s.kst ∧ (u.eng g).cores.get c {} =
        if c < n ∧ (pick c && s.coreIn g c) = true then { (s.eng g).cores.get c {} with kh := some kh, key := (s.key? kh).elim [] (·.key) }
        else (s.eng g).cores.get c {} := by
    induction n with
    | zero => exact ⟨rfl, rfl, by rw [if_neg (by omega)]; rfl⟩
    | succ n ih =>
      rw [forN_succ]
      generalize s.forN n _ = u at ih
      obtain ⟨hregs, hkst, hcore⟩ := ih
      have hin (k : Nat) : u.coreIn g k = s.coreIn g k := by rw [State.coreIn, get_of_regs hregs, State.coreIn]
      have hkey : u.key? kh = s.key? kh := by rw [State.key?, State.slot, hkst, State.key?, State.slot]
      dsimp only
      rw [hin]
      split
      · next hn =>
        refine ⟨hregs, hkst, ?_⟩
        rw [State.loadCore, onEng_eng_same, hkey]
        by_cases hk : c = n
        · subst hk
          rw [KMap.get_set_same, hcore, if_neg (by omega), if_pos ⟨by omega, hn⟩]
        · rw [KMap.get_set_ne _ _ _ _ _ _ hk, hcore]
          exact if_congr (and_congr_left fun _ => by omega) rfl rfl
      · next hn =>
        refine ⟨hregs, hkst, ?_⟩
        rw [hcore]
        refine if_congr (and_congr_left fun hpick => ⟨by omega, fun hlt => ?_⟩) rfl rfl
        exact Nat.lt_of_le_of_ne (by omega) fun hk => hn (hk ▸ hpick)
  obtain ⟨-, -, hcore⟩ := hprefix 6
  rw [State.loadCores, hcore]
  exact if_congr (and_iff_right hc) rfl rfl

section kld
variable {s : State} {g : Fin 192} {t : Fin 4} {w : WorkItem} {kh : Nat} {mask : BitVec 6}

theorem boundKey_of (hw : (s.thr g t).work = some w) (hkey : w.key = some kh) : s.boundKey g t = some kh := by
  rw [State.boundKey, hw]
  exact hkey

/-- R92: KLD of a usable key without a use limit. -/
theorem answers_kld {k : KeyRec} (hs : Settled s) (hi : s.issues g t = true) (hw : (s.thr g t).work = some w) (hkey : w.key = some kh)
    (hk : s.usableKey? kh = some k) (hl : k.limitEn = false) : Answers (.kld g t mask) s fun u =>
      (u.thr g t).mask = mask.toNat ∧ (u.thr g t).pc = ((s.thr g t).pc + 4) % 2 ^ 64
      ∧ (∀ c : Fin 6, mask.getLsbD c = true → s.coreIn g c = true →
          ((u.eng g).cores.get c {}).kh = some kh ∧ ((u.eng g).cores.get c {}).key = k.key)
      ∧ (∀ c : Fin 6, (mask.getLsbD c = false ∨ s.coreIn g c = false) → (u.eng g).cores.get c {} = (s.eng g).cores.get c {})
      ∧ u.kst = s.kst := by
  let loaded := (s.markUsed g t).loadCores g kh mask.getLsbD
  have hc : exec (.kld g t mask) s = finish (((loaded.onThr g t fun x => { x with mask := mask.toNat }).pmcEvent 4 0x11 0 1).nextPc g t) := by
    refine congrArg finish ((legal_issues hi).trans ?_)
    rw [boundKey_of hw hkey]
    dsimp only
    rw [kldUse_unlimited g t hk hl]
    rfl
  have hthr : ∃ w, loaded.thr g t = { s.thr g t with work := w } := by
    rw [loadCores_thr]
    exact markUsed_thr s g t
  have hcore (c : Fin 6) : (loaded.eng g).cores.get c {} = if mask.getLsbD c && s.coreIn g c then
      { (s.eng g).cores.get c {} with kh := some kh, key := k.key } else (s.eng g).cores.get c {} := by
    have hkey : (s.markUsed g t).key? kh = some k := by rw [State.key?, State.slot, markUsed_kst, ← usableKey_key hk, State.key?, State.slot]
    rw [loadCores_core _ g kh _ c.isLt, markUsed_coreIn, markUsed_cores, hkey]
    rfl
  have hevt : loaded.evt = s.evt := (loadCores_keeps State.evt _ g kh _ fun _ _ => rfl).trans (markUsed_evt s g t)
  have hkst : loaded.kst = s.kst := (loadCores_keeps State.kst _ g kh _ fun _ _ => rfl).trans (markUsed_kst s g t)
  refine answers_of_exec_quiet hc ?_ ⟨?_, ?_, fun c hm hin => ?_, fun c hout => ?_, ?_⟩
  · rw [Settled, nextPc_evt, pmcEvent_evt, onThr_evt, hevt]
    exact hs
  · simp [State.nextPc]
  · obtain ⟨w, hw⟩ := hthr
    simp [hw]
  · have hload := hcore c
    rw [hm, hin] at hload
    rw [State.nextPc, onThr_cores, pmcEvent_eng, onThr_cores, hload]
    exact ⟨rfl, rfl⟩
  · have hkept := hcore c
    rw [Bool.and_eq_false_iff.mpr hout] at hkept
    rw [State.nextPc, onThr_cores, pmcEvent_eng, onThr_cores, hkept]
    rfl
  · exact (pmcEvent_kst ..).trans hkst

/-- R92: KLD of a key that KST refuses. -/
theorem ends_kld_unusable (hi : s.issues g t = true) (hw : (s.thr g t).work = some w) (hkey : w.key = some kh)
    (hk : s.usableKey? kh = none) : Ends (.kld g t mask) s (s.progFault g t 6) := by
  refine congrArg finish ((legal_issues hi).trans ?_)
  rw [boundKey_of hw hkey]
  dsimp only
  rw [kldUse_unusable g t hk]

/-- R93: KNONCE in a form of Table 3-7. -/
theorem answers_knonce {bd : Fin 32} {form : Fin 16} (hs : Settled s) (hi : s.issues g t = true) (hw : (s.thr g t).work = some w)
    (hbd : bd.val < 16) (hlo : 1 ≤ form.val) (hhi : form.val ≤ 3) :
    Answers (.knonce g t bd form) s (WritesB g t bd (s.itemJ0 w form) s) := by
  have hc : exec (.knonce g t bd form) s = finish (s.legal g t (bBad bd) fun s => (s.setBreg g t bd (s.itemJ0 w form)).nextPc g t) := by
    refine congrArg finish ?_
    rw [bBad_of_lt hbd, legal_issues hi, legal_issues hi, hw]
    exact if_pos (by simp [hlo, hhi])
  exact answers_legal hs hi hc (bBad_of_lt hbd) rfl (writesB_setBreg ..)

end kld

/-! ### A block through a core (R95 to R97) -/

/-- The core whose parity check failed on a thread's block, noted or forgotten. -/
def State.setFailed (g t : Nat) (c : Option Nat) (s : State) : State := s.onThr g t fun x => { x with failed := c }

@[simp] theorem setFailed_thr (s : State) (g t : Nat) (c : Option Nat) : (s.setFailed g t c).thr g t = { s.thr g t with failed := c } :=
  onThr_thr_same s g t _

@[simp] theorem setFailed_evt (s : State) (g t : Nat) (c : Option Nat) : (s.setFailed g t c).evt = s.evt := rfl

@[simp] theorem setFailed_cores (s : State) (g t : Nat) (c : Option Nat) : ((s.setFailed g t c).eng g).cores = (s.eng g).cores :=
  onThr_cores s g t _

@[simp] theorem setFailed_breg (s : State) (g t : Nat) (c : Option Nat) (r : Nat) : (s.setFailed g t c).breg g t r = s.breg g t r :=
  breg_onThr s g t (fun _ => by rfl) r

@[simp] theorem setFailed_ereg (s : State) (g t : Nat) (c : Option Nat) (r : Nat) : (s.setFailed g t c).ereg g t r = s.ereg g t r :=
  ereg_onThr s g t (fun _ => by rfl) r

/-- R97: a block whose parity check failed goes to another core in service, where there is one. -/
theorem reissues_self {s : State} {g core : Nat} (h : ∃ d < 6, d ≠ core ∧ s.coreIn g d = true) : s.reissues g core core = false := by
  obtain ⟨d, hd, hne, hin⟩ := h
  have hother : ((List.range 6).any fun c => c != core && s.coreIn g c) = true :=
    List.any_eq_true.mpr ⟨d, List.mem_range.mpr hd, by simp [hne, hin]⟩
  simp [State.reissues, hother]

/-- R98: a parity failure that is not the sixteenth of its period is counted. -/
theorem coreParity_counted {s : State} {g c : Nat} (h : (s.parityRun (g / 48) ((s.eng g).cores.get c {})).length < 15) :
    ∃ k : KMap Core → KMap Core, s.coreParity g c = (s.inc FEN_ENG.PERR g).onEng g fun e => { e with cores := k e.cores } := by
  let run := s.clk.sinceReset :: s.parityRun (g / 48) ((s.eng g).cores.get c {})
  have hrun : run.length < 16 := Nat.succ_lt_succ h
  exact ⟨fun m => m.set c { (s.eng g).cores.get c {} with perrs := run } {}, if_pos hrun⟩

section cipher
variable {s : State} {g : Fin 192} {t : Fin 4} {w : WorkItem} {kh : Nat} {bd bs1 : Fin 32} {core : Fin 6}

/-- What the cipher instructions assume of the thread and of the core that takes the block. -/
structure CipherIssued (s : State) (g : Fin 192) (t : Fin 4) (bd bs1 : Fin 32) (core : Fin 6) (kh : Nat) : Prop where
  issues : s.issues g t = true
  dest : bd.val < 16
  source : bs1.val < 16
  bound : s.boundKey g t = some kh
  takes : s.takesBlock g t core = true
  held : ((s.eng g).cores.get core {}).kh = some kh

theorem CipherIssued.cipher_eq (h : CipherIssued s g t bd bs1 core kh) (parity : Bool) (f : List Byte → Block → Block) :
    s.cipher g t bd bs1 core parity f = if parity then (s.setFailed g t (some core.val)).coreParity g core
      else (((s.pmcEvent (g / 48) 7 0 1).setBreg g t bd (f ((s.eng g).cores.get core {}).key (s.breg g t bs1))).setFailed g t none).nextPc g t := by
  rw [State.cipher, bBad_of_lt h.dest, bBad_of_lt h.source, Bool.or_self, legal_issues h.issues, h.bound]
  simp only [h.takes, h.held, Bool.not_true, Bool.false_eq_true, if_false, BEq.rfl, if_true]
  rfl

/-- R95: the block that a core of the bound key computes. -/
theorem CipherIssued.answers_block (h : CipherIssued s g t bd bs1 core kh) (hs : Settled s) {c : Instr} {f : List Byte → Block → Block}
    (hc : exec c s = finish (s.cipher g t bd bs1 core false f)) : Answers c s fun u =>
      u.breg g t bd = f ((s.eng g).cores.get core {}).key (s.breg g t bs1) ∧ (∀ r, r ≠ bd.val → u.breg g t r = s.breg g t r)
      ∧ (∀ r, u.ereg g t r = s.ereg g t r) ∧ (u.thr g t).pc = ((s.thr g t).pc + 4) % 2 ^ 64 ∧ (u.eng g).cores = (s.eng g).cores := by
  rw [h.cipher_eq, if_neg Bool.false_ne_true] at hc
  refine answers_of_exec_quiet hc ?_ ⟨?_, fun r hr => ?_, fun r => ?_, ?_, ?_⟩
  · rwa [Settled, nextPc_evt, setFailed_evt, setBreg_evt, pmcEvent_evt]
  · rw [nextPc_breg, setFailed_breg, setBreg_breg_same]
  · rw [nextPc_breg, setFailed_breg, setBreg_breg_ne _ _ _ _ hr, State.breg, pmcEvent_thr, State.breg]
  · rw [nextPc_ereg, setFailed_ereg, setBreg_ereg, State.ereg, pmcEvent_thr, State.ereg]
  · rw [nextPc_pc, setFailed_thr, setBreg_pc, pmcEvent_thr]
  · rw [State.nextPc, onThr_cores, setFailed_cores, State.setBreg, onThr_cores, pmcEvent_eng]

/-- R97: a parity failure leaves the instruction to be issued again, on another core where the engine has one. -/
theorem CipherIssued.answers_parity (h : CipherIssued s g t bd bs1 core kh) (hs : Settled s) {c : Instr} {f : List Byte → Block → Block}
    (hc : exec c s = finish (s.cipher g t bd bs1 core true f))
    (hrun : (s.parityRun (g / 48) ((s.eng g).cores.get core {})).length < 15) : Answers c s fun u =>
      (u.thr g t).failed = some core.val ∧ (u.thr g t).pc = (s.thr g t).pc ∧ (∀ r, u.breg g t r = s.breg g t r)
      ∧ ((∃ d : Fin 6, d ≠ core ∧ s.coreIn g d = true) → u.takesBlock g t core = false) := by
  have hcount : ((s.setFailed g t (some core.val)).parityRun (g / 48) (((s.setFailed g t (some core.val)).eng g).cores.get core {})).length
      < 15 := by
    rw [setFailed_cores]
    exact hrun
  obtain ⟨k, hk⟩ := coreParity_counted hcount
  rw [h.cipher_eq, if_pos rfl, hk] at hc
  generalize hu : (((s.setFailed g t (some core.val)).inc FEN_ENG.PERR g).onEng g fun e => { e with cores := k e.cores }) = u at hc
  have hthr : u.thr g t = { s.thr g t with failed := some core.val } := by
    rw [← hu, State.thr, onEng_eng_same]
    exact setFailed_thr s g t _
  have hin (d : Nat) : u.coreIn g d = s.coreIn g d := by
    rw [← hu]
    exact congrArg (Nat.testBit · d) (get_set_disjoint s (by decide) (by omega) (by omega))
  refine answers_of_exec_quiet hc (by rw [← hu]; exact hs) ⟨by rw [hthr], by rw [hthr], fun r => by rw [State.breg, hthr, State.breg], ?_⟩
  rintro ⟨d, hd, hcore⟩
  rw [State.takesBlock, hthr]
  exact reissues_self ⟨d, d.isLt, fun h => hd (Fin.ext h), by rw [hin]; exact hcore⟩

end cipher

/-! ### Keystream ahead (R110 to R115) -/

/-- R113: KSGET of a block that the thread's slot holds or that is computed. -/
theorem answers_ksget {s : State} {g : Fin 192} {t : Fin 4} {bd : Fin 32} {i : Fin 128} {y : KsaSlot} {b : Block} (hs : Settled s)
    (hi : s.issues g t = true) (hbd : bd.val < 16) (hy : s.thrSlot g t = some y) (hb : (y.blocks[i.val]? <|> s.slotBlock y i) = some b) :
    Answers (.ksget g t bd i) s (WritesB g t bd b s) := by
  have hc : exec (.ksget g t bd i) s = finish (s.legal g t (bBad bd) fun s => (s.setBreg g t bd b).nextPc g t) := by
    refine congrArg finish ?_
    rw [bBad_of_lt hbd, legal_issues hi, legal_issues hi, hy, Option.bind_some, hb]
  exact answers_legal hs hi hc (bBad_of_lt hbd) rfl (writesB_setBreg ..)

/-- R111: the first slot of an engine, where it is an incomplete request, is given its next block. -/
theorem answers_ksaPrecharge_first {s : State} {g : Fin 192} {core : Fin 6} {y : KsaSlot} {r : List KsaSlot} {b : Block} (hs : Settled s)
    (hslots : (s.eng g).slots = y :: r) (hserving : y.serving = false) (hfailed : y.failed = none) (hopen : y.blocks.length < y.want + 2)
    (hin : s.coreIn g core = true) (hb : s.slotBlock y y.blocks.length = some b) :
    Answers (.ksaPrecharge ⟨g, core, false⟩) s fun u => { y with blocks := y.blocks ++ [b] } ∈ (u.eng g).slots := by
  have hfind : (s.eng g).slots.find? (fun x => !x.serving && x.blocks.length < x.want + 2) = some y := by
    rw [hslots]
    exact List.find?_cons_of_pos (by simp [hserving, hopen])
  have hc : exec (.ksaPrecharge ⟨g, core, false⟩) s = finish ((s.loadCore g core y.sa).onEng g fun e =>
      { e with slots := e.slots.map fun z => if z == y then { y with blocks := y.blocks ++ [b], failed := none } else z }) := by
    refine congrArg finish ?_
    simp only [State.precharge, hfind, hfailed, Option.elim_none, hin, hb, Bool.not_true, Bool.false_eq_true, if_false]
  refine answers_of_exec_quiet hc hs ?_
  rw [onEng_eng_same, State.loadCore, onEng_eng_same]
  exact List.mem_map.mpr ⟨y, by rw [hslots]; exact List.mem_cons_self, by rw [BEq.rfl, if_pos rfl, ← hfailed]⟩

/-- R115: a write of `FEN_KSA_CTRL` with EN = 1 stores its fields. -/
theorem ksaCtrl_get (s : State) (n : Fin 4) (en : Nat) (hen : en < 2) (ahead : BitVec 3) (maxlen : BitVec 8) :
    let u := ((s.set FEN_KSA_CTRL.EN n en).set FEN_KSA_CTRL.AHEAD n ahead.toNat).set FEN_KSA_CTRL.MAXLEN n maxlen.toNat
    u.get FEN_KSA_CTRL.EN n = en ∧ u.get FEN_KSA_CTRL.AHEAD n = ahead.toNat ∧ u.get FEN_KSA_CTRL.MAXLEN n = maxlen.toNat := by
  refine ⟨?_, ?_, get_set_eq _ (by decide) maxlen.isLt⟩
  · rw [get_set_disjoint _ (by decide) (by omega) (by omega), get_set_disjoint _ (by decide) (by omega) (by omega)]
    exact get_set_eq _ (by decide) hen
  · rw [get_set_disjoint _ (by decide) (by omega) (by omega)]
    exact get_set_eq _ (by decide) ahead.isLt

/-! ### TAGCMP (R94) -/

theorem answers_tagcmp {s : State} {g : Fin 192} {t : Fin 4} {bs1 : Fin 32} {off : BitVec 16} (hs : Settled s) (hi : s.issues g t = true)
    (hb : bs1.val < 16) (hin : off.toNat + 16 ≤ (s.window g t).length) :
    let same := decide (frameBlock (((s.window g t).drop off.toNat).take 16) = s.breg g t bs1)
    Answers (.tagcmp g t bs1 off) s (WritesE g t 5 ((s.ereg g t 5).setBits 15 1 (if same = Config.tagcmpEqual then 1 else 0)) s) := by
  intro same
  have hbit : natOfBool (same == Config.tagcmpEqual) = if same = Config.tagcmpEqual then 1 else 0 := if_congr beq_iff_eq rfl rfl
  rw [← hbit]
  exact answers_insideWindow hs hi (bBad_of_lt hb) rfl hin (setEreg_evt s g t 5 _) (writesE_setEreg s g t 5 _)

end Sys2Proof.Machine

namespace Sys2Proof

open Machine

/-- Settles O22: each instruction by the key that its work item binds and the core or slot that it reaches. -/
theorem enginesCipherUnderTheBoundKey : Obligations.EnginesCipherUnderTheBoundKey := by
  unfold Obligations.EnginesCipherUnderTheBoundKey
  intro g t w s hs hon hrun hw
  have hi := issues_of hon hrun
  refine ⟨fun mask kh k hkey hk hl => answers_kld hs hi hw hkey hk hl, fun mask kh hkey hk => ends_kld_unusable hi hw hkey hk,
    fun bd form hbd hlo hhi => answers_knonce hs hi hw hbd hlo hhi, fun bd bs1 core kh hbd hb1 hkey htakes hheld => ?cipher,
    fun hfailed core => ?takes, fun bd i y b hbd hy hb => answers_ksget hs hi hbd hy hb,
    fun core y r b hslots hserving hfailed hopen hin hb => answers_ksaPrecharge_first hs hslots hserving hfailed hopen hin hb,
    fun n ahead maxlen => answers_of_exec_quiet rfl hs (ksaCtrl_get s n 1 (by decide) ahead maxlen),
    fun bs1 off hb hin => answers_tagcmp hs hi hb hin⟩
  case cipher =>
    have hissued : CipherIssued s g t bd bs1 core kh := ⟨hi, hbd, hb1, boundKey_of hw hkey, htakes, hheld⟩
    refine ⟨hissued.answers_block hs rfl, hissued.answers_block hs rfl, fun hcount => ?_⟩
    simp only [List.forall_mem_cons, List.not_mem_nil, false_imp_iff, implies_true, and_true]
    exact ⟨hissued.answers_parity hs rfl hcount, hissued.answers_parity hs rfl hcount⟩
  case takes => rw [State.takesBlock, hfailed]

end Sys2Proof
end

section
/-!
PROOFS. The beginning and the end of a work item on a thread (R82, R103, R108, R122, R123, R154): what taking an item loads, what handing it
to the reorder stage or dropping it leaves, and what a program fault records.
-/

namespace Sys2Proof.Machine

/-! ### The end of a command -/

@[simp] theorem flushEvents_eng (s : State) (g : Nat) : s.flushEvents.eng g = s.eng g := by rw [State.eng, flushEvents_fen, State.eng]

@[simp] theorem flushEvents_thr (s : State) (g t : Nat) : s.flushEvents.thr g t = s.thr g t := by rw [State.thr, flushEvents_eng, State.thr]

@[simp] theorem flushEvents_ereg (s : State) (g t r : Nat) : s.flushEvents.ereg g t r = s.ereg g t r := by
  rw [State.ereg, flushEvents_thr, State.ereg]

/-! ### The reorder stage (R108) -/

/-- How a reorder number stands once it has been set, where the number is held. -/
theorem roGet_roSet {s : State} {k cls num : Nat} {old : RoState} (h : s.roGet k cls num = some old) (st : RoState) :
    (s.roSet k cls num st).roGet k cls num = some st := by
  obtain ⟨e, he, -⟩ := Option.map_eq_some_iff.mp h
  have hnum : (e.num == num) = true := List.find?_some (p := fun e : RoEntry => e.num == num) he
  have hsame : (fun e : RoEntry => e.num == num) ∘ (fun e : RoEntry => if e.num == num then { e with st := st } else e)
      = fun e => e.num == num := by
    funext x
    simp only [Function.comp]
    split <;> rfl
  rw [State.roGet, State.roSet, State.ro, State.putRo, KMap.get_set_same, List.find?_map, hsame, he, Option.map_some, if_pos hnum, Option.map_some]

/-- The engines and the reorder stage: what the accounts of an item that ends leave alone. -/
def State.enginesAndReorder (s : State) : FenState × KMap (List RoEntry) := (s.fen, s.path.reorder)

theorem enginesAndReorder_of_noRegs {s t : State} (h : t.noRegs = s.noRegs) : t.enginesAndReorder = s.enginesAndReorder :=
  part_of_noRegs State.enginesAndReorder (fun _ => rfl) h

theorem thr_of_enginesAndReorder {s t : State} (h : t.enginesAndReorder = s.enginesAndReorder) (g x : Nat) : t.thr g x = s.thr g x := by
  have hfen : t.fen = s.fen := congrArg Prod.fst h
  rw [State.thr, State.eng, hfen, State.thr, State.eng]

theorem roGet_of_enginesAndReorder {s t : State} (h : t.enginesAndReorder = s.enginesAndReorder) (k cls num : Nat) :
    t.roGet k cls num = s.roGet k cls num := by
  have hro : t.path.reorder = s.path.reorder := congrArg Prod.snd h
  rw [State.roGet, State.ro, hro, State.roGet, State.ro]

@[simp] theorem flushEvents_enginesAndReorder (s : State) : s.flushEvents.enginesAndReorder = s.enginesAndReorder :=
  part_of_beside State.enginesAndReorder (fun _ => rfl) (flushEvents_beside s)

@[simp] theorem sendPfc_enginesAndReorder (s : State) (p mask quanta : Nat) : (s.sendPfc p mask quanta).enginesAndReorder = s.enginesAndReorder := by
  unfold State.sendPfc
  split
  · exact when_keeps State.enginesAndReorder _ _ _ (enginesAndReorder_of_noRegs (pmcEvent_noRegs ..))
  · rfl

@[simp] theorem pauseCheck_enginesAndReorder (s : State) (a : Nat) : (s.pauseCheck a).enginesAndReorder = s.enginesAndReorder := by
  unfold State.pauseCheck
  dsimp only
  split
  · rfl
  · split
    · exact sendPfc_enginesAndReorder ..
    · split
      · exact sendPfc_enginesAndReorder ..
      · rfl

@[simp] theorem freeIngress_enginesAndReorder (s : State) (it : Item) : (s.freeIngress it).enginesAndReorder = s.enginesAndReorder := by
  unfold State.freeIngress
  split
  · unfold State.chargeRing
    split <;> rfl
  · split
    · exact (enginesAndReorder_of_noRegs (bufShow_noRegs ..)).trans (pauseCheck_enginesAndReorder ..)
    · rfl

@[simp] theorem onSa_enginesAndReorder (s : State) (i : Nat) (f : SaEntry → SaEntry) : (s.onSa i f).enginesAndReorder = s.enginesAndReorder := by
  unfold State.onSa
  split <;> rfl

@[simp] theorem scSettle_enginesAndReorder (s : State) (sc : Nat) : (s.scSettle sc).enginesAndReorder = s.enginesAndReorder := by
  unfold State.scSettle
  split
  · split <;> rfl
  · rfl

@[simp] theorem itemUnref_enginesAndReorder (s : State) (it : Item) : (s.itemUnref it).enginesAndReorder = s.enginesAndReorder := by
  unfold State.itemUnref
  split
  · exact (scSettle_enginesAndReorder ..).trans (onSa_enginesAndReorder ..)
  · rfl

@[simp] theorem stat_enginesAndReorder (s : State) (sa i d : Nat) : (s.stat sa i d).enginesAndReorder = s.enginesAndReorder := by
  unfold State.stat
  split <;> rfl

@[simp] theorem itemStat_enginesAndReorder (s : State) (it : Item) (i d : Nat) : (s.itemStat it i d).enginesAndReorder = s.enginesAndReorder := by
  unfold State.itemStat
  split
  · exact stat_enginesAndReorder ..
  · rfl

@[simp] theorem burn_enginesAndReorder (s : State) (it : Item) : (s.burn it).enginesAndReorder = s.enginesAndReorder := by
  unfold State.burn
  split
  · split
    · exact stat_enginesAndReorder ..
    · rfl
  · rfl

/-! ### The end of an item (R108, R114, R122) -/

section ending
variable {s : State} {n : Nat} {w : WorkItem}

/-- A frame of no ring that its engine drops: its number is dropped, and the engines are left. -/
theorem engineDrop_enginesAndReorder (hring : w.it.ring = none) :
    (s.engineDrop n w).enginesAndReorder = (s.roSet (16 * n + w.q) w.it.cls w.num .dropped).enginesAndReorder := by
  rw [State.engineDrop, State.itemComplete, hring]
  exact (itemUnref_enginesAndReorder ..).trans (freeIngress_enginesAndReorder ..)

/-- A dropped number, once the accounts of its item are settled. -/
theorem engineDrop_dropped (hring : w.it.ring = none) {old : RoState} (hro : s.roGet (16 * n + w.q) w.it.cls w.num = some old) :
    (s.engineDrop n w).roGet (16 * n + w.q) w.it.cls w.num = some .dropped ∧ ∀ g t, (s.engineDrop n w).thr g t = s.thr g t := by
  have hkept := engineDrop_enginesAndReorder (s := s) (n := n) hring
  exact ⟨(roGet_of_enginesAndReorder hkept ..).trans (roGet_roSet hro _), fun g t => (thr_of_enginesAndReorder hkept g t).trans rfl⟩

variable (hjob : w.job = none) (hro : s.roGet (16 * n + w.q) w.it.cls w.num = some .outstanding)
include hjob hro

theorem endItem_tx_pass (htx : w.it.isRx = false) : s.endItem n w true =
    (s.roSet (16 * n + w.q) w.it.cls w.num (.done (s.sealItem w.it))).itemUnref w.it := by
  simp [State.endItem, hjob, hro, htx]

theorem endItem_tx_fail (htx : w.it.isRx = false) : s.endItem n w false = s.engineDrop n w := by
  simp [State.endItem, hjob, hro, htx]

theorem endItem_rx_unopened (hrx : w.it.isRx = true) (hopen : s.openItem w.it = none) (pass : Bool) :
    s.endItem n w pass = (s.itemStat w.it 1 1).engineDrop n w := by
  simp [State.endItem, hjob, hro, hrx, hopen]

/-- R122: an item that ends with FAIL before its engine has decrypted it is dropped. -/
theorem endItem_fail_dropped (hring : w.it.ring = none) (hfail : w.it.isRx = false ∨ s.openItem w.it = none) :
    (s.endItem n w false).roGet (16 * n + w.q) w.it.cls w.num = some .dropped ∧ ∀ g t, (s.endItem n w false).thr g t = s.thr g t := by
  cases hdir : w.it.isRx with
  | false =>
    rw [endItem_tx_fail hjob hro hdir]
    exact engineDrop_dropped hring hro
  | true =>
    rw [endItem_rx_unopened hjob hro hdir (hfail.resolve_left (by simp [hdir]))]
    have hkept := itemStat_enginesAndReorder s w.it 1 1
    obtain ⟨hdropped, hthr⟩ := engineDrop_dropped hring ((roGet_of_enginesAndReorder hkept ..).trans hro)
    exact ⟨hdropped, fun g t => (hthr g t).trans (thr_of_enginesAndReorder hkept g t)⟩

end ending

/-- R114: a thread that is done holds no item. -/
theorem threadDone_work (s : State) (g t : Nat) : ((s.threadDone g t).thr g t).work = none := by
  rw [State.threadDone, onThr_thr_same]

section fend
variable {s : State} {g : Fin 192} {t : Fin 4} {w : WorkItem}

theorem exec_fend (hi : s.issues g t = true) (hw : (s.thr g t).work = some w) (pass : Bool) :
    exec (.fend g t pass) s = finish (((s.threadDone g t).endItem (g / 48) w pass).nextPc g t) := by
  refine congrArg finish ((legal_issues hi).trans ?_)
  rw [hw]

theorem ends_fend_idle (hi : s.issues g t = true) (hw : (s.thr g t).work = none) (pass : Bool) : Ends (.fend g t pass) s (s.nextPc g t) := by
  refine congrArg finish ((legal_issues hi).trans ?_)
  rw [hw]

variable (hi : s.issues g t = true) (hw : (s.thr g t).work = some w) (hjob : w.job = none) (htx : w.it.isRx = false)
  (hro : s.roGet (16 * (g / 48) + w.q) w.it.cls w.num = some .outstanding)
include hi hw hjob htx hro

/-- R122: FEND with PASS of a transmit item. -/
theorem answers_fend_pass : Answers (.fend g t true) s fun u =>
    (u.thr g t).work = none ∧ u.roGet (16 * (g / 48) + w.q) w.it.cls w.num = some (.done (s.sealItem w.it)) := by
  have hdone : (s.threadDone g t).roGet (16 * (g / 48) + w.q) w.it.cls w.num = some .outstanding := hro
  have hend := endItem_tx_pass hjob hdone htx
  have hkept : ((s.threadDone g t).endItem (g / 48) w true).enginesAndReorder =
      ((s.threadDone g t).roSet (16 * (g / 48) + w.q) w.it.cls w.num (.done (s.sealItem w.it))).enginesAndReorder := by
    rw [hend]
    exact itemUnref_enginesAndReorder ..
  refine answers_of_exec (exec_fend hi hw true) ⟨?_, ?_⟩
  · rw [flushEvents_thr, nextPc_work, thr_of_enginesAndReorder hkept]
    exact threadDone_work s g t
  · exact (roGet_of_enginesAndReorder (flushEvents_enginesAndReorder _) ..).trans
      ((roGet_of_enginesAndReorder hkept ..).trans (roGet_roSet hdone _))

/-- R122: FEND with FAIL of a transmit item of no ring. -/
theorem answers_fend_fail (hring : w.it.ring = none) : Answers (.fend g t false) s fun u =>
    (u.thr g t).work = none ∧ u.roGet (16 * (g / 48) + w.q) w.it.cls w.num = some .dropped := by
  have hdone : (s.threadDone g t).roGet (16 * (g / 48) + w.q) w.it.cls w.num = some .outstanding := hro
  obtain ⟨hdropped, hthr⟩ := endItem_fail_dropped hjob hdone hring (Or.inl htx)
  refine answers_of_exec (exec_fend hi hw false) ⟨?_, ?_⟩
  · rw [flushEvents_thr, nextPc_work, hthr]
    exact threadDone_work s g t
  · exact (roGet_of_enginesAndReorder (flushEvents_enginesAndReorder _) ..).trans hdropped

end fend

/-! ### Early release (R154) -/

/-- R154: an item whose released part reaches an offset. -/
def WorkItem.releasedTo (w : WorkItem) (off : Nat) : WorkItem := { w with it := { w.it with released := max w.it.released off } }

section erls
variable {s : State} {g : Fin 192} {t : Fin 4} {w : WorkItem} {off : BitVec 16}

theorem answers_erls_early (hs : Settled s) (hi : s.issues g t = true) (hw : (s.thr g t).work = some w)
    (hearly : (w.it.isRx && (w.it.sa.bind s.sa?).any (·.early)) = true)
    (hro : s.roGet (16 * (g / 48) + w.q) w.it.cls w.num = some .outstanding) :
    Answers (.erls g t off) s fun u =>
      (∃ x, (u.thr g t).work = some x ∧ x.it.released = max w.it.released off.toNat ∧ x.it.data = w.it.data)
      ∧ (u.thr g t).pc = ((s.thr g t).pc + 4) % 2 ^ 64 ∧ u.tbl = s.tbl ∧ u.path = s.path := by
  let raised : State := s.onThr g t fun x => { x with work := some (w.releasedTo off.toNat) }
  have hkept : raised.releaseLeaving (16 * (g / 48) + w.q) w.it.cls w.num off.toNat = raised := by
    have hro' : raised.roGet (16 * (g / 48) + w.q) w.it.cls w.num = some .outstanding := hro
    rw [State.releaseLeaving, hro']
  have hc : exec (.erls g t off) s = finish (raised.nextPc g t) := by
    refine congrArg finish ((if_pos hi).trans (congrArg (State.nextPc g t) ?_))
    dsimp only
    rw [hw]
    exact (if_pos hearly).trans hkept
  refine answers_of_exec_quiet hc hs ⟨⟨w.releasedTo off.toNat, ?_, rfl, rfl⟩, ?_, rfl, rfl⟩
  · rw [nextPc_work, onThr_thr_same]
  · rw [nextPc_pc, onThr_thr_same]

theorem answers_erls_other (hs : Settled s) (hi : s.issues g t = true) (hw : (s.thr g t).work = some w)
    (hearly : w.it.isRx = false ∨ (w.it.sa.bind s.sa?).any (·.early) = false) :
    Answers (.erls g t off) s (JumpsTo g t (((s.thr g t).pc + 4) % 2 ^ 64) s) := by
  have hc : exec (.erls g t off) s = finish (s.nextPc g t) := by
    refine congrArg finish ((if_pos hi).trans (congrArg (State.nextPc g t) ?_))
    dsimp only
    rw [hw]
    exact if_neg (by rw [Bool.and_eq_false_iff.mpr hearly]; exact Bool.false_ne_true)
  exact answers_of_exec_quiet hc hs (jumpsTo_nextPc s g t)

end erls

/-! ### Program faults (R123) -/

/-- R123: a program fault as `FEN_FAULT` and the raised event show it. -/
theorem recordFault_get (s : State) (g : Fin 192) (slot : Nat) (cause : Fin 8) :
    let u := s.recordFault g slot cause
    u.get FEN_FAULT.CAUSE (g / 48) = cause ∧ u.get FEN_FAULT.ENGINE (g / 48) = g % 48
      ∧ u.get FEN_FAULT.COUNT (g / 48) = min (s.get FEN_FAULT.COUNT (g / 48) + 1) (2 ^ 32 - 1) := by
  have hn : g.val / 48 < 8192 := by omega
  refine ⟨?_, ?_, ?_⟩
  · rw [State.recordFault, raise_get, get_set_disjoint _ (by decide) hn hn, get_set_disjoint _ (by decide) hn hn]
    exact get_set_eq _ (by decide) (Nat.lt_trans cause.isLt (by decide))
  · rw [State.recordFault, raise_get, get_set_disjoint _ (by decide) hn hn]
    exact get_set_eq _ (by decide) (Nat.lt_trans (Nat.mod_lt _ (by decide)) (by decide))
  · rw [State.recordFault, raise_get, get_set_disjoint _ (by decide) hn hn, get_set_disjoint _ (by decide) hn hn,
      get_set_disjoint _ (by decide) hn hn]
    exact inc_get s FEN_FAULT.COUNT _ (by decide)

section fault
variable {s : State} {g t : Nat} {w : WorkItem}

theorem progFault_idle (hw : (s.thr g t).work = none) (cause : Nat) : s.progFault g t cause = s.recordFault g 0 cause := by
  rw [State.progFault, hw]
  rfl

/-- R123: a program fault of a thread with an item that is not leaving. -/
theorem progFault_item (hw : (s.thr g t).work = some w) (hro : s.roGet (16 * (g / 48) + w.q) w.it.cls w.num = some .outstanding) (cause : Nat) :
    s.progFault g t cause = (((s.recordFault g (s.itemSlot w) cause).threadDone g t).when (!w.it.isRx) fun s => s.burn w.it).endItem (g / 48) w
      false := by
  have hdone : ((s.recordFault g (s.itemSlot w) cause).threadDone g t).roGet (16 * (g / 48) + w.q) w.it.cls w.num = some .outstanding := hro
  rw [State.progFault, hw]
  simp only [Option.elim_some, hdone, Bool.not_false, Bool.and_true]

end fault

end Sys2Proof.Machine

namespace Sys2Proof

open Machine

/-- Settles O24: the fault is recorded, and an item that is not leaving is dropped when its FAIL is carried out. -/
theorem programFaultEndsTheWorkItem : Obligations.ProgramFaultEndsTheWorkItem := by
  unfold Obligations.ProgramFaultEndsTheWorkItem
  intro g t cause s u
  refine ⟨fun hw => ?idle, fun w hw hjob hring hro hfail => ?item⟩
  case idle =>
    have hu : u = s.recordFault g 0 cause := progFault_idle hw cause
    obtain ⟨hcause, hengine, hcount⟩ := recordFault_get s g 0 cause
    rw [hu]
    exact ⟨List.length_append, hcause, hengine, hcount, rfl⟩
  case item =>
    let done := ((s.recordFault g (s.itemSlot w) cause).threadDone g t).when (!w.it.isRx) fun s => s.burn w.it
    have hkept : done.enginesAndReorder = ((s.recordFault g (s.itemSlot w) cause).threadDone g t).enginesAndReorder :=
      when_keeps State.enginesAndReorder _ _ _ (burn_enginesAndReorder ..)
    have hopen : w.it.isRx = false ∨ done.openItem w.it = none := by
      cases hdir : w.it.isRx with
      | false => exact Or.inl rfl
      | true =>
        refine Or.inr ?_
        have hrx : done = (s.recordFault g (s.itemSlot w) cause).threadDone g t := by simp only [done, hdir]; rfl
        rw [hrx]
        exact hfail.resolve_left (by simp [hdir])
    have hu : u = done.endItem (g / 48) w false := progFault_item hw hro cause
    obtain ⟨hdropped, hthr⟩ := endItem_fail_dropped hjob ((roGet_of_enginesAndReorder hkept ..).trans hro) hring hopen
    rw [hu]
    refine ⟨?_, hdropped⟩
    rw [hthr, thr_of_enginesAndReorder hkept]
    exact threadDone_work ..

end Sys2Proof
end

section
/-!
PROOFS. WAIT (R82, R103, R113): what a thread that takes an item loads, and the obligation on work items assembled.
-/

namespace Sys2Proof.Machine

/-! ### Keystream-ahead slots at the beginning of an item (R113, R115) -/

section slotHit
variable (s : State) (g t : Nat) (w : WorkItem)

/-- Judging an item's slot changes the engine's slots, the slot noted in the thread and counters. -/
theorem slotHit_keeps {β : Type} (p : State → β) (hregs : ∀ u v : State, v.noRegs = u.noRegs → p v = p u)
    (hthr : ∀ u y, p (State.onThr g t (fun x => { x with slot := y }) u) = p u)
    (hslots : ∀ (u : State) (f : List KsaSlot → List KsaSlot), p (u.onEng g fun e => { e with slots := f e.slots }) = p u) :
    p (s.slotHit g t w).2 = p s := by
  have hdrop (u : State) (q : KsaSlot → Bool) : p (u.dropSlots (g / 48) g q) = p u := dropSlots_keeps p u _ g q (hslots u _) hregs
  unfold State.slotHit
  split
  · rfl
  · dsimp only
    split
    · exact (hdrop _ _).trans ((hregs _ _ (pmcEvent_noRegs ..)).trans ((hregs _ _ (inc_noRegs ..)).trans ((hthr _ _).trans (hslots _ _))))
    · exact hdrop _ _

theorem Within.slotHit (hg : g < 192) : Within epochRegs s (s.slotHit g t w).2 := by
  have hn : g / 48 < 4 := by omega
  have hmark (f : Engine → Engine) (h : Thread → Thread) : Within epochRegs s ((s.onEng g f).onThr g t h) := .of_parts _ rfl rfl
  unfold State.slotHit
  split
  · exact .refl _ s
  · dsimp only
    split
    · exact (((hmark _ _).trans (.inc _ FEN_KSA_CNT.HIT _ _ (by decide) (by decide) (by omega))).trans
        ((Within.pmcEvent _ _ 5 0 1 (by omega)).mono fun _ => List.mem_cons_of_mem _)).trans (.dropSlots _ g _ hn)
    · exact .dropSlots s g _ hn

end slotHit

/-! ### The load of Table 3-2 -/

/-- The work item as the thread holds it: its frame is the window. -/
def WorkItem.begun (w : WorkItem) (hit : Bool) : WorkItem := { w with ksaHit := hit, window := w.it.data }

/-- The integer registers that a work item loads, with the free values of e1 and of the stack pointer. -/
def State.loadedRegs (s : State) (t : Nat) (w : WorkItem) (e1 sp : Word) : List (Nat × Word) :=
  [(1, e1), (2, BitVec.ofNat 64 w.it.data.length), (3, BitVec.ofNat 64 (w.key.getD 0)), (4, BitVec.ofNat 64 w.it.pn),
   (5, BitVec.ofNat 64 (s.itemFlags w)), (6, BitVec.ofNat 64 w.it.secureOff),
   (7, BitVec.ofNat 64 (w.it.scFields.elim 0 fun c => confBytes c.confOff)), (29, BitVec.ofNat 64 (0x2000 * t + sp.toNat % 0x2000))]

/-- The engine after the draws of e1 and of the stack pointer. -/
def State.drawTwo (s : State) : State := s.draw.2.draw.2

/-- The thread with the item, before its registers are loaded. -/
def State.holdItem (g t : Nat) (w : WorkItem) (s : State) : State :=
  (s.slotHit g t w).2.drawTwo.onThr g t fun x => { x with work := some (w.begun (s.slotHit g t w).1), stalled := false, mask := 0 }

/-- The thread with the item and its registers, before its program is looked up. -/
def State.loadItem (g t : Nat) (w : WorkItem) (s : State) : State :=
  let (hit, u) := s.slotHit g t w
  (s.holdItem g t w).forL (s.loadedRegs t (w.begun hit) u.draw.1 u.draw.2.draw.1) fun r s => s.setEreg g t r.1 r.2

section load
variable (s : State) (g t : Nat) (w : WorkItem)

/-- R103: an item whose program the engine's set holds begins at the program's entry. -/
theorem beginItem_served {p : ModeProg} (hjob : w.job = none) (hform : p.form = 0)
    (hserves : (s.loadItem g t w).progServes g (w.begun (s.slotHit g t w).1) = true)
    (hprog : (s.loadItem g t w).progOf g ((s.loadItem g t w).itemSlot (w.begun (s.slotHit g t w).1)) = some p) :
    s.beginItem g t w = (s.loadItem g t w).onThr g t fun x => { x with pc := if w.it.isRx then p.rxEntry else p.txEntry } := by
  have heq : s.beginItem g t w = if !(s.loadItem g t w).progServes g (w.begun (s.slotHit g t w).1) then (s.loadItem g t w).progFault g t 5
      else match (s.loadItem g t w).progOf g ((s.loadItem g t w).itemSlot (w.begun (s.slotHit g t w).1)) with
        | none => s.loadItem g t w
        | some p =>
          let s5 := (s.loadItem g t w).onThr g t fun x =>
            { x with pc := if w.job.isSome then p.jobEntry else if w.it.isRx then p.rxEntry else p.txEntry }
          if p.form == 0 then s5 else s5.setBreg g t 0 (s5.itemJ0 (w.begun (s.slotHit g t w).1) (itemForm p (w.begun (s.slotHit g t w).1))) := rfl
  rw [heq, hserves, hprog]
  simp [hform, hjob]

/-- An update of a thread keeps what every update of the engine's threads keeps. -/
theorem setEreg_keeps {β : Type} (p : State → β) (hthr : ∀ u f, p (State.onThr g t f u) = p u) (u : State) (r : Nat) (v : Word) :
    p (u.setEreg g t r v) = p u := by
  unfold State.setEreg
  split
  · rfl
  · exact hthr u _

/-- Loading registers leaves what no update of a thread reaches. -/
theorem loadItem_hold {β : Type} (p : State → β) (hthr : ∀ u f, p (State.onThr g t f u) = p u) :
    p (s.loadItem g t w) = p (s.slotHit g t w).2.drawTwo :=
  (forL_keeps p (fun (r : Nat × Word) u => u.setEreg g t r.1 r.2) (fun r u => setEreg_keeps g t p hthr u r.1 r.2) _ _).trans (hthr _ _)

/-- The load leaves what neither the engine's slots, nor its threads, nor the counters reach. -/
theorem loadItem_keeps {β : Type} (p : State → β) (hregs : ∀ u v : State, v.noRegs = u.noRegs → p v = p u)
    (hthr : ∀ u f, p (State.onThr g t f u) = p u) (hdraw : ∀ u : State, p u.drawTwo = p u)
    (hslots : ∀ (u : State) (f : List KsaSlot → List KsaSlot), p (u.onEng g fun e => { e with slots := f e.slots }) = p u) :
    p (s.loadItem g t w) = p s := by
  rw [loadItem_hold s g t w p hthr, hdraw]
  exact slotHit_keeps s g t w p hregs (fun u _ => hthr u _) hslots

theorem Within.loadItem (hg : g < 192) : Within epochRegs s (s.loadItem g t w) :=
  (Within.slotHit s g t w hg).trans
    (.of_parts _ (loadItem_hold s g t w State.regs fun _ _ => rfl) (loadItem_hold s g t w State.evt fun _ _ => rfl))

theorem loadItem_work : ((s.loadItem g t w).thr g t).work = some (w.begun (s.slotHit g t w).1) := by
  simp only [State.loadItem, State.loadedRegs, State.forL, List.foldl_cons, List.foldl_nil, setEreg_work, State.holdItem, onThr_thr_same]

/-- Table 3-2: e2, e3 and e4 after the load. -/
theorem loadItem_ereg : (s.loadItem g t w).ereg g t 2 = BitVec.ofNat 64 w.it.data.length
    ∧ (s.loadItem g t w).ereg g t 3 = BitVec.ofNat 64 (w.key.getD 0) ∧ (s.loadItem g t w).ereg g t 4 = BitVec.ofNat 64 w.it.pn := by
  simp only [State.loadItem, State.loadedRegs, State.forL, List.foldl_cons, List.foldl_nil]
  refine ⟨?_, ?_, ?_⟩
  · repeat rw [setEreg_ereg_ne _ _ _ _ (by decide)]
    rw [setEreg_ereg_same]
    rfl
  · repeat rw [setEreg_ereg_ne _ _ _ _ (by decide)]
    rw [setEreg_ereg_same]
    rfl
  · repeat rw [setEreg_ereg_ne _ _ _ _ (by decide)]
    rw [setEreg_ereg_same]
    rfl

/-- The load leaves the program that a slot names. -/
theorem loadItem_progOf (hg : g < 192) (slot : Nat) : (s.loadItem g t w).progOf g slot = s.progOf g slot := by
  have hprogs : (s.loadItem g t w).fen.progs = s.fen.progs :=
    loadItem_keeps s g t w (·.fen.progs) (fun _ _ => part_of_noRegs (·.fen.progs) fun _ => rfl) (fun _ _ => rfl) (fun _ => rfl) fun _ _ => rfl
  have hset : (s.loadItem g t w).engineSet g = s.engineSet g :=
    (Within.loadItem s g t w hg).get FEN_POD_CTRL.SET_IN_USE _ (by decide) (by decide) (by omega)
  rw [State.progOf, hprogs, hset, State.progOf]

theorem loadItem_tbl : (s.loadItem g t w).tbl = s.tbl :=
  loadItem_keeps s g t w State.tbl (fun _ _ => part_of_noRegs State.tbl fun _ => rfl) (fun _ _ => rfl) (fun _ => rfl) fun _ _ => rfl

theorem loadItem_itemSlot (hjob : w.job = none) (hit : Bool) : (s.loadItem g t w).itemSlot (w.begun hit) = s.itemSlot w := by
  have hsa : (s.loadItem g t w).sa? = s.sa? := by
    funext i
    rw [State.sa?, loadItem_tbl, State.sa?]
  simp only [State.itemSlot, WorkItem.begun, hjob, hsa]

end load

/-! ### WAIT (R82) -/

/-- Nothing is placed where no job waits. -/
theorem drainJobs_none {s : State} {n : Nat} (h : s.fen.jobs.get n [] = []) : s.drainJobs n = s := by
  rw [State.drainJobs, h]
  rfl

section wait
variable {s : State} {g : Fin 192} {t : Fin 4}

/-- The inbox that a thread takes items from: the express inbox for thread 3. -/
def Engine.inboxOf (e : Engine) (t : Nat) : List WorkItem := if t == 3 then e.inboxX else e.inboxN

/-- The engine with the rest of a thread's inbox. -/
def State.popInbox (g t : Nat) (r : List WorkItem) (s : State) : State :=
  s.onEng g fun e => if t == 3 then { e with inboxX := r } else { e with inboxN := r }

theorem popInbox_inboxOf (s : State) (g t : Nat) (r : List WorkItem) : ((s.popInbox g t r).eng g).inboxOf t = r := by
  rw [State.popInbox, onEng_eng_same, Engine.inboxOf]
  cases ht : t == 3 <;> simp

theorem inboxOf_onThr (u : State) (g t x : Nat) (f : Thread → Thread) : ((u.onThr g t f).eng g).inboxOf x = (u.eng g).inboxOf x := by
  rw [onThr_eng_same]
  rfl

theorem ends_wait_holding {w : WorkItem} (hi : s.issues g t = true) (hw : (s.thr g t).work = some w) : Ends (.waitE g t false) s s := by
  refine congrArg finish ((legal_issues hi).trans ?_)
  rw [hw]
  rfl

theorem exec_wait_idle (hi : s.issues g t = true) (hw : (s.thr g t).work = none) :
    exec (.waitE g t false) s = finish ((s.takeItem g t).drainJobs (g / 48)) := by
  refine congrArg finish ((legal_issues hi).trans ?_)
  rw [hw]
  rfl

theorem takeItem_none (h : (s.eng g).inboxOf t = []) : s.takeItem g t = s.onThr g t fun x => { x with stalled := true } := by
  have heq : s.takeItem g t = match (s.eng g).inboxOf t with
      | [] => s.onThr g t fun x => { x with stalled := true }
      | w :: r => (s.popInbox g t r).beginItem g t w := rfl
  rw [heq, h]

theorem takeItem_first {w : WorkItem} {r : List WorkItem} (h : (s.eng g).inboxOf t = w :: r) :
    s.takeItem g t = (s.popInbox g t r).beginItem g t w := by
  have heq : s.takeItem g t = match (s.eng g).inboxOf t with
      | [] => s.onThr g t fun x => { x with stalled := true }
      | w :: r => (s.popInbox g t r).beginItem g t w := rfl
  rw [heq, h]

theorem ends_wait_empty (hi : s.issues g t = true) (hw : (s.thr g t).work = none) (hbox : (s.eng g).inboxOf t = [])
    (hjobs : s.fen.jobs.get (g / 48) [] = []) : Ends (.waitE g t false) s (s.onThr g t fun x => { x with stalled := true }) := by
  refine ends_of_exec (exec_wait_idle hi hw) ?_
  rw [takeItem_none hbox]
  exact drainJobs_none hjobs

/-- R82, R103: WAIT takes the item at the front of the inbox, for which the engine's set holds a program that works without J0. -/
theorem answers_wait_takes {w : WorkItem} {r : List WorkItem} {p : ModeProg} (hi : s.issues g t = true) (hw : (s.thr g t).work = none)
    (hbox : (s.eng g).inboxOf t = w :: r) (hjob : w.job = none) (hjobs : s.fen.jobs.get (g / 48) [] = [])
    (hprog : s.progOf g (s.itemSlot w) = some p) (hsuite : p.suites.testBit (w.it.scFields.elim 0 (·.suite)) = true) (hform : p.form = 0) :
    Answers (.waitE g t false) s fun u => (u.eng g).inboxOf t = r
      ∧ (∃ x, (u.thr g t).work = some x ∧ x.it = w.it ∧ x.num = w.num ∧ x.window = w.it.data)
      ∧ u.ereg g t 2 = BitVec.ofNat 64 w.it.data.length ∧ u.ereg g t 3 = BitVec.ofNat 64 (w.it.sa.getD 0)
      ∧ u.ereg g t 4 = BitVec.ofNat 64 w.it.pn ∧ (u.thr g t).pc = (if w.it.isRx then p.rxEntry else p.txEntry) := by
  let s1 := s.popInbox g t r
  have hslot (hit : Bool) : (s1.loadItem g t w).itemSlot (w.begun hit) = s.itemSlot w := loadItem_itemSlot s1 g t w hjob hit
  have hprog' (hit : Bool) : (s1.loadItem g t w).progOf g ((s1.loadItem g t w).itemSlot (w.begun hit)) = some p := by
    rw [hslot, loadItem_progOf s1 g t w g.isLt]
    exact hprog
  have hserves (hit : Bool) : (s1.loadItem g t w).progServes g (w.begun hit) = true := by
    rw [State.progServes, hprog']
    simp only [WorkItem.begun, hjob]
    exact hsuite
  have hbegin := beginItem_served s1 g t w hjob hform (hserves _) (hprog' _)
  have hnone : ((s1.loadItem g t w).onThr g t fun x =>
      { x with pc := if w.it.isRx then p.rxEntry else p.txEntry }).fen.jobs.get (g / 48) [] = [] := by
    have hkept : (s1.loadItem g t w).fen.jobs = s1.fen.jobs :=
      loadItem_keeps s1 g t w (·.fen.jobs) (fun _ _ => part_of_noRegs (·.fen.jobs) fun _ => rfl) (fun _ _ => rfl) (fun _ => rfl) fun _ _ => rfl
    exact (congrArg (KMap.get · (g / 48) []) hkept).trans hjobs
  have hc := exec_wait_idle hi hw
  rw [takeItem_first hbox, hbegin, drainJobs_none hnone] at hc
  have hinbox : ((s1.loadItem g t w).eng g).inboxOf t = r := by
    have hkept : ((s1.loadItem g t w).eng g).inboxOf t = (s1.eng g).inboxOf t :=
      loadItem_keeps s1 g t w (fun u => (u.eng g).inboxOf t) (fun _ _ => part_of_noRegs (fun u => (u.eng g).inboxOf t) fun _ => rfl)
        (fun u f => inboxOf_onThr u g t t f) (fun _ => rfl) fun u f => by rw [onEng_eng_same]; rfl
    exact hkept.trans (popInbox_inboxOf s g t r)
  obtain ⟨he2, he3, he4⟩ := loadItem_ereg s1 g t w
  have hkey : w.key = w.it.sa := by rw [WorkItem.key, hjob]
  have hereg (k : Nat) : (State.flushEvents ((s1.loadItem g t w).onThr g t fun x =>
      { x with pc := if w.it.isRx then p.rxEntry else p.txEntry })).ereg g t k = (s1.loadItem g t w).ereg g t k := by
    rw [flushEvents_ereg]
    exact ereg_onThr _ _ _ (by exact fun _ => rfl) k
  refine answers_of_exec hc ⟨?_, ⟨w.begun (s1.slotHit g t w).1, ?_, rfl, rfl, rfl⟩, ?_, ?_, ?_, ?_⟩
  · rw [flushEvents_eng, inboxOf_onThr, hinbox]
  · rw [flushEvents_thr, onThr_thr_same]
    exact loadItem_work s1 g t w
  · exact (hereg 2).trans he2
  · rw [hereg, he3, hkey]
  · exact (hereg 4).trans he4
  · rw [flushEvents_thr, onThr_thr_same]

end wait

end Sys2Proof.Machine

namespace Sys2Proof

open Machine

/-- Settles O23: WAIT by what the inbox holds, FEND and ERLS by the item that the thread holds. -/
theorem threadsTakeAndEndWorkItems : Obligations.ThreadsTakeAndEndWorkItems := by
  unfold Obligations.ThreadsTakeAndEndWorkItems
  intro g t s hs hon hrun inbox
  have hi := issues_of hon hrun
  have hof (u : State) : (if t = 3 then (u.eng g).inboxX else (u.eng g).inboxN) = (u.eng g).inboxOf t :=
    if_congr (by rw [beq_iff_eq]; exact Fin.ext_iff) rfl rfl
  have hbox : inbox = (s.eng g).inboxOf t := hof s
  refine ⟨fun w hw => ends_wait_holding hi hw, fun hw hempty hjobs => ends_wait_empty hi hw (hbox ▸ hempty) hjobs,
    fun w r p hw hfirst hjob hjobs hprog hsuite hform => ?takes,
    fun w hw hjob htx hring hro => ⟨answers_fend_pass hi hw hjob htx hro, fun _ _ => answers_fend_fail hi hw hjob htx hro hring⟩,
    fun w off sa a hw hrx hsa ha hearly hro => ?early, fun hw => ⟨ends_fend_idle hi hw true, ends_fend_idle hi hw false⟩,
    fun w off hw hearly => answers_erls_other hs hi hw hearly⟩
  case takes =>
    obtain ⟨u, hu, hrest, hloaded⟩ := answers_wait_takes hi hw (hbox ▸ hfirst) hjob hjobs hprog hsuite hform
    exact ⟨u, hu, (hof u).trans hrest, hloaded⟩
  case early =>
    refine answers_erls_early hs hi hw ?_ hro
    rw [hrx, hsa, Option.bind_some, ha, Option.any_some, hearly]
    rfl

end Sys2Proof
end

section
/-!
PROOFS. A key wipe at an engine that lists a core past its six (R125): the wipe clears the six, and the model's
state type does not bound the numbers under which an engine keeps its cores.
-/

namespace Sys2Proof.Machine

/-- An engine 0 that keeps key handle 0 in a core numbered 6, with a wipe of that handle that waits for the engine. -/
def seventhCoreState : State :=
  { State.reset with fen := { State.reset.fen with engines := [(0, { cores := [(6, { kh := some 0 })] })], wipes := [⟨0, [0]⟩] } }

theorem seventhCoreState_waits : Settled seventhCoreState ∧ ∃ w ∈ seventhCoreState.fen.wipes, w.kh = 0 ∧ 0 ∈ w.waiting := by
  decide +kernel

/-- The acknowledged wipe leaves the handle in that core. -/
theorem seventhCore_kept : Answers (.keyWipeAck 0 0) seventhCoreState fun t => ∃ c ∈ (t.eng 0).cores, c.2.kh = some 0 :=
  answers_of_exec rfl (by decide +kernel)

end Sys2Proof.Machine

namespace Sys2Proof

open Machine

/-- Refutes O26: the clause on KEY_WIPE_ACK speaks of every core that the engine's map lists, the wipe reaches the cores 0 to 5, and the
statement admits a state whose map lists a core 6. -/
theorem not_engineTestsWipesAndKeystreamAhead : ¬ Obligations.EngineTestsWipesAndKeystreamAhead := by
  unfold Obligations.EngineTestsWipesAndKeystreamAhead
  rintro ⟨-, hwipes, -⟩
  obtain ⟨hsettled, hwaits⟩ := seventhCoreState_waits
  obtain ⟨-, hanswer⟩ := hwipes 0 0 seventhCoreState
  obtain ⟨t, ⟨-, hcores, -⟩, c, hc, hkh⟩ := answers_meet (hanswer hwaits hsettled) seventhCore_kept
  exact hcores c hc hkh

end Sys2Proof
end

section
/-!
PROOFS. Mode program commands (R99 to R101, R104): what a LOAD or UNLOAD begins and what its end shows and installs; the statistics
snapshot of an SA (R169).
-/

namespace Sys2Proof.Machine

@[simp] theorem flushEvents_kst (s : State) : s.flushEvents.kst = s.kst := part_of_beside State.kst (fun _ => rfl) (flushEvents_beside s)

/-! ### The beginning of a command (R99, R101) -/

/-- A region with a command in progress. -/
def State.mpBegun (n : Nat) (c : MpCmd) (s : State) : State :=
  { s.set FEN_MP_STATUS.BUSY n 1 with fen := { s.fen with mpCmd := s.fen.mpCmd.set n (some c) none } }

section begins
variable {s : State} {n : Nat} (c : MpCmd)

theorem mpBegin_busy (hb : s.flag FEN_MP_STATUS.BUSY n = true) : s.mpBegin n c = s := if_pos hb

theorem mpBegin_free (hb : s.flag FEN_MP_STATUS.BUSY n = false) : s.mpBegin n c = s.mpBegun n c := if_neg (by simp [hb])

theorem mpLoadBegin_busy (image : Option (List Byte)) (hb : s.flag FEN_MP_STATUS.BUSY n = true) : s.mpLoadBegin n image c = s := by
  cases image with
  | none => exact mpBegin_busy c hb
  | some img => rw [State.mpLoadBegin, mpBegin_busy c hb, hb, Bool.not_true, when_false]

theorem mpLoadBegin_free (img : List Byte) (hb : s.flag FEN_MP_STATUS.BUSY n = false) :
    s.mpLoadBegin n (some img) c = (s.mpBegun n c).dmaOctets img.length := by
  rw [State.mpLoadBegin, mpBegin_free c hb, hb, Bool.not_false, when_true]

end begins

/-- An Oroas-signed image that passes every check, and overwrites nothing in use, answers OK. -/
theorem mpResult_oroas {s : State} {kind kh : Nat} {img pub : List Byte} {inUse : Bool} (hsigner : mpSigner img = 0)
    (hlen : 256 + beNat ((img.drop 12).take 4) ≤ img.length) (hhash : s.lcm.oroasHashes.contains (sha384 pub) = true)
    (hsigned : mpSigned img pub = true) (hheader : mpHeaderBad kind img = false) (hlarge : mpTooLarge kind img = false)
    (huse : inUse = false) : s.mpResult kind kh (some img) pub inUse = 0 := by
  have hunsigned : s.mpUnsigned kh img pub = false := by rw [State.mpUnsigned, hsigner, hhash, hsigned]; rfl
  have hshort : decide (img.length < 256 + beNat ((img.drop 12).take 4)) = false := decide_eq_false (Nat.not_lt.mpr hlen)
  simp only [State.mpResult, firstCode, hsigner, hshort, hheader, hlarge, hunsigned, huse]
  rfl

/-- An Oroas-signed image uses no customer's key. -/
theorem mpUse_oroas {r kh : Nat} {img : List Byte} (hsigner : mpSigner img = 0) : mpUse r kh (some img) = none := by
  simp [mpUse, hsigner]

section commands
variable {s : State} {n : Fin 4} {set : Fin 2} {slot : Fin 64} {kh : BitVec 17} {img pub : List Byte}

theorem ends_load_fault (hb : s.flag FEN_MP_STATUS.BUSY n = false) :
    Ends (.fenMpLoad n set slot kh none pub) s (s.mpBegun n ⟨2, none, none, none, none⟩) :=
  ends_of_exec rfl (mpBegin_free ⟨2, none, none, none, none⟩ hb)

theorem ends_ucode_fault (hb : s.flag FEN_MP_STATUS.BUSY n = false) :
    Ends (.fenMpLoadUcode n set kh none pub) s (s.mpBegun n ⟨2, none, none, none, none⟩) :=
  ends_of_exec rfl (mpBegin_free ⟨2, none, none, none, none⟩ hb)

theorem ends_load_ok (hb : s.flag FEN_MP_STATUS.BUSY n = false) (hsigner : mpSigner img = 0)
    (hok : s.mpResult 1 kh.toNat (some img) pub
      ((s.fen.progs.get (128 * n.val + 64 * set.val + slot.val) none).isSome && s.setRuns n set) = 0) :
    Ends (.fenMpLoad n set slot kh (some img) pub) s
      ((s.mpBegun n ⟨0, some (128 * n.val + 64 * set.val + slot.val, mpProgram img), none, none, none⟩).dmaOctets img.length) := by
  refine ends_of_exec rfl ?_
  rw [mpLoadBegin_free _ img hb, hok, mpUse_oroas hsigner]
  rfl

theorem ends_ucode_ok (hb : s.flag FEN_MP_STATUS.BUSY n = false) (hsigner : mpSigner img = 0)
    (hok : s.mpResult 2 kh.toNat (some img) pub (s.setRuns n set) = 0) :
    Ends (.fenMpLoadUcode n set kh (some img) pub) s
      ((s.mpBegun n ⟨0, none, none, some (2 * n.val + set.val, mpProgram img), none⟩).dmaOctets img.length) := by
  refine ends_of_exec rfl ?_
  rw [mpLoadBegin_free _ img hb, hok, mpUse_oroas hsigner]
  rfl

/-- R101: an SA of the region that is not RETIRED names the slot. -/
def State.slotNamed (s : State) (n slot : Nat) : Bool :=
  s.tbl.sa.any fun x => x.1 / 16384 == n && x.2.any fun a => a.life != 4 && a.modeProg == slot

theorem slotNamed_of_mem {n slot sa : Nat} {a : SaEntry} (hmem : (sa, some a) ∈ s.tbl.sa) (hregion : sa / 16384 = n) (hlife : a.life ≠ 4)
    (hslot : a.modeProg = slot) : s.slotNamed n slot = true :=
  List.any_eq_true.mpr ⟨_, hmem, by simp [hregion, hlife, hslot]⟩

theorem not_slotNamed {n slot : Nat} (h : ∀ sa a, (sa, some a) ∈ s.tbl.sa → sa / 16384 = n → a.life = 4 ∨ a.modeProg ≠ slot) :
    s.slotNamed n slot = false := by
  refine List.any_eq_false.mpr fun x hx hnamed => ?_
  obtain ⟨sa, _ | a⟩ := x
  · simp at hnamed
  · simp only [Option.any_some, Bool.and_eq_true, beq_iff_eq, bne_iff_ne, ne_eq] at hnamed
    obtain ⟨hregion, hlife, hslot⟩ := hnamed
    exact (h sa a hx hregion).elim hlife fun hne => hne hslot

theorem ends_unload_busy (hb : s.flag FEN_MP_STATUS.BUSY n = true) : Ends (.fenMpUnload n set slot) s s :=
  ends_of_exec rfl (mpBegin_busy _ hb)

theorem ends_unload (hb : s.flag FEN_MP_STATUS.BUSY n = false) {named : Bool} (hnamed : s.slotNamed n slot = named) :
    Ends (.fenMpUnload n set slot) s (s.mpBegun n ⟨if named then 7 else 0, none,
      if named then none else some (128 * n.val + 64 * set.val + slot.val), none, none⟩) := by
  subst hnamed
  exact ends_of_exec rfl (mpBegin_free _ hb)

end commands

/-! ### The end of a command (R100, R104) -/

/-- A region's command taken from its place. -/
def State.mpTaken (n : Nat) (s : State) : State := { s with fen := { s.fen with mpCmd := s.fen.mpCmd.erase n } }

/-- The effect of a command that ends with result `r`. -/
def State.mpEffect (n : Nat) (c : MpCmd) (r : Nat) (s : State) : State :=
  let s1 := s.mpTaken n
  if r != 0 then s1 else
    match c.install, c.remove, c.code with
    | some x, _, _ => s1.putProg x.1 (some x.2)
    | _, some k, _ => s1.putProg k none
    | _, _, some x => { s1 with fen := { s1.fen with ucode := s1.fen.ucode.set x.1 (some x.2) none } }
    | _, _, _ => s1

theorem mpEnd_eq (s : State) (n : Nat) (c : MpCmd) (r : Nat) : s.mpEnd n c r =
    ((((s.mpEffect n c r).set FEN_MP_STATUS.BUSY n 0).set FEN_MP_STATUS.DONE n 1).set FEN_MP_STATUS.RESULT n r).raise (115 + 8 * n) 1 := rfl

/-- Showing a program writes `FEN_MP_SLOT`. -/
theorem mpShow_noRegs (s : State) (key : Nat) (p : Option ModeProg) : (s.mpShow key p).noRegs = s.noRegs := by
  unfold State.mpShow
  dsimp only
  split <;> rfl

/-- The effect reaches the registers, the programs and the microcode. -/
theorem mpEffect_keeps {β : Type} (p : State → β) (hregs : ∀ u v : State, v.noRegs = u.noRegs → p v = p u)
    (hprogs : ∀ (u : State) m, p { u with fen := { u.fen with progs := m } } = p u)
    (hucode : ∀ (u : State) m, p { u with fen := { u.fen with ucode := m } } = p u) (s : State) (n : Nat) (c : MpCmd) (r : Nat) :
    p (s.mpEffect n c r) = p (s.mpTaken n) := by
  have hput (u : State) (key : Nat) (x : Option ModeProg) : p (u.putProg key x) = p u :=
    (hregs _ _ (mpShow_noRegs ..)).trans (hprogs u _)
  unfold State.mpEffect
  dsimp only
  split
  · rfl
  · split
    · exact hput _ _ _
    · exact hput _ _ _
    · exact hucode (s.mpTaken n) _
    · rfl

/-- What every end of a command shows, and what it leaves. -/
def MpEnded (n result : Nat) (s u : State) : Prop :=
  u.get FEN_MP_STATUS.BUSY n = 0 ∧ u.get FEN_MP_STATUS.DONE n = 1 ∧ u.get FEN_MP_STATUS.RESULT n = result
  ∧ u.fen.mpCmd.get n none = none ∧ u.get EVT_SRC.STATUS (115 + 8 * n) = 1 ∧ u.fen.engines = s.fen.engines ∧ u.tbl = s.tbl ∧ u.kst = s.kst

theorem mpEnd_ended {s : State} (hs : Settled s) {n r : Nat} (hn : n < 4) (hr : r < 16) (c : MpCmd) :
    MpEnded n r s (s.mpEnd n c r).flushEvents := by
  have hkeeps {β : Type} (p : State → β) (hregs : ∀ u v : State, v.noRegs = u.noRegs → p v = p u)
      (hprogs : ∀ (u : State) m, p { u with fen := { u.fen with progs := m } } = p u)
      (hucode : ∀ (u : State) m, p { u with fen := { u.fen with ucode := m } } = p u) := mpEffect_keeps p hregs hprogs hucode s n c r
  have hraised : (s.mpEnd n c r).evt.raised = [⟨115 + 8 * n, 1, 0, 0, 0⟩] := by
    have hevt : (s.mpEffect n c r).evt = s.evt :=
      hkeeps State.evt (fun _ _ => part_of_noRegs State.evt fun _ => rfl) (fun _ _ => rfl) fun _ _ => rfl
    rw [mpEnd_eq]
    exact congrArg (· ++ [_]) ((congrArg EvtState.raised hevt).trans hs)
  rw [mpEnd_eq] at hraised ⊢
  have hearly (f : Field) (hf : (f.reg.early && f.fits) = true) := fun u => flushEvents_get_early u f n hf (by omega)
  refine ⟨?_, ?_, ?_, ?_, ?_, ?_, ?_, ?_⟩
  · rw [hearly _ (by decide), raise_get, get_set_disjoint _ (by decide) (by omega) (by omega),
      get_set_disjoint _ (by decide) (by omega) (by omega), get_set_eq _ (by decide) (by decide)]
  · rw [hearly _ (by decide), raise_get, get_set_disjoint _ (by decide) (by omega) (by omega), get_set_eq _ (by decide) (by decide)]
  · rw [hearly _ (by decide), raise_get, get_set_eq _ (by decide) (hr.trans (by decide))]
  · rw [flushEvents_fen]
    exact (hkeeps (·.fen.mpCmd.get n none) (fun _ _ => part_of_noRegs (·.fen.mpCmd.get n none) fun _ => rfl) (fun _ _ => rfl)
      fun _ _ => rfl).trans (KMap.get_erase_same ..)
  · refine flushEvents_get_status _ (fun e he => ?_) _ ⟨⟨115 + 8 * n, 1, 0, 0, 0⟩, ?_, rfl⟩
    · rw [hraised, List.mem_singleton] at he
      subst he
      exact (by omega : 115 + 8 * n < 512)
    · rw [hraised]
      exact List.mem_singleton_self _
  · rw [flushEvents_fen]
    exact hkeeps (·.fen.engines) (fun _ _ => part_of_noRegs (·.fen.engines) fun _ => rfl) (fun _ _ => rfl) fun _ _ => rfl
  · rw [flushEvents_tbl]
    exact hkeeps State.tbl (fun _ _ => part_of_noRegs State.tbl fun _ => rfl) (fun _ _ => rfl) fun _ _ => rfl
  · rw [flushEvents_kst]
    exact hkeeps State.kst (fun _ _ => part_of_noRegs State.kst fun _ => rfl) (fun _ _ => rfl) fun _ _ => rfl

theorem mpEnd_fen (s : State) (n : Nat) (c : MpCmd) (r : Nat) : (s.mpEnd n c r).flushEvents.fen = (s.mpEffect n c r).fen := by
  rw [flushEvents_fen, mpEnd_eq]
  rfl

/-- `FEN_MP_SLOT` is left as the effect shows it. -/
theorem mpEnd_get (s : State) {n : Nat} (hn : n < 4) (c : MpCmd) (r : Nat) {f : Field} {i : Nat} (hi : i < 8192)
    (hf : f.reg = .FEN_MP_SLOT) (hfit : f.fits = true) : (s.mpEnd n c r).flushEvents.get f i = (s.mpEffect n c r).get f i := by
  have hset (u : State) (g : Field) (v : Nat) (hg : g.reg = .FEN_MP_STATUS) (hgfit : g.fits = true) : (u.set g n v).get f i = u.get f i :=
    get_set_ne u g f n i v (by omega) hi hgfit hfit (.inl fun h => by rw [hf, hg] at h; exact absurd h.1 (by decide))
  rw [flushEvents_get_early _ f i (by rw [hf, hfit]; rfl) hi, mpEnd_eq, raise_get, hset _ _ _ rfl (by decide), hset _ _ _ rfl (by decide),
    hset _ _ _ rfl (by decide)]

/-! ### A program placed in a slot, or removed -/

/-- VALID of a set in `FEN_MP_SLOT`. -/
def mpValid (set : Fin 2) : Field := if set = 0 then FEN_MP_SLOT.VALID0 else FEN_MP_SLOT.VALID1

/-- The key under which the model keeps the program of a region, set and slot. -/
def mpKey (n : Fin 4) (set : Fin 2) (slot : Fin 64) : Nat := 128 * n.val + 64 * set.val + slot.val

theorem mpValid_slot (set : Fin 2) : (mpValid set).reg = .FEN_MP_SLOT ∧ (mpValid set).fits = true := by
  revert set
  decide

theorem mpShow_valid (s : State) (n : Fin 4) (set : Fin 2) (slot : Fin 64) (p : Option ModeProg) :
    (s.mpShow (mpKey n set slot) p).get (mpValid set) (64 * n + slot) = natOfBool p.isSome := by
  have hidx : 64 * (mpKey n set slot / 128) + mpKey n set slot % 64 = 64 * n + slot := by unfold mpKey; omega
  have hset : mpKey n set slot / 64 % 2 = set := by unfold mpKey; omega
  have hlt : natOfBool p.isSome < 2 := by cases p.isSome <;> decide
  unfold State.mpShow
  simp only [hidx, hset]
  match set with
  | 0 =>
    exact (get_set_disjoint _ (by decide) (by omega) (by omega)).trans ((get_set_disjoint _ (by decide) (by omega) (by omega)).trans
      ((get_set_disjoint _ (by decide) (by omega) (by omega)).trans (get_set_eq _ (by decide) hlt)))
  | 1 =>
    exact (get_set_disjoint _ (by decide) (by omega) (by omega)).trans ((get_set_disjoint _ (by decide) (by omega) (by omega)).trans
      ((get_set_disjoint _ (by decide) (by omega) (by omega)).trans (get_set_eq _ (by decide) hlt)))

theorem putProg_progs (s : State) (key : Nat) (p : Option ModeProg) : (s.putProg key p).fen.progs = s.fen.progs.set key p none :=
  part_of_noRegs (·.fen.progs) (fun _ => rfl) (mpShow_noRegs ..)

section ends
variable {s : State} {n : Fin 4} {c : MpCmd}

theorem exec_mpEnd (hc : s.fen.mpCmd.get n none = some c) (huse : c.use = none) : exec (.fenMpCmdEnd n) s = finish (s.mpEnd n c c.result) := by
  refine congrArg finish ?_
  rw [hc]
  dsimp only
  rw [huse]

theorem ends_mpEnd_idle (hc : s.fen.mpCmd.get n none = none) : Ends (.fenMpCmdEnd n) s s := by
  refine ends_of_exec rfl ?_
  rw [hc]

theorem mpEffect_failed {n : Nat} (hr : c.result ≠ 0) :
    s.mpEffect n c c.result = s.mpTaken n := if_pos (bne_iff_ne.mpr hr)

theorem mpEffect_install {n key : Nat} {p : ModeProg} (hr : c.result = 0) (hi : c.install = some (key, p)) :
    s.mpEffect n c c.result = State.putProg key (some p) (s.mpTaken n) := by
  simp [State.mpEffect, hr, hi]

theorem mpEffect_remove {n key : Nat} (hr : c.result = 0) (hi : c.install = none) (hrem : c.remove = some key) :
    s.mpEffect n c c.result = State.putProg key none (s.mpTaken n) := by
  simp [State.mpEffect, hr, hi, hrem]

theorem mpEffect_code {n k : Nat} {p : ModeProg} (hr : c.result = 0) (hi : c.install = none) (hrem : c.remove = none)
    (hcode : c.code = some (k, p)) : (s.mpEffect n c c.result).fen.ucode = s.fen.ucode.set k (some p) none
      ∧ (s.mpEffect n c c.result).fen.progs = s.fen.progs := by
  simp only [State.mpEffect, hr, hi, hrem, hcode]
  exact ⟨rfl, rfl⟩

/-- The end of a command that leaves `x` in a slot. -/
theorem answers_mpEnd_put (hs : Settled s) (hc : s.fen.mpCmd.get n none = some c) (huse : c.use = none) (hlt : c.result < 16)
    {set : Fin 2} {slot : Fin 64} {x : Option ModeProg} (heff : s.mpEffect n c c.result =
      State.putProg (mpKey n set slot) x (s.mpTaken n)) :
    Answers (.fenMpCmdEnd n) s fun u => MpEnded n c.result s u ∧ u.fen.progs.get (mpKey n set slot) none = x
      ∧ (∀ k, k ≠ mpKey n set slot → u.fen.progs.get k none = s.fen.progs.get k none)
      ∧ u.get (mpValid set) (64 * n + slot) = natOfBool x.isSome := by
  refine answers_of_exec (exec_mpEnd hc huse) ⟨mpEnd_ended hs n.isLt hlt c, ?_, fun k hk => ?_, ?_⟩
  · rw [mpEnd_fen, heff, putProg_progs, KMap.get_set_same]
  · rw [mpEnd_fen, heff, putProg_progs, KMap.get_set_ne _ _ _ _ _ _ hk]
    rfl
  · obtain ⟨hreg, hfit⟩ := mpValid_slot set
    rw [mpEnd_get s n.isLt c _ (by omega) hreg hfit, heff]
    exact mpShow_valid _ n set slot x

/-- The end of a command that leaves the programs. -/
theorem answers_mpEnd_kept (hs : Settled s) (hc : s.fen.mpCmd.get n none = some c) (huse : c.use = none) (hlt : c.result < 16)
    (hprogs : (s.mpEffect n c c.result).fen.progs = s.fen.progs) :
    Answers (.fenMpCmdEnd n) s fun u => MpEnded n c.result s u ∧ u.fen.progs = s.fen.progs
      ∧ u.fen.ucode = (s.mpEffect n c c.result).fen.ucode := by
  refine answers_of_exec (exec_mpEnd hc huse) ⟨mpEnd_ended hs n.isLt hlt c, ?_, ?_⟩
  · rw [mpEnd_fen, hprogs]
  · rw [mpEnd_fen]

end ends

/-! ### The statistics snapshot (R169) -/

/-- The register that the counters of a direction are copied to. -/
def statReg (rx : Bool) : Reg := if rx then .SAT_RXSTAT else .SAT_TXSTAT

/-- The counters of a record in the register of its direction, the other register zeroed. -/
def State.statWords (n : Nat) (r : StatRec) (s : State) : State :=
  ((s.resetReg .SAT_TXSTAT n).resetReg .SAT_RXSTAT n).forN 8 fun i s => s.setWord (statReg r.rx) n i (BitVec.ofNat 64 (r.ctr i))

/-- The snapshot of an SA as the registers show it while it is copied. -/
def State.statShown (n sa : Nat) (s : State) : State :=
  let r := s.tbl.stat.get sa {}
  (((s.statWords n r).set SAT_STAT_STATUS.DIR n (natOfBool r.rx)).set SAT_STAT_STATUS.SA n sa).set SAT_STAT_STATUS.BUSY n 1

/-- A register's reset leaves every other register. -/
theorem resetReg_word_reg (s : State) {r r' : Reg} {i j w : Nat} (hi : i < 8192) (hj : j < 8192) (hw : w < 8) (hne : r' ≠ r) :
    (s.resetReg r i).word r' j w = s.word r' j w := by
  have h8 := words_le r
  exact forN_holds (fun t => t.word r' j w = s.word r' j w) (fun w s => s.setWord r i w (r.resetWord i w)) r.place.words
    (fun k hk t ht => (word_setWord_reg t r r' i j k w _ hi hj (by omega) hw hne).trans ht) s rfl

theorem statReg_place (rx : Bool) : (statReg rx).place.words = 8 ∧ (statReg rx) ≠ .SAT_STAT_STATUS ∧ statReg (!rx) ≠ statReg rx := by
  cases rx <;> decide

theorem statReg_resetWord (rx : Bool) (n : Fin 4) (i : Fin 8) : (statReg rx).resetWord n i = 0 := by
  cases rx <;> rfl

section stat
variable (s : State) (n : Fin 4) (r : StatRec) (i : Fin 8)

theorem statWords_word : (s.statWords n r).word (statReg r.rx) n i = BitVec.ofNat 64 (r.ctr i) :=
  forN_at (State.word · (statReg r.rx) n i) (fun i s => s.setWord (statReg r.rx) n i (BitVec.ofNat 64 (r.ctr i))) 8 i i.isLt _
    (fun _ => word_setWord_same ..)
    (fun j hj hne t => word_setWord_ne t _ _ n n j i _ (by omega) (by omega) hj i.isLt fun h => hne h.2.2.symm) _

theorem statWords_zeroed : (s.statWords n r).word (statReg !r.rx) n i = 0 := by
  obtain ⟨hwords, -, hother⟩ := statReg_place r.rx
  have hreset : ((s.resetReg .SAT_TXSTAT n).resetReg .SAT_RXSTAT n).word (statReg !r.rx) n i = 0 := by
    cases r.rx with
    | false => exact (resetReg_word _ .SAT_RXSTAT (by omega) i.isLt).trans (statReg_resetWord true n i)
    | true =>
      exact (resetReg_word_reg _ (by omega) (by omega) i.isLt (by decide)).trans
        ((resetReg_word s .SAT_TXSTAT (by omega) i.isLt).trans (statReg_resetWord false n i))
  exact forN_holds (fun t => t.word (statReg !r.rx) n i = 0) _ 8
    (fun k hk t ht => (word_setWord_reg t _ _ n n k i _ (by omega) (by omega) hk i.isLt hother).trans ht) _ hreset

theorem statWords_noRegs : (s.statWords n r).noRegs = s.noRegs := by
  rw [State.statWords, forN_keeps State.noRegs _ (fun _ _ => setWord_noRegs ..), resetReg_noRegs, resetReg_noRegs]

end stat

/-- What the registers show of an SA's snapshot in progress. -/
structure StatShown (n : Fin 4) (sa : Nat) (r : StatRec) (u : State) : Prop where
  busy : u.get SAT_STAT_STATUS.BUSY n = 1
  sa : u.get SAT_STAT_STATUS.SA n = sa
  dir : u.get SAT_STAT_STATUS.DIR n = if r.rx then 1 else 0
  counters : ∀ i : Fin 8, u.word (statReg r.rx) n i = BitVec.ofNat 64 (r.ctr i) ∧ u.word (statReg !r.rx) n i = 0

theorem statShown_shows (s : State) (n : Fin 4) {sa : Nat} (hsa : sa < 65536) : StatShown n sa (s.tbl.stat.get sa {}) (s.statShown n sa) := by
  have hword (u : State) (f : Field) (v : Nat) (rx : Bool) (i : Fin 8) (hf : f.reg = .SAT_STAT_STATUS) (hfit : f.fits = true) :
      (u.set f n v).word (statReg rx) n i = u.word (statReg rx) n i :=
    word_set_reg u f _ n n i v (by omega) (by omega) hfit i.isLt (hf ▸ (statReg_place rx).2.1)
  unfold State.statShown
  generalize s.tbl.stat.get sa {} = r
  refine ⟨?_, ?_, ?_, fun i => ⟨?_, ?_⟩⟩
  · exact get_set_eq _ (by decide) (by decide)
  · exact (get_set_disjoint _ (by decide) (by omega) (by omega)).trans (get_set_eq _ (by decide) hsa)
  · refine (get_set_disjoint _ (by decide) (by omega) (by omega)).trans ((get_set_disjoint _ (by decide) (by omega) (by omega)).trans ?_)
    exact get_set_eq _ (by decide) (by cases r.rx <;> decide)
  · rw [hword _ _ _ _ _ rfl (by decide), hword _ _ _ _ _ rfl (by decide), hword _ _ _ _ _ rfl (by decide), statWords_word]
  · rw [hword _ _ _ _ _ rfl (by decide), hword _ _ _ _ _ rfl (by decide), hword _ _ _ _ _ rfl (by decide), statWords_zeroed]

theorem statShown_noRegs (s : State) (n : Fin 4) (sa : Nat) : (s.statShown n sa).noRegs = s.noRegs := by
  simp only [State.statShown, set_noRegs, statWords_noRegs]

/-- The records after a snapshot, which may clear the SA's. -/
def clearedStat (m : KMap StatRec) (sa : Nat) (clear : Bool) : KMap StatRec := if clear then m.set sa { rx := (m.get sa {}).rx } {} else m

section statCmd
variable {s : State} {n : Fin 4} {sa : Fin 65536} (clear : Bool)

theorem ends_stat_busy (hb : s.flag SAT_STAT_STATUS.BUSY n = true) : Ends (.satStatCmd n sa clear) s s :=
  ends_of_exec rfl (if_pos hb)

theorem ends_stat_foreign (hb : s.flag SAT_STAT_STATUS.BUSY n = false) (hregion : sa.val / 16384 ≠ n) :
    Ends (.satStatCmd n sa clear) s (s.set SAT_STAT_STATUS.ERR n 1) := by
  refine ends_of_exec rfl ?_
  rw [State.statCmd, hb, saRegion, if_neg Bool.false_ne_true, if_pos (bne_iff_ne.mpr hregion)]

theorem statCmd_own (hb : s.flag SAT_STAT_STATUS.BUSY n = false) (hregion : sa.val / 16384 = n.val) :
    s.statCmd n sa clear = { s.statShown n sa with tbl := { s.tbl with stat := clearedStat s.tbl.stat sa clear } } := by
  have htbl : (s.statShown n sa).tbl = s.tbl := part_of_noRegs State.tbl (fun _ => rfl) (statShown_noRegs s n sa)
  have hshown : (s.statCopy n sa).set SAT_STAT_STATUS.BUSY n 1 = s.statShown n sa := rfl
  rw [State.statCmd, hb, saRegion, hregion, if_neg Bool.false_ne_true, bne_self_eq_false, if_neg Bool.false_ne_true]
  simp only [hshown]
  generalize s.statShown n sa = u at htbl ⊢
  cases clear with
  | false => exact congrArg (fun t => { u with tbl := t }) htbl
  | true => exact congrArg (fun t => { u with tbl := { t with stat := t.stat.set sa { rx := (s.tbl.stat.get sa {}).rx } {} } }) htbl

/-- R169: the snapshot of an SA of the region. -/
theorem answers_stat_own (hs : Settled s) (hb : s.flag SAT_STAT_STATUS.BUSY n = false) (hregion : sa.val / 16384 = n.val) :
    Answers (.satStatCmd n sa clear) s fun u => StatShown n sa (s.tbl.stat.get sa {}) u
      ∧ u.tbl = { s.tbl with stat := clearedStat s.tbl.stat sa clear } ∧ { u with regs := s.regs, tbl := s.tbl } = s := by
  have hexec : exec (.satStatCmd n sa clear) s = finish (s.statCmd n sa clear) := rfl
  have hkept := statShown_noRegs s n sa
  have hshows := statShown_shows s n sa.isLt
  rw [statCmd_own clear hb hregion] at hexec
  generalize s.statShown n sa = u at hexec hkept hshows
  obtain ⟨hbusy, hsa, hdir, hcounters⟩ := hshows
  refine answers_of_exec_quiet hexec ?_ ⟨⟨hbusy, hsa, hdir, hcounters⟩, rfl, ?_⟩
  · exact (part_of_noRegs (·.evt.raised) (fun _ => rfl) hkept).trans hs
  · exact congrArg (fun x : State => { x with regs := s.regs, tbl := s.tbl }) hkept

theorem clearedStat_same (m : KMap StatRec) (sa : Nat) (clear : Bool) :
    (clearedStat m sa clear).get sa {} = if clear then { rx := (m.get sa {}).rx } else m.get sa {} := by
  cases clear with
  | false => rfl
  | true => exact KMap.get_set_same ..

theorem clearedStat_ne (m : KMap StatRec) (clear : Bool) {sa j : Nat} (h : j ≠ sa) : (clearedStat m sa clear).get j {} = m.get j {} := by
  cases clear with
  | false => rfl
  | true => exact KMap.get_set_ne _ _ _ _ _ _ h

end statCmd

end Sys2Proof.Machine

namespace Sys2Proof

open Machine

/-- Settles O27: the commands by what they begin, their end by what it installs, and the snapshot of an SA's counters. -/
theorem modeProgramCommands : Obligations.ModeProgramCommands := by
  unfold Obligations.ModeProgramCommands
  intro n set slot kh image pub s key begun
  refine ⟨?busy, fun hb => ⟨ends_load_fault hb, ends_ucode_fault hb, fun img hsigner hlen hhash hsigned => ?oroas, ?named, ?free⟩,
    ends_mpEnd_idle, fun c hs hc huse hlt => ⟨?failed, ?install, ?remove, ?code⟩,
    fun sa clear => ⟨ends_stat_busy clear, ends_stat_foreign clear, ?own, rfl⟩⟩
  case busy =>
    intro hb c hc
    simp only [List.mem_cons, List.not_mem_nil, or_false] at hc
    obtain rfl | rfl | rfl := hc
    · exact ends_of_exec rfl (mpLoadBegin_busy _ image hb)
    · exact ends_unload_busy hb
    · exact ends_of_exec rfl (mpLoadBegin_busy _ image hb)
  case oroas =>
    refine ⟨fun hheader hlarge huse => ends_load_ok hb hsigner (mpResult_oroas hsigner hlen hhash hsigned hheader hlarge ?_),
      fun hheader hlarge huse => ends_ucode_ok hb hsigner (mpResult_oroas hsigner hlen hhash hsigned hheader hlarge huse)⟩
    obtain hfree | hidle := huse
    · exact congrArg (·.isSome && _) hfree
    · rw [hidle, Bool.and_false]
  case named =>
    rintro ⟨sa, a, hmem, hregion, hlife, hslot⟩
    exact ends_unload hb (slotNamed_of_mem hmem hregion hlife hslot)
  case free => exact fun h => ends_unload hb (not_slotNamed h)
  case failed =>
    intro hr
    have heff := mpEffect_failed (s := s) (n := n) hr
    obtain ⟨u, hu, hended, hprogs, hucode⟩ := answers_mpEnd_kept hs hc huse hlt (congrArg (·.fen.progs) heff)
    exact ⟨u, hu, hended, hprogs, hucode.trans (congrArg (·.fen.ucode) heff)⟩
  case install =>
    intro p hr hi
    obtain ⟨u, hu, hended, hput⟩ := answers_mpEnd_put hs hc huse hlt (mpEffect_install hr hi)
    exact ⟨u, hu, hended, hput⟩
  case remove =>
    intro hr hi hrem
    obtain ⟨u, hu, hended, hput⟩ := answers_mpEnd_put hs hc huse hlt (mpEffect_remove hr hi hrem)
    exact ⟨u, hu, hended, hput⟩
  case code =>
    intro k p hr hi hrem hcode
    obtain ⟨hcodes, hkept⟩ := mpEffect_code (s := s) (n := n) hr hi hrem hcode
    obtain ⟨u, hu, hended, hprogs, hucode⟩ := answers_mpEnd_kept hs hc huse hlt hkept
    refine ⟨u, hu, hended, ?_, hprogs⟩
    rw [hucode, hcodes, KMap.get_set_same]
  case own =>
    intro hs hb hregion
    obtain ⟨u, hu, ⟨hbusy, hsa, hdir, hcounters⟩, htbl, hkept⟩ := answers_stat_own clear hs hb hregion
    have hother : statReg (!(s.tbl.stat.get sa {}).rx) = if (s.tbl.stat.get sa {}).rx then .SAT_TXSTAT else .SAT_RXSTAT := by
      cases (s.tbl.stat.get sa {}).rx <;> rfl
    rw [hother] at hcounters
    refine ⟨u, hu, hbusy, hsa, hdir, hcounters, ?_, fun j hj => ?_, ?_, ?_, hkept⟩
    · rw [htbl]
      exact clearedStat_same ..
    · rw [htbl]
      exact clearedStat_ne _ clear hj
    · rw [htbl]
    · rw [htbl]

end Sys2Proof
end

section
/-!
PROOFS. The Kraow transmitter (R147, R203, R213, R214, R359): what building a frame's overhead and payload leaves, the engine that ciphers
them, and the frame that is sent.
-/

namespace Sys2Proof.Machine

/-! ### What a line port has sent -/

/-- The Kraow frames that a line port has handed to its PCS, and the FRAME_COUNT of the next one. -/
def State.krwOut (s : State) (p : Nat) : List (List (BitVec 2 × List Byte)) × Nat := ((s.krwPort p).sent, (s.krwPort p).frameCount)

@[simp] theorem onKrw_krwPort_same (s : State) (p : Nat) (f : KrwPort → KrwPort) : (s.onKrw p f).krwPort p = f (s.krwPort p) :=
  KMap.get_set_same _ _ _ _

theorem onKrw_krwPort_ne (s : State) {p q : Nat} (f : KrwPort → KrwPort) (hne : q ≠ p) : (s.onKrw p f).krwPort q = s.krwPort q :=
  KMap.get_set_ne _ _ _ _ _ _ hne

/-- What a change of one framer keeps of every framer, it keeps of each. -/
theorem onKrw_part {β : Type} (v : KrwPort → β) (s : State) (p q : Nat) (f : KrwPort → KrwPort) (h : ∀ k, v (f k) = v k) :
    v ((s.onKrw p f).krwPort q) = v (s.krwPort q) := by
  by_cases hq : q = p
  · rw [hq, onKrw_krwPort_same, h]
  · rw [onKrw_krwPort_ne s f hq]

theorem onKrw_krwOut (s : State) (p q : Nat) (f : KrwPort → KrwPort)
    (h : ∀ k, ((f k).sent, (f k).frameCount) = (k.sent, k.frameCount)) : (s.onKrw p f).krwOut q = s.krwOut q :=
  onKrw_part (fun k => (k.sent, k.frameCount)) s p q f h

theorem krwOut_of_krw {s t : State} (h : t.krw = s.krw) (p : Nat) : t.krwOut p = s.krwOut p := by
  rw [State.krwOut, State.krwPort, h]
  rfl

@[simp] theorem onTrib_krwOut (s : State) (k p : Nat) (f : Trib → Trib) : (s.onTrib k f).krwOut p = s.krwOut p := rfl
@[simp] theorem set_krwOut (s : State) (f : Field) (i v p : Nat) : (s.set f i v).krwOut p = s.krwOut p := rfl
@[simp] theorem raise_krwOut (s : State) (a b c d e p : Nat) : (s.raise a b c d e).krwOut p = s.krwOut p := rfl

@[simp] theorem pmInc_krwOut (s : State) (q i d p : Nat) : (s.pmInc q i d).krwOut p = s.krwOut p :=
  onKrw_krwOut _ _ _ _ fun _ => rfl

theorem when_krwOut {s : State} {c : Bool} {f : State → State} {q : Nat} (h : (f s).krwOut q = s.krwOut q) :
    (s.when c f).krwOut q = s.krwOut q := when_keeps (State.krwOut · q) s c f h

theorem forN_krwOut {f : Nat → State → State} {q : Nat} (h : ∀ k s, (f k s).krwOut q = s.krwOut q) (n : Nat) (s : State) :
    (s.forN n f).krwOut q = s.krwOut q := forN_keeps (State.krwOut · q) f h n s

/-! ### Changes beside the framers -/

@[simp] theorem stat_krw (s : State) (sa i d : Nat) : (s.stat sa i d).krw = s.krw := by
  unfold State.stat
  split <;> rfl

@[simp] theorem onSc_krw (s : State) (i : Nat) (f : ScEntry → ScEntry) : (s.onSc i f).krw = s.krw := by
  unfold State.onSc
  split <;> rfl

@[simp] theorem onSa_krw (s : State) (i : Nat) (f : SaEntry → SaEntry) : (s.onSa i f).krw = s.krw := by
  unfold State.onSa
  split <;> rfl

@[simp] theorem saRetire_krw (s : State) (sa : Nat) : (s.saRetire sa).krw = s.krw := by
  unfold State.saRetire
  split
  · split
    · exact when_keeps State.krw _ _ _ rfl
    · rfl
  · rfl

@[simp] theorem saActivateTx_krw (s : State) (sa : Nat) : (s.saActivateTx sa).krw = s.krw := by
  unfold State.saActivateTx
  rw [onSa_krw]
  split
  · split
    · rfl
    · exact saRetire_krw ..
  · rfl

/-! ### A multiframe boundary -/

theorem keyBoundary_krwOut (s : State) (p q : Nat) : (s.keyBoundary p).krwOut q = s.krwOut q := by
  unfold State.keyBoundary
  split
  · dsimp only
    split
    · rfl
    · split
      · rfl
      · rw [raise_krwOut, set_krwOut, set_krwOut, onKrw_krwOut, set_krwOut, set_krwOut, set_krwOut, krwOut_of_krw (saActivateTx_krw ..),
          krwOut_of_krw (onSc_krw ..)]
        exact fun _ => rfl
  · rfl

theorem tribBegin_krwOut (s : State) (k q : Nat) : (s.tribBegin k).krwOut q = s.krwOut q := by
  unfold State.tribBegin
  dsimp only
  split <;> rfl

theorem tribStop_krwOut (s : State) (k q : Nat) : (s.tribStop k).krwOut q = s.krwOut q := by
  unfold State.tribStop
  dsimp only
  split <;> rfl

theorem abortCrates_krwOut (s : State) (k q : Nat) : (s.abortCrates k).krwOut q = s.krwOut q := by
  unfold State.abortCrates
  split <;> rfl

theorem nextGroup_krwOut (s : State) (k q : Nat) : (s.nextGroup k).2.krwOut q = s.krwOut q := by
  unfold State.nextGroup
  dsimp only
  split <;> rfl

theorem fillGroups_krwOut (f k n : Nat) (l : List Byte) (s : State) (q : Nat) : (s.fillGroups f k n l).2.krwOut q = s.krwOut q := by
  induction f generalizing l s with
  | zero => rfl
  | succ f ih =>
    unfold State.fillGroups
    split
    · rfl
    · exact (ih _ _).trans (nextGroup_krwOut s k q)

theorem mapperTake_krwOut (s : State) (k : Nat) (it : Item) (q : Nat) : (s.mapperTake k it).krwOut q = s.krwOut q := by
  unfold State.mapperTake
  refine (when_krwOut ?_).trans rfl
  dsimp only
  split
  · exact krwOut_of_krw (stat_krw ..) q
  · rfl

theorem tribCrates_krwOut (s : State) (k q : Nat) : ∀ x ∈ s.tribCrates k, x.2.krwOut q = s.krwOut q := by
  have htake (it : Item) : (s.mapperTake k it).krwOut q = s.krwOut q := mapperTake_krwOut s k it q
  have hnext (u : State) (r : CrateRun) : (u.nextCrate k r).2.krwOut q = u.krwOut q := rfl
  have hif (c : Prop) [Decidable c] (x y : List Byte × State) (hx : x.2.krwOut q = s.krwOut q) (hy : y.2.krwOut q = s.krwOut q) :
      (if c then x else y).2.krwOut q = s.krwOut q := by split <;> assumption
  unfold State.tribCrates
  dsimp only
  split
  · simpa only [Option.mem_some_iff, forall_eq'] using htake _
  · simpa only [Option.mem_some_iff, forall_eq'] using hnext s _
  · intro x hx
    exact absurd hx (Option.not_mem_none x)
  all_goals
    simp only [Option.mem_some_iff, forall_eq']
    exact hif _ _ _ ((hnext _ _).trans (htake _)) (htake _)

theorem fillCrates_krwOut (f k n : Nat) (idle : Bool) (l : List Byte) (s : State) (q : Nat) :
    (s.fillCrates f k n idle l).2.krwOut q = s.krwOut q := by
  induction f generalizing l s with
  | zero => rfl
  | succ f ih =>
    unfold State.fillCrates
    split
    · rfl
    · split
      · exact ih _ _
      · next c t h =>
        refine (ih _ _).trans ?_
        cases idle
        · exact tribCrates_krwOut s k q _ h
        · exact absurd h nofun

theorem tribPeriod_krwOut (s : State) (p t q : Nat) : (s.tribPeriod p t).krwOut q = s.krwOut q := by
  have habort (c : Bool) : (s.when c fun s => s.abortCrates (32 * p + t)).krwOut q = s.krwOut q :=
    when_krwOut (abortCrates_krwOut ..)
  unfold State.tribPeriod
  dsimp only
  split
  · exact habort _
  · split
    · split
      · rw [onTrib_krwOut]
        split
        · rw [fillGroups_krwOut, habort]
        · exact habort _
      · rw [onTrib_krwOut, habort]
    · rw [onTrib_krwOut, fillCrates_krwOut, habort]

theorem txBoundary_eq (s : State) (p fn : Nat) : s.txBoundary p fn =
    (s.when (fn == 0) fun s => (s.keyBoundary p).forN 32 fun t s => (s.tribStop (32 * p + t)).tribBegin (32 * p + t)).when (fn % 4 == 0)
      fun s => s.forN 32 fun t s => s.tribPeriod p t := rfl

theorem txBoundary_krwOut (s : State) (p fn q : Nat) : (s.txBoundary p fn).krwOut q = s.krwOut q := by
  have htrib (t : Nat) (u : State) : ((u.tribStop (32 * p + t)).tribBegin (32 * p + t)).krwOut q = u.krwOut q := by
    rw [tribBegin_krwOut, tribStop_krwOut]
  have hkeys (u : State) : (u.when (fn == 0) fun s => (s.keyBoundary p).forN 32 fun t s =>
      (s.tribStop (32 * p + t)).tribBegin (32 * p + t)).krwOut q = u.krwOut q := by
    apply when_krwOut
    exact (forN_krwOut htrib 32 _).trans (keyBoundary_krwOut u p q)
  have hperiods (u : State) : (u.when (fn % 4 == 0) fun s => s.forN 32 fun t s => s.tribPeriod p t).krwOut q = u.krwOut q := by
    apply when_krwOut
    exact forN_krwOut (fun t u => tribPeriod_krwOut u p t q) 32 u
  rw [txBoundary_eq, hperiods, hkeys]

theorem takeBlocks_krwPort (s : State) (p : Nat) (blocks : List (Fin 32 × BitVec 2 × BitVec 64)) (q : Nat) :
    (s.takeBlocks p blocks).krwPort q = s.krwPort q := by
  refine forL_keeps (State.krwPort · q) _ (fun b u => ?_) blocks s
  dsimp only
  split <;> rfl

/-! ### Overhead and payload -/

/-- `g` reads nothing of what the transmitter changes as it builds a frame: its tributaries, what its framers hold beside the frames sent
and their number, and the registers of the key switch and of the tributaries' statistics. -/
structure BuildBlind {β : Type} (g : State → β) : Prop where
  trib : ∀ s k f, g (State.onTrib k f s) = g s
  krw : ∀ s p f, (∀ k : KrwPort, ((f k).sent, (f k).frameCount) = (k.sent, k.frameCount)) → g (State.onKrw p f s) = g s
  regs : ∀ s f i v, f.reg = .KFR_KEYSW ∨ f.reg = .KFR_TRIB_STAT → g (State.set s f i v) = g s

section

variable {β : Type} {g : State → β} (hg : BuildBlind g)

include hg

theorem BuildBlind.pmInc (s : State) (p i d : Nat) : g (s.pmInc p i d) = g s := hg.krw _ _ _ fun _ => rfl

theorem BuildBlind.statusByte (s : State) (p : Nat) (keyless : Bool) : g (s.statusByte p keyless).2 = g s := by
  unfold State.statusByte
  dsimp only
  apply hg.krw
  exact fun _ => rfl

theorem BuildBlind.tribPointer (s : State) (p t : Nat) (fill : Option Bool) : g (s.tribPointer p t fill).2 = g s := by
  have hcount (u : State) (f : Field) (hf : f.reg = .KFR_TRIB_STAT) : g ((u.inc f (32 * p + t)).pmInc p 7 1) = g u :=
    (hg.pmInc _ _ _ _).trans (hg.regs _ _ _ _ (Or.inr hf))
  unfold State.tribPointer
  dsimp only
  split
  · rfl
  · split
    · dsimp only
      rw [hg.trib]
    · dsimp only
      rw [apply_ite g, apply_ite g, hcount _ KFR_TRIB_STAT.DEC_TX rfl, hcount _ KFR_TRIB_STAT.INC_TX rfl, ite_self, ite_self, hg.trib]

theorem BuildBlind.pointers (s : State) (p fn : Nat) (fills : List (Fin 32 × Bool)) : g (s.pointers p fn fills).2 = g s := by
  unfold State.pointers
  exact List.foldlRecOn (motive := fun x : List Byte × State => g x.2 = g s) _ _ rfl fun x hx j _ => (hg.tribPointer x.2 ..).trans hx

theorem BuildBlind.ecArea (s : State) (p : Nat) (keyed : Bool) (mask : List Bool) : g (s.ecArea p keyed mask).2 = g s := by
  unfold State.ecArea
  dsimp only
  split
  · dsimp only
    apply hg.krw
    exact fun _ => rfl
  · dsimp only
    apply hg.krw
    exact fun _ => rfl

theorem BuildBlind.payload (s : State) (p : Nat) : g (s.payload p).2 = g s := by
  unfold State.payload
  refine List.foldlRecOn (motive := fun x : List Byte × State => g x.2 = g s) _ _ rfl fun x hx t _ => ?_
  dsimp only
  split
  · rw [hg.trib, hx]
  · exact hx

end

theorem krwOut_buildBlind (q : Nat) : BuildBlind (State.krwOut · q) where
  trib _ _ _ := rfl
  krw s p f h := onKrw_krwOut s p q f h
  regs _ _ _ _ _ := rfl

/-- A write of a register word leaves every word of a register that stands before it in the list of registers, whatever its index. -/
theorem word_setWord_before (s : State) {r r' : Reg} (i i' w w' : Nat) (v : Word) (h : r'.ctorIdx < r.ctorIdx) (hi : i' < 8192) (hw : w' < 8) :
    (s.setWord r i w v).word r' i' w' = s.word r' i' w' := by
  unfold State.word State.setWord
  refine KMap.get_set_ne _ _ _ _ _ _ ?_
  unfold regKey
  omega

/-- What the engines and the key store are asked about a Kraow frame: the state without its framers and its registers, but for those of
the pods. -/
def State.engineView (s : State) : State × (Fin 8192 → Fin 8 → Word) := ({ s with regs := [], krw := {} }, fun i w => s.word .FEN_POD_CTRL i w)

theorem set_engineView (s : State) (f : Field) (i v : Nat) (h : Reg.FEN_POD_CTRL.ctorIdx < f.reg.ctorIdx) :
    (s.set f i v).engineView = s.engineView :=
  Prod.ext rfl (funext fun j => funext fun w => word_setWord_before s i j f.word w _ h j.isLt w.isLt)

theorem engineView_buildBlind : BuildBlind State.engineView where
  trib _ _ _ := rfl
  krw _ _ _ _ := rfl
  regs s f i v h := set_engineView s f i v (by rcases h with h | h <;> rw [h] <;> decide)

section

variable {s t : State} (h : t.engineView = s.engineView)

include h

theorem part_of_engineView {β : Type} (g : State → β) (hg : ∀ s : State, g s.engineView.1 = g s) : g t = g s := by
  rw [← hg t, h, hg]

theorem get_of_engineView {f : Field} {i : Nat} (hf : f.reg = .FEN_POD_CTRL) (hw : f.word < 8) (hi : i < 8192) : t.get f i = s.get f i := by
  have hword : t.word .FEN_POD_CTRL i f.word = s.word .FEN_POD_CTRL i f.word :=
    congrArg (fun x : State × (Fin 8192 → Fin 8 → Word) => x.2 ⟨i, hi⟩ ⟨f.word, hw⟩) h
  rw [State.get, hf, hword, State.get, hf]

theorem usableKey?_of_engineView (kh : Nat) : t.usableKey? kh = s.usableKey? kh :=
  part_of_engineView h (State.usableKey? · kh) fun _ => rfl

theorem saKeySalt_of_engineView (sa : Nat) : t.saKeySalt sa = s.saKeySalt sa := part_of_engineView h (State.saKeySalt · sa) fun _ => rfl

theorem krwWork_of_engineView (p sa fc : Nat) (pay : List Byte) : t.krwWork p sa fc pay = s.krwWork p sa fc pay :=
  part_of_engineView h (fun u => u.krwWork p sa fc pay) fun _ => rfl

theorem rotation_of_engineView {n : Nat} (hn : n < 4) : t.rotation n = s.rotation n := by
  refine List.filter_congr fun e he => ?_
  have he := List.mem_range.mp he
  rw [get_of_engineView h rfl (by decide) (by omega)]

theorem krwEngine_of_engineView {p : Nat} (hp : p < 32) : t.krwEngine p = s.krwEngine p := by
  have hptr : (t.seq (16 * (p / 8) + lineSeq p)) = s.seq (16 * (p / 8) + lineSeq p) := part_of_engineView h (State.seq · _) fun _ => rfl
  have hroom : (fun e => t.inboxRoom (p / 8) e false) = fun e => s.inboxRoom (p / 8) e false :=
    part_of_engineView h (fun u e => u.inboxRoom (p / 8) e false) fun _ => rfl
  rw [State.krwEngine, State.krwEngine, State.readyEngine, State.readyEngine, State.nextEngine, State.nextEngine,
    rotation_of_engineView h (by omega), hptr, hroom]

theorem progServes_of_engineView {k : Nat} (hk : k < 65536) (w : WorkItem) : t.progServes k w = s.progServes k w := by
  have hset : t.engineSet k = s.engineSet k := get_of_engineView h rfl (by decide) (by omega)
  have hslot : t.itemSlot w = s.itemSlot w := part_of_engineView h (State.itemSlot · w) fun _ => rfl
  have hprogs : t.fen.progs = s.fen.progs := part_of_engineView h (fun u => u.fen.progs) fun _ => rfl
  rw [State.progServes, State.progServes, State.progOf, State.progOf, hset, hslot, hprogs]

end

/-- What a frame carries before its tag (Tables 6-2 to 6-4): its overhead and its payload under the SA that protects it (R213, R236, R256),
and the state in which both have been built. -/
def State.krwBuild (p fc : Nat) (fills : List (Fin 32 × Bool)) (sa : Option Nat) (s : State) : (List Byte × List Byte) × State :=
  let fn := fc % 256
  let cur := sa.elim 0 (· % 4)
  let count := s.get KFR_KEYSW.TX_COUNT p
  let next := if count == 0 then cur else s.get KFR_KEYSW.TX_NEXT p
  let s1 := (s.set KFR_KEYSW.TX_CUR p cur).set KFR_KEYSW.TX_NEXT p next
  let iv := ivOf 3 0 0 fc (sa.elim ([], 0) s.saKeySalt).2
  let (b3, s2) := s1.statusByte p sa.isNone
  let (ptr, s3) := s2.pointers p fn fills
  let (ec, s4) := s3.ecArea p (!sa.isNone) (if sa.isSome then ecMask (sa.elim ([], 0) s.saKeySalt).1 iv else [])
  let (pay, s5) := s4.payload p
  let tti := BitVec.ofNat 8 (s.get KFR_TTI_TX.TTI (8 * p + fn % 64 / 8) / 2 ^ (8 * (fn % 8)))
  (([tti, BitVec.ofNat 8 (s.get KFR_TRIB.LABEL_TX (32 * p + fn % 32)), BitVec.ofNat 8 (cur * 64 + next * 16 + count), b3,
    BitVec.ofNat 8 (s.krwPort p).txBip] ++ ptr ++ ec ++ beBytes 8 fc ++ [0, 0, 0], pay), s5)

/-- R203, R359, R565: a whole Kraow frame is handed to the PCS, and what follows from its FRAME_COUNT. -/
def State.krwLaunch (p fc : Nat) (frame : List Byte) (s : State) : State :=
  let s1 := s.onKrw p fun k => { k with frameCount := fc + 1, waited := false, txBip := bipOf frame, sent := k.sent ++ [krwBlocks frame] }
  let s2 := s1.forN 32 fun t s => s.onTrib (32 * p + t) fun x => { x with wait := x.wait - 1 }
  (s2.krwMidpoint p fc).ttSend p fc

section

variable {s b : State} {p fc : Nat} (fills : List (Fin 32 × Bool)) (hb : s.txBoundary p (fc % 256) = b)
  (hclear : b.flag KFR_CFG.TEST_CLEAR p = false)

include hb hclear

/-- R213: a frame under no SA has no body. -/
theorem krwSend_keyless (hsa : b.krwTxSa p = none) : s.krwSend p fc fills =
    (b.krwBuild p fc fills none).2.krwLaunch p fc (markerBlock (fc % 256) ++ (b.krwBuild p fc fills none).1.1 ++ List.replicate 8128 0
      ++ List.replicate 16 0) := by
  unfold State.krwSend State.krwBuild State.krwLaunch
  simp only [hb, hclear, hsa, Bool.false_eq_true, if_false, Option.isNone_none, Option.elim_none, Bool.not_false, Bool.and_true, if_true]

section

variable {a : Nat} (hsa : b.krwTxSa p = some a)

include hsa

/-- R697: a frame under an SA waits while its engine does not seal it. -/
theorem krwSend_waits (hseal : (b.krwBuild p fc fills (some a)).2.krwSeal p a fc (ivOf 3 0 0 fc (b.saKeySalt a).2)
    (b.krwBuild p fc fills (some a)).1.1 (b.krwBuild p fc fills (some a)).1.2 = none) : s.krwSend p fc fills = s := by
  unfold State.krwBuild at hseal
  unfold State.krwSend
  simp only [hb, hclear, hsa, Bool.false_eq_true, if_false, Option.isNone_some, Option.elim_some, Bool.not_false, Bool.and_true] at hseal ⊢
  rw [hseal]

/-- R147: a frame under an SA carries the body and the tag that its engine gives it. -/
theorem krwSend_sealed {body tag : List Byte} {t : State} (hseal : (b.krwBuild p fc fills (some a)).2.krwSeal p a fc
    (ivOf 3 0 0 fc (b.saKeySalt a).2) (b.krwBuild p fc fills (some a)).1.1 (b.krwBuild p fc fills (some a)).1.2 = some ((body, tag), t)) :
    s.krwSend p fc fills = t.krwLaunch p fc (markerBlock (fc % 256) ++ (b.krwBuild p fc fills (some a)).1.1 ++ body ++ tag) := by
  unfold State.krwBuild at hseal ⊢
  unfold State.krwSend State.krwLaunch
  simp only [hb, hclear, hsa, Bool.false_eq_true, if_false, Option.isNone_some, Option.elim_some, Bool.not_false, Bool.and_true] at hseal ⊢
  rw [hseal]

end

end

theorem krwBuild_keeps {β : Type} {g : State → β} (hg : BuildBlind g) (s : State) (p fc : Nat) (fills : List (Fin 32 × Bool))
    (sa : Option Nat) : g (s.krwBuild p fc fills sa).2 = g s := by
  unfold State.krwBuild
  dsimp only
  rw [hg.payload, hg.ecArea, hg.pointers, hg.statusByte, hg.regs _ _ _ _ (Or.inl rfl), hg.regs _ _ _ _ (Or.inl rfl)]

theorem pointers_length (s : State) (p fn : Nat) (fills : List (Fin 32 × Bool)) : (s.pointers p fn fills).1.length = 16 := by
  have hfold (l : List Nat) (f : Nat → State → Nat × State) (x : List Byte × State) :
      (l.foldl (fun x j => (x.1 ++ beBytes 2 (f j x.2).1, (f j x.2).2)) x).1.length = x.1.length + 2 * l.length := by
    induction l generalizing x with
    | nil => rfl
    | cons j l ih =>
      rw [List.foldl_cons, ih, List.length_append, beBytes_length, List.length_cons]
      omega
  unfold State.pointers
  dsimp only
  rw [hfold (List.range 8) fun j u => u.tribPointer p (4 * j + fn % 4) ((fills.find? fun f => f.1.val == 4 * j + fn % 4).map (·.2))]
  rfl

theorem ecArea_length (s : State) (p : Nat) (keyed : Bool) (mask : List Bool) : (s.ecArea p keyed mask).1.length = 8 := by
  unfold State.ecArea
  dsimp only
  split <;> exact beBytes_length ..

/-- Bit 1 of B3 (R213) is the mark of a keyless frame. -/
theorem statusByte_keyless (s : State) (p : Nat) (keyless : Bool) : (s.statusByte p keyless).1.toNat / 2 % 2 = natOfBool keyless := by
  have hbit (b : Bool) : natOfBool b ≤ 1 := by cases b <;> decide
  have hk := hbit keyless
  have hs := hbit (s.selected p)
  unfold State.statusByte
  dsimp only
  rw [BitVec.toNat_ofNat]
  omega

/-- The overhead of a frame (Table 6-2): 40 octets with the keyless mark in B3, the last eleven of them FRAME_COUNT and three zeros. -/
theorem krwBuild_overhead (s : State) (p fc : Nat) (fills : List (Fin 32 × Bool)) (sa : Option Nat) :
    let oh := (s.krwBuild p fc fills sa).1.1
    oh.length = 40 ∧ oh.drop 29 = beBytes 8 fc ++ [0, 0, 0] ∧ (oh.getD 3 0).toNat / 2 % 2 = natOfBool sa.isNone := by
  unfold State.krwBuild
  dsimp only
  refine ⟨?_, ?_, statusByte_keyless _ p _⟩
  · simp only [List.length_append, List.length_cons, List.length_nil, pointers_length, ecArea_length, beBytes_length]
  · rw [List.append_assoc _ (beBytes 8 fc)]
    refine List.drop_left' ?_
    simp only [List.length_append, List.length_cons, List.length_nil, pointers_length, ecArea_length]

/-! ### The engine of a frame -/

theorem ksaPlace_keeps {β : Type} (g : State → β) {n e q sa pn want : Nat} (heng : ∀ s k f, g (State.onEng k f s) = g s)
    (hdrop : ∀ s k p, g (State.dropSlots n k p s) = g s) (s : State) : g (s.ksaPlace n e q sa pn want) = g s := by
  unfold State.ksaPlace
  extract_lets _ slot s1
  have hs1 : g s1 = g s := by
    unfold s1
    split
    · split
      · exact hdrop _ _ _
      · rfl
    · rfl
  split
  · exact (heng _ _ _).trans hs1
  · exact hs1

/-- R110: the requests that follow a dispatch touch the region's slots and the sequencer. -/
theorem ksaRequests_keeps {β : Type} (g : State → β) {n q ptr : Nat} {w : WorkItem} (heng : ∀ s k f, g (State.onEng k f s) = g s)
    (hseq : ∀ s k f, g (State.onSeq k f s) = g s) (hdrop : ∀ s k p, g (State.dropSlots n k p s) = g s) (s : State) :
    g (s.ksaRequests n q ptr w) = g s := by
  unfold State.ksaRequests
  split
  · dsimp only
    rw [hseq, forL_keeps g _ fun r u => ksaPlace_keeps g heng hdrop u, forL_keeps g _ fun r u => hdrop u _ _]
  · rfl

/-- What a Kraow frame's dispatch to its engine leaves (R105, R113, R115). -/
theorem krwDispatch_keeps {β : Type} (g : State → β) {n : Nat} (heng : ∀ s k f, g (State.onEng k f s) = g s)
    (hseq : ∀ s k f, g (State.onSeq k f s) = g s) (hdrop : ∀ s k p, g (State.dropSlots n k p s) = g s)
    (hhit : ∀ s, g (State.inc s FEN_KSA_CNT.HIT n) = g s) (hpmc : ∀ s e, g (State.pmcEvent s n e 0 1) = g s) (e : Nat) (w : WorkItem)
    (s : State) : g (s.krwDispatch n e w) = g s := by
  unfold State.krwDispatch
  dsimp only
  rw [when_keeps g _ _ _ (ksaRequests_keeps g heng hseq hdrop _), hpmc, hseq, hdrop, when_keeps g]
  rw [hpmc, hhit, heng]

@[simp] theorem krwDispatch_krw (s : State) (n e : Nat) (w : WorkItem) : (s.krwDispatch n e w).krw = s.krw :=
  krwDispatch_keeps State.krw (fun _ _ _ => rfl) (fun _ _ _ => rfl)
    (fun u _ _ => dropSlots_keeps State.krw u _ _ _ rfl fun _ _ => part_of_noRegs State.krw fun _ => rfl) (fun _ => rfl)
    (fun _ _ => part_of_noRegs State.krw (fun _ => rfl) (pmcEvent_noRegs ..)) e w s

/-- A frame whose key has no use limit and whose engine has a program for its SA runs (R103, R513). -/
theorem krwRun_runs {s : State} {n e sa : Nat} {w : WorkItem} {k : KeyRec} (hsa : w.it.sa = some sa) (hserves : s.progServes (48 * n + e) w = true)
    (hkey : s.usableKey? sa = some k) (hlimit : k.limitEn = false) : s.krwRun n e w = (.runs, s.krwDispatch n e w) := by
  have huse : s.keyUse sa = (.ok, s) := by simp [State.keyUse, hkey, hlimit]
  simp [State.krwRun, hserves, hsa, huse]

theorem saKeySalt_of_usableKey? {s : State} {sa : Nat} {k : KeyRec} (h : s.usableKey? sa = some k) : s.saKeySalt sa = (k.key, k.salt) := by
  have hkey : s.key? sa = some k := (Option.filter_eq_some_iff.mp h).1
  rw [State.saKeySalt, hkey]
  rfl

/-- R147, R148: body and tag of a frame under a key that can be used without limit, on an engine with a program for its SA. -/
theorem krwSeal_runs {s : State} {p a e fc iv : Nat} {oh pay : List Byte} {k : KeyRec} (hengine : s.krwEngine p = some e)
    (hserves : s.progServes (48 * (p / 8) + e) (s.krwWork p a fc pay) = true) (hkey : s.usableKey? a = some k) (hlimit : k.limitEn = false) :
    ∃ t, s.krwSeal p a fc iv oh pay = some (((gcmEncrypt k.key iv oh pay).1, blockBytes (gcmEncrypt k.key iv oh pay).2), t) ∧ t.krw = s.krw := by
  have hseal : s.krwSeal p a fc iv oh pay = some (((gcmEncrypt k.key iv oh pay).1, blockBytes (gcmEncrypt k.key iv oh pay).2),
      ((s.krwDispatch (p / 8) e (s.krwWork p a fc pay)).stat a 1 1).stat a 3 8128) := by
    rw [State.krwSeal, hengine]
    simp only [krwRun_runs (w := s.krwWork p a fc pay) rfl hserves hkey hlimit, saKeySalt_of_usableKey? hkey]
  exact ⟨_, hseal, by simp⟩

/-! ### The frame sent -/

theorem krwMidpoint_krwOut (s : State) (p fc q : Nat) : (s.krwMidpoint p fc).krwOut q = s.krwOut q := by
  have hask : (s.leaseAsk (65536 + p) (fc / 2 ^ 20 + 1)).krw = s.krw := by
    unfold State.leaseAsk
    split
    · rfl
    · exact rallySend_keeps State.krw (fun _ _ => rfl) _ _ _
  unfold State.krwMidpoint
  split
  · rfl
  · split
    · exact krwOut_of_krw hask q
    · exact onKrw_krwOut _ _ _ _ fun _ => rfl

theorem ttSend_krwOut (s : State) (p fc q : Nat) : (s.ttSend p fc).krwOut q = s.krwOut q := by
  unfold State.ttSend
  split
  · rfl
  · dsimp only
    rw [State.sendT, onKrw_krwOut, onKrw_krwOut]
    · exact fun _ => rfl
    · exact fun _ => rfl

/-- R203, R204: the frame follows those sent before it, and FRAME_COUNT has moved on. -/
theorem krwLaunch_krwOut (s : State) (p fc : Nat) (frame : List Byte) :
    (s.krwLaunch p fc frame).krwOut p = ((s.krwOut p).1 ++ [krwBlocks frame], fc + 1) := by
  unfold State.krwLaunch
  dsimp only
  rw [ttSend_krwOut, krwMidpoint_krwOut, forN_krwOut fun t u => onTrib_krwOut u _ p _, State.krwOut, onKrw_krwPort_same]
  rfl

theorem flushEvents_krwOut (s : State) (p : Nat) : s.flushEvents.krwOut p = s.krwOut p :=
  part_of_beside (State.krwOut · p) (fun _ => rfl) (flushEvents_beside s)

/-! ### KRAOW_FRAME_TX -/

theorem krwEngine_lt {s : State} {p e : Nat} (h : s.krwEngine p = some e) : e < 48 := by
  have hnext : s.nextEngine (p / 8) (lineSeq p) = some e := (Option.filter_eq_some_iff.mp h).1
  exact List.mem_range.mp (List.mem_filter.mp (List.mem_of_getElem? hnext)).1

theorem krwBlocks_eq (f : List Byte) :
    krwBlocks f = (List.range (f.length / 8)).map fun i => ((if i = 0 then 2 else 1), (f.drop (8 * i)).take 8) := by
  simp only [krwBlocks, beq_iff_eq]

/-- What a command shows that ends with a frame handed to the PCS. -/
theorem answers_launch {c : Instr} {s t : State} {p fc : Nat} {f : List Byte} {P : State → Prop} (hexec : exec c s = finish (t.krwLaunch p fc f))
    (hout : t.krwOut p = s.krwOut p)
    (hP : ∀ u : State, (u.krwPort p).sent = (s.krwPort p).sent ++ [(List.range (f.length / 8)).map fun i =>
      ((if i = 0 then 2 else 1), (f.drop (8 * i)).take 8)] → (u.krwPort p).frameCount = fc + 1 → P u) : Answers c s P := by
  have hu : ((t.krwLaunch p fc f).flushEvents).krwOut p = ((s.krwOut p).1 ++ [krwBlocks f], fc + 1) := by
    rw [flushEvents_krwOut, krwLaunch_krwOut, hout]
  rw [krwBlocks_eq] at hu
  exact answers_of_exec hexec (hP _ (congrArg Prod.fst hu) (congrArg Prod.snd hu))

/-- R213: the octets of a frame under no SA. -/
theorem keyless_frame {oh : List Byte} {fc : Nat} (hlen : oh.length = 40) (hdrop : oh.drop 29 = beBytes 8 fc ++ [0, 0, 0])
    (hb3 : (oh.getD 3 0).toNat / 2 % 2 = 1) :
    let f := markerBlock (fc % 256) ++ oh ++ List.replicate 8128 0 ++ List.replicate 16 0
    f.length = 8192 ∧ f.take 8 = markerBlock (fc % 256) ∧ (f.drop 37).take 11 = beBytes 8 fc ++ [0, 0, 0]
      ∧ (f.getD 11 0).toNat / 2 % 2 = 1 ∧ f.drop 48 = List.replicate 8144 0 := by
  have hm : (markerBlock (fc % 256)).length = 8 := rfl
  have hmo : (markerBlock (fc % 256) ++ oh).length = 48 := by rw [List.length_append, hm, hlen]
  intro f
  have hf : f = markerBlock (fc % 256) ++ (oh ++ List.replicate 8144 0) := by
    unfold f
    rw [List.append_assoc _ _ (List.replicate 16 _), List.replicate_append_replicate, List.append_assoc]
  refine ⟨?_, ?_, ?_, ?_, ?_⟩
  · rw [hf, List.length_append, List.length_append, List.length_replicate, hm, hlen]
  · rw [hf]
    exact List.take_left' hm
  · have h37 : f.drop 37 = beBytes 8 fc ++ [0, 0, 0] ++ List.replicate 8144 0 := by
      rw [hf, show 37 = 8 + 29 from rfl, ← List.drop_drop, List.drop_left' hm, List.drop_append_of_le_length (by omega), hdrop]
    rw [h37]
    exact List.take_left' rfl
  · rw [hf, List.getD_append_right _ _ _ _ (by omega), List.getD_append _ _ _ _ (by omega)]
    exact hb3
  · rw [hf, ← List.append_assoc]
    exact List.drop_left' hmo

section

variable {s : State} {p : Fin 32} (blocks : List (Fin 32 × BitVec 2 × BitVec 64)) (fills : List (Fin 32 × Bool))

/-- What a frame leased under its FRAME_COUNT does. -/
theorem exec_kraowFrameTx_leased (hj : s.judged p = true) (hl : s.isLibero = false) (hlease : s.krwLeased p (s.krwPort p).frameCount = true) :
    exec (.kraowFrameTx p ⟨blocks, fills⟩) s = finish ((s.takeBlocks p blocks).krwSend p (s.krwPort p).frameCount fills) := by
  change execKraowFrameTx p ⟨blocks, fills⟩ s = _
  simp only [execKraowFrameTx, hj, hl, hlease, Bool.not_true, Bool.or_false, Bool.false_eq_true, if_false, if_true]

theorem exec_kraowFrameTx_unleased (hj : s.judged p = true) (hl : s.isLibero = false)
    (hlease : s.krwLeased p (s.krwPort p).frameCount = false) :
    exec (.kraowFrameTx p ⟨blocks, fills⟩) s = finish ((s.takeBlocks p blocks).krwLeaseWait p) := by
  change execKraowFrameTx p ⟨blocks, fills⟩ s = _
  simp only [execKraowFrameTx, hj, hl, hlease, Bool.not_true, Bool.or_false, Bool.false_eq_true, if_false]

end

end Sys2Proof.Machine

namespace Sys2Proof

open Machine

/-- Settles O28: whether the port sends, whether its lease holds, and what the state at the multiframe boundary gives the frame. -/
theorem kraowFramesSent : Obligations.KraowFramesSent := by
  unfold Obligations.KraowFramesSent
  intro p blocks fills s fc c s1 b marker sends
  have hwaited : (s1.krwPort p).waited = (s.krwPort p).waited := by rw [takeBlocks_krwPort]
  have hout {t : State} {sa : Option Nat} (h : t.krw = (b.krwBuild p fc fills sa).2.krw) : t.krwOut p = s.krwOut p := by
    rw [krwOut_of_krw h, krwBuild_keeps (krwOut_buildBlind p), txBoundary_krwOut, State.krwOut, takeBlocks_krwPort]
    rfl
  have hb : s1.txBoundary p (fc % 256) = b := rfl
  refine ⟨fun h => ?silent, fun hj hl hlease => ⟨fun hw => ?again, fun hw => ?first⟩, fun hj hl hlease hclear => ⟨fun hsa => ?keyless,
    fun a hsa hengine => ?waits, fun a e k hsa hengine hkey hlimit hserves => ?keyed⟩⟩
  case silent =>
    have hcond : (!s.judged p || s.isLibero) = true := by rcases h with h | h <;> simp [h]
    exact ends_of_exec rfl (if_pos hcond)
  case again => exact ends_of_exec (exec_kraowFrameTx_unleased blocks fills hj hl hlease) (if_pos (hwaited.trans hw))
  case first =>
    refine ends_of_exec (exec_kraowFrameTx_unleased blocks fills hj hl hlease) (if_neg ?_)
    rw [hwaited, hw]
    decide
  case keyless =>
    obtain ⟨hlen, hdrop, hb3⟩ := krwBuild_overhead b p fc fills none
    have hexec := exec_kraowFrameTx_leased blocks fills hj hl hlease
    rw [krwSend_keyless fills hb hclear hsa] at hexec
    refine answers_launch hexec (hout rfl) fun u hsent hcount => ?_
    have hframe := keyless_frame hlen hdrop hb3
    refine ⟨markerBlock (fc % 256) ++ (b.krwBuild p fc fills none).1.1 ++ List.replicate 8128 0 ++ List.replicate 16 0, ⟨hsent, hcount⟩, ?_⟩
    exact hframe
  case waits =>
    refine ends_of_exec (exec_kraowFrameTx_leased blocks fills hj hl hlease) (krwSend_waits fills hb hclear hsa ?_)
    rw [State.krwSeal, krwEngine_of_engineView (krwBuild_keeps engineView_buildBlind ..) p.isLt, hengine]
  case keyed =>
    obtain ⟨hlen, hdrop, hb3⟩ := krwBuild_overhead b p fc fills (some a)
    have hview := krwBuild_keeps engineView_buildBlind b p fc fills (some a)
    have he := krwEngine_lt hengine
    have hserves' (pay : List Byte) : (b.krwBuild p fc fills (some a)).2.progServes (48 * (p / 8) + e)
        ((b.krwBuild p fc fills (some a)).2.krwWork p a fc pay) = true := by
      rw [krwWork_of_engineView hview, progServes_of_engineView hview (by omega), hserves]
    obtain ⟨t, hseal, hkrw⟩ := krwSeal_runs (iv := ivOf 3 0 0 fc (b.saKeySalt a).2) (oh := (b.krwBuild p fc fills (some a)).1.1)
      ((krwEngine_of_engineView hview p.isLt).trans hengine) (hserves' (b.krwBuild p fc fills (some a)).1.2)
      ((usableKey?_of_engineView hview a).trans hkey) hlimit
    have hexec := exec_kraowFrameTx_leased blocks fills hj hl hlease
    rw [krwSend_sealed fills hb hclear hsa hseal] at hexec
    refine answers_launch hexec (hout hkrw) fun u hsent hcount => ?_
    refine ⟨_, (b.krwBuild p fc fills (some a)).1.1, (b.krwBuild p fc fills (some a)).1.2, ⟨hsent, hcount⟩, ?_, hlen, hdrop, hb3⟩
    rw [saKeySalt_of_usableKey? hkey]
    rfl

end Sys2Proof
end

section
/-!
PROOFS. The Kraow receiver (R150, R186, R209, R210, R250): what the SA table, the alignment of a port, the octets it has kept and its count
of accepted frames are left by everything that an accepted frame sets going.
-/

namespace Sys2Proof.Machine

/-! ### What a received frame settles -/

/-- The SA table, the alignment register of a line port, the octets that it has not consumed and its count of accepted frames. -/
def State.rxView (s : State) (p : Fin 32) : KMap (Option SaEntry) × Word × List Byte × Nat :=
  (s.tbl.sa, s.word .KFR_ALIGN p 0, (s.krwPort p).rxBuf, (s.krwPort p).pm.getD 8 0)

section

variable (s : State) (p : Fin 32)

/-- The registers that stand behind `KFR_ALIGN` in the register file reach no word of it, whatever the index. -/
theorem setWord_rxView {r : Reg} (i w : Nat) (v : Word) (h : Reg.KFR_ALIGN.ctorIdx < r.ctorIdx) : (s.setWord r i w v).rxView p = s.rxView p := by
  rw [State.rxView, word_setWord_before s i p w 0 v h (by omega) (by decide)]
  rfl

theorem set_rxView {f : Field} (i v : Nat) (h : Reg.KFR_ALIGN.ctorIdx < f.reg.ctorIdx) : (s.set f i v).rxView p = s.rxView p :=
  setWord_rxView s p i _ _ h

theorem inc_rxView {f : Field} (i d : Nat) (h : Reg.KFR_ALIGN.ctorIdx < f.reg.ctorIdx) : (s.inc f i d).rxView p = s.rxView p :=
  set_rxView s p i _ h

theorem incWrap_rxView {f : Field} (i d : Nat) (h : Reg.KFR_ALIGN.ctorIdx < f.reg.ctorIdx) : (s.incWrap f i d).rxView p = s.rxView p :=
  set_rxView s p i _ h

/-- A register before `KFR_ALIGN` reaches no word of it from an index that it has. -/
theorem set_rxView_apart {f : Field} {i : Nat} (v : Nat) (h : f.reg ≠ .KFR_ALIGN) (hfit : f.fits = true) (hi : i < 8192) :
    (s.set f i v).rxView p = s.rxView p := by
  rw [State.rxView, word_set_reg s f .KFR_ALIGN i p 0 v hi (by omega) hfit (by decide) h.symm]
  rfl

theorem raise_rxView (a b c d e : Nat) : (s.raise a b c d e).rxView p = s.rxView p := rfl
theorem onLet_rxView (i : Nat) (f : LetStream → LetStream) : (s.onLet i f).rxView p = s.rxView p := rfl
theorem onTrib_rxView (k : Nat) (f : Trib → Trib) : (s.onTrib k f).rxView p = s.rxView p := rfl
theorem onPg_rxView (k : Nat) (f : PgState → PgState) : (s.onPg k f).rxView p = s.rxView p := rfl
theorem onSeq_rxView (k : Nat) (f : SeqPort → SeqPort) : (s.onSeq k f).rxView p = s.rxView p := rfl
theorem onEng_rxView (k : Nat) (f : Engine → Engine) : (s.onEng k f).rxView p = s.rxView p := rfl
theorem onRing_rxView (k : Nat) (f : Ring → Ring) : (s.onRing k f).rxView p = s.rxView p := rfl
theorem putAccount_rxView (k : Nat) (x : Account) : (s.putAccount k x).rxView p = s.rxView p := rfl
theorem putFabric_rxView (k : Nat) (l : List (Nat × Item)) : (s.putFabric k l).rxView p = s.rxView p := rfl
theorem reorderAdd_rxView (k : Nat) (d : Int) : (s.reorderAdd k d).rxView p = s.rxView p := rfl
theorem clientBlocks_rxView (k : Nat) (l : List (Bool × List Byte)) : (s.clientBlocks k l).rxView p = s.rxView p := rfl

theorem onKrw_rxView (q : Nat) (f : KrwPort → KrwPort) (h : ∀ k, ((f k).rxBuf, (f k).pm.getD 8 0) = (k.rxBuf, k.pm.getD 8 0)) :
    (s.onKrw q f).rxView p = s.rxView p :=
  congrArg (fun x : List Byte × Nat => (s.tbl.sa, s.word .KFR_ALIGN p 0, x)) (onKrw_part (fun k => (k.rxBuf, k.pm.getD 8 0)) s q p f h)

/-- R265: the counters beside that of the accepted frames. -/
theorem pmInc_rxView (q : Nat) {i : Nat} (d : Nat) (h : i ≠ 8) : (s.pmInc q i d).rxView p = s.rxView p := by
  have hpm (l : List Nat) (v : Nat) : (l.set i v).getD 8 0 = l.getD 8 0 := by
    rw [List.getD_eq_getElem?_getD, List.getElem?_set_ne h, ← List.getD_eq_getElem?_getD]
  exact onKrw_rxView s p q _ fun k => congrArg (Prod.mk k.rxBuf) (hpm _ _)

theorem stat_rxView (sa i d : Nat) : (s.stat sa i d).rxView p = s.rxView p := by
  unfold State.stat
  split <;> rfl

theorem burn_rxView (it : Item) : (s.burn it).rxView p = s.rxView p := by
  unfold State.burn
  split
  · split
    · exact stat_rxView ..
    · rfl
  · rfl

end

section

variable {p : Fin 32}

theorem when_rxView {s : State} {c : Bool} {f : State → State} (h : (f s).rxView p = s.rxView p) : (s.when c f).rxView p = s.rxView p :=
  when_keeps (State.rxView · p) s c f h

theorem forL_rxView {α : Type} {f : α → State → State} (h : ∀ a s, (f a s).rxView p = s.rxView p) (l : List α) (s : State) :
    (s.forL l f).rxView p = s.rxView p := forL_keeps (State.rxView · p) f h l s

theorem forN_rxView {f : Nat → State → State} (h : ∀ k s, (f k s).rxView p = s.rxView p) (n : Nat) (s : State) :
    (s.forN n f).rxView p = s.rxView p := forN_keeps (State.rxView · p) f h n s

end

/-! ### Counting and events -/

section

variable (s : State) (p : Fin 32)

theorem pmcPut_rxView (c v : Nat) : (s.pmcPut c v).rxView p = s.rxView p := by
  unfold State.pmcPut
  split <;> simp (disch := decide) only [set_rxView]

theorem pmcOverflow_rxView (c : Nat) : (s.pmcOverflow c).rxView p = s.rxView p := by
  unfold State.pmcOverflow
  dsimp only
  split
  · rfl
  · split <;> simp (disch := decide) only [set_rxView]

theorem pmcWrap_rxView (c : Nat) : (s.pmcWrap c).rxView p = s.rxView p := by
  unfold State.pmcWrap
  dsimp only
  split
  · split <;> simp only [pmcOverflow_rxView, pmcPut_rxView]
  · exact pmcOverflow_rxView ..

theorem pmcAdd_rxView (c d : Nat) : (s.pmcAdd c d).rxView p = s.rxView p := by
  unfold State.pmcAdd
  dsimp only
  split <;> simp only [pmcWrap_rxView, pmcPut_rxView]

theorem pmcEvent_rxView (level event inst d : Nat) : (s.pmcEvent level event inst d).rxView p = s.rxView p := by
  refine forN_rxView (fun k u => ?_) 16 s
  dsimp only
  split
  · exact pmcAdd_rxView ..
  · rfl

theorem dmaOctets_rxView (n : Nat) : (s.dmaOctets n).rxView p = s.rxView p := pmcEvent_rxView ..

theorem sendMsix_rxView (i : Nat) : (s.sendMsix i).rxView p = s.rxView p := by
  unfold State.sendMsix
  dsimp only
  split <;> rfl

theorem evtNote_rxView (i : Nat) : (s.evtNote i).rxView p = s.rxView p := by
  unfold State.evtNote
  dsimp only
  split
  · rw [when_rxView]
    · simp (disch := decide) only [set_rxView, inc_rxView, pmcEvent_rxView]
    · exact sendMsix_rxView ..
  · simp (disch := decide) only [inc_rxView, pmcEvent_rxView]

theorem ringAppend_rxView (r : EventRec) : (s.ringAppend r).rxView p = s.rxView p := by
  unfold State.ringAppend
  split
  · split
    · simp (disch := decide) only [incWrap_rxView, dmaOctets_rxView]
      rfl
    · simp (disch := decide) only [set_rxView, inc_rxView]
  · rfl

theorem writeEvent_rxView (e : Raised) : (s.writeEvent e).rxView p = s.rxView p := by
  have hring (u : State) : (u.when (u.flag EVT_SRC.RING e.source) fun t => t.ringAppend (s.record e)).rxView p = u.rxView p := by
    apply when_rxView
    exact ringAppend_rxView ..
  have hlog (u : State) : (u.when (u.flag EVT_SRC.LOG e.source) fun t => t.logAppend (s.record e)).rxView p = u.rxView p := by
    apply when_rxView
    rfl
  exact (hlog _).trans ((hring _).trans (evtNote_rxView s p e.source))

/-- Recording the events of a command leaves what a received frame settles, whatever was raised. -/
theorem flushEvents_rxView : s.flushEvents.rxView p = s.rxView p :=
  forL_rxView (fun e u => writeEvent_rxView u p e) (sortRaised s.evt.raised) s

end

/-! ### Cells, frames and queues -/

section

variable (s : State) (p : Fin 32)

theorem bufShow_rxView (n : Nat) : (s.bufShow n).rxView p = s.rxView p := by
  unfold State.bufShow
  simp (disch := decide) only [set_rxView]

theorem sendFrame_rxView (q : Nat) (frame : List Byte) (stomp : Bool) : (s.sendFrame q frame stomp).rxView p = s.rxView p := by
  unfold State.sendFrame
  rw [when_rxView]
  · rfl
  · exact pmcEvent_rxView ..

theorem sendPfc_rxView (q mask quanta : Nat) : (s.sendPfc q mask quanta).rxView p = s.rxView p := by
  unfold State.sendPfc
  split
  · exact sendFrame_rxView ..
  · rfl

theorem pauseCheck_rxView (a : Nat) : (s.pauseCheck a).rxView p = s.rxView p := by
  unfold State.pauseCheck
  dsimp only
  split
  · rfl
  · split
    · rw [sendPfc_rxView, putAccount_rxView]
    · split
      · rw [sendPfc_rxView, putAccount_rxView]
      · rfl

theorem chargeIngress_rxView (a cells : Nat) (hdrm : Bool) : (s.chargeIngress a cells hdrm).rxView p = s.rxView p := by
  unfold State.chargeIngress
  rw [bufShow_rxView, pauseCheck_rxView, putAccount_rxView]

theorem chargeRing_rxView (it : Item) (add : Bool) : (s.chargeRing it add).rxView p = s.rxView p := by
  unfold State.chargeRing
  split
  · rfl
  · next r _ cells _ =>
    rw [bufShow_rxView]
    exact set_rxView s p (f := QMG_QSTAT.CELLS) _ _ (by decide)

theorem freeIngress_rxView (it : Item) : (s.freeIngress it).rxView p = s.rxView p := by
  unfold State.freeIngress
  dsimp only
  split
  · exact chargeRing_rxView ..
  · split
    · rw [bufShow_rxView, pauseCheck_rxView, putAccount_rxView]
    · rfl

theorem meterJudge_rxView (m len : Nat) (early dei : Bool) : (s.meterJudge m len early dei).2.rxView p = s.rxView p := by
  unfold State.meterJudge
  dsimp only
  split
  · rfl
  · split <;> exact inc_rxView _ p _ _ (by decide)

theorem admitIngress_rxView (q cls act : Nat) : (s.admitIngress q cls act).2.rxView p = s.rxView p := by
  unfold State.admitIngress
  dsimp only
  split
  · simp (disch := decide) only [pmcEvent_rxView, inc_rxView]
  · split
    · rfl
    · split
      · split
        · rfl
        · simp (disch := decide) only [pmcEvent_rxView, raise_rxView, inc_rxView]
      · simp (disch := decide) only [pmcEvent_rxView, inc_rxView]

theorem admitFrame_rxView (it : Item) (st : Option Nat) : (s.admitFrame it st).2.rxView p = s.rxView p := by
  unfold State.admitFrame
  dsimp only
  split <;> simp only [chargeIngress_rxView, admitIngress_rxView, meterJudge_rxView]

theorem ringReport_rxView (r n : Nat) (ok : Bool) : (s.ringReport r n ok).rxView p = s.rxView p := by
  have hraise (u : State) : (u.when (!ok) fun s => s.raise (ringSource r) 3 r n).rxView p = u.rxView p := when_rxView rfl
  unfold State.ringReport
  dsimp only
  split
  · rw [raise_rxView, onRing_rxView, hraise, dmaOctets_rxView]
  · rw [onRing_rxView, hraise, dmaOctets_rxView]

theorem ringComplete_rxView (r id status : Nat) (time : Option Word) : (s.ringComplete r id status time).rxView p = s.rxView p := by
  rw [ringComplete_eq]
  refine ringSettle_holds (fun t => t.rxView p = s.rxView p) r (fun t f rest status time ok n h => ?_) _ _ (onRing_rxView s p r _)
  rw [ringReport_rxView]
  refine (inc_rxView _ p _ _ ?_).trans ((onRing_rxView t p r _).trans h)
  cases ok <;> decide

theorem itemComplete_rxView (it : Item) (status : Nat) (time : Option Word) : (s.itemComplete it status time).rxView p = s.rxView p := by
  unfold State.itemComplete
  split
  · exact ringComplete_rxView ..
  · rfl

theorem noQueue_rxView (n : Nat) (it : Item) : (s.noQueue n it).rxView p = s.rxView p := by
  unfold State.noQueue State.refuseFrame
  simp (disch := decide) only [freeIngress_rxView, itemComplete_rxView, burn_rxView, inc_rxView]

theorem route_rxView (it : Item) : (s.route it).rxView p = s.rxView p := by
  unfold State.route
  dsimp only
  split
  · exact freeIngress_rxView ..
  · exact freeIngress_rxView ..
  · split
    · exact putFabric_rxView ..
    · exact noQueue_rxView ..
  · split
    · exact noQueue_rxView ..
    · exact putFabric_rxView ..

end

/-! ### Let streams -/

section

variable (s : State) (p : Fin 32)

theorem letReplayFrom_rxView (st : Nat) : (s.letReplayFrom st).rxView p = s.rxView p := by
  unfold State.letReplayFrom
  simp (disch := decide) only [set_rxView, onLet_rxView]

theorem letMode_rxView (st : Nat) : (s.letMode st).rxView p = s.rxView p := by
  have hmode (u : State) (v : Nat) : (u.set LET_STREAM_STATUS.MODE st v).rxView p = u.rxView p := set_rxView u p _ _ (by decide)
  unfold State.letMode
  dsimp only
  split
  · rfl
  · split
    · split
      · split
        · split <;> simp only [hmode, letReplayFrom_rxView]
        · exact hmode ..
      · rfl
    · split
      · exact hmode ..
      · split
        · exact hmode ..
        · rfl
    · split
      · exact hmode ..
      · rfl

theorem letWindow_rxView (st : Nat) : (s.letWindow st).rxView p = s.rxView p := by
  unfold State.letWindow
  dsimp only
  rw [when_rxView (onLet_rxView ..), when_rxView (onLet_rxView ..), when_rxView (set_rxView _ p _ _ (by decide)), when_rxView (raise_rxView ..)]
  exact set_rxView s p _ _ (by decide)

theorem putQueue_rxView (q : Nat) (x : Queue) : (s.putQueue q x).rxView p = s.rxView p := by
  unfold State.putQueue
  rw [letQueueShow_keeps (State.rxView · p) fun u st => letWindow_rxView u p st]
  simp (disch := decide) only [bufShow_rxView, set_rxView]
  rfl

theorem deviceFrame_rxView (client sc cls : Nat) (it : Item) : (s.deviceFrame client sc cls it).rxView p = s.rxView p := by
  unfold State.deviceFrame
  split
  · dsimp only
    split
    · rfl
    · exact onSeq_rxView ..
  · rfl

theorem sendA_rxView (q : Nat) (body : List Byte) : (s.sendA q body).rxView p = s.rxView p := onKrw_rxView s p q _ fun _ => rfl

theorem letSend_rxView (m : LetMsg) : (s.letSend m).rxView p = s.rxView p := by
  unfold State.letSend
  dsimp only
  split
  · rfl
  · refine forL_rxView (fun q u => ?_) _ s
    have hnak (x : State) : (x.when (m.subtype == 2) fun s => s.incWrap LET_CNT.NAK_TX m.stream).rxView p = x.rxView p :=
      when_rxView (incWrap_rxView x p _ _ (by decide))
    split
    · rw [sendA_rxView, hnak]
      rfl
    · rw [deviceFrame_rxView, hnak]
      rfl

theorem letSendAck_rxView (st : Nat) : (s.letSendAck st).rxView p = s.rxView p := by
  unfold State.letSendAck
  split
  · rw [letSend_rxView, onLet_rxView]
  · rfl

theorem letGaps_rxView (st : Nat) : (s.letGaps st).rxView p = s.rxView p := by
  unfold State.letGaps
  simp (disch := decide) only [set_rxView, onLet_rxView]

theorem letDeliver_rxView (st : Nat) (it : Item) : (s.letDeliver st it).rxView p = s.rxView p := by
  unfold State.letDeliver
  dsimp only
  split <;> simp (disch := decide) only [freeIngress_rxView, route_rxView, onLet_rxView, incWrap_rxView]

theorem letMark_rxView (st : Nat) : (s.letMark st).rxView p = s.rxView p := by
  unfold State.letMark
  dsimp only
  rw [forL_rxView, onLet_rxView]
  intro e u
  simp (disch := decide) only [incWrap_rxView, reorderAdd_rxView]

theorem letAdvance_rxView (st : Nat) : (s.letAdvance st).rxView p = s.rxView p := by
  unfold State.letAdvance
  dsimp only
  split
  · simp (disch := decide) only [set_rxView, onLet_rxView]
  · split
    · split
      · simp (disch := decide) only [set_rxView, letDeliver_rxView, reorderAdd_rxView, onLet_rxView]
      · rfl
    · rfl

theorem letAdvanceAll_rxView (st : Nat) : (s.letAdvanceAll st).rxView p = s.rxView p := by
  unfold State.letAdvanceAll
  dsimp only
  rw [when_rxView (letSendAck_rxView ..), letGaps_rxView, letMark_rxView, forN_rxView fun _ u => letAdvance_rxView u p st]

theorem letRestart_rxView (st inst first : Nat) : (s.letRestart st inst first).rxView p = s.rxView p := by
  unfold State.letRestart
  dsimp only
  rw [when_rxView (raise_rxView ..), letSendAck_rxView]
  simp (disch := decide) only [set_rxView, onLet_rxView, reorderAdd_rxView, incWrap_rxView]

theorem letLost_rxView (st : Nat) (runs : List (Nat × Nat)) : (s.letLost st runs).rxView p = s.rxView p := by
  unfold State.letLost
  dsimp only
  rw [letAdvanceAll_rxView, forL_rxView]
  intro r u
  simp (disch := decide) only [onLet_rxView, raise_rxView, incWrap_rxView]

theorem letHelloRx_rxView (m : LetMsg) : (s.letHelloRx m).rxView p = s.rxView p := by
  have happly (u : State) : (u.letHelloApply m).rxView p = u.rxView p := by
    unfold State.letHelloApply
    dsimp only
    rw [letLost_rxView, letGaps_rxView, onLet_rxView]
  unfold State.letHelloRx
  dsimp only
  split
  · exact happly s
  · rw [happly, letRestart_rxView]

theorem letAckApply_rxView (st value : Nat) : (s.letAckApply st value).rxView p = s.rxView p := by
  unfold State.letAckApply State.letFreeQueue State.letRetained
  dsimp only
  rw [letWindow_rxView, letMode_rxView]
  simp (disch := decide) only [set_rxView, putQueue_rxView, onLet_rxView]

theorem letNakApply_rxView (m : LetMsg) : (s.letNakApply m).rxView p = s.rxView p := by
  unfold State.letNakApply
  dsimp only
  rw [when_rxView]
  · split
    · rw [onLet_rxView, letAckApply_rxView]
    · exact letAckApply_rxView ..
  · exact letSend_rxView ..

theorem letMsgReject_rxView (st : Nat) : (s.letMsgReject st).rxView p = s.rxView p := incWrap_rxView s p _ _ (by decide)

/-- R326, R701: a let control message on the A-channel. -/
theorem letBody_rxView (sc : Option Nat) (port : Nat) (body : List Byte) : (s.letBody sc port body).rxView p = s.rxView p := by
  unfold State.letBody
  split
  · unfold State.letControl
    split
    · exact letMsgReject_rxView ..
    · split
      · exact letHelloRx_rxView ..
      · split
        · exact letNakApply_rxView ..
        · exact letMsgReject_rxView ..
      · split
        · exact letAckApply_rxView ..
        · exact letMsgReject_rxView ..
  · exact letMsgReject_rxView ..

end

/-! ### Time taken from a T-channel -/

section

variable (s : State) (p : Fin 32)

theorem showSlew_rxView : s.showSlew.rxView p = s.rxView p := set_rxView s p _ _ (by decide)

theorem clk_rxView (c : ClkState) : ({ s with clk := c } : State).rxView p = s.rxView p := rfl

theorem slewEnd_rxView : s.slewEnd.rxView p = s.rxView p := by
  unfold State.slewEnd
  rw [showSlew_rxView, clk_rxView]
  exact set_rxView s p _ _ (by decide)

theorem applyStep_rxView : s.applyStep.rxView p = s.rxView p := by
  have hstepped (u : State) (c : ClkState) : ({ u with clk := c, krw := { u.krw with stepped := true } } : State).rxView p = u.rxView p := rfl
  have hlat (u : State) : u.latStep.rxView p = u.rxView p := rfl
  unfold State.applyStep
  dsimp only
  rw [hstepped, hlat, slewEnd_rxView]
  simp (disch := decide) only [set_rxView]

theorem stepReject_rxView : s.stepReject.rxView p = s.rxView p := by
  unfold State.stepReject
  simp (disch := decide) only [raise_rxView, inc_rxView, set_rxView]

theorem stepCmd_rxView (m : Master) (op : Nat) : (s.stepCmd m op).rxView p = s.rxView p := by
  unfold State.stepCmd
  split
  · split
    · exact stepReject_rxView ..
    · exact applyStep_rxView ..
  · split
    · exact stepReject_rxView ..
    · exact set_rxView s p _ _ (by decide)
  · exact set_rxView s p _ _ (by decide)
  · rfl

theorem rateWrite_rxView (m : Master) (v : Nat) : (s.rateWrite m v).rxView p = s.rxView p := by
  unfold State.rateWrite
  split
  · exact set_rxView s p _ _ (by decide)
  · rfl

theorem slewWrite_rxView (m : Master) (offset ppb : Nat) : (s.slewWrite m offset ppb).rxView p = s.rxView p := by
  unfold State.slewWrite
  dsimp only
  split
  · rfl
  · have hset : ((s.set TMB_SLEW.OFFSET 0 offset).set TMB_SLEW.SLEW_PPB 0 (min ppb 1000000)).rxView p = s.rxView p := by
      simp (disch := decide) only [set_rxView]
    split
    · rw [slewEnd_rxView, hset]
    · rw [showSlew_rxView, clk_rxView, set_rxView _ p _ _ (by decide), hset]

theorem steer_rxView (q : Nat) (o : Int) : (s.steer q o).rxView p = s.rxView p := by
  unfold State.steer
  dsimp only
  split
  · rfl
  · split
    · simp (disch := decide) only [stepCmd_rxView, set_rxView]
    · rw [slewWrite_rxView, rateWrite_rxView]
      rfl

theorem ttRx_rxView (q : Nat) (l : List Byte) : (s.ttRx q l).rxView p = s.rxView p := by
  unfold State.ttRx
  dsimp only
  split
  · exact inc_rxView s p _ _ (by decide)
  · split
    · rw [when_rxView (steer_rxView ..)]
      simp (disch := decide) only [set_rxView, inc_rxView, setWord_rxView]
    · rfl

theorem mkpdu_rxView (it : Item) : (s.mkpdu it).rxView p = s.rxView p := by
  unfold State.mkpdu
  split
  · rfl
  · exact route_rxView ..

end

/-! ### Defects, protection groups and key switching -/

section

variable (s : State) (p : Fin 32)

theorem defectRaw_rxView (q i : Nat) (b : Bool) : (s.defectRaw q i b).rxView p = s.rxView p := onKrw_rxView s p q _ fun _ => rfl

theorem plmRaw_rxView (q t : Nat) (b : Bool) : (s.plmRaw q t b).rxView p = s.rxView p := onKrw_rxView s p q _ fun _ => rfl

theorem timCheck_rxView (q : Nat) : (s.timCheck q).rxView p = s.rxView p := by
  unfold State.timCheck
  exact defectRaw_rxView ..

theorem letPortChange_rxView (q : Nat) : (s.letPortChange q).rxView p = s.rxView p := by
  refine forN_rxView (fun st u => ?_) 256 s
  split
  · exact letMode_rxView ..
  · rfl

theorem pgEval_rxView (g : Nat) : (s.pgEval g).rxView p = s.rxView p := by
  have hset {f : Field} (u : State) (v : Nat) (h : Reg.KFR_ALIGN.ctorIdx < f.reg.ctorIdx) : (u.set f g v).rxView p = u.rxView p :=
    set_rxView u p _ _ h
  unfold State.pgEval
  extract_lets s1 s2 rank x noWtr s3
  have hs2 : s2.rxView p = s.rxView p :=
    (hset _ _ (by decide)).trans ((hset _ _ (by decide)).trans ((hset _ _ (by decide)).trans (hset _ _ (by decide))))
  have hno (u : State) : (noWtr u).rxView p = u.rxView p := (hset _ _ (by decide)).trans (hset _ _ (by decide))
  clear_value s2 noWtr
  split
  · rfl
  · split
    · rw [onPg_rxView, hno, hset _ _ (by decide), hs2]
    · split
      · split
        · split
          · exact (hset _ _ (by decide)).trans hs2
          · rw [hset _ _ (by decide), hset _ _ (by decide), hset _ _ (by decide), hs2]
        · rw [onPg_rxView, hno, hset _ _ (by decide), hs2]
      · rw [hno, hset _ _ (by decide), hs2]

theorem pgPort_rxView (q : Nat) : (s.pgPort q).rxView p = s.rxView p := by
  refine forN_rxView (fun g u => ?_) 16 s
  split
  · exact pgEval_rxView ..
  · rfl

theorem defectSync_rxView (q : Nat) : (s.defectSync q).rxView p = s.rxView p := by
  have hchanged (u : State) (c : Bool) : (u.when c fun s =>
      (s.set KFR_DEFECT.CHANGED q 1).raise (32 + q) 1 (32 + q) ((s.set KFR_DEFECT.CHANGED q 1).word .KFR_DEFECT q 0).toNat).rxView p = u.rxView p := by
    apply when_rxView
    rw [raise_rxView]
    exact set_rxView u p _ _ (by decide)
  unfold State.defectSync
  dsimp only
  rw [pgPort_rxView, letPortChange_rxView, hchanged, onKrw_rxView]
  · simp (disch := decide) only [set_rxView]
  · exact fun _ => rfl

theorem runDefect_rxView (q i on off : Nat) : (s.runDefect q i on off).rxView p = s.rxView p := by
  unfold State.runDefect
  split
  · exact defectRaw_rxView ..
  · split
    · exact defectRaw_rxView ..
    · rfl

theorem krwRuns_rxView (q : Nat) (accepted failing auth : Bool) (b3 : Nat) : (s.krwRuns q accepted failing auth b3).rxView p = s.rxView p := by
  unfold State.krwRuns
  dsimp only
  rw [runDefect_rxView, runDefect_rxView, onKrw_rxView]
  exact fun _ => rfl

theorem bipTake_rxView (q b3 b4 : Nat) : (s.bipTake q b3 b4).rxView p = s.rxView p := by
  unfold State.bipTake
  dsimp only
  rw [onKrw_rxView, when_rxView]
  · exact pmInc_rxView s p q _ (by decide)
  · exact pmInc_rxView _ p q _ (by decide)
  · exact fun _ => rfl

theorem kcmCheck_rxView (q : Fin 32) (b2 : Nat) : (s.kcmCheck q b2).rxView p = s.rxView p := by
  have hq : q.val < 8192 := by omega
  unfold State.kcmCheck
  dsimp only
  split
  · rfl
  · rw [onKrw_rxView, defectRaw_rxView, set_rxView_apart _ _ _ (by decide) (by decide) hq, when_rxView]
    · rw [set_rxView_apart _ _ _ (by decide) (by decide) hq, set_rxView_apart _ _ _ (by decide) (by decide) hq,
        set_rxView_apart _ _ _ (by decide) (by decide) hq]
    · exact set_rxView_apart _ _ _ (by decide) (by decide) hq
    · exact fun _ => rfl

theorem traceTake_rxView (q fn : Nat) (b : Byte) : (s.traceTake q fn b).rxView p = s.rxView p := by
  have hwords (u : State) (f : Nat → Word) : (u.forN 8 fun w s => s.setWord .KFR_TTI_RX (8 * q + w) 0 (f w)).rxView p = u.rxView p := by
    refine forN_rxView (fun w x => ?_) 8 u
    exact setWord_rxView x p _ _ _ (by decide)
  unfold State.traceTake
  dsimp only
  split
  · next l _ =>
    split
    · generalize (if l == (s.krwPort q).traceLast then (s.krwPort q).traceRun + 1 else 1) = run
      split
      · rw [timCheck_rxView, onKrw_rxView, hwords, onKrw_rxView]
        · exact fun _ => rfl
        · exact fun _ => rfl
      · rw [onKrw_rxView]
        exact fun _ => rfl
    · rw [onKrw_rxView]
      exact fun _ => rfl
  · rfl

theorem labelTake_rxView (q fn b : Nat) : (s.labelTake q fn b).rxView p = s.rxView p := by
  unfold State.labelTake
  dsimp only
  generalize (if b == (s.tribSt (32 * q + fn % 32)).label then (s.tribSt (32 * q + fn % 32)).labelRun + 1 else 1) = run
  split
  · split
    · rw [plmRaw_rxView]
      exact (set_rxView _ p _ _ (by decide)).trans (onTrib_rxView ..)
    · exact (set_rxView _ p _ _ (by decide)).trans (onTrib_rxView ..)
  · exact onTrib_rxView ..

theorem selTake_rxView (q : Nat) : (s.selTake q).rxView p = s.rxView p := by
  refine forN_rxView (fun g u => ?_) 16 s
  dsimp only
  split <;> rfl

theorem ttArrive_rxView (q fc : Nat) : (s.ttArrive q fc).rxView p = s.rxView p := by
  unfold State.ttArrive
  dsimp only
  split
  · rw [onKrw_rxView]
    exact fun _ => rfl
  · rfl

theorem pointersTake_rxView (q fn : Nat) (oh : List Byte) : (s.pointersTake q fn oh).rxView p = s.rxView p := by
  refine forN_rxView (fun j u => ?_) 8 s
  dsimp only
  split <;> rfl

end

/-! ### The E-channels -/

section

variable (s : State) (p : Fin 32)

theorem takeK_rxView (q : Nat) (slot : List Bool) : (s.takeK q slot).rxView p = s.rxView p := by
  unfold State.takeK
  dsimp only
  rw [forL_rxView, inc_rxView _ p _ _ (by decide), onKrw_rxView]
  · exact fun _ => rfl
  · exact fun m u => mkpdu_rxView ..

theorem takeTA_rxView (q : Nat) (t a : List Bool) : (s.takeTA q t a).rxView p = s.rxView p := by
  unfold State.takeTA
  dsimp only
  rw [forL_rxView, forL_rxView, inc_rxView _ p _ _ (by decide), inc_rxView _ p _ _ (by decide), onKrw_rxView]
  · exact fun _ => rfl
  · exact fun m u => ttRx_rxView ..
  · exact fun m u => letBody_rxView ..

theorem abortTA_rxView (q : Nat) : (s.abortTA q).rxView p = s.rxView p := by
  have hbad (f : Field) (h : Reg.KFR_ALIGN.ctorIdx < f.reg.ctorIdx) (u : State) (c : Bool) : (u.when c fun s => s.inc f q).rxView p = u.rxView p :=
    when_rxView (inc_rxView u p _ _ h)
  unfold State.abortTA
  dsimp only
  rw [onKrw_rxView, hbad _ (by decide), hbad _ (by decide)]
  exact fun _ => rfl

theorem channels_rxView (q : Nat) (oh : List Byte) (mask : Option (List Bool)) : (s.channels q oh mask).rxView p = s.rxView p := by
  unfold State.channels
  dsimp only
  split
  · rw [takeTA_rxView, takeK_rxView]
  · rw [abortTA_rxView, takeK_rxView]

end

/-! ### Frames of the tributaries -/

section

variable (s : State) (p : Fin 32)

theorem inc_rxView_apart {f : Field} {i : Nat} (d : Nat) (h : f.reg ≠ .KFR_ALIGN) (hfit : f.fits = true) (hi : i < 8192) :
    (s.inc f i d).rxView p = s.rxView p := set_rxView_apart s p _ h hfit hi

theorem toSeq_rxView (it : Item) : (s.toSeq it).rxView p = s.rxView p := rfl

theorem toHost_rxView (mcu : Bool) (reason : Nat) (it : Item) : (s.toHost mcu reason it).rxView p = s.rxView p := toSeq_rxView ..

theorem liberoLoss_rxView (it : Item) : (s.liberoLoss it).rxView p = s.rxView p := by
  unfold State.liberoLoss
  rw [freeIngress_rxView]
  exact inc_rxView s p _ _ (by decide)

theorem missed_rxView (it : Item) (hin : portRow it.inPort < 8192) : (s.missed it).rxView p = s.rxView p := by
  unfold State.missed
  dsimp only
  generalize hadm : (s.inc TBL_MISS_CNT.MISS (portRow it.inPort)).admitFrame
    { it with cls := if (outerTag it.data).1 then (outerTag it.data).2.2 else 0 } none = x
  have hx : x.2.rxView p = s.rxView p := by
    rw [← hadm, admitFrame_rxView]
    exact inc_rxView_apart s p _ (by decide) (by decide) hin
  split
  · exact hx
  · dsimp only at hx
    split
    · rw [liberoLoss_rxView, hx]
    · split
      · rw [toHost_rxView, hx]
      · rw [toHost_rxView, hx]
      · rw [freeIngress_rxView, hx]

theorem unprotected_rxView (it : Item) (e : ClsEntry) : (s.unprotected it e).rxView p = s.rxView p := by
  unfold State.unprotected
  split
  · exact liberoLoss_rxView ..
  · split
    · split
      · exact toSeq_rxView ..
      · exact freeIngress_rxView ..
    · exact toHost_rxView ..
    · exact toHost_rxView ..
    · exact freeIngress_rxView ..

theorem letDiscard_rxView (st : Nat) (cnt : Field) (it : Item) (h : Reg.KFR_ALIGN.ctorIdx < cnt.reg.ctorIdx) :
    (s.letDiscard st cnt it).rxView p = s.rxView p := by
  unfold State.letDiscard
  rw [freeIngress_rxView, incWrap_rxView s p _ _ h]

theorem stampRx_inPort (q : Nat) (it : Item) : (s.stampRx q it).inPort = it.inPort := by
  unfold State.stampRx
  split <;> rfl

theorem tribFrame_rxView (q : Fin 32) (t : Nat) (tag : Option (List Byte)) (data : List Byte) :
    (s.tribFrame q t tag data).rxView p = s.rxView p := by
  unfold State.tribFrame
  extract_lets it stray
  have hstray (x : Item) (u : State) : (stray x u).rxView p = u.rxView p := letDiscard_rxView u p _ _ x (by decide)
  have hrow : portRow it.inPort < 8192 := by
    have hin : it.inPort = 32 + q := stampRx_inPort ..
    rw [hin, portRow, seqOf]
    split <;> omega
  clear_value it stray
  split
  · split
    · exact hstray ..
    · exact missed_rxView s p it hrow
  · next e _ =>
    generalize hadm : s.admitFrame { it with cls := e.cls, res := some e } none = x
    have hx : x.2.rxView p = s.rxView p := by rw [← hadm, admitFrame_rxView]
    split
    · exact hx
    · next y u =>
      dsimp only at hx
      have hoff : (State.freeIngress y (u.inc TBL_MISS_CNT.SC_OFF (portRow it.inPort))).rxView p = s.rxView p := by
        rw [freeIngress_rxView, inc_rxView_apart u p _ (by decide) (by decide) hrow, hx]
      dsimp only
      split
      · split
        · rw [hstray, hx]
        · rw [unprotected_rxView, hx]
      · split
        · split
          · exact hoff
          · rw [toSeq_rxView, hx]
        · exact hoff

theorem tribHunt_rxView (k : Nat) : (s.tribHunt k).rxView p = s.rxView p := rfl

theorem crateTake_rxView (q : Fin 32) (t typ flags : Nat) (data : List Byte) : (s.crateTake q t typ flags data).rxView p = s.rxView p := by
  unfold State.crateTake
  extract_lets k exp x put
  have hput (c : Option (Bool × List Byte)) (u : State) : (put c u).rxView p = u.rxView p := rfl
  clear_value put
  split
  · rfl
  · split
    · exact hput ..
    · dsimp only
      generalize (if exp = true then x.ctxX else x.ctxN).getD (typ == 2, []) = c
      split
      · exact hput ..
      · split <;> rw [tribFrame_rxView, hput]

theorem delineate_rxView (q : Fin 32) (t f : Nat) : ∀ s : State, (s.delineate f q t).rxView p = s.rxView p := by
  induction f with
  | zero => exact fun _ => rfl
  | succ f ih =>
    intro s
    rw [State.delineate]
    dsimp only
    split
    · rfl
    · split
      · split
        · rw [tribHunt_rxView]
          exact inc_rxView s p _ _ (by decide)
        · split
          · rfl
          · rw [ih, crateTake_rxView, onTrib_rxView]
      · split
        · rw [ih, onTrib_rxView]
        · split
          · rfl
          · split <;> rw [ih, onTrib_rxView]

end

/-! ### Tributaries of a frame -/

section

/-- What the tributaries of a frame set going beside the frames they deliver leaves alone. -/
structure TribBlind {β : Type} (g : State → β) : Prop where
  trib : ∀ (s : State) (k : Nat) (f : Trib → Trib), g (s.onTrib k f) = g s
  stat : ∀ (s : State) (f : Field) (k d : Nat), f.reg = .KFR_TRIB_STAT → g (s.inc f k d) = g s
  pointers : ∀ (s : State) (q : Nat), g (s.pmInc q 6 1) = g s
  client : ∀ (s : State) (c : Nat) (l : List (Bool × List Byte)), g (s.clientBlocks c l) = g s

variable {β : Type} {g : State → β} (h : TribBlind g) (s : State)
include h

theorem tribHunt_keeps (k : Nat) : g (s.tribHunt k) = g s := h.trib ..

theorem btPeriod_keeps (p t : Nat) : g (s.btPeriod p t) = g s := by
  unfold State.btPeriod
  dsimp only
  split
  · exact h.trib ..
  · rw [h.trib, h.pointers, h.stat _ _ _ _ rfl]
  · rw [h.trib, when_keeps g _ _ _ (h.pointers ..), when_keeps g _ _ _ (h.stat _ _ _ _ rfl)]

theorem groupEnd_keeps (p t : Nat) (l : List Byte) : g (s.groupEnd p t l) = g s := by
  unfold State.groupEnd
  dsimp only
  rw [when_keeps g, when_keeps g _ _ _ (h.stat _ _ _ _ rfl)]
  exact h.client ..

theorem btWord_keeps (p t i : Nat) (w : List Byte) : g (s.btWord p t i w) = g s := by
  have hcut (c : Bool) : g (if c = true then (s.groupEnd p t []).onTrib (32 * p + t) fun x => { x with group := [] } else s) = g s := by
    split
    · rw [h.trib, groupEnd_keeps h]
    · rfl
  unfold State.btWord
  extract_lets k x s1 y
  have hs1 : g s1 = g s := hcut _
  clear_value s1
  split
  · rfl
  · split
    · rw [h.trib, hs1]
    · rw [groupEnd_keeps h, h.trib, hs1]

theorem packetPeriod_keeps (p t : Nat) : g (s.packetPeriod p t) = g s := by
  unfold State.packetPeriod
  dsimp only
  split
  · exact h.trib ..
  · rw [h.trib, tribHunt_keeps h, h.pointers, h.stat _ _ _ _ rfl]
  · exact h.trib ..

theorem packetWords_keeps {p t : Nat} {ok : Bool} (hdel : ok = true → ∀ (s : State) f, g (s.delineate f p t) = g s) (fn : Nat) (l : List Byte) :
    g (s.packetWords p t fn ok l) = g s := by
  unfold State.packetWords
  dsimp only
  split
  · exact tribHunt_keeps h ..
  · cases ok with
    | false => exact (tribHunt_keeps h _ _).trans (when_keeps g _ _ _ (h.stat _ _ _ _ rfl))
    | true => exact (hdel rfl _ _).trans (h.trib ..)

/-- The tributaries of a frame leave what `g` reads, where a frame without payload does not delineate. -/
theorem demap_keeps {p : Nat} {ok : Bool} (hdel : ok = true → ∀ (s : State) f t, g (s.delineate f p t) = g s) (fn : Nat) (payload : List Byte) :
    g (s.demap p fn ok payload) = g s := by
  refine forN_keeps g _ (fun t u => ?_) 32 s
  dsimp only
  split
  · rfl
  · split
    · rw [forN_keeps g _ (fun j x => btWord_keeps h x p t _ _), when_keeps g _ _ _ (btPeriod_keeps h ..)]
    · split
      · rw [packetWords_keeps h _ fun hok x f => hdel hok x f t, when_keeps g _ _ _ (packetPeriod_keeps h ..)]
      · rfl

end

theorem tribBlind_rxView (p : Fin 32) : TribBlind (State.rxView · p) where
  trib s k f := onTrib_rxView s p k f
  stat s f k d hf := inc_rxView s p k d (by rw [hf]; decide)
  pointers s q := pmInc_rxView s p q 1 (by decide)
  client s c l := clientBlocks_rxView s p c l

theorem demap_rxView (s : State) (p q : Fin 32) (fn : Nat) (ok : Bool) (payload : List Byte) : (s.demap q fn ok payload).rxView p = s.rxView p :=
  demap_keeps (tribBlind_rxView p) s (fun _ u f t => delineate_rxView p q t f u) fn payload

/-! ### The accepted frame -/

section

variable (s : State) (p : Fin 32)

theorem dropSlots_rxView {n : Nat} (g : Nat) (f : KsaSlot → Bool) (hn : n < 8192) : (s.dropSlots n g f).rxView p = s.rxView p := by
  unfold State.dropSlots
  dsimp only
  rw [when_rxView (pmcEvent_rxView ..), inc_rxView_apart _ p _ (by decide) (by decide) hn, onEng_rxView]

theorem krwDispatch_rxView {n : Nat} (e : Nat) (w : WorkItem) (hn : n < 8192) : (s.krwDispatch n e w).rxView p = s.rxView p :=
  krwDispatch_keeps (State.rxView · p) (fun u k f => onEng_rxView u p k f) (fun u k f => onSeq_rxView u p k f)
    (fun u k f => dropSlots_rxView u p k f hn) (fun u => inc_rxView_apart u p 1 (by decide) (by decide) hn)
    (fun u e => pmcEvent_rxView u p n e 0 1) e w s

/-- R147, R186: an accepted frame under an SA that is already ACTIVE moves its PN and counts. -/
theorem krwSaAccept_active {s : State} {sa : Nat} {a : SaEntry} (q fc : Nat) (ha : s.sa? sa = some a) (hlife : a.life = 1) :
    s.krwSaAccept q sa fc = (((s.putSa sa (some { a with pn := fc + 1 })).stat sa 0 1).stat sa 6 8128).pmInc q 8 1 := by
  have hput : (s.onSa sa fun x => { x with pn := fc + 1 }) = s.putSa sa (some { a with pn := fc + 1 }) := by rw [State.onSa, ha]
  have hsame : (s.putSa sa (some { a with pn := fc + 1 })).saActivateRx sa = s.putSa sa (some { a with pn := fc + 1 }) := by
    rw [State.saActivateRx, putSa_sa?_same]
    exact if_neg (by rw [hlife]; decide)
  have hold : (s.sa? sa).any (·.life == 0) = false := by
    rw [ha, Option.any_some, hlife]
    rfl
  rw [State.krwSaAccept, hput, hsame, hold]
  rfl

theorem krwAccepted_rxView (q : Fin 32) (fn sa : Nat) (oh : List Byte) (mask : List Bool) :
    (s.krwAccepted q fn (some sa) oh mask).rxView p = (s.krwSaAccept q sa (beAt oh 29 8)).rxView p := by
  unfold State.krwAccepted
  dsimp only
  rw [channels_rxView, pointersTake_rxView, ttArrive_rxView, selTake_rxView, labelTake_rxView, traceTake_rxView, kcmCheck_rxView,
    krwRuns_rxView, bipTake_rxView]

theorem krwDone_accepted_rxView (q : Fin 32) (fn sa : Nat) (frame pay : List Byte) (mask : List Bool) :
    (s.krwDone q fn frame (.accepted (some sa) pay mask)).rxView p
      = (s.krwSaAccept q sa (beAt ((frame.drop 8).take 40) 29 8)).rxView p := by
  unfold State.krwDone
  dsimp only
  rw [demap_rxView, defectSync_rxView, onKrw_rxView, krwAccepted_rxView]
  exact fun _ => rfl

end

/-! ### Judging a frame -/

section

variable {s t : State} {p sa : Nat} {l : List Byte} {a : SaEntry} {k : KeyRec}

/-- R71, R186: CUR of a frame names a live SA of the RX key SC. -/
theorem krwNamed_eq (hsc : (s.keyScOf p true).map (·.1) = some (sa / 4)) (han : sa % 4 = octet l 10 / 64) (ha : s.sa? sa = some a)
    (hlive : a.live = true) : s.krwNamed p l = some sa := by
  have hsa : (s.keyScOf p true).map (fun x => 4 * x.1 + octet l 10 / 64) = some sa := by
    obtain ⟨x, hx, hx4⟩ := Option.map_eq_some_iff.mp hsc
    rw [hx, Option.map_some, ← han, hx4, Nat.div_add_mod]
  rw [State.krwNamed, hsa, Option.filter_some, ha, Option.any_some, hlive]
  rfl

/-- R150, R186: how a frame under a live SA with a usable key is judged. -/
theorem krwJudge_named (hclear : s.flag KFR_CFG.TEST_CLEAR p = false) (hb3 : octet ((l.drop 8).take 40) 3 / 2 % 2 = 0)
    (hver : s.krwVerifies p = true) (hnamed : s.krwNamed p l = some sa) (ha : s.sa? sa = some a) (hkey : s.usableKey? sa = some k) :
    let oh := (l.drop 8).take 40
    let iv := ivOf 3 0 0 (beAt oh 29 8) k.salt
    let d := gcmDecrypt k.key iv oh ((l.drop 48).take 8128) (blockOf (l.drop 8176))
    s.krwJudge p l = if d.2 = false then .failing false (some sa) else if beAt oh 29 8 < a.pn then .failing true (some sa)
      else .accepted (some sa) d.1 (ecMask k.key iv) := by
  intro oh iv d
  unfold State.krwJudge
  dsimp only
  rw [hclear, hb3, hver, hnamed]
  dsimp only
  rw [hkey, ha]
  simp only [Bool.false_eq_true, if_false, Bool.not_true, Bool.not_eq_true', Nat.reduceBEq, Option.elim_some]
  rfl

theorem krwRxSa_named (hclear : s.flag KFR_CFG.TEST_CLEAR p = false) (hb3 : octet l 11 / 2 % 2 = 0) (hver : s.krwVerifies p = true)
    (hnamed : s.krwNamed p l = some sa) (hkey : s.usableKey? sa = some k) : s.krwRxSa p l = some sa := by
  rw [State.krwRxSa, hclear, hb3, hver, hnamed, Option.filter_some, hkey]
  rfl

/-- What the receiver of a port asks the tables stands beside its framer and its alignment. -/
theorem krwVerifies_of_engineView (h : t.engineView = s.engineView) : t.krwVerifies p = s.krwVerifies p :=
  part_of_engineView h (State.krwVerifies · p) fun _ => rfl

theorem krwNamed_of_engineView (h : t.engineView = s.engineView) : t.krwNamed p l = s.krwNamed p l :=
  part_of_engineView h (State.krwNamed · p l) fun _ => rfl

theorem sa?_of_engineView (h : t.engineView = s.engineView) : t.sa? sa = s.sa? sa := part_of_engineView h (State.sa? · sa) fun _ => rfl

/-- R147, R697: a frame under an SA that an engine takes is judged at once. -/
theorem krwVerify_runs {e : Nat} (hsa : s.krwRxSa p l = some sa) (hengine : s.krwEngine p = some e)
    (hserves : s.progServes (48 * (p / 8) + e) (s.krwWork p sa (beAt l 37 8) ((l.drop 48).take 8128)) = true)
    (hkey : s.usableKey? sa = some k) (hlimit : k.limitEn = false) :
    s.krwVerify p l
      = some (s.krwJudge p l, s.krwDispatch (p / 8) e (s.krwWork p sa (beAt l 37 8) ((l.drop 48).take 8128))) := by
  have hrun := krwRun_runs (sa := sa) rfl hserves hkey hlimit
  rw [State.krwVerify, hsa]
  dsimp only
  rw [hengine]
  dsimp only
  rw [hrun]

end

/-! ### The framer's octets -/

section

variable {s : State} {p : Nat}

theorem krwConsume_short (n : Nat) (hstate : s.get KFR_ALIGN.FSTATE p ≠ 0) (hlen : (s.krwPort p).rxBuf.length < 8192) : s.krwConsume n p = s := by
  cases n with
  | zero => rfl
  | succ n =>
    rw [State.krwConsume]
    dsimp only
    rw [if_neg (by simpa using hstate), if_pos hlen]

theorem krwConsume_frame {t : State} (n : Nat) (hstate : s.get KFR_ALIGN.FSTATE p ≠ 0) (hlen : (s.krwPort p).rxBuf.length = 8192)
    (hnext : s.krwNext p = some t) : s.krwConsume (n + 1) p = t.krwConsume n p := by
  rw [State.krwConsume]
  dsimp only
  rw [if_neg (by simpa using hstate), if_neg (by omega), hnext]

/-- The framer after a frame whose marker is good and that begins no multiframe (R209): the frame is taken from its octets. -/
def State.krwAdvance (p fn : Nat) (s : State) : State :=
  ((s.goodMarker p fn).set KFR_ALIGN.FN p (fn + 1)).onKrw p fun k => { k with rxBuf := [] }

theorem krwNext_good {l : List Byte} (hbuf : (s.krwPort p).rxBuf = l) (hlen : l.length = 8192) (hmarker : isMarker l = true)
    (h6 : octet l 6 = s.get KFR_ALIGN.FN p) :
    s.krwNext p = (s.krwAdvance p (s.get KFR_ALIGN.FN p)).krwFrame p (s.get KFR_ALIGN.FN p) l := by
  have htake : l.take 8192 = l := List.take_of_length_le (by omega)
  have hdrop : l.drop 8192 = [] := List.drop_of_length_le (by omega)
  rw [State.krwNext]
  dsimp only
  rw [hbuf, htake, hdrop, hmarker, h6, beq_self_eq_true]
  rfl

theorem goodMarker_inside {fn : Nat} (hfn : fn ≠ 0) :
    s.goodMarker p fn = s.onKrw p fun k => { k with badRun := 0, sinceFn0 := (s.krwPort p).sinceFn0.map (· + 1) } := by
  have h : (fn == 0) = false := beq_false_of_ne hfn
  rw [State.goodMarker]
  rw [h]
  rfl

theorem krwFrame_inside {fn : Nat} (hfn : fn ≠ 0) (l : List Byte) {v : KrwVerdict} {t : State} (hverify : s.krwVerify p l = some (v, t)) :
    s.krwFrame p fn l = some (t.krwDone p fn l v) := by
  have h : (fn == 0) = false := beq_false_of_ne hfn
  rw [State.krwFrame, h]
  change (s.krwVerify p l).map _ = _
  rw [hverify]
  rfl

end

/-! ### An accepted frame at the framer -/

section

variable {s : State} {p : Fin 32} {fn : Nat} (hfn : fn ≠ 0)

include hfn

theorem krwAdvance_eq : s.krwAdvance p fn = (((s.onKrw p fun k => { k with badRun := 0, sinceFn0 := (s.krwPort p).sinceFn0.map (· + 1) }).set
    KFR_ALIGN.FN p (fn + 1)).onKrw p fun k => { k with rxBuf := [] }) := by
  rw [State.krwAdvance, goodMarker_inside hfn]

theorem krwAdvance_engineView : (s.krwAdvance p fn).engineView = s.engineView := by
  have hkrw (u : State) (f : KrwPort → KrwPort) : (u.onKrw p f).engineView = u.engineView := rfl
  rw [krwAdvance_eq hfn, hkrw, set_engineView _ _ _ _ (by decide), hkrw]

theorem krwAdvance_tbl : (s.krwAdvance p fn).tbl = s.tbl := by
  rw [krwAdvance_eq hfn]
  rfl

theorem krwAdvance_rxBuf : ((s.krwAdvance p fn).krwPort p).rxBuf = [] := by rw [krwAdvance_eq hfn, onKrw_krwPort_same]

theorem krwAdvance_pm : ((s.krwAdvance p fn).krwPort p).pm = (s.krwPort p).pm := by
  have hset (u : State) : (u.set KFR_ALIGN.FN p (fn + 1)).krwPort p = u.krwPort p := rfl
  rw [krwAdvance_eq hfn, onKrw_krwPort_same, hset, onKrw_krwPort_same]

theorem krwAdvance_fn : (s.krwAdvance p fn).get KFR_ALIGN.FN p = (fn + 1) % 256 := by
  rw [krwAdvance_eq hfn]
  exact get_set_same _ KFR_ALIGN.FN p _ (by decide)

theorem krwAdvance_get {f : Field} (h : KFR_ALIGN.FN.disjoint f = true) : (s.krwAdvance p fn).get f p = s.get f p := by
  rw [krwAdvance_eq hfn]
  exact get_set_disjoint _ h (by omega) (by omega)

end

/-- R265: an accepted frame counts. -/
theorem pmInc_accepted_rxView {s : State} {p : Fin 32} (hpm : (s.krwPort p).pm.length = 9) :
    (s.pmInc p 8 1).rxView p
      = ((s.rxView p).1, (s.rxView p).2.1, (s.rxView p).2.2.1, min ((s.rxView p).2.2.2 + 1) (2 ^ 32 - 1)) := by
  have hport : (s.pmInc p 8 1).krwPort p = { s.krwPort p with pm := (s.krwPort p).pm.set 8 (satAdd 32 ((s.krwPort p).pm.getD 8 0) 1) } :=
    onKrw_krwPort_same ..
  have hget : ((s.krwPort p).pm.set 8 (satAdd 32 ((s.krwPort p).pm.getD 8 0) 1)).getD 8 0 = satAdd 32 ((s.krwPort p).pm.getD 8 0) 1 := by
    rw [List.getD_eq_getElem?_getD, List.getElem?_set_self (by omega)]
    rfl
  rw [State.rxView, hport]
  dsimp only
  rw [hget]
  rfl

/-- What is left of an accepted frame under an SA that is ACTIVE: its PN, its count and the octets and alignment as they stood. -/
theorem krwDone_active_rxView {s : State} {p : Fin 32} {sa fc : Nat} {a : SaEntry} {l : List Byte} (fn : Nat) (pay : List Byte)
    (mask : List Bool) (ha : s.sa? sa = some a) (hlife : a.life = 1) (hpm : (s.krwPort p).pm.length = 9)
    (hfc : beAt ((l.drop 8).take 40) 29 8 = fc) :
    (s.krwDone p fn l (.accepted (some sa) pay mask)).rxView p
      = (s.tbl.sa.set sa (some { a with pn := fc + 1 }) none, s.word .KFR_ALIGN p 0, (s.krwPort p).rxBuf,
          min ((s.krwPort p).pm.getD 8 0 + 1) (2 ^ 32 - 1)) := by
  have hpm' : (((((s.putSa sa (some { a with pn := fc + 1 })).stat sa 0 1).stat sa 6 8128)).krwPort p).pm.length = 9 := by
    rw [State.krwPort, stat_krw, stat_krw]
    exact hpm
  rw [krwDone_accepted_rxView, hfc, krwSaAccept_active p fc ha hlife, pmInc_accepted_rxView hpm', stat_rxView, stat_rxView]
  rfl

theorem get_of_word {s t : State} {f : Field} {i : Nat} {r : Reg} (h : t.word r i 0 = s.word r i 0) (hr : f.reg = r) (hw : f.word = 0) :
    t.get f i = s.get f i := by rw [State.get, State.get, hr, hw, h]

/-- B3 of the overhead of a frame. -/
theorem octet_overhead (l : List Byte) : octet ((l.drop 8).take 40) 3 = octet l 11 := by
  simp only [octet, List.getD_eq_getElem?_getD, List.getElem?_take, List.getElem?_drop]
  rfl

/-- FRAME_COUNT in the overhead of a frame. -/
theorem beAt_overhead {l : List Byte} (hlen : l.length = 8192) : beAt ((l.drop 8).take 40) 29 8 = beAt l 37 8 := by
  have hdrop : ((l.drop 8).take 40).drop 29 = (l.drop 37).take 11 := by rw [List.drop_take, List.drop_drop]
  have htake : ((l.drop 37).take 11).take 8 = (l.drop 37).take 8 := by rw [List.take_take]; rfl
  have hpad : 8 - ((l.drop 37).take 11).length = 8 - (l.drop 37).length := by
    simp only [List.length_take, List.length_drop]
    omega
  rw [beAt, beAt, hdrop, htake, hpad]

section

variable {s : State} {p : Fin 32} {sa e : Nat} {a : SaEntry} {k : KeyRec} {l : List Byte}
  (hclear : s.flag KFR_CFG.TEST_CLEAR p = false) (hb3 : octet l 11 / 2 % 2 = 0) (hver : s.krwVerifies p = true)
  (hnamed : s.krwNamed p l = some sa) (ha : s.sa? sa = some a) (hkey : s.usableKey? sa = some k) (hlen : l.length = 8192)

include hclear hb3 hver hnamed ha hkey hlen

/-- R150, R186: the three ways in which a frame of a known SA is judged. -/
theorem krwJudge_frame {d : List Byte × Bool}
    (hd : gcmDecrypt k.key (ivOf 3 0 0 (beAt l 37 8) k.salt) ((l.drop 8).take 40) ((l.drop 48).take 8128) (blockOf (l.drop 8176)) = d) :
    s.krwJudge p l = if d.2 = false then .failing false (some sa) else if beAt l 37 8 < a.pn then .failing true (some sa)
      else .accepted (some sa) d.1 (ecMask k.key (ivOf 3 0 0 (beAt l 37 8) k.salt)) := by
  have h := krwJudge_named (l := l) hclear (by rw [octet_overhead, hb3]) hver hnamed ha hkey
  dsimp only at h
  rwa [beAt_overhead hlen, hd] at h

/-- R150, R209: a Kraow frame that arrives whole at an empty framer, under an ACTIVE SA and with an engine that serves it, is accepted. -/
theorem krwConsume_accepted {fn : Nat} (n : Nat) (hstate : s.get KFR_ALIGN.FSTATE p ≠ 0) (hbuf : (s.krwPort p).rxBuf = l)
    (hmarker : isMarker l = true) (h6 : octet l 6 = fn) (hread : s.get KFR_ALIGN.FN p = fn) (hfn : fn ≠ 0) {pay : List Byte}
    (hd : gcmDecrypt k.key (ivOf 3 0 0 (beAt l 37 8) k.salt) ((l.drop 8).take 40) ((l.drop 48).take 8128) (blockOf (l.drop 8176)) = (pay, true))
    (hpn : a.pn ≤ beAt l 37 8) (hlife : a.life = 1) (hpm : (s.krwPort p).pm.length = 9) (hengine : s.krwEngine p = some e)
    (hlimit : k.limitEn = false)
    (hserves : s.progServes (48 * (p / 8) + e) (s.krwWork p sa (beAt l 37 8) ((l.drop 48).take 8128)) = true) :
    (s.krwConsume (n + 1) p).rxView p
      = (s.tbl.sa.set sa (some { a with pn := beAt l 37 8 + 1 }) none, (s.krwAdvance p fn).word .KFR_ALIGN p 0, [],
          min ((s.krwPort p).pm.getD 8 0 + 1) (2 ^ 32 - 1)) := by
  have hview := krwAdvance_engineView (s := s) (p := p) hfn
  have hclear' : (s.krwAdvance p fn).flag KFR_CFG.TEST_CLEAR p = false := by
    rw [← hclear, State.flag, State.flag, krwAdvance_get hfn (by decide)]
  have hver' := (krwVerifies_of_engineView (p := p) hview).trans hver
  have hnamed' := (krwNamed_of_engineView (p := p) (l := l) hview).trans hnamed
  have ha' := (sa?_of_engineView (sa := sa) hview).trans ha
  have hkey' := (usableKey?_of_engineView hview sa).trans hkey
  have hjudge := krwJudge_frame hclear' hb3 hver' hnamed' ha' hkey' hlen hd
  rw [if_neg (by simp), if_neg (by omega)] at hjudge
  have hserves' : (s.krwAdvance p fn).progServes (48 * (p / 8) + e)
      ((s.krwAdvance p fn).krwWork p sa (beAt l 37 8) ((l.drop 48).take 8128)) = true := by
    have he := krwEngine_lt hengine
    rw [krwWork_of_engineView hview, progServes_of_engineView hview (by omega), hserves]
  have hverify := krwVerify_runs (krwRxSa_named hclear' hb3 hver' hnamed' hkey') ((krwEngine_of_engineView hview p.isLt).trans hengine) hserves'
    hkey' hlimit
  rw [hjudge] at hverify
  have hnext := krwNext_good hbuf hlen hmarker (h6.trans hread.symm)
  rw [hread, krwFrame_inside hfn l hverify] at hnext
  rw [krwConsume_frame n hstate (by rw [hbuf, hlen]) hnext]
  have hu := krwDispatch_rxView (s.krwAdvance p fn) p e ((s.krwAdvance p fn).krwWork p sa (beAt l 37 8) ((l.drop 48).take 8128))
    (n := p / 8) (by omega)
  have hport := congrArg (fun x : KrwState => x.ports.get p {}) (krwDispatch_krw (s.krwAdvance p fn) (p / 8) e
    ((s.krwAdvance p fn).krwWork p sa (beAt l 37 8) ((l.drop 48).take 8128)))
  generalize State.krwDispatch (p / 8) e ((s.krwAdvance p fn).krwWork p sa (beAt l 37 8) ((l.drop 48).take 8128)) (s.krwAdvance p fn) = u
    at hu hport ⊢
  have hport : u.krwPort p = (s.krwAdvance p fn).krwPort p := hport
  obtain ⟨hsa, hview1⟩ := Prod.mk.inj hu
  obtain ⟨hword, -⟩ := Prod.mk.inj hview1
  rw [krwAdvance_tbl hfn] at hsa
  have hdone := krwDone_active_rxView fn pay (ecMask k.key (ivOf 3 0 0 (beAt l 37 8) k.salt)) (s := u) (p := p) (l := l)
    (by rw [State.sa?, hsa]; exact ha) hlife (by rw [hport, krwAdvance_pm hfn, hpm]) (beAt_overhead hlen)
  rw [hsa, hword, hport, krwAdvance_rxBuf hfn, krwAdvance_pm hfn] at hdone
  generalize u.krwDone p fn l (.accepted (some sa) pay (ecMask k.key (ivOf 3 0 0 (beAt l 37 8) k.salt))) = v at hdone ⊢
  obtain ⟨-, hrest⟩ := Prod.mk.inj hdone
  obtain ⟨hword', hrest⟩ := Prod.mk.inj hrest
  obtain ⟨hbuf', -⟩ := Prod.mk.inj hrest
  have hstate' : v.get KFR_ALIGN.FSTATE p ≠ 0 := by
    rw [get_of_word hword' rfl rfl, krwAdvance_get hfn (by decide)]
    exact hstate
  rw [krwConsume_short n hstate' (by rw [hbuf']; decide), hdone]

end

/-! ### A framer without a signal -/

/-- The octets that a framer has kept, and the tables. -/
def State.rxKept (s : State) (p : Nat) : List Byte × TblState := ((s.krwPort p).rxBuf, s.tbl)

theorem onKrw_rxKept (s : State) (p q : Nat) (f : KrwPort → KrwPort) (h : ∀ k, (f k).rxBuf = k.rxBuf) :
    (s.onKrw q f).rxKept p = s.rxKept p :=
  congrArg (fun x : List Byte => (x, s.tbl)) (onKrw_part (·.rxBuf) s q p f h)

theorem tribBlind_rxKept (p : Nat) : TribBlind (State.rxKept · p) where
  trib _ _ _ := rfl
  stat _ _ _ _ _ := rfl
  pointers s q := onKrw_rxKept s p q _ fun _ => rfl
  client _ _ _ := rfl

/-- R250: frames that do not arrive deliver nothing and reach no table. -/
theorem krwGap_rxKept (s : State) (p n : Nat) : (s.krwGap p n).rxKept p = s.rxKept p := by
  unfold State.krwGap
  dsimp only
  rw [forN_keeps (State.rxKept · p), onKrw_rxKept]
  · exact fun _ => rfl
  · intro j u
    rw [demap_keeps (ok := false) (tribBlind_rxKept p) _ fun h => Bool.noConfusion h, onKrw_rxKept]
    exact fun _ => rfl

theorem flushEvents_rxBuf (s : State) (p : Fin 32) : (s.flushEvents.krwPort p).rxBuf = (s.krwPort p).rxBuf := by
  obtain ⟨-, h⟩ := Prod.mk.inj (flushEvents_rxView s p)
  obtain ⟨-, h⟩ := Prod.mk.inj h
  exact (Prod.mk.inj h).1

/-! ### The octets of a frame -/

section

variable {l : List Byte} {fn : Nat} (h : l.take 8 = [0x4B, 0x3C, 0xA5, 0x96, 0x0A, 0xE1, BitVec.ofNat 8 fn, 0])
include h

theorem isMarker_of_take : isMarker l = true := by
  rw [← List.take_append_drop 8 l, h]
  rfl

theorem octet_six_of_take (hfn : fn < 256) : octet l 6 = fn := by
  rw [← List.take_append_drop 8 l, h]
  exact (BitVec.toNat_ofNat fn 8).trans (Nat.mod_eq_of_lt hfn)

end

/-- R209: what the framer of a port with a signal takes. -/
theorem exec_kraowFrameRx_hearing {s : State} {p : Fin 32} (l : List Byte) (hj : s.judged p = true) (hdeaf : s.krwDeaf p = false) :
    let s1 := s.onKrw p fun k => { k with rxBuf := k.rxBuf ++ l.take (l.length / 8 * 8) }
    exec (.kraowFrameRx p l) s = finish (s1.krwConsume ((s1.krwPort p).rxBuf.length / 8 + 1) p) := by
  change execKraowFrameRx p l s = _
  rw [Nat.mul_comm]
  simp only [execKraowFrameRx, hj, hdeaf, Bool.not_true, Bool.false_eq_true, if_false]

theorem exec_kraowFrameRx_deaf {s : State} {p : Fin 32} (l : List Byte) (hj : s.judged p = true) (hdeaf : s.krwDeaf p = true) :
    exec (.kraowFrameRx p l) s
      = finish ((s.onKrw p fun k => { k with rxBuf := [] }).krwGap p ((s.krwPort p).rxBuf.length / 8 + l.length / 8)) := by
  change execKraowFrameRx p l s = _
  simp only [execKraowFrameRx, hj, hdeaf, Bool.not_true, Bool.false_eq_true, if_false, if_true]

end Sys2Proof.Machine

namespace Sys2Proof

open Machine

/-- Settles O29: whether the port listens, whether a frame is complete, and how the one that arrives whole is judged. -/
theorem kraowFramesReceived : Obligations.KraowFramesReceived := by
  unfold Obligations.KraowFramesReceived
  intro p octets s
  refine ⟨fun hj => ?silent, fun hj hdeaf => ?deaf, fun hj hdeaf hstate hlen => ?short, ?whole⟩
  case silent =>
    refine ends_of_exec rfl (if_pos ?_)
    rw [hj]
    rfl
  case deaf =>
    refine answers_of_exec (exec_kraowFrameRx_deaf octets hj hdeaf) ?_
    obtain ⟨hbuf, htbl⟩ := Prod.mk.inj (krwGap_rxKept (s.onKrw p fun k => { k with rxBuf := [] }) p
      ((s.krwPort p).rxBuf.length / 8 + octets.length / 8))
    rw [flushEvents_rxBuf, flushEvents_tbl, hbuf, htbl, onKrw_krwPort_same]
    exact ⟨rfl, rfl⟩
  case short =>
    refine ends_of_exec (exec_kraowFrameRx_hearing octets hj hdeaf) (krwConsume_short _ hstate ?_)
    rw [onKrw_krwPort_same]
    simp only [List.length_append, List.length_take]
    omega
  case whole =>
    intro sa e a k fc fn hj hstate hbuf hlen hmarker hfn hclear hb3 hsc han ha hlive hkey hver oh
    have hnamed := krwNamed_eq (l := octets) hsc han ha hlive
    generalize hd : gcmDecrypt k.key (ivOf 3 0 0 fc k.salt) oh ((octets.drop 48).take 8128) (blockOf (octets.drop 8176)) = d
    obtain ⟨pay, ok⟩ := d
    have hjudge := krwJudge_frame hclear hb3 hver hnamed ha hkey hlen hd
    refine ⟨fun hok hpn => ?accepted, fun hok hpn => ?late, fun hok => ?failing, fun hok hpn hlife hpm hdeaf hengine hlimit hserves => ?taken⟩
    case accepted => rw [hjudge, if_neg (by simp [hok]), if_neg (Nat.not_lt.mpr hpn)]
    case late => rw [hjudge, if_neg (by simp [hok]), if_pos hpn]
    case failing => rw [hjudge, if_pos hok]
    case taken =>
      refine answers_of_exec (exec_kraowFrameRx_hearing octets hj hdeaf) ?_
      generalize hs1 : (s.onKrw p fun k => { k with rxBuf := k.rxBuf ++ octets.take (octets.length / 8 * 8) }) = s1
      have hbuf1 : (s1.krwPort p).rxBuf = octets := by
        rw [← hs1, onKrw_krwPort_same, hbuf, List.nil_append, List.take_of_length_le (by omega)]
      have hpm1 : (s1.krwPort p).pm = (s.krwPort p).pm := by rw [← hs1, onKrw_krwPort_same]
      have hview : s1.engineView = s.engineView := by rw [← hs1]; rfl
      have hregs (f : Field) : s1.get f p = s.get f p := by rw [← hs1]; rfl
      have hlt : fn < 256 := get_lt s KFR_ALIGN.FN p
      have he := krwEngine_lt hengine
      have hclear1 : s1.flag KFR_CFG.TEST_CLEAR p = false := by rw [← hclear, State.flag, State.flag, hregs]
      have hstate1 : s1.get KFR_ALIGN.FSTATE p ≠ 0 := by rwa [hregs]
      have hserves1 : s1.progServes (48 * (p / 8) + e) (s1.krwWork p sa fc ((octets.drop 48).take 8128)) = true := by
        rw [krwWork_of_engineView hview, progServes_of_engineView hview (by omega), hserves]
      have hout := krwConsume_accepted hclear1 hb3 ((krwVerifies_of_engineView hview).trans hver) ((krwNamed_of_engineView hview).trans hnamed)
        ((sa?_of_engineView hview).trans ha) ((usableKey?_of_engineView hview sa).trans hkey) hlen ((s1.krwPort p).rxBuf.length / 8) hstate1
        hbuf1 (isMarker_of_take hmarker) (octet_six_of_take hmarker hlt) (hregs _) hfn (hok ▸ hd) hpn hlife (by rw [hpm1, hpm])
        ((krwEngine_of_engineView hview p.isLt).trans hengine) hlimit hserves1
      rw [← flushEvents_rxView, hpm1] at hout
      obtain ⟨hsas, hrest⟩ := Prod.mk.inj hout
      obtain ⟨halign, hrest⟩ := Prod.mk.inj hrest
      obtain ⟨hrx, hcount⟩ := Prod.mk.inj hrest
      refine ⟨?_, ⟨{ a with pn := fc + 1 }, ?_, rfl⟩, hrx, hcount⟩
      · rw [get_of_word halign rfl rfl, krwAdvance_fn hfn]
      · rw [State.sa?, hsas, KMap.get_set_same]

end Sys2Proof
end

section
/-!
PROOFS. The participants of the key agent (R190 to R194, R197): what a participant's installs, commands and MKPDUs leave of the participants, of
their LIVE bits and of the agent's input, and the obligation on them. The slots of ICK and KEK and the layout of an MKPDU are the model's reading of
IEEE 802.1X-2020 (notes/assumptions/21.md).
-/

namespace Sys2Proof.Machine

/-! ### What the agent's work on keys, tables and frames leaves -/

/-- The participants, the word of `GLB_AGT_PORT` of a line port and the agent's input. -/
def State.agtView (s : State) (p : Fin 32) : KMap AgtPort × Word × List (Nat × List Byte) := (s.agt, s.word .GLB_AGT_PORT p 0, s.path.agentIn)

section

variable (s : State) (p : Fin 32)

theorem agtPort_of_agtView {s t : State} {p : Fin 32} (h : t.agtView p = s.agtView p) (q : Nat) : t.agtPort q = s.agtPort q :=
  congrArg (fun v : KMap AgtPort × Word × List (Nat × List Byte) => KMap.get v.1 q {}) h

theorem agtView_of_pmc {t : State} (hparts : t.noRegs = s.noRegs) (hwithin : Within pmcRegs s t) : t.agtView p = s.agtView p := by
  rw [State.agtView, hwithin.word .GLB_AGT_PORT p 0 (by decide) (by omega) (by omega), part_of_noRegs State.agt (fun _ => rfl) hparts,
    part_of_noRegs State.path (fun _ => rfl) hparts]
  rfl

theorem pmcEvent_agtView (level event inst d : Nat) (h : level < 5) : (s.pmcEvent level event inst d).agtView p = s.agtView p :=
  agtView_of_pmc s p (pmcEvent_noRegs ..) (.pmcEvent s level event inst d h)

theorem flushEvents_agtView : s.flushEvents.agtView p = s.agtView p := by
  rw [State.agtView, flushEvents_word_early s (by decide) (by omega) (by omega), flushEvents_path,
    part_of_beside State.agt (fun _ => rfl) (flushEvents_beside s)]
  rfl

theorem drawOctets_agtView (n : Nat) : (s.drawOctets n).2.agtView p = s.agtView p := by
  induction n generalizing s with
  | zero => rfl
  | succ n ih => exact ih s.draw.2

theorem drawOctets_length (n : Nat) : (s.drawOctets n).1.length = n := by
  induction n generalizing s with
  | zero => rfl
  | succ n ih => exact congrArg (· + 1) (ih s.draw.2)

theorem drbg_agtView (n : Nat) : (s.drbg n).2.agtView p = s.agtView p :=
  (pmcEvent_agtView _ p 4 0x12 0 1 (by omega)).trans (drawOctets_agtView s p n)

theorem drbg_length (n : Nat) : (s.drbg n).1.length = n := drawOctets_length s n

/-- R83: a job of the MCU changes the engines' part alone. -/
theorem addJob_keeps {β : Type} (g : State → β) (hfen : ∀ s f, g { s with fen := f } = g s) (n kh slot : Nat) (data : List Byte) :
    g (s.addJob n kh slot data) = g s := by
  have hplaced (t : State) (e : Nat) (w : WorkItem) (rest : List WorkItem) : g (t.placeJob n e w rest) = g t :=
    (threadWake_keeps g _ (fun _ _ => hfen _ _) _).trans ((hfen _ _).trans (hfen _ _))
  exact drainJobs_holds (fun t => g t = g s) n (fun t e w rest _ ht => (hplaced t e w rest).trans ht) _ (hfen _ _)

theorem macJob_agtView (q : Nat) (msg : List Byte) : (s.macJob q msg).agtView p = s.agtView p :=
  addJob_keeps s (State.agtView · p) (fun _ _ => rfl) _ _ _ msg

theorem wrapJob_agtView (q : Nat) (data : List Byte) : (s.wrapJob q data).agtView p = s.agtView p :=
  addJob_keeps s (State.agtView · p) (fun _ _ => rfl) _ _ _ data

theorem keyInstall_agtView (kh : Nat) (k : KeyRec) : (s.keyInstall kh k).agtView p = s.agtView p := rfl

theorem rallySend_agtView (typ : Nat) (body : List Byte) : (s.rallySend typ body).agtView p = s.agtView p :=
  rallySend_keeps (State.agtView · p) (fun _ _ => rfl) s typ body

theorem kstMirrorOut_agtView (mir : Option KstMirror) : (s.kstMirrorOut mir).agtView p = s.agtView p := by
  unfold State.kstMirrorOut
  split
  · split
    · exact rallySend_agtView ..
    · rfl
  · rfl

theorem tblMirrorOut_agtView (x : TblMirror) : (s.tblMirrorOut x).agtView p = s.agtView p := by
  unfold State.tblMirrorOut
  split
  · exact rallySend_agtView ..
  · rfl

/-- R78: of two states, settling the shadow compare answers the second, with at most the unit's waiting items marked. -/
theorem shadowSettle_agtView (n : Nat) (old : State) : (old.shadowSettle n s).agtView p = s.agtView p := by
  unfold State.shadowSettle
  dsimp only
  split <;> rfl

theorem tblDo_agtView (n op target index : Nat) (rsv : Bool) (d : List Word) :
    (s.tblDo n op target index rsv d).2.2.agtView p = s.agtView p := by
  unfold State.tblDo
  dsimp only
  split
  · split
    · exact shadowSettle_agtView ..
    · rfl
  · exact shadowSettle_agtView ..

theorem agtTable_agtView (n op target index : Nat) (d : List Word) : (s.agtTable n op target index d).2.agtView p = s.agtView p := by
  unfold State.agtTable
  dsimp only
  split
  · exact (when_keeps (State.agtView · p) _ _ _ (tblMirrorOut_agtView _ p _)).trans (tblDo_agtView ..)
  · rfl

theorem agtInstallSa_agtView (sc an dir : Nat) (sak : List Byte) (salt ssci suite : Nat) :
    (s.agtInstallSa sc an dir sak salt ssci suite).agtView p = s.agtView p :=
  (agtTable_agtView ..).trans ((kstMirrorOut_agtView ..).trans (keyInstall_agtView ..))

theorem sendFrame_agtView (q : Nat) (frame : List Byte) (stomp : Bool) : (s.sendFrame q frame stomp).agtView p = s.agtView p := by
  have hregion : portRegion q < 5 := by
    unfold portRegion
    omega
  exact when_keeps (State.agtView · p) (s.send q _) _ _ (pmcEvent_agtView _ p _ 3 _ 1 hregion)

end

/-! ### One participant changed -/

section

variable (s : State) (p : Nat) (f : AgtPort → AgtPort)

@[simp] theorem onAgt_agtPort_same : (s.onAgt p f).agtPort p = f (s.agtPort p) := KMap.get_set_same _ _ _ _

theorem onAgt_agtPort_ne {q : Nat} (h : q ≠ p) : (s.onAgt p f).agtPort q = s.agtPort q := KMap.get_set_ne _ _ _ _ _ _ h

/-- What an update of a participant keeps of it reads as before. -/
theorem onAgt_part {β : Type} (g : AgtPort → β) (hf : ∀ a, g (f a) = g a) (q : Nat) : g ((s.onAgt p f).agtPort q) = g (s.agtPort q) := by
  by_cases h : q = p
  · rw [h, onAgt_agtPort_same, hf]
  · rw [onAgt_agtPort_ne s p f h]

end

/-! ### What a participant's MKPDUs and SAKs make of the participants -/

section

variable {s t : State} {p : Fin 32}

theorem onAgt_agtView_congr (h : t.agtView p = s.agtView p) (q : Nat) (f : AgtPort → AgtPort) :
    (t.onAgt q f).agtView p = (s.onAgt q f).agtView p := by
  obtain ⟨hagt, hrest⟩ := Prod.mk.inj h
  simp only [State.agtView, State.onAgt, State.agtPort, hagt]
  exact congrArg (Prod.mk _) hrest

/-- A participant with the number of one more MKPDU. -/
def AgtPort.sends (a : AgtPort) : AgtPort := { a with mn := a.mn + 1 }

/-- A participant with a SAK installed (R193). -/
def AgtPort.installs (an mi kn : Nat) (fresh : Bool) (a : AgtPort) : AgtPort :=
  { a with
    key := some (an, mi, kn), oldKey := a.key, fresh := fresh, moved := false
    old := match a.key with
      | some (o, _) => if o == an || o ∈ a.old then a.old else a.old ++ [o]
      | none => a.old }

/-- A participant with a SAK to distribute (R192). -/
def AgtPort.gives (an kn : Nat) (wrapped : List Byte) (a : AgtPort) : AgtPort := { a with kn := kn, dist := some (an, kn, wrapped) }

/-- R190: a participant that sends an MKPDU counts it. -/
theorem mkaSend_agtView (s : State) (p : Fin 32) (q : Nat) :
    (s.mkaSend q).agtView p = s.agtView p ∨ (s.mkaSend q).agtView p = (s.onAgt q AgtPort.sends).agtView p := by
  unfold State.mkaSend
  dsimp only
  split
  · exact Or.inl rfl
  · right
    split
    · exact macJob_agtView ..
    · exact (sendFrame_agtView ..).trans (macJob_agtView ..)

/-- R193: the install of a SAK changes the participant alone. -/
theorem agtInstall_agtView (s : State) (p : Fin 32) (q an mi kn : Nat) (sak : List Byte) (fresh : Bool) :
    (s.agtInstall q an mi kn sak fresh).agtView p = (s.onAgt q (AgtPort.installs an mi kn fresh)).agtView p := by
  unfold State.agtInstall
  dsimp only
  refine onAgt_agtView_congr ?_ q _
  split
  · exact (agtInstallSa_agtView ..).trans (agtInstallSa_agtView ..)
  · exact agtInstallSa_agtView ..

/-- R192: a key server has drawn a SAK for an AN, installed it and given it for distribution, its MKPDU not yet sent. -/
def State.agtGives (p an : Nat) (s : State) : State :=
  let a := s.agtPort p
  let suite := s.get GLB_AGT_PORT.SUITE p
  let (sak, s1) := s.drbg (if suite == 0 || suite == 2 then 16 else 32)
  ((s1.agtInstall p an a.mi (a.kn + 1) sak true).wrapJob p sak).onAgt p (.gives an (a.kn + 1) (keyWrap (s.keyOctets (ickHandle p + 1)) sak))

/-- The SAK that a key server draws. -/
def State.agtSak (s : State) (p : Nat) : List Byte :=
  (s.drbg (if s.get GLB_AGT_PORT.SUITE p == 0 || s.get GLB_AGT_PORT.SUITE p == 2 then 16 else 32)).1

/-- R192, R194: what a request for a new SAK can come to. -/
theorem agtDistribute_cases (s : State) (q : Nat) :
    s.agtDistribute q = s ∨ s.agtDistribute q = s.raise 150 3 q ∨ ∃ an, s.agtDistribute q = (s.agtGives q an).mkaSend q := by
  unfold State.agtDistribute
  dsimp only
  split
  · exact Or.inl rfl
  · split
    · exact Or.inr (Or.inl rfl)
    · split
      · exact Or.inl rfl
      · split
        · exact Or.inl rfl
        · next an _ => exact Or.inr (Or.inr ⟨an, rfl⟩)

/-- R192: a key server with the DRBG in order and the next AN free gives a SAK of that AN. -/
theorem agtDistribute_gives {s : State} {q an : Nat}
    (han : an = ((s.agtPort q).key.elim ((s.sc? (s.agtTx q)).elim 3 (·.curAn)) (·.1) + 1) % 4) (hagent : s.agentOn = true)
    (hon : (s.agtPort q).on = true) (hrole : s.get GLB_AGT_PORT.ROLE q = 1) (hfail : s.flag KST_CTRL.DRBG_FAIL = false)
    (hdraws : s.drbgRefuses = false) (hfree : s.agtFree q an = true) : s.agtDistribute q = (s.agtGives q an).mkaSend q := by
  subst han
  unfold State.agtDistribute
  simp only [hagent, hon, hrole, hfail, hdraws, List.map_cons, List.find?_cons, hfree]
  rfl

/-- A participant that does not run is asked in vain. -/
theorem agtDistribute_off {s : State} {q : Nat} (h : (s.agtPort q).on = false) : s.agtDistribute q = s := by
  unfold State.agtDistribute
  simp [h]

theorem agtGives_agtView (s : State) (p : Fin 32) (q an : Nat) : (s.agtGives q an).agtView p
    = ((s.onAgt q (.installs an (s.agtPort q).mi ((s.agtPort q).kn + 1) true)).onAgt q
        (.gives an ((s.agtPort q).kn + 1) (keyWrap (s.keyOctets (ickHandle q + 1)) (s.agtSak q)))).agtView p := by
  refine onAgt_agtView_congr ?_ q _
  rw [wrapJob_agtView, agtInstall_agtView]
  exact onAgt_agtView_congr (drbg_agtView ..) q _

/-! ### The partner of a participant -/

/-- What a participant shows of its partner, and the agent's input. -/
def State.partnerView (s : State) (p : Fin 32) : Option AgtPeer × Nat × List (Nat × List Byte) :=
  ((s.agtPort p).peer, s.get GLB_AGT_PORT.LIVE p, s.path.agentIn)

theorem partnerView_of_agtView (h : t.agtView p = s.agtView p) : t.partnerView p = s.partnerView p := by
  obtain ⟨hagt, hrest⟩ := Prod.mk.inj h
  obtain ⟨hword, hin⟩ := Prod.mk.inj hrest
  rw [State.partnerView, agtPort_of_agtView h, get_of_word hword rfl rfl, hin]
  rfl

theorem onAgt_partnerView (s : State) (p : Fin 32) (q : Nat) (f : AgtPort → AgtPort) (hf : ∀ a, (f a).peer = a.peer) :
    (s.onAgt q f).partnerView p = s.partnerView p := congrArg (Prod.mk · _) (onAgt_part s q f AgtPort.peer hf p)

theorem mkaSend_partnerView (s : State) (p : Fin 32) (q : Nat) : (s.mkaSend q).partnerView p = s.partnerView p := by
  rcases mkaSend_agtView s p q with h | h
  · exact partnerView_of_agtView h
  · exact (partnerView_of_agtView h).trans (onAgt_partnerView s p q _ fun _ => rfl)

theorem agtInstall_partnerView (s : State) (p : Fin 32) (q an mi kn : Nat) (sak : List Byte) (fresh : Bool) :
    (s.agtInstall q an mi kn sak fresh).partnerView p = s.partnerView p :=
  (partnerView_of_agtView (agtInstall_agtView ..)).trans (onAgt_partnerView s p q _ fun _ => rfl)

theorem agtGives_partnerView (s : State) (p : Fin 32) (q an : Nat) : (s.agtGives q an).partnerView p = s.partnerView p := by
  rw [partnerView_of_agtView (agtGives_agtView s p q an), onAgt_partnerView, onAgt_partnerView]
  all_goals exact fun _ => rfl

/-- R192: distributing a SAK leaves what is known of the partner. -/
theorem agtDistribute_partnerView (s : State) (p : Fin 32) (q : Nat) : (s.agtDistribute q).partnerView p = s.partnerView p := by
  obtain h | h | ⟨an, h⟩ := agtDistribute_cases s q
  · rw [h]
  · rw [h]
    rfl
  · rw [h, mkaSend_partnerView, agtGives_partnerView]

theorem agtElect_partnerView (s : State) (p q : Fin 32) : (s.agtElect q).partnerView p = s.partnerView p := by
  have hlive (v : Nat) : (s.set GLB_AGT_PORT.ROLE q v).get GLB_AGT_PORT.LIVE p = s.get GLB_AGT_PORT.LIVE p :=
    get_set_disjoint s (by decide) (by omega) (by omega)
  exact congrArg (fun v => ((s.agtPort p).peer, v, s.path.agentIn)) (hlive _)

theorem agtMove_partnerView (s : State) (p : Fin 32) (q : Nat) : (s.agtMove q).partnerView p = s.partnerView p := by
  unfold State.agtMove
  dsimp only
  split
  · split
    · rfl
    · split
      · exact onAgt_partnerView s p q _ fun _ => rfl
      · split
        · rfl
        · exact partnerView_of_agtView (agtTable_agtView ..)
  · rfl

theorem mkaNote_partnerView (s : State) (p : Fin 32) (q : Nat) (m : Mkpdu) : (s.mkaNote q m).partnerView p = s.partnerView p := by
  refine onAgt_partnerView s p q _ fun a => ?_
  split <;> rfl

theorem mkaTakeSak_partnerView (s : State) (p : Fin 32) (q : Nat) (m : Mkpdu) : (s.mkaTakeSak q m).partnerView p = s.partnerView p := by
  have hjob (w : List Byte) : (s.wrapJob q w).partnerView p = s.partnerView p := partnerView_of_agtView (wrapJob_agtView ..)
  unfold State.mkaTakeSak
  dsimp only
  split
  · split
    · rfl
    · split
      · exact (agtInstall_partnerView ..).trans (hjob _)
      · exact hjob _
  · rfl

theorem mkaTakeUse_partnerView (s : State) (p : Fin 32) (q : Nat) (m : Mkpdu) : (s.mkaTakeUse q m).partnerView p = s.partnerView p := by
  have hmove (c : Bool) : (if c then (s.onAgt q fun a => { a with dist := none }).agtMove q else s).partnerView p = s.partnerView p := by
    split
    · exact (agtMove_partnerView ..).trans (onAgt_partnerView s p q _ fun _ => rfl)
    · rfl
  unfold State.mkaTakeUse
  dsimp only
  split
  · split
    · exact (agtDistribute_partnerView ..).trans (hmove _)
    · exact hmove _
  · rfl

/-! ### The partner heard and lost (R190) -/

/-- An MKPDU lists a participant among its peers, under a number that it has sent. -/
def Mkpdu.sees (m : Mkpdu) (a : AgtPort) : Bool := (m.lives ++ m.pots).any fun x => x.1 == a.mi && x.2 ≤ a.mn

/-- The partner that an MKPDU tells of. -/
def Mkpdu.peer (m : Mkpdu) (a : AgtPort) : AgtPeer := { mi := m.mi, mn := m.mn, sci := m.sci, prio := m.prio, live := m.sees a }

/-- R190, R200: a participant with a first partner. -/
def AgtPort.meets (m : Mkpdu) (a : AgtPort) : AgtPort := { a with listed := false, seen := [], peer := some (m.peer a) }

theorem mkaSender_first {s : State} {q : Nat} (m : Mkpdu) (h : (s.agtPort q).peer = none) :
    ∃ t, s.mkaSender q m = some t ∧ t.agtPort q = (s.agtPort q).meets m ∧ t.path.agentIn = s.path.agentIn := by
  unfold State.mkaSender
  simp only [h]
  refine ⟨_, rfl, ?_, rfl⟩
  rw [onAgt_agtPort_same, onAgt_agtPort_same]
  rfl

theorem mkaProcess_first {s : State} {p : Fin 32} (m : Mkpdu) (h : (s.agtPort p).peer = none) :
    (s.mkaProcess p m).partnerView p = (some (m.peer (s.agtPort p)), natOfBool (m.sees (s.agtPort p)), s.path.agentIn) := by
  obtain ⟨t, ht, hport, hin⟩ := mkaSender_first m h
  have hpeer : (t.agtPort p).peer = some (m.peer (s.agtPort p)) := by rw [hport]; rfl
  have hshown (b : Bool) : (((t.set GLB_AGT_PORT.LIVE p (natOfBool b)).agtElect p).mkaNote p m).partnerView p
      = (some (m.peer (s.agtPort p)), natOfBool b, s.path.agentIn) := by
    rw [mkaNote_partnerView, agtElect_partnerView, ← hpeer, ← hin]
    refine congrArg (fun v => ((t.agtPort p).peer, v, t.path.agentIn)) (get_set_eq _ (by decide) ?_)
    cases b <;> decide
  unfold State.mkaProcess
  simp only [ht, hpeer, h, Option.any_some, Option.any_none, Bool.not_false, when_true, Mkpdu.peer, beq_self_eq_true, if_true]
  split
  · exact hshown _
  · rw [mkaTakeUse_partnerView, mkaTakeSak_partnerView, agtDistribute_partnerView]
    exact hshown _

/-- A participant without its partner. -/
def AgtPort.forgets (a : AgtPort) : AgtPort := { a with peer := none }

/-- R190, R194: a lost partner is forgotten, and a participant that lived by it asks for a new SAK. -/
theorem mkaLost_partnerView {s : State} {p : Fin 32} (hpeer : (s.agtPort p).peer ≠ none) (hagent : s.agentOn = true) :
    (s.mkaLost p).partnerView p = (none, 0, s.path.agentIn) := by
  have hpeerless : ((s.onAgt p AgtPort.forgets).agtPort p).peer = none := by rw [onAgt_agtPort_same]; rfl
  have hforgotten : (((s.onAgt p AgtPort.forgets).set GLB_AGT_PORT.LIVE p 0).agtElect p).partnerView p = (none, 0, s.path.agentIn) := by
    rw [agtElect_partnerView, State.partnerView, get_set_eq _ (by decide) (by decide)]
    exact congrArg (Prod.mk · _) hpeerless
  unfold State.mkaLost
  simp only [Option.isNone_eq_false_iff.mpr (Option.isSome_iff_ne_none.mpr hpeer), hagent, Bool.not_true, Bool.or_self,
    Bool.false_eq_true, if_false]
  exact (when_keeps (State.partnerView · p) _ _ (fun s => s.agtDistribute p) (agtDistribute_partnerView ..)).trans hforgotten

theorem flushEvents_partnerView (s : State) (p : Fin 32) : s.flushEvents.partnerView p = s.partnerView p :=
  partnerView_of_agtView (flushEvents_agtView s p)

/-! ### SAKs distributed (R192, R194) -/

/-- The MKPDUs of a participant leave all of it but their number. -/
theorem mkaSend_part {β : Type} (g : AgtPort → β) (hg : ∀ a, g (AgtPort.sends a) = g a) (s : State) (q r : Nat) :
    g ((s.mkaSend q).agtPort r) = g (s.agtPort r) := by
  rcases mkaSend_agtView s 0 q with h | h
  · rw [agtPort_of_agtView h]
  · rw [agtPort_of_agtView h, onAgt_part s q _ g hg]

/-- A request for a new SAK is the participant's own: it leaves the others. -/
theorem agtDistribute_agtPort_ne (s : State) {q r : Nat} (hne : r ≠ q) : (s.agtDistribute q).agtPort r = s.agtPort r := by
  have hsend (t : State) : (t.mkaSend q).agtPort r = t.agtPort r := by
    rcases mkaSend_agtView t 0 q with h | h
    · rw [agtPort_of_agtView h]
    · rw [agtPort_of_agtView h, onAgt_agtPort_ne t q _ hne]
  obtain h | h | ⟨an, h⟩ := agtDistribute_cases s q
  · rw [h]
  · rw [h]
    rfl
  · rw [h, hsend, agtPort_of_agtView (agtGives_agtView s 0 q an), onAgt_agtPort_ne _ q _ hne, onAgt_agtPort_ne _ q _ hne]

/-- Of updates of which one alone does anything, all together do what that one does. -/
theorem forN_only (P : State → Prop) (f : Nat → State → State) (k n : Nat) (hidle : ∀ j < n, j ≠ k → ∀ t, P t → f j t = t) {s : State}
    (hs : P s) (hk : P (f k s)) : s.forN n f = if k < n then f k s else s := by
  induction n with
  | zero => rfl
  | succ n ih =>
    have hlast : s.forN (n + 1) f = f n (s.forN n f) := by simp [State.forN, List.range_succ]
    rw [hlast, ih fun j hj => hidle j (by omega)]
    by_cases h : n = k
    · simp [h]
    · by_cases hlt : k < n
      · rw [if_pos hlt, if_pos (by omega)]
        exact hidle n (by omega) h _ hk
      · rw [if_neg hlt, if_neg (by omega)]
        exact hidle n (by omega) h _ hs

/-- Every participant but one stands still. -/
def State.agtAlone (p : Nat) (s : State) : Prop := ∀ q, q < 32 → q ≠ p → (s.agtPort q).on = false

/-- R194: a request of all participants, of which one runs, is a request of that one. -/
theorem agtRekeyAll_alone {s : State} {p : Fin 32} (h : s.agtAlone p) : s.agtRekeyAll = s.agtDistribute p := by
  have hkept : (s.agtDistribute p).agtAlone p := fun q hq hne => by rw [agtDistribute_agtPort_ne s hne]; exact h q hq hne
  exact (forN_only (State.agtAlone p) (fun q t => t.agtDistribute q) p 32 (fun q hq hne t ht => agtDistribute_off (ht q hq hne)) h hkept).trans
    (if_pos p.isLt)

/-- R192: what a key server with the DRBG in order and the next AN free is left with. -/
theorem agtDistribute_distributes {s : State} {p : Fin 32} {an : Nat}
    (han : an = ((s.agtPort p).key.elim ((s.sc? (s.agtTx p)).elim 3 (·.curAn)) (·.1) + 1) % 4) (hagent : s.agentOn = true)
    (hon : (s.agtPort p).on = true) (hrole : s.get GLB_AGT_PORT.ROLE p = 1) (hfail : s.flag KST_CTRL.DRBG_FAIL = false)
    (hdraws : s.drbgRefuses = false) (hfree : s.agtFree p an = true) :
    let x := (s.agtDistribute p).agtPort p
    let a := s.agtPort p
    x.kn = a.kn + 1 ∧ x.key = some (an, a.mi, a.kn + 1)
      ∧ x.dist = some (an, a.kn + 1, keyWrap (s.keyOctets (ickHandle p + 1)) (s.agtSak p)) := by
  dsimp only
  have hgives := agtPort_of_agtView (agtGives_agtView s p p an) p
  rw [onAgt_agtPort_same, onAgt_agtPort_same] at hgives
  rw [agtDistribute_gives han hagent hon hrole hfail hdraws hfree, mkaSend_part AgtPort.kn (fun _ => rfl), mkaSend_part AgtPort.key (fun _ => rfl),
    mkaSend_part AgtPort.dist (fun _ => rfl), hgives]
  exact ⟨rfl, rfl, rfl⟩

theorem agtSak_length (s : State) (p : Nat) :
    (s.agtSak p).length = if s.get GLB_AGT_PORT.SUITE p = 0 ∨ s.get GLB_AGT_PORT.SUITE p = 2 then 16 else 32 := by
  rw [State.agtSak, drbg_length]
  simp only [Bool.or_eq_true, beq_iff_eq]

/-! ### An MKPDU sent (R190) -/

/-- A state with the participants and the engines of another. -/
def State.agtFenOf (t s : State) : State := { t with agt := s.agt, fen := s.fen }

section

variable (t s : State)

@[simp] theorem agtFenOf_set (f : Field) (i v : Nat) : (t.agtFenOf s).set f i v = (t.set f i v).agtFenOf s := rfl
@[simp] theorem agtFenOf_get (f : Field) (i : Nat) : (t.agtFenOf s).get f i = t.get f i := rfl
@[simp] theorem agtFenOf_flag (f : Field) (i : Nat) : (t.agtFenOf s).flag f i = t.flag f i := rfl
@[simp] theorem agtFenOf_domOn (d : Nat) : (t.agtFenOf s).domOn d = t.domOn d := rfl
@[simp] theorem agtFenOf_pmcSel (r c : Field) (k : Nat) : (t.agtFenOf s).pmcSel r c k = t.pmcSel r c k := rfl
@[simp] theorem agtFenOf_pmcCount (c : Nat) : (t.agtFenOf s).pmcCount c = t.pmcCount c := rfl
@[simp] theorem agtFenOf_pmcChained (c : Nat) : (t.agtFenOf s).pmcChained c = t.pmcChained c := rfl
@[simp] theorem agtFenOf_pmcRuns (c : Nat) : (t.agtFenOf s).pmcRuns c = t.pmcRuns c := rfl

@[simp] theorem ite_agtFenOf (c : Prop) [Decidable c] (u : State) :
    (if c then t else u).agtFenOf s = if c then t.agtFenOf s else u.agtFenOf s := by
  split <;> rfl

@[simp] theorem pmcPut_agtFenOf (c v : Nat) : (t.agtFenOf s).pmcPut c v = (t.pmcPut c v).agtFenOf s := by
  simp only [State.pmcPut, agtFenOf_set, ite_agtFenOf]

@[simp] theorem pmcOverflow_agtFenOf (c : Nat) : (t.agtFenOf s).pmcOverflow c = (t.pmcOverflow c).agtFenOf s := by
  simp only [State.pmcOverflow, agtFenOf_domOn, agtFenOf_get, agtFenOf_set, agtFenOf_flag, ite_agtFenOf]
  rfl

@[simp] theorem pmcWrap_agtFenOf (c : Nat) : (t.agtFenOf s).pmcWrap c = (t.pmcWrap c).agtFenOf s := by
  simp only [State.pmcWrap, agtFenOf_pmcChained, agtFenOf_pmcSel, agtFenOf_pmcCount, pmcPut_agtFenOf, pmcOverflow_agtFenOf, ite_agtFenOf]

@[simp] theorem pmcAdd_agtFenOf (c d : Nat) : (t.agtFenOf s).pmcAdd c d = (t.pmcAdd c d).agtFenOf s := by
  simp only [State.pmcAdd, agtFenOf_pmcCount, pmcPut_agtFenOf, pmcWrap_agtFenOf, ite_agtFenOf]

/-- Counting for the performance counters reads and writes neither the participants nor the engines. -/
theorem pmcEvent_agtFenOf (level event inst d : Nat) :
    (t.agtFenOf s).pmcEvent level event inst d = (t.pmcEvent level event inst d).agtFenOf s := by
  refine List.foldl_hom (State.agtFenOf · s) fun u k => ?_
  simp only [agtFenOf_pmcRuns, agtFenOf_pmcChained, agtFenOf_pmcSel, pmcAdd_agtFenOf, ite_agtFenOf]

theorem sendFrame_agtFenOf (q : Nat) (frame : List Byte) (stomp : Bool) :
    (t.agtFenOf s).sendFrame q frame stomp = (t.sendFrame q frame stomp).agtFenOf s := by
  have hsend (b : List Byte) : (t.agtFenOf s).send q b = (t.send q b).agtFenOf s := rfl
  simp only [State.sendFrame, hsend, State.when, pmcEvent_agtFenOf, ite_agtFenOf]

end

/-- A frame sent on a line port is the newest of those sent there. -/
theorem sendFrame_sent (s : State) (q : Nat) (frame : List Byte) (stomp : Bool) :
    (s.sendFrame q frame stomp).path.sent.get q [] = s.path.sent.get q [] ++ [frame ++ fcsBytes frame stomp] := by
  have hpath : (s.sendFrame q frame stomp).path = (s.send q (frame ++ fcsBytes frame stomp)).path :=
    when_keeps State.path _ _ _ (part_of_noRegs State.path (fun _ => rfl) (pmcEvent_noRegs ..))
  rw [hpath]
  exact KMap.get_set_same _ _ _ _

theorem sendFrame_evt (s : State) (q : Nat) (frame : List Byte) (stomp : Bool) : (s.sendFrame q frame stomp).evt = s.evt :=
  when_keeps State.evt _ _ _ (part_of_noRegs State.evt (fun _ => rfl) (pmcEvent_noRegs ..))

/-- The state in which a participant sends its next MKPDU in Ethernet mode, with the job of its ICV given to the engines. -/
def State.mkaNumbered (p : Nat) (s : State) : State :=
  let t := s.onAgt p AgtPort.sends
  t.macJob p (t.mkaBody p)

/-- The next MKPDU of a participant. -/
def State.mkaNext (s : State) (p : Nat) : List Byte := (s.onAgt p AgtPort.sends).mkaFrame p

theorem mkaSend_ethernet {s : State} {p : Nat} (hagent : s.agentOn = true) (hon : (s.agtPort p).on = true) (hlibero : s.isLibero = false)
    (hup : s.portUp (32 + p) = true) (hkraow : s.isKraow (32 + p) = false) :
    s.mkaSend p = (s.mkaNumbered p).sendFrame (32 + p) (s.mkaNext p) false := by
  unfold State.mkaSend
  rw [if_neg (by simp [hagent, hon, hlibero, hup])]
  exact if_neg (by simp [hkraow])

theorem mkaNumbered_agtFenOf (s : State) (p : Nat) : (s.mkaNumbered p).agtFenOf s = s :=
  addJob_keeps _ (State.agtFenOf · s) (fun _ _ => rfl) _ _ _ _

theorem mkaNumbered_agtPort (s : State) (p : Nat) : (s.mkaNumbered p).agtPort p = (s.agtPort p).sends :=
  (agtPort_of_agtView (macJob_agtView _ 0 _ _) p).trans (onAgt_agtPort_same s p _)

/-- R190: the ICV of an MKPDU is the CMAC of the rest of it under the ICK. -/
theorem mkaNext_icv (s : State) (p : Nat) : let msg := (s.mkaNext p).take ((s.mkaNext p).length - 16)
    s.mkaNext p = msg ++ blockBytes (cmac (s.keyOctets (ickHandle p)) msg) := by
  have h (l : List Byte) (b : Block) : (l ++ blockBytes b).take ((l ++ blockBytes b).length - 16) = l := by
    rw [List.length_append, blockBytes_length, Nat.add_sub_cancel]
    exact List.take_left' rfl
  have hbody : (s.mkaNext p).take ((s.mkaNext p).length - 16) = (s.onAgt p AgtPort.sends).mkaBody p := h _ _
  dsimp only
  rw [hbody]
  rfl

/-! ### MKPDU_RX -/

/-- R190: an MKPDU leaves the agent's input. -/
def State.agentTakes (p : Nat) (octets : List Byte) (s : State) : State :=
  { s with path := { s.path with agentIn := s.path.agentIn.erase (p, octets) } }

/-- R190: a participant that runs gives the engines the job of the ICV, and processes the MKPDU where it is good. -/
def State.agentHears (p : Nat) (octets : List Byte) (s : State) : State :=
  match s.mkaGood p octets with
  | some m => (s.macJob p octets).mkaProcess p m
  | none => s.macJob p octets

theorem exec_mkpduRx {s : State} (p : Fin 32) (octets : List Byte) (hagent : s.agentOn = true) : exec (.mkpduRx p octets) s =
    finish (if !(s.agtPort p).on then s.agentTakes p octets else (s.agentTakes p octets).agentHears p octets) :=
  congrArg finish (if_neg (by rw [hagent]; decide))

theorem agentHears_bad {s : State} {p : Nat} {octets : List Byte} (h : s.mkaGood p octets = none) :
    s.agentHears p octets = s.macJob p octets := by
  rw [State.agentHears, h]

theorem agentHears_good {s : State} {p : Nat} {octets : List Byte} {m : Mkpdu} (h : s.mkaGood p octets = some m) :
    s.agentHears p octets = (s.macJob p octets).mkaProcess p m := by
  rw [State.agentHears, h]

/-- A good MKPDU of a first partner makes it known. -/
theorem agentHears_first {s : State} {p : Fin 32} {octets : List Byte} {m : Mkpdu} (h : s.mkaGood p octets = some m)
    (hpeer : (s.agtPort p).peer = none) :
    (s.agentHears p octets).partnerView p = (some (m.peer (s.agtPort p)), natOfBool (m.sees (s.agtPort p)), s.path.agentIn) := by
  have hjob := macJob_agtView s p p octets
  have hport := agtPort_of_agtView hjob p
  rw [agentHears_good h, mkaProcess_first m (by rw [hport, hpeer]), hport]
  exact congrArg (fun l => (_, _, l)) (congrArg (fun v => v.2.2) hjob)

end

end Sys2Proof.Machine

namespace Sys2Proof

open Machine

/-- Settles O31, command by command: who hears, what a first partner leaves, and who speaks, forgets and distributes. -/
theorem keyAgentParticipants : Obligations.KeyAgentParticipants := by
  unfold Obligations.KeyAgentParticipants
  intro p octets s
  refine ⟨fun hagent => ?host, fun hagent => ⟨fun hon => ?silent, fun hon hbad => ?bad⟩,
    fun m hagent hon hgood hpeer => ?good, fun hstands => ?quiet,
    fun hs hagent hon hlibero hup hkraow => ?hello, fun hpeer => ?nobody, fun hpeer hagent => ?lost, fun hoff => ?off,
    fun hagent hon hrole hfail hdraws hfree => ?rekey⟩
  case host => exact ends_of_exec rfl (if_pos (by rw [hagent]; rfl))
  case silent => exact ends_of_exec (exec_mkpduRx p octets hagent) (if_pos (by rw [hon]; rfl))
  case bad =>
    have hstill : (s.agentTakes p octets).mkaGood p octets = none := hbad
    exact ends_of_exec (exec_mkpduRx p octets hagent) ((if_neg (by rw [hon]; decide)).trans (agentHears_bad hstill))
  case good =>
    refine answers_of_exec (exec_mkpduRx p octets hagent) ?_
    have hstill : (s.agentTakes p octets).mkaGood p octets = some m := hgood
    obtain ⟨hmet, hrest⟩ := Prod.mk.inj ((flushEvents_partnerView _ p).trans (agentHears_first hstill hpeer))
    obtain ⟨hlive, hin⟩ := Prod.mk.inj hrest
    rw [if_neg (by rw [hon]; decide)]
    exact ⟨hmet, hlive, hin⟩
  case quiet =>
    refine ends_of_exec rfl (if_pos ?_)
    rcases hstands with h | h | h | h <;> simp [h]
  case hello =>
    have hbeside := mkaNumbered_agtFenOf s p.val
    have hevt : (s.mkaNumbered p).evt = s.evt := addJob_keeps _ State.evt (fun _ _ => rfl) _ _ _ _
    have hsent : (s.mkaNumbered p).path.sent = s.path.sent :=
      addJob_keeps _ (fun t => t.path.sent) (fun _ _ => rfl) _ _ _ _
    refine answers_of_exec_quiet (congrArg finish (mkaSend_ethernet hagent hon hlibero hup hkraow)) ?_
      ⟨s.mkaNext p, ?_, mkaNext_icv s p, ?_, ?_⟩
    · rwa [Settled, sendFrame_evt, hevt]
    · rw [sendFrame_sent, hsent]
    · rw [agtPort_of_agtView (sendFrame_agtView _ p _ _ _), mkaNumbered_agtPort]
      rfl
    · exact (sendFrame_agtFenOf _ s _ _ _).symm.trans (by rw [hbeside])
  case nobody =>
    refine ends_of_exec rfl (if_pos ?_)
    simp [hpeer]
  case lost =>
    obtain ⟨hforgotten, hrest⟩ := Prod.mk.inj ((flushEvents_partnerView _ p).trans (mkaLost_partnerView hpeer hagent))
    exact answers_of_exec rfl ⟨hforgotten, (Prod.mk.inj hrest).1⟩
  case off => exact ends_of_exec rfl (if_pos (beq_iff_eq.mpr hoff))
  case rekey =>
    have hport : (s.agtDistribute p).flushEvents.agtPort p = (s.agtDistribute p).agtPort p :=
      agtPort_of_agtView (flushEvents_agtView _ p) p
    obtain ⟨hkn, hkey, hdist⟩ := agtDistribute_distributes rfl hagent hon hrole hfail hdraws hfree
    have hkek : ickHandle p + 1 = 69569 + 2 * p.val := by
      unfold ickHandle
      omega
    rw [← hport] at hkn hkey hdist
    rw [hkek] at hdist
    refine ⟨fun hrekey => answers_of_exec (congrArg finish (if_neg (by simpa using hrekey))) ⟨_, agtSak_length s p, hkn, hkey, hdist⟩,
      fun halone => answers_of_exec (congrArg finish (agtRekeyAll_alone ?_)) ⟨_, agtSak_length s p, hkn, hkey, hdist⟩⟩
    exact fun q hq hne => halone ⟨q, hq⟩ fun h => hne (congrArg Fin.val h)

end Sys2Proof
end

section
/-!
PROOFS. A DELETE that the key agent gives for an SA of an old AN (R195) is lost with the change of every table command: `State.agtTable` takes
what `State.tblDo` answers, the state before the command, so the SA stays as it was.
-/

namespace Sys2Proof.Machine

/-- A TX SA of an old AN in RETIRED, not under DELETE. -/
def retiredSa : SaEntry :=
  { en := false, state := 0, life := 4, early := false, modeProg := 0, kcv := 0, pn := 1, ssci := 0, softLimit := 0, refs := 0, leaseEnd := 0
    rx := false, deleting := false, softSeen := false }

/-- The agent ON, and the participant of line port 0 with TX SC 1, RX SC 0 and the old AN 0, whose TX SA alone is in its entry. -/
def retiringAgent : State :=
  (((State.reset.set GLB_AGT_CTRL.STATE 0 1).set GLB_AGT_PORT.TX_SC 0 1).putSa 4 (some retiredSa)).onAgt 0 fun a => { a with old := [0] }

theorem retiringAgent_ready : retiringAgent.agentOn = true ∧ (retiringAgent.agtPort 0).old = [0]
    ∧ retiringAgent.sa? (4 * retiringAgent.agtTx 0 + 0) = some retiredSa
    ∧ retiringAgent.saDeleteCode ((4 * retiringAgent.agtTx 0 + 0) / 16384) (4 * retiringAgent.agtTx 0 + 0) = 0
    ∧ retiringAgent.agtRx 0 ≠ retiringAgent.agtTx 0 ∧ retiringAgent.sa? (4 * retiringAgent.agtRx 0 + 0) = none := by
  decide +kernel

theorem retiredSa_stays : Answers (.agentRetireOldAn 0) retiringAgent fun t => t.sa? (4 * retiringAgent.agtTx 0 + 0) = some retiredSa :=
  answers_of_exec rfl (by decide +kernel)

end Sys2Proof.Machine

namespace Sys2Proof

open Machine

/-- Refutes O32: AGENT_RETIRE_OLD_AN with a TX SA of the old AN in RETIRED, and its RX SA gone, leaves the TX SA as it was (R195). -/
theorem not_keyAgentRetiresAndConfigures : ¬ Obligations.KeyAgentRetiresAndConfigures := by
  unfold Obligations.KeyAgentRetiresAndConfigures
  intro h
  obtain ⟨-, hretire, -⟩ := h 0 retiringAgent
  obtain ⟨hon, hold, hsa, hcode, hapart, hgone⟩ := retiringAgent_ready
  obtain ⟨-, -, hdelete⟩ := hretire 0 hon hold
  obtain ⟨t, ⟨hleaves, -⟩, hstays⟩ :=
    answers_meet (hdelete retiredSa hsa rfl rfl hcode hapart hgone (by decide)) retiredSa_stays
  exact absurd (Option.some.inj (hstays.symm.trans hleaves)) (by decide)

end Sys2Proof
end

section
/-!
PROOFS. Test mode (R241) and the start-up of a tributary at a multiframe boundary (R243): what a write of TEST_CLEAR leaves, and the state of
a tributary that begins.
-/

namespace Sys2Proof.Machine

/-! ### A write of TEST_CLEAR -/

theorem testClear_ignored {s : State} {p : Nat} (h : s.keyScLive p = true) : s.testClear p true = s := if_pos h

theorem testClear_stored {s : State} {p : Nat} (h : s.keyScLive p = false) : s.testClear p true = s.set KFR_CFG.TEST_CLEAR p 1 :=
  if_neg (Bool.eq_false_iff.mp h)

theorem testClear_off (s : State) (p : Nat) : s.testClear p false = s.set KFR_CFG.TEST_CLEAR p 0 := rfl

/-! ### A tributary that begins -/

@[simp] theorem onTrib_tribSt_same (s : State) (k : Nat) (f : Trib → Trib) : (s.onTrib k f).tribSt k = f (s.tribSt k) :=
  KMap.get_set_same _ _ _ _

theorem onTrib_tribSt_ne (s : State) {j k : Nat} (f : Trib → Trib) (h : j ≠ k) : (s.onTrib k f).tribSt j = s.tribSt j :=
  KMap.get_set_ne _ _ _ _ _ _ h

/-- What a tributary sends from its start-up on: a new pointer, and nothing of a period or a group yet. -/
def Trib.begin (x : Trib) : Trib := { x with begun := true, newPtr := true, just := 0, nextJust := 0, period := [], carry := [] }

/-- Tributary `k` begun under a label, and in service. -/
def State.tribBegun (k label : Nat) (s : State) : State :=
  let s1 := (s.onTrib k Trib.begin).set KFR_TRIB.LABEL_TX k label
  { s1 with service := if 200 + k ∈ s1.service then s1.service else s1.service ++ [200 + k] }

section

variable (s : State) (k label : Nat)

theorem tribBegun_tribSt_same : (s.tribBegun k label).tribSt k = (s.tribSt k).begin := onTrib_tribSt_same s k _

theorem tribBegun_tribSt_ne {j : Nat} (h : j ≠ k) : (s.tribBegun k label).tribSt j = s.tribSt j := onTrib_tribSt_ne s _ h

theorem tribBegun_label : (s.tribBegun k label).get KFR_TRIB.LABEL_TX k = label % 2 ^ 8 :=
  get_set_same (s.onTrib k Trib.begin) KFR_TRIB.LABEL_TX k label (by decide)

theorem tribBegun_service : 200 + k ∈ (s.tribBegun k label).service := by
  change 200 + k ∈ if 200 + k ∈ s.service then s.service else s.service ++ [200 + k]
  split
  · assumption
  · exact List.mem_append_right _ List.mem_cons_self

theorem tribBegun_frame : { s.tribBegun k label with regs := s.regs, krw := s.krw, service := s.service } = s := rfl

end

/-- R243: a tributary that is not ON, has begun or has yet to wait stays as it is. -/
theorem tribBegin_idle {s : State} {k : Nat} (h : s.get KFR_TRIB.STATE k ≠ 1 ∨ (s.tribSt k).begun = true ∨ (s.tribSt k).wait ≠ 0) :
    s.tribBegin k = s := by
  refine if_neg ?_
  rcases h with h | h | h <;> simp [h]

/-- R243, R247: a packet tributary that is due begins under label 1. -/
theorem tribBegin_packet {s : State} {k : Nat} (hon : s.get KFR_TRIB.STATE k = 1) (hnew : (s.tribSt k).begun = false)
    (hwait : (s.tribSt k).wait = 0) (htype : s.get KFR_TRIB.TYPE k = 1) : s.tribBegin k = s.tribBegun k 1 := by
  unfold State.tribBegin
  simp only [hon, hnew, hwait, htype]
  rfl

section

variable {s : State} {p : Fin 32} (t : Fin 32)

theorem exec_tribStartupBegin_boundary (hj : s.judged p = true) (hfn : (s.krwPort p).frameCount % 256 = 0) :
    exec (.tribStartupBegin p t) s = finish (s.tribBegin (32 * p + t)) := by
  refine congrArg finish (if_pos ?_)
  rw [hj, hfn]
  rfl

theorem ends_tribStartupBegin_elsewhere (h : s.judged p = false ∨ (s.krwPort p).frameCount % 256 ≠ 0) : Ends (.tribStartupBegin p t) s s := by
  refine ends_of_exec rfl (if_neg ?_)
  rcases h with h | h <;> simp [h]

theorem ends_tribStartupBegin_idle (h : s.get KFR_TRIB.STATE (32 * p + t) ≠ 1 ∨ (s.tribSt (32 * p + t)).begun = true
    ∨ (s.tribSt (32 * p + t)).wait ≠ 0) : Ends (.tribStartupBegin p t) s s := by
  by_cases hat : s.judged p = true ∧ (s.krwPort p).frameCount % 256 = 0
  · obtain ⟨hj, hfn⟩ := hat
    exact ends_of_exec (exec_tribStartupBegin_boundary t hj hfn) (tribBegin_idle h)
  · refine ends_tribStartupBegin_elsewhere t ?_
    rwa [← Bool.not_eq_true, ← not_and_or]

end

end Sys2Proof.Machine

namespace Sys2Proof

open Machine

/-- Settles O30: the write of TEST_CLEAR by the bit written and the SAs of the key SCs, the start-up by what keeps the tributary from it and
by the state of one that has begun. -/
theorem testClearAndTributaryStartUp : Obligations.TestClearAndTributaryStartUp := by
  unfold Obligations.TestClearAndTributaryStartUp
  intro p t s
  refine ⟨fun hlive => ends_of_exec rfl (testClear_ignored hlive), fun hdead => ends_of_exec rfl (testClear_stored hdead),
    ends_of_exec rfl (testClear_off s p), ?stays, fun hs hj hfn hon hnew hwait htype => ?begins⟩
  case stays =>
    rintro (hport | hfn | hidle)
    · exact ends_tribStartupBegin_elsewhere t (Or.inl hport)
    · exact ends_tribStartupBegin_elsewhere t (Or.inr hfn)
    · exact ends_tribStartupBegin_idle t hidle
  case begins =>
    have hexec := exec_tribStartupBegin_boundary t hj hfn
    rw [tribBegin_packet hon hnew hwait htype] at hexec
    have hbegun := tribBegun_tribSt_same s (32 * p + t) 1
    exact answers_of_exec_quiet hexec hs ⟨congrArg Trib.begun hbegun, congrArg Trib.newPtr hbegun, tribBegun_label s _ 1,
      tribBegun_service s _ 1, fun j hne => tribBegun_tribSt_ne s _ 1 hne, tribBegun_frame s _ 1⟩

end Sys2Proof
end

section
/-!
PROOFS. Streams and protection groups judged again (R260, R261, R318): what that leaves of the register file and of the framers, and
what a group that is judged shows and calls for.
-/

namespace Sys2Proof.Machine

/-! ### Registers and framers kept -/

/-- `t` comes from `s` by updates as `Within` allows them that leave every framer. -/
structure FramersWithin (rs : List Reg) (s t : State) : Prop extends Within rs s t where
  ports : t.krw.ports = s.krw.ports

section

variable {rs : List Reg} {s t : State}

theorem FramersWithin.refl (rs : List Reg) (s : State) : FramersWithin rs s s := ⟨.refl rs s, rfl⟩

theorem FramersWithin.trans {u : State} (h : FramersWithin rs s t) (k : FramersWithin rs t u) : FramersWithin rs s u :=
  ⟨h.toWithin.trans k.toWithin, k.ports.trans h.ports⟩

theorem FramersWithin.mono {rs' : List Reg} (h : FramersWithin rs s t) (hsub : ∀ r ∈ rs, r ∈ rs') : FramersWithin rs' s t :=
  ⟨h.toWithin.mono hsub, h.ports⟩

/-- One more field written. -/
theorem FramersWithin.thenSet (h : FramersWithin rs s t) (f : Field) (i v : Nat) (hf : f.reg ∈ rs ∧ f.word < 8) (hi : i < 8192) :
    FramersWithin rs s (t.set f i v) := ⟨h.toWithin.thenSet f i v hf hi, h.ports⟩

theorem FramersWithin.thenOnPg (h : FramersWithin rs s t) (g : Nat) (f : PgState → PgState) : FramersWithin rs s (t.onPg g f) :=
  ⟨h.toWithin.trans (.of_parts rs rfl rfl), h.ports⟩

theorem FramersWithin.onLet (rs : List Reg) (s : State) (st : Nat) (f : LetStream → LetStream) : FramersWithin rs s (s.onLet st f) :=
  ⟨.of_parts rs rfl rfl, rfl⟩

theorem FramersWithin.thenRaise (h : FramersWithin rs s t) (a b c d e : Nat) (ha : a < 512) : FramersWithin rs s (t.raise a b c d e) :=
  ⟨h.toWithin.trans (.raise t a b c d e ha), h.ports⟩

theorem FramersWithin.when (c : Bool) {f : State → State} (h : FramersWithin rs s (f s)) : FramersWithin rs s (s.when c f) :=
  ⟨h.toWithin.when c, when_keeps (·.krw.ports) s c f h.ports⟩

theorem FramersWithin.forN {f : Nat → State → State} {n : Nat} (h : ∀ k < n, ∀ t, FramersWithin rs t (f k t)) (s : State) :
    FramersWithin rs s (s.forN n f) :=
  forN_holds (FramersWithin rs s) f n (fun k hk t ht => ht.trans (h k hk t)) s (.refl rs s)

theorem FramersWithin.krwPort (h : FramersWithin rs s t) (p : Nat) : t.krwPort p = s.krwPort p := by
  rw [State.krwPort, h.ports, State.krwPort]

end

/-! ### Streams (R318) -/

section

variable (s : State) {st : Nat}

theorem FramersWithin.letMode (hst : st < 256) : FramersWithin [.LET_STREAM_STATUS] s (s.letMode st) := by
  have hmode {t : State} (h : FramersWithin [.LET_STREAM_STATUS] s t) (v : Nat) :
      FramersWithin [.LET_STREAM_STATUS] s (t.set LET_STREAM_STATUS.MODE st v) := h.thenSet _ _ v (by decide) (by omega)
  have hself := FramersWithin.refl [.LET_STREAM_STATUS] s
  have hreplay : FramersWithin [.LET_STREAM_STATUS] s (s.letReplayFrom st) :=
    (FramersWithin.onLet _ s st _).thenSet LET_STREAM_STATUS.MODE st 2 (by decide) (by omega)
  unfold State.letMode
  dsimp only
  split
  · exact hself
  · split
    · split
      · split
        · split
          · exact hmode hreplay 0
          · exact hreplay
        · exact hmode hself 0
      · exact hself
    · split
      · exact hmode hself 1
      · split
        · exact hmode hself 0
        · exact hself
    · split
      · exact hmode hself 1
      · exact hself

theorem FramersWithin.letPortChange (p : Nat) : FramersWithin [.LET_STREAM_STATUS] s (s.letPortChange p) := by
  refine .forN (fun st hst t => ?_) s
  split
  · exact .letMode t hst
  · exact .refl _ t

end

/-! ### A group judged (R259 to R261) -/

/-- R259: the conditions of its ports as a group shows them. -/
def State.pgShown (g : Nat) (s : State) : State :=
  (((s.set FAB_PG_STATUS.UNUSE_W g (natOfBool (s.krwUnusable (s.pgW g)))).set FAB_PG_STATUS.UNUSE_P g (natOfBool (s.krwUnusable (s.pgP g)))).set
    FAB_PG_STATUS.DEG_W g (s.get KFR_DEFECT.SD (s.pgW g))).set FAB_PG_STATUS.DEG_P g (s.get KFR_DEFECT.SD (s.pgP g))

/-- R261: a request is shown, without a wait-to-restore. -/
def State.pgShows (g rank : Nat) (s : State) : State :=
  (((s.pgShown g).set FAB_PG_STATUS.REQ g rank).set FAB_PG_STATUS.WTR g 0).set FAB_PG_STATUS.WTR_LEFT g 0

/-- R261: wait-to-restore runs, or starts with its full length. -/
def State.pgWaits (g : Nat) (s : State) : State :=
  let s1 := (s.pgShown g).set FAB_PG_STATUS.REQ g 7
  if s1.flag FAB_PG_STATUS.WTR g then s1 else (s1.set FAB_PG_STATUS.WTR g 1).set FAB_PG_STATUS.WTR_LEFT g (60 * s.wtrMin g)

/-- A selection is called for. -/
def State.pgCalls (g : Nat) (want : Bool) (s : State) : State := s.onPg g fun x => { x with want := want, wtrOver := false }

section

variable {s : State} {g : Nat}

theorem pgEval_off (h : s.get FAB_PG_CFG.STATE g ≠ 1) : s.pgEval g = s := if_pos (by simpa using h)

/-- Table 7-4: a group that is ON follows its request of rank 1 to 6; without one it waits to restore or has restored where it is
revertive, and stays as it is otherwise. -/
theorem pgEval_on (hon : s.get FAB_PG_CFG.STATE g = 1) : s.pgEval g =
    if (s.pgShown g).pgRank g != 0 then
      (s.pgShows g ((s.pgShown g).pgRank g)).pgCalls g (pgWant ((s.pgShown g).pgRank g) (s.get FAB_PG_CFG.CMD g))
    else if (s.pgShown g).flag FAB_PG_CFG.REVERT g then
      if (s.pg g).want && !(s.pg g).wtrOver then s.pgWaits g else (s.pgShows g 8).pgCalls g false
    else s.pgShows g 8 := if_neg (by simp [hon])

end

section

variable (s : State) {g : Nat} (hg : g < 16)

include hg

theorem FramersWithin.pgShown : FramersWithin [.FAB_PG_STATUS] s (s.pgShown g) :=
  have hset {t : State} (h : FramersWithin [.FAB_PG_STATUS] s t) (f : Field) (v : Nat) (hf : f.reg ∈ [Reg.FAB_PG_STATUS] ∧ f.word < 8) :=
    h.thenSet f g v hf (by omega)
  hset (hset (hset (hset (.refl _ s) _ _ (by decide)) _ _ (by decide)) _ _ (by decide)) _ _ (by decide)

theorem FramersWithin.pgShows (rank : Nat) : FramersWithin [.FAB_PG_STATUS] s (s.pgShows g rank) :=
  (((FramersWithin.pgShown s hg).thenSet _ _ _ (by decide) (by omega)).thenSet _ _ _ (by decide) (by omega)).thenSet _ _ _ (by decide) (by omega)

theorem FramersWithin.pgWaits : FramersWithin [.FAB_PG_STATUS] s (s.pgWaits g) := by
  have hseven := (FramersWithin.pgShown s hg).thenSet FAB_PG_STATUS.REQ g 7 (by decide) (by omega)
  unfold State.pgWaits
  dsimp only
  split
  · exact hseven
  · exact (hseven.thenSet _ _ _ (by decide) (by omega)).thenSet _ _ _ (by decide) (by omega)

theorem FramersWithin.pgEval : FramersWithin [.FAB_PG_STATUS] s (s.pgEval g) := by
  by_cases hon : s.get FAB_PG_CFG.STATE g = 1
  · rw [pgEval_on hon]
    split
    · exact (FramersWithin.pgShows s hg _).thenOnPg g _
    · split
      · split
        · exact .pgWaits s hg
        · exact (FramersWithin.pgShows s hg 8).thenOnPg g _
      · exact .pgShows s hg 8
  · rw [pgEval_off hon]
    exact .refl _ s

end

theorem FramersWithin.pgPort (s : State) (p : Nat) : FramersWithin [.FAB_PG_STATUS] s (s.pgPort p) := by
  refine .forN (fun g hg t => ?_) s
  split
  · exact .pgEval t hg
  · exact .refl _ t

end Sys2Proof.Machine
end

section
/-!
PROOFS. Defects and performance seconds (R244, R251, R265): what a port shows of its declared defects, and the snapshot of a second.
-/

namespace Sys2Proof.Machine

/-! ### A defect declared or cleared (R244) -/

/-- A bit put into a mask leaves the others. -/
theorem testBit_add_two_pow {m i : Nat} (h : m.testBit i = false) (j : Nat) : (m + 2 ^ i).testBit j = (m.testBit j || decide (j = i)) := by
  have hset : (m + 2 ^ i).testBit i = true := by rw [Nat.add_comm, Nat.testBit_two_pow_add_eq, h]; rfl
  by_cases hj : j = i
  · simp [hj, hset]
  · have hout := testBit_sub_two_pow hset j
    rw [Nat.add_sub_cancel] at hout
    simp [hout, hj]

theorem defectRaw_testBit (s : State) (p i j : Nat) (b : Bool) :
    ((s.defectRaw p i b).krwPort p).raw.testBit j = if j = i then b else (s.krwPort p).raw.testBit j := by
  rw [State.defectRaw, onKrw_krwPort_same]
  dsimp only
  generalize (s.krwPort p).raw = m
  by_cases hsame : m.testBit i = b
  · rw [if_pos (beq_iff_eq.mpr hsame)]
    split
    · next hj => rw [hj, hsame]
    · rfl
  · rw [if_neg (by simpa using hsame)]
    cases b with
    | true => simp [testBit_add_two_pow (Bool.not_eq_true _ ▸ hsame), Bool.or_comm]
    | false => simp [testBit_sub_two_pow (Bool.not_eq_false _ ▸ hsame), Bool.and_comm]

/-! ### What a port shows of its defects (R251) -/

/-- R251: `DECL` with the highest declared defect alone. -/
def shownDefect (k : KrwPort) : Nat := if topDefect k.raw k.plm < 11 then 2 ^ topDefect k.raw k.plm else 0

theorem shownDefect_lt (k : KrwPort) : shownDefect k < 2 ^ 11 := by
  unfold shownDefect
  split
  · next h => exact Nat.pow_lt_pow_right (by decide) h
  · decide

/-- A framer without the defects of its performance second. -/
def KrwPort.besideDefs (k : KrwPort) : KrwPort := { k with pmDefs := 0 }

theorem Within.onKrw (rs : List Reg) (s : State) (p : Nat) (f : KrwPort → KrwPort) : Within rs s (s.onKrw p f) := .of_parts rs rfl rfl

@[simp] theorem onKrw_get (s : State) (p : Nat) (f : KrwPort → KrwPort) (g : Field) (i : Nat) : (s.onKrw p f).get g i = s.get g i := rfl

/-- The register of the port, its framer's record of the second, and then the streams and groups that use the port. -/
theorem defectSync_shows (s : State) {p : Nat} (hp : p < 32) : ∃ t : State,
    Within [.KFR_DEFECT] s t ∧ t.get KFR_DEFECT.DECL p = shownDefect (s.krwPort p)
      ∧ (∀ q, (t.krwPort q).besideDefs = (s.krwPort q).besideDefs)
      ∧ FramersWithin [.LET_STREAM_STATUS, .FAB_PG_STATUS] t (s.defectSync p) := by
  unfold State.defectSync
  extract_lets k top w0 major s1 s2 s3 w1 changed s4 s5
  have hset {t : State} (h : FramersWithin [.KFR_DEFECT] s t) (f : Field) (v : Nat) (hf : f.reg ∈ [Reg.KFR_DEFECT] ∧ f.word < 8) :=
    h.thenSet f p v hf (by omega)
  have hs3 : FramersWithin [.KFR_DEFECT] s s3 :=
    hset (hset (hset (hset (hset (hset (.refl _ s) _ _ (by decide)) _ _ (by decide)) _ _ (by decide)) _ _ (by decide)) _ _ (by decide))
      _ _ (by decide)
  have hdecl : s3.get KFR_DEFECT.DECL p = shownDefect (s.krwPort p) := by
    rw [get_set_disjoint _ (by decide) (by omega) (by omega), get_set_disjoint _ (by decide) (by omega) (by omega),
      get_set_disjoint _ (by decide) (by omega) (by omega)]
    exact get_set_eq s1 (by decide) (shownDefect_lt (s.krwPort p))
  have hs5 : FramersWithin [.KFR_DEFECT] s4 s5 :=
    .when changed (((FramersWithin.refl _ s4).thenSet KFR_DEFECT.CHANGED p 1 (by decide) (by omega)).thenRaise _ _ _ _ _ (by omega))
  have hs5decl : s5.get KFR_DEFECT.DECL p = s4.get KFR_DEFECT.DECL p :=
    when_keeps (State.get · KFR_DEFECT.DECL p) s4 changed _ (get_set_disjoint s4 (f := KFR_DEFECT.CHANGED) (by decide) (by omega) (by omega))
  refine ⟨s5, (hs3.toWithin.trans (.onKrw _ s3 p _)).trans hs5.toWithin, hs5decl.trans ((onKrw_get s3 p _ _ p).trans hdecl), fun q => ?_, ?_⟩
  · calc (s5.krwPort q).besideDefs = (s4.krwPort q).besideDefs := congrArg KrwPort.besideDefs (hs5.krwPort q)
      _ = (s3.krwPort q).besideDefs := onKrw_part KrwPort.besideDefs s3 p q _ fun _ => rfl
      _ = (s.krwPort q).besideDefs := congrArg KrwPort.besideDefs (hs3.krwPort q)
  · exact ((FramersWithin.letPortChange s5 p).mono (by decide)).trans ((FramersWithin.pgPort _ p).mono (by decide))

section

variable (s : State) {p : Nat} (hp : p < 32)

include hp

/-- What showing the defects of a port leaves of the registers. -/
theorem Within.defectSync : Within [.KFR_DEFECT, .LET_STREAM_STATUS, .FAB_PG_STATUS] s (s.defectSync p) := by
  obtain ⟨t, hshown, -, -, hrest⟩ := defectSync_shows s hp
  exact hshown.append hrest.toWithin

theorem defectSync_besideDefs (q : Nat) : ((s.defectSync p).krwPort q).besideDefs = (s.krwPort q).besideDefs := by
  obtain ⟨t, -, -, hport, hrest⟩ := defectSync_shows s hp
  rw [hrest.krwPort, hport]

theorem defectSync_part {β : Type} (v : KrwPort → β) (hv : ∀ k : KrwPort, v k.besideDefs = v k) (q : Nat) :
    v ((s.defectSync p).krwPort q) = v (s.krwPort q) := by
  rw [← hv, defectSync_besideDefs s hp q, hv]

theorem defectSync_decl : (s.defectSync p).get KFR_DEFECT.DECL p = shownDefect ((s.defectSync p).krwPort p) := by
  obtain ⟨t, -, hdecl, -, hrest⟩ := defectSync_shows s hp
  have hport := defectSync_besideDefs s hp p
  rw [hrest.get _ _ (by decide) (by decide) (by omega), hdecl]
  exact (congrArg shownDefect hport).symm

end

/-! ### DEFECT_INTEGRATION_EXPIRY (Table 7-1) -/

theorem flushEvents_krw (s : State) : s.flushEvents.krw = s.krw := part_of_beside State.krw (fun _ => rfl) (flushEvents_beside s)

theorem flushEvents_krwPort (s : State) (p : Nat) : s.flushEvents.krwPort p = s.krwPort p := by
  rw [State.krwPort, flushEvents_krw, State.krwPort]

/-- Table 7-1: dLOL and dLOA are declared at once and dLOM clears at IF_IM, so a time declares or clears the others. -/
def timed (i : Fin 5) (present : Bool) : Bool := if present then i != 1 && i != 2 else i != 4

theorem exec_defectIntegrationExpiry (p : Fin 32) (i : Fin 5) (s : State) : exec (.defectIntegrationExpiry p i) s =
    finish (if s.judged p && timed i (s.defectPresent p i) then (s.defectRaw p i (s.defectPresent p i)).defectSync p else s) := by
  have htimed (b : Bool) : (b && (i.val == 0 || i.val == 3 || i.val == 4) || !b && i.val != 4) = timed i b := by
    revert i b
    decide
  rw [← htimed]
  rfl

/-! ### What a port's second is read from (R265) -/

/-- The performance counters of a line port and its snapshot. -/
def State.snapView (s : State) (p : Nat) : List Nat × (Fin 8 → Word) := ((s.krwPort p).pm, fun w => s.word .KFR_PM_SNAP p w)

section

variable {s t : State} {p : Nat}

theorem Within.snapView {rs : List Reg} (h : Within rs s t) (hrs : Reg.KFR_PM_SNAP ∉ rs) (hp : p < 32)
    (hpm : (t.krwPort p).pm = (s.krwPort p).pm) : t.snapView p = s.snapView p :=
  Prod.ext hpm (funext fun w => h.word _ p w hrs (by omega) w.isLt)

theorem snapView_pm (h : t.snapView p = s.snapView p) : (t.krwPort p).pm = (s.krwPort p).pm := (Prod.mk.inj h).1

theorem snapView_word (h : t.snapView p = s.snapView p) {w : Nat} (hw : w < 8) : t.word .KFR_PM_SNAP p w = s.word .KFR_PM_SNAP p w :=
  congrFun (Prod.mk.inj h).2 ⟨w, hw⟩

theorem snapView_seq (h : t.snapView p = s.snapView p) : t.get KFR_PM_SNAP.SEQ p = s.get KFR_PM_SNAP.SEQ p :=
  congrArg (Word.bits · KFR_PM_SNAP.SEQ.lo KFR_PM_SNAP.SEQ.width) (snapView_word h (w := 7) (by decide))

end

section

variable (s : State) {p q : Nat} (hp : p < 32)

include hp

theorem onKrw_snapView (f : KrwPort → KrwPort) (h : ∀ k, (f k).pm = k.pm) : (s.onKrw q f).snapView p = s.snapView p :=
  (Within.onKrw [] s q f).snapView List.not_mem_nil hp (onKrw_part KrwPort.pm s q p f h)

theorem onKrw_snapView_ne (hne : p ≠ q) (f : KrwPort → KrwPort) : (s.onKrw q f).snapView p = s.snapView p :=
  (Within.onKrw [] s q f).snapView List.not_mem_nil hp (congrArg KrwPort.pm (onKrw_krwPort_ne s f hne))

theorem setWord_snapView_ne (hne : p ≠ q) (hq : q < 32) (r : Reg) {w : Nat} (v : Word) (hw : w < 8) :
    (s.setWord r q w v).snapView p = s.snapView p :=
  Prod.ext rfl (funext fun j => word_setWord_ne s r _ q p w j v (by omega) (by omega) hw j.isLt fun h => hne h.2.1)

theorem set_snapView_ne (hne : p ≠ q) (hq : q < 32) (f : Field) (v : Nat) (hw : f.word < 8) : (s.set f q v).snapView p = s.snapView p :=
  setWord_snapView_ne s hp hne hq f.reg _ hw

theorem defectSync_snapView (hq : q < 32) : (s.defectSync q).snapView p = s.snapView p :=
  (Within.defectSync s hq).snapView (by decide) hp (defectSync_part s hq KrwPort.pm (fun _ => rfl) p)

theorem degEval_snapView : (s.degEval q).snapView p = s.snapView p := by
  have hraw (t : State) (b : Bool) : (t.defectRaw q 10 b).snapView p = t.snapView p := onKrw_snapView t hp _ fun _ => rfl
  unfold State.degEval
  extract_lets k m bad r r1 s1
  have hs1 : s1.snapView p = s.snapView p := onKrw_snapView s hp _ fun _ => rfl
  clear_value s1
  split
  · rfl
  · split
    · rw [hraw, hs1]
    · split
      · rw [hraw, hs1]
      · exact hs1

/-- R265: the copy of one port's counters leaves those of another. -/
theorem pmCopy_snapView_ne (hne : p ≠ q) (hq : q < 32) (fec : Nat × Nat) : (s.pmCopy q fec).snapView p = s.snapView p := by
  have hkrw (t : State) (f : KrwPort → KrwPort) := onKrw_snapView_ne t hp hne f
  have hset (t : State) (f : Field) (v : Nat) (hw : f.word < 8) := set_snapView_ne t hp hne hq f v hw
  unfold State.pmCopy
  extract_lets s0 k c now w s1 s2 x s3
  have hs0 : s0.snapView p = s.snapView p := (hkrw _ _).trans (hkrw _ _)
  have hw : ∀ y ∈ w, y.1 < 8 := by simp [w]
  have hs1 : s1.snapView p = s0.snapView p :=
    forL_holds (fun t => t.snapView p = s0.snapView p) _ w (fun y hy t ht => (setWord_snapView_ne t hp hne hq _ _ (hw y hy)).trans ht) s0 rfl
  have hs2 : s2.snapView p = s1.snapView p := (hset _ _ _ (by decide)).trans (hset _ _ _ (by decide))
  rw [defectSync_snapView _ hp hq, hkrw, degEval_snapView s2 hp, hs2, hs1, hs0]

end

/-! ### The snapshot of a second (R265) -/

theorem forL_setWord_other (r : Reg) {p i : Nat} (l : List (Nat × Nat)) (s : State) (hp : p < 8192) (hi : i < 8) (hl : ∀ x ∈ l, x.1 < 8)
    (hout : i ∉ l.map Prod.fst) : (s.forL l fun x s => s.setWord r p x.1 (BitVec.ofNat 64 x.2)).word r p i = s.word r p i := by
  refine forL_holds (fun t => t.word r p i = s.word r p i) _ l (fun x hx t ht => ?_) s rfl
  refine (word_setWord_ne t r r p p x.1 i _ hp hp (hl x hx) hi fun h => hout ?_).trans ht
  exact h.2.2 ▸ List.mem_map_of_mem hx

/-- Words written in turn read as they were written. -/
theorem forL_setWord_word (r : Reg) {p i v : Nat} (l : List (Nat × Nat)) (s : State) (hp : p < 8192) (hl : ∀ x ∈ l, x.1 < 8)
    (hd : (l.map Prod.fst).Nodup) (hx : (i, v) ∈ l) :
    (s.forL l fun x s => s.setWord r p x.1 (BitVec.ofNat 64 x.2)).word r p i = BitVec.ofNat 64 v := by
  induction l generalizing s with
  | nil => exact absurd hx List.not_mem_nil
  | cons y l ih =>
    rw [List.map_cons, List.nodup_cons] at hd
    rcases List.mem_cons.mp hx with rfl | hmem
    · refine (forL_setWord_other r l _ hp (hl (i, v) List.mem_cons_self) (fun x h => hl x (List.mem_cons_of_mem _ h)) hd.1).trans ?_
      exact word_setWord_same s r p i _
    · exact ih _ (fun x h => hl x (List.mem_cons_of_mem _ h)) hd.2 hmem

/-- Table 7-6: words 0 to 4 of a snapshot of nine counters. -/
def secondWords (pm : List Nat) : List (Nat × Nat) :=
  [(0, pm.getD 0 0 + pm.getD 1 0 * 2 ^ 32), (1, pm.getD 2 0), (2, pm.getD 3 0 + pm.getD 4 0 * 2 ^ 32),
    (3, pm.getD 5 0 + pm.getD 6 0 * 2 ^ 32), (4, pm.getD 7 0 + pm.getD 8 0 * 2 ^ 32)]

theorem secondWords_lt (pm : List Nat) : ∀ x ∈ secondWords pm, x.1 < 5 := by simp [secondWords]

/-- R265: a port shows a past second and counts a new one. -/
structure State.ShowsSecond (u : State) (p : Nat) (pm : List Nat) (seq : Nat) : Prop where
  words : ∀ x ∈ secondWords pm, u.word .KFR_PM_SNAP p x.1 = BitVec.ofNat 64 x.2
  seq : u.get KFR_PM_SNAP.SEQ p = (seq + 1) % 2 ^ 32
  pm : (u.krwPort p).pm = [0, 0, 0, 0, 0, 0, 0, 0, 0]

theorem State.ShowsSecond.of_snapView {u t : State} {p seq : Nat} {pm : List Nat} (h : t.ShowsSecond p pm seq) (hv : u.snapView p = t.snapView p) :
    u.ShowsSecond p pm seq where
  words x hx := (snapView_word hv (Nat.lt_trans (secondWords_lt pm x hx) (by decide))).trans (h.words x hx)
  seq := (snapView_seq hv).trans h.seq
  pm := (snapView_pm hv).trans h.pm

/-- A counter that nothing is added to stays. -/
theorem pmInc_zero_pm (s : State) (p i : Nat) (h : ∀ c ∈ (s.krwPort p).pm, c < 2 ^ 32) : ((s.pmInc p i 0).krwPort p).pm = (s.krwPort p).pm := by
  rw [State.pmInc, onKrw_krwPort_same]
  dsimp only
  generalize (s.krwPort p).pm = l at h ⊢
  by_cases hi : i < l.length
  · have hlt : l[i] < 2 ^ 32 := h _ (List.getElem_mem hi)
    have hsat : satAdd (if i == 2 then 48 else 32) l[i] 0 = l[i] := by
      unfold satAdd
      split <;> omega
    rw [List.getD_eq_getElem _ _ hi, hsat, List.set_getElem_self]
  · exact List.set_eq_of_length_le (by omega)

/-- R265: the copy of a port whose RS-FEC has counted nothing. -/
theorem pmCopy_showsSecond (s : State) {p : Nat} (hp : p < 32) (hpm : ∀ c ∈ (s.krwPort p).pm, c < 2 ^ 32) :
    (s.pmCopy p (0, 0)).ShowsSecond p (s.krwPort p).pm (s.get KFR_PM_SNAP.SEQ p) := by
  unfold State.pmCopy
  extract_lets s0 k c now w s1 s2 x s3
  have hs0 : (s0.krwPort p).pm = (s.krwPort p).pm := by
    have hfirst := pmInc_zero_pm s p 2 hpm
    exact (pmInc_zero_pm (s.pmInc p 2 0) p 3 (hfirst ▸ hpm)).trans hfirst
  have hwlt : ∀ y ∈ w, y.1 < 8 := by simp [w]
  have hword (y : Nat × Nat) (hy : y ∈ secondWords (s.krwPort p).pm) : s1.word .KFR_PM_SNAP p y.1 = BitVec.ofNat 64 y.2 := by
    rw [← hs0] at hy
    exact forL_setWord_word _ w s0 (by omega) hwlt (by simp [w]) (List.mem_append_left [(5, k.pmDefs % 4096), (6, k.pmStart % 2 ^ 48)] hy)
  have hseq1 : s1.word .KFR_PM_SNAP p 7 = s.word .KFR_PM_SNAP p 7 := by
    refine (forL_setWord_other _ w s0 (by omega) (by decide) hwlt (by simp [w])).trans ?_
    exact ((Within.onKrw [] s p _).trans (.onKrw [] _ p _)).word _ p 7 List.not_mem_nil (by omega) (by decide)
  clear_value s1
  have hword2 {i : Nat} (hi : i ≠ 7) (hi8 : i < 8) : s2.word .KFR_PM_SNAP p i = s1.word .KFR_PM_SNAP p i := by
    have hset (t : State) (f : Field) (v : Nat) (hf : f.reg = .KFR_PM_SNAP ∧ f.word = 7) :
        (t.set f p v).word .KFR_PM_SNAP p i = t.word .KFR_PM_SNAP p i :=
      word_setWord_ne t _ _ p p _ i _ (by omega) (by omega) (by omega) hi8 fun h => hi (h.2.2.trans hf.2)
    exact (hset _ _ _ ⟨rfl, rfl⟩).trans (hset _ _ _ ⟨rfl, rfl⟩)
  have hseq2 : s2.get KFR_PM_SNAP.SEQ p = (s.get KFR_PM_SNAP.SEQ p + 1) % 2 ^ 32 := by
    have hget : s1.get KFR_PM_SNAP.SEQ p = s.get KFR_PM_SNAP.SEQ p :=
      congrArg (Word.bits · KFR_PM_SNAP.SEQ.lo KFR_PM_SNAP.SEQ.width) hseq1
    rw [get_set_disjoint _ (by decide) (by omega) (by omega), ← hget]
    exact get_set_same s1 KFR_PM_SNAP.SEQ p _ (by decide)
  clear_value s2
  have hs3 : s3.snapView p = s2.snapView p := degEval_snapView s2 hp
  clear_value s3
  refine .of_snapView (t := s3.onKrw p _) ⟨fun y hy => ?_, ?_, ?_⟩ (defectSync_snapView _ hp hp)
  · have hlt : y.1 < 5 := secondWords_lt _ y hy
    calc (s3.onKrw p _).word .KFR_PM_SNAP p y.1 = s3.word .KFR_PM_SNAP p y.1 :=
          (Within.onKrw [] s3 p _).word _ p _ List.not_mem_nil (by omega) (by omega)
      _ = s2.word .KFR_PM_SNAP p y.1 := snapView_word hs3 (by omega)
      _ = s1.word .KFR_PM_SNAP p y.1 := hword2 (by omega) (by omega)
      _ = BitVec.ofNat 64 y.2 := hword y hy
  · rw [onKrw_get, snapView_seq hs3, hseq2]
  · rw [onKrw_krwPort_same]

/-! ### PM_SECOND_BOUNDARY -/

/-- Of updates in turn of which one alone reaches what `v` reads, all together make of it what that one makes of a state that reads alike. -/
theorem forN_once {β : Type} (v : State → β) (f : Nat → State → State) {n k : Nat} (hk : k < n) (hne : ∀ j < n, j ≠ k → ∀ s, v (f j s) = v s)
    (s : State) : ∃ t, v t = v s ∧ v (s.forN n f) = v (f k t) := by
  induction n with
  | zero => exact absurd hk (Nat.not_lt_zero k)
  | succ n ih =>
    rw [forN_succ]
    by_cases h : n = k
    · subst h
      exact ⟨_, forN_holds (fun t => v t = v s) f n (fun j hj t ht => (hne j (by omega) (by omega) t).trans ht) s rfl, rfl⟩
    · rw [hne n (by omega) h]
      exact ih (by omega) fun j hj => hne j (by omega)

/-- The codewords that the RS-FEC of a port corrected and could not correct in the second, none where none are given. -/
def fecCounts (fec : List (Fin 32 × BitVec 48 × BitVec 32)) (q : Nat) : Nat × Nat :=
  match fec.find? fun x => x.1.val == q with
  | some (_, a, b) => (a.toNat, b.toNat)
  | none => (0, 0)

theorem fecCounts_none {fec : List (Fin 32 × BitVec 48 × BitVec 32)} {p : Fin 32} (h : ∀ x ∈ fec, x.1 ≠ p) : fecCounts fec p = (0, 0) := by
  have hnone : (fec.find? fun x => x.1.val == p.val) = none :=
    List.find?_eq_none.mpr fun x hx hval => h x hx (Fin.ext (beq_iff_eq.mp hval))
  rw [fecCounts, hnone]

/-- R265: the counters of every port copied. -/
def State.pmCopies (fec : Nat → Nat × Nat) (s : State) : State := s.forN 32 fun q s => s.pmCopy q (fec q)

/-- R269: a new second, without a time step. -/
def State.pmUnstepped (s : State) : State := { s with krw := { s.krw with stepped := false } }

/-- R261: the groups' wait-to-restore a second on. -/
def State.wtrCountdown (s : State) : State :=
  s.forN 16 fun g s => if s.flag FAB_PG_STATUS.WTR g then s.set FAB_PG_STATUS.WTR_LEFT g (s.get FAB_PG_STATUS.WTR_LEFT g - 1) else s

theorem exec_pmSecondBoundary (fec : List (Fin 32 × BitVec 48 × BitVec 32)) (s : State) :
    exec (.pmSecondBoundary fec) s = finish (s.pmCopies (fecCounts fec)).pmUnstepped.wtrCountdown := rfl

section

variable (s : State) {p : Nat}

theorem pmUnstepped_snapView (p : Nat) : s.pmUnstepped.snapView p = s.snapView p := rfl

variable (hp : p < 32)

include hp

theorem flushEvents_snapView : s.flushEvents.snapView p = s.snapView p :=
  Prod.ext (congrArg KrwPort.pm (flushEvents_krwPort s p)) (funext fun w => flushEvents_word_early s (by decide) (by omega) w.isLt)

theorem wtrCountdown_snapView : s.wtrCountdown.snapView p = s.snapView p := by
  refine forN_holds (fun t => t.snapView p = s.snapView p) _ 16 (fun g hg t ht => ?_) s rfl
  split
  · exact ((Within.set t FAB_PG_STATUS.WTR_LEFT g _ (List.mem_singleton_self _) (by decide) (by omega)).snapView (by decide) hp rfl).trans ht
  · exact ht

/-- R265: the copies of all ports, where the RS-FEC of `p` has counted nothing. -/
theorem pmCopies_showsSecond {fec : Nat → Nat × Nat} (hfec : fec p = (0, 0)) (hpm : ∀ c ∈ (s.krwPort p).pm, c < 2 ^ 32) :
    (s.pmCopies fec).ShowsSecond p (s.krwPort p).pm (s.get KFR_PM_SNAP.SEQ p) := by
  obtain ⟨t, ht, hlast⟩ := forN_once (State.snapView · p) (fun q s => s.pmCopy q (fec q)) hp
    (fun q hq hne s => pmCopy_snapView_ne s hp hne.symm hq (fec q)) s
  have hshows := pmCopy_showsSecond t hp (by rwa [snapView_pm ht])
  rw [snapView_pm ht, snapView_seq ht, ← hfec] at hshows
  exact hshows.of_snapView hlast

end

end Sys2Proof.Machine

namespace Sys2Proof

open Machine

/-- Settles O33: a time that elapses by what is present and how Table 7-1 declares and clears it, the second by the copy of the port's
counters, which the copies of the other ports leave. -/
theorem defectsAndSeconds : Obligations.DefectsAndSeconds := by
  unfold Obligations.DefectsAndSeconds
  refine ⟨fun p i s => ⟨fun hstill => ?still, fun hj htimed => ?expiry⟩, fun fec p s hfec _ hpm => ?second⟩
  case still =>
    refine ends_of_exec (exec_defectIntegrationExpiry p i s) (if_neg ?_)
    have hno : (s.judged p && timed i (s.defectPresent p i)) = false := by
      rcases hstill with h | ⟨h, hi⟩ | ⟨h, hi⟩
      · rw [h, Bool.false_and]
      · rw [h, Bool.and_eq_false_iff]
        exact Or.inr (by rcases hi with rfl | rfl <;> rfl)
      · rw [h, hi, Bool.and_eq_false_iff]
        exact Or.inr rfl
    rw [hno]
    exact Bool.false_ne_true
  case expiry =>
    have hdue : (s.judged p && timed i (s.defectPresent p i)) = true := by
      rcases htimed with ⟨h, hi⟩ | ⟨h, hi⟩ <;> simp [hj, h, hi, timed]
    refine answers_of_exec (exec_defectIntegrationExpiry p i s) ?_
    rw [if_pos hdue, flushEvents_krwPort, flushEvents_get_early _ _ _ (by decide) (by omega)]
    have hraw := defectSync_part (s.defectRaw p i (s.defectPresent p i)) p.isLt KrwPort.raw (fun _ => rfl) p
    refine ⟨?_, fun j hne => ?_, defectSync_decl _ p.isLt⟩
    · exact (congrArg (Nat.testBit · i) hraw).trans ((defectRaw_testBit ..).trans (if_pos rfl))
    · exact (congrArg (Nat.testBit · j) hraw).trans ((defectRaw_testBit ..).trans (if_neg hne))
  case second =>
    refine answers_of_exec (exec_pmSecondBoundary fec s) ?_
    have hshows := (pmCopies_showsSecond s p.isLt (fecCounts_none hfec) hpm).of_snapView
      ((flushEvents_snapView _ p.isLt).trans ((wtrCountdown_snapView _ p.isLt).trans (pmUnstepped_snapView _ p)))
    have hwords := hshows.words
    simp only [secondWords, List.forall_mem_cons] at hwords
    obtain ⟨h0, h1, h2, h3, h4, -⟩ := hwords
    exact ⟨h0, h1, h2, h3, h4, hshows.seq, hshows.pm⟩

end Sys2Proof
end

section
/-!
PROOFS. The commands of the protection groups (R258 to R264): the request in force while both ports are in order, the end of wait-to-restore,
a change of the selection, and the mismatch.
-/

namespace Sys2Proof.Machine

/-! ### The request in force (Table 7-4) -/

/-- R259, R260: a group that is ON, with both ports usable and W not degraded. -/
structure State.PgCalm (s : State) (g : Nat) : Prop where
  on : s.get FAB_PG_CFG.STATE g = 1
  usableW : s.krwUnusable (s.pgW g) = false
  usableP : s.krwUnusable (s.pgP g) = false
  fine : s.get KFR_DEFECT.SD (s.pgW g) = 0

/-- Table 7-4: the rank of a command where no port makes a request, 0 without one. -/
def calmRank (cmd : Nat) : Nat := if cmd == 1 then 1 else if cmd == 2 then 3 else if cmd == 3 || cmd == 4 then 6 else 0

theorem natOfBool_lt (b : Bool) : natOfBool b < 2 := by cases b <;> decide

section

variable (s : State) {g : Nat}

theorem pgShows_wtrLeft (rank : Nat) : (s.pgShows g rank).get FAB_PG_STATUS.WTR_LEFT g = 0 := get_set_eq _ (by decide) (by decide)

theorem pgShows_noRegs (rank : Nat) : (s.pgShows g rank).noRegs = s.noRegs := by simp only [State.pgShows, State.pgShown, set_noRegs]

theorem pgCalls_want (want : Bool) : ((s.pgCalls g want).pg g).want = want := congrArg PgState.want (KMap.get_set_same _ _ _ _)

theorem pgCalls_get (want : Bool) (f : Field) (i : Nat) : (s.pgCalls g want).get f i = s.get f i := rfl

variable (hg : g < 16)

include hg

/-- A field of a group beside the one that is written. -/
theorem pgSet_other {f f' : Field} (h : f.disjoint f' = true) (v : Nat) : (s.set f g v).get f' g = s.get f' g :=
  get_set_disjoint s h (by omega) (by omega)

theorem pgShown_unuseW : (s.pgShown g).get FAB_PG_STATUS.UNUSE_W g = natOfBool (s.krwUnusable (s.pgW g)) := by
  rw [State.pgShown, pgSet_other _ hg (by decide), pgSet_other _ hg (by decide), pgSet_other _ hg (by decide)]
  exact get_set_eq _ (by decide) (natOfBool_lt _)

theorem pgShown_unuseP : (s.pgShown g).get FAB_PG_STATUS.UNUSE_P g = natOfBool (s.krwUnusable (s.pgP g)) := by
  rw [State.pgShown, pgSet_other _ hg (by decide), pgSet_other _ hg (by decide)]
  exact get_set_eq _ (by decide) (natOfBool_lt _)

theorem pgShown_degW : (s.pgShown g).get FAB_PG_STATUS.DEG_W g = s.get KFR_DEFECT.SD (s.pgW g) := by
  rw [State.pgShown, pgSet_other _ hg (by decide)]
  exact get_set_eq _ (by decide) (get_lt s KFR_DEFECT.SD _)

theorem pgShows_req {rank : Nat} (hr : rank < 16) : (s.pgShows g rank).get FAB_PG_STATUS.REQ g = rank := by
  rw [State.pgShows, pgSet_other _ hg (by decide), pgSet_other _ hg (by decide)]
  exact get_set_eq _ (by decide) hr

theorem pgShows_wtr (rank : Nat) : (s.pgShows g rank).get FAB_PG_STATUS.WTR g = 0 := by
  rw [State.pgShows, pgSet_other _ hg (by decide)]
  exact get_set_eq _ (by decide) (by decide)

/-- R260: judging a group leaves its selection. -/
theorem pgShows_sel (rank : Nat) : (s.pgShows g rank).get FAB_PG_STATUS.SEL g = s.get FAB_PG_STATUS.SEL g := by
  rw [State.pgShows, pgSet_other _ hg (by decide), pgSet_other _ hg (by decide), pgSet_other _ hg (by decide), State.pgShown,
    pgSet_other _ hg (by decide), pgSet_other _ hg (by decide), pgSet_other _ hg (by decide), pgSet_other _ hg (by decide)]

/-- A group's configuration is not what judging it changes. -/
theorem pgShown_cfg {f : Field} (hf : f.reg = .FAB_PG_CFG) (hw : f.word < 8) : (s.pgShown g).get f g = s.get f g :=
  (FramersWithin.pgShown s hg).get f g (by rw [hf]; decide) hw (by omega)

theorem pgShows_cfg (rank : Nat) {f : Field} (hf : f.reg = .FAB_PG_CFG) (hw : f.word < 8) : (s.pgShows g rank).get f g = s.get f g :=
  (FramersWithin.pgShows s hg rank).get f g (by rw [hf]; decide) hw (by omega)

/-- Table 7-4 with ranks 2, 4 and 5 left out. -/
theorem pgRank_calm {s : State} (h : s.PgCalm g) : (s.pgShown g).pgRank g = calmRank (s.get FAB_PG_CFG.CMD g) := by
  unfold State.pgRank calmRank State.flag
  rw [pgShown_cfg s hg rfl (by decide), pgShown_unuseW s hg, pgShown_unuseP s hg, pgShown_degW s hg, h.usableW, h.usableP, h.fine]
  rfl

end

/-! ### The groups' commands (R260) -/

/-- What a command of a group asks for: the value of CMD, the selection, and the rank of the request. -/
def pgForms (g : Fin 16) : List (Instr × Nat × Bool × Nat) :=
  [(.pgCmdLockout g, 1, false, 1), (.pgCmdForceP g, 2, true, 3), (.pgCmdManualW g, 3, false, 6), (.pgCmdManualP g, 4, true, 6)]

theorem pgForms_request {g : Fin 16} {f : Instr × Nat × Bool × Nat} (hf : f ∈ pgForms g) (s : State) :
    exec f.1 s = finish (s.pgCmd g f.2.1) := by
  simp only [pgForms, List.mem_cons, List.not_mem_nil, or_false] at hf
  rcases hf with rfl | rfl | rfl | rfl <;> rfl

/-- Table 7-4 for the commands: each has a rank of its own and calls for its port. -/
theorem pgForms_rank {g : Fin 16} {f : Instr × Nat × Bool × Nat} (hf : f ∈ pgForms g) : f.2.1 < 8 ∧ f.2.2.2 < 16 ∧ f.2.2.2 ≠ 0
    ∧ calmRank f.2.1 = f.2.2.2 ∧ pgWant f.2.2.2 f.2.1 = f.2.2.1 := by
  simp only [pgForms, List.mem_cons, List.not_mem_nil, or_false] at hf
  rcases hf with rfl | rfl | rfl | rfl
  all_goals
    dsimp only
    decide

section

variable {s : State} {g : Nat}

theorem krwUnusable_within {rs : List Reg} {t : State} (h : Within rs s t)
    (hrs : ∀ r ∈ [Reg.LPX_PORT_STATUS, .LPX_PORT_CTRL, .KFR_DEFECT], r ∉ rs) {p : Nat} (hp : p < 32) : t.krwUnusable p = s.krwUnusable p := by
  have hget {f : Field} (hf : f.reg ∈ [Reg.LPX_PORT_STATUS, .LPX_PORT_CTRL, .KFR_DEFECT]) (hw : f.word < 8) : t.get f p = s.get f p :=
    h.get f p (hrs _ hf) hw (by omega)
  unfold State.krwUnusable State.linePortActive State.flag
  rw [hget (by decide) (by decide), hget (by decide) (by decide), hget (by decide) (by decide), hget (by decide) (by decide)]

/-- What a group waits for and receives is no matter of its ports. -/
theorem State.PgCalm.onPg (h : s.PgCalm g) {f : PgState → PgState} : (s.onPg g f).PgCalm g := ⟨h.on, h.usableW, h.usableP, h.fine⟩

variable (hg : g < 16)

include hg

theorem pgCmd_off {cmd : Nat} (h : s.get FAB_PG_CFG.STATE g ≠ 1) : s.pgCmd g cmd = s.set FAB_PG_CFG.CMD g cmd :=
  pgEval_off (by rwa [pgSet_other s hg (by decide)])

theorem State.PgCalm.setCmd (h : s.PgCalm g) (cmd : Nat) : (s.set FAB_PG_CFG.CMD g cmd).PgCalm g := by
  have hcmd : Within [.FAB_PG_CFG] s (s.set FAB_PG_CFG.CMD g cmd) := .set s _ g cmd (by decide) (by decide) (by omega)
  have hW : (s.set FAB_PG_CFG.CMD g cmd).pgW g = s.pgW g := pgSet_other s hg (by decide) cmd
  have hP : (s.set FAB_PG_CFG.CMD g cmd).pgP g = s.pgP g := pgSet_other s hg (by decide) cmd
  have hWlt : s.pgW g < 32 := get_lt s FAB_PG_CFG.W_PORT g
  have hPlt : s.pgP g < 32 := get_lt s FAB_PG_CFG.P_PORT g
  refine ⟨?_, ?_, ?_, ?_⟩
  · rw [pgSet_other s hg (by decide), h.on]
  · rw [hW, krwUnusable_within hcmd (by decide) hWlt, h.usableW]
  · rw [hP, krwUnusable_within hcmd (by decide) hPlt, h.usableP]
  · rw [hW, hcmd.get _ _ (by decide) (by decide) (by omega), h.fine]

/-- R260: a calm group follows a command. -/
theorem pgCmd_calm (h : s.PgCalm g) {cmd : Nat} (hcmd : cmd < 8) (hrank : calmRank cmd ≠ 0) : s.pgCmd g cmd =
    ((s.set FAB_PG_CFG.CMD g cmd).pgShows g (calmRank cmd)).pgCalls g (pgWant (calmRank cmd) cmd) := by
  have hread : (s.set FAB_PG_CFG.CMD g cmd).get FAB_PG_CFG.CMD g = cmd := get_set_eq s (by decide) hcmd
  have hcalm := h.setCmd hg cmd
  rw [State.pgCmd, pgEval_on hcalm.on, pgRank_calm hg hcalm, hread]
  exact if_pos (by simpa using hrank)

/-- Table 7-4, rank 8: a calm group that is not revertive stays as it is without a command. -/
theorem pgCmd_none (h : s.PgCalm g) (hrev : s.get FAB_PG_CFG.REVERT g = 0) : s.pgCmd g 0 = (s.set FAB_PG_CFG.CMD g 0).pgShows g 8 := by
  have hread : (s.set FAB_PG_CFG.CMD g 0).get FAB_PG_CFG.CMD g = 0 := get_set_eq s (by decide) (by decide)
  have hcalm := h.setCmd hg 0
  have hstays : ((s.set FAB_PG_CFG.CMD g 0).pgShown g).flag FAB_PG_CFG.REVERT g = false := by
    rw [State.flag, pgShown_cfg _ hg rfl (by decide), pgSet_other s hg (by decide), hrev]
    rfl
  rw [State.pgCmd, pgEval_on hcalm.on, pgRank_calm hg hcalm, hread, hstays]
  rfl

/-- Table 7-4, rank 8: a calm revertive group whose wait-to-restore has run out selects W. -/
theorem pgEval_restored (h : s.PgCalm g) (hcmd : s.get FAB_PG_CFG.CMD g = 0) (hrev : s.get FAB_PG_CFG.REVERT g = 1)
    (hover : (s.pg g).wtrOver = true) : s.pgEval g = (s.pgShows g 8).pgCalls g false := by
  have hreverts : (s.pgShown g).flag FAB_PG_CFG.REVERT g = true := by
    rw [State.flag, pgShown_cfg s hg rfl (by decide), hrev]
    rfl
  rw [pgEval_on h.on, pgRank_calm hg h, hcmd, hreverts, hover, Bool.not_true, Bool.and_false]
  rfl

end

/-! ### A change of the selection (R262) -/

/-- A copy of a frame under volley. -/
def State.volley (s : State) (it : Item) : Bool := it.stream.any fun st => s.flag LET_STREAM_CFG.VOLLEY st

/-- What waits in a mapper replaced. -/
def State.putMapper (k : Nat) (l : List Item) (s : State) : State := { s with krw := { s.krw with mapper := s.krw.mapper.set k l [] } }

/-- The crates of a frame under way in a tributary, and the octets that the next period begins with. -/
def Trib.run (x : Trib) : Option CrateRun × List Byte := (x.cur, x.carry)

section

variable (s : State)

theorem onTrib_part {β : Type} (v : Trib → β) (j k : Nat) (f : Trib → Trib) (h : ∀ x, v (f x) = v x) :
    v ((s.onTrib k f).tribSt j) = v (s.tribSt j) := by
  by_cases hj : j = k
  · rw [hj, onTrib_tribSt_same, h]
  · rw [onTrib_tribSt_ne s f hj]

theorem abortCrates_regs (k : Nat) : (s.abortCrates k).regs = s.regs := by
  unfold State.abortCrates
  split <;> rfl

theorem abortCrates_evt (k : Nat) : (s.abortCrates k).evt = s.evt := by
  unfold State.abortCrates
  split <;> rfl

theorem abortCrates_mapper (k : Nat) : (s.abortCrates k).krw.mapper = s.krw.mapper := by
  unfold State.abortCrates
  split <;> rfl

theorem abortCrates_ne {j k : Nat} (h : j ≠ k) : (s.abortCrates k).tribSt j = s.tribSt j := by
  unfold State.abortCrates
  split
  · exact onTrib_tribSt_ne s _ h
  · rfl

/-- R232: a frame under way ends with an ABORT crate. -/
theorem abortCrates_run {k : Nat} {x : CrateRun} (h : (s.tribSt k).cur = some x) :
    ((s.abortCrates k).tribSt k).run = (none, (s.tribSt k).carry ++ abortCrate x.exp) := by
  unfold State.abortCrates
  rw [h]
  exact congrArg Trib.run (onTrib_tribSt_same s k _)

/-- R262, one tributary: the frame under way is aborted, what waits moves, and the blocks of a block-transparent tributary with it. -/
theorem pgMove_eq (old new t : Nat) : s.pgMove old new t =
    let a := 32 * old + t
    let b := 32 * new + t
    let s1 := s.abortCrates a
    let s2 := s1.putMapper a ((s1.krw.mapper.get a []).filter s1.volley)
    let s3 := s2.putMapper b ((s1.krw.mapper.get a []).filter (fun x => !s1.volley x) ++ s2.krw.mapper.get b [])
    if s1.get KFR_TRIB.TYPE a == 2 then
      (s3.onTrib a fun x => { x with blocks := [] }).onTrib b fun x => { x with blocks := (s3.tribSt a).blocks ++ x.blocks, newPtr := true }
    else s3 := rfl

theorem putMapper_regs (k : Nat) (l : List Item) : (s.putMapper k l).regs = s.regs := rfl
theorem putMapper_evt (k : Nat) (l : List Item) : (s.putMapper k l).evt = s.evt := rfl
theorem putMapper_tribSt (k j : Nat) (l : List Item) : (s.putMapper k l).tribSt j = s.tribSt j := rfl
theorem onTrib_regs (k : Nat) (f : Trib → Trib) : (s.onTrib k f).regs = s.regs := rfl
theorem onTrib_evt (k : Nat) (f : Trib → Trib) : (s.onTrib k f).evt = s.evt := rfl
theorem onTrib_mapper (k : Nat) (f : Trib → Trib) : (s.onTrib k f).krw.mapper = s.krw.mapper := rfl

theorem volley_of_regs {s t : State} (h : t.regs = s.regs) : t.volley = s.volley := by
  funext it
  simp only [State.volley, State.flag, get_of_regs h]

theorem pgMove_regs (old new t : Nat) : (s.pgMove old new t).regs = s.regs := by
  rw [pgMove_eq]
  dsimp only
  split <;> simp only [onTrib_regs, putMapper_regs, abortCrates_regs]

theorem pgMove_evt (old new t : Nat) : (s.pgMove old new t).evt = s.evt := by
  rw [pgMove_eq]
  dsimp only
  split <;> simp only [onTrib_evt, putMapper_evt, abortCrates_evt]

/-- R262: the copies under volley stay, and the rest waits ahead of what the new port's tributary has. -/
theorem pgMove_mapper (old new t : Nat) : (s.pgMove old new t).krw.mapper =
    let l := s.krw.mapper.get (32 * old + t) []
    let m := s.krw.mapper.set (32 * old + t) (l.filter s.volley) []
    m.set (32 * new + t) (l.filter (fun x => !s.volley x) ++ m.get (32 * new + t) []) [] := by
  have hput (u : State) (k : Nat) (l : List Item) : (u.putMapper k l).krw.mapper = u.krw.mapper.set k l [] := rfl
  rw [pgMove_eq]
  dsimp only
  split <;> simp only [onTrib_mapper, hput, abortCrates_mapper, volley_of_regs (abortCrates_regs ..)]

theorem pgMove_run (old new t k : Nat) : ((s.pgMove old new t).tribSt k).run = ((s.abortCrates (32 * old + t)).tribSt k).run := by
  rw [pgMove_eq]
  extract_lets a b s1 s2 s3
  have hs3 : s3.tribSt k = s1.tribSt k := (putMapper_tribSt s2 b k _).trans (putMapper_tribSt s1 a k _)
  split
  · have hblocks : ((s3.onTrib a fun x => { x with blocks := [] }).tribSt k).run = (s3.tribSt k).run := onTrib_part s3 Trib.run k a _ fun _ => rfl
    refine (onTrib_part _ Trib.run k b _ ?_).trans (hblocks.trans (congrArg Trib.run hs3))
    exact fun _ => rfl
  · exact congrArg Trib.run hs3

/-- The registers, and what waits and is under way in tributary `t` of the two ports. -/
def State.moveView (s : State) (old new t : Nat) : KMap Word × List Item × List Item × Option CrateRun × List Byte :=
  (s.regs, s.krw.mapper.get (32 * old + t) [], s.krw.mapper.get (32 * new + t) [], (s.tribSt (32 * old + t)).run)

/-- R262: a tributary that moves leaves the others. -/
theorem pgMove_moveView_ne {old new j t : Nat} (hj : j < 32) (ht : t < 32) (hne : j ≠ t) :
    (s.pgMove old new j).moveView old new t = s.moveView old new t := by
  have hold : (s.pgMove old new j).krw.mapper.get (32 * old + t) [] = s.krw.mapper.get (32 * old + t) [] := by
    rw [pgMove_mapper]
    dsimp only
    rw [KMap.get_set_ne _ _ _ _ _ _ (by omega), KMap.get_set_ne _ _ _ _ _ _ (by omega)]
  have hnew : (s.pgMove old new j).krw.mapper.get (32 * new + t) [] = s.krw.mapper.get (32 * new + t) [] := by
    rw [pgMove_mapper]
    dsimp only
    rw [KMap.get_set_ne _ _ _ _ _ _ (by omega), KMap.get_set_ne _ _ _ _ _ _ (by omega)]
  have hrun : ((s.pgMove old new j).tribSt (32 * old + t)).run = (s.tribSt (32 * old + t)).run := by
    rw [pgMove_run, abortCrates_ne s (by omega)]
  simp only [State.moveView, pgMove_regs, hold, hnew, hrun]

/-- R262: what a change of the selection from `old` to `new` makes of their tributaries `t`. -/
structure State.Moved (s u : State) (old new t : Nat) : Prop where
  stays : u.krw.mapper.get (32 * old + t) [] = (s.krw.mapper.get (32 * old + t) []).filter s.volley
  ahead : u.krw.mapper.get (32 * new + t) [] =
    (s.krw.mapper.get (32 * old + t) []).filter (fun x => !s.volley x) ++ s.krw.mapper.get (32 * new + t) []
  aborted : ∀ x, (s.tribSt (32 * old + t)).cur = some x →
    (u.tribSt (32 * old + t)).run = (none, (s.tribSt (32 * old + t)).carry ++ abortCrate x.exp)

theorem pgMove_moved {old new : Nat} (hports : old ≠ new) (t : Nat) : s.Moved (s.pgMove old new t) old new t where
  stays := by
    rw [pgMove_mapper]
    dsimp only
    rw [KMap.get_set_ne _ _ _ _ _ _ (by omega), KMap.get_set_same]
  ahead := by
    rw [pgMove_mapper]
    dsimp only
    rw [KMap.get_set_same, KMap.get_set_ne _ _ _ _ _ _ (by omega)]
  aborted x hx := by rw [pgMove_run, abortCrates_run s hx]

theorem State.Moved.of_moveView {s s' u u' : State} {old new t : Nat} (h : s.Moved u old new t) (hs : s.moveView old new t = s'.moveView old new t)
    (hu : u'.moveView old new t = u.moveView old new t) : s'.Moved u' old new t := by
  simp only [State.moveView, Prod.mk.injEq] at hs hu
  obtain ⟨hregs, hold, hnew, hrun⟩ := hs
  obtain ⟨-, hold', hnew', hrun'⟩ := hu
  refine ⟨?_, ?_, fun x hx => ?_⟩
  · rw [hold', h.stays, hold, volley_of_regs hregs]
  · rw [hnew', h.ahead, hold, hnew, volley_of_regs hregs]
  · have hcur : (s.tribSt (32 * old + t)).cur = some x := (congrArg Prod.fst hrun).trans hx
    rw [hrun', h.aborted x hcur]
    exact congrArg (fun r => (none, r ++ abortCrate x.exp)) (congrArg Prod.snd hrun)

/-- R262: every tributary of the old port moves. -/
theorem pgMoves_moved {old new t : Nat} (ht : t < 32) (hports : old ≠ new) : s.Moved (s.forN 32 fun j s => s.pgMove old new j) old new t := by
  obtain ⟨u, hu, hlast⟩ := forN_once (State.moveView · old new t) (fun j s => s.pgMove old new j) ht
    (fun j hj hne s => pgMove_moveView_ne s hj ht hne) s
  exact (pgMove_moved u hports t).of_moveView hu hlast

end

theorem State.Moved.of_krw {s u u' : State} {old new t : Nat} (h : s.Moved u old new t) (hu : u'.krw = u.krw) : s.Moved u' old new t := by
  have htrib : u'.tribSt (32 * old + t) = u.tribSt (32 * old + t) := by rw [State.tribSt, hu, State.tribSt]
  exact ⟨by rw [hu, h.stays], by rw [hu, h.ahead], fun x hx => by rw [htrib, h.aborted x hx]⟩

/-- The port that a change of the selection leaves. -/
def State.pgFrom (s : State) (g : Nat) : Nat := if (s.pg g).want then s.pgW g else s.pgP g

/-- The port that a change of the selection takes. -/
def State.pgTo (s : State) (g : Nat) : Nat := if (s.pg g).want then s.pgP g else s.pgW g

theorem pgFrom_ne_pgTo {s : State} {g : Nat} (h : s.pgW g ≠ s.pgP g) : s.pgFrom g ≠ s.pgTo g := by
  unfold State.pgFrom State.pgTo
  split
  · exact h
  · exact h.symm

/-- Every tributary of a port moves to another. -/
def State.pgMoves (old new : Nat) (s : State) : State := s.forN 32 fun t s => s.pgMove old new t

/-- R262: a selection made, marked and counted. -/
def State.pgSelects (g : Nat) (want : Bool) (s : State) : State :=
  ((s.set FAB_PG_STATUS.SEL g (natOfBool want)).set FAB_PG_STATUS.SWITCHED g 1).inc FAB_PG_STATUS.SWITCHES g

section

variable (s : State) {g : Nat}

theorem pgMoves_regs (old new : Nat) : (s.pgMoves old new).regs = s.regs :=
  forN_keeps State.regs _ (fun t u => pgMove_regs u old new t) 32 s

theorem pgMoves_evt (old new : Nat) : (s.pgMoves old new).evt = s.evt := forN_keeps State.evt _ (fun t u => pgMove_evt u old new t) 32 s

theorem pgSwitch_idle (h : s.get FAB_PG_CFG.STATE g = 0 ∨ s.flag FAB_PG_STATUS.SEL g = (s.pg g).want) : s.pgSwitch g = s := by
  refine if_pos ?_
  rcases h with h | h <;> simp [h]

theorem pgSwitch_switches (hon : s.get FAB_PG_CFG.STATE g ≠ 0) (hsel : s.flag FAB_PG_STATUS.SEL g ≠ (s.pg g).want) :
    s.pgSwitch g = ((s.pgMoves (s.pgFrom g) (s.pgTo g)).pgSelects g (s.pg g).want).raise (64 + g) 1 g := by
  refine if_neg ?_
  simp [hon, hsel]

variable (hg : g < 16) (want : Bool)

theorem pgSelects_krw (g : Nat) : (s.pgSelects g want).krw = s.krw := rfl

theorem pgSelects_evt (g : Nat) : (s.pgSelects g want).evt = s.evt := rfl

include hg

theorem pgSelects_sel : (s.pgSelects g want).flag FAB_PG_STATUS.SEL g = want := by
  have hread : (s.pgSelects g want).get FAB_PG_STATUS.SEL g = natOfBool want := by
    rw [State.pgSelects, State.inc, pgSet_other _ hg (by decide), pgSet_other _ hg (by decide)]
    exact get_set_eq _ (by decide) (natOfBool_lt _)
  rw [State.flag, hread]
  cases want <;> rfl

theorem pgSelects_switched : (s.pgSelects g want).get FAB_PG_STATUS.SWITCHED g = 1 := by
  rw [State.pgSelects, State.inc, pgSet_other _ hg (by decide)]
  exact get_set_eq _ (by decide) (by decide)

theorem pgSelects_switches : (s.pgSelects g want).get FAB_PG_STATUS.SWITCHES g = min (s.get FAB_PG_STATUS.SWITCHES g + 1) 65535 := by
  rw [State.pgSelects, inc_get _ _ _ (by decide), pgSet_other _ hg (by decide), pgSet_other _ hg (by decide)]
  rfl

end

/-! ### The mismatch (R264) -/

theorem exec_protectionMismatchTimer (g : Fin 16) (s : State) : exec (.protectionMismatchTimer g) s =
    finish (if s.get FAB_PG_CFG.STATE g = 1
        ∧ ((s.krwPort (s.pgP g)).selRx ≠ s.flag FAB_PG_STATUS.SEL g ∨ (s.krwPort (s.pgW g)).selRx = s.flag FAB_PG_STATUS.SEL g)
        ∧ s.flag FAB_PG_STATUS.UNUSE_W g = false ∧ s.flag FAB_PG_STATUS.UNUSE_P g = false then
      (s.set FAB_PG_STATUS.MISMATCH g 1).raise (64 + g) 2 g else s) := by
  refine congrArg finish (if_congr ?_ rfl rfl)
  simp only [Bool.and_eq_true, Bool.or_eq_true, beq_iff_eq, bne_iff_ne, Bool.not_eq_true', and_assoc]

end Sys2Proof.Machine

namespace Sys2Proof

open Machine

/-- Settles O34, command by command: the request that a calm group follows, the tributaries that a change of the selection moves, the end of
wait-to-restore and the mismatch. -/
theorem protectionGroups : Obligations.ProtectionGroups := by
  unfold Obligations.ProtectionGroups
  intro g s w pp calm forms
  have hcalm (hon : s.get FAB_PG_CFG.STATE g = 1) (h : calm) : s.PgCalm g := by
    obtain ⟨hW, hP, hfine⟩ := h
    exact ⟨hon, hW, hP, hfine⟩
  have hread (x : State) (f : Field) (hf : (f.reg.early && f.fits) = true) : x.flushEvents.get f g = x.get f g :=
    flushEvents_get_early x f g hf (by omega)
  refine ⟨fun hoff => ?off, fun hs hon hc f hf => ?request, fun hs hon hc hrev => ?none, fun hidle => ?idle,
    fun hs hon hsel hports => ?switch, fun hwtr => ?noWait, fun hwtr hon hc hcmd hrev => ?restored, ?mismatch, ?agree⟩
  case off =>
    exact ⟨ends_of_exec rfl (pgCmd_off g.isLt hoff), fun f hf => ends_of_exec (pgForms_request hf s) (pgCmd_off g.isLt hoff)⟩
  case request =>
    obtain ⟨hcmd, hlt, hne, hrank, hwant⟩ := pgForms_rank hf
    have hexec := pgForms_request hf s
    rw [pgCmd_calm g.isLt (hcalm hon hc) hcmd (by rwa [hrank]), hrank, hwant] at hexec
    refine answers_of_exec_quiet hexec hs ⟨?_, pgCalls_want _ _, ?_, ?_, ?_, ?_⟩
    · rw [pgCalls_get, pgShows_cfg _ g.isLt _ rfl (by decide)]
      exact get_set_eq s (by decide) hcmd
    · rw [pgCalls_get, pgShows_req _ g.isLt hlt]
    · rw [pgCalls_get, pgShows_wtr _ g.isLt]
    · rw [pgCalls_get, pgShows_sel _ g.isLt]
      exact pgSet_other s g.isLt (by decide) _
    · exact congrArg (fun u : State => { u with regs := s.regs, krw := s.krw }) (pgShows_noRegs (s.set FAB_PG_CFG.CMD g f.2.1) f.2.2.2)
  case none =>
    have hexec : exec (.pgCmdNone g) s = finish (s.pgCmd g 0) := rfl
    rw [pgCmd_none g.isLt (hcalm hon hc) hrev] at hexec
    refine answers_of_exec_quiet hexec hs ⟨?_, rfl, pgShows_req _ g.isLt (by decide), pgShows_wtr _ g.isLt _, ?_⟩
    · rw [pgShows_cfg _ g.isLt _ rfl (by decide)]
      exact get_set_eq s (by decide) (by decide)
    · exact onlyRegs_of_noRegs (pgShows_noRegs _ _)
  case idle => exact ends_of_exec rfl (pgSwitch_idle s hidle)
  case switch =>
    have hexec := congrArg finish (pgSwitch_switches s hon hsel)
    set t := (s.pgMoves (s.pgFrom g) (s.pgTo g)).pgSelects g (s.pg g).want with ht
    have hset : Settled t := (congrArg EvtState.raised (pgMoves_evt s (s.pgFrom g) (s.pgTo g))).trans hs
    refine answers_of_exec hexec ⟨?_, ?_, ?_, raise_flushEvents_status t hset (by omega) _ _ _ _, fun k => ?_⟩
    · rw [State.flag, hread _ _ (by decide), raise_get]
      exact pgSelects_sel _ g.isLt _
    · rw [hread _ _ (by decide), raise_get, ht, pgSelects_switched _ g.isLt]
    · rw [hread _ _ (by decide), raise_get, ht, pgSelects_switches _ g.isLt, get_of_regs (pgMoves_regs s _ _)]
    · have hmoved := (pgMoves_moved s k.isLt (pgFrom_ne_pgTo hports)).of_krw (u' := (t.raise (64 + g) 1 g).flushEvents) (flushEvents_krw _)
      exact ⟨hmoved.stays, hmoved.ahead, fun x hx => Prod.mk.inj (hmoved.aborted x hx)⟩
  case noWait => exact ends_of_exec rfl (if_neg (by rw [hwtr]; exact Bool.false_ne_true))
  case restored =>
    have hexec : exec (.wtrExpiry g) s = finish ((s.onPg g fun x => { x with wtrOver := true }).pgEval g) := congrArg finish (if_pos hwtr)
    have hover : ((s.onPg g fun x => { x with wtrOver := true }).pg g).wtrOver = true := congrArg PgState.wtrOver (KMap.get_set_same _ _ _ _)
    rw [pgEval_restored g.isLt (hcalm hon hc).onPg hcmd hrev hover] at hexec
    refine answers_of_exec hexec ⟨?_, ?_, ?_, ?_⟩
    · rw [hread _ _ (by decide), pgCalls_get, pgShows_wtr _ g.isLt]
    · rw [hread _ _ (by decide), pgCalls_get, pgShows_wtrLeft]
    · rw [hread _ _ (by decide), pgCalls_get, pgShows_req _ g.isLt (by decide)]
    · rw [State.pg, flushEvents_krw]
      exact pgCalls_want _ _
  case mismatch =>
    intro hon hdiffers hW hP
    refine ends_of_exec (exec_protectionMismatchTimer g s) (if_pos ?_)
    exact ⟨hon, hdiffers, hW, hP⟩
  case agree =>
    intro hno
    refine ends_of_exec (exec_protectionMismatchTimer g s) (if_neg ?_)
    rintro ⟨hon, hdiffers, hW, hP⟩
    rcases hno with h | h | h | h
    · exact h hon
    · exact h hdiffers
    · exact Bool.false_ne_true (hW.symm.trans h)
    · exact Bool.false_ne_true (hP.symm.trans h)

end Sys2Proof
end

section
/-!
PROOFS. Ports and mate lanes (R280 to R287): the fields and the parts of the state that bring-up reads, and what going up and going down
leave of them.
-/

namespace Sys2Proof.Machine

/-! ### What a port holds beside its registers -/

section

variable (s : State) (p : Nat) (f : PortSt → PortSt)

@[simp] theorem onPort_portSt_same : (s.onPort p f).portSt p = f (s.portSt p) := KMap.get_set_same _ _ _ _

theorem onPort_portSt_ne {q : Nat} (h : q ≠ p) : (s.onPort p f).portSt q = s.portSt q := KMap.get_set_ne _ _ _ _ _ _ h

theorem portSt_of_ports {t : State} (h : t.ports = s.ports) : t.portSt p = s.portSt p := by rw [State.portSt, h, State.portSt]

@[simp] theorem flushEvents_portSt : s.flushEvents.portSt p = s.portSt p :=
  part_of_beside (State.portSt · p) (fun _ => rfl) (flushEvents_beside s)

end

/-! ### A field by kind of port -/

/-- A field that client ports, line ports and mate lanes each have in a register of their own. -/
structure PortField where
  client : Field
  line : Field
  mate : Field

/-- BSTATE (Table 8-3) and FAIL_CAUSE (Table 8-8). -/
def bstField : PortField := ⟨CPX_PORT_STATUS.BSTATE, LPX_PORT_STATUS.BSTATE, MTL_LANE_STATUS.BSTATE⟩
def causeField : PortField := ⟨CPX_PORT_STATUS.FAIL_CAUSE, LPX_PORT_STATUS.FAIL_CAUSE, MTL_LANE_STATUS.FAIL_CAUSE⟩

/-- The value of such a field. -/
def State.portGet (s : State) (f : PortField) (p : Nat) : Nat :=
  if p < 32 then s.get f.client p else if p < 64 then s.get f.line (p - 32) else s.get f.mate (p - 64)

/-- The cause that a port shows for its last fall-back. -/
def State.cause (s : State) (p : Nat) : Nat := s.portGet causeField p

/-- The field has `w` bits in every kind of port. -/
def PortField.wide (f : PortField) (w : Nat) : Bool := [f.client, f.line, f.mate].all fun g => g.fits && decide (g.width = w)

theorem bst_eq_portGet (s : State) (p : Nat) : s.bst p = s.portGet bstField p := by
  unfold State.bst State.bstate State.portCtl State.portGet
  split
  · rfl
  · next h => rw [if_neg (by omega)]; rfl

section

variable (s : State) {p : Nat}

theorem setPort_portGet_same (f : PortField) {w v : Nat} (h : f.wide w = true) (hv : v < 2 ^ w) :
    (s.setPort f.client f.line f.mate p v).portGet f p = v := by
  simp only [PortField.wide, List.all_cons, List.all_nil, Bool.and_true, Bool.and_eq_true, decide_eq_true_eq] at h
  obtain ⟨⟨hc, hcw⟩, ⟨hl, hlw⟩, hm, hmw⟩ := h
  unfold State.setPort State.portGet
  split
  · exact get_set_eq s hc (hcw ▸ hv)
  · split
    · exact get_set_eq s hl (hlw ▸ hv)
    · exact get_set_eq s hm (hmw ▸ hv)

theorem setBst_bst {v : Nat} (hv : v < 8) : (s.setBst p v).bst p = v := by
  rw [bst_eq_portGet]
  exact setPort_portGet_same s bstField (w := 3) (by decide) hv

theorem setCause_cause {v : Nat} (hv : v < 16) : (s.setCause p v).cause p = v :=
  setPort_portGet_same s causeField (w := 4) (by decide) hv

/-- BSTATE and FAIL_CAUSE of a port do not disturb each other. -/
theorem setBst_cause (hp : p < 66) (v : Nat) : (s.setBst p v).cause p = s.cause p := by
  unfold State.setBst State.setPort State.cause State.portGet
  split
  · exact get_set_disjoint s (by decide) (by omega) (by omega)
  · split <;> exact get_set_disjoint s (by decide) (by omega) (by omega)

theorem setPort_noRegs (c l m : Field) (v : Nat) : (s.setPort c l m p v).noRegs = s.noRegs := by
  unfold State.setPort
  split
  · rfl
  · split <;> rfl

@[simp] theorem setBst_noRegs (v : Nat) : (s.setBst p v).noRegs = s.noRegs := setPort_noRegs ..
@[simp] theorem setCause_noRegs (v : Nat) : (s.setCause p v).noRegs = s.noRegs := setPort_noRegs ..

end

theorem portSt_of_noRegs {s t : State} (h : t.noRegs = s.noRegs) (p : Nat) : t.portSt p = s.portSt p :=
  part_of_noRegs (State.portSt · p) (fun _ => rfl) h

/-! ### Updates beside bring-up -/

/-- The fields that bring-up goes by. -/
def lineFields : List Field := [bstField.client, bstField.line, bstField.mate, causeField.client, causeField.line, causeField.mate]

/-- The state without its registers, its events and what framers, groups, streams and the pair hold. -/
def State.besideLine (s : State) : State := { s with regs := [], evt := {}, krw := {}, lets := {}, mtl := {} }

theorem besideLine_of_noRegs {s t : State} (h : t.noRegs = s.noRegs) : t.besideLine = s.besideLine :=
  congrArg (fun x : State => { x with evt := {}, krw := {}, lets := {}, mtl := {} }) h

/-- `t` comes from `s` by updates that leave BSTATE and FAIL_CAUSE of every port and all parts beside the registers, the events, the
framers, the groups, the streams and the pair. -/
structure LineKept (s t : State) : Prop where
  get : ∀ f ∈ lineFields, ∀ i < 8192, t.get f i = s.get f i
  beside : t.besideLine = s.besideLine

theorem LineKept.refl (s : State) : LineKept s s := ⟨fun _ _ _ _ => rfl, rfl⟩

section

variable {s t : State}

theorem LineKept.trans {u : State} (h : LineKept s t) (k : LineKept t u) : LineKept s u :=
  ⟨fun f hf i hi => (k.get f hf i hi).trans (h.get f hf i hi), k.beside.trans h.beside⟩

/-- Updates of other registers alone. -/
theorem LineKept.of_within {rs : List Reg} (h : Within rs s t) (hb : t.besideLine = s.besideLine)
    (hrs : ∀ r ∈ rs, r ∉ [Reg.CPX_PORT_STATUS, .LPX_PORT_STATUS, .MTL_LANE_STATUS]) : LineKept s t := by
  have hline : ∀ f ∈ lineFields, f.reg ∈ [Reg.CPX_PORT_STATUS, .LPX_PORT_STATUS, .MTL_LANE_STATUS] ∧ f.word < 8 := by decide
  exact ⟨fun f hf i hi => h.get f i (fun hm => hrs _ hm (hline f hf).1) (hline f hf).2 hi, hb⟩

/-- Another part of the state changed. -/
theorem LineKept.of_regs (hr : t.regs = s.regs) (hb : t.besideLine = s.besideLine) : LineKept s t :=
  ⟨fun f _ i _ => get_of_regs hr f i, hb⟩

/-- A field that shares no bit with BSTATE and FAIL_CAUSE written. -/
theorem LineKept.set (s : State) (f : Field) (i v : Nat) (hf : ∀ g ∈ lineFields, f.disjoint g = true) (hi : i < 8192) :
    LineKept s (s.set f i v) :=
  ⟨fun g hg _ hj => get_set_disjoint s (hf g hg) hi hj, rfl⟩

theorem LineKept.thenSet (h : LineKept s t) (f : Field) (i v : Nat) (hf : ∀ g ∈ lineFields, f.disjoint g = true) (hi : i < 8192) :
    LineKept s (t.set f i v) := h.trans (.set t f i v hf hi)

theorem LineKept.raise (s : State) (a b c d e : Nat) : LineKept s (s.raise a b c d e) := .of_regs rfl rfl

theorem LineKept.onKrw (s : State) (p : Nat) (f : KrwPort → KrwPort) : LineKept s (s.onKrw p f) := .of_regs rfl rfl

theorem LineKept.when (c : Bool) {f : State → State} (h : LineKept s (f s)) : LineKept s (s.when c f) := by
  cases c
  · exact .refl s
  · exact h

theorem LineKept.forL {α : Type} {f : α → State → State} {l : List α} (h : ∀ a ∈ l, ∀ t, LineKept t (f a t)) (s : State) :
    LineKept s (s.forL l f) :=
  forL_holds (LineKept s) f l (fun a ha t ht => ht.trans (h a ha t)) s (.refl s)

theorem LineKept.flushEvents (s : State) : LineKept s s.flushEvents := by
  refine ⟨fun f hf i hi => flushEvents_get_early s f i ?_ hi, ?_⟩
  · revert f; decide
  · exact part_of_beside State.besideLine (fun _ => rfl) (flushEvents_beside s)

theorem LineKept.portGet (h : LineKept s t) {f : PortField} (hf : ∀ g ∈ [f.client, f.line, f.mate], g ∈ lineFields) {p : Nat} (hp : p < 66) :
    t.portGet f p = s.portGet f p := by
  have hget {g : Field} (hg : g ∈ [f.client, f.line, f.mate]) {i : Nat} (hi : i < 66) := h.get g (hf g hg) i (by omega)
  unfold State.portGet
  rw [hget (by simp) (i := p) hp, hget (by simp) (i := p - 32) (by omega), hget (by simp) (i := p - 64) (by omega)]

theorem LineKept.bst (h : LineKept s t) {p : Nat} (hp : p < 66) : t.bst p = s.bst p := by
  rw [bst_eq_portGet, bst_eq_portGet]
  exact h.portGet (by decide) hp

theorem LineKept.cause (h : LineKept s t) {p : Nat} (hp : p < 66) : t.cause p = s.cause p := h.portGet (by decide) hp

/-- A part that `LineKept` speaks of. -/
theorem LineKept.part {β : Type} (h : LineKept s t) (g : State → β) (hg : ∀ s, g s.besideLine = g s) : g t = g s := by
  rw [← hg t, h.beside, hg]

theorem LineKept.portSt (h : LineKept s t) (p : Nat) : t.portSt p = s.portSt p := h.part (State.portSt · p) fun _ => rfl
theorem LineKept.path (h : LineKept s t) : t.path = s.path := h.part State.path fun _ => rfl
theorem LineKept.tbl (h : LineKept s t) : t.tbl = s.tbl := h.part State.tbl fun _ => rfl
theorem LineKept.service (h : LineKept s t) : t.service = s.service := h.part State.service fun _ => rfl

end

/-! ### What follows for lanes, streams, groups and framers -/

theorem lanesOf_lt (s : State) {p j : Nat} (hj : j ∈ s.lanesOf p) : j < 8192 := by
  have hlanes : modeLanes (s.portMode p) ≤ 8 := by unfold modeLanes; split <;> omega
  unfold State.lanesOf at hj
  split at hj
  · simp only [State.portLanes, portRegion, List.mem_map, List.mem_range] at hj
    obtain ⟨k, hk, rfl⟩ := hj
    split <;> omega
  · cases hj

section

variable (s : State)

theorem Within.setLocks (p : Nat) (bit block : Bool) : Within [.LNS_LANE] s (s.setLocks p bit block) :=
  forL_holds (Within [.LNS_LANE] s) _ (s.lanesOf p) (fun _ hj _ ht => (ht.thenSet LNS_LANE.BIT_LOCK _ _ (by decide) (lanesOf_lt s hj)).thenSet
    LNS_LANE.BLOCK_LOCK _ _ (by decide) (lanesOf_lt s hj)) s (.refl _ s)

theorem setLocks_noRegs (p : Nat) (bit block : Bool) : (s.setLocks p bit block).noRegs = s.noRegs := by
  unfold State.setLocks
  refine forL_keeps State.noRegs _ (fun j t => ?_) _ s
  rfl

theorem LineKept.setLocks (p : Nat) (bit block : Bool) : LineKept s (s.setLocks p bit block) :=
  .of_within (.setLocks s p bit block) (besideLine_of_noRegs (setLocks_noRegs s p bit block)) (by decide)

theorem LineKept.setLfRf (p : Nat) (on : Bool) : LineKept s (s.setLfRf p on) := by
  unfold State.setLfRf
  split
  · exact .set s _ _ _ (by decide) (by omega)
  · split
    · exact .set s _ _ _ (by decide) (by omega)
    · exact .refl s

theorem letMode_besideLine (st : Nat) : (s.letMode st).besideLine = s.besideLine := by
  unfold State.letMode
  dsimp only
  split
  · rfl
  · split
    · split
      · split
        · split <;> rfl
        · rfl
      · rfl
    · split
      · rfl
      · split <;> rfl
    · split <;> rfl

theorem LineKept.letPortChange (p : Nat) : LineKept s (s.letPortChange p) := by
  refine .of_within (FramersWithin.letPortChange s p).toWithin (forN_keeps State.besideLine _ (fun st t => ?_) 256 s) (by decide)
  split
  · exact letMode_besideLine t st
  · rfl

theorem pgEval_besideLine (g : Nat) : (s.pgEval g).besideLine = s.besideLine := by
  by_cases hon : s.get FAB_PG_CFG.STATE g = 1
  · have hwaits : (s.pgWaits g).besideLine = s.besideLine := by
      unfold State.pgWaits
      dsimp only
      split <;> rfl
    rw [pgEval_on hon]
    split
    · rfl
    · split
      · split
        · exact hwaits
        · rfl
      · rfl
  · rw [pgEval_off hon]

theorem LineKept.pgPort (p : Nat) : LineKept s (s.pgPort p) := by
  refine .of_within (FramersWithin.pgPort s p).toWithin (forN_keeps State.besideLine _ (fun g t => ?_) 16 s) (by decide)
  split
  · exact pgEval_besideLine t g
  · rfl

theorem LineKept.defectSync {p : Nat} (hp : p < 32) : LineKept s (s.defectSync p) := by
  have hset {t : State} (h : LineKept s t) (f : Field) (v : Nat) (hf : ∀ g ∈ lineFields, f.disjoint g = true) := h.thenSet f p v hf (by omega)
  unfold State.defectSync
  extract_lets k top w0 major s1 s2 s3 w1 changed s4 s5
  have hs3 : LineKept s s3 :=
    hset (hset (hset (hset (hset (hset (.refl s) _ _ (by decide)) _ _ (by decide)) _ _ (by decide)) _ _ (by decide)) _ _ (by decide))
      _ _ (by decide)
  have hs5 : LineKept s s5 := (hs3.trans (.onKrw s3 p _)).trans
    (.when changed ((LineKept.set s4 KFR_DEFECT.CHANGED p 1 (by decide) (by omega)).trans (.raise _ _ _ _ _ _)))
  exact (hs5.trans (.letPortChange s5 p)).trans (.pgPort _ p)

theorem LineKept.hudRecord {p : Nat} (hp : p < 66) : LineKept s (s.hudRecord p) := by
  have hset {s t : State} (h : LineKept s t) (f : Field) (v : Nat) (hf : ∀ g ∈ lineFields, f.disjoint g = true) :=
    h.thenSet f (p - 32) v hf (by omega)
  unfold State.hudRecord
  split
  · exact .refl s
  · extract_lets k s1 s2 used
    have hs1 : LineKept s s1 := hset (hset (hset (.refl s) _ _ (by decide)) _ _ (by decide)) _ _ (by decide)
    have hs2 : LineKept s1 s2 := hset (hset (hset (.refl s1) _ _ (by decide)) _ _ (by decide)) _ _ (by decide)
    exact (hs1.trans hs2).trans (.when _ (.raise _ _ _ _ _ _))

theorem LineKept.preemptStart {k : Nat} (hk : k < 32) : LineKept s (s.preemptStart k) := by
  unfold State.preemptStart
  split <;> exact .set s _ _ _ (by decide) (by omega)

theorem LineKept.krwOof {p : Nat} (hp : p < 32) : LineKept s (s.krwOof p) := by
  have hinc (t : State) (f : Field) (hf : ∀ g ∈ lineFields, f.disjoint g = true) : LineKept t (t.inc f p) := .set t f p _ hf (by omega)
  unfold State.krwOof
  extract_lets k open_ s1 s2
  have hs1 : LineKept s s1 := .when _ ((LineKept.set s KFR_ALIGN.FSTATE p 0 (by decide) (by omega)).trans (hinc _ KFR_ALIGN.OOF_CNT (by decide)))
  exact ((hs1.trans (.when _ (hinc _ _ (by decide)))).trans (.when _ (hinc _ _ (by decide)))).trans (.onKrw _ p _)

theorem LineKept.keySwitchCancel {p : Nat} (hp : p < 32) : LineKept s (s.keySwitchCancel p) := by
  have hset {t : State} (h : LineKept s t) (f : Field) (v : Nat) (hf : ∀ g ∈ lineFields, f.disjoint g = true) := h.thenSet f p v hf (by omega)
  unfold State.keySwitchCancel
  split
  · extract_lets s1
    have hs1 : LineKept s s1 := hset (hset (hset (.refl s) _ _ (by decide)) _ _ (by decide)) _ _ (by decide)
    exact (hset (hs1.trans (.onKrw s1 p _)) KFR_KEYSW.CANCELLED 1 (by decide)).trans (.raise _ _ _ _ _ _)
  · exact .refl s

theorem LineKept.krwDown {p : Nat} (hp : p < 32) : LineKept s (s.krwDown p) := by
  unfold State.krwDown
  extract_lets s1 s2
  have hs1 : LineKept s s1 := (LineKept.krwOof s hp).trans (.keySwitchCancel _ hp)
  have hs2 : LineKept s1 s2 := by
    refine .forL (l := List.range 32) (fun t _ u => ?_) s1
    exact .of_regs rfl rfl
  exact ((hs1.trans hs2).trans (.onKrw s2 p _)).thenSet _ _ _ (by decide) (by omega)

end

end Sys2Proof.Machine
end

section
/-!
PROOFS. Bring-up (R272, R284 to R287): what reaching ACTIVE and falling back show of a port, and the obligation on bring-up assembled.
-/

namespace Sys2Proof.Machine

/-! ### ACTIVE reached -/

/-- ACTIVE reached with lock: the run of fall-backs ends. -/
def PortSt.reached (x : PortSt) : PortSt := { x with run := 0, lockLost := false }

/-- A port noted as in service (R694). -/
def State.served (p : Nat) (s : State) : State := { s with service := if 100 + p ∈ s.service then s.service else s.service ++ [100 + p] }

/-- A port or mate lane in ACTIVE; a port is in service with it. -/
def State.entered (p : Nat) (s : State) : State :=
  let s1 := (s.setBst p 5).onPort p PortSt.reached
  if p < 64 then s1.served p else s1

section

variable (s : State) {p : Nat}

/-- What follows for the peer's record, pre-emption, the framer, streams and groups leaves the port in ACTIVE. -/
theorem enterActive_kept (hp : p < 66) : LineKept (s.entered p) (s.enterActive p) := by
  by_cases hmate : 64 ≤ p
  · rw [State.entered, if_neg (by omega), State.enterActive, if_pos hmate]
    split
    · exact .refl _
    · exact .of_regs rfl rfl
  · have hactive : s.enterActive p = (let s2 := s.entered p
        if p < 32 then s2 else
          let s3 := if s2.huddles p then s2.hudRecord p else s2
          let s4 := (s3.preemptStart (p - 32)).onKrw (p - 32) fun x => { x with aligned := true }
          if s4.isKraow p then s4.defectSync (p - 32) else (s4.letPortChange (p - 32)).pgPort (p - 32)) := by
      rw [State.entered, if_pos (show p < 64 by omega)]
      exact if_neg hmate
    rw [hactive]
    extract_lets s2 s3 s4
    split
    · exact .refl s2
    · have hs3 : LineKept s2 s3 := by
        show LineKept s2 (if s2.huddles p then s2.hudRecord p else s2)
        split
        · exact .hudRecord s2 hp
        · exact .refl s2
      have hs4 : LineKept s2 s4 := (hs3.trans (.preemptStart s3 (by omega))).trans (.onKrw _ _ _)
      split
      · exact hs4.trans (.defectSync s4 (by omega))
      · exact (hs4.trans (.letPortChange s4 _)).trans (.pgPort _ _)

theorem entered_bst : (s.entered p).bst p = 5 := by
  have hbst : (s.setBst p 5).bst p = 5 := setBst_bst s (by decide)
  unfold State.entered
  dsimp only
  split
  · exact hbst
  · exact hbst

theorem entered_portSt : (s.entered p).portSt p = (s.portSt p).reached := by
  have hport : ((s.setBst p 5).onPort p PortSt.reached).portSt p = (s.portSt p).reached := by
    rw [onPort_portSt_same, portSt_of_noRegs (setBst_noRegs s 5) p]
  unfold State.entered
  dsimp only
  split
  · exact hport
  · exact hport

theorem entered_path : (s.entered p).path = s.path := by
  have hpath : (s.setBst p 5).path = s.path := part_of_noRegs State.path (fun _ => rfl) (setBst_noRegs s 5)
  unfold State.entered
  dsimp only
  split
  · exact hpath
  · exact hpath

theorem entered_service (hp : p < 64) : 100 + p ∈ (s.entered p).service := by
  rw [State.entered, if_pos hp]
  unfold State.served
  dsimp only
  split
  · assumption
  · simp

theorem enterActive_bst (hp : p < 66) : (s.enterActive p).bst p = 5 := ((enterActive_kept s hp).bst hp).trans (entered_bst s)

theorem enterActive_portSt (hp : p < 66) : (s.enterActive p).portSt p = (s.portSt p).reached :=
  ((enterActive_kept s hp).portSt p).trans (entered_portSt s)

end

/-! ### Falling back -/

/-- R286: a fall-back counted, its cause shown, and bring-up begun again. -/
def State.fallen (p cause : Nat) (s : State) : State :=
  let s1 := if p < 32 then s.inc CPX_PORT_STATUS.FALLBACKS p else if p < 64 then s.inc LPX_PORT_STATUS.FALLBACKS (p - 32)
    else s.inc MTL_LANE_STATUS.FALLBACKS (p - 64)
  ((s1.setCause p cause).setBst p (if s.nearLoop p then 3 else 1)).onPort p fun x => { x with run := (s.portSt p).run + 1 }

/-- A port has fallen back with a cause. -/
structure FellBack (s u : State) (p cause : Nat) : Prop where
  bst : u.bst p = if s.nearLoop p then 3 else 1
  cause : u.cause p = cause
  run : (u.portSt p).run = (s.portSt p).run + 1

section

variable {s t u : State} {p cause : Nat}

theorem FellBack.kept (h : FellBack s t p cause) (hp : p < 66) (k : LineKept t u) : FellBack s u p cause where
  bst := (k.bst hp).trans h.bst
  cause := (k.cause hp).trans h.cause
  run := by rw [k.portSt p, h.run]

theorem FellBack.onPort (h : FellBack s t p cause) {f : PortSt → PortSt} (hf : ∀ x, (f x).run = x.run) : FellBack s (t.onPort p f) p cause where
  bst := h.bst
  cause := h.cause
  run := by rw [onPort_portSt_same, hf, h.run]

theorem fellBack_fallen (hp : p < 66) (hc : cause < 16) : FellBack s (s.fallen p cause) p cause := by
  unfold State.fallen
  extract_lets s1
  have hstart : (if s.nearLoop p then 3 else 1) < 8 := by split <;> decide
  refine ⟨setBst_bst (s1.setCause p cause) hstart, ?_, by rw [onPort_portSt_same]⟩
  exact (setBst_cause (s1.setCause p cause) hp _).trans (setCause_cause s1 hc)

theorem Within.setPort (s : State) (c l m : Field) (p v : Nat) (hp : p < 8192) (hw : c.word < 8 ∧ l.word < 8 ∧ m.word < 8) :
    Within [c.reg, l.reg, m.reg] s (s.setPort c l m p v) := by
  obtain ⟨hc, hl, hm⟩ := hw
  unfold State.setPort
  split
  · exact .set s c p v (by simp) hc hp
  · split
    · exact .set s l _ v (by simp) hl (by omega)
    · exact .set s m _ v (by simp) hm (by omega)

/-- The status registers that a fall-back writes. -/
def statusRegs : List Reg := [.CPX_PORT_STATUS, .LPX_PORT_STATUS, .MTL_LANE_STATUS]

theorem Within.fallen (hp : p < 66) : Within statusRegs s (s.fallen p cause) := by
  unfold State.fallen
  extract_lets s1
  have hs1 : Within statusRegs s s1 := by
    show Within statusRegs s (if p < 32 then _ else _)
    split
    · exact .inc s _ _ 1 (by decide) (by decide) (by omega)
    · split <;> exact .inc s _ _ 1 (by decide) (by decide) (by omega)
  exact ((hs1.trans (.setPort s1 CPX_PORT_STATUS.FAIL_CAUSE LPX_PORT_STATUS.FAIL_CAUSE MTL_LANE_STATUS.FAIL_CAUSE p _ (by omega) (by decide))).trans
    (.setPort _ CPX_PORT_STATUS.BSTATE LPX_PORT_STATUS.BSTATE MTL_LANE_STATUS.BSTATE p _ (by omega) (by decide))).trans (.of_parts _ rfl rfl)

theorem fallen_path : (s.fallen p cause).path = s.path := by
  unfold State.fallen
  extract_lets s1
  have hs1 : s1.path = s.path := by
    show (if p < 32 then _ else _ : State).path = _
    split
    · rfl
    · split <;> rfl
  exact ((part_of_noRegs State.path (fun _ => rfl) (setBst_noRegs _ _)).trans
    (part_of_noRegs State.path (fun _ => rfl) (setCause_noRegs s1 cause))).trans hs1

/-- R286: a port that was in ACTIVE goes down; the run of fall-backs may be due for its event. -/
theorem fallBack_eq (s : State) (p cause : Nat) : s.fallBack p cause =
    (((s.fallen p cause).setLocks p false false).when (s.bst p == 5 && p < 64) fun s => s.portDown p).when
      (p < 64 && (s.portSt p).run + 1 == max 1 (s.get LNS_BRING_CFG.FAIL_EVT (portRegion p))) fun s => s.raise p 2 p := rfl

/-- A port that was not in ACTIVE, and a mate lane, has nothing to take down. -/
theorem fellBack_below (hp : p < 66) (hc : cause < 16) (hbelow : s.bst p ≠ 5 ∨ 64 ≤ p) : FellBack s (s.fallBack p cause) p cause := by
  have hdown : (s.bst p == 5 && decide (p < 64)) = false := by
    rcases hbelow with h | h
    · simp [h]
    · simp [h]
  rw [fallBack_eq, hdown]
  exact ((fellBack_fallen hp hc).kept hp (.setLocks _ p false false)).kept hp (.when _ (.raise _ _ _ _ _ _))

/-- R401: no egress queue is flushed where there is none. -/
theorem flushPort_none (h : ∀ q < 4096, s.get QMG_QCFG.ROLE q ≠ 1) (p : Nat) : s.flushPort p = s :=
  forN_holds (· = s) _ 4096 (fun q hq t ht => by subst ht; exact if_neg (by simp [h q hq])) s rfl

/-- A port that is down holds no pause and waits for no lock. -/
def PortSt.down (x : PortSt) : PortSt := { x with paused := 0, lockLost := false }

/-- R280: a port goes down with its queues and the reorder stage empty. -/
theorem portDown_kept (hp : p < 64) (hq : ∀ q < 4096, s.get QMG_QCFG.ROLE q ≠ 1) (hro : s.path.reorder = []) :
    ∃ t, LineKept s t ∧ LineKept (t.onPort p PortSt.down) (s.portDown p) := by
  have hfault := LineKept.setLfRf s p false
  refine ⟨s.setLfRf p false, hfault, ?_⟩
  unfold State.portDown
  rw [flushPort_none hq p]
  extract_lets s1 s2 s3 k s4
  have hs2 : s2 = s1 := by
    show s1.forL s1.path.reorder _ = s1
    rw [hfault.path, hro]
    rfl
  have hs3 : s3 = s1.onPort p PortSt.down := congrArg (State.onPort p PortSt.down) hs2
  rw [← hs3]
  split
  · exact .refl s3
  · have hs4 : LineKept s3 s4 := .set s3 _ _ _ (by decide) (by omega)
    split
    · exact (hs4.trans (.krwDown s4 (by omega))).trans (.defectSync _ (by omega))
    · exact (hs4.trans (.letPortChange s4 k)).trans (.pgPort _ k)

theorem fellBack_active (hp : p < 66) (hc : cause < 16) (hq : ∀ q < 4096, s.get QMG_QCFG.ROLE q ≠ 1) (hro : s.path.reorder = []) :
    FellBack s (s.fallBack p cause) p cause := by
  by_cases hbelow : s.bst p ≠ 5 ∨ 64 ≤ p
  · exact fellBack_below hp hc hbelow
  · have hport : p < 64 := by omega
    have hdown : (s.bst p == 5 && decide (p < 64)) = true := by simp only [not_or, not_not] at hbelow; simp [hbelow.1, hport]
    have hlocked := (fellBack_fallen (s := s) hp hc).kept hp (.setLocks _ p false false)
    have hregs := (Within.fallen (s := s) (cause := cause) hp).append (.setLocks _ p false false)
    have hpath : ((s.fallen p cause).setLocks p false false).path = s.path := by
      rw [(LineKept.setLocks _ p false false).path, fallen_path]
    obtain ⟨t, hbefore, hafter⟩ := portDown_kept hport (fun q hlt => by rw [hregs.get _ _ (by decide) (by decide) (by omega)]; exact hq q hlt)
      (by rw [hpath, hro])
    rw [fallBack_eq, hdown]
    exact (((hlocked.kept hp hbefore).onPort (f := PortSt.down) fun _ => rfl).kept hp hafter).kept hp (.when _ (.raise _ _ _ _ _ _))

end

/-! ### The commands -/

theorem bst_of_phase {s : State} {p k : Nat} (h : s.phase p = k) (hk : k ≠ 0) : s.bst p = k := by
  unfold State.phase at h
  split at h
  · exact h
  · exact absurd h.symm hk

section

variable {s : State} {p : Fin 66}

theorem answers_fallBack {c : Instr} {cause : Nat} (hexec : exec c s = finish (s.fallBack p cause)) (h : FellBack s (s.fallBack p cause) p cause) :
    Answers c s fun u => u.bst p = (if s.nearLoop p then 3 else 1) ∧ u.cause p = cause ∧ (u.portSt p).run = (s.portSt p).run + 1 :=
  have hend := h.kept p.isLt (.flushEvents _)
  answers_of_exec hexec ⟨hend.bst, hend.cause, hend.run⟩

/-- The huddle of a port starts afresh (R288). -/
def PortSt.huddleAnew (x : PortSt) : PortSt :=
  { x with hudSeq := 0, hudAcks := 0, hudMatch := false, hudAcked := false, hudDiffers := false, hudPeer := none }

theorem answers_lockAchieved_huddle (h : s.phase p = 3) (hloop : s.loopMode p ≠ 3) (hh : s.huddles p = true) :
    Answers (.lockAchieved p) s fun u => u.bst p = 4 ∧ (u.portSt p).hudSeq = 0 ∧ (u.portSt p).hudAcks = 0
      ∧ (u.portSt p).hudMatch = false ∧ (u.portSt p).hudAcked = false ∧ (u.portSt p).hudPeer = none := by
  have hexec : exec (.lockAchieved p) s = finish (((s.setLocks p true true).setBst p 4).onPort p PortSt.huddleAnew) :=
    congrArg finish ((if_neg (by simp [h])).trans ((if_pos (by simp [h, hloop])).trans (if_pos hh)))
  refine answers_of_exec hexec ⟨?_, ?_⟩
  · exact ((LineKept.flushEvents _).bst p.isLt).trans (setBst_bst _ (by decide))
  · rw [flushEvents_portSt, onPort_portSt_same]
    exact ⟨rfl, rfl, rfl, rfl, rfl⟩

theorem answers_lockAchieved_active (h : s.phase p = 3) (hloop : s.loopMode p ≠ 3) (hh : s.huddles p = false) :
    Answers (.lockAchieved p) s fun u => u.bst p = 5 ∧ (u.portSt p).run = 0 ∧ (p.val < 64 → 100 + p.val ∈ u.service) := by
  have hexec : exec (.lockAchieved p) s = finish ((s.setLocks p true true).enterActive p) :=
    congrArg finish ((if_neg (by simp [h])).trans ((if_pos (by simp [h, hloop])).trans (if_neg (by simp [hh]))))
  refine answers_of_exec hexec ⟨?_, ?_, fun hp => ?_⟩
  · exact ((LineKept.flushEvents _).bst p.isLt).trans (enterActive_bst _ p.isLt)
  · rw [flushEvents_portSt, enterActive_portSt _ p.isLt]
    rfl
  · rw [flushEvents_service, (enterActive_kept _ p.isLt).service]
    exact entered_service _ hp

/-- R287: lock is found again in HUDDLE and in ACTIVE. -/
theorem answers_lockAchieved_again {b : Nat} (hb : b = 4 ∨ b = 5) (h : s.phase p = b) :
    Answers (.lockAchieved p) s fun u => u.bst p = b ∧ (u.portSt p).lockLost = false ∧ u.tbl = s.tbl := by
  let t := (s.setLocks p true true).onPort p fun x => { x with lockLost := false }
  have hcured (u : State) (hu : LineKept t u) : u.bst p = b ∧ (u.portSt p).lockLost = false ∧ u.tbl = s.tbl := by
    have hlocks := LineKept.setLocks s p true true
    refine ⟨?_, ?_, ?_⟩
    · exact ((hu.bst p.isLt).trans (hlocks.bst p.isLt)).trans (bst_of_phase h (by omega))
    · rw [hu.portSt p, onPort_portSt_same]
    · rw [hu.tbl]
      exact hlocks.tbl
  rcases hb with rfl | rfl
  · exact answers_of_exec (x := t) (congrArg finish ((if_neg (by simp [h])).trans ((if_neg (by simp [h])).trans (if_pos (by simp [h])))))
      (hcured _ (.flushEvents t))
  · exact answers_of_exec (congrArg finish (if_pos (by simp [h])))
      (hcured _ ((LineKept.when _ (.onKrw t _ _)).trans (.flushEvents _)))

/-! ### A loss of lock (R285, R287) -/

/-- The locks that a lane loses. -/
def State.lanesLost (p lane : Nat) (kind : LockKind) (s : State) : State :=
  let js := ((s.lanesOf p).drop lane).take 1
  match kind with
  | .bit => s.forL js fun j s => (s.set LNS_LANE.BIT_LOCK j 0).set LNS_LANE.BLOCK_LOCK j 0
  | .block => s.forL js fun j s => s.set LNS_LANE.BLOCK_LOCK j 0
  | .alignment => s

theorem Within.lanesLost (lane : Nat) (kind : LockKind) : Within [.LNS_LANE] s (s.lanesLost p lane kind) := by
  have hlt {j : Nat} (hj : j ∈ ((s.lanesOf p).drop lane).take 1) : j < 8192 := lanesOf_lt s (List.mem_of_mem_drop (List.mem_of_mem_take hj))
  have hset {t : State} (ht : Within [.LNS_LANE] s t) {f : Field} (hf : f.reg ∈ [Reg.LNS_LANE] ∧ f.word < 8) {j : Nat}
      (hj : j ∈ ((s.lanesOf p).drop lane).take 1) := ht.thenSet f j 0 hf (hlt hj)
  cases kind with
  | bit => exact forL_holds (Within [.LNS_LANE] s) _ _ (fun _ hj _ ht => hset (hset ht (by decide) hj) (by decide) hj) s (.refl _ s)
  | block => exact forL_holds (Within [.LNS_LANE] s) _ _ (fun _ hj _ ht => hset ht (by decide) hj) s (.refl _ s)
  | alignment => exact .refl _ s

theorem lanesLost_noRegs (lane : Nat) (kind : LockKind) : (s.lanesLost p lane kind).noRegs = s.noRegs := by
  cases kind with
  | bit =>
    refine forL_keeps State.noRegs _ (fun j t => ?_) _ s
    rfl
  | block =>
    refine forL_keeps State.noRegs _ (fun j t => ?_) _ s
    rfl
  | alignment => rfl

theorem LineKept.lanesLost (lane : Nat) (kind : LockKind) : LineKept s (s.lanesLost p lane kind) :=
  .of_within (.lanesLost lane kind) (besideLine_of_noRegs (lanesLost_noRegs lane kind)) (by decide)

theorem isKraow_of_within {rs : List Reg} {s t : State} (h : Within rs s t) (hrs : Reg.LPX_PORT_CTRL ∉ rs) {p : Nat} (hp : p < 8192) :
    t.isKraow p = s.isKraow p := by
  rw [State.isKraow, State.flag, h.get LPX_PORT_CTRL.KRAOW (p - 32) hrs (by decide) (by omega), State.isKraow, State.flag]

theorem lanesLost_locks {lane j : Nat} (kind : LockKind) (hj : (s.lanesOf p)[lane]? = some j) :
    (kind = .bit → (s.lanesLost p lane kind).get LNS_LANE.BIT_LOCK j = 0)
      ∧ (kind ≠ .alignment → (s.lanesLost p lane kind).get LNS_LANE.BLOCK_LOCK j = 0) := by
  have hlt : j < 8192 := lanesOf_lt s (List.mem_of_getElem? hj)
  have hone : ((s.lanesOf p).drop lane).take 1 = [j] := by
    obtain ⟨hlane, rfl⟩ := List.getElem?_eq_some_iff.mp hj
    rw [List.drop_eq_getElem_cons hlane]
    rfl
  have hblock (t : State) : (t.set LNS_LANE.BLOCK_LOCK j 0).get LNS_LANE.BLOCK_LOCK j = 0 := get_set_eq t (by decide) (by decide)
  unfold State.lanesLost
  rw [hone]
  cases kind with
  | bit =>
    refine ⟨fun _ => ?_, fun _ => hblock _⟩
    exact (get_set_disjoint _ (f := LNS_LANE.BLOCK_LOCK) (by decide) hlt hlt).trans (get_set_eq s (by decide) (by decide))
  | block => exact ⟨nofun, fun _ => hblock s⟩
  | alignment => exact ⟨nofun, fun h => absurd rfl h⟩

theorem exec_lockLoss (lane : Fin 8) (kind : LockKind) : exec (.lockLoss p lane kind) s = finish (
    let s1 := s.lanesLost p lane kind
    let s2 := s1.onPort p fun x => { x with lockLost := true }
    if s.phase p == 3 then s1 else if s.phase p == 4 then s2
    else if s.phase p == 5 then
      if s2.isKraow p && p.val < 64 then
        (((s2.onKrw (p - 32) fun k => { k with aligned := false }).krwOof (p - 32)).defectAtOnce (p - 32)).defectSync (p - 32)
      else s2
    else s) := by
  cases kind <;> rfl

theorem answers_lockLoss_lock (lane : Fin 8) (kind : LockKind) (h : s.phase p = 3) : Answers (.lockLoss p lane kind) s fun u => u.bst p = 3
    ∧ (∀ j, (s.lanesOf p)[lane.val]? = some j → kind = .bit → u.get LNS_LANE.BIT_LOCK j = 0 ∧ u.get LNS_LANE.BLOCK_LOCK j = 0)
    ∧ (∀ j, (s.lanesOf p)[lane.val]? = some j → kind = .block → u.get LNS_LANE.BLOCK_LOCK j = 0) := by
  have hexec : exec (.lockLoss p lane kind) s = finish (s.lanesLost p lane kind) :=
    (exec_lockLoss lane kind).trans (congrArg finish (if_pos (by simp [h])))
  have hget {j : Nat} (hj : (s.lanesOf p)[lane.val]? = some j) (f : Field) (hf : (f.reg.early && f.fits) = true) :=
    flushEvents_get_early (s.lanesLost p lane kind) f j hf (lanesOf_lt s (List.mem_of_getElem? hj))
  refine answers_of_exec hexec ⟨?_, fun j hj hk => ⟨?_, ?_⟩, fun j hj hk => ?_⟩
  · exact (((LineKept.lanesLost lane kind).trans (.flushEvents _)).bst p.isLt).trans (bst_of_phase h (by decide))
  · rw [hget hj _ (by decide)]
    exact (lanesLost_locks kind hj).1 hk
  · rw [hget hj _ (by decide)]
    exact (lanesLost_locks kind hj).2 (by simp [hk])
  · rw [hget hj _ (by decide)]
    exact (lanesLost_locks kind hj).2 (by simp [hk])

/-- In HUDDLE, and in ACTIVE outside Kraow mode, the loss is noted. -/
theorem answers_lockLoss_noted (lane : Fin 8) (kind : LockKind) {b : Nat} (h : s.phase p = b)
    (hb : b = 4 ∨ b = 5 ∧ s.isKraow p = false) :
    Answers (.lockLoss p lane kind) s fun u => u.bst p = b ∧ (u.portSt p).lockLost = true := by
  have hlost := LineKept.lanesLost (s := s) (p := p) lane kind
  have hexec : exec (.lockLoss p lane kind) s = finish ((s.lanesLost p lane kind).onPort p fun x => { x with lockLost := true }) := by
    rw [exec_lockLoss]
    rcases hb with rfl | ⟨rfl, hk⟩
    · exact congrArg finish ((if_neg (by simp [h])).trans (if_pos (by simp [h])))
    · have hkraow : ((s.lanesLost p lane kind).onPort p fun x => { x with lockLost := true }).isKraow p = false := by
        rw [← hk]
        exact isKraow_of_within (.lanesLost lane kind) (by decide) (by omega)
      exact congrArg finish ((if_neg (by simp [h])).trans ((if_neg (by simp [h])).trans ((if_pos (by simp [h])).trans
        (if_neg (by rw [hkraow]; simp)))))
  refine answers_of_exec hexec ⟨?_, ?_⟩
  · exact ((LineKept.bst (.flushEvents (State.onPort ..)) p.isLt).trans (hlost.bst p.isLt)).trans (bst_of_phase h (by omega))
  · rw [flushEvents_portSt, onPort_portSt_same]

end

end Sys2Proof.Machine

namespace Sys2Proof

open Machine

/-- Settles O35: in each BSTATE a command ends in what going up, falling back or losing a lock leaves of the port, and elsewhere in the
state itself. -/
theorem bringUpFollowsItsStates : Obligations.BringUpFollowsItsStates := by
  unfold Obligations.BringUpFollowsItsStates
  intro p s falls
  refine ⟨fun sig => rfl, fun h hsig => ?_, fun h => ?_, fun h => ⟨?_, ?_⟩, fun h => ⟨?_, ?_⟩, fun h hloop => ⟨?_, ?_, ?_⟩,
    fun h => ⟨?_, fun h4 h5 => ?_⟩, ?_, ?_, fun lane kind => ⟨fun h3 h4 h5 => ?_, ?_, ?_, fun h hk => ?_⟩, fun h => ?_, fun h hlost hro hq => ?_,
    fun h hlost hk => ?_⟩
  · exact ends_of_exec rfl (if_pos (by simp [h, hsig]))
  · exact ends_of_exec rfl (if_neg (by rcases h with h | h <;> simp [h]))
  · exact ends_of_exec rfl (if_pos (by simp [h]))
  · exact answers_fallBack (congrArg finish (if_pos (by simp [h]))) (fellBack_below p.isLt (by decide) (.inl (by simp [bst_of_phase h])))
  · exact ends_of_exec rfl (if_neg (by simp [h]))
  · exact ends_of_exec rfl (if_neg (by simp [h]))
  · exact answers_fallBack (congrArg finish (if_pos (by simp [h, hloop]))) (fellBack_below p.isLt (by decide) (.inl (by simp [bst_of_phase h])))
  · exact answers_lockAchieved_huddle h hloop
  · exact answers_lockAchieved_active h hloop
  · exact ends_of_exec rfl (if_neg (by simp [h]))
  · exact ends_of_exec rfl ((if_neg (by simp [h5])).trans ((if_neg (by simp [h])).trans (if_neg (by simp [h4]))))
  · exact answers_lockAchieved_again (.inl rfl)
  · exact answers_lockAchieved_again (.inr rfl)
  · exact ends_of_exec (exec_lockLoss lane kind) ((if_neg (by simp [h3])).trans ((if_neg (by simp [h4])).trans (if_neg (by simp [h5]))))
  · exact fun h => answers_lockLoss_noted lane kind h (.inl rfl)
  · exact answers_lockLoss_lock lane kind
  · exact answers_lockLoss_noted lane kind h (.inr ⟨rfl, hk⟩)
  · exact ends_of_exec rfl (if_neg (by simp [h]))
  · exact answers_fallBack (congrArg finish ((if_pos (by simp [h])).trans (if_pos hlost))) (fellBack_active p.isLt (by decide) hq hro)
  · refine ends_of_exec rfl ((if_pos (by simp [h])).trans ((if_neg (by simp [hlost])).trans (if_neg ?_)))
    rcases hk with hk | hk
    · simp [hk]
    · simp; omega

end Sys2Proof
end

section
/-!
PROOFS. The huddle (R288 to R290, R302): a message sent, a message received, and the end of HUDDLE.
-/

namespace Sys2Proof.Machine

/-! ### Registers that the phase of a port is read from -/

/-- The registers of a port's STATE and BSTATE, and of the device's role. -/
def phaseRegs : List Reg := statusRegs ++ [.CPX_PORT_CTRL, .LPX_PORT_CTRL, .MTL_PAIR_CFG, .MTL_PAIR_STATUS]

section

variable {rs : List Reg} {s t : State} {p : Nat}

theorem bst_of_within (h : Within rs s t) (hrs : ∀ r ∈ phaseRegs, r ∉ rs) (hp : p < 66) : t.bst p = s.bst p := by
  simp only [bst_eq_portGet, State.portGet, bstField]
  rw [h.get CPX_PORT_STATUS.BSTATE p (hrs _ (by decide)) (by decide) (by omega),
    h.get LPX_PORT_STATUS.BSTATE (p - 32) (hrs _ (by decide)) (by decide) (by omega),
    h.get MTL_LANE_STATUS.BSTATE (p - 64) (hrs _ (by decide)) (by decide) (by omega)]

theorem phase_of_within (h : Within rs s t) (hrs : ∀ r ∈ phaseRegs, r ∉ rs) (hp : p < 66) : t.phase p = s.phase p := by
  have hruns : t.portRuns p = s.portRuns p := by
    simp only [State.portRuns, State.portState, State.portCtl]
    rw [h.get CPX_PORT_CTRL.STATE p (hrs _ (by decide)) (by decide) (by omega),
      h.get LPX_PORT_CTRL.STATE (p - 32) (hrs _ (by decide)) (by decide) (by omega),
      h.get MTL_PAIR_CFG.STATE 0 (hrs _ (by decide)) (by decide) (by omega)]
  rw [State.phase, hruns, bst_of_within h hrs hp, State.phase]

theorem transmits_of_within (h : Within rs s t) (hrs : ∀ r ∈ phaseRegs, r ∉ rs) : t.transmits p = s.transmits p := by
  simp only [State.transmits, State.isLibero]
  rw [h.get MTL_PAIR_STATUS.ROLE 0 (hrs _ (by decide)) (by decide) (by omega)]

end

theorem setCause_bst (s : State) {p : Nat} (hp : p < 66) (v : Nat) : (s.setCause p v).bst p = s.bst p := by
  rw [bst_eq_portGet, bst_eq_portGet]
  unfold State.setCause State.setPort State.portGet
  split
  · exact get_set_disjoint s (by decide) (by omega) (by omega)
  · split <;> exact get_set_disjoint s (by decide) (by omega) (by omega)

/-! ### A message sent (R288) -/

/-- One more message sent, which counts where it carries ACK. -/
def PortSt.sends (ack : Bool) (x : PortSt) : PortSt := { x with hudSeq := x.hudSeq + 1, hudAcks := x.hudAcks + natOfBool ack }

/-- The Ethernet frame of a port's huddle message. -/
def State.hudFrame (s : State) (p : Nat) (ack : Bool) : List Byte :=
  let da := if p < 64 then s.get LNS_HUD_CFG.HUD_DA (portRegion p) else 0x0180C2000003
  beBytes 6 da ++ beBytes 6 (Config.portMac p).toNat ++ [0x88#8, 0xB6#8] ++ s.hudContent p ack

section

variable (s : State) (p : Nat) (ack : Bool)

theorem hudFrame_drop : (s.hudFrame p ack).drop 14 = s.hudContent p ack :=
  List.drop_left' (by simp)

theorem hudSend_eq : s.hudSend p ack = (s.sendFrame p (s.hudFrame p ack) false).onPort p (PortSt.sends ack) := rfl

theorem Within.sendFrame (frame : List Byte) (stomp : Bool) : Within pmcRegs s (s.sendFrame p frame stomp) :=
  (Within.of_parts pmcRegs rfl rfl : Within pmcRegs s (s.send p (frame ++ fcsBytes frame stomp))).trans
    (.when _ (.pmcEvent _ _ _ _ _ (by unfold portRegion; omega)))

theorem sendFrame_ports (frame : List Byte) (stomp : Bool) : (s.sendFrame p frame stomp).ports = s.ports :=
  when_keeps State.ports _ _ _ (part_of_noRegs State.ports (fun _ => rfl) (pmcEvent_noRegs ..))

theorem Within.hudSend : Within pmcRegs s (s.hudSend p ack) :=
  (Within.sendFrame s p (s.hudFrame p ack) false).trans (.of_parts _ rfl rfl)

theorem hudSend_portSt : (s.hudSend p ack).portSt p = (s.portSt p).sends ack := by
  rw [hudSend_eq, onPort_portSt_same, portSt_of_ports _ _ (sendFrame_ports s p _ false)]

theorem hudSend_sent : (s.hudSend p ack).path.sent.get p []
    = s.path.sent.get p [] ++ [s.hudFrame p ack ++ fcsBytes (s.hudFrame p ack) false] := by
  rw [hudSend_eq]
  exact sendFrame_sent s p _ false

end

/-! ### The end of HUDDLE (R290) -/

section

variable {s : State} {p : Nat}

theorem hudExit_agreed (h : s.phase p = 4) (htx : s.transmits p = true)
    (hagreed : 3 ≤ (s.portSt p).hudAcks ∧ (s.portSt p).hudAcked = true ∧ (s.portSt p).hudDiffers = false) :
    s.hudExit p = s.enterActive p := by
  obtain ⟨hacks, hacked, hsame⟩ := hagreed
  exact if_pos (by simp [h, htx, hacks, hacked, hsame])

theorem hudExit_waits (hagreed : ¬ (3 ≤ (s.portSt p).hudAcks ∧ (s.portSt p).hudAcked = true ∧ (s.portSt p).hudDiffers = false)) :
    s.hudExit p = s := by
  refine if_neg fun h => hagreed ?_
  simp only [Bool.and_eq_true, decide_eq_true_eq, Bool.not_eq_true'] at h
  obtain ⟨⟨⟨-, hacks⟩, hacked⟩, hsame⟩ := h
  exact ⟨hacks, hacked, hsame⟩

/-- The port is in ACTIVE where both sides agree and in HUDDLE otherwise; what it knows of the huddle and has sent stays. -/
theorem hudExit_shows (hp : p < 66) (h : s.phase p = 4) (htx : s.transmits p = true) :
    (s.hudExit p).bst p
        = (if 3 ≤ (s.portSt p).hudAcks ∧ (s.portSt p).hudAcked = true ∧ (s.portSt p).hudDiffers = false then 5 else 4)
      ∧ ((s.hudExit p).portSt p).reached = (s.portSt p).reached ∧ (s.hudExit p).path = s.path := by
  split
  · next hagreed =>
    rw [hudExit_agreed h htx hagreed]
    refine ⟨enterActive_bst s hp, by rw [enterActive_portSt s hp]; rfl, ?_⟩
    rw [(enterActive_kept s hp).path, entered_path]
  · next hagreed =>
    rw [hudExit_waits hagreed]
    exact ⟨bst_of_phase h (by decide), rfl, rfl⟩

end

/-! ### A message received (R289) -/

/-- A message is kept as the last one of the peer; one that matches counts unless one has differed. -/
def PortSt.hears (m : List Byte) (x : PortSt) : PortSt := { x with hudPeer := some m }
def PortSt.matched (ack : Bool) (x : PortSt) : PortSt := { x with hudMatch := !x.hudDiffers, hudAcked := x.hudAcked || ack }
def PortSt.differs (x : PortSt) : PortSt := { x with hudMatch := false, hudDiffers := true }

/-- A valid message is as the port's own: in MODE, RATE and FEC, and for a mate lane in PAIR_ID. -/
def State.hudFits (s : State) (p : Nat) (m : List Byte) : Bool :=
  if 64 ≤ p then beAt m 8 8 == s.pairId else (octet m 2, octet m 3, octet m 4) == s.hudOwn p

section

variable {s : State} {p : Nat} {content : List Byte}

theorem hudRx_invalid (h : hudValid (content.take 64) = false) : s.hudRx p content = s := if_pos (by simp [h])

theorem hudRx_down (h : s.phase p < 4) : s.hudRx p content = s := by
  unfold State.hudRx
  dsimp only
  split
  · rfl
  · split
    · omega
    · omega
    · rfl

theorem hudRx_huddle (hvalid : hudValid (content.take 64) = true) (h : s.phase p = 4) : s.hudRx p content =
    let s1 := s.onPort p (PortSt.hears (content.take 64))
    if !s.hudFits p (content.take 64) then
      if 64 ≤ p then s1.fallBack p 4 else (s1.setCause p 4).onPort p PortSt.differs
    else
      let ack := octet (content.take 64) 1 / 128 == 1
      let s2 := s1.onPort p (PortSt.matched ack)
      if s2.transmits p then s2.hudExit p
      else if ack && beAt (content.take 64) 16 8 == s.pairId then s2.enterActive p else s2 := by
  unfold State.hudRx
  simp only [hvalid, h]
  rfl

theorem hudRx_active (hvalid : hudValid (content.take 64) = true) (h : s.phase p = 5) (hp : 32 ≤ p ∧ p < 64) (hk : s.isKraow p = false)
    (hen : s.flag LPX_PORT_CTRL.HUD_EN (p - 32) = true) (hfits : s.hudFits p (content.take 64) = true) : s.hudRx p content =
    let s1 := s.onPort p (PortSt.hears (content.take 64))
    if !(octet (content.take 64) 1 / 128 == 1) && s.macSends p then s1.hudSend p true else s1 := by
  unfold State.hudFits at hfits
  unfold State.hudRx
  simp only [hvalid, h, hp, hk, hen, hfits]
  rfl

end

section

variable {s : State} {p : Fin 66} {content : List Byte}

theorem answers_huddleMsgTx (h : s.phase p = 4) (htx : s.transmits p = true) : Answers (.huddleMsgTx p) s fun u =>
    (∃ f, u.path.sent.get p [] = s.path.sent.get p [] ++ [f ++ fcsBytes f false] ∧ f.drop 14 = s.hudContent p (s.portSt p).hudMatch)
    ∧ (u.portSt p).reached = ((s.portSt p).sends (s.portSt p).hudMatch).reached
    ∧ u.bst p = (if 3 ≤ (s.portSt p).hudAcks + (if (s.portSt p).hudMatch then 1 else 0) ∧ (s.portSt p).hudAcked = true
        ∧ (s.portSt p).hudDiffers = false then 5 else 4) := by
  let t := s.hudSend p (s.portSt p).hudMatch
  have hexec : exec (.huddleMsgTx p) s = finish (t.hudExit p) := congrArg finish (if_pos (by simp [h, htx]))
  have hsent := Within.hudSend s p (s.portSt p).hudMatch
  have hport : t.portSt p = (s.portSt p).sends (s.portSt p).hudMatch := hudSend_portSt s p _
  obtain ⟨hbst, hst, hpath⟩ := hudExit_shows (s := t) p.isLt ((phase_of_within hsent (by decide) p.isLt).trans h)
    ((transmits_of_within hsent (by decide)).trans htx)
  refine answers_of_exec hexec ⟨⟨s.hudFrame p _, ?_, hudFrame_drop s p _⟩, ?_, ?_⟩
  · rw [flushEvents_path, hpath]
    exact hudSend_sent s p _
  · rw [flushEvents_portSt, hst, hport]
  · rw [(LineKept.flushEvents _).bst p.isLt, hbst, hport]
    rfl

/-- A message on a line port in HUDDLE that transmits, and that matches. -/
theorem answers_huddleMsgRx_match (hvalid : hudValid (content.take 64) = true) (h : s.phase p = 4) (htx : s.transmits p = true)
    (hfits : s.hudFits p (content.take 64) = true) : Answers (.huddleMsgRx p content) s fun u =>
    let x := ((s.portSt p).hears (content.take 64)).matched (octet (content.take 64) 1 / 128 == 1)
    (u.portSt p).reached = x.reached ∧ u.bst p = (if 3 ≤ x.hudAcks ∧ x.hudAcked = true ∧ x.hudDiffers = false then 5 else 4) := by
  let t := (s.onPort p (PortSt.hears (content.take 64))).onPort p (PortSt.matched (octet (content.take 64) 1 / 128 == 1))
  have hexec : exec (.huddleMsgRx p content) s = finish (t.hudExit p) :=
    congrArg finish ((hudRx_huddle hvalid h).trans ((if_neg (by simp [hfits])).trans (if_pos htx)))
  have hport : t.portSt p = ((s.portSt p).hears (content.take 64)).matched (octet (content.take 64) 1 / 128 == 1) := by
    rw [onPort_portSt_same, onPort_portSt_same]
  obtain ⟨hbst, hst, -⟩ := hudExit_shows (s := t) p.isLt h htx
  refine answers_of_exec hexec ⟨?_, ?_⟩
  · rw [flushEvents_portSt, hst, hport]
  · rw [(LineKept.flushEvents _).bst p.isLt, hbst, hport]

/-- One that differs. -/
theorem answers_huddleMsgRx_differs (hvalid : hudValid (content.take 64) = true) (h : s.phase p = 4) (hp : p.val < 64)
    (hfits : s.hudFits p (content.take 64) = false) : Answers (.huddleMsgRx p content) s fun u =>
    u.portSt p = ((s.portSt p).hears (content.take 64)).differs ∧ u.bst p = 4 ∧ u.cause p = 4 := by
  let t := s.onPort p (PortSt.hears (content.take 64))
  have hexec : exec (.huddleMsgRx p content) s = finish ((t.setCause p 4).onPort p PortSt.differs) :=
    congrArg finish ((hudRx_huddle hvalid h).trans ((if_pos (by simp [hfits])).trans (if_neg (by omega))))
  have hend := LineKept.flushEvents ((t.setCause p 4).onPort p PortSt.differs)
  refine answers_of_exec hexec ⟨?_, ?_, ?_⟩
  · rw [flushEvents_portSt, onPort_portSt_same, portSt_of_noRegs (setCause_noRegs t 4), onPort_portSt_same]
  · exact (hend.bst p.isLt).trans ((setCause_bst t p.isLt 4).trans (bst_of_phase h (by decide)))
  · exact (hend.cause p.isLt).trans (setCause_cause t (by decide))

/-- One that matches in ACTIVE is kept, and answered where it does not carry ACK. -/
theorem answers_huddleMsgRx_active (hvalid : hudValid (content.take 64) = true) (h : s.phase p = 5) (hp : 32 ≤ p.val ∧ p.val < 64)
    (hk : s.isKraow p = false) (hen : s.flag LPX_PORT_CTRL.HUD_EN (p - 32) = true) (hfits : s.hudFits p (content.take 64) = true) :
    Answers (.huddleMsgRx p content) s fun u => (u.portSt p).hudPeer = some (content.take 64) ∧ u.bst p = 5 := by
  let t := s.onPort p (PortSt.hears (content.take 64))
  have hexec : exec (.huddleMsgRx p content) s = finish (s.hudRx p content) := rfl
  have hpeer : (t.portSt p).hudPeer = some (content.take 64) := by rw [onPort_portSt_same]; rfl
  have hbst : t.bst p = 5 := bst_of_phase h (by decide)
  rw [hudRx_active hvalid h hp hk hen hfits] at hexec
  refine answers_of_exec hexec ?_
  rw [flushEvents_portSt, (LineKept.flushEvents _).bst p.isLt]
  dsimp only
  split
  · rw [hudSend_portSt, bst_of_within (.hudSend t p true) (by decide) p.isLt]
    exact ⟨hpeer, hbst⟩
  · exact ⟨hpeer, hbst⟩

/-- R302: one of another pair takes a mate lane back. -/
theorem answers_huddleMsgRx_mate (hvalid : hudValid (content.take 64) = true) (h : s.phase p = 4) (hp : 64 ≤ p.val)
    (hfits : s.hudFits p (content.take 64) = false) :
    Answers (.huddleMsgRx p content) s fun u => u.bst p = 1 ∧ u.cause p = 4 := by
  have hexec : exec (.huddleMsgRx p content) s = finish ((s.onPort p (PortSt.hears (content.take 64))).fallBack p 4) :=
    congrArg finish ((hudRx_huddle hvalid h).trans ((if_pos (by simp [hfits])).trans (if_pos hp)))
  have hfell := (fellBack_below p.isLt (by decide) (.inr hp) : FellBack (s.onPort p (PortSt.hears (content.take 64))) _ p 4).kept p.isLt
    (.flushEvents _)
  have hloop : (s.onPort p (PortSt.hears (content.take 64))).nearLoop p = false := by
    simp only [State.nearLoop, State.loopMode, if_neg (show ¬ p.val < 64 by omega)]
    decide
  exact answers_of_exec hexec ⟨hfell.bst.trans (by rw [hloop]; rfl), hfell.cause⟩

end

end Sys2Proof.Machine

namespace Sys2Proof

open Machine

/-- Settles O36: a message sent or received goes through what its port shows at the end of HUDDLE, and a timeout falls back. -/
theorem huddleEndsWhenBothSidesAgree : Obligations.HuddleEndsWhenBothSidesAgree := by
  unfold Obligations.HuddleEndsWhenBothSidesAgree
  intro p s x
  have hfits (content : List Byte) (hp : p.val < 64) :
      s.hudFits p content = ((octet content 2, octet content 3, octet content 4) == s.hudOwn p) := if_neg (by omega)
  refine ⟨fun h => ?_, fun h htx => ?_, fun content => ?received, fun h => ?_, fun h => ?_⟩
  case received =>
    intro m
    refine ⟨fun h => ?_, fun hv h hlo hhi htx => ?_, fun hv h hlo hhi hk hen hm => ?_, fun hv h hp hm => ?_⟩
    · refine ends_of_exec rfl ?_
      rcases h with h | h
      · exact hudRx_invalid h
      · exact hudRx_down h
    · refine ⟨fun hm => ?_, fun hm => ?_⟩
      · obtain ⟨u, hexec, hst, hbst⟩ := answers_huddleMsgRx_match hv h htx (by rw [hfits m hhi, hm, beq_self_eq_true])
        exact ⟨u, hexec, congrArg PortSt.hudPeer hst, congrArg PortSt.hudMatch hst, congrArg PortSt.hudAcked hst, hbst⟩
      · obtain ⟨u, hexec, hst, hbst, hcause⟩ := answers_huddleMsgRx_differs hv h hhi (by rw [hfits m hhi]; exact beq_false_of_ne hm)
        rw [State.cause, State.portGet, if_neg (by omega), if_pos hhi] at hcause
        exact ⟨u, hexec, congrArg PortSt.hudPeer hst, congrArg PortSt.hudMatch hst, congrArg PortSt.hudDiffers hst, hbst, hcause⟩
    · exact answers_huddleMsgRx_active hv h ⟨hlo, hhi⟩ hk hen (by rw [hfits m hhi, hm, beq_self_eq_true])
    · obtain ⟨u, hexec, hbst, hcause⟩ := answers_huddleMsgRx_mate hv h hp ((if_pos hp).trans (beq_false_of_ne hm))
      rw [State.cause, State.portGet, if_neg (by omega), if_neg (by omega)] at hcause
      exact ⟨u, hexec, hbst, hcause⟩
  · exact ends_of_exec rfl (if_neg (by rcases h with h | h <;> simp [h]))
  · obtain ⟨u, hexec, hframe, hst, hbst⟩ := answers_huddleMsgTx h htx
    exact ⟨u, hexec, hframe, congrArg PortSt.hudSeq hst, congrArg PortSt.hudAcks hst, hbst⟩
  · exact ends_of_exec rfl (if_neg (by simp [h]))
  · obtain ⟨u, hexec, hbst, hcause, -⟩ := answers_fallBack (s := s) (p := p) (c := .huddleTimeout p) (cause := if x.hudDiffers then 4 else 3)
      (congrArg finish (if_pos (by simp [h]))) (fellBack_below p.isLt (by split <;> decide) (.inl (by simp [bst_of_phase h])))
    exact ⟨u, hexec, hbst, hcause⟩

end Sys2Proof
end

section
/-!
PROOFS. Ethernet support (R296 to R298): link faults, pauses received and sent, and the end of a pre-emption verification.
-/

namespace Sys2Proof.Machine

/-! ### A mask of classes -/

/-- The mask of the classes below `n` for which `b` holds. -/
def classMask (b : Nat → Bool) (n : Nat) : Nat := (List.range n).foldl (fun m c => m + natOfBool (b c) * 2 ^ c) 0

theorem classMask_succ (b : Nat → Bool) (n : Nat) : classMask b (n + 1) = 2 ^ n * natOfBool (b n) + classMask b n := by
  simp only [classMask, List.range_succ, List.foldl_append, List.foldl_cons, List.foldl_nil]
  rw [Nat.add_comm, Nat.mul_comm]

theorem classMask_lt (b : Nat → Bool) (n : Nat) : classMask b n < 2 ^ n := by
  induction n with
  | zero => exact Nat.one_pos
  | succ n ih =>
    have hbit : 2 ^ n * natOfBool (b n) ≤ 2 ^ n := by cases b n <;> simp [natOfBool]
    rw [classMask_succ, Nat.pow_succ]
    omega

theorem classMask_testBit (b : Nat → Bool) {n c : Nat} (hc : c < n) : (classMask b n).testBit c = b c := by
  induction n with
  | zero => omega
  | succ n ih =>
    rw [classMask_succ, Nat.testBit_two_pow_mul_add _ (classMask_lt b n)]
    split
    · next hlt => exact ih hlt
    · next hge =>
      obtain rfl : c = n := by omega
      cases b c <;> simp [natOfBool]

/-! ### Pauses received (R297) -/

/-- What a port holds after a PFC frame: it decides for the classes that its vector and the port enable. -/
def PortSt.pfc (enable rx nonzero : Nat) (x : PortSt) : PortSt :=
  { x with paused := classMask (fun c => if ((enable &&& rx) % 256).testBit c then nonzero.testBit c else x.paused.testBit c) 8 }

theorem pfc_testBit (enable rx nonzero : Nat) (x : PortSt) {c : Nat} (hc : c < 8) : (x.pfc enable rx nonzero).paused.testBit c =
    if enable.testBit c && rx.testBit c then nonzero.testBit c else x.paused.testBit c := by
  have hact : ((enable &&& rx) % 256).testBit c = (enable.testBit c && rx.testBit c) := by
    rw [show 256 = 2 ^ 8 from rfl, Nat.testBit_mod_two_pow, Nat.testBit_and, decide_eq_true hc, Bool.true_and]
  rw [PortSt.pfc, classMask_testBit _ hc, ← hact]

/-- PFC_RX of a port. -/
def State.pfcRxMask (s : State) (p : Nat) : Nat := s.portCtl CPX_PORT_CTRL.PFC_RX LPX_PORT_CTRL.PFC_RX p

theorem pfcRx_eq (s : State) (p enable nonzero : Nat) : s.pfcRx p enable nonzero =
    (s.portInc CPX_PORT_STATUS.CTL_DROP LPX_PORT_STATUS.CTL_DROP p).onPort p (PortSt.pfc enable (s.pfcRxMask p) nonzero) := rfl

theorem portInc_noRegs (s : State) (c l : Field) (p : Nat) : (s.portInc c l p).noRegs = s.noRegs := by
  unfold State.portInc
  split <;> rfl

section

variable {s : State} {p : Fin 64}

/-- A PFC frame at an Ethernet port that is up. -/
theorem answers_pfcFrameRx (hup : s.portUp p = true) (hk : s.isKraow p = false) (e n : BitVec 8) (hs : Settled s) :
    Answers (.pfcFrameRx p e n) s fun u =>
      u.portSt p = (s.portSt p).pfc e.toNat (s.pfcRxMask p) n.toNat ∧ (∀ q, q ≠ p.val → u.portSt q = s.portSt q)
      ∧ { u with regs := s.regs, ports := s.ports } = s
      ∧ (p.val < 32 → u.get CPX_PORT_STATUS.CTL_DROP p = satAdd CPX_PORT_STATUS.CTL_DROP.width (s.get CPX_PORT_STATUS.CTL_DROP p) 1)
      ∧ (32 ≤ p.val → u.get LPX_PORT_STATUS.CTL_DROP (p - 32)
          = satAdd LPX_PORT_STATUS.CTL_DROP.width (s.get LPX_PORT_STATUS.CTL_DROP (p - 32)) 1) := by
  let t := s.portInc CPX_PORT_STATUS.CTL_DROP LPX_PORT_STATUS.CTL_DROP p
  have hparts : t.noRegs = s.noRegs := portInc_noRegs s _ _ p
  have hexec : exec (.pfcFrameRx p e n) s = finish (t.onPort p (PortSt.pfc e.toNat (s.pfcRxMask p) n.toNat)) :=
    congrArg finish ((if_pos (by simp [hup, hk])).trans (pfcRx_eq s p e.toNat n.toNat))
  refine answers_of_exec_quiet hexec ?_ ⟨?_, fun q hq => ?_, ?_, fun hp => ?_, fun hp => ?_⟩
  · exact (part_of_noRegs (·.evt.raised) (fun _ => rfl) hparts).trans hs
  · rw [onPort_portSt_same, portSt_of_noRegs hparts]
  · rw [onPort_portSt_ne _ _ _ hq, portSt_of_noRegs hparts]
  · exact part_of_noRegs (fun u : State => { u with regs := s.regs, ports := s.ports }) (fun _ => rfl) hparts
  · exact (congrArg (State.get · CPX_PORT_STATUS.CTL_DROP p) (if_pos hp)).trans (inc_get s _ _ (by decide))
  · exact (congrArg (State.get · LPX_PORT_STATUS.CTL_DROP (p - 32)) (if_neg (by omega))).trans (inc_get s _ _ (by decide))

/-! ### Link faults (Table 8-6) -/

theorem exec_linkFaultRx (hup : s.portUp p = true) (hk : s.isKraow p = false) (on : Bool) : exec (.linkFaultRx p on) s =
    finish ((s.setLfRf p on).when (32 ≤ p.val) fun s => s.letPortChange (p - 32)) :=
  congrArg finish (if_neg (by simp [hup, hk]))

/-- On a client port it shows, and nothing more. -/
theorem ends_linkFaultRx_client (hup : s.portUp p = true) (hk : s.isKraow p = false) (on : Bool) (hp : p.val < 32) :
    Ends (.linkFaultRx p on) s (s.set CPX_PORT_STATUS.LF_RF p (natOfBool on)) := by
  refine ends_of_exec (exec_linkFaultRx hup hk on) ?_
  rw [decide_eq_false (by omega), State.setLfRf, if_pos hp]
  rfl

/-- On a line port it shows, and the streams of the port are judged again. -/
theorem answers_linkFaultRx_line (hup : s.portUp p = true) (hk : s.isKraow p = false) (on : Bool) (hp : 32 ≤ p.val) :
    Answers (.linkFaultRx p on) s fun u => u.get LPX_PORT_STATUS.LF_RF (p - 32) = natOfBool on := by
  refine answers_of_exec (exec_linkFaultRx hup hk on) ?_
  have hshown : (s.setLfRf p on).get LPX_PORT_STATUS.LF_RF (p - 32) = natOfBool on := by
    rw [State.setLfRf, if_neg (by omega), if_pos p.isLt]
    exact get_set_eq s (by decide) (natOfBool_lt on)
  rw [flushEvents_get_early _ _ _ (by decide) (by omega), decide_eq_true hp]
  have hstreams := (FramersWithin.letPortChange (s.setLfRf p on) (p - 32)).get LPX_PORT_STATUS.LF_RF (p - 32) (by decide) (by decide) (by omega)
  exact hstreams.trans hshown

end

/-! ### A pause that ends (R297) -/

/-- A class is no longer paused. -/
def PortSt.resume (c : Nat) (x : PortSt) : PortSt := { x with paused := if x.paused.testBit c then x.paused - 2 ^ c else x.paused }

theorem resume_testBit (c : Nat) (x : PortSt) (d : Nat) : (x.resume c).paused.testBit d = (x.paused.testBit d && decide (d ≠ c)) := by
  unfold PortSt.resume
  dsimp only
  split
  · next h => exact testBit_sub_two_pow h d
  · next h =>
    by_cases hd : d = c
    · simp [hd, h]
    · simp [hd]

end Sys2Proof.Machine

namespace Sys2Proof

open Machine

/-- Settles O37: each command changes the one field, or the one port's pauses, that the frame or the timer is about. -/
theorem ethernetSupportActsOnItsPort : Obligations.EthernetSupportActsOnItsPort := by
  unfold Obligations.EthernetSupportActsOnItsPort
  intro p s
  refine ⟨fun h => ⟨fun on => ?_, fun e n => ?_⟩, fun hup hk => ⟨fun on => ⟨?_, ?_⟩, fun e n hs => ?_⟩, ?refresh, fun c hs => ?_,
    fun k => ⟨fun h ok => ?_, fun h => ⟨?_, ?_⟩⟩⟩
  case refresh =>
    intro mask
    refine ⟨fun h => ends_of_exec rfl (if_neg ?_), fun hmask hsends hk => ends_of_exec rfl (if_pos ?_)⟩
    · rcases h with h | h | h
      · simp [show s.pausedMask p = 0 from h]
      · simp [h]
      · simp [h]
    · simp [show s.pausedMask p ≠ 0 from hmask, hsends, hk]
  · exact ends_of_exec rfl (if_pos (by rcases h with h | h <;> simp [h]))
  · exact ends_of_exec rfl (if_neg (by rcases h with h | h <;> simp [h]))
  · exact ends_linkFaultRx_client hup hk on
  · exact answers_linkFaultRx_line hup hk on
  · obtain ⟨u, hexec, hport, hother, hparts, hclient, hline⟩ := answers_pfcFrameRx hup hk e n hs
    refine ⟨u, hexec, fun c => ?_, hother, hparts, ?_⟩
    · rw [hport, pfc_testBit _ _ _ _ c.isLt]
      rfl
    · split
      · next hp => exact hclient hp
      · next hp => exact hline (by omega)
  · refine answers_of_exec_quiet (x := s.onPort p (PortSt.resume c)) rfl hs ⟨?_, fun d hd => ?_, rfl⟩
    · rw [onPort_portSt_same, resume_testBit]
      simp
    · rw [onPort_portSt_same, resume_testBit]
      simp [hd]
  · exact ends_of_exec rfl (if_neg (by simp [h]))
  · exact ends_of_exec rfl (if_pos (by simp [h]))
  · exact ends_of_exec rfl (if_pos (by simp [h]))

end Sys2Proof
end

section
/-!
PROOFS. Lanes and port complexes (R275 to R277, R300, R301, R380): test patterns, the restore of a lane, the fence of a complex and its mode.
-/

namespace Sys2Proof.Machine

/-! ### Test patterns (R300) -/

/-- A generator or a checker starts. -/
def prbsStarts (gen chk : Nat) : Bool := (gen != 0 && gen < 3) || (chk != 0 && chk < 3)

theorem prbsStarts_iff (gen chk : BitVec 2) : prbsStarts gen.toNat chk.toNat = true ↔ (gen ≠ 0 ∧ gen ≠ 3) ∨ (chk ≠ 0 ∧ chk ≠ 3) := by
  decide +revert

/-- PRBS_GEN and PRBS_CHK of a lane written: a reserved value is not taken, and a checker's new pattern loses its lock. -/
def State.prbsGen (lane gen : Nat) (s : State) : State := if gen < 3 then s.set LNS_LANE.PRBS_GEN lane gen else s
def State.prbsChk (lane chk : Nat) (s : State) : State :=
  if chk < 3 && chk != s.get LNS_LANE.PRBS_CHK lane then (s.set LNS_LANE.PRBS_CHK lane chk).set LNS_LANE.PRBS_LOCK lane 0 else s

theorem prbsWrite_refused {s : State} {lane gen chk : Nat} (hstarts : prbsStarts gen chk = true) (hon : s.portState (s.lanePort lane) ≠ 0) :
    s.prbsWrite lane gen chk = s := if_pos (by rw [← prbsStarts, hstarts]; simpa using hon)

theorem prbsWrite_taken {s : State} {lane gen chk : Nat} (h : prbsStarts gen chk = false ∨ s.portState (s.lanePort lane) = 0) :
    s.prbsWrite lane gen chk = ((s.prbsGen lane gen).prbsChk lane chk).when (prbsStarts gen chk) fun s => s.domWake (laneDomains lane) :=
  if_neg (by rw [← prbsStarts]; rcases h with h | h <;> simp [h])

section

variable (s : State) {lane : Nat} (hlane : lane < 64)

include hlane

theorem prbsGen_get (gen : BitVec 2) :
    (s.prbsGen lane gen.toNat).get LNS_LANE.PRBS_GEN lane = (if gen = 3 then s.get LNS_LANE.PRBS_GEN lane else gen.toNat)
      ∧ (s.prbsGen lane gen.toNat).get LNS_LANE.PRBS_CHK lane = s.get LNS_LANE.PRBS_CHK lane := by
  have hthree : gen.toNat < 3 ↔ gen ≠ 3 := by decide +revert
  unfold State.prbsGen
  split
  · next h =>
    rw [if_neg (hthree.mp h)]
    exact ⟨get_set_eq s (by decide) gen.isLt, get_set_disjoint s (by decide) (by omega) (by omega)⟩
  · next h =>
    rw [if_pos (by simpa [hthree] using h)]
    exact ⟨rfl, rfl⟩

theorem prbsChk_get (chk : BitVec 2) :
    (s.prbsChk lane chk.toNat).get LNS_LANE.PRBS_CHK lane = (if chk = 3 then s.get LNS_LANE.PRBS_CHK lane else chk.toNat)
      ∧ (s.prbsChk lane chk.toNat).get LNS_LANE.PRBS_GEN lane = s.get LNS_LANE.PRBS_GEN lane := by
  have hthree : chk.toNat < 3 ↔ chk ≠ 3 := by decide +revert
  unfold State.prbsChk
  split
  · next h =>
    simp only [Bool.and_eq_true, decide_eq_true_eq, hthree] at h
    rw [if_neg h.1]
    exact ⟨(get_set_disjoint _ (f := LNS_LANE.PRBS_LOCK) (by decide) (by omega) (by omega)).trans (get_set_eq s (by decide) chk.isLt),
      (get_set_disjoint _ (f := LNS_LANE.PRBS_LOCK) (by decide) (by omega) (by omega)).trans
        (get_set_disjoint s (by decide) (by omega) (by omega))⟩
  · next h =>
    refine ⟨?_, rfl⟩
    split
    · rfl
    · next hchk =>
      simp only [Bool.and_eq_true, decide_eq_true_eq, bne_iff_ne, hthree, not_and, not_not] at h
      exact (h hchk).symm

end

theorem prbsPatterns_noRegs (s : State) (lane gen chk : Nat) : ((s.prbsGen lane gen).prbsChk lane chk).noRegs = s.noRegs := by
  have hgen : (s.prbsGen lane gen).noRegs = s.noRegs := by
    unfold State.prbsGen
    split <;> rfl
  refine Eq.trans ?_ hgen
  unfold State.prbsChk
  split <;> rfl

theorem laneDomains_lt {lane : Nat} (h : lane < 64) : ∀ d ∈ laneDomains lane, d < 8192 := by
  intro d hd
  simp only [laneDomains, List.mem_cons, List.not_mem_nil, or_false] at hd
  omega

theorem answers_prbsWrite {s : State} {lane : Fin 64} {gen chk : BitVec 2}
    (h : prbsStarts gen.toNat chk.toNat = false ∨ s.portState (s.lanePort lane) = 0) : Answers (.prbsWrite lane gen chk) s fun u =>
      u.get LNS_LANE.PRBS_GEN lane = (if gen = 3 then s.get LNS_LANE.PRBS_GEN lane else gen.toNat)
      ∧ u.get LNS_LANE.PRBS_CHK lane = (if chk = 3 then s.get LNS_LANE.PRBS_CHK lane else chk.toNat) ∧ u.path = s.path ∧ u.tbl = s.tbl := by
  let t := (s.prbsGen lane gen.toNat).prbsChk lane chk.toNat
  let u := t.when (prbsStarts gen.toNat chk.toNat) fun s => s.domWake (laneDomains lane)
  have hexec : exec (.prbsWrite lane gen chk) s = finish u := congrArg finish (prbsWrite_taken h)
  have hgen := prbsGen_get s lane.isLt gen
  have hchk := prbsChk_get (s.prbsGen lane gen.toNat) lane.isLt chk
  have hget (f : Field) (hf : f = LNS_LANE.PRBS_GEN ∨ f = LNS_LANE.PRBS_CHK) : u.flushEvents.get f lane = t.get f lane := by
    rw [flushEvents_get_early u f lane (by rcases hf with rfl | rfl <;> decide) (by omega)]
    have hwake : Within [.PWR_DOM] t u := .when _ (.domWake t (laneDomains_lt lane.isLt))
    rcases hf with rfl | rfl
    · exact hwake.get _ _ (by decide) (by decide) (by omega)
    · exact hwake.get _ _ (by decide) (by decide) (by omega)
  have hpower : u.besidePower = s.besidePower :=
    (when_keeps State.besidePower t _ _ (domWake_besidePower t _)).trans (besidePower_of_noRegs (prbsPatterns_noRegs s _ _ _))
  refine answers_of_exec hexec ⟨?_, ?_, ?_, ?_⟩
  · rw [hget _ (.inl rfl), hchk.2, hgen.1]
  · rw [hget _ (.inr rfl), hchk.1, hgen.2]
  · rw [flushEvents_path]
    exact part_of_besidePower State.path (fun _ => rfl) hpower
  · rw [flushEvents_tbl]
    exact part_of_besidePower State.tbl (fun _ => rfl) hpower

/-! ### The fence of a complex (R275) -/

/-- A port of a complex that is fenced: one that is not OFF goes there. -/
def State.portFence (p : Nat) (s : State) : State :=
  if s.portState p == 0 then s
  else ((s.when (s.bstate p == 5) fun s => (s.setBst p 1).portDown p).portOff p).setFnPort p 0 0 |>.fresetOff 1 p

theorem portCtl_of_within {rs : List Reg} {s t : State} (h : Within rs s t) {c l : Field} (hc : c.reg ∉ rs ∧ c.word < 8)
    (hl : l.reg ∉ rs ∧ l.word < 8) {p : Nat} (hp : p < 64) : t.portCtl c l p = s.portCtl c l p := by
  rw [State.portCtl, h.get c p hc.1 hc.2 (by omega), h.get l (p - 32) hl.1 hl.2 (by omega), State.portCtl]

theorem portCtl_flush (s : State) {c l : Field} (h : (c.reg.early && c.fits && l.reg.early && l.fits) = true) {p : Nat} (hp : p < 64) :
    s.flushEvents.portCtl c l p = s.portCtl c l p := by
  simp only [Bool.and_eq_true] at h
  obtain ⟨⟨⟨hc, hcf⟩, hl⟩, hlf⟩ := h
  rw [State.portCtl, flushEvents_get_early s c p (by rw [hc, hcf]; rfl) (by omega),
    flushEvents_get_early s l (p - 32) (by rw [hl, hlf]; rfl) (by omega), State.portCtl]

/-- A field of a port written leaves those of the other ports. -/
theorem setPort_portCtl_ne (s : State) {c l m c' l' : Field} {p q : Nat} (v : Nat) (hp : p < 64) (hne : q ≠ p) (hq : q < 64)
    (hfits : (c.fits && l.fits && c'.fits && l'.fits) = true) (hkinds : c.reg ≠ l'.reg ∧ l.reg ≠ c'.reg) :
    (s.setPort c l m p v).portCtl c' l' q = s.portCtl c' l' q := by
  simp only [Bool.and_eq_true] at hfits
  obtain ⟨⟨⟨hc, hl⟩, hc'⟩, hl'⟩ := hfits
  have hset {f g : Field} {i j : Nat} (hf : f.fits = true) (hg : g.fits = true) (hi : i < 64) (hj : j < 64) (h : g.reg = f.reg → j ≠ i) :
      (s.set f i v).get g j = s.get g j :=
    get_set_ne s f g i j v (by omega) (by omega) hf hg (.inl fun ⟨hr, hij, _⟩ => h hr hij)
  unfold State.setPort State.portCtl
  by_cases hpc : p < 32
  · rw [if_pos hpc, hset hc hc' hp hq fun _ => hne, hset hc hl' hp (by omega) fun hr => absurd hr.symm hkinds.1]
  · rw [if_neg hpc, if_pos hp]
    split
    · exact hset hl hc' (by omega) hq fun hr => absurd hr.symm hkinds.2
    · exact hset hl hl' (by omega) (by omega) fun _ => by omega

section

variable {s : State} {p q : Nat}

theorem setFnPort_eq (hp : p < 64) (en state : Nat) : s.setFnPort p en state =
    (s.setPort CPX_PORT_CTRL.EN LPX_PORT_CTRL.EN LPX_PORT_CTRL.EN p en).setPort CPX_PORT_CTRL.STATE LPX_PORT_CTRL.STATE LPX_PORT_CTRL.STATE
      p state := by
  unfold State.setFnPort State.setPort
  split
  · rfl
  · rfl

theorem Within.setFnPort (hp : p < 64) (en state : Nat) : Within [.CPX_PORT_CTRL, .LPX_PORT_CTRL] s (s.setFnPort p en state) := by
  unfold State.setFnPort
  split
  · exact (Within.set s CPX_PORT_CTRL.EN p en (by decide) (by decide) (by omega)).thenSet CPX_PORT_CTRL.STATE p state (by decide) (by omega)
  · exact (Within.set s LPX_PORT_CTRL.EN _ en (by decide) (by decide) (by omega)).thenSet LPX_PORT_CTRL.STATE _ state (by decide) (by omega)

theorem setFnPort_portState_same (s : State) (p en : Nat) : (s.setFnPort p en 0).portState p = 0 := by
  unfold State.setFnPort State.portState State.portCtl
  split
  · exact get_set_eq _ (by decide) (by decide)
  · exact get_set_eq _ (by decide) (by decide)

theorem setFnPort_portState_ne (s : State) (hp : p < 64) (hq : q < 64) (hne : q ≠ p) (en state : Nat) :
    (s.setFnPort p en state).portState q = s.portState q := by
  rw [setFnPort_eq hp, State.portState, setPort_portCtl_ne _ _ hp hne hq (by decide) (by decide),
    setPort_portCtl_ne _ _ hp hne hq (by decide) (by decide), State.portState]

theorem bst_eq_bstate (s : State) (hp : p < 64) : s.bst p = s.bstate p := if_pos hp

theorem setBst_bstate_ne (s : State) (hp : p < 64) (hq : q < 64) (hne : q ≠ p) (v : Nat) : (s.setBst p v).bstate q = s.bstate q :=
  setPort_portCtl_ne s v hp hne hq (by decide) (by decide)

theorem Within.setBst (s : State) (hp : p < 66) (v : Nat) : Within statusRegs s (s.setBst p v) :=
  .setPort s CPX_PORT_STATUS.BSTATE LPX_PORT_STATUS.BSTATE MTL_LANE_STATUS.BSTATE p v (by omega) (by decide)

theorem portFence_off (h : s.portState p = 0) : s.portFence p = s := if_pos (by simp [h])

/-- A port that is not in ACTIVE has nothing to take down. -/
theorem portFence_on (h : s.portState p ≠ 0) (h5 : s.bstate p ≠ 5) : s.portFence p = ((s.portOff p).setFnPort p 0 0).fresetOff 1 p := by
  have hbelow : (s.bstate p == 5) = false := by simpa using h5
  rw [State.portFence, if_neg (by simpa using h), hbelow]
  rfl

theorem Within.portOff (s : State) (p : Nat) : Within [.LNS_LANE] (s.setBst p 0) (s.portOff p) :=
  (Within.setLocks (s.setBst p 0) p false false).trans (.of_parts _ rfl rfl)

/-- What the fence of a port that is not OFF leaves of any port. -/
theorem portFence_on_ports (h : s.portState p ≠ 0) (h5 : s.bstate p ≠ 5) (hp : p < 64) (hq : q < 64) :
    (s.portFence p).bstate q = (s.setBst p 0).bstate q
      ∧ (s.portFence p).portState q = ((s.portOff p).setFnPort p 0 0).portState q := by
  have hfreset := Within.fresetOff ((s.portOff p).setFnPort p 0 0) 1 p
  rw [portFence_on h h5]
  refine ⟨?_, portCtl_of_within hfreset (by decide) (by decide) hq⟩
  exact portCtl_of_within (((Within.portOff s p).append (.setFnPort hp 0 0)).append hfreset) (by decide) (by decide) hq

/-- A port is OFF, and in BSTATE OFF where it was not OFF before. -/
structure PortFenced (s u : State) (q : Nat) : Prop where
  state : u.portState q = 0
  bstate : u.bstate q = if s.portState q = 0 then s.bstate q else 0

/-- A port shows what it showed. -/
def PortSame (s u : State) (q : Nat) : Prop := u.portState q = s.portState q ∧ u.bstate q = s.bstate q

theorem PortFenced.trans {t u : State} (h : PortFenced s t q) (k : PortFenced t u q) : PortFenced s u q :=
  ⟨k.state, by rw [k.bstate, if_pos h.state, h.bstate]⟩

theorem PortFenced.same {t u : State} (h : PortFenced s t q) (k : PortSame t u q) : PortFenced s u q :=
  ⟨k.1.trans h.state, k.2.trans h.bstate⟩

theorem PortSame.fenced {t u : State} (h : PortSame s t q) (k : PortFenced t u q) : PortFenced s u q :=
  ⟨k.state, by rw [k.bstate, h.1, h.2]⟩

theorem portFence_fenced (h5 : s.bstate p ≠ 5) (hp : p < 64) : PortFenced s (s.portFence p) p := by
  by_cases h : s.portState p = 0
  · rw [portFence_off h]
    exact ⟨h, (if_pos h).symm⟩
  · obtain ⟨hbst, hstate⟩ := portFence_on_ports h h5 hp hp
    refine ⟨hstate.trans (setFnPort_portState_same _ p 0), ?_⟩
    rw [hbst, if_neg h, ← bst_eq_bstate _ hp]
    exact setBst_bst s (by decide)

theorem portFence_same (h5 : s.bstate p ≠ 5) (hp : p < 64) (hq : q < 64) (hne : q ≠ p) : PortSame s (s.portFence p) q := by
  by_cases h : s.portState p = 0
  · rw [portFence_off h]
    exact ⟨rfl, rfl⟩
  · obtain ⟨hbst, hstate⟩ := portFence_on_ports h h5 hp hq
    have hoff : (s.portOff p).portState q = s.portState q :=
      portCtl_of_within ((Within.setBst s (by omega) 0).append (.portOff s p)) (by decide) (by decide) hq
    exact ⟨hstate.trans ((setFnPort_portState_ne _ hp hq hne 0 0).trans hoff), hbst.trans (setBst_bstate_ne s hp hq hne 0)⟩

/-- The ports of a list fenced one after the other, none of them in ACTIVE. -/
theorem portsFenced {l : List Nat} (hl : ∀ p ∈ l, p < 64) (h5 : ∀ p ∈ l, s.bstate p ≠ 5) (hq : q < 64) :
    (q ∈ l → PortFenced s (s.forL l State.portFence) q) ∧ (q ∉ l → PortSame s (s.forL l State.portFence) q) := by
  induction l generalizing s with
  | nil => exact ⟨nofun, fun _ => ⟨rfl, rfl⟩⟩
  | cons a l ih =>
    have ha : a < 64 := hl a List.mem_cons_self
    have ha5 : s.bstate a ≠ 5 := h5 a List.mem_cons_self
    have hself := portFence_fenced ha5 ha
    have hrest : ∀ p ∈ l, (s.portFence a).bstate p ≠ 5 := by
      intro p hp
      by_cases hpa : p = a
      · subst hpa
        rw [hself.bstate]
        split
        · exact ha5
        · decide
      · rw [(portFence_same ha5 ha (hl p (List.mem_cons_of_mem a hp)) hpa).2]
        exact h5 p (List.mem_cons_of_mem a hp)
    obtain ⟨hin, hout⟩ := ih (fun p hp => hl p (List.mem_cons_of_mem a hp)) hrest
    show (q ∈ a :: l → PortFenced s ((s.portFence a).forL l State.portFence) q)
      ∧ (q ∉ a :: l → PortSame s ((s.portFence a).forL l State.portFence) q)
    by_cases hqa : q = a
    · subst hqa
      refine ⟨fun _ => ?_, fun h => absurd List.mem_cons_self h⟩
      by_cases hql : q ∈ l
      · exact hself.trans (hin hql)
      · exact hself.same (hout hql)
    · have hsame := portFence_same ha5 ha hq hqa
      refine ⟨fun h => hsame.fenced (hin ((List.mem_cons.mp h).resolve_left hqa)), fun h => ?_⟩
      have hafter := hout fun hql => h (List.mem_cons_of_mem a hql)
      exact ⟨hafter.1.trans hsame.1, hafter.2.trans hsame.2⟩

end

/-! ### The region of a fenced complex (R9, R13) -/

theorem regionLevel_lt (s : State) (n : Nat) : s.regionLevel n < 4 := by
  unfold State.regionLevel
  dsimp only
  split
  · decide
  · split <;> decide

/-- R9 (log 63): one fenced complex is enough for FAILED. -/
theorem regionLevel_complex {s : State} {line : Bool} {n : Nat} (h : .complex line n ∈ s.fen.blocks) : s.regionLevel n = 2 := by
  have hmem : .complex line n ∈ s.fen.blocks.filter fun b => b.region == n := List.mem_filter.mpr ⟨h, by simp [FBlock.region]⟩
  unfold State.regionLevel
  dsimp only
  rw [if_pos]
  simp only [Bool.or_eq_true]
  exact .inl (.inr (List.any_eq_true.mpr ⟨_, hmem, rfl⟩))

theorem regionUpdate_level (s : State) {n : Nat} (hn : n < 4) : (s.regionUpdate n).get GLB_REGION_STATUS.LEVEL n = s.regionLevel n := by
  have hother (t : State) {f : Field} (hf : f.disjoint GLB_REGION_STATUS.LEVEL = true) (v : Nat) :
      (t.set f n v).get GLB_REGION_STATUS.LEVEL n = t.get GLB_REGION_STATUS.LEVEL n := get_set_disjoint t hf (by omega) (by omega)
  have hshown : (s.regionShown n).get GLB_REGION_STATUS.LEVEL n = s.regionLevel n := by
    rw [State.regionShown, when_keeps (State.get · GLB_REGION_STATUS.LEVEL n) _ _ (fun s => s.regionEvent n)
      (hother _ (f := GLB_REGION_STATUS.CHANGED) (by decide) 1), State.regionFields]
    rw [hother _ (by decide), hother _ (by decide), hother _ (by decide), hother _ (by decide), hother _ (by decide)]
    exact get_set_eq s (by decide) (regionLevel_lt s n)
  rw [regionUpdate_eq]
  split
  · exact (((Within.pairAlert [] (s.regionShown n) 2).trans (.raiseAlarm [] _)).get _ _ (by decide) (by decide) (by omega)).trans hshown
  · exact hshown

/-- A block listed among the fenced ones. -/
def State.blocked (b : FBlock) (s : State) : State :=
  if b ∈ s.fen.blocks then s else { s with fen := { s.fen with blocks := s.fen.blocks ++ [b] } }

theorem mem_blocked (s : State) (b : FBlock) : b ∈ (s.blocked b).fen.blocks := by
  unfold State.blocked
  split
  · assumption
  · simp

theorem Within.blocked (rs : List Reg) (s : State) (b : FBlock) : Within rs s (s.blocked b) := by
  unfold State.blocked
  split
  · exact .refl rs s
  · exact .of_parts rs rfl rfl

theorem fenceBlock_complex (s : State) (line : Bool) {n : Nat} (hn : n < 4) :
    s.fenceBlock (.complex line n) = (s.blocked (.complex line n)).regionUpdate n := if_pos hn

theorem mem_complexPorts {line : Bool} {n p : Nat} (hn : n < 4) (h : p ∈ complexPorts line n) : p < 64 := by
  simp only [complexPorts, List.mem_map, List.mem_range] at h
  obtain ⟨k, hk, rfl⟩ := h
  split <;> omega

/-- FENCED of a complex. -/
def State.setFenced (line : Bool) (n : Nat) (s : State) : State := if line then s.set LPX_CFG.FENCED n 1 else s.set CPX_CFG.FENCED n 1

theorem Within.setFenced (s : State) (line : Bool) {n : Nat} (hn : n < 4) : Within [.LPX_CFG, .CPX_CFG] s (s.setFenced line n) := by
  cases line
  · exact .set s CPX_CFG.FENCED n 1 (by decide) (by decide) (by omega)
  · exact .set s LPX_CFG.FENCED n 1 (by decide) (by decide) (by omega)

theorem setFenced_get (s : State) (line : Bool) (n : Nat) :
    (if line then (s.setFenced line n).get LPX_CFG.FENCED n else (s.setFenced line n).get CPX_CFG.FENCED n) = 1 := by
  cases line
  · exact get_set_eq s (by decide) (by decide)
  · exact get_set_eq s (by decide) (by decide)

theorem answers_portComplexFence {side : Side} {n : Fin 4} {s : State} (h5 : ∀ p ∈ complexPorts (side == .line) n, s.bstate p ≠ 5) :
    Answers (.portComplexFence side n) s fun u =>
      (if side == .line then u.get LPX_CFG.FENCED n else u.get CPX_CFG.FENCED n) = 1 ∧ .complex (side == .line) n ∈ u.fen.blocks
      ∧ (∀ p ∈ complexPorts (side == .line) n, PortFenced s u p) ∧ u.get GLB_REGION_STATUS.LEVEL n = 2 := by
  generalize hline : (side == .line) = line at h5 ⊢
  let t := s.forL (complexPorts line n) State.portFence
  let v := (t.setFenced line n).blocked (.complex line n)
  have hexec : exec (.portComplexFence side n) s = finish (v.regionUpdate n) := by
    refine congrArg finish (Eq.trans ?_ (fenceBlock_complex (t.setFenced line n) line n.isLt))
    rw [hline]
    rfl
  have hupdate := Within.regionUpdate v n.isLt
  have hafter : Within [.LPX_CFG, .CPX_CFG, .GLB_REGION_STATUS] t (v.regionUpdate n) :=
    ((Within.setFenced t line n.isLt).append (.blocked [] _ _)).append hupdate
  have hports (p : Nat) (hp : p < 64) : PortSame t (v.regionUpdate n).flushEvents p := by
    constructor
    · exact (portCtl_flush _ (by decide) hp).trans (portCtl_of_within hafter (by decide) (by decide) hp)
    · exact (portCtl_flush _ (by decide) hp).trans (portCtl_of_within hafter (by decide) (by decide) hp)
  refine answers_of_exec hexec ⟨?_, ?_, fun p hp => ?_, ?_⟩
  · rw [flushEvents_get_early _ LPX_CFG.FENCED _ (by decide) (by omega), flushEvents_get_early _ CPX_CFG.FENCED _ (by decide) (by omega),
      hupdate.get LPX_CFG.FENCED _ (by decide) (by decide) (by omega), hupdate.get CPX_CFG.FENCED _ (by decide) (by decide) (by omega),
      (Within.blocked [] _ _).get LPX_CFG.FENCED _ (by decide) (by decide) (by omega),
      (Within.blocked [] _ _).get CPX_CFG.FENCED _ (by decide) (by decide) (by omega)]
    exact setFenced_get t line n
  · rw [flushEvents_fen]
    rw [part_of_besideStatus (·.fen.blocks) (fun _ => rfl) (regionUpdate_besideStatus v n)]
    exact mem_blocked _ _
  · have hp64 := mem_complexPorts n.isLt hp
    exact ((portsFenced (fun p => mem_complexPorts n.isLt) h5 hp64).1 hp).same (hports p hp64)
  · rw [flushEvents_get_early _ _ _ (by decide) (by omega), regionUpdate_level v n.isLt]
    exact regionLevel_complex (mem_blocked _ _)

/-! ### The mode of a complex (R277, R380) -/

/-- PMODE of a complex. -/
def State.setPmode (line : Bool) (n mode : Nat) (s : State) : State := if line then s.set LPX_CFG.PMODE n mode else s.set CPX_CFG.PMODE n mode
def State.pmode (s : State) (line : Bool) (n : Nat) : Nat := if line then s.get LPX_CFG.PMODE n else s.get CPX_CFG.PMODE n

theorem setPmode_pmode (s : State) (line : Bool) (n : Nat) {mode : Nat} (h : mode < 16) : (s.setPmode line n mode).pmode line n = mode := by
  cases line
  · exact get_set_eq s (by decide) h
  · exact get_set_eq s (by decide) h

theorem pmode_of_within {rs : List Reg} {s t : State} (h : Within rs s t) (hrs : Reg.LPX_CFG ∉ rs ∧ Reg.CPX_CFG ∉ rs) (line : Bool) {n : Nat}
    (hn : n < 4) : t.pmode line n = s.pmode line n := by
  rw [State.pmode, h.get LPX_CFG.PMODE n hrs.1 (by decide) (by omega), h.get CPX_CFG.PMODE n hrs.2 (by decide) (by omega), State.pmode]

theorem flushEvents_pmode (s : State) (line : Bool) {n : Nat} (hn : n < 4) : s.flushEvents.pmode line n = s.pmode line n := by
  rw [State.pmode, flushEvents_get_early s LPX_CFG.PMODE n (by decide) (by omega),
    flushEvents_get_early s CPX_CFG.PMODE n (by decide) (by omega), State.pmode]

theorem poolGuard_fits {s : State} {n : Nat} {f : State → State} (h : 0 ≤ (f s).poolSize n) : s.poolGuard n f = (f s).bufShow n :=
  if_neg (by omega)

theorem poolGuard_negative {s : State} {n : Nat} {f : State → State} (h : (f s).poolSize n < 0) : s.poolGuard n f = s.set FAB_BUF_STATUS.REJ n 1 :=
  if_pos h

/-- RATE of a framer as the rate of its port gives it. -/
def rateCode (rate : Nat) : Nat := if rate == 800 then 1 else if rate == 1600 then 2 else 0

/-- What follows a change of PMODE: the cut-through of the region rows, and the rates of the framers. -/
def State.idleRows (s : State) : State :=
  let small := (List.range 8).all fun c => 4 ≤ modeLanes (s.portMode (8 * c))
  s.forN 64 fun r s => s.set FAB_CT_CFG.IDLE_ONLY r (natOfBool !small)
def State.kraowRates (n : Nat) (s : State) : State := s.forN 8 fun k s => s.set KFR_CFG.RATE (8 * n + k) (rateCode (s.portRate (32 + 8 * n + k)))

theorem Within.idleRows (s : State) : Within [.FAB_CT_CFG] s s.idleRows :=
  .forN s 64 _ fun r hr t => .set t FAB_CT_CFG.IDLE_ONLY r _ (by decide) (by decide) (by omega)

theorem Within.kraowRates (s : State) {n : Nat} (hn : n < 4) : Within [.KFR_CFG] s (s.kraowRates n) :=
  .forN s 8 _ fun k hk t => .set t KFR_CFG.RATE _ _ (by decide) (by decide) (by omega)

/-- A framer shows the rate of its port, which the writes of the other framers leave. -/
theorem kraowRates_rate (s : State) {n k : Nat} (hn : n < 4) (hk : k < 8) :
    (s.kraowRates n).get KFR_CFG.RATE (8 * n + k) = rateCode (modeRate (s.get LPX_CFG.PMODE n)) := by
  have hlt (rate : Nat) : rateCode rate < 4 := by
    unfold rateCode
    split
    · decide
    · split <;> decide
  have hmode (t : State) (i v : Nat) (hi : i < 32) : (t.set KFR_CFG.RATE i v).get LPX_CFG.PMODE n = t.get LPX_CFG.PMODE n :=
    get_set_disjoint t (by decide) (by omega) (by omega)
  obtain ⟨t, ht, hlast⟩ := forN_once (fun t => (t.get LPX_CFG.PMODE n, t.get KFR_CFG.RATE (8 * n + k)))
    (fun k s => s.set KFR_CFG.RATE (8 * n + k) (rateCode (s.portRate (32 + 8 * n + k)))) hk (fun j hj hne t =>
      Prod.ext (hmode t _ _ (by omega)) (get_set_instance t (by decide) (by omega) (by omega) (by omega))) s
  have hport : t.portRate (32 + 8 * n + k) = modeRate (s.get LPX_CFG.PMODE n) := by
    rw [State.portRate, State.portMode, if_neg (by omega), show (32 + 8 * n + k) / 8 - 4 = n by omega, (Prod.mk.inj ht).1]
  refine (Prod.mk.inj hlast).2.trans ?_
  rw [get_set_eq t (by decide) (hlt _), hport]

theorem pmodeWrite_refused {s : State} {line : Bool} {n mode : Nat} (h : 8 < mode ∨ ∃ p ∈ complexPorts line n, s.portState p ≠ 0) :
    s.pmodeWrite line n mode = s := by
  refine if_pos ?_
  rcases h with h | ⟨p, hp, hon⟩
  · simp [h]
  · simp only [Bool.or_eq_true, List.any_eq_true]
    exact .inr ⟨p, hp, by simpa using hon⟩

theorem pmodeWrite_taken {s : State} {line : Bool} {n mode : Nat} (h : mode ≤ 8) (hoff : ∀ p ∈ complexPorts line n, s.portState p = 0) :
    s.pmodeWrite line n mode = (s.poolGuard n (State.setPmode line n mode)).idleRows.kraowRates n := by
  refine if_neg ?_
  simp only [Bool.or_eq_true, decide_eq_true_eq, List.any_eq_true, not_or, not_exists, not_and]
  exact ⟨by omega, fun p hp => by simp [hoff p hp]⟩

section

variable {side : Side} {n : Fin 4} {mode : BitVec 4} {s : State}

theorem exec_pmodeWrite (h : mode.toNat ≤ 8) (hoff : ∀ p ∈ complexPorts (side == .line) n, s.portState p = 0) :
    exec (.pmodeWrite side n mode) s =
      finish ((s.poolGuard n (State.setPmode (side == .line) n mode.toNat)).idleRows.kraowRates n) :=
  congrArg finish (pmodeWrite_taken h hoff)

theorem Within.afterPmode (t : State) (n : Fin 4) : Within [.FAB_CT_CFG, .KFR_CFG] t (t.idleRows.kraowRates n) :=
  (Within.idleRows t).append (.kraowRates _ n.isLt)

/-- A mode that leaves the shared pool is taken, and the framers of a line complex show its rate. -/
theorem answers_pmodeWrite_fits (h : mode.toNat ≤ 8) (hoff : ∀ p ∈ complexPorts (side == .line) n, s.portState p = 0)
    (hpool : 0 ≤ (s.setPmode (side == .line) n mode.toNat).poolSize n) : Answers (.pmodeWrite side n mode) s fun u =>
      u.pmode (side == .line) n = mode.toNat
      ∧ ((side == .line) = true → ∀ k : Fin 8, u.get KFR_CFG.RATE (8 * n + k) = rateCode (modeRate mode.toNat)) := by
  let t := (s.setPmode (side == .line) n mode.toNat).bufShow n
  have hexec : exec (.pmodeWrite side n mode) s = finish (t.idleRows.kraowRates n) := by rw [exec_pmodeWrite h hoff, poolGuard_fits hpool]
  have hpmode : t.pmode (side == .line) n = mode.toNat :=
    (pmode_of_within (.bufShow _ _ (by omega)) (by decide) _ n.isLt).trans (setPmode_pmode s _ _ mode.isLt)
  refine answers_of_exec hexec ⟨?_, fun hline k => ?_⟩
  · rw [flushEvents_pmode _ _ n.isLt, pmode_of_within (.afterPmode t n) (by decide) _ n.isLt, hpmode]
  · have hrows : t.idleRows.get LPX_CFG.PMODE n = mode.toNat := by
      rw [(Within.idleRows t).get _ _ (by decide) (by decide) (by omega), ← hpmode, hline]
      rfl
    rw [flushEvents_get_early _ _ _ (by decide) (by omega), kraowRates_rate _ n.isLt k.isLt, hrows]

/-- One that would overdraw it is discarded as a whole, with REJ. -/
theorem answers_pmodeWrite_negative (h : mode.toNat ≤ 8) (hoff : ∀ p ∈ complexPorts (side == .line) n, s.portState p = 0)
    (hpool : (s.setPmode (side == .line) n mode.toNat).poolSize n < 0) : Answers (.pmodeWrite side n mode) s fun u =>
      u.pmode (side == .line) n = s.pmode (side == .line) n ∧ u.get FAB_BUF_STATUS.REJ n = 1 := by
  let t := s.set FAB_BUF_STATUS.REJ n 1
  have hexec : exec (.pmodeWrite side n mode) s = finish (t.idleRows.kraowRates n) := by rw [exec_pmodeWrite h hoff, poolGuard_negative hpool]
  refine answers_of_exec hexec ⟨?_, ?_⟩
  · have hrej : Within [.FAB_BUF_STATUS] s t := .set s FAB_BUF_STATUS.REJ n 1 (by decide) (by decide) (by omega)
    rw [flushEvents_pmode _ _ n.isLt, pmode_of_within (.afterPmode t n) (by decide) _ n.isLt, pmode_of_within hrej (by decide) _ n.isLt]
  · rw [flushEvents_get_early _ _ _ (by decide) (by omega), (Within.afterPmode t n).get _ _ (by decide) (by decide) (by omega)]
    exact get_set_eq s (by decide) (by decide)

end

theorem rateCode_eq (rate : Nat) : rateCode rate = if rate = 800 then 1 else if rate = 1600 then 2 else 0 := by
  simp only [rateCode, beq_iff_eq]

end Sys2Proof.Machine

namespace Sys2Proof

open Machine

/-- Settles O38: a lane's patterns and test, and the fence and the mode of a complex, each by whether its ports are OFF. -/
theorem lanesAndPortComplexes : Obligations.LanesAndPortComplexes := by
  unfold Obligations.LanesAndPortComplexes
  refine ⟨fun lane gen chk s => ?lane, fun side n s => ?complex⟩
  case lane =>
    intro starts off
    have hstarts : prbsStarts gen.toNat chk.toNat = true ↔ starts := prbsStarts_iff gen chk
    have htest : s.laneTests.contains lane.val = true ↔ lane.val ∈ s.laneTests := List.contains_iff_mem
    refine ⟨fun hs hon => ?_, fun h => ?_, fun hoff hret hnew => ?_, fun h => ?_, fun hno ok => ?_, fun hin => ⟨?_, ?_⟩⟩
    · exact ends_of_exec rfl (prbsWrite_refused (hstarts.mpr hs) hon)
    · exact answers_prbsWrite (h.imp_left fun hs => Bool.eq_false_iff.mpr fun hb => hs (hstarts.mp hb))
    · exact ends_of_exec rfl (if_pos (by simp [show s.portState (s.lanePort lane) = 0 from hoff, State.flag, hret, hnew]))
    · refine ends_of_exec rfl (if_neg ?_)
      rcases h with h | h | h
      · simp [show s.portState (s.lanePort lane) ≠ 0 from h]
      · simp [State.flag, h]
      · simp [h]
    · exact ends_of_exec rfl (if_neg (by simpa using hno))
    · exact ends_of_exec rfl (if_pos (htest.mpr hin))
    · exact ends_of_exec rfl (if_pos (htest.mpr hin))
  case complex =>
    intro line ports
    refine ⟨fun h5 => ?_, fun mode => ⟨fun h => ?_, fun h hoff => ⟨fun hpool => ?_, fun hpool => ?_⟩⟩⟩
    · obtain ⟨u, hexec, hfenced, hblock, hports, hlevel⟩ := answers_portComplexFence h5
      exact ⟨u, hexec, hfenced, hblock, fun p hp => ⟨(hports p hp).state, fun hon => (hports p hp).bstate.trans (if_neg hon)⟩, hlevel⟩
    · exact ends_of_exec rfl (pmodeWrite_refused h)
    · obtain ⟨u, hexec, hmode, hrates⟩ := answers_pmodeWrite_fits h hoff hpool
      exact ⟨u, hexec, hmode, fun hl k => (hrates hl k).trans (rateCode_eq _)⟩
    · exact answers_pmodeWrite_negative h hoff hpool

end Sys2Proof
end

section
/-!
PROOFS. Let streams and the messages they send (R313, R318, R327, R328): a stream's working state under the basic updates, the ports that it
goes by, and what sending a control message and judging the mode leave.
-/

namespace Sys2Proof.Machine

/-! ### The working state of a stream -/

section

variable (s : State) (i : Nat)

@[simp] theorem onLet_letS_same (f : LetStream → LetStream) : (s.onLet i f).letS i = f (s.letS i) := KMap.get_set_same _ _ _ _

theorem onLet_letS_ne (f : LetStream → LetStream) {j : Nat} (h : j ≠ i) : (s.onLet i f).letS j = s.letS j := KMap.get_set_ne _ _ _ _ _ _ h

/-- A part of the working state that the update of one stream leaves, it leaves of every stream. -/
theorem onLet_part {β : Type} (v : LetStream → β) {f : LetStream → LetStream} (h : ∀ x, v (f x) = v x) (j : Nat) :
    v ((s.onLet i f).letS j) = v (s.letS j) := by
  by_cases hj : j = i
  · rw [hj, onLet_letS_same, h]
  · rw [onLet_letS_ne s i f hj]

theorem letS_of_lets {s t : State} (h : t.lets.streams = s.lets.streams) (j : Nat) : t.letS j = s.letS j := by
  rw [State.letS, h, State.letS]

@[simp] theorem set_letS (f : Field) (k v : Nat) : (s.set f k v).letS i = s.letS i := rfl
@[simp] theorem incWrap_letS (f : Field) (k d : Nat) : (s.incWrap f k d).letS i = s.letS i := rfl
@[simp] theorem raise_letS (a b c d e : Nat) : (s.raise a b c d e).letS i = s.letS i := rfl

@[simp] theorem flushEvents_lets : s.flushEvents.lets = s.lets := part_of_beside State.lets (fun _ => rfl) (flushEvents_beside s)
@[simp] theorem flushEvents_letS : s.flushEvents.letS i = s.letS i := letS_of_lets (by rw [flushEvents_lets]) i

end

theorem Within.onLet (rs : List Reg) (s : State) (i : Nat) (f : LetStream → LetStream) : Within rs s (s.onLet i f) := .of_parts rs rfl rfl

theorem Within.incWrap {rs : List Reg} (s : State) (f : Field) (i d : Nat) (hf : f.reg ∈ rs ∧ f.word < 8) (hi : i < 8192) :
    Within rs s (s.incWrap f i d) := .set s f i _ hf.1 hf.2 hi

theorem Within.forL {α : Type} {rs : List Reg} {f : α → State → State} (l : List α) (h : ∀ a t, Within rs t (f a t)) (s : State) :
    Within rs s (s.forL l f) :=
  forL_holds (Within rs s) f l (fun a _ t ht => ht.trans (h a t)) s (.refl rs s)

/-- A counter raised modulo its width. -/
theorem incWrap_get (s : State) (f : Field) (i d : Nat) (hf : f.fits = true) : (s.incWrap f i d).get f i = (s.get f i + d) % 2 ^ f.width := by
  simp only [Field.fits, Bool.and_eq_true, decide_eq_true_eq] at hf
  exact get_set_same s f i _ hf.1

/-- A counter that each update of a list raises by one rises by the length of the list. -/
theorem forL_counts {α : Type} {f : α → State → State} (cnt : Field) (i : Nat)
    (h : ∀ a t, (f a t).get cnt i = (t.get cnt i + 1) % 2 ^ cnt.width) (l : List α) (s : State) : (s.forL l f).get cnt i = (s.get cnt i + l.length) % 2 ^ cnt.width := by
  induction l generalizing s with
  | nil => exact (Nat.mod_eq_of_lt (get_lt s cnt i)).symm
  | cons a l ih =>
    refine (ih (f a s)).trans ?_
    rw [h, Nat.mod_add_mod, List.length_cons, Nat.add_assoc, Nat.add_comm 1]

/-! ### The ports of a stream (R313, R700) -/

/-- The registers that say which line ports a stream uses, which of them are usable, and the role of the device. -/
def letPortRegs : List Reg := [.LPX_PORT_STATUS, .LPX_PORT_CTRL, .KFR_DEFECT, .LET_STREAM_CFG, .MTL_PAIR_STATUS]

/-- The usable control ports of a stream, on which its control messages leave (R328). -/
def State.letOutPorts (s : State) (st : Nat) : List Nat := (s.letCtlPorts st).filter s.letUsable

theorem letW_lt (s : State) (st : Nat) : s.letW st < 32 := get_lt s LET_STREAM_CFG.PORT_W st
theorem letP_lt (s : State) (st : Nat) : s.letP st < 32 := get_lt s LET_STREAM_CFG.PORT_P st

section

variable {rs : List Reg} {s t : State} {st : Nat} (h : Within rs s t) (hrs : ∀ r ∈ letPortRegs, r ∉ rs)
include h hrs

theorem isLibero_of_within : t.isLibero = s.isLibero := by
  rw [State.isLibero, h.get MTL_PAIR_STATUS.ROLE 0 (hrs _ (by decide)) (by decide) (by omega), State.isLibero]

theorem letUsable_of_within {p : Nat} (hp : p < 32) : t.letUsable p = s.letUsable p := by
  have hget {f : Field} (hf : f.reg ∈ letPortRegs) (hw : f.word < 8) : t.get f p = s.get f p := h.get f p (hrs _ hf) hw (by omega)
  unfold State.letUsable
  rw [isKraow_of_within h (hrs _ (by decide)) (by omega),
    krwUnusable_within h (fun r hr => hrs r (by revert r; decide)) hp]
  unfold State.linePortActive State.flag
  rw [hget (by decide) (by decide), hget (by decide) (by decide), hget (by decide) (by decide)]

variable (hst : st < 256)
include hst

theorem letCfg_of_within {f : Field} (hf : f.reg = .LET_STREAM_CFG) (hw : f.word < 8) : t.get f st = s.get f st :=
  h.get f st (hrs _ (by rw [hf]; decide)) hw (by omega)

theorem letW_of_within : t.letW st = s.letW st := letCfg_of_within h hrs hst rfl (by decide)
theorem letP_of_within : t.letP st = s.letP st := letCfg_of_within h hrs hst rfl (by decide)

theorem letOutPorts_of_within : t.letOutPorts st = s.letOutPorts st := by
  have hports : t.letCtlPorts st = s.letCtlPorts st := by
    rw [State.letCtlPorts, letW_of_within h hrs hst, letP_of_within h hrs hst, State.letCtlPorts]
  rw [State.letOutPorts, hports, State.letOutPorts]
  refine List.filter_congr fun p hp => letUsable_of_within h hrs ?_
  have hw := letW_lt s st
  have hpr := letP_lt s st
  unfold State.letCtlPorts at hp
  split at hp <;> simp only [List.mem_cons, List.not_mem_nil, or_false] at hp <;> omega

theorem letAnyUsable_of_within : t.letAnyUsable st = s.letAnyUsable st := by
  have hw := letUsable_of_within h hrs (letW_lt s st)
  have hp := letUsable_of_within h hrs (letP_lt s st)
  have hkraow : t.letKraow st = s.letKraow st := by
    rw [State.letKraow, letW_of_within h hrs hst]
    exact isKraow_of_within h (hrs _ (by decide)) (by have := letW_lt s st; omega)
  have hvolley : t.flag LET_STREAM_CFG.VOLLEY st = s.flag LET_STREAM_CFG.VOLLEY st := by
    rw [State.flag, letCfg_of_within h hrs hst rfl (by decide), State.flag]
  unfold State.letAnyUsable State.letDataPorts
  rw [hkraow, hvolley, letW_of_within h hrs hst, letP_of_within h hrs hst]
  split
  · simp only [List.any_cons, hw, hp, List.any_nil]
  · split <;> simp only [List.any_cons, hw, hp, List.any_nil]

end

/-! ### A control message (R327, R328) -/

theorem deviceFrame_lets (s : State) (client sc cls : Nat) (it : Item) : (s.deviceFrame client sc cls it).lets = s.lets := by
  unfold State.deviceFrame
  split
  · dsimp only
    split <;> rfl
  · rfl

theorem Within.deviceFrame (rs : List Reg) (s : State) (client sc cls : Nat) (it : Item) : Within rs s (s.deviceFrame client sc cls it) := by
  unfold State.deviceFrame
  split
  · dsimp only
    split
    · exact .refl rs s
    · exact .of_parts rs rfl rfl
  · exact .refl rs s

/-- A control message leaves on one port. -/
def State.letSendOn (m : LetMsg) (p : Nat) (s : State) : State :=
  let s1 := { s with lets := { s.lets with sent := s.lets.sent ++ [(p, m)] } }
  let s2 := s1.when (m.subtype == 2) fun s => s.incWrap LET_CNT.NAK_TX m.stream
  if s.letKraow m.stream then s2.sendA p m.body
  else
    let f := beBytes 6 (s.get LET_CTL_DA.DA p) ++ beBytes 6 (Config.portMac (32 + p)).toNat ++ [0x88#8, 0xB5#8] ++ m.body
    s2.deviceFrame (s.get LET_STREAM_CFG.CLIENT_PORT m.stream) (s.letRplSc m.stream p) (s.get LET_STREAM_CFG.CLASS m.stream) { data := f }

theorem letSend_eq (s : State) (m : LetMsg) (hl : s.isLibero = false) : s.letSend m = s.forL (s.letOutPorts m.stream) (State.letSendOn m) := by
  unfold State.letSend
  dsimp only
  rw [hl]
  rfl

theorem letSendOn_lets (s : State) (m : LetMsg) (p : Nat) : (s.letSendOn m p).lets = { s.lets with sent := s.lets.sent ++ [(p, m)] } := by
  unfold State.letSendOn
  dsimp only
  split
  · exact when_keeps State.lets _ _ (fun s => s.incWrap LET_CNT.NAK_TX m.stream) rfl
  · exact (deviceFrame_lets ..).trans (when_keeps State.lets _ _ (fun s => s.incWrap LET_CNT.NAK_TX m.stream) rfl)

theorem Within.letSendOn (s : State) (m : LetMsg) (p : Nat) (hst : m.stream < 256) : Within [.LET_CNT] s (s.letSendOn m p) := by
  have hcount (t : State) : Within [.LET_CNT] t (t.when (m.subtype == 2) fun s => s.incWrap LET_CNT.NAK_TX m.stream) :=
    Within.when _ (.incWrap t _ _ _ (by decide) (by omega))
  have hsent (l : List (Nat × LetMsg)) : Within [.LET_CNT] s { s with lets := { s.lets with sent := l } } := .of_parts _ rfl rfl
  unfold State.letSendOn
  dsimp only
  split
  · exact ((hsent _).trans (hcount _)).trans (.onKrw _ _ _ _)
  · exact ((hsent _).trans (hcount _)).trans (.deviceFrame _ _ _ _ _ _)

theorem letSendOn_get (s : State) (m : LetMsg) (p : Nat) (hst : m.stream < 256) {f : Field} (hf : LET_CNT.NAK_TX.disjoint f = true) {j : Nat}
    (hj : j < 8192) (hw : f.word < 8) : (s.letSendOn m p).get f j = s.get f j := by
  have hcount (t : State) : (t.when (m.subtype == 2) fun s => s.incWrap LET_CNT.NAK_TX m.stream).get f j = t.get f j :=
    when_keeps (State.get · f j) t _ _ (get_set_disjoint t hf (by omega) hj)
  unfold State.letSendOn
  dsimp only
  split
  · exact hcount _
  · exact ((Within.deviceFrame [] _ _ _ _ _).get f j (by simp) hw hj).trans (hcount _)

section

variable (s : State) (m : LetMsg)

/-- What sending on each port keeps true, sending keeps true. -/
theorem letSend_holds (P : State → Prop) (hs : P s) (h : ∀ p t, P t → P (t.letSendOn m p)) : P (s.letSend m) := by
  cases hl : s.isLibero with
  | true => rwa [State.letSend, hl]
  | false =>
    rw [letSend_eq s m hl]
    exact forL_holds P _ _ (fun p _ => h p) s hs

/-- Sending a message leaves the working state of every stream. -/
theorem letSend_streams : (s.letSend m).lets.streams = s.lets.streams :=
  letSend_holds s m (·.lets.streams = s.lets.streams) rfl fun p t ht => by rw [letSendOn_lets, ht]

@[simp] theorem letSend_letS (i : Nat) : (s.letSend m).letS i = s.letS i := letS_of_lets (letSend_streams s m) i

theorem letSend_get (hst : m.stream < 256) {f : Field} (hf : LET_CNT.NAK_TX.disjoint f = true) {j : Nat} (hj : j < 8192) (hw : f.word < 8) :
    (s.letSend m).get f j = s.get f j :=
  letSend_holds s m (·.get f j = s.get f j) rfl fun p t ht => (letSendOn_get t m p hst hf hj hw).trans ht

theorem Within.letSend (hst : m.stream < 256) : Within [.LET_CNT] s (s.letSend m) :=
  letSend_holds s m (Within [.LET_CNT] s) (.refl _ s) fun p t ht => ht.trans (.letSendOn t m p hst)

theorem forL_letSendOn_sent (l : List Nat) : (s.forL l (State.letSendOn m)).lets.sent = s.lets.sent ++ l.map fun p => (p, m) := by
  induction l generalizing s with
  | nil => exact (List.append_nil _).symm
  | cons p l ih =>
    refine (ih (s.letSendOn m p)).trans ?_
    rw [letSendOn_lets, List.map_cons, List.append_assoc, List.singleton_append]

/-- R328: a message leaves once on every usable control port. -/
theorem letSend_sent (hl : s.isLibero = false) : (s.letSend m).lets.sent = s.lets.sent ++ (s.letOutPorts m.stream).map fun p => (p, m) := by
  rw [letSend_eq s m hl, forL_letSendOn_sent]

end

/-! ### The mode (R318, Table 9-3) -/

/-- What holds of a stream, of it as it enters REPLAYING, and with any MODE, holds when its mode has been judged. -/
theorem letMode_holds (P : State → Prop) {s : State} {st : Nat} (hs : P s) (hreplay : P (s.letReplayFrom st))
    (hset : ∀ t v, P t → P (t.set LET_STREAM_STATUS.MODE st v)) : P (s.letMode st) := by
  unfold State.letMode
  dsimp only
  split
  · exact hs
  · split
    · split
      · split
        · split
          · exact hset _ _ hreplay
          · exact hreplay
        · exact hset _ _ hs
      · exact hs
    · split
      · exact hset _ _ hs
      · split
        · exact hset _ _ hs
        · exact hs
    · split
      · exact hset _ _ hs
      · exact hs

theorem letMode_tbl (s : State) (st : Nat) : (s.letMode st).tbl = s.tbl :=
  letMode_holds (·.tbl = s.tbl) rfl rfl fun _ _ h => h

/-- A stream in REPLAYING stays there, leaves it for BRIDGING or returns to NORMAL; where replay stands does not change. -/
theorem letMode_replaying {s : State} {st : Nat} (hon : s.get LET_STREAM_CFG.STATE st ≠ 0) (hmode : s.get LET_STREAM_STATUS.MODE st = 2) :
    s.letMode st = if (s.letAnyUsable st && !s.isLibero) = false then s.set LET_STREAM_STATUS.MODE st 1
      else if s.letReplayDone st then s.set LET_STREAM_STATUS.MODE st 0 else s := by
  unfold State.letMode
  simp only [beq_iff_eq, hon, hmode, if_false, Bool.not_eq_true']

end Sys2Proof.Machine
end

section
/-!
PROOFS. The sending half of a let stream (R318 to R320, R329, R334, R338): what judging its room leaves, acknowledgements, replay and the
end of a drain.
-/

namespace Sys2Proof.Machine

/-! ### What judging rooms and modes leaves -/

/-- The numbers of a stream that judging its room and its mode leaves. -/
def letFields : List Field :=
  [LET_STREAM_STATUS.CUM, LET_STREAM_STATUS.RX_NEXT, LET_STREAM_STATUS.WAITING, LET_STREAM_STATUS.LINKED]

/-- A working state without what judging the room and the mode of the stream changes. -/
def LetStream.besideMode (x : LetStream) : LetStream := { x with stopped := false, replayPoint := 0, nakked := [] }

/-- `t` comes from `s` by updates that leave the numbers of every stream, its working state beside its mode, and the tables. -/
structure LetKept (s t : State) : Prop where
  get : ∀ f ∈ letFields, ∀ i < 256, t.get f i = s.get f i
  streams : ∀ i, (t.letS i).besideMode = (s.letS i).besideMode
  tbl : t.tbl = s.tbl

theorem LetKept.refl (s : State) : LetKept s s := ⟨fun _ _ _ _ => rfl, fun _ => rfl, rfl⟩

section

variable {s t : State}

theorem LetKept.trans {u : State} (h : LetKept s t) (k : LetKept t u) : LetKept s u :=
  ⟨fun f hf i hi => (k.get f hf i hi).trans (h.get f hf i hi), fun i => (k.streams i).trans (h.streams i), k.tbl.trans h.tbl⟩

theorem LetKept.of_parts (hr : t.regs = s.regs) (hl : t.lets = s.lets) (ht : t.tbl = s.tbl) : LetKept s t :=
  ⟨fun f _ i _ => get_of_regs hr f i, fun i => congrArg LetStream.besideMode (letS_of_lets (congrArg LetState.streams hl) i), ht⟩

/-- One more field written that shares no bit with the numbers. -/
theorem LetKept.thenSet (h : LetKept s t) (f : Field) (i v : Nat) (hf : ∀ g ∈ letFields, f.disjoint g = true) (hi : i < 8192) :
    LetKept s (t.set f i v) :=
  h.trans ⟨fun g hg _ hj => get_set_disjoint t (hf g hg) hi (by omega), fun _ => rfl, rfl⟩

theorem LetKept.onLet (s : State) (i : Nat) {f : LetStream → LetStream} (hf : ∀ x, (f x).besideMode = x.besideMode) : LetKept s (s.onLet i f) :=
  ⟨fun _ _ _ _ => rfl, fun j => onLet_part s i LetStream.besideMode hf j, rfl⟩

theorem LetKept.when {c : Bool} {f : State → State} (h : LetKept s (f s)) : LetKept s (s.when c f) := by
  cases c
  · exact .refl s
  · exact h

/-- A part of the working state that does not follow the mode. -/
theorem LetKept.part (h : LetKept s t) {β : Type} (v : LetStream → β) (hv : ∀ x, v x.besideMode = v x) (i : Nat) :
    v (t.letS i) = v (s.letS i) := by
  rw [← hv, h.streams, hv]

end

section

variable (s : State) {st : Nat} (hst : st < 256)

include hst in
theorem LetKept.letWindow : LetKept s (s.letWindow st) := by
  have hstop (t : State) (c b : Bool) : LetKept t (t.when c fun s => s.onLet st fun x => { x with stopped := b }) :=
    .when (.onLet t st fun _ => rfl)
  have hraise (t : State) (c : Bool) : LetKept t (t.when c fun s => s.raise (80 + st / 8) 1 st) :=
    .when ⟨fun _ _ _ _ => rfl, fun _ => rfl, rfl⟩
  have hsuspend (t : State) (c : Bool) : LetKept t (t.when c fun s => s.set LET_STREAM_STATUS.SUSPENDED st 1) :=
    .when ((LetKept.refl t).thenSet _ _ _ (by decide) (by omega))
  have hfull : LetKept s (s.set LET_STREAM_STATUS.FULL st (natOfBool (s.letIsFull st))) := (LetKept.refl s).thenSet _ _ _ (by decide) (by omega)
  exact (((hfull.trans (hraise _ _)).trans (hsuspend _ _)).trans (hstop _ _ _)).trans (hstop _ _ _)

include hst in
theorem LetKept.letWindowOf : LetKept s (s.letWindowOf st) := by
  unfold State.letWindowOf
  split
  · exact .refl s
  · exact .letWindow s hst

theorem LetKept.letQueueShow (q : Nat) (free : Bool) : LetKept s (s.letQueueShow q free) := by
  unfold State.letQueueShow
  split
  · refine forN_holds (LetKept s) _ 256 (fun i hi t ht => ?_) s (.refl s)
    split
    · exact ht.trans (.letWindowOf t hi)
    · exact ht
  · split
    · exact .letWindowOf s (by omega)
    · exact .refl s

theorem LetKept.bufShow {n : Nat} (hn : n < 8192) : LetKept s (s.bufShow n) := by
  unfold State.bufShow
  exact (((((LetKept.refl s).thenSet _ n _ (by decide) hn).thenSet _ n _ (by decide) hn).thenSet _ n _ (by decide) hn).thenSet _ n _
    (by decide) hn).thenSet _ n _ (by decide) hn

theorem LetKept.putQueue {q : Nat} (hq : q < 4096) (x : Queue) : LetKept s (s.putQueue q x) := by
  have hn : queueRegion q < 8192 := by unfold queueRegion; omega
  have hput (y : QState) : LetKept s { s with q := y } := .of_parts rfl rfl rfl
  have hq' : q < 8192 := by omega
  unfold State.putQueue
  exact ((((((((hput _).thenSet _ q _ (by decide) hq').thenSet _ q _ (by decide) hq').thenSet _ q _ (by decide) hq').thenSet _ q _
    (by decide) hq').thenSet _ q _ (by decide) hq').thenSet _ _ _ (by decide) hn).trans (.bufShow _ hn)).trans (.letQueueShow _ _ _)

theorem LetKept.letFreeQueue (st cum : Nat) : LetKept s (s.letFreeQueue st cum) :=
  .putQueue s (get_lt s LET_STREAM_AUX.QUEUE st) _

include hst in
theorem LetKept.letRetained : LetKept s (s.letRetained st) := (LetKept.refl s).thenSet _ _ _ (by decide) (by omega)

include hst in
theorem LetKept.letMode : LetKept s (s.letMode st) := by
  have hreplay : LetKept s (s.letReplayFrom st) :=
    (LetKept.onLet s st (f := fun x => { x with replayPoint := _, nakked := [] }) fun _ => rfl).thenSet LET_STREAM_STATUS.MODE st 2
      (by decide) (by omega)
  exact letMode_holds (LetKept s) (.refl s) hreplay fun _ _ h => h.thenSet _ _ _ (by decide) (by omega)

end

theorem flushEvents_letFields (s : State) {f : Field} (hf : f ∈ letFields) {i : Nat} (hi : i < 256) : s.flushEvents.get f i = s.get f i :=
  flushEvents_get_early s f i (by revert f; decide) (by omega)

/-! ### Messages accepted and refused (R329, R701) -/

/-- R329: an ACK or a NAK names this stream's INSTANCE and a number that has been sent. -/
def State.letOwn (s : State) (st : Nat) (inst : BitVec 32) (value : BitVec 64) : Prop :=
  inst.toNat = s.get LET_STREAM_STATUS.INSTANCE st ∧ value.toNat < s.get LET_STREAM_STATUS.NEXT st

/-- The message of a command. -/
def letMsgOf (subtype : Nat) (st : Fin 256) (inst : BitVec 32) (value : BitVec 64) (aux : Nat) (ranges : List (BitVec 64 × BitVec 64)) : LetMsg :=
  { subtype := subtype, stream := st, instId := inst.toNat, value := value.toNat, aux := aux, ranges := ranges.map fun r => (r.1.toNat, r.2.toNat) }

section

variable {st : Fin 256} {sc : Option (Fin 16384)} {port : Fin 32} {inst : BitVec 32} {value : BitVec 64}
  {ranges : List (BitVec 64 × BitVec 64)} {s : State}

theorem letAckOk_iff (subtype aux : Nat) : s.letAckOk (letMsgOf subtype st inst value aux ranges) = true ↔ s.letOwn st inst value := by
  rw [State.letAckOk, Bool.and_eq_true, beq_iff_eq, decide_eq_true_eq]
  rfl

theorem exec_letAckRx : exec (.letAckRx st sc port inst value) s =
    finish (s.letControl (sc.map (·.val)) port (letMsgOf 1 st inst value 0 [])) := rfl

theorem exec_letNakRx : exec (.letNakRx st sc port inst value ranges) s = finish (if ranges.isEmpty || 16 < ranges.length then s.letMsgReject st
    else s.letControl (sc.map (·.val)) port (letMsgOf 2 st inst value 0 ranges)) := rfl

theorem exec_letHelloRx {next : BitVec 64} : exec (.letHelloRx st sc port inst value next ranges) s = finish (
    if 16 < ranges.length then s.letMsgReject st
    else s.letControl (sc.map (·.val)) port (letMsgOf 3 st inst value next.toNat ranges)) := rfl

/-- R701: a message that came another way is discarded. -/
theorem letControl_astray {o : Option Nat} {p : Nat} {m : LetMsg} (h : s.letViaOk m.stream o p = false) :
    s.letControl o p m = s.letMsgReject m.stream := by rw [State.letControl, h]; rfl

theorem letControl_ack {o : Option Nat} {p : Nat} (h : s.letViaOk st o p = true) : s.letControl o p (letMsgOf 1 st inst value 0 []) =
    if s.letAckOk (letMsgOf 1 st inst value 0 []) then s.letAckApply st value.toNat else s.letMsgReject st := by
  have h' : s.letViaOk (letMsgOf 1 st inst value 0 []).stream o p = true := h
  rw [State.letControl, h']
  rfl

theorem letControl_nak {o : Option Nat} {p : Nat} (h : s.letViaOk st o p = true) : s.letControl o p (letMsgOf 2 st inst value 0 ranges) =
    if s.letAckOk (letMsgOf 2 st inst value 0 ranges) then s.letNakApply (letMsgOf 2 st inst value 0 ranges) else s.letMsgReject st := by
  have h' : s.letViaOk (letMsgOf 2 st inst value 0 ranges).stream o p = true := h
  rw [State.letControl, h']
  rfl

theorem letControl_hello {o : Option Nat} {p aux : Nat} (h : s.letViaOk st o p = true) :
    s.letControl o p (letMsgOf 3 st inst value aux ranges) = s.letHelloRx (letMsgOf 3 st inst value aux ranges) := by
  have h' : s.letViaOk (letMsgOf 3 st inst value aux ranges).stream o p = true := h
  rw [State.letControl, h']
  rfl

theorem letControl_ack_refused {o : Option Nat} {p : Nat} (h : ¬ s.letViaOk st o p = true ∨ ¬ s.letOwn st inst value) :
    s.letControl o p (letMsgOf 1 st inst value 0 []) = s.letMsgReject st := by
  by_cases hvia : s.letViaOk st o p = true
  · have hown : ¬ s.letAckOk (letMsgOf 1 st inst value 0 []) = true := (letAckOk_iff 1 0).not.mpr (h.resolve_left (not_not.mpr hvia))
    rw [letControl_ack hvia, if_neg hown]
  · exact letControl_astray (Bool.eq_false_iff.mpr hvia)

theorem letControl_nak_refused {o : Option Nat} {p : Nat} (h : ¬ s.letViaOk st o p = true ∨ ¬ s.letOwn st inst value) :
    s.letControl o p (letMsgOf 2 st inst value 0 ranges) = s.letMsgReject st := by
  by_cases hvia : s.letViaOk st o p = true
  · have hown : ¬ s.letAckOk (letMsgOf 2 st inst value 0 ranges) = true := (letAckOk_iff 2 0).not.mpr (h.resolve_left (not_not.mpr hvia))
    rw [letControl_nak hvia, if_neg hown]
  · exact letControl_astray (Bool.eq_false_iff.mpr hvia)

/-- R329, R701: an ACK that is not accepted counts in REJECTED alone. -/
theorem ends_letAckRx_refused (h : ¬ s.letViaOk st (sc.map (·.val)) port = true ∨ ¬ s.letOwn st inst value) :
    Ends (.letAckRx st sc port inst value) s (s.incWrap LET_CNT.REJECTED st) := ends_of_exec exec_letAckRx (letControl_ack_refused h)

theorem ends_letNakRx_refused (h : ¬ s.letViaOk st (sc.map (·.val)) port = true ∨ ¬ s.letOwn st inst value) :
    Ends (.letNakRx st sc port inst value ranges) s (s.incWrap LET_CNT.REJECTED st) := by
  refine ends_of_exec exec_letNakRx ?_
  split
  · rfl
  · exact letControl_nak_refused h

/-- R326, R701: a HELLO that came another way, or with too many ranges, counts in REJECTED alone. -/
theorem ends_letHelloRx_refused {next : BitVec 64} (h : ¬ s.letViaOk st (sc.map (·.val)) port = true ∨ 16 < ranges.length) :
    Ends (.letHelloRx st sc port inst value next ranges) s (s.incWrap LET_CNT.REJECTED st) := by
  refine ends_of_exec exec_letHelloRx ?_
  split
  · rfl
  · next hlen => exact letControl_astray (Bool.eq_false_iff.mpr (h.resolve_right hlen))

end

/-! ### Acknowledgements (R320, R329) -/

/-- What an accepted ACK or NAK makes of a stream: CUM risen to the number it names, LINKED, and only the records above CUM. -/
structure Acked (s u : State) (st value : Nat) : Prop where
  cum : u.get LET_STREAM_STATUS.CUM st = max (s.get LET_STREAM_STATUS.CUM st) value
  linked : u.get LET_STREAM_STATUS.LINKED st = 1
  records : (u.letS st).records = (s.letS st).records.filter fun r => max (s.get LET_STREAM_STATUS.CUM st) value < r.number

section

variable {s t : State} {st value : Nat}

theorem Acked.kept {u : State} (h : Acked s t st value) (k : LetKept t u) (hst : st < 256) : Acked s u st value where
  cum := (k.get _ (by decide) st hst).trans h.cum
  linked := (k.get _ (by decide) st hst).trans h.linked
  records := (k.part LetStream.records (fun _ => rfl) st).trans h.records

theorem Acked.flushEvents (h : Acked s t st value) (hst : st < 256) : Acked s t.flushEvents st value where
  cum := (flushEvents_letFields t (by decide) hst).trans h.cum
  linked := (flushEvents_letFields t (by decide) hst).trans h.linked
  records := by rw [flushEvents_letS, h.records]

/-- A message sent leaves what has been acknowledged. -/
theorem Acked.letSend (h : Acked s t st value) {m : LetMsg} (hm : m.stream < 256) (hst : st < 256) : Acked s (t.letSend m) st value where
  cum := ((Within.letSend t m hm).get _ _ (by decide) (by decide) (by omega)).trans h.cum
  linked := ((Within.letSend t m hm).get _ _ (by decide) (by decide) (by omega)).trans h.linked
  records := by rw [letSend_letS, h.records]

theorem acked_letAckApply (s : State) (hst : st < 256) (hv : value < 2 ^ 64) : Acked s (s.letAckApply st value) st value := by
  let cum := max (s.get LET_STREAM_STATUS.CUM st) value
  have hcum : cum < 2 ^ 64 := Nat.max_lt.mpr ⟨get_lt s LET_STREAM_STATUS.CUM st, hv⟩
  let t := ((s.set LET_STREAM_STATUS.CUM st cum).set LET_STREAM_STATUS.LINKED st 1).onLet st fun x =>
    { x with records := x.records.filter fun r => cum < r.number }
  have hfreed : Acked s t st value := by
    refine ⟨?_, get_set_eq _ (by decide) (by decide), ?_⟩
    · exact (get_set_disjoint (s.set LET_STREAM_STATUS.CUM st cum) (by decide) (by omega) (by omega)).trans (get_set_eq s (by decide) hcum)
    · exact congrArg LetStream.records (onLet_letS_same _ st _)
  have hkept : LetKept t (s.letAckApply st value) :=
    (((LetKept.letFreeQueue t st cum).trans (.letRetained _ hst)).trans (.letMode _ hst)).trans (.letWindow _ hst)
  exact hfreed.kept hkept hst

end

/-- R329: an accepted ACK. -/
theorem answers_letAckRx {st : Fin 256} {sc : Option (Fin 16384)} {port : Fin 32} {inst : BitVec 32} {value : BitVec 64} {s : State}
    (hvia : s.letViaOk st (sc.map (·.val)) port = true) (hown : s.letOwn st inst value) :
    Answers (.letAckRx st sc port inst value) s fun u => Acked s u st value.toNat := by
  have hexec : exec (.letAckRx st sc port inst value) s = finish (s.letAckApply st value.toNat) := by
    rw [exec_letAckRx, letControl_ack hvia, if_pos ((letAckOk_iff 1 0).mpr hown)]
  exact answers_of_exec hexec ((acked_letAckApply s st.isLt value.isLt).flushEvents st.isLt)

/-- The numbers of records that an accepted NAK adds to those that await replay. -/
def State.letNamedByNak (t : State) (m : LetMsg) : List Nat :=
  ((((t.letS m.stream).records.filter fun r => m.ranges.any fun c => c.1 ≤ r.number && r.number ≤ c.2).filter fun r => t.letReplayable r).map
    (·.number)).filter fun k => !((t.letS m.stream).nakked.contains k)

/-- A NAK in NORMAL mode notes the numbers that it names. -/
def State.letNoteNak (m : LetMsg) (t : State) : State :=
  if t.get LET_STREAM_STATUS.MODE m.stream == 0 then t.onLet m.stream fun x => { x with nakked := x.nakked ++ t.letNamedByNak m } else t

/-- R320: an accepted NAK is applied as an ACK, its numbers are noted, and a HELLO answers where not every number has a record. -/
theorem letNakApply_eq (s : State) (m : LetMsg) : ∃ missing : Bool, s.letNakApply m =
    ((s.letAckApply m.stream m.value).letNoteNak m).when missing fun t => t.letSend (t.letHello m.stream) := ⟨_, rfl⟩

theorem LetKept.letNoteNak (t : State) (m : LetMsg) : LetKept t (t.letNoteNak m) := by
  unfold State.letNoteNak
  split
  · exact .onLet t _ fun _ => rfl
  · exact .refl t

/-- A record not yet replayed that a NAK in NORMAL mode names awaits replay. -/
theorem mem_letNoteNak {t : State} {m : LetMsg} (hmode : t.get LET_STREAM_STATUS.MODE m.stream = 0) {r : LetRec}
    (hr : r ∈ (t.letS m.stream).records) (hnew : r.replayedAt = none) (hin : ∃ c ∈ m.ranges, c.1 ≤ r.number ∧ r.number ≤ c.2) :
    r.number ∈ ((t.letNoteNak m).letS m.stream).nakked := by
  have hrep : t.letReplayable r = true := by rw [State.letReplayable, hnew]; rfl
  have hnoted : ((t.letNoteNak m).letS m.stream).nakked = (t.letS m.stream).nakked ++ t.letNamedByNak m := by
    rw [State.letNoteNak, if_pos (by simp [hmode]), onLet_letS_same]
  rw [hnoted, List.mem_append]
  by_cases hold : r.number ∈ (t.letS m.stream).nakked
  · exact Or.inl hold
  · refine Or.inr (List.mem_filter.mpr ⟨List.mem_map.mpr ⟨r, List.mem_filter.mpr ⟨List.mem_filter.mpr ⟨hr, ?_⟩, hrep⟩, rfl⟩, ?_⟩)
    · simpa using hin
    · simpa using hold

theorem acked_letNakApply (s : State) {m : LetMsg} (hst : m.stream < 256) (hv : m.value < 2 ^ 64) :
    Acked s (s.letNakApply m) m.stream m.value := by
  obtain ⟨missing, happly⟩ := letNakApply_eq s m
  have hacked := (acked_letAckApply s hst hv).kept (.letNoteNak _ m) hst
  rw [happly]
  cases missing
  · exact hacked
  · exact hacked.letSend hst hst

/-- R320: a number that an accepted NAK names awaits replay, in NORMAL mode. -/
theorem mem_letNakApply {s : State} {m : LetMsg} (hmode : (s.letAckApply m.stream m.value).get LET_STREAM_STATUS.MODE m.stream = 0) {r : LetRec}
    (hr : r ∈ ((s.letAckApply m.stream m.value).letS m.stream).records) (hnew : r.replayedAt = none)
    (hin : ∃ c ∈ m.ranges, c.1 ≤ r.number ∧ r.number ≤ c.2) : r.number ∈ ((s.letNakApply m).letS m.stream).nakked := by
  obtain ⟨missing, happly⟩ := letNakApply_eq s m
  have hsent (t : State) : (t.when missing fun t => t.letSend (t.letHello m.stream)).letS m.stream = t.letS m.stream :=
    when_keeps (State.letS · m.stream) t missing _ (letSend_letS ..)
  rw [happly, hsent]
  exact mem_letNoteNak hmode hr hnew hin

/-- R320, R329: an accepted NAK. -/
theorem answers_letNakRx {st : Fin 256} {sc : Option (Fin 16384)} {port : Fin 32} {inst : BitVec 32} {value : BitVec 64}
    {ranges : List (BitVec 64 × BitVec 64)} {s : State} (hvia : s.letViaOk st (sc.map (·.val)) port = true) (hown : s.letOwn st inst value)
    (hlen : 0 < ranges.length ∧ ranges.length ≤ 16) : Answers (.letNakRx st sc port inst value ranges) s fun u =>
      Acked s u st value.toNat ∧ ((s.letAckApply st value.toNat).get LET_STREAM_STATUS.MODE st = 0 →
        ∀ r ∈ (s.letS st).records, max (s.get LET_STREAM_STATUS.CUM st) value.toNat < r.number → r.replayedAt = none →
          (∃ c ∈ ranges, c.1.toNat ≤ r.number ∧ r.number ≤ c.2.toNat) → r.number ∈ (u.letS st).nakked) := by
  have hexec : exec (.letNakRx st sc port inst value ranges) s = finish (s.letNakApply (letMsgOf 2 st inst value 0 ranges)) := by
    have hfits : ¬ (ranges.isEmpty || decide (16 < ranges.length)) = true := by
      simp only [Bool.or_eq_true, List.isEmpty_iff, decide_eq_true_eq, not_or]
      exact ⟨List.length_pos_iff.mp hlen.1, by omega⟩
    rw [exec_letNakRx, if_neg hfits, letControl_nak hvia, if_pos ((letAckOk_iff 2 0).mpr hown)]
  have hacked := acked_letNakApply s (m := letMsgOf 2 st inst value 0 ranges) st.isLt value.isLt
  refine answers_of_exec hexec ⟨hacked.flushEvents st.isLt, fun hmode r hr habove hnew hin => ?_⟩
  have hheld : r ∈ ((s.letAckApply st value.toNat).letS st).records := by
    rw [(acked_letAckApply s st.isLt value.isLt).records]
    exact List.mem_filter.mpr ⟨hr, decide_eq_true habove⟩
  obtain ⟨c, hc, hle⟩ := hin
  rw [flushEvents_letS]
  exact mem_letNakApply (m := letMsgOf 2 st inst value 0 ranges) hmode hheld hnew ⟨_, List.mem_map.mpr ⟨c, hc, rfl⟩, hle⟩

/-! ### Replay (R318 to R320) -/

theorem exec_letAckTimeout (st : Fin 256) (s : State) : exec (.letAckTimeout st) s = finish (
    if s.letServes st && s.get LET_STREAM_STATUS.MODE st == 0 && s.flag LET_STREAM_CFG.RETAIN st
      && s.get LET_STREAM_STATUS.CUM st < s.get LET_STREAM_STATUS.NEXT st - 1 && s.letAnyUsable st then
      (s.letReplayFrom st).letMode st
    else s) := rfl

theorem letServes_on {s : State} {st : Nat} (h : s.letServes st = true) : s.get LET_STREAM_CFG.STATE st ≠ 0 := by
  simp only [State.letServes, Bool.and_eq_true, bne_iff_ne] at h
  exact h.1.1.2

theorem Within.letReplayFrom (s : State) {st : Nat} (hst : st < 256) : Within [.LET_STREAM_STATUS] s (s.letReplayFrom st) :=
  (Within.onLet _ s st _).thenSet LET_STREAM_STATUS.MODE st 2 (by decide) (by omega)

theorem letReplayFrom_mode (s : State) (st : Nat) : (s.letReplayFrom st).get LET_STREAM_STATUS.MODE st = 2 := get_set_eq _ (by decide) (by decide)

theorem letReplayFrom_letS (s : State) (st : Nat) : (s.letReplayFrom st).letS st =
    { s.letS st with replayPoint := s.get LET_STREAM_STATUS.CUM st + 1, nakked := [] } := by
  rw [State.letReplayFrom, set_letS, onLet_letS_same]

/-- A stream that starts to replay has done so where it holds no record above CUM. -/
theorem letReplayFrom_done (s : State) {st : Nat} (hst : st < 256) : (s.letReplayFrom st).letReplayDone st =
    !((s.letS st).records.any fun r => s.get LET_STREAM_STATUS.CUM st < r.number) := by
  have hcum : (s.letReplayFrom st).get LET_STREAM_STATUS.CUM st = s.get LET_STREAM_STATUS.CUM st :=
    get_set_disjoint (s.onLet st _) (by decide) (by omega) (by omega)
  rw [State.letReplayDone, letReplayFrom_letS, hcum]
  congr 2
  funext r
  exact Bool.and_self (decide (s.get LET_STREAM_STATUS.CUM st < r.number))

/-- R318: a stream that begins to replay, with a data port to do it on. -/
theorem letReplayFrom_letMode {s : State} {st : Nat} (hst : st < 256) (hon : s.get LET_STREAM_CFG.STATE st ≠ 0) (hl : s.isLibero = false)
    (hup : s.letAnyUsable st = true) : (s.letReplayFrom st).letMode st =
      if (s.letS st).records.any (fun r => s.get LET_STREAM_STATUS.CUM st < r.number) then s.letReplayFrom st
      else (s.letReplayFrom st).set LET_STREAM_STATUS.MODE st 0 := by
  have h := Within.letReplayFrom s hst
  have hports : ∀ r ∈ letPortRegs, r ∉ [Reg.LET_STREAM_STATUS] := by decide
  have hon' : (s.letReplayFrom st).get LET_STREAM_CFG.STATE st ≠ 0 := by rwa [letCfg_of_within h hports hst rfl (by decide)]
  rw [letMode_replaying hon' (letReplayFrom_mode s st), letAnyUsable_of_within h hports hst, isLibero_of_within h hports, hup, hl,
    letReplayFrom_done s hst]
  cases (s.letS st).records.any fun r => s.get LET_STREAM_STATUS.CUM st < r.number <;> rfl

/-- R318: without an ACK for ACK_TMO_MS a stream replays from CUM + 1. -/
theorem answers_letAckTimeout {st : Fin 256} {s : State} (hserves : s.letServes st = true) (hl : s.isLibero = false)
    (hmode : s.get LET_STREAM_STATUS.MODE st = 0) (hretain : s.get LET_STREAM_CFG.RETAIN st = 1)
    (hcum : s.get LET_STREAM_STATUS.CUM st < s.get LET_STREAM_STATUS.NEXT st - 1) (hup : s.letAnyUsable st = true) :
    Answers (.letAckTimeout st) s fun u => (u.letS st).replayPoint = s.get LET_STREAM_STATUS.CUM st + 1 ∧ u.tbl = s.tbl
      ∧ u.get LET_STREAM_STATUS.MODE st = (if (s.letS st).records.any fun r => s.get LET_STREAM_STATUS.CUM st < r.number then 2 else 0) := by
  have hexec : exec (.letAckTimeout st) s = finish ((s.letReplayFrom st).letMode st) := by
    rw [exec_letAckTimeout, if_pos (by simp [hserves, hmode, State.flag, hretain, hcum, hup])]
  refine answers_of_exec hexec ?_
  rw [flushEvents_letS, flushEvents_tbl, flushEvents_get_early _ _ _ (by decide) (by omega), letMode_tbl,
    letReplayFrom_letMode st.isLt (letServes_on hserves) hl hup]
  have hpoint : ((s.letReplayFrom st).letS st).replayPoint = s.get LET_STREAM_STATUS.CUM st + 1 := by rw [letReplayFrom_letS]
  split
  · exact ⟨hpoint, rfl, letReplayFrom_mode s st⟩
  · exact ⟨hpoint, rfl, get_set_eq _ (by decide) (by decide)⟩

/-- One record is sent again on one port. -/
def State.letReplayOn (st : Nat) (it : Item) (pc : Nat × Nat) (s : State) : State :=
  ((s.deviceFrame (s.get LET_STREAM_CFG.CLIENT_PORT st) pc.2 (s.get LET_STREAM_CFG.CLASS st) it).replaySpend st pc.1
    ((s.sc? pc.2).elim 0 fun c => replayBytes c it.data)).incWrap LET_CNT.REPLAYED st

/-- A stream notes the instant of a record's replay. -/
def State.letStampReplay (st number : Nat) (s : State) : State :=
  s.onLet st fun x => { x with records := x.records.map fun z => if z.number == number then { z with replayedAt := some s.clk.sinceReset } else z }

theorem letReplay_eq (s : State) (st : Nat) (r : LetRec) (ports : List (Nat × Nat)) : ∃ it : Item, s.letReplay st r ports =
    (s.letStampReplay st r.number).forL ports (State.letReplayOn st it) := ⟨_, rfl⟩

theorem Within.replaySpend (rs : List Reg) (s : State) (st port bytes : Nat) : Within rs s (s.replaySpend st port bytes) := .of_parts rs rfl rfl

section

variable (s : State) {st : Nat} (it : Item) (pc : Nat × Nat) (hst : st < 256)

theorem letReplayOn_streams : (s.letReplayOn st it pc).lets.streams = s.lets.streams := by
  change (s.deviceFrame _ pc.2 _ it).lets.streams = _
  rw [deviceFrame_lets]

include hst in
theorem Within.letReplayOn : Within [.LET_CNT] s (s.letReplayOn st it pc) :=
  ((Within.deviceFrame _ s _ _ _ it).trans (.replaySpend _ _ _ _ _)).trans (.incWrap _ _ _ _ (by decide) (by omega))

include hst in
theorem letReplayOn_replayed : (s.letReplayOn st it pc).get LET_CNT.REPLAYED st = (s.get LET_CNT.REPLAYED st + 1) % 2 ^ LET_CNT.REPLAYED.width := by
  refine (incWrap_get _ LET_CNT.REPLAYED st 1 (by decide)).trans ?_
  rw [((Within.deviceFrame [] s _ _ _ it).trans (.replaySpend [] _ _ _ _)).get _ _ (by decide) (by decide) (by omega)]

end

section

variable (s : State) {st : Nat} (r : LetRec) (ports : List (Nat × Nat)) (hst : st < 256)

theorem letReplay_replayPoint : ((s.letReplay st r ports).letS st).replayPoint = (s.letS st).replayPoint := by
  obtain ⟨it, h⟩ := letReplay_eq s st r ports
  rw [h, letS_of_lets (forL_keeps (·.lets.streams) _ (fun pc t => letReplayOn_streams t it pc) ports _), State.letStampReplay, onLet_letS_same]

include hst in
theorem Within.letReplay : Within [.LET_CNT] s (s.letReplay st r ports) := by
  obtain ⟨it, h⟩ := letReplay_eq s st r ports
  rw [h]
  exact (Within.onLet _ s st _).trans (.forL ports (fun pc t => .letReplayOn t it pc hst) _)

include hst in
theorem letReplay_replayed : (s.letReplay st r ports).get LET_CNT.REPLAYED st =
    (s.get LET_CNT.REPLAYED st + ports.length) % 2 ^ LET_CNT.REPLAYED.width := by
  obtain ⟨it, h⟩ := letReplay_eq s st r ports
  rw [h]
  exact forL_counts LET_CNT.REPLAYED st (fun pc t => letReplayOn_replayed t it pc hst) ports _

end

theorem exec_letReplaySend_idle {st : Fin 256} {s : State} (h : s.letServes st = false ∨ s.letReplayReady st = false) :
    exec (.letReplaySend st) s = finish s := by
  refine congrArg finish (if_pos ?_)
  rcases h with h | h <;> simp [h]

theorem exec_letReplaySend_next {st : Fin 256} {s : State} {y : LetRec} (hserves : s.letServes st = true) (hl : s.isLibero = false)
    (hports : s.letReplayPorts st ≠ []) (hready : s.letReplayReady st = true) (hmode : s.get LET_STREAM_STATUS.MODE st = 2)
    (hy : (s.letS st).records.find? (fun y => (s.letS st).replayPoint ≤ y.number && s.get LET_STREAM_STATUS.CUM st < y.number) = some y) :
    exec (.letReplaySend st) s =
      finish (((s.onLet st fun x => { x with replayPoint := y.number + 1 }).letReplay st y (s.letReplayPorts st)).letMode st) := by
  refine congrArg finish ((if_neg (by simp [hserves, hl, hready, hports])).trans ?_)
  simp only [hmode, hy]

/-- R319: the next record is sent again on each port. -/
theorem answers_letReplaySend {st : Fin 256} {s : State} {y : LetRec} (hserves : s.letServes st = true) (hl : s.isLibero = false)
    (hports : s.letReplayPorts st ≠ []) (hready : s.letReplayReady st = true) (hmode : s.get LET_STREAM_STATUS.MODE st = 2)
    (hy : (s.letS st).records.find? (fun y => (s.letS st).replayPoint ≤ y.number && s.get LET_STREAM_STATUS.CUM st < y.number) = some y) :
    Answers (.letReplaySend st) s fun u => (u.letS st).replayPoint = y.number + 1
      ∧ u.get LET_CNT.REPLAYED st = (s.get LET_CNT.REPLAYED st + (s.letReplayPorts st).length) % 2 ^ LET_CNT.REPLAYED.width := by
  let s1 := s.onLet st fun x => { x with replayPoint := y.number + 1 }
  let t := s1.letReplay st y (s.letReplayPorts st)
  have hwithin : Within [.LET_CNT] s t := (Within.onLet _ s st _).trans (.letReplay s1 y _ st.isLt)
  have hstill : t.get LET_STREAM_STATUS.MODE st = 2 := (hwithin.get _ _ (by decide) (by decide) (by omega)).trans hmode
  have hon : t.get LET_STREAM_CFG.STATE st ≠ 0 := by
    rw [hwithin.get _ _ (by decide) (by decide) (by omega)]
    exact letServes_on hserves
  have hpoint : (t.letS st).replayPoint = y.number + 1 :=
    (letReplay_replayPoint s1 y _).trans (congrArg LetStream.replayPoint (onLet_letS_same s st _))
  have hmodeS : (t.letMode st).letS st = t.letS st := by
    rw [letMode_replaying hon hstill]
    split
    · rfl
    · split <;> rfl
  refine answers_of_exec (exec_letReplaySend_next hserves hl hports hready hmode hy) ⟨?_, ?_⟩
  · rw [flushEvents_letS]
    exact (congrArg LetStream.replayPoint hmodeS).trans hpoint
  · rw [flushEvents_get_early _ _ _ (by decide) (by omega), (FramersWithin.letMode t st.isLt).toWithin.get _ _ (by decide) (by decide) (by omega)]
    exact letReplay_replayed s1 y _ st.isLt

/-! ### Shut-down (R338) -/

theorem exec_letShutdownDrainEnd (st : Fin 256) (s : State) : exec (.letShutdownDrainEnd st) s =
    finish (if 2 ≤ s.get LET_STREAM_CFG.STATE st && (s.letS st).closeStep < 3 then s.letDrained st else s) := rfl

theorem exec_letShutdownQuiet (st : Fin 256) (s : State) : exec (.letShutdownQuiet st) s = finish (
    if 2 ≤ s.fnState (.stream st) && ((s.letS st).closeStep == 3 || !s.inService (.stream st)) then s.fnDone (.stream st) else s) := rfl

/-- What the end of a drain leaves of a stream. -/
def LetStream.drained (x : LetStream) : LetStream :=
  { x with records := [], held := [], extra := [], lost := [], gaps := [], nakked := [], closeStep := 3 }

/-- R338: the end of a drain frees the stream's part of the reorder partition and of its queue, then its records and held frames. -/
theorem letDrained_eq (s : State) (st : Nat) : ∃ n : Int, s.letDrained st =
    (((((s.reorderAdd (s.letRegion st) n).letFreeQueue st (2 ^ 64)).onLet st LetStream.drained).letRetained st).set LET_STREAM_STATUS.WAITING st 0
      ).letWindowOf st := ⟨_, rfl⟩

theorem letDrained_tbl (s : State) {st : Nat} (hst : st < 256) : (s.letDrained st).tbl = s.tbl := by
  obtain ⟨n, h⟩ := letDrained_eq s st
  rw [h, (LetKept.letWindowOf _ hst).tbl]
  exact (LetKept.letFreeQueue (s.reorderAdd (s.letRegion st) n) st (2 ^ 64)).tbl

theorem letDrained_waiting (s : State) {st : Nat} (hst : st < 256) : (s.letDrained st).get LET_STREAM_STATUS.WAITING st = 0 := by
  obtain ⟨n, h⟩ := letDrained_eq s st
  rw [h, (LetKept.letWindowOf _ hst).get _ (by decide) st hst]
  exact get_set_eq _ (by decide) (by decide)

/-- Beside what follows its mode, the stream is as the drain leaves it. -/
theorem letDrained_letS (s : State) {st : Nat} (hst : st < 256) : ∃ x : LetStream,
    ((s.letDrained st).letS st).besideMode = x.drained.besideMode := by
  obtain ⟨n, h⟩ := letDrained_eq s st
  rw [h, (LetKept.letWindowOf _ hst).streams]
  exact ⟨_, congrArg LetStream.besideMode (onLet_letS_same _ st LetStream.drained)⟩

/-- R338: step 3 of a shut-down. -/
theorem answers_letShutdownDrainEnd {st : Fin 256} {s : State} (hstop : 2 ≤ s.get LET_STREAM_CFG.STATE st) (hstep : (s.letS st).closeStep < 3) :
    Answers (.letShutdownDrainEnd st) s fun u => (u.letS st).records = [] ∧ (u.letS st).held = [] ∧ (u.letS st).gaps = []
      ∧ (u.letS st).closeStep = 3 ∧ u.get LET_STREAM_STATUS.WAITING st = 0 ∧ u.tbl = s.tbl := by
  have hexec : exec (.letShutdownDrainEnd st) s = finish (s.letDrained st) := by
    rw [exec_letShutdownDrainEnd, if_pos (by simp [hstop, hstep])]
  obtain ⟨x, hx⟩ := letDrained_letS s st.isLt
  have hpart {β : Type} (v : LetStream → β) (hv : ∀ y : LetStream, v y.besideMode = v y) : v ((s.letDrained st).letS st) = v x.drained := by
    rw [← hv, hx, hv]
  refine answers_of_exec hexec ?_
  rw [flushEvents_letS, flushEvents_tbl, flushEvents_letFields _ (by decide) st.isLt]
  exact ⟨hpart _ fun _ => rfl, hpart _ fun _ => rfl, hpart _ fun _ => rfl, hpart _ fun _ => rfl, letDrained_waiting s st.isLt,
    letDrained_tbl s st.isLt⟩

/-- R338: the quiet time ends the shut-down. -/
theorem answers_letShutdownQuiet {st : Fin 256} {s : State} (hstop : s.fnState (.stream st) = 2) (hstep : (s.letS st).closeStep = 3) :
    Answers (.letShutdownQuiet st) s fun u => FnOff u (.stream st) := by
  have hexec : exec (.letShutdownQuiet st) s = finish (s.fnDone (.stream st)) := by
    rw [exec_letShutdownQuiet, if_pos (by simp [hstop, hstep])]
  exact answers_of_exec hexec ((fnOff_fnDone s (fun _ => Fn.noConfusion) hstop).flushEvents Fn.noConfusion)

end Sys2Proof.Machine
end

section
/-!
PROOFS. The receiving half of a let stream (R323 to R325, R328, R330, R337): the messages it sends, its gaps and its losses, and the HELLOs
that it hears.
-/

namespace Sys2Proof.Machine

/-! ### Frames delivered and freed leave the streams -/

section

variable (s : State)

theorem sendPfc_lets (p mask quanta : Nat) : (s.sendPfc p mask quanta).lets = s.lets := by
  unfold State.sendPfc
  split
  · exact when_keeps State.lets _ _ _ (part_of_noRegs State.lets (fun _ => rfl) (pmcEvent_noRegs ..))
  · rfl

theorem pauseCheck_lets (a : Nat) : (s.pauseCheck a).lets = s.lets := by
  unfold State.pauseCheck
  dsimp only
  split
  · rfl
  · split
    · exact sendPfc_lets ..
    · split
      · exact sendPfc_lets ..
      · rfl

theorem freeIngress_lets (it : Item) : (s.freeIngress it).lets = s.lets := by
  unfold State.freeIngress
  split
  · unfold State.chargeRing
    split <;> rfl
  · split
    · exact (part_of_noRegs State.lets (fun _ => rfl) (bufShow_noRegs ..)).trans (pauseCheck_lets ..)
    · rfl

theorem itemComplete_lets (it : Item) (status : Nat) (time : Option Word) : (s.itemComplete it status time).lets = s.lets := by
  unfold State.itemComplete
  split
  · exact part_of_besideHif State.lets (fun _ => rfl) (ringComplete_besideHif ..)
  · rfl

theorem burn_lets (it : Item) : (s.burn it).lets = s.lets := by
  unfold State.burn State.stat
  split
  · split
    · split <;> rfl
    · rfl
  · rfl

theorem noQueue_lets (n : Nat) (it : Item) : (s.noQueue n it).lets = s.lets := by
  unfold State.noQueue State.refuseFrame
  rw [freeIngress_lets, itemComplete_lets, burn_lets]
  rfl

theorem route_lets (it : Item) : (s.route it).lets = s.lets := by
  unfold State.route
  dsimp only
  split
  · exact freeIngress_lets ..
  · exact freeIngress_lets ..
  · split
    · rfl
    · exact noQueue_lets ..
  · split
    · exact noQueue_lets ..
    · rfl

end

/-! ### Messages of the receiving half (R324, R328) -/

theorem letSendAck_linked {s : State} {st : Nat} (h : (s.letS st).peer ≠ none) :
    s.letSendAck st = (s.onLet st fun x => { x with sinceAck := 0 }).letSend (s.letAck st) := if_pos (Option.isSome_iff_ne_none.mpr h)

theorem Within.letSendAck (s : State) {st : Nat} (hst : st < 256) : Within [.LET_CNT] s (s.letSendAck st) := by
  unfold State.letSendAck
  split
  · exact (Within.onLet _ s st _).trans (.letSend _ _ hst)
  · exact .refl _ s

/-- `u` has sent, after what `s` had sent, a message once on every usable control port of its stream. -/
def LetSent (s u : State) (m : LetMsg) : Prop := u.lets.sent = s.lets.sent ++ (s.letOutPorts m.stream).map fun p => (p, m)

theorem LetSent.flushEvents {s u : State} {m : LetMsg} (h : LetSent s u m) : LetSent s u.flushEvents m := by rwa [LetSent, flushEvents_lets]

/-- Updates before a message that send nothing and leave the ports of its stream. -/
theorem LetSent.after {rs : List Reg} {s t u : State} {m : LetMsg} (h : LetSent t u m) (hw : Within rs s t) (hrs : ∀ r ∈ letPortRegs, r ∉ rs)
    (hst : m.stream < 256) (hs : t.lets.sent = s.lets.sent) : LetSent s u m := by
  rwa [LetSent, letOutPorts_of_within hw hrs hst, hs] at h

theorem letSent_letSend_onLet {s : State} (st : Nat) (f : LetStream → LetStream) (m : LetMsg) (hl : s.isLibero = false) (hst : m.stream < 256) :
    LetSent s ((s.onLet st f).letSend m) m := by
  have h : Within [] s (s.onLet st f) := .onLet _ s st f
  exact LetSent.after (letSend_sent _ m ((isLibero_of_within h (by decide)).trans hl)) h (by decide) hst rfl

section

variable {st : Fin 256} {s : State}

theorem exec_letAckTimer : exec (.letAckTimer st) s = finish (if s.letServes st then s.letSendAck st else s) := rfl
theorem exec_letHelloTimer : exec (.letHelloTimer st) s = finish (if s.letServes st then s.letSend (s.letHello st) else s) := rfl
theorem exec_letNakRepeat : exec (.letNakRepeat st) s = finish (if s.letServes st then s.letSendNak st else s) := rfl

/-- The skew wait of the gap that holds a number ends. -/
def LetStream.skewOver (k : Nat) (x : LetStream) : LetStream :=
  { x with gaps := x.gaps.map fun g => if g.first ≤ k && k ≤ g.last then { g with skewEnded := true } else g }

theorem exec_letSkewExpiry {value : BitVec 64} : exec (.letSkewExpiry st value) s = finish (
    if s.letServes st && (s.letS st).gaps.any (fun g => g.first ≤ value.toNat && value.toNat ≤ g.last && !g.skewEnded) then
      (s.onLet st (LetStream.skewOver value.toNat)).letSendNak st
    else s) := rfl

theorem exec_letLossExpiry {first last : BitVec 64} : exec (.letLossExpiry st first last) s =
    finish (if s.letServes st then s.letLost st (s.letNamed st (·.naked) [(first.toNat, last.toNat)]) else s) := rfl

theorem answers_letAckTimer (hserves : s.letServes st = true) (hl : s.isLibero = false) (hpeer : (s.letS st).peer ≠ none) :
    Answers (.letAckTimer st) s fun u => LetSent s u (s.letAck st) := by
  have hexec : exec (.letAckTimer st) s = finish ((s.onLet st fun x => { x with sinceAck := 0 }).letSend (s.letAck st)) := by
    rw [exec_letAckTimer, if_pos hserves, letSendAck_linked hpeer]
  exact answers_of_exec hexec (LetSent.flushEvents (letSent_letSend_onLet st _ _ hl st.isLt))

theorem answers_letHelloTimer (hserves : s.letServes st = true) (hl : s.isLibero = false) :
    Answers (.letHelloTimer st) s fun u => LetSent s u (s.letHello st) := by
  have hexec : exec (.letHelloTimer st) s = finish (s.letSend (s.letHello st)) := by rw [exec_letHelloTimer, if_pos hserves]
  exact answers_of_exec hexec (LetSent.flushEvents (letSend_sent s _ hl))

/-- The NAK that names one run. -/
def State.letNakOf (s : State) (st first last : Nat) : LetMsg := { s.letAck st with subtype := 2, ranges := [(first, last)] }

/-- The gaps of a list are noted as named by a NAK. -/
def LetStream.noteNak (named : List LetGap) (x : LetStream) : LetStream :=
  { x with gaps := x.gaps.map fun g => if named.any (·.first == g.first) then { g with naked := true } else g }

/-- R324: with one gap, whose skew wait has ended, a NAK names it. -/
theorem letSendNak_one {g : LetGap} (hgaps : (s.letS st).gaps = [g]) (hskew : g.skewEnded = true) (hpeer : (s.letS st).peer ≠ none) :
    s.letSendNak st = (s.onLet st (LetStream.noteNak [g])).letSend (s.letNakOf st g.first g.last) := by
  have hnamed : ((s.letS st).gaps.filter (·.skewEnded)).take 16 = [g] := by simp [hgaps, hskew]
  unfold State.letSendNak
  rw [hnamed]
  exact if_neg (by simpa using hpeer)

/-- R324: the NAK of one gap leaves on the stream's ports, and the gap is noted as named. -/
theorem letSendNak_shows {g : LetGap} (hl : s.isLibero = false) (hgaps : (s.letS st).gaps = [g]) (hskew : g.skewEnded = true)
    (hpeer : (s.letS st).peer ≠ none) :
    ((s.letSendNak st).letS st).gaps = [{ g with naked := true }] ∧ LetSent s (s.letSendNak st) (s.letNakOf st g.first g.last) := by
  have hnoted : ((s.letS st).noteNak [g]).gaps = [{ g with naked := true }] := by simp [LetStream.noteNak, hgaps]
  rw [letSendNak_one hgaps hskew hpeer]
  exact ⟨by rw [letSend_letS, onLet_letS_same, hnoted], letSent_letSend_onLet st _ _ hl st.isLt⟩

theorem answers_letNakRepeat {g : LetGap} (hserves : s.letServes st = true) (hl : s.isLibero = false) (hgaps : (s.letS st).gaps = [g])
    (hskew : g.skewEnded = true) (hpeer : (s.letS st).peer ≠ none) : Answers (.letNakRepeat st) s fun u =>
      (u.letS st).gaps = [{ g with naked := true }] ∧ LetSent s u (s.letNakOf st g.first g.last) := by
  have hexec : exec (.letNakRepeat st) s = finish (s.letSendNak st) := by rw [exec_letNakRepeat, if_pos hserves]
  obtain ⟨hnoted, hsent⟩ := letSendNak_shows hl hgaps hskew hpeer
  exact answers_of_exec hexec ⟨by rw [flushEvents_letS, hnoted], hsent.flushEvents⟩

/-- R324: the skew wait of a gap ends, and a NAK names it. -/
theorem answers_letSkewExpiry {g : LetGap} {value : BitVec 64} (hserves : s.letServes st = true) (hl : s.isLibero = false)
    (hgaps : (s.letS st).gaps = [g]) (hin : g.first ≤ value.toNat ∧ value.toNat ≤ g.last) (hskew : g.skewEnded = false)
    (hpeer : (s.letS st).peer ≠ none) : Answers (.letSkewExpiry st value) s fun u =>
      (u.letS st).gaps = [{ g with skewEnded := true, naked := true }] ∧ LetSent s u (s.letNakOf st g.first g.last) := by
  let t := s.onLet st (LetStream.skewOver value.toNat)
  have ht : t.letS st = (s.letS st).skewOver value.toNat := onLet_letS_same s st _
  have hexec : exec (.letSkewExpiry st value) s = finish (t.letSendNak st) := by
    rw [exec_letSkewExpiry, if_pos (by simp [hserves, hgaps, hin.1, hin.2, hskew])]
  have hended : (t.letS st).gaps = [{ g with skewEnded := true }] := by
    rw [ht]
    simp [LetStream.skewOver, hgaps, hin.1, hin.2]
  have hpeer' : (t.letS st).peer ≠ none := by rwa [ht]
  have h : Within [] s t := .onLet _ s st _
  have hmsg : t.letNakOf st g.first g.last = s.letNakOf st g.first g.last := by
    rw [State.letNakOf, State.letAck, ht]
    rfl
  obtain ⟨hnoted, hsent⟩ := letSendNak_shows ((isLibero_of_within h (by decide)).trans hl) hended rfl hpeer'
  exact answers_of_exec hexec ⟨by rw [flushEvents_letS, hnoted],
    (LetSent.after (hmsg ▸ hsent) h (by decide) st.isLt rfl).flushEvents⟩

end

/-! ### Gaps and delivery (R323, R324) -/

theorem Within.reorderAdd (rs : List Reg) (s : State) (n : Nat) (d : Int) : Within rs s (s.reorderAdd n d) := .of_parts rs rfl rfl

/-- The gaps of a stream as they are recomputed. -/
def State.letGapsNow (s : State) (st : Nat) : List LetGap :=
  (s.letMissing st).map fun r => match (s.letS st).gaps.find? fun g => g.first ≤ r.2 && r.1 ≤ g.last with
    | some g => { g with first := r.1, last := r.2 }
    | none => ({ first := r.1, last := r.2 } : LetGap)

section

variable (s : State) {st : Nat}

theorem letGaps_letS (st : Nat) : (s.letGaps st).letS st = { s.letS st with gaps := s.letGapsNow st } := by
  rw [State.letGaps, set_letS, onLet_letS_same]
  rfl

theorem Within.letGaps (hst : st < 256) : Within [.LET_STREAM_STATUS] s (s.letGaps st) :=
  (Within.onLet _ s st _).thenSet LET_STREAM_STATUS.WAITING st _ (by decide) (by omega)

theorem letGaps_rxNext (hst : st < 256) : (s.letGaps st).get LET_STREAM_STATUS.RX_NEXT st = s.get LET_STREAM_STATUS.RX_NEXT st :=
  get_set_disjoint (s.onLet st _) (by decide) (by omega) (by omega)

theorem letGaps_sent (st : Nat) : (s.letGaps st).lets.sent = s.lets.sent := rfl

/-- A run that comes from no gap has its skew wait ahead of it. -/
theorem letGapsNow_fresh (h : (s.letS st).gaps = []) : ∀ g ∈ s.letGapsNow st, g.skewEnded = false := by
  intro g hg
  simp only [State.letGapsNow, h, List.find?_nil, List.mem_map] at hg
  obtain ⟨r, -, rfl⟩ := hg
  rfl

/-- Table 9-4: one second frame that the bitmap has reached is discarded. -/
def State.letDupOut (st : Nat) (e : Nat × Item) (s : State) : State :=
  (s.reorderAdd (s.letRegion st) (-(e.2.data.length : Int))).incWrap LET_CNT.DUP st

/-- The second frames of numbers below a limit are no longer held. -/
def LetStream.dropDups (lim : Nat) (x : LetStream) : LetStream := { x with extra := x.extra.filter fun e => lim ≤ e.1 }

theorem letMark_eq (st : Nat) : s.letMark st = (s.onLet st (LetStream.dropDups (s.get LET_STREAM_STATUS.RX_NEXT st + 65536))).forL
    ((s.letS st).extra.filter fun e => e.1 < s.get LET_STREAM_STATUS.RX_NEXT st + 65536) (State.letDupOut st) := rfl

theorem letMark_letS (st : Nat) : (s.letMark st).letS st = (s.letS st).dropDups (s.get LET_STREAM_STATUS.RX_NEXT st + 65536) := by
  rw [letMark_eq, letS_of_lets (forL_keeps (·.lets.streams) (State.letDupOut st) (fun _ _ => rfl) _ _), onLet_letS_same]

theorem letMark_sent (st : Nat) : (s.letMark st).lets.sent = s.lets.sent :=
  forL_keeps (·.lets.sent) (State.letDupOut st) (fun _ _ => rfl) _ _

theorem letMark_get (hst : st < 256) {f : Field} (hf : LET_CNT.DUP.disjoint f = true) {j : Nat} (hj : j < 8192) :
    (s.letMark st).get f j = s.get f j :=
  forL_keeps (State.get · f j) (State.letDupOut st) (fun _ t => get_set_disjoint _ hf (by omega) hj) _ _

theorem Within.letMark (hst : st < 256) : Within [.LET_CNT] s (s.letMark st) := by
  have hout (e : Nat × Item) (t : State) : Within [.LET_CNT] t (t.letDupOut st e) :=
    (Within.reorderAdd _ t _ _).trans (.incWrap _ LET_CNT.DUP st 1 (by decide) (by omega))
  exact (Within.onLet _ s st _).trans (.forL _ hout _)

/-- R328: an ACK is sent when ACK_FRAMES frames have been delivered. -/
def State.letAckDue (st : Nat) (s : State) : State :=
  s.when (max 1 (s.get LET_TIMING.ACK_FRAMES) ≤ (s.letS st).sinceAck) fun s => s.letSendAck st

theorem letAdvanceAll_eq (st : Nat) : s.letAdvanceAll st =
    ((((s.forN ((s.letS st).held.length + (s.letS st).lost.length) fun _ s => s.letAdvance st).letMark st).letGaps st).letAckDue st) := rfl

/-- Where nothing is held, lost or delivered, the gaps alone follow. -/
theorem letAdvanceAll_still (hheld : (s.letS st).held = []) (hlost : (s.letS st).lost = []) (hack : (s.letS st).sinceAck = 0) :
    s.letAdvanceAll st = (s.letMark st).letGaps st := by
  have hdue (t : State) (ht : (t.letS st).sinceAck = 0) : t.letAckDue st = t := by
    rw [State.letAckDue, ht, decide_eq_false (by omega)]
    rfl
  rw [letAdvanceAll_eq, hheld, hlost]
  refine hdue _ ?_
  rw [letGaps_letS]
  exact (congrArg LetStream.sinceAck (letMark_letS s st)).trans hack

end

/-! ### What is heard of the sender (R330) -/

/-- A lost run waits to be passed. -/
def LetStream.noteLost (r : Nat × Nat) (x : LetStream) : LetStream := { x with lost := x.lost ++ [r] }

/-- A lost run has been passed. -/
def LetStream.passLost (r : Nat × Nat) (x : LetStream) : LetStream := { x with lost := x.lost.filter fun y => y != r }

/-- The NEXT of a HELLO is noted. -/
def LetStream.hear (next : Nat) (x : LetStream) : LetStream := { x with helloNext := next }

/-- What the receiving half has recorded of the sending half: its INSTANCE and the NEXT of its last HELLO. -/
def State.letHeard (s : State) (st : Nat) : Option Nat × Nat := ((s.letS st).peer, (s.letS st).helloNext)

section

variable (s : State) (i st : Nat)

theorem onLet_letHeard {f : LetStream → LetStream} (hf : ∀ x, ((f x).peer, (f x).helloNext) = (x.peer, x.helloNext)) :
    (s.onLet st f).letHeard i = s.letHeard i := onLet_part s st (fun x => (x.peer, x.helloNext)) hf i

theorem letHeard_of_lets {s t : State} (h : t.lets.streams = s.lets.streams) (i : Nat) : t.letHeard i = s.letHeard i := by
  rw [State.letHeard, letS_of_lets h, State.letHeard]

theorem letDeliver_letHeard (it : Item) : (s.letDeliver st it).letHeard i = s.letHeard i := by
  have hcount : ((s.incWrap LET_CNT.DELIVERED st).onLet st fun x => { x with sinceAck := x.sinceAck + 1 }).letHeard i = s.letHeard i :=
    onLet_letHeard _ i st fun _ => rfl
  unfold State.letDeliver
  dsimp only
  split
  · exact (letHeard_of_lets (congrArg LetState.streams (freeIngress_lets ..)) i).trans hcount
  · exact (letHeard_of_lets (congrArg LetState.streams (route_lets ..)) i).trans hcount

theorem letAdvance_letHeard : (s.letAdvance st).letHeard i = s.letHeard i := by
  unfold State.letAdvance
  dsimp only
  split
  · next r _ => exact onLet_letHeard s i st (f := LetStream.passLost r) fun _ => rfl
  · split
    · split
      · exact (letDeliver_letHeard _ i st _).trans (onLet_letHeard s i st (f := fun x => { x with held := x.held.erase _ }) fun _ => rfl)
      · rfl
    · rfl

theorem letGaps_letHeard : (s.letGaps st).letHeard i = s.letHeard i :=
  onLet_letHeard s i st (f := fun x => { x with gaps := s.letGapsNow st }) fun _ => rfl

theorem letMark_letHeard : (s.letMark st).letHeard i = s.letHeard i :=
  (forL_keeps (State.letHeard · i) (State.letDupOut st) (fun _ _ => rfl) _ _).trans (onLet_letHeard s i st fun _ => rfl)

theorem letSendAck_letHeard : (s.letSendAck st).letHeard i = s.letHeard i := by
  unfold State.letSendAck
  split
  · exact (letHeard_of_lets (letSend_streams ..) i).trans (onLet_letHeard s i st fun _ => rfl)
  · rfl

theorem letAdvanceAll_letHeard : (s.letAdvanceAll st).letHeard i = s.letHeard i := by
  rw [letAdvanceAll_eq, State.letAckDue, when_keeps (State.letHeard · i) _ _ (fun s => s.letSendAck st) (letSendAck_letHeard ..),
    letGaps_letHeard, letMark_letHeard, forN_keeps (State.letHeard · i) _ fun _ t => letAdvance_letHeard t i st]

/-- R325: a run is counted and reported, and joins the lost runs. -/
def State.letLostRun (st : Nat) (r : Nat × Nat) (s : State) : State :=
  ((s.incWrap LET_CNT.LOSS st (r.2 + 1 - r.1)).raise (80 + st / 8) 2 st r.1 r.2).onLet st (LetStream.noteLost r)

theorem letLost_eq (runs : List (Nat × Nat)) : s.letLost st runs = (s.forL runs (State.letLostRun st)).letAdvanceAll st := rfl

theorem letLost_letHeard (runs : List (Nat × Nat)) : (s.letLost st runs).letHeard i = s.letHeard i := by
  rw [letLost_eq, letAdvanceAll_letHeard]
  exact forL_keeps (State.letHeard · i) (State.letLostRun st) (fun r t => onLet_letHeard _ i st (f := LetStream.noteLost r) fun _ => rfl) runs s

end

/-! ### HELLO (R330, R337) -/

/-- The stream notes the NEXT of a HELLO, and its gaps follow. -/
def State.letHear (st next : Nat) (s : State) : State := (s.onLet st (LetStream.hear next)).letGaps st

/-- The numbers that a HELLO says are not held: those below FIRST, and its ranges. -/
def LetMsg.unheld (m : LetMsg) : List (Nat × Nat) := (if m.value == 0 then [] else [(0, m.value - 1)]) ++ m.ranges

theorem letHelloApply_eq (s : State) (m : LetMsg) : s.letHelloApply m =
    (s.letHear m.stream m.aux).letLost m.stream ((s.letHear m.stream m.aux).letNamed m.stream (·.skewEnded) m.unheld) := rfl

theorem letHelloApply_letHeard (s : State) (m : LetMsg) : (s.letHelloApply m).letHeard m.stream = ((s.letS m.stream).peer, m.aux) := by
  rw [letHelloApply_eq, letLost_letHeard, State.letHear, letGaps_letHeard, State.letHeard, onLet_letS_same]
  rfl

theorem letHelloRx_known {s : State} {m : LetMsg} (h : (s.letS m.stream).peer = some m.instId) : s.letHelloRx m = s.letHelloApply m :=
  if_pos (by simp [h])

theorem letHelloRx_new {s : State} {m : LetMsg} (h : (s.letS m.stream).peer ≠ some m.instId) :
    s.letHelloRx m = (s.letRestart m.stream m.instId m.value).letHelloApply m := if_neg (by simpa using h)

theorem exec_letHelloRx_taken {st : Fin 256} {sc : Option (Fin 16384)} {port : Fin 32} {inst : BitVec 32} {value next : BitVec 64}
    {ranges : List (BitVec 64 × BitVec 64)} {s : State} (hvia : s.letViaOk st (sc.map (·.val)) port = true) (hlen : ranges.length ≤ 16) :
    exec (.letHelloRx st sc port inst value next ranges) s = finish (s.letHelloRx (letMsgOf 3 st inst value next.toNat ranges)) := by
  rw [exec_letHelloRx, if_neg (by omega), letControl_hello hvia]

/-- R330: a HELLO of the recorded INSTANCE. -/
theorem answers_letHelloRx_known {st : Fin 256} {sc : Option (Fin 16384)} {port : Fin 32} {inst : BitVec 32} {value next : BitVec 64}
    {ranges : List (BitVec 64 × BitVec 64)} {s : State} (hvia : s.letViaOk st (sc.map (·.val)) port = true) (hlen : ranges.length ≤ 16)
    (hpeer : (s.letS st).peer = some inst.toNat) : Answers (.letHelloRx st sc port inst value next ranges) s fun u =>
      (u.letS st).peer = some inst.toNat ∧ (u.letS st).helloNext = next.toNat := by
  let m := letMsgOf 3 st inst value next.toNat ranges
  have hheard : (s.letHelloRx m).letHeard st = (some inst.toNat, next.toNat) := by
    rw [letHelloRx_known (m := m) hpeer]
    exact (letHelloApply_letHeard s m).trans (congrArg (·, next.toNat) hpeer)
  refine answers_of_exec (exec_letHelloRx_taken hvia hlen) ?_
  rw [flushEvents_letS]
  exact ⟨congrArg Prod.fst hheard, congrArg Prod.snd hheard⟩

/-- A receiving half that restarts under an INSTANCE. -/
def LetStream.restarted (inst : Nat) (x : LetStream) : LetStream :=
  { x with peer := some inst, held := [], extra := [], lost := [], gaps := [], helloNext := 0, sinceAck := 0 }

/-- R337: the ACK with which a restarted receiving half answers. -/
def restartAck (st inst first : Nat) : LetMsg := { subtype := 1, stream := st, instId := inst, value := first - 1, aux := 0, ranges := [] }

/-- What a restart under an INSTANCE at a number leaves. -/
structure LetRestarted (s u : State) (st inst first : Nat) : Prop where
  stream : u.letS st = (s.letS st).restarted inst
  rxNext : u.get LET_STREAM_STATUS.RX_NEXT st = first
  sent : LetSent s u (restartAck st inst first)

/-- The receiving half as it restarts, before it answers. -/
def State.letAnew (st inst first n : Nat) (d : Int) (s : State) : State :=
  ((((s.incWrap LET_CNT.REJECTED st n).reorderAdd (s.letRegion st) d).onLet st (LetStream.restarted inst)).set LET_STREAM_STATUS.RX_NEXT st first
    ).set LET_STREAM_STATUS.WAITING st 0

theorem letRestart_eq (s : State) (st inst first : Nat) : ∃ (n : Nat) (d : Int) (had : Bool), s.letRestart st inst first =
    ((s.letAnew st inst first n d).letSendAck st).when had fun s => s.raise (80 + st / 8) 3 st := ⟨_, _, _, rfl⟩

section

variable (s : State) {st inst first : Nat} (n : Nat) (d : Int) (hst : st < 256)

theorem letAnew_letS : (s.letAnew st inst first n d).letS st = (s.letS st).restarted inst := onLet_letS_same _ st _

include hst in
theorem Within.letAnew : Within [.LET_CNT, .LET_STREAM_STATUS] s (s.letAnew st inst first n d) := by
  have hcount : Within [.LET_CNT, .LET_STREAM_STATUS] s (s.incWrap LET_CNT.REJECTED st n) := .incWrap _ _ _ _ (by decide) (by omega)
  exact (((hcount.trans (.reorderAdd _ _ _ d)).trans (.onLet _ _ _ _)).thenSet _ _ _ (by decide) (by omega)).thenSet _ _ _ (by decide) (by omega)

include hst in
theorem letAnew_rxNext (hfirst : first < 2 ^ 64) : (s.letAnew st inst first n d).get LET_STREAM_STATUS.RX_NEXT st = first :=
  (get_set_disjoint _ (by decide) (by omega) (by omega)).trans (get_set_eq _ (by decide) hfirst)

include hst in
theorem letRestart_restarts (hl : s.isLibero = false) (hfirst : first < 2 ^ 64) :
    LetRestarted s (s.letRestart st inst first) st inst first := by
  obtain ⟨n, d, had, h⟩ := letRestart_eq s st inst first
  let t := s.letAnew st inst first n d
  have hw : Within [.LET_CNT, .LET_STREAM_STATUS] s t := .letAnew s n d hst
  have hanew : t.letS st = (s.letS st).restarted inst := letAnew_letS s n d
  have hack : t.letSendAck st = (t.onLet st fun x => { x with sinceAck := 0 }).letSend (t.letAck st) :=
    letSendAck_linked (by rw [hanew]; exact Option.some_ne_none inst)
  have hmsg : t.letAck st = restartAck st inst first := by
    rw [State.letAck, hanew, letAnew_rxNext s n d hst hfirst]
    rfl
  have hsent : LetRestarted s (t.letSendAck st) st inst first := by
    refine ⟨?_, ?_, ?_⟩
    · rw [hack, letSend_letS, onLet_letS_same, hanew]
      rfl
    · rw [(Within.letSendAck t hst).get _ _ (by decide) (by decide) (by omega), letAnew_rxNext s n d hst hfirst]
    · rw [hack, hmsg]
      exact LetSent.after (letSent_letSend_onLet st _ _ ((isLibero_of_within hw (by decide)).trans hl) hst) hw (by decide) hst rfl
  rw [h]
  cases had
  · exact hsent
  · exact ⟨hsent.stream, hsent.rxNext, hsent.sent⟩

end

theorem letNamed_none {s : State} {st : Nat} {p : LetGap → Bool} (h : ∀ g ∈ (s.letS st).gaps, p g = false) (runs : List (Nat × Nat)) :
    s.letNamed st p runs = [] := by
  rw [State.letNamed, List.filter_eq_nil_iff.mpr fun g hg => by simp [h g hg]]
  rfl

/-- A HELLO applied to a receiving half that holds nothing moves its NEXT and its gaps alone. -/
theorem letHelloApply_empty {s : State} {m : LetMsg} {x : LetStream} (h : s.letS m.stream = x.restarted m.instId) : s.letHelloApply m =
    ((s.letHear m.stream m.aux).letMark m.stream).letGaps m.stream := by
  have hheard : (s.onLet m.stream (LetStream.hear m.aux)).letS m.stream = { x.restarted m.instId with helloNext := m.aux } := by
    rw [onLet_letS_same, h]
    rfl
  have hstream : (s.letHear m.stream m.aux).letS m.stream = { { x.restarted m.instId with helloNext := m.aux } with
      gaps := (s.onLet m.stream (LetStream.hear m.aux)).letGapsNow m.stream } := by
    rw [State.letHear, letGaps_letS, hheard]
  have hfresh : ∀ g ∈ ((s.letHear m.stream m.aux).letS m.stream).gaps, g.skewEnded = false := by
    rw [hstream]
    exact letGapsNow_fresh _ (congrArg LetStream.gaps hheard)
  rw [letHelloApply_eq, letNamed_none hfresh]
  exact letAdvanceAll_still _ (congrArg LetStream.held hstream) (congrArg LetStream.lost hstream) (congrArg LetStream.sinceAck hstream)

/-- R330, R337: a HELLO of another INSTANCE. -/
theorem answers_letHelloRx_new {st : Fin 256} {sc : Option (Fin 16384)} {port : Fin 32} {inst : BitVec 32} {value next : BitVec 64}
    {ranges : List (BitVec 64 × BitVec 64)} {s : State} (hvia : s.letViaOk st (sc.map (·.val)) port = true) (hl : s.isLibero = false)
    (hlen : ranges.length ≤ 16) (hpeer : (s.letS st).peer ≠ some inst.toNat) :
    Answers (.letHelloRx st sc port inst value next ranges) s fun u =>
      (u.letS st).peer = some inst.toNat ∧ u.get LET_STREAM_STATUS.RX_NEXT st = value.toNat ∧ (u.letS st).held = []
        ∧ (u.letS st).helloNext = next.toNat ∧ LetSent s u (restartAck st inst.toNat value.toNat) := by
  let m := letMsgOf 3 st inst value next.toNat ranges
  let r := s.letRestart st inst.toNat value.toNat
  have hr : LetRestarted s r st inst.toNat value.toNat := letRestart_restarts s st.isLt hl value.isLt
  let t := r.letHear st next.toNat
  have hexec : exec (.letHelloRx st sc port inst value next ranges) s = finish ((t.letMark st).letGaps st) := by
    rw [exec_letHelloRx_taken hvia hlen, letHelloRx_new (m := m) hpeer]
    exact congrArg finish (letHelloApply_empty (m := m) hr.stream)
  have hstream : ((t.letMark st).letGaps st).letS st = { (t.letS st).dropDups (t.get LET_STREAM_STATUS.RX_NEXT st + 65536) with
      gaps := (t.letMark st).letGapsNow st } := by rw [letGaps_letS, letMark_letS]
  have ht : t.letS st = { { (s.letS st).restarted inst.toNat with helloNext := next.toNat } with
      gaps := (r.onLet st (LetStream.hear next.toNat)).letGapsNow st } := by
    change ((r.onLet st (LetStream.hear next.toNat)).letGaps st).letS st = _
    rw [letGaps_letS, onLet_letS_same, hr.stream]
    rfl
  have hrx : ((t.letMark st).letGaps st).get LET_STREAM_STATUS.RX_NEXT st = value.toNat := by
    rw [letGaps_rxNext _ st.isLt, letMark_get _ st.isLt (by decide) (by omega)]
    exact (letGaps_rxNext _ st.isLt).trans hr.rxNext
  have hsent : LetSent s ((t.letMark st).letGaps st) (restartAck st inst.toNat value.toNat) := by
    rw [LetSent, letGaps_sent, letMark_sent]
    exact hr.sent
  refine answers_of_exec hexec ?_
  rw [flushEvents_letS, flushEvents_letFields _ (by decide) st.isLt, hstream, ht]
  exact ⟨rfl, hrx, rfl, rfl, hsent.flushEvents⟩

/-! ### Losses (R325) -/

theorem letSendAck_get (s : State) {st : Nat} (hst : st < 256) {f : Field} (hf : LET_CNT.NAK_TX.disjoint f = true) {j : Nat} (hj : j < 8192)
    (hw : f.word < 8) : (s.letSendAck st).get f j = s.get f j := by
  unfold State.letSendAck
  split
  · exact letSend_get _ (s.letAck st) hst hf hj hw
  · rfl

/-- The run of a gap that a NAK has named, where the loss wait of the whole gap ends. -/
theorem letNamed_gap {s : State} {st : Nat} {g : LetGap} (hgaps : (s.letS st).gaps = [g]) (hnaked : g.naked = true) (hrun : g.first ≤ g.last) :
    s.letNamed st (·.naked) [(g.first, g.last)] = [(g.first, g.last)] := by
  simp [State.letNamed, hgaps, hnaked, meetRun, hrun, joinRuns, addRun]

/-- R323: a lost run at RX_NEXT is passed. -/
theorem letAdvance_lost {s : State} {st : Nat} {r : Nat × Nat} (hlost : (s.letS st).lost = [r])
    (hin : r.1 ≤ s.get LET_STREAM_STATUS.RX_NEXT st ∧ s.get LET_STREAM_STATUS.RX_NEXT st ≤ r.2) :
    s.letAdvance st = (s.onLet st (LetStream.passLost r)).set LET_STREAM_STATUS.RX_NEXT st (r.2 + 1) := by
  unfold State.letAdvance
  simp only [hlost, List.find?_cons, hin.1, hin.2, decide_true, Bool.and_self]
  rfl

/-- What follows a loss that has been passed: the marks, the gaps and an ACK that is due. -/
def State.letSettle (st : Nat) (s : State) : State := ((s.letMark st).letGaps st).letAckDue st

section

variable (s : State) {st : Nat} (hst : st < 256)
include hst

theorem letSettle_get {f : Field} (hdup : LET_CNT.DUP.disjoint f = true) (hwait : LET_STREAM_STATUS.WAITING.disjoint f = true)
    (hnak : LET_CNT.NAK_TX.disjoint f = true) (hw : f.word < 8) : (s.letSettle st).get f st = s.get f st := by
  rw [State.letSettle, State.letAckDue, when_keeps (State.get · f st) _ _ (fun s => s.letSendAck st) (letSendAck_get _ hst hnak (by omega) hw)]
  exact (get_set_disjoint ((s.letMark st).onLet st _) hwait (by omega) (by omega)).trans (letMark_get s hst hdup (by omega))

theorem Within.letSettle : Within [.LET_CNT, .LET_STREAM_STATUS] s (s.letSettle st) :=
  (((Within.letMark s hst).mono (by decide)).trans ((Within.letGaps _ hst).mono (by decide))).trans
    (.when _ ((Within.letSendAck _ hst).mono (by decide)))

end

/-- R325: a single run at RX_NEXT, with nothing held, is passed at once. -/
theorem letLost_one {s : State} {st : Nat} {r : Nat × Nat} (hheld : (s.letS st).held = []) (hlost : (s.letS st).lost = [])
    (hin : r.1 ≤ s.get LET_STREAM_STATUS.RX_NEXT st ∧ s.get LET_STREAM_STATUS.RX_NEXT st ≤ r.2) (hst : st < 256) : s.letLost st [r] =
      (((s.letLostRun st r).onLet st (LetStream.passLost r)).set LET_STREAM_STATUS.RX_NEXT st (r.2 + 1)
        ).letSettle st := by
  have hstream : (s.letLostRun st r).letS st = { s.letS st with lost := [r] } := by
    rw [State.letLostRun, onLet_letS_same, raise_letS, incWrap_letS, LetStream.noteLost, hlost, List.nil_append]
  have hrx : (s.letLostRun st r).get LET_STREAM_STATUS.RX_NEXT st = s.get LET_STREAM_STATUS.RX_NEXT st :=
    get_set_disjoint s (f := LET_CNT.LOSS) (by decide) (by omega) (by omega)
  have hsteps : ((s.letLostRun st r).letS st).held.length + ((s.letLostRun st r).letS st).lost.length = 1 := by rw [hstream, hheld]; rfl
  change (s.letLostRun st r).letAdvanceAll st = _
  rw [letAdvanceAll_eq, hsteps, ← letAdvance_lost (by rw [hstream]) (by rw [hrx]; exact hin)]
  rfl

/-- R325: LOSS_MS after the NAK of a run at RX_NEXT. -/
theorem answers_letLossExpiry {st : Fin 256} {s : State} {first last : BitVec 64} {g : LetGap} (hserves : s.letServes st = true)
    (hgaps : (s.letS st).gaps = [g]) (hnaked : g.naked = true) (hrx : g.first = s.get LET_STREAM_STATUS.RX_NEXT st) (hrun : g.first ≤ g.last)
    (hheld : (s.letS st).held = []) (hlost : (s.letS st).lost = []) (hfirst : first.toNat = g.first) (hlast : last.toNat = g.last)
    (hbound : g.last < 2 ^ 64 - 1) (hs : Settled s) : Answers (.letLossExpiry st first last) s fun u =>
      u.get LET_STREAM_STATUS.RX_NEXT st = g.last + 1
        ∧ u.get LET_CNT.LOSS st = (s.get LET_CNT.LOSS st + (g.last + 1 - g.first)) % 2 ^ LET_CNT.LOSS.width
        ∧ u.get EVT_SRC.STATUS (80 + st / 8) = 1 := by
  let r := (g.first, g.last)
  let lost := s.letLostRun st r
  let passed := (lost.onLet st (LetStream.passLost r)).set LET_STREAM_STATUS.RX_NEXT st (g.last + 1)
  have hexec : exec (.letLossExpiry st first last) s = finish (passed.letSettle st) := by
    rw [exec_letLossExpiry, if_pos hserves, hfirst, hlast, letNamed_gap hgaps hnaked hrun,
      letLost_one (r := r) hheld hlost ⟨hrx.le, hrx ▸ hrun⟩ st.isLt]
  have hrose : lost.get LET_CNT.LOSS st = (s.get LET_CNT.LOSS st + (g.last + 1 - g.first)) % 2 ^ LET_CNT.LOSS.width :=
    incWrap_get s LET_CNT.LOSS st _ (by decide)
  have hpassed : Within [.LET_CNT, .LET_STREAM_STATUS] lost passed := (Within.onLet _ lost st _).thenSet _ _ _ (by decide) (by omega)
  have hrest := hpassed.trans (.letSettle passed st.isLt)
  have hall : Within [.LET_CNT, .LET_STREAM_STATUS] s (passed.letSettle st) := by
    have hraise (t : State) : Within [.LET_CNT, .LET_STREAM_STATUS] t (t.raise (80 + st / 8) 2 st g.first g.last) := .raise t _ _ _ _ _ (by omega)
    exact (((Within.incWrap s LET_CNT.LOSS st _ (by decide) (by omega)).trans (hraise _)).trans (.onLet _ _ _ _)).trans hrest
  have hevent : ∃ e ∈ (passed.letSettle st).evt.raised, e.source = 80 + st / 8 :=
    ⟨_, hrest.raised _ (List.mem_append_right _ (List.mem_singleton_self _)), rfl⟩
  refine answers_of_exec hexec ⟨?_, ?_, flushEvents_get_status _ (hall.source_lt hs) _ hevent⟩
  · rw [flushEvents_letFields _ (by decide) st.isLt, letSettle_get _ st.isLt (by decide) (by decide) (by decide) (by decide)]
    exact get_set_eq _ (by decide) (by change g.last + 1 < 2 ^ 64; omega)
  · rw [flushEvents_get_early _ _ _ (by decide) (by omega), letSettle_get _ st.isLt (by decide) (by decide) (by decide) (by decide)]
    exact (get_set_disjoint (lost.onLet st _) (by decide) (by omega) (by omega)).trans hrose

/-! ### Streams that take no part -/

/-- The timers of a let stream, its losses and its replay. -/
def letTimers (st : Fin 256) (value next : BitVec 64) : List Instr :=
  [.letAckTimer st, .letHelloTimer st, .letSkewExpiry st value, .letNakRepeat st, .letLossExpiry st value next, .letAckTimeout st,
    .letReplaySend st]

/-- Where the stream does not take part they change nothing. -/
theorem ends_letTimers_idle {st : Fin 256} {value next : BitVec 64} {s : State} (h : s.letServes st = false) :
    ∀ c ∈ letTimers st value next, Ends c s s := by
  simp only [letTimers, List.mem_cons, List.not_mem_nil, or_false]
  rintro c (rfl | rfl | rfl | rfl | rfl | rfl | rfl)
  · exact ends_of_exec exec_letAckTimer (by rw [h]; rfl)
  · exact ends_of_exec exec_letHelloTimer (by rw [h]; rfl)
  · exact ends_of_exec exec_letSkewExpiry (by rw [h]; rfl)
  · exact ends_of_exec exec_letNakRepeat (by rw [h]; rfl)
  · exact ends_of_exec exec_letLossExpiry (by rw [h]; rfl)
  · exact ends_of_exec (exec_letAckTimeout st s) (by rw [h]; rfl)
  · exact ends_of_exec (exec_letReplaySend_idle (.inl h)) rfl

end Sys2Proof.Machine

namespace Sys2Proof

open Machine

/-- Settles O39: acknowledgements, HELLOs, gaps and losses, replay and the end of a let stream, by whether it takes part. -/
theorem letStreamsAcknowledgeAndReplay : Obligations.LetStreamsAcknowledgeAndReplay := by
  unfold Obligations.LetStreamsAcknowledgeAndReplay
  intro st sc port inst value next ranges s
  refine ⟨fun hvia hown => ⟨?ack, fun hlen => ?nak⟩, fun h => ⟨ends_letAckRx_refused h, ends_letNakRx_refused h⟩,
    fun h => ends_letHelloRx_refused h, fun hvia hl hlen => ⟨fun hpeer => answers_letHelloRx_new hvia hl hlen hpeer,
      fun hpeer => answers_letHelloRx_known hvia hlen hpeer⟩, fun h => ends_letTimers_idle h, fun hserves hl => ?serves,
    fun hfull => ends_of_exec rfl (if_pos hfull), fun hroom => ends_of_exec rfl (if_neg (Bool.eq_false_iff.mp hroom)), fun h => ?undrained,
    fun hstop hstep => answers_letShutdownDrainEnd hstop hstep, fun hstop hstep => ?quiet, fun h => ?running⟩
  case ack =>
    obtain ⟨u, hexec, hacked⟩ := answers_letAckRx hvia hown
    exact ⟨u, hexec, hacked.cum, hacked.linked, hacked.records⟩
  case nak =>
    obtain ⟨u, hexec, hacked, hnamed⟩ := answers_letNakRx hvia hown hlen
    exact ⟨u, hexec, ⟨hacked.cum, hacked.linked, hacked.records⟩, hnamed⟩
  case serves =>
    refine ⟨fun hpeer => answers_letAckTimer hserves hl hpeer, answers_letHelloTimer hserves hl, fun g hgaps hpeer =>
      ⟨fun hlo hhi hskew => answers_letSkewExpiry hserves hl hgaps ⟨hlo, hhi⟩ hskew hpeer,
        fun hskew => answers_letNakRepeat hserves hl hgaps hskew hpeer,
        fun hnaked hrx hrun hheld hlost hfirst hlast hbound hs =>
          answers_letLossExpiry hserves hgaps hnaked hrx hrun hheld hlost hfirst hlast hbound hs⟩,
      fun hmode hretain hcum hup => answers_letAckTimeout hserves hl hmode hretain hcum hup,
      fun hready => ends_of_exec (exec_letReplaySend_idle (.inr hready)) rfl,
      fun y hports hready hmode hy => answers_letReplaySend hserves hl hports hready hmode hy⟩
  case undrained => exact ends_of_exec (exec_letShutdownDrainEnd st s) (if_neg (by simp; omega))
  case quiet =>
    obtain ⟨u, hexec, hoff⟩ := answers_letShutdownQuiet hstop hstep
    exact ⟨u, hexec, hoff.state, hoff.service⟩
  case running => exact ends_of_exec (exec_letShutdownQuiet st s) (if_neg (by simp; omega))

end Sys2Proof
end
